-- ==== Sys2Proof/Word.lean ====
section
/-!
DEFINITION. The plainest types of the block: words of the engines, the roles, paths, life-cycle states and
start-up states, and the units of time (R11, R15, R16, R379, R499).
-/
set_option Elab.async false

namespace Sys2Proof

/-- A byte of a memory. -/
abbrev Byte := BitVec 8

/-- A register of a time engine (R334). -/
abbrev Word32 := BitVec 32

/-- A register of a servo core (R334). -/
abbrev Word64 := BitVec 64

/-- The roles of R15, with `none` for an access without a role (R406). -/
inductive Role where
  | none | maker | owner | keeper | host | field | peer | manager
deriving DecidableEq, Repr

/-- The role codes of R379; 0x00 stands for no role (R420). -/
def Role.code : Role → Nat
  | .none => 0
  | .maker => 1
  | .owner => 2
  | .keeper => 3
  | .host => 4
  | .field => 5
  | .peer => 6
  | .manager => 7

/-- The role of a code of R379; codes outside the table give no role. -/
def Role.ofCode (n : Nat) : Role :=
  match n with
  | 1 => .maker
  | 2 => .owner
  | 3 => .keeper
  | 4 => .host
  | 5 => .field
  | 6 => .peer
  | 7 => .manager
  | _ => .none

/-- The access paths, as the PATH field of an audit record names them (R420). -/
inductive Path where
  | pcie | msp | canA | canB | esxia | jtag | peer | firmware
deriving DecidableEq, Repr

/-- The path codes of R420. -/
def Path.code : Path → Nat
  | .pcie => 1
  | .msp => 2
  | .canA => 3
  | .canB => 4
  | .esxia => 5
  | .jtag => 6
  | .peer => 7
  | .firmware => 8

/-- The CAN controller c of R433 as a path. -/
def Path.can (c : Nat) : Path := if c = 0 then .canA else .canB

/-- The life-cycle states of R16. -/
inductive LifeCycle where
  | blank | maker | owned | field | debug | retired
deriving DecidableEq, Repr

/-- LC_STATE's codes (R404). -/
def LifeCycle.code : LifeCycle → Nat
  | .blank => 0
  | .maker => 1
  | .owned => 2
  | .field => 3
  | .debug => 4
  | .retired => 5

/-- The start-up states of R499. -/
inductive StartState where
  | powered | boot | warming | acquiring | locked
deriving DecidableEq, Repr

/-- STARTUP_STATE's codes (R499). -/
def StartState.code : StartState → Nat
  | .powered => 0
  | .boot => 1
  | .warming => 2
  | .acquiring => 3
  | .locked => 4

/-- One nanosecond in the unit of the long count, 2⁻¹⁶ ns (R11, R43). -/
def nsUnits : Nat := 65536

/-- One second in the unit of the long count, 2⁻¹⁶ ns. -/
def secUnits : Nat := 65536000000000

/-- The GIRTH32 value that means unbounded or unknown (R12). -/
def girthUnknown : Nat := 0xFFFFFFFF

/-- All ones in `n` bits. -/
def ones (n : Nat) : Nat := 2 ^ n - 1

end Sys2Proof
end

