-- ==== Sys2Proof/Syntax.lean ====
section
/-!
DEFINITION. The commands the block takes, one constructor per row of the opcode table, and the records they carry.
A command that its rule times carries the long count at which it happens (`now`), in units of 2⁻¹⁶ ns; a command that
carries a message, a frame or a measurement carries what the rule reads of it.
-/
set_option Elab.async false
namespace Sys2Proof

/-- A hop of a trace record (R218). -/
structure Hop where
  clockId : Nat
  contrib : Nat
  src : Nat
  hflags : Nat
  hql : Nat
deriving DecidableEq, Repr

/-- A claim from upstream (R216, R222). -/
structure Claim where
  girth : Nat
  growth : Nat
  hops : List Hop
  auth : Bool
  /-- Long count of receipt. -/
  rx : Nat
deriving DecidableEq, Repr

/-- A girth block (R222); NHOPS is the number of its hops. -/
structure GirthBlock where
  girth : Nat
  gflags : Nat
  growth : Nat
  hops : List Hop
deriving DecidableEq, Repr

/-- A TLV of PTP laid out as R223 lays out a girth TLV: tlvType, lengthField, organizationId as three octets with the first highest,
organizationSubType, and the block. -/
structure GirthTlv where
  tlvType : Nat
  len : Nat
  org : Nat
  sub : Nat
  block : GirthBlock
deriving DecidableEq, Repr

/-- What the yard reads of a frame (R270, R273, R274, R284). Addresses hold their first octet lowest, as OCTETS do (R11). -/
structure Frame where
  /-- Ingress port (first lane), and length in bytes. -/
  port : Nat
  len : Nat
  dst : Nat
  src : Nat
  /-- VLAN tag: VID and PCP; none if untagged. -/
  tag : Option (Nat × Nat)
  etherType : Nat
  /-- IP version (0 none, 4, 6), destination address, protocol, DSCP, ECN, UDP or TCP destination port. -/
  ipv : Nat
  ipDst : Nat
  ipProto : Nat
  dscp : Nat
  ecn : Nat
  dport : Nat
  /-- messageType and domainNumber of a PTP message (R274, R292): 0 in any other frame. -/
  mtype : Nat
  domain : Nat
  /-- It is an ESMC PDU; a PAUSE or PFC frame; an ARP, ND, or echo request. In an ARP frame `ipDst` is the address it asks for. -/
  esmc : Bool
  pause : Bool
  request : Bool
  esxia : Bool
  /-- FCS good at ingress; link lost before the tail (R281). -/
  fcsOk : Bool
  truncated : Bool
  /-- The lane's receive queue, or the stamp queue, was full (R33). -/
  overflow : Bool
  stampLost : Bool
  /-- Codewords corrected, and not correctable, since the frame before (R253). -/
  fecCorr : Nat
  fecUncorr : Nat
  /-- Time-base instant T_w of the boundary of the PMA word that holds the stamped bit, unit 0.25 ps (R257), and the position in the PMA
  word of the start marker, or under FEC of the bit that the block or codeword locates (R256). -/
  tw : Nat
  mark : Nat
  /-- Physical lane of the stamped bit (R256). -/
  lane : Nat
  /-- correctionField, 2⁻¹⁶ ns, and UDP checksum as carried (R303). -/
  correction : Int
  udpSum : Nat
  /-- Number of a calibration frame (R263). -/
  cal : Option Nat
  /-- A name for the payload, so that copies can be told apart. -/
  payload : Nat
deriving DecidableEq, Repr

/-- A PTP dataset as PTP_PARENT_DS lists it (R310). -/
structure PtpDs where
  gm : Nat
  cls : Nat
  acc : Nat
  var : Nat
  prio1 : Nat
  prio2 : Nat
  steps : Nat
deriving DecidableEq, Repr

/-- An envelope of R431 as it reaches SEAL_REQ or the mailbox: its header, the verdict of its tag, and the request body. -/
structure Envelope where
  session : Nat
  dir : Nat
  seq : Nat
  /-- The GCM tag verifies under the session's key (R431). -/
  tagOk : Bool
  op : Nat
  idx : Nat
  sub : Nat
  len : Nat
  value : Nat
deriving DecidableEq, Repr

/-- What a tracking channel shows at an epoch edge (R192, R197). -/
structure TrkObs where
  ch : Nat
  state : Nat
  tflags : Nat
  txt : Nat
  carr : Int
  doppler : Int
  cn0 : Nat
  lock : Nat
deriving DecidableEq, Repr

/-- What an entry of a measurement record needs from its satellite's ephemeris and the standard models for the solution (R203). -/
structure GnObs where
  /-- Tracking channel of the entry. -/
  ch : Nat
  /-- Start of the week that TXT counts from, in seconds of the system's time. -/
  week : Int
  /-- Modelled delay from transmission to reception at the point of linearisation, 2⁻¹⁶ ns: the geometric range, less satellite clock
  and group delay, and the troposphere; and that of the ionosphere by the broadcast model. -/
  prop : Int
  iono : Int
  /-- Direction to the satellite in ECEF, unit 2⁻³⁰; elevation in degrees; sin² of it, unit 2⁻¹⁶. -/
  los : Int × Int × Int
  elev : Int
  sin2 : Nat
  /-- Code-noise variance at the entry's C/N₀ and spacing, (2⁻¹⁶ ns)². -/
  var : Nat
deriving DecidableEq, Repr

/-- What the engines bring to the solution of an epoch (R203): the entries' models, and the ECEF point of linearisation, mm. -/
structure GnSol where
  obs : List GnObs
  lin : Int × Int × Int
deriving DecidableEq, Repr

/-- What an OSNMA element of a navigation unit proves to be (R200). -/
inductive Osnma where
  | none | krootOk | krootBad | keyDisclosed | tag0Ok | tag4Ok | tag12Ok | tagBad
  | newKey (key : Nat)
deriving DecidableEq, Repr

/-- A decoded navigation data unit (R199), with what its content gives. -/
structure NavUnit where
  nflags : Nat
  nbits : Nat
  checkMask : Nat
  bits : Nat
  /-- Long count at which the leading edge of the first bit arrived. -/
  rxt : Nat
  /-- It completes an ephemeris with its clock data; the issue of data it names. -/
  eph : Bool
  iod : Option Nat
  /-- Predicted elevation in degrees and predicted Doppler in mHz from almanac data. -/
  elev : Option (Nat × Int)
  /-- Leap-second fields: UTC offset, LEAP_PENDING, LEAP_TAI. -/
  leap : Option (Int × Nat × Nat)
  /-- A broadcast inter-system offset: system (1 Galileo, 2 BeiDou) and its time less GPS time, 2⁻¹⁶ ns (R204). -/
  bcast : Option (Nat × Int)
  osnma : Osnma
deriving DecidableEq, Repr

/-- An AUTHENTICATION TLV as R308 judges it: it is the last TLV; it shows a sequenceNo, RES or disclosedKey field; its
securityParameterPointer and keyID; and its ICV matches under the verify slot of that key. -/
structure PtpTlv where
  last : Bool
  extra : Bool
  spp : Nat
  keyId : Nat
  icvOk : Bool
deriving DecidableEq, Repr

/-- A PTP message as the service reads it. Identities are numbers with their first octet highest, as IEEE 1588 compares
them. -/
structure PtpMsg where
  /-- sourcePortIdentity, its protocol address (0 for multicast), sequenceId and twoStepFlag. -/
  sender : Nat
  addr : Nat
  seq : Nat
  twoStep : Bool
  /-- correctionField, 2⁻¹⁶ ns. -/
  correction : Int
  /-- The timestamp it carries, 2⁻¹⁶ ns, and the requestingPortIdentity. -/
  origin : Int
  target : Nat
  /-- In an Announce: currentUtcOffset, currentUtcOffsetValid, and 0x01 for leap61 or 0x02 for leap59 (R63, R64). -/
  utcOffset : Int
  utcValid : Bool
  leap : Nat
  /-- Its AUTHENTICATION TLV, and its TLV of an organization. -/
  tlv : Option PtpTlv
  girth : Option GirthTlv
deriving DecidableEq, Repr

/-- The NTS extension fields of a request (R316, R317, R322): body lengths of its Unique Identifier, Cookie and Placeholder
fields, and what else decides its fate. -/
structure NtsFields where
  uids : List Nat
  cookies : List Nat
  placeholders : List Nat
  /-- An unknown field marked critical; a known field in a position not allowed; the Authenticator is present and last. -/
  critical : Bool
  misplaced : Bool
  authLast : Bool
  nonce : Nat
  /-- The encrypted part holds no fields; number of extension fields in all. -/
  encEmpty : Bool
  total : Nat
  /-- KEY_ID of the cookie; it decrypts under its block; the AEAD it names; the request authenticates. -/
  keyId : Nat
  cookieOk : Bool
  aead : Nat
  authOk : Bool
deriving DecidableEq, Repr

/-- An extension field of an NTP request that is none of NTS's: Field Type, Length, and a body of zeros (R224, R316). -/
structure EfField where
  ftype : Nat
  len : Nat
  zero : Bool
deriving DecidableEq, Repr

/-- An NTP request as the fast path reads it (R312–R325). -/
structure NtpReq where
  /-- HOST_ADDR entry of its destination, ingress port, version, mode and UDP payload length. -/
  host : Nat
  port : Nat
  version : Nat
  mode : Nat
  len : Nat
  /-- Extension fields parse (RFC 7822); a legacy MAC trailer is present. -/
  parses : Bool
  mac : Bool
  /-- Source family (4 or 6) and address, first octet highest. -/
  family : Nat
  src : Nat
  poll : Int
  transmit : Nat
  /-- Its extension fields that are none of NTS's (R224, R316). -/
  fields : List EfField
  nts : Option NtsFields
deriving DecidableEq, Repr

/-- How an access reaches the dictionary agent (R406–R411, R429–R440), with what only its sender and the cryptography know. -/
structure Acc where
  path : Path
  /-- The session it is sealed under; none for a plain access. -/
  session : Option Nat
  /-- It came in a plain envelope (R431). -/
  env : Bool
  /-- Esxia source, address and port as one number (R440). -/
  src : Nat
  /-- On Esxia, the HOST_ADDR entry and the port (first lane) it came to (R440). -/
  host : Nat
  port : Nat
  /-- Length of the value as sent. -/
  len : Nat
  /-- Requests in the agent's queue when it arrives (R429). -/
  queued : Nat
  /-- Long count of its decision. -/
  now : Nat
  /-- The role that a one-shot credential would prove, and whether the credential, proof or token it carries verifies. -/
  role : Role
  proof : Bool
  /-- What becomes of the work that it starts: 0 for success; the other values are those of the operation. -/
  outcome : Nat
deriving DecidableEq, Repr

/-- A unicast grant as a snapshot carries it (R459): a delta marks those that ended. -/
structure SnapGrant where
  inst : Nat
  addr : Nat
  portId : Nat
  mtype : Nat
  logPeriod : Int
  /-- Expiry in TAI seconds, and the last sequenceId sent. -/
  expiry : Nat
  seq : Nat
  ended : Bool
deriving DecidableEq, Repr

/-- A key blob as a snapshot carries it (R461): slot, attributes, what it unwraps to, and whether it unwraps. -/
structure SnapKey where
  slot : Nat
  alg : Nat
  use : Nat
  role : Nat
  kcv : Nat
  key : Nat
  good : Bool
deriving DecidableEq, Repr

/-- A snapshot section (R459). -/
structure SnapSection where
  stype : Nat
  epoch : Nat
  len : Nat
  /-- The content as one number, over which the trailer's digest runs. -/
  content : Nat
  grants : List SnapGrant
  /-- Port, kind (0 Announce, 1 Sync, 2 Delay_Req, 3 Pdelay_Req) and sequenceId. -/
  seqs : List (Nat × Nat × Nat)
  keys : List SnapKey
  /-- The configuration digest, in section 0x04. -/
  config : Option Nat
deriving DecidableEq, Repr

/-- The commands of the opcode table. -/
inductive Instr where
  /-- CLOCK_LOSS_OF_LOCK (R24): A lock detector or clock monitor flags loss of lock of CPLL, EPLL, MPLL or SPLL; the group moves to the 25 MHz safe clock and an F2 fault is raised. -/
  | clockLossOfLock (now loop : Nat)
  /-- TB_APLL_LOSS_OF_LOCK (R25): The time-base APLL loses lock; the time base moves to the coarse count from the oscillator or the safe clock, and stamps are degraded. -/
  | tbApllLossOfLock (now : Nat) (oscToo : Bool)
  /-- XO_STOP (R26): XO stops; the AON monitor selects the backup oscillator, an F3 fault is raised and the halter is released. -/
  | xoStop (now : Nat)
  /-- LOCK_CONFIRMED (R27): A relocking loop's lock detector has held for 1,024 XO cycles; the group's multiplexer returns to the loop without runts. -/
  | lockConfirmed (now loop : Nat)
  /-- PLL_RELOCK_CPLL (R29): A write of 0x01 to PLL_RELOCK commands a divider change and relock of CPLL. -/
  | pllRelockCpll (a : Acc)
  /-- PLL_RELOCK_EPLL (R29): A write of 0x02 to PLL_RELOCK commands a divider change and relock of EPLL. -/
  | pllRelockEpll (a : Acc)
  /-- SYS_RESET (R39): A write of 0x5A to SYS_RESET starts a system reset of all groups except AON and the timing core. -/
  | sysReset (a : Acc)
  /-- SYSTEM_RESET_ENGINES_RETURN (R542): The engines return after a system reset; references restart in ABSENT, and the servo resumes in HOLDOVER or FREE according to the lock latch. -/
  | systemResetEnginesReturn (now : Nat) (fall calOk : Bool) (bad : List Nat) (still : List (Nat × Nat))
  /-- PORESET_N_LOW (R501): PORESET_N is driven low or power is applied; a power-on reset is held with drivers at high impedance. -/
  | poresetNLow (powerUp : Bool)
  /-- POWER_ON_RESET_RELEASE (R502): PORESET_N rises; fuses are sensed, loops lock, the firmware bundle loads, calibration is read, keys are unsealed and the store is applied. -/
  | powerOnResetRelease (now : Nat) (fall calOk : Bool) (bad : List Nat)
  /-- DRAM_TRAINING_DONE (R507): DRAM training completes or fails twice; DRAM_STATUS is set and the DRAM wipes that were due are carried out. -/
  | dramTrainingDone (now : Nat) (ok : Bool)
  /-- DQS_TRACKING (R507): Every 100 ms the DRAM controller runs DQS tracking without stalling accesses. -/
  | dqsTracking (now : Nat)
  /-- PADDOCK_WIPE_DONE (R510): The background wipe of the DRAM paddock region completes, and TACK_LOAD and BAR4 become usable. -/
  | paddockWipeDone (now : Nat)
  /-- STARTUP_WARM_MAX_EXPIRE (R500): STARTUP_WARM_MAX elapses in WARMING; the part moves to ACQUIRING and raises 0x1504. -/
  | startupWarmMaxExpire (now : Nat)
  /-- ANCHOR_LATCH (R50): In the TB cycle in which the seconds field increments, an anchor is latched into ANCHOR_RING and delivered to the engines. -/
  | anchorLatch (past : Nat)
  /-- TIME_SET (R47): A write of TIME_SET schedules a step to the written time at the next second boundary, replacing any earlier pending TIME_SET. -/
  | timeSet (a : Acc) (v : Nat)
  /-- UTC_OFFSET_MODE_WRITE (R64): A write that changes UTC_OFFSET_MODE sets UTC_OFFSET_VALID to 0 at once. -/
  | utcOffsetModeWrite (a : Acc) (v : Nat)
  /-- SELECTOR_TICK (R86): Once per millisecond the selector decides the target reference and starts a switch or holdover when it changes. -/
  | selectorTick (now : Nat)
  /-- REF_EVALUATION (R82): Once per second every reference's frequency estimate, trend and checks are evaluated and qualification transitions are made. -/
  | refEvaluation (now : Nat)
  /-- REF_LOSS_OF_SIGNAL (R81): A reference meets its loss-of-signal condition and becomes ABSENT at once. -/
  | refLossOfSignal (now n : Nat)
  /-- TOD_SENTENCE_RX (R73): A complete ToD sentence is received on TOD_RX0 or TOD_RX1, checked against its window and used for QL and seconds. -/
  | todSentenceRx (now k since : Nat) (own : Bool) (tai : Option Nat) (leap : Nat) (off : Int) (ql girth flags : Nat)
  /-- TOD_SENTENCE_TIMEOUT (R75): No valid ToD sentence has arrived for 3 s, so the reference's received QL becomes DNU. -/
  | todSentenceTimeout (k : Nat)
  /-- ESMC_PDU_RX (R76): An ESMC or enhanced ESMC PDU is received on SE_LANE's port and mapped to a received QL. -/
  | esmcPduRx (lane ssm : Nat) (essm : Option Nat)
  /-- ESMC_RX_TIMEOUT (R75): No ESMC PDU has arrived for 5 s, so the reference's received QL becomes DNU. -/
  | esmcRxTimeout (k : Nat)
  /-- FORCE_PIN_CHANGE (R90): A synchronised change of REF_FORCE_EN or REF_FORCE[2:0] restarts the debounce. -/
  | forcePinChange (pins : Nat)
  /-- FORCE_PIN_LATCH (R90): The pins have held for FORCE_DEBOUNCE; the latched value replaces the previous one and an F0 record is written. -/
  | forcePinLatch (now : Nat)
  /-- SOAK_TIME_WRITE (R92): A write that changes SOAK_TIME restarts every soak in progress on that reference. -/
  | soakTimeWrite (a : Acc) (n v : Nat)
  /-- TIU_EDGE (R96): A prescaled edge on a TIU channel is stamped into a 16-byte record, or lost to dead time or FIFO overflow. -/
  | tiuEdge (now c bin : Nat)
  /-- TIU_GATE_ESTIMATE (R101): A CH_GATE window ends and the channel's gate estimate is computed. -/
  | tiuGateEstimate (now c : Nat)
  /-- TIU_CHANNEL_RECONFIG (R108): A write of CH_DIV, CH_EDGE or CH_ENABLE restarts the channel's EDGE at 0 and invalidates its windows. -/
  | tiuChannelReconfig (a : Acc) (c sub v : Nat)
  /-- SERVO_MEASUREMENT (R112): A processed phase measurement of the selected reference updates the PI filter and the control value. -/
  | servoMeasurement (now n : Nat) (p : Int) (status t : Nat)
  /-- BUILD_OUT_TIMEOUT (R121): No target measurement has arrived within 1 s of the switch tick, so the build-out ends on the last earlier measurement or as ABSENT. -/
  | buildOutTimeout (now : Nat)
  /-- ACCUM_CONTROL (R109): A control command delivers u to the hardware phase accumulator, which applies it at the next TB cycle. -/
  | accumControl (now : Nat) (u : Int)
  /-- ACCUM_SLEW (R110): A slew command replaces any previous slew, adding a rate to the phase until its amount is consumed. -/
  | accumSlew (now : Nat) (amount : Int) (rate : Nat)
  /-- ACCUM_STEP (R110): A step command is queued for the next second boundary and cancels a slew at that boundary. -/
  | accumStep (ns : Int)
  /-- SLEW_COMPLETE (R122): The accumulator consumes the slew amount, φ_b reaches 0 and ALIGN ends. -/
  | slewComplete (now : Nat)
  /-- FREQ_RAMP_END (R121): The ramp of u to its new value ends, and its integrated phase is added to φ_b and the slew. -/
  | freqRampEnd (now : Nat)
  /-- SERVO_RESTART (R120): The loader has restored SC0 and the servo resumes with i equal to the last applied u, in HOLDOVER or BUILD_OUT. -/
  | servoRestart (now : Nat)
  /-- SLOPE_LIMIT_TIMEOUT (R125): The loop has stayed at its slope limit for 600 s, and an F1 fault is raised. -/
  | slopeLimitTimeout (now : Nat)
  /-- HO_LEARN_FIT (R133): Every 3,600 anchors after WARM_FLAG rises, the holdover model is fitted to learnable entries. -/
  | hoLearnFit
  /-- OVEN_SAMPLE (R145): At 1 kHz the supervisor samples OVEN_SENSE and checks it for a sensor fault. -/
  | ovenSample (code : Nat) (pin : Bool)
  /-- OVEN_LOOP_STEP (R145): At 100 Hz the oven PID loop computes a new heater duty from 10 averaged samples. -/
  | ovenLoopStep
  /-- WARM_FLAG_RISE (R150): The temperature and slope conditions have held for 60 s, and WARM_FLAG rises. -/
  | warmFlagRise (now : Nat)
  /-- WARM_FLAG_FALL (R150): The oven or warm pin has been away from its warm condition for 10 s, and WARM_FLAG falls. -/
  | warmFlagFall (now : Nat)
  /-- ATOMIC_STEER_SEND (R143): Once per second the steering step is computed and a $GLSTR sentence with ATOMIC_ADJ is sent. -/
  | atomicSteerSend
  /-- ATOMIC_REPLY_RX (R143): A $GLSTS reply is received, checked and reflected in ATOMIC_STATE. -/
  | atomicReplyRx (ok : Bool) (seq st : Nat)
  /-- ATOMIC_SILENT_TIMEOUT (R143): No valid steering reply or relay status for 3 s; ATOMIC_STATE reads silent. -/
  | atomicSilentTimeout
  /-- ATOMIC_RELAY_TX (R142): A write of ATOMIC_RELAY_TX sends the bytes on ATOMIC_STEER in dialect 0x02. -/
  | atomicRelayTx (a : Acc) (v : Nat)
  /-- ATOMIC_RELAY_STATUS (R142): A write of ATOMIC_RELAY_STATUS sets the atomic steering status in dialect 0x02. -/
  | atomicRelayStatus (a : Acc) (v : Nat)
  /-- SYNTH_COMMIT (R157): A write of an APLL mask to SYNTH_COMMIT schedules the commit of the named shadows at a second boundary. -/
  | synthCommit (a : Acc) (mask : Nat)
  /-- SYNTH_COMMIT_APPLY (R158): At the scheduled boundary the shadows load, outputs stop, and changed APLLs relock. -/
  | synthCommitApply (now : Nat)
  /-- OUTPUT_APLL_LOSS (R163): An output APLL loses lock; F2 is raised and the APLL relocks with R162 applied to its outputs. -/
  | outputApllLoss (now a : Nat)
  /-- OUTPUT_START (R159): An output whose start condition holds reaches a start point and begins with a complete high phase. -/
  | outputStart (now n : Nat)
  /-- OUTPUT_STOP (R159): An output required to stop does so at the end of its current high phase and goes to its idle level. -/
  | outputStop (now n : Nat)
  /-- OUTPUT_ALIGN_CHECK (R170): Once per second each aligned output's error a is evaluated and corrected by a step or slew. -/
  | outputAlignCheck (now n : Nat)
  /-- LOOPBACK_TIMEOUT (R170): An output's loopback has delivered no valid record for 10 s; a is taken from the commanded placement and its girth is unbounded. -/
  | loopbackTimeout (n : Nat)
  /-- TOD_SENTENCE_TX (R174): TOD_TXu_DELAY after the source edge, a ToD sentence naming the next edge is sent. -/
  | todSentenceTx (now u : Nat)
  /-- GIF_ALIGN (R184): GIFk_CLK rises after being absent for 32 GNSS_CLK cycles, and sample words are aligned and shifted by GIF_SLIP. -/
  | gifAlign (k : Nat)
  /-- GIF_LOST (R184): GIFk_CLK has had no edge for 16 GNSS_CLK cycles; the input is lost and an F0 record is written. -/
  | gifLost (k : Nat)
  /-- GIF_CONFIG_WRITE (R209): A write of GIF_RATE_DIV, GIF_CODE, GIF_SLIP, GIF_LO_HZ or GIF_INVERT realigns the input and idles its channels. -/
  | gifConfigWrite (a : Acc) (k sub v : Nat)
  /-- NOTCH_UPDATE (R186): Every 10 ms a 256-bin spectrum is computed and notches are placed or released. -/
  | notchUpdate (k : Nat) (lines : List (Int × Nat)) (full : List Nat)
  /-- JAM_IND_UPDATE (R187): Every 100 ms the jamming indicator is computed and GN0's DNU state is judged. -/
  | jamIndUpdate (k : Nat) (power : Int) (flat : Nat)
  /-- ACQ_STATISTIC (R190): A search engine tests one cell and, on a hit, verifies it and hands the signal to a free tracking channel. -/
  | acqStatistic (now e stat : Nat)
  /-- PULL_IN_TIMEOUT (R190): A handed-over signal has not reached CODE_LOCK within 1 s and returns to the target list. -/
  | pullInTimeout (ch : Nat)
  /-- TRACK_CHANNEL_LOST (R194): A channel's C/N₀ stays below GN_CN0_DROP for 1 s or its code loop loses lock, and the channel returns to IDLE. -/
  | trackChannelLost (now ch : Nat)
  /-- GNSS_EPOCH (R196): The epoch strobe reaches the GNSS group; channel measurements are latched and the edge is routed to TIU channel 0x1C. -/
  | gnssEpoch (now bin : Nat) (obs : List TrkObs)
  /-- GNSS_MEAS_RECORD (R198): The engines join a measurement record with its TIU record and run the time solution. -/
  | gnssMeasRecord (now : Nat) (sol : Option GnSol)
  /-- NAV_BIT_RECORD (R199): A navigation channel delivers a decoded data unit that is used for ephemerides, time and OSNMA. -/
  | navBitRecord (now ch : Nat) (u : NavUnit)
  /-- GN_ENABLE_WRITE (R198): A write of GN_ENABLE = 1 restarts EPOCH_SEQ and EDGE of channel 0x1C together. -/
  | gnEnableWrite (a : Acc) (v : Nat)
  /-- GN_SURVEY_RESTART (R202): A write of 0x5A to GN_SURVEY_RESTART restarts the position survey. -/
  | gnSurveyRestart (a : Acc)
  /-- SURVEY_COMPLETE (R202): GN_SURVEY_TIME seconds of valid epochs have been averaged, and the position is held. -/
  | surveyComplete
  /-- GN_POS_CHECK (R202): Once per second in a hold mode, a dynamic position is compared with the held one. -/
  | gnPosCheck
  /-- GIRTH_TERM_TIMEOUT (R213): A girth term's input has been unavailable for 10 s, so the term and G become 0xFFFFFFFF. -/
  | girthTermTimeout (now k : Nat)
  /-- GIRTH_LIMIT_WRITE (R230): A write that lowers GIRTH_LIMIT below G deasserts TIME_VALID when it reaches the TB group. -/
  | girthLimitWrite (a : Acc) (v : Nat)
  /-- QUAD_APPLY (R235): A write of 0x5A to QUAD_APPLY applies the shadowed mode and FEC with a port reset and a transmit PLL relock. -/
  | quadApply (a : Acc) (q : Nat)
  /-- QREF_LOSS (R234): A quad's reference clock is lost, and every port of the quad goes down. -/
  | qrefLoss (now q : Nat)
  /-- LINK_BRING_UP (R243): Signal detect starts bring-up: auto-negotiation, CTLE sweep and training as LANE_TRAIN selects. -/
  | linkBringUp (now l stage : Nat) (scans : List (Nat × Nat)) (pre main post : Int)
  /-- TRAINING_TIMEOUT (R243): Training has not completed in 500 ms; bring-up restarts and LANE_TRAIN_FAILS increments. -/
  | trainingTimeout (now l : Nat)
  /-- LINK_UP (R243): Bring-up completes and LANE_STATE reads 0x05; alignment and blocking begin. -/
  | linkUp (now l : Nat)
  /-- LINK_LOSS (R283): A lane's link is lost; the port enters HOLDING and a retrain starts. -/
  | linkLoss (now l : Nat)
  /-- BLOCK_LOCK_LOSS_TIMEOUT (R245): Block or alignment-marker lock has been lost for 1 ms, and a retrain starts. -/
  | blockLockLossTimeout (now l : Nat)
  /-- LANE_RETRAIN (R245): A write of 0x5A to LANE_RETRAIN takes the link down and brings it up again. -/
  | laneRetrain (a : Acc) (l : Nat)
  /-- LANE_DISABLE (R253): LANE_ENABLE written 0 powers the lane down with a port reset and flushes its queues. -/
  | laneDisable (a : Acc) (l : Nat)
  /-- EYE_SCAN (R241): Every 10 ms the eye monitor scans the eye and updates LANE_FOM. -/
  | eyeScan (l v w : Nat)
  /-- FOM_WARN_TIMEOUT (R242): FoM has stayed below LANE_FOM_WARN for 1 s, and one F0 record is written. -/
  | fomWarnTimeout (now l : Nat)
  /-- FOM_MIN_TIMEOUT (R242): FoM has stayed below LANE_FOM_MIN for 1 s, and a retrain starts. -/
  | fomMinTimeout (now l : Nat)
  /-- CTLE_ADAPT (R238): In continuous mode, every 100 ms the CTLE moves one code if a neighbour scores better, and the change is reported to the stamp unit. -/
  | ctleAdapt (now l vlo wlo vhi whi : Nat)
  /-- LPI_TX_SLEEP (R246): A lane's egress queues have been empty for LANE_LPI_IDLE, and its transmit direction sleeps. -/
  | lpiTxSleep (l : Nat)
  /-- LPI_RX_SIGNAL (R248): The partner signals LPI on a receive direction, which sleeps, or is counted as unexpected on a timing port lane. -/
  | lpiRxSignal (now l : Nat) (asleep : Bool)
  /-- ESMC_TX (R250): Once per second an ESMC information PDU carrying the sent QL is transmitted. -/
  | esmcTx (now l : Nat)
  /-- ESMC_EVENT_TX (R250): Within 100 ms of a change of the sent QL, an ESMC event PDU is transmitted. -/
  | esmcEventTx (now l : Nat)
  /-- PEER_LANE_SWITCH (R252): The active peer lane loses block lock for 1 ms or fails FoM, and traffic moves to the other lane. -/
  | peerLaneSwitch (now : Nat)
  /-- PEER_LANE_REVERT (R252): The preferred peer lane has been up for 10 s, and the active lane switches back to it. -/
  | peerLaneRevert (now : Nat)
  /-- PEER_PREFER_WRITE (R254): A write of PEER_PREFER naming an up lane switches the active lane at once. -/
  | peerPreferWrite (a : Acc) (v : Nat)
  /-- INTERP_CAL (R258): Once per second a lane interpolator calibrates its delay-line span by code density. -/
  | interpCal (now l : Nat)
  /-- ALIGN_MEASURE (R265): Every 10 ms the lane's A_rx and A_tx alignment terms are measured. -/
  | alignMeasure (l arx atx : Nat)
  /-- ALIGN_DECIDE (R266): At 100 ms after link-up, and at every later measurement, the last five measurements decide VALID or ALIGN_FAIL. -/
  | alignDecide (now p : Nat)
  /-- PORT_CAL_LOOP (R263): A write of 0x5A to PORT_CAL_LOOP starts a 4,096-frame loop measurement. -/
  | portCalLoop (a : Acc) (p : Nat)
  /-- PORT_CAL_LOOP_DONE (R263): The loop measurement ends; the external delays are written or the failure is reported. -/
  | portCalLoopDone (p : Nat)
  /-- FRAME_INGRESS (R270): A received frame is stamped, parsed, looked up, classified, admitted per copy and stored or cut through. -/
  | frameIngress (now : Nat) (f : Frame)
  /-- EGRESS_SELECT (R279): An idle egress port picks its next frame by priority, stamps it and applies edits and TC correction. -/
  | egressSelect (now p lane tw mark : Nat) (lost : Bool)
  /-- DOWN_HOLD_EXPIRE (R283): PORT_DOWN_HOLD expires with the link still down; the port becomes DOWN and its queues are flushed. -/
  | downHoldExpire (now p : Nat)
  /-- BLOCK_TIME_EXPIRE (R283): PORT_BLOCK_TIME after link-up has passed with the link up, and the port becomes FORWARDING. -/
  | blockTimeExpire (now p : Nat)
  /-- FDB_AGE_OUT (R270): A learned FDB entry has aged beyond YARD_MAC_AGE and is removed. -/
  | fdbAgeOut (now mac vid : Nat)
  /-- HOST_PROTOCOL_REQUEST (R273): An ARP, ND or ICMP echo request to a host address is answered by the engines within the rate limit. -/
  | hostProtocolRequest (now h : Nat)
  /-- PTP_ANNOUNCE_RX (R296): An Announce is received, authenticated and qualified as a foreign dataset, including any girth claim. -/
  | ptpAnnounceRx (now k p : Nat) (m : PtpMsg) (ds : PtpDs)
  /-- ANNOUNCE_TIMEOUT (R294): An Announce receipt timeout expires on a port, triggering a state decision. -/
  | announceTimeout (now p : Nat)
  /-- PTP_STATE_DECISION (R296): At most once per millisecond, the instance runs its best-master algorithm and sets port states. -/
  | ptpStateDecision (now k : Nat)
  /-- PTP_SYNC_RX (R299): A Sync is received on a time-receiver port and contributes to an offset measurement. -/
  | ptpSyncRx (now k p : Nat) (m : PtpMsg)
  /-- PTP_FOLLOW_UP_RX (R299): A Follow_Up completes a two-step Sync's origin time and correction. -/
  | ptpFollowUpRx (now k p : Nat) (m : PtpMsg)
  /-- PTP_DELAY_REQ_RX (R304): A Delay_Req is received and answered with Delay_Resp if a grant or multicast capacity allows. -/
  | ptpDelayReqRx (now k p : Nat) (m : PtpMsg)
  /-- PTP_DELAY_RESP_RX (R299): A Delay_Resp gives t4 and completes a path delay sample. -/
  | ptpDelayRespRx (now k p : Nat) (m : PtpMsg)
  /-- PTP_PDELAY_REQ_RX (R300): A Pdelay_Req is answered by the port's peer-delay responder. -/
  | ptpPdelayReqRx (now p : Nat) (m : PtpMsg)
  /-- PTP_PDELAY_RESP_RX (R301): A Pdelay_Resp or its Follow_Up updates the port's measured link delay. -/
  | ptpPdelayRespRx (now p : Nat) (m : PtpMsg) (followUp : Bool)
  /-- PTP_MGMT_RX (R289): A PTP management or version-1 message is dropped and counted. -/
  | ptpMgmtRx (version : Nat)
  /-- PTP_SYNC_TX (R300): At each Sync interval of a port or grant, a one-step or two-step Sync is sent. -/
  | ptpSyncTx (now k p addr : Nat)
  /-- PTP_ANNOUNCE_TX (R297): At each Announce interval, the served dataset is announced with its girth TLV. -/
  | ptpAnnounceTx (now k p addr : Nat)
  /-- PTP_DELAY_REQ_TX (R299): A time-receiver port sends a Delay_Req at its interval. -/
  | ptpDelayReqTx (now k p : Nat)
  /-- REQUEST_UNICAST_TRANSMISSION (R305): A unicast grant request is decided against entries and capacity, and is granted or refused. -/
  | requestUnicastTransmission (now k p addr portId mtype : Nat) (logPeriod : Int) (duration : Nat) (m : PtpMsg)
  /-- CANCEL_UNICAST_TRANSMISSION (R304): A cancel removes the grant at once and is acknowledged. -/
  | cancelUnicastTransmission (now k p addr portId mtype : Nat) (m : PtpMsg)
  /-- GRANT_UNICAST_TRANSMISSION_RX (R304): A time receiver receives a grant or refusal from an upstream server. -/
  | grantUnicastTransmissionRx (now k p addr mtype duration : Nat) (m : PtpMsg)
  /-- GRANT_EXPIRE (R304): A grant that was not renewed reaches the end of its duration and ends. -/
  | grantExpire (now k addr portId mtype : Nat)
  /-- GRANT_RENEW_TX (R304): Half of a client-side grant has run, and the instance requests its renewal. -/
  | grantRenewTx (now k addr mtype : Nat)
  /-- DELAY_RESP_RESERVATION_RELEASE (R305): A Delay_Resp reservation is released 10 s after its Sync grant. -/
  | delayRespReservationRelease (now k addr portId : Nat)
  /-- SA_KEY_SWITCH (R309): At the boundary SA_SWITCH_TAI the next key becomes the current signing key. -/
  | saKeySwitch (now k : Nat)
  /-- PTP_INSTANCE_RECONFIG (R311): A write of PTP_PORTS, PTP_DOMAIN, PTP_PROFILE or PTP_TRANSPORT reinitialises the ports and ends every grant of the instance. -/
  | ptpInstanceReconfig (now k : Nat)
  /-- NTP_REQUEST (R313): An NTP or NTS request is judged by the fate table and answered, kissed, sent to exception or dropped. -/
  | ntpRequest (now : Nat) (r : NtpReq)
  /-- NTS_LAUNCH (R319): At the head of queue 7 an NTS response's launch instant is fixed and its encryption is completed with the stamp. -/
  | ntsLaunch (now p lane tw mark : Nat) (delivered : Bool)
  /-- NTS_RELAUNCH (R320): The crypto unit has not delivered by t_L; a new launch instant is fixed or the response is discarded after three. -/
  | ntsRelaunch (now p lane tw mark : Nat) (delivered : Bool)
  /-- NTS_EXCEPTION_REQUEST (R322): An NTS request sent to the engines is answered within NTS_EXC_RATE or dropped. -/
  | ntsExceptionRequest (now : Nat)
  /-- NTP_HASH_REKEY (R324): A write of 0x5A to NTP_HASH_REKEY draws a new bucket hash key and fills every bucket. -/
  | ntpHashRekey (a : Acc)
  /-- NTP_PREFIX_WRITE (R331): A write of NTP_PREFIX4 or NTP_PREFIX6 rekeys the buckets. -/
  | ntpPrefixWrite (a : Acc) (sub v : Nat)
  /-- BUCKET_SWEEP (R324): A background sweep refills every bucket at least once every 512 s. -/
  | bucketSweep (now : Nat)
  /-- NTS_KEY_SWITCH (R318): At the second boundary after a write of NTS_KEY_CURRENT, minting moves to the named block. -/
  | ntsKeySwitch (now : Nat)
  /-- NTS_MINT_PRODUCER (R327): A write of NTS_MINT_PRODUCER offers mint-ring entries to the part. -/
  | ntsMintProducer (a : Acc) (v : Nat)
  /-- NTS_MINT_ENTRY (R327): A mint-ring entry is fetched by DMA; cookies are minted, STATUS is written, keys are zeroed and the consumer advances. -/
  | ntsMintEntry (now mflags count aead : Nat) (unwrapOk : Bool)
  /-- ADD (R338): gd := ga + gb. -/
  | add (e d a b : Nat)
  /-- SUB (R338): gd := ga − gb. -/
  | sub (e d a b : Nat)
  /-- AND (R338): gd := ga AND gb. -/
  | and (e d a b : Nat)
  /-- IOR (R338): gd := ga OR gb. -/
  | ior (e d a b : Nat)
  /-- XOR (R338): gd := ga XOR gb. -/
  | xor (e d a b : Nat)
  /-- LSL (R338): Logical left shift of ga by gb. -/
  | lsl (e d a b : Nat)
  /-- LSR (R338): Logical right shift of ga by gb. -/
  | lsr (e d a b : Nat)
  /-- ASR (R338): Arithmetic right shift of ga by gb. -/
  | asr (e d a b : Nat)
  /-- LTS (R338): gd := 1 if ga < gb signed, else 0. -/
  | lts (e d a b : Nat)
  /-- LTU (R338): gd := 1 if ga < gb unsigned, else 0. -/
  | ltu (e d a b : Nat)
  /-- MUL (R338): Low word of ga × gb. -/
  | mul (e d a b : Nat)
  /-- MULHS (R338): Signed high word of ga × gb. -/
  | mulhs (e d a b : Nat)
  /-- MULHU (R338): Unsigned high word of ga × gb. -/
  | mulhu (e d a b : Nat)
  /-- DIVS (R336): Signed quotient of ga by gb with defined results for zero and overflow. -/
  | divs (e d a b : Nat)
  /-- DIVU (R336): Unsigned quotient of ga by gb. -/
  | divu (e d a b : Nat)
  /-- REMS (R336): Signed remainder of ga by gb. -/
  | rems (e d a b : Nat)
  /-- REMU (R336): Unsigned remainder of ga by gb. -/
  | remu (e d a b : Nat)
  /-- LZC (R338): gd := leading zeros of ga. -/
  | lzc (e d a : Nat)
  /-- ONES (R338): gd := number of set bits of ga. -/
  | ones (e d a : Nat)
  /-- ADDK (R338): gd := ga + sign-extended immediate. -/
  | addk (e d a imm : Nat)
  /-- ANDK (R338): gd := ga AND zero-extended immediate. -/
  | andk (e d a imm : Nat)
  /-- IORK (R338): gd := ga OR zero-extended immediate. -/
  | iork (e d a imm : Nat)
  /-- XORK (R338): gd := ga XOR zero-extended immediate. -/
  | xork (e d a imm : Nat)
  /-- LTSK (R338): Signed compare of ga with the immediate. -/
  | ltsk (e d a imm : Nat)
  /-- LTUK (R338): Unsigned compare of ga with the immediate. -/
  | ltuk (e d a imm : Nat)
  /-- KHI (R338): gd := sext(imm × 2¹⁶); a non-zero a field traps ILLEGAL. -/
  | khi (e d a imm : Nat)
  /-- LSLK (R338): Logical left shift by imm[5:0]. -/
  | lslk (e d a imm : Nat)
  /-- LSRK (R338): Logical right shift by imm[5:0]. -/
  | lsrk (e d a imm : Nat)
  /-- ASRK (R338): Arithmetic right shift by imm[5:0]. -/
  | asrk (e d a imm : Nat)
  /-- LD8S (R338): Load a sign-extended byte. -/
  | ld8s (e d a imm : Nat)
  /-- LD8U (R338): Load a zero-extended byte. -/
  | ld8u (e d a imm : Nat)
  /-- LD16S (R338): Load a sign-extended halfword. -/
  | ld16s (e d a imm : Nat)
  /-- LD16U (R338): Load a zero-extended halfword. -/
  | ld16u (e d a imm : Nat)
  /-- LD32S (R336): Load a 32-bit word, sign-extended on a servo core. -/
  | ld32s (e d a imm : Nat)
  /-- LD32U (R336): Load a zero-extended 32-bit word; servo core only. -/
  | ld32u (e d a imm : Nat)
  /-- LD64 (R338): Load a 64-bit word; servo core only. -/
  | ld64 (e d a imm : Nat)
  /-- ST8 (R338): Store a byte of gb. -/
  | st8 (e b a imm : Nat)
  /-- ST16 (R338): Store a halfword of gb. -/
  | st16 (e b a imm : Nat)
  /-- ST32 (R338): Store a 32-bit word of gb. -/
  | st32 (e b a imm : Nat)
  /-- ST64 (R338): Store a 64-bit word of gb; servo core only. -/
  | st64 (e b a imm : Nat)
  /-- ATSWAP (R338): Atomically exchange gb with mem[ga], returning the old value. -/
  | atswap (e d a b : Nat)
  /-- ATADD (R338): Atomically add gb to mem[ga], returning the old value. -/
  | atadd (e d a b : Nat)
  /-- ATAND (R338): Atomically AND gb into mem[ga], returning the old value. -/
  | atand (e d a b : Nat)
  /-- ATIOR (R338): Atomically OR gb into mem[ga], returning the old value. -/
  | atior (e d a b : Nat)
  /-- ORDER (R338): Makes earlier memory accesses visible before any later one. -/
  | order (e : Nat)
  /-- BREQ (R338): Branch if ga equals gb. -/
  | breq (e a b off : Nat)
  /-- BRNE (R338): Branch if ga differs from gb. -/
  | brne (e a b off : Nat)
  /-- BRLTS (R338): Branch if ga < gb signed. -/
  | brlts (e a b off : Nat)
  /-- BRGES (R338): Branch if ga ≥ gb signed. -/
  | brges (e a b off : Nat)
  /-- BRLTU (R338): Branch if ga < gb unsigned. -/
  | brltu (e a b off : Nat)
  /-- BRGEU (R338): Branch if ga ≥ gb unsigned. -/
  | brgeu (e a b off : Nat)
  /-- GO (R338): Unconditional PC-relative jump. -/
  | go (e off : Nat)
  /-- CALL (R338): Jump, writing the link to g30. -/
  | call (e off : Nat)
  /-- GOR (R338): Register-indirect jump with link in gd. -/
  | gor (e d a imm : Nat)
  /-- DADD (R338): Binary64 addition; servo core only. -/
  | dadd (e d a b : Nat)
  /-- DSUB (R338): Binary64 subtraction. -/
  | dsub (e d a b : Nat)
  /-- DMUL (R338): Binary64 multiplication. -/
  | dmul (e d a b : Nat)
  /-- DDIV (R338): Binary64 division. -/
  | ddiv (e d a b : Nat)
  /-- DSQRT (R338): Binary64 square root. -/
  | dsqrt (e d a : Nat)
  /-- DMIN (R338): Binary64 minimum. -/
  | dmin (e d a b : Nat)
  /-- DMAX (R338): Binary64 maximum. -/
  | dmax (e d a b : Nat)
  /-- DNEG (R338): Binary64 negation. -/
  | dneg (e d a : Nat)
  /-- DABS (R338): Binary64 absolute value. -/
  | dabs (e d a : Nat)
  /-- DCEQ (R338): gd := 1 if fa equals fb. -/
  | dceq (e d a b : Nat)
  /-- DCLT (R338): gd := 1 if fa < fb. -/
  | dclt (e d a b : Nat)
  /-- DCLE (R338): gd := 1 if fa ≤ fb. -/
  | dcle (e d a b : Nat)
  /-- DTOI (R338): Convert fa to I64, rounded and saturating. -/
  | dtoi (e d a : Nat)
  /-- ITOD (R338): Convert ga to binary64. -/
  | itod (e d a : Nat)
  /-- DTOG (R338): Bit copy from fa to gd. -/
  | dtog (e d a : Nat)
  /-- GTOD (R338): Bit copy from ga to fd. -/
  | gtod (e d a : Nat)
  /-- DLD (R338): 64-bit floating-point load. -/
  | dld (e d a imm : Nat)
  /-- DST (R338): 64-bit floating-point store. -/
  | dst (e b a imm : Nat)
  /-- TNOW (R339): Reads the long count when the request reaches the TB group. -/
  | tnow (now e d : Nat)
  /-- TSEQ (R339): gd := ASEQ of the newest delivered anchor. -/
  | tseq (e d : Nat)
  /-- TEXT (R339): Extends a stamp record to TIME96 under R52, or reports STALE. -/
  | text (e d a b : Nat)
  /-- TWAIT (R339): Stalls the engine until the NSC reaches ga. -/
  | twait (now e a : Nat)
  /-- TWAIT_RESUME (R339): The NSC reaches the TWAIT deadline and the engine resumes. -/
  | twaitResume (now e : Nat)
  /-- GADD (R339): Saturating GIRTH32 sum. -/
  | gadd (e d a b : Nat)
  /-- GMAX (R339): Unsigned maximum of two GIRTH32 values. -/
  | gmax (e d a b : Nat)
  /-- QPOP (R340): Copies the oldest record of a queue to memory and returns its length. -/
  | qpop (e d a b : Nat)
  /-- QPUSH (R340): Pushes a value to a queue, or reports it full. -/
  | qpush (e d a b : Nat)
  /-- QSTAT (R340): gd := number of records waiting in the queue. -/
  | qstat (e d a : Nat)
  /-- QWAIT (R340): Stalls the engine until the queue is non-empty or the deadline is reached. -/
  | qwait (now e a b : Nat)
  /-- QWAIT_RESUME (R340): The awaited queue becomes non-empty or the deadline passes, and the engine resumes. -/
  | qwaitResume (now e : Nat)
  /-- CSUB (R341): Submits a crypto job descriptor and returns its tag. -/
  | csub (e d a : Nat)
  /-- CRYPTO_JOB_DONE (R382): A crypto job completes or is refused by the vault, and its status is set. -/
  | cryptoJobDone (tag : Nat) (ok : Bool)
  /-- CWAIT (R341): Stalls until the named crypto job completes, then returns its status. -/
  | cwait (e d a : Nat)
  /-- CRAND (R341): Fills gd from the random source. -/
  | crand (e d : Nat)
  /-- RDC (R343): Reads a CSR, trapping on a reserved or privileged number. -/
  | rdc (e d imm : Nat)
  /-- WRC (R343): Writes a CSR, such as WDKICK, PMCTL or the protection regions. -/
  | wrc (now e a imm : Nat)
  /-- IDLE (R342): Stalls until an event enabled in EVMASK occurs. -/
  | idle (e : Nat)
  /-- IDLE_WAKE (R342): An enabled event occurs and an idle engine resumes. -/
  | idleWake (e : Nat)
  /-- STOP (R342): Raises trap STOP, which stops a paddock engine cleanly. -/
  | stop (e : Nat)
  /-- TRET (R342): Returns from a trap to TRAPPC. -/
  | tret (e : Nat)
  /-- DBG (R342): Raises trap DBG, which halts for JTAG in DEBUG or is a violation otherwise. -/
  | dbg (e : Nat)
  /-- ENGINE_TRAP (R342): A trap records its cause and PC, entering the handler, or resetting a violating paddock engine. -/
  | engineTrap (now e cause : Nat) (recovers : Bool)
  /-- ENGINE_WATCHDOG_EXPIRE (R348): An engine's watchdog expires; the engine traps WATCHDOG, and a tack image may be reloaded. -/
  | engineWatchdogExpire (now e : Nat) (recovers : Bool)
  /-- ENGINE_RESTORE (R342): The loader restores a reset Gelusk engine's image from shared engine SRAM. -/
  | engineRestore (now e : Nat)
  /-- TACK_LOAD (R345): A write of TACK_LOAD resets the engine and starts loading and verifying a tack image. -/
  | tackLoad (a : Acc) (j addr : Nat)
  /-- TACK_LOAD_DONE (R345): Verification of a tack image completes, and the engine starts in program mode or the load is refused. -/
  | tackLoadDone (now j : Nat) (hashOk sigOk : Bool)
  /-- TACK_STOP (R350): A write of 0x5A to TACK_STOP resets a tack engine into the stopped state. -/
  | tackStop (a : Acc) (j : Nat)
  /-- PADDOCK_ENABLE_WRITE (R351): A write of PADDOCK_ENABLE wipes the paddock region, and on 0 also resets every tack engine. -/
  | paddockEnableWrite (a : Acc) (v : Nat)
  /-- TACK_ENGINES_WRITE (R351): Changing a bit of TACK_ENGINES resets and wipes, or powers up, that engine. -/
  | tackEnginesWrite (a : Acc) (v : Nat)
  /-- TACK_DOORBELL_READ (R347): A HOST read of TACK_DOORBELL takes the oldest doorbell entry. -/
  | tackDoorbellRead (a : Acc)
  /-- GOV_DECISION (R356): Every XO millisecond the governor computes headroom and raises, lowers or holds the level. -/
  | govDecision (now pPart : Nat) (tj : Int) (ok : Bool)
  /-- GOV_COST_MEASURE (R357): 10 ms after a raise, the measured power increase replaces cost[L] if it is larger. -/
  | govCostMeasure (now pPart : Nat)
  /-- GOV_LEVEL_MIN_WRITE (R363): A write of GOV_LEVEL_MIN above the current level moves the level at once. -/
  | govLevelMinWrite (a : Acc) (v : Nat)
  /-- PC_DUMP (R371): Every PC_DUMP_PERIOD, counters are latched and snapshots and samples are written to the dump ring. -/
  | pcDump (now : Nat)
  /-- PC_READ (R375): A read of PC_READ latches a snapshot record of an engine's counters. -/
  | pcRead (a : Acc) (e : Nat)
  /-- INSTRUCTION_SAMPLE (R369): The sample counter reaches PERIOD, and the next retiring instruction is sampled into the FIFO. -/
  | instructionSample (now e pc word latency stall : Nat) (trapped : Bool)
  /-- MASK_ROTATION (R386): After 2¹⁶ word accesses the vault draws new masks and sweeps every cell. -/
  | maskRotation
  /-- LC_TO_MAKER (R390): LC_REQUEST to MAKER fuses the maker root in Gelusk production test. -/
  | lcToMaker (a : Acc) (cred : Nat)
  /-- LC_TO_OWNED (R390): LC_REQUEST to OWNED fuses the owner root and the state, then makes a power-on reset. -/
  | lcToOwned (a : Acc) (cred : Nat)
  /-- LC_TO_FIELD (R390): LC_REQUEST to FIELD from OWNED or DEBUG burns the state or debug-exit bit, then makes a power-on reset. -/
  | lcToField (a : Acc) (cred : Nat)
  /-- LC_TO_DEBUG (R390): LC_REQUEST to DEBUG burns a debug-entry bit, then makes a power-on reset. -/
  | lcToDebug (a : Acc) (cred : Nat)
  /-- LC_TO_RETIRED (R390): LC_REQUEST to RETIRED burns the retire bit and erases the vault area. -/
  | lcToRetired (a : Acc) (cred : Nat)
  /-- SLOT_ATTR_WRITE (R381): A write of SLOT_ATTR prepares, or empties, an EMPTY or PREPARED slot. -/
  | slotAttrWrite (a : Acc) (n v : Nat)
  /-- KEY_STAGE (R391): A key or blob is checked and placed in a slot's shadow cell. -/
  | keyStage (a : Acc) (v : Nat)
  /-- KEY_COMMIT (R394): The shadow key becomes the slot's key, through flash records for persistent slots. -/
  | keyCommit (a : Acc) (n : Nat)
  /-- KEY_ABANDON (R391): A write of KEY_ABANDON discards a slot's shadow. -/
  | keyAbandon (a : Acc) (n : Nat)
  /-- VAULT_STAGE_TIMEOUT (R391): VAULT_STAGE_TIMEOUT elapses without a commit, and the shadow is discarded. -/
  | vaultStageTimeout (now slot : Nat)
  /-- KEY_ERASE (R391): A write of KEY_ERASE writes an erase record if persistent and returns the slot to EMPTY. -/
  | keyErase (a : Acc) (n : Nat)
  /-- KEY_EXPORT (R384): An exportable key is wrapped into KEY_EXPORT_BLOB. -/
  | keyExport (a : Acc) (n w : Nat)
  /-- TAMPER_ALARM (R397): An enabled tamper source alarms; the latch is set, a record is written and the vault and crypto state are wiped. -/
  | tamperAlarm (now src aon : Nat)
  /-- TAMPER_CLEAR (R401): An OWNER one-shot write of TAMPER_CLEAR clears the latch and makes a power-on reset. -/
  | tamperClear (a : Acc) (tseq cred : Nat)
  /-- AON_SUPPLY_CHANGEOVER (R522): VDD_AON falls below 0.720 V, and the always-on block moves to VBAT_AON. -/
  | aonSupplyChangeover (now aon : Nat)
  /-- AON_RESET (R36): VDD_AON and VBAT_AON are both below threshold; the AON block resets, losing the tamper record and setting AON-lost. -/
  | aonReset (now : Nat)
  /-- AUTH_CHALLENGE (R409): A read of AUTH_CHALLENGE returns a fresh nonce bound to the path. -/
  | authChallenge (a : Acc)
  /-- AUTH_OPEN (R409): AUTH_OPEN is judged and, if accepted, opens a session and sets AUTH_REPLY. -/
  | authOpen (a : Acc) (v : Nat)
  /-- AUTH_CLOSE (R409): A write of AUTH_CLOSE ends the named session. -/
  | authClose (a : Acc) (n : Nat)
  /-- SESSION_IDLE_TIMEOUT (R409): A session has had no request for AUTH_IDLE seconds and ends. -/
  | sessionIdleTimeout (now num : Nat)
  /-- SESSION_TICKET_EXPIRE (R409): The NOT_AFTER of a session's ticket passes, and the session ends. -/
  | sessionTicketExpire (now num : Nat)
  /-- TICKET_MIN_ID_WRITE (R424): A write of TICKET_MIN_ID ends sessions whose ticket falls below it. -/
  | ticketMinIdWrite (a : Acc) (v : Nat)
  /-- OWNER_TRANSFER (R412): An OWNER_TRANSFER with a valid token registers the proposed owner key in state MAKER. -/
  | ownerTransfer (a : Acc) (v : Nat)
  /-- OWNER_KEY_ROTATE (R412): A signed OWNER_KEY_ROTATE fuses a new owner key hash and retires the current key. -/
  | ownerKeyRotate (a : Acc) (v : Nat)
  /-- JTAG_UNLOCK (R418): A MAKER one-shot write of JTAG_UNLOCK enables boundary scan and engine debug in BLANK or MAKER. -/
  | jtagUnlock (a : Acc) (v : Nat)
  /-- JTAG_ATTACH (R418): A debugger attaches over JTAG, and an audit record is written. -/
  | jtagAttach (now : Nat)
  /-- JTAG_RESET (R36): The JTAG reset resets the TCK group and debug logic. -/
  | jtagReset (now : Nat)
  /-- AUDIT_HEAD (R422): A read of AUDIT_HEAD returns a signed statement of the newest audit record and uses up the nonce. -/
  | auditHead (a : Acc)
  /-- DICT_WRITE (R429): A write to an object that has no row of its own is checked and audited by the agent, and applied. -/
  | dictWrite (a : Acc) (idx sub v : Nat)
  /-- DICT_DESCRIBE_ADDR (R428): A write of DICT_DESCRIBE_ADDR selects an entry to be described for the path or session. -/
  | dictDescribeAddr (a : Acc) (idx sub : Nat)
  /-- DICT_STORE (R441): An OWNER write of 0x5A to DICT_STORE saves the persisted objects to the configuration store. -/
  | dictStore (a : Acc)
  /-- SEAL_REQ (R432): A write of an envelope to SEAL_REQ is judged and its body executed under the session. -/
  | sealReq (a : Acc) (e : Envelope) (slow : Bool)
  /-- SEAL_RESP (R432): A read of SEAL_RESP waits up to 100 ms for the response to the outstanding request. -/
  | sealResp (a : Acc) (ready : Bool)
  /-- MB_SUBMIT (R437): A write of the envelope length to MB_SUBMIT submits the BAR2 mailbox. -/
  | mbSubmit (a : Acc) (e : Envelope) (len : Nat) (slow : Bool)
  /-- CAN_SDO_TRANSFER (R433): A completed SDO or USDO transfer is decided by the agent and answered, or aborted. -/
  | canSdoTransfer (c stage : Nat) (write : Bool) (a : Acc) (idx sub v : Nat)
  /-- CAN_SDO_TIMEOUT (R433): An SDO client's next frame has not arrived within CAN_SDO_TIMEOUT, and the transfer is aborted. -/
  | canSdoTimeout (now c : Nat)
  /-- CAN_NMT_RX (R433): An NMT command is received, ignored and counted. -/
  | canNmtRx (now c : Nat)
  /-- CAN_HEARTBEAT_TX (R433): Every CAN_HEARTBEAT milliseconds a heartbeat with the state byte is sent. -/
  | canHeartbeatTx (now c : Nat)
  /-- CAN_BUS_OFF (R434): A controller enters bus-off and ends its sessions. -/
  | canBusOff (now c : Nat)
  /-- CAN_BUS_OFF_RECOVERY (R434): After 128 occurrences of 11 recessive bits the controller rejoins the bus. -/
  | canBusOffRecovery (now c : Nat)
  /-- CAN_ENABLE_WRITE (R434): A write of CAN_ENABLE starts the controller with the new settings, or stops it and ends its sessions. -/
  | canEnableWrite (a : Acc) (c v : Nat)
  /-- MSP_WRITE (R435): An MSP WRITE transaction writes an object, with MSP_RDY low until the result is ready. -/
  | mspWrite (a : Acc) (idx sub v : Nat) (ok ready slow : Bool)
  /-- MSP_READ (R435): An MSP READ transaction reads an object, with MSP_RDY low until the result is ready. -/
  | mspRead (a : Acc) (idx sub : Nat) (ok ready slow : Bool)
  /-- MSP_FETCH (R435): An MSP FETCH returns the result of the last WRITE or READ. -/
  | mspFetch (now : Nat) (ok ready : Bool)
  /-- MSP_STATE (R435): An MSP STATE returns the ready, attention and agent-return bits. -/
  | mspState (now : Nat) (ok ready : Bool)
  /-- ATTN_ACK (R436): A write of ATTN_ACK clears the latched attention bits written as 1. -/
  | attnAck (a : Acc) (v : Nat)
  /-- BAR0_READ (R438): A PCIe read of the BAR0 object window is decided as a HOST read. -/
  | bar0Read (a : Acc) (off w : Nat) (late : Bool)
  /-- BAR0_WRITE (R438): A posted PCIe write to BAR0 is decided as a HOST write, with refusals recorded in PCIE_LAST_ERROR. -/
  | bar0Write (a : Acc) (off w v : Nat)
  /-- BAR4_ACCESS (R438): A PCIe access to the paddock aperture reaches DRAM, or is refused and counted. -/
  | bar4Access (now : Nat) (write : Bool) (off len v : Nat)
  /-- DMA_REQ (R439): A write of DMA_REQ starts a bulk DMA from a ring to host memory. -/
  | dmaReq (a : Acc) (src off len host : Nat)
  /-- DMA_DONE (R439): A bulk DMA completes; DMA_STATUS is set and MSI-X vector 1 fires. -/
  | dmaDone (now : Nat)
  /-- ESXIA_PLAIN_REQUEST (R440): A plain Esxia request is limited to the permitted objects and answered. -/
  | esxiaPlainRequest (a : Acc) (tag : Nat) (e : Envelope) (ok : Bool)
  /-- ESXIA_SEALED_REQUEST (R440): A sealed Esxia request is checked against its bound source and executed under R432. -/
  | esxiaSealedRequest (a : Acc) (tag : Nat) (e : Envelope) (ok : Bool)
  /-- ESXIA_PATH_WRITE (R444): A write to the Esxia path objects that removes the path ends the sessions on it. -/
  | esxiaPathWrite (a : Acc) (sub v : Nat)
  /-- AGENT_WATCHDOG_EXPIRE (R36): The dictionary-agent watchdog expires, raising F3 and a system reset. -/
  | agentWatchdogExpire (now : Nat)
  /-- HALTER_QUARTER_TICK (R449): At each quarter tick, if SC0 has issued a pass verdict, the holder pulses both HALT wires and renews the lease. -/
  | halterQuarterTick (now : Nat) (verdict lowA lowB highA highB : Bool)
  /-- LEASE_EXPIRE (R448): The lease timer runs out; the halter enable is withdrawn and RELEASE is sent. -/
  | leaseExpire (now : Nat)
  /-- FOREIGN_LOW (R450): The holder sees a HALT wire low outside its windows; the lease stops and F2 is raised. -/
  | foreignLow (now : Nat)
  /-- HALTER_CLAIM (R451): After silence or a RELEASE a non-holder pulses its claim wire and, if both wires read back high, starts the lease. -/
  | halterClaim (now : Nat) (highA highB pass : Bool)
  /-- PAIR_YIELD_CHECK (R454): Each second a persisting yield cause is judged again, and a handoff is proposed if the peer is READY. -/
  | pairYieldCheck (now : Nat)
  /-- HELLO (R446): A HELLO is received at peer-lane bring-up, and the pair session keys are derived. -/
  | hello (now serial lc : Nat) (preferred : Bool) (svn : Nat) (hmac : Bool)
  /-- RENEW (R458): An authenticated RENEW from the holder resets link silence and supplies the peer girth claim. -/
  | renew (now pseq : Nat) (tag : Bool) (c : Claim)
  /-- PAIR_STATUS (R458): A STATUS from the non-holder reports its state, θ, girth and applied epoch. -/
  | pairStatus (now pseq : Nat) (tag : Bool) (state : Nat) (fit aligned : Bool) (girth epoch : Nat) (cfg full back : Bool)
  /-- MARKER (R106): A MARKER exchange supplies the extended stamps from which θ and δ are computed. -/
  | marker (now pseq : Nat) (tag : Bool) (tPeer rPeer : Int)
  /-- SNAP_SECTION (R460): A snapshot section is buffered by the standby. -/
  | snapSection (now pseq : Nat) (tag : Bool) (x : SnapSection)
  /-- SNAP_TRAILER (R460): A snapshot trailer is verified and the epoch is applied in one step, or discarded. -/
  | snapTrailer (now pseq : Nat) (tag : Bool) (epoch kind base count total digest : Nat)
  /-- HANDOFF_PROPOSE (R463): A HANDOFF propose message is answered with accept if the conditions hold. -/
  | handoffPropose (now pseq : Nat) (tag : Bool) (th cause : Nat)
  /-- HANDOFF_ACCEPT (R463): A HANDOFF accept message puts both parts in HANDOFF. -/
  | handoffAccept (now pseq : Nat) (tag : Bool)
  /-- HANDOFF_COMMIT (R463): A HANDOFF commit message lets the receiver enable its drivers before T_h. -/
  | handoffCommit (now pseq : Nat) (tag : Bool)
  /-- HANDOFF_CANCEL (R463): A HANDOFF cancel message makes the receiver stop its lease at T_h without starting outputs. -/
  | handoffCancel (now pseq : Nat) (tag : Bool)
  /-- HANDOFF_RECEIVER_CLAIM (R463): At T_h − 50 ms the receiver makes its sanctioned claim. -/
  | handoffReceiverClaim (now : Nat) (pass : Bool)
  /-- HANDOFF_COMMIT_CHECK (R463): At T_h − 1 ms the releaser checks the receiver and sends commit or cancel. -/
  | handoffCommitCheck (now : Nat)
  /-- HANDOFF_EXECUTE (R463): At T_h the releaser's drivers go to high impedance and its lease stops, while the receiver's outputs start. -/
  | handoffExecute (now : Nat)
  /-- HANDOFF_NO_COMMIT_TIMEOUT (R463): A receiver without commit has seen no releaser pulse for HALTER_LEASE after T_h, and starts its outputs. -/
  | handoffNoCommitTimeout (now : Nat)
  /-- RELEASE (R544): An authenticated RELEASE is received; a non-holder then claims the halter. -/
  | release (now pseq : Nat) (tag : Bool) (cause : Nat)
  /-- SWAP_PROPOSE (R465): Inside the quiet window, SWAP_PERIOD after the last swap, the active proposes a scheduled handoff. -/
  | swapPropose (now : Nat)
  /-- PAIR_COMMAND_HANDOFF (R469): PAIR_COMMAND 0x5A makes the holder start a planned handoff now. -/
  | pairCommandHandoff (a : Acc)
  /-- PAIR_COMMAND_DIAG (R466): PAIR_COMMAND 0x3C makes a standby run full diagnostics. -/
  | pairCommandDiag (a : Acc)
  /-- PAIR_DIAG_DONE (R466): Full diagnostics complete and set PAIR_FIT, or UNFIT with F2. -/
  | pairDiagDone (now result : Nat)
  /-- PAIR_RETURN (R467): A revertive preferred standby has been READY for RETURN_HOLD and requests a handoff back. -/
  | pairReturn (now : Nat)
  /-- PAIR_HOLD_STANDBY_WRITE (R454): A write of 1 to PAIR_HOLD_STANDBY makes the holder hand off to a READY peer. -/
  | pairHoldStandbyWrite (a : Acc) (v : Nat)
  /-- PAIR_ENABLE_WRITE (R470): A write of PAIR_ENABLE, PAIR_KEY_SLOT or PAIR_PEER_SERIAL restarts joining, or is refused on the holder. -/
  | pairEnableWrite (a : Acc) (sub v : Nat)
  /-- DOMAIN_JOIN_TX (R472): A worker sends JOIN every 2 s plus a random delay until it receives a JOIN_ACK. -/
  | domainJoinTx (now : Nat)
  /-- JOIN (R473): The manager judges a JOIN and answers with a JOIN_ACK result. -/
  | join (now src domainId w serial lc epoch : Nat) (hmac : Bool)
  /-- JOIN_ACK (R472): A worker receives JOIN_ACK and, on success, derives the domain session keys. -/
  | joinAck (now src domainId w serial result : Nat) (hmac : Bool)
  /-- QUALITY (R476): A worker receives QUALITY, which feeds QL_RX and the domain girth claim. -/
  | quality (now src dseq : Nat) (tag : Bool) (ql flags epoch : Nat) (c : Claim)
  /-- DOMAIN_QUALITY_TX (R474): Once per second the manager sends QUALITY to each worker. -/
  | domainQualityTx (now : Nat)
  /-- DOMAIN_STATUS (R481): The manager receives a worker's STATUS and updates the worker record. -/
  | domainStatus (now src w dseq : Nat) (tag : Bool) (ql girth epoch : Nat)
  /-- DOMAIN_STATUS_TX (R474): Once per second a worker sends STATUS at its staggered offset. -/
  | domainStatusTx (now : Nat)
  /-- POLICY (R479): A worker applies all POLICY entries as one request, or none. -/
  | policy (now src dseq : Nat) (tag : Bool) (epoch : Nat) (l : List (Nat × Nat × Nat × Nat))
  /-- POLICY_ACK (R474): The manager receives a worker's POLICY_ACK. -/
  | policyAck (now src w dseq : Nat) (tag : Bool) (epoch code failing : Nat)
  /-- KEYS (R480): A worker unwraps, leaves or refuses each key entry of KEYS. -/
  | keys (now src dseq : Nat) (tag : Bool) (l : List SnapKey)
  /-- KEYS_ACK (R474): The manager receives the per-entry results of KEYS. -/
  | keysAck (now src w dseq : Nat) (tag : Bool) (results : List Nat)
  /-- LEAVE (R481): A LEAVE ends the domain session on receipt. -/
  | leave (now src w dseq : Nat) (tag : Bool) (cause : Nat)
  /-- DOMAIN_MANAGER_LOST (R481): No QUALITY has arrived for DOMAIN_LOSS_TIME; the worker declares the manager lost and rejoins. -/
  | domainManagerLost (now : Nat)
  /-- DOMAIN_WORKER_LOST (R481): No STATUS from a worker for DOMAIN_LOSS_TIME; the manager frees its number. -/
  | domainWorkerLost (now w : Nat)
  /-- DOMAIN_POLICY_WRITE (R477): A write to a DOMAIN_POLICY entry increments the policy epoch, for sending at the next anchor. -/
  | domainPolicyWrite (a : Acc) (k v : Nat)
  /-- DOMAIN_CONFIG_WRITE (R484): A write of DOMAIN_ROLE, DOMAIN_ID, DOMAIN_KEY_SLOT or WORKER_NUMBER ends every domain session and restarts joining. -/
  | domainConfigWrite (a : Acc) (sub v : Nat)
  /-- FAULT_RAISE (R488): The collector takes a raising, records or coalesces it, and queues, escalates or responds by class. -/
  | faultRaise (now code inst detail : Nat)
  /-- FAULT_CONDITION_CLEAR (R485): A level fault's condition ends and the cleared record is written. -/
  | faultConditionClear (now code inst : Nat)
  /-- FAULT_HANDLING_DONE (R489): Handling of the current F2 ends, and the next queued F2 is handed over. -/
  | faultHandlingDone (now : Nat)
  /-- FAULT_HANDLE_TIMEOUT (R490): F2 handling exceeds FAULT_HANDLE_MAX, raising 0x1601 as an F3. -/
  | faultHandleTimeout (now : Nat)
  /-- EVLOG_MOVE (R493): Firmware moves staged records into the DRAM log ring in LSEQ order when DRAM and room allow. -/
  | evlogMove (now n : Nat)
  /-- FAULT_ACK_CODE (R495): FAULT_ACK with an event-fault code clears that fault if it is active. -/
  | faultAckCode (a : Acc) (code : Nat)
  /-- FAULT_ACK_ALL (R495): FAULT_ACK 0xFFFF clears every F1 and F2 event fault. -/
  | faultAckAll (a : Acc)
  /-- FAULT_ACK_F3 (R495): FAULT_ACK 0xFFF3 by OWNER or KEEPER clears the F3 latch. -/
  | faultAckF3 (a : Acc)
  /-- F3_CLEAR (R492): An OWNER one-shot F3_CLEAR clears the F3 latch and makes a system reset, leaving a boot halt. -/
  | f3Clear (a : Acc) (cred : Nat)
  /-- SLEEP_ENTER (R508): A write of 0x5A to SLEEP_ENTER stops outputs, ends sessions, puts DRAM in self-refresh and gates groups. -/
  | sleepEnter (a : Acc)
  /-- FW_ERASE (R506): A write of 0x5A to FW_ERASE erases the bundle that is not running. -/
  | fwErase (a : Acc)
  /-- FW_ERASE_DONE (R506): The erase of the idle bundle completes, and chunks are accepted. -/
  | fwEraseDone (now : Nat) (ok : Bool)
  /-- FW_CHUNK (R506): A write of FW_CHUNK programs image bytes into the erased bundle. -/
  | fwChunk (a : Acc) (off len data : Nat)
  /-- FW_COMMIT (R506): A write of FW_COMMIT verifies the bundle with the new header and then programs the header. -/
  | fwCommit (a : Acc) (v : Nat)
  /-- CAL_SELECT (R514): A write of CAL_SELECT chooses a calibration entry for the path or session. -/
  | calSelect (a : Acc) (e : Nat)
  /-- CAL_VALUE (R514): A write of CAL_VALUE replaces an entry and starts a table commit, applying UNC raises at once. -/
  | calValue (a : Acc) (value : Int) (unc source : Nat)
  /-- CAL_COMMIT_DONE (R514): The calibration table commit completes, applying the new values, or fails and raises 0x1502. -/
  | calCommitDone (now : Nat) (ok : Bool)
  /-- CAL_RELOAD_CHUNK (R515): A write of CAL_RELOAD_CHUNK stores part of the per-unit file in the staging buffer. -/
  | calReloadChunk (a : Acc) (off len data : Nat)
  /-- CAL_RELOAD_COMMIT (R515): A write of 0x5A to CAL_RELOAD_COMMIT verifies the per-unit file and commits the factory table. -/
  | calReloadCommit (a : Acc)
  /-- CAL_STAGING_TIMEOUT (R515): 600 s after the last chunk, the calibration staging buffer is discarded. -/
  | calStagingTimeout (now : Nat)
  /-- IN_ELEC_WRITE (R541): A write of IN_ELEC changes a pin's electrical mode at the next anchor, restarts its channel and restarts its soak. -/
  | inElecWrite (a : Acc) (n v : Nat)
  /-- LOCAL_OSC_LOSS (R25): The clock monitor flags the local oscillator while the time base is on the coarse count, and the TB multiplexer moves to the safe clock with a 40 ns or 80 ns increment. -/
  | localOscLoss (now : Nat)
  /-- GNSS_CLOCK_LOSS (R207): GNSS_CLK stops; GN0 becomes unavailable, the baseband stops, every channel returns to IDLE and F1 0x0008 is raised. -/
  | gnssClockLoss (now : Nat)
  /-- GNSS_CLOCK_RETURN (R207): GNSS_CLK returns and the baseband restarts as if GN_ENABLE had been written 1, with every satellite at the front of the target list. -/
  | gnssClockReturn (now : Nat)
  /-- PCIE_LINK_DOWN (R409): The PCIe link goes down; the PCIe sessions end, a running DMA aborts and F1 0x000A is raised. -/
  | pcieLinkDown (now : Nat)
  /-- PCIE_LINK_UP (R22): The PCIe link trains up again, level fault 0x000A clears, and the window and mailbox become reachable. -/
  | pcieLinkUp (now : Nat)
  /-- QREF_RETURN (R234): A quad's lost reference clock returns and the quad transmit PLL starts its relock, with QUAD_STATE leaving 0x03. -/
  | qrefReturn (now q : Nat)
  /-- PEER_LANE_DOWN (R446): A peer lane's link goes down, F1 0x0904 is raised, and when no peer lane is left up the pair session keys are wiped. -/
  | peerLaneDown (now p : Nat)
  /-- PEER_LANE_UP (R446): A peer lane completes bring-up; the part sends HELLO when it is the active lane, and the level fault clears. -/
  | peerLaneUp (now p : Nat)
  /-- PEER_LINK_SILENCE (R456): The peer link has fallen silent with a HALT wire still alive; the standby switches to PAIR_OWN_CHOICE, enters ISOLATED and raises 0x1205. -/
  | peerLinkSilence (now : Nat)
  /-- HALT_WIRE_FALL (R451): A non-holder sees a falling edge on HALT_A or HALT_B and restarts that wire's silence count. -/
  | haltWireFall (now w : Nat) (back : Bool)
  /-- PTP_PDELAY_REQ_TX (R301): At its interval, a port with peer delay or PORT_TC_ENABLE sends a Pdelay_Req to measure its link delay. -/
  | ptpPdelayReqTx (now p : Nat)
  /-- PTP_QUALIFICATION_TIMEOUT (R293): The IEEE 1588 qualification interval of a PRE_TIME_TRANSMITTER port expires, and the port becomes TIME_TRANSMITTER. -/
  | ptpQualificationTimeout (now p : Nat)
  /-- DICT_STORE_DONE (R441): A configuration store save completes with its HMAC written last, and saves are accepted again. -/
  | dictStoreDone (now : Nat) (ok : Bool)
  /-- FW_COMMIT_DONE (R506): Verification of the new bundle ends, the header is programmed or the failure is reported, and FW_UPDATE_STATE leaves 0x03. -/
  | fwCommitDone (now outcome : Nat)
  /-- AON_SUPPLY_RESTORE (R522): VDD_AON returns to at least 0.720 V, and the always-on block moves back from VBAT_AON to VDD_AON. -/
  | aonSupplyRestore (now : Nat)
  /-- TAMPER_SOURCE_RECOVER (R401): A tamper source leaves its alarm condition, so its bit in TAMPER_STATE[8:0] clears and TAMPER_CLEAR becomes acceptable. -/
  | tamperSourceRecover (now src : Nat)
deriving DecidableEq, Repr

end Sys2Proof
end

