-- ==== Sys2Proof/Decode.lean ====
section
/-!
DEFINITION. The opcode table gives its rows no bits: no word spells a command.
-/
set_option Elab.async false
namespace Sys2Proof

/-- The command that a word spells by the table's bits: none, since no row of the table gives bits. -/
def decodeTableWord (_nbits _w : Nat) : Option Instr := none

end Sys2Proof
end

