-- ==== Sys2Proof/Config.lean ====
section
/-!
DEFINITION. What one part is built with, and the free values. Every opaque constant has no body: nothing can be proved of
its value, so a claim that meets one holds for every value of it.
-/
set_option Elab.async false
namespace Sys2Proof

/-- SERIAL_NUMBER (0x1018:04), unique to each part (R443). -/
opaque Config.serial : Nat

/-- The part is grade E; otherwise grade C (R3). -/
opaque Config.gradeE : Bool

/-- Installed DRAM in MiB, as MR8 reports it (R507). -/
opaque Config.dramMiB : Nat

/-- DEVICE_ID_PUB per life-cycle code and number of owner keys (R409). -/
opaque Config.deviceIdPub : Nat → Nat → Nat

/-- ENG_FW_VERSION of an engine's image (R350). -/
opaque Config.fwVersion : Nat → Nat

/-- Factory VALUE and UNC of a calibration entry, by EID (R545). -/
opaque Config.factoryValue : Nat → Int
opaque Config.factoryUnc : Nat → Nat

/-- Amplitude of the carrier of a modulated IRIG-B output at a mark, in 2⁻³⁰ of the stream's full scale (R177; log entry 157). -/
opaque Config.irigAmplitude : Nat

/-- What a lane's DFE taps have adapted to at a long count (R239; log entry 2). -/
opaque Config.dfeWord : Nat → Nat → Nat

/-- A free value: what an effect yields where the spec states no value (log entry 2). -/
opaque Config.freeValue : Nat → Nat

/-- The part's random source (R324, R341, R409). -/
opaque Config.random : Nat → Nat

/-- SHA-384 of a text given as a list of numbers, as a number of 384 bits (R409, R411, R420). -/
opaque Config.sha384 : List Nat → Nat

/-- SipHash-2-4 of a prefix under the hash key of an epoch (R324). -/
opaque Config.sipHash : Nat → Nat → Nat → Nat

/-- KCV of a key (R383). -/
opaque Config.kcv : Nat → Nat

/-- The key that a wrapped blob or a key in clear of KEY_STAGE stands for (R391, R393). -/
opaque Config.keyOf : Nat → Nat

/-- A class 0 key that the part derives from the storage root of a ROOT_ID (R389). -/
opaque Config.classZero : Nat → Nat

/-- The blob that wraps a key under another (R384, R393). -/
opaque Config.wrap : Nat → Nat → Nat

/-- Output of a crypto job: operation, key, and the input bytes as a number (R341). -/
opaque Config.cipher : Nat → Nat → Nat → Nat

/-- A job tag (R341), by the number of jobs submitted so far. -/
opaque Config.jobTag : Nat → Nat

/-- Entries of the crypto units' submission queue beyond its first, and its depth (R341; log entry 52). -/
opaque Config.jobQueueMore : Nat
def Config.jobQueueDepth : Nat := Config.jobQueueMore + 1

/-- Depth of a firmware queue (R340). -/
opaque Config.queueDepth : Nat → Nat

/-- ENG cycles that an instruction takes, and the stall event that cost it most (R7, R336, R369). -/
opaque Config.cycles : Nat → Nat
opaque Config.stallEvent : Nat → Nat

/-- Underflow is judged after rounding rather than before, which IEEE 754 leaves to the implementation (R336). -/
opaque Config.tinyAfter : Bool

/-- Depth of the GNSS record queue, in epochs (R33). -/
opaque Config.gnssQueueDepth : Nat

end Sys2Proof
end

