-- ==== Sys2Proof/Machine/State.lean ====
section
/-!
DEFINITION. The state of the block: every register, queue, counter, mode and pin that the chapters give it, as plain data,
with the queue of waiting commands; the reasons a step can stop; and the state after reset.
Units: long counts and phases in 2⁻¹⁶ ns, control values in 2⁻⁵⁶, frequencies in 10⁻¹⁵, unless a field says otherwise.
-/
set_option Elab.async false
namespace Sys2Proof.Machine

/-! ## Clock groups and resets (01) -/

/-- The clock groups: CLOCK_GROUP_STATUS (R22, R23) and what a loss of a source leaves behind (R25, R26, R27). -/
structure Clk where
  /-- CLOCK_GROUP_STATUS (0xD100:01–0F), entry g − 1 for group g (R22, R23). -/
  groups : List Nat
  /-- XO runs from the backup oscillator (R26). -/
  xoBackup : Bool
  /-- The clock monitor flags the local oscillator (R25). -/
  oscLost : Bool
  /-- A commanded relock of CPLL is in progress (R27, R29). -/
  relockC : Bool
  /-- A commanded relock of EPLL is in progress (R27, R29). -/
  relockE : Bool
deriving DecidableEq, Repr

/-- An anchor record (R51). `full` is FULL_A in units of 2⁻¹⁶ ns. -/
structure Anchor where
  aseq : Nat
  flags : Nat
  nsc : Nat
  full : Int
  stepNs : Int
  /-- Long count of the cycle that latched it, 2⁻¹⁶ ns: the whole of what `nsc` shows 48 bits of (R49). -/
  at_ : Nat
deriving DecidableEq, Repr

/-- An anchor on its way to the engines (R50, R115): the long counts of the anchor before and of its own, Σ u × time of the second it
closes in 2⁻⁵⁶ × 2⁻¹⁶ ns, and its record. -/
structure AnchorDue where
  start : Nat
  stop : Nat
  area : Int
  record : Anchor
deriving DecidableEq, Repr

/-! ## Time base (02) -/

/-- A count of TB cycles (R44, R57): the long count of its first cycle, what each cycle adds, whether it is the coarse count, and
the fraction that stamps and anchors show on it then. All in 2⁻¹⁶ ns. -/
structure Count where
  from_ : Nat
  inc : Nat
  coarse : Bool
  frac : Nat
deriving DecidableEq, Repr

/-- The time base: long count, offset register, steps waiting, anchors and the coarse bound (R43–R61, R64). -/
structure TimeBase where
  /-- Long count and fraction, one number in units of 2⁻¹⁶ ns, 80 bits (R43). -/
  lc : Nat
  /-- Offset register in ns (R43). -/
  offset : Int
  /-- The time base has been set (R45, R70). -/
  isSet : Bool
  /-- Set by TIME_SET only, with no class T reference followed since (R219, SRC 0x08). -/
  setByWrite : Bool
  /-- The reference selected when the time was last set or stepped: 0xFE for TIME_SET, 0xFF before (R200). -/
  stepRef : Nat
  /-- ANCHOR_RING, entry ASEQ mod 16 (R50). -/
  ring : List Anchor
  /-- ASEQ of the next anchor (R51). -/
  nextAseq : Nat
  /-- A TIME_SET waiting: the second it takes at its boundary, and the number of boundaries to let pass (R47). -/
  pendSet : Option (Nat × Nat)
  /-- A servo step waiting, in ns (R46). -/
  pendStep : Option Int
  /-- Coarse count: 0 disciplined, 1 local oscillator, 2 safe clock (R25, R57). -/
  coarse : Nat
  /-- G_0 of R59. -/
  coarseG0 : Nat
  /-- T_c at entry in 2⁻¹⁶ ns, for the 2 × T_c of R59. -/
  coarseTc : Nat
  /-- Growth already earned at earlier rates, in 2⁻¹⁶ ns × 10⁻¹² (R59, R68). -/
  coarseAcc : Nat
  /-- The rate ρ in force, 10⁻¹² (R59). -/
  coarseRho : Nat
  /-- Long count from which ρ counts. -/
  coarseFrom : Nat
  /-- The coarse bound still floors the girth after a return (R61). -/
  coarseFloor : Bool
  /-- Measurements still needed before the floor ends (R61). -/
  coarseLeft : Nat
  /-- The next anchor carries RETURN (R61). -/
  returnDue : Bool
  /-- The counts of TB cycles, newest first: the one that runs, and the earlier ones that an edge of less than 2³¹ ns ago can have
fallen in (R44, R54, R57, R61). -/
  counts : List Count
  /-- Long count of the anchor that carried RETURN; none while it is still due (R61). -/
  returnAt : Option Nat
  /-- Long counts from which the condition of DEGRADED holds or no longer holds, newest first, back to 2³¹ ns (R54, R56). -/
  degraded : List (Nat × Bool)
  /-- Anchors that wait for the engines while their clock is gated, oldest first (R27, R50). -/
  waiting : List AnchorDue
  /-- UTC_OFFSET_VALID (R64). -/
  utcValid : Bool
  /-- The last leap carried out: its LEAP_TAI and the offset before it, for times that lie before it (R65, R315). -/
  lastLeap : Option (Nat × Int)
deriving DecidableEq, Repr

/-! ## References and selection (03) -/

/-- Qualification states of R80. -/
inductive QState where
  | disabled | absent | soaking | qualified | suspect | disqualified
deriving DecidableEq, Repr

/-- One reference (R69–R84). -/
structure Ref where
  state : QState
  /-- Received QL (R75, R76). -/
  qlRx : Nat
  /-- FREQ_OFFSET, 10⁻¹⁵ (R78). -/
  freqOffset : Int
  /-- FREQ_TREND, 10⁻¹⁵ per s (R78). -/
  freqTrend : Int
  /-- PHASE_OFFSET, 2⁻¹⁶ ns: reference time − time-base time (R79). -/
  phaseOffset : Int
  /-- Last measurement, if one has been delivered since the signal returned: long count and phase (R121). -/
  lastMeas : Option (Nat × Int)
  /-- The last 128 phase measurements, newest first, for the regression prediction and for PT0–PT3's frequency (R78, R79). -/
  phases : List (Nat × Int)
  /-- The last 32 frequency estimates of the present signal, newest first, each with the long count at which its window ended,
10⁻¹⁵ (R78). -/
  estimates : List (Nat × Int)
  /-- Remaining soak in s (R82). -/
  soakLeft : Nat
  /-- Seconds the SUSPECT row has held (R82). -/
  clearRun : Nat
  /-- Full gates with the signal present while ABSENT, or with every cause cleared while DISQUALIFIED (R82). -/
  gateRun : Nat
  /-- DISQ_CAUSE (R91). -/
  cause : Nat
  /-- Long counts of window faults (R81). -/
  windowFaults : List Nat
  /-- Consecutive measurement epochs of GN0 without a valid solution (R81). -/
  misses : Nat
  /-- The paired ToD sentence names another second (R82). -/
  todMismatch : Bool
  /-- The signal is present (R82). -/
  present : Bool
  /-- The last ToD sentence carried a date, so the reference delivers seconds (R70). -/
  seconds : Bool
  /-- y_ref of the last valid 1 s estimate, against u_h, 10⁻¹⁵ (R104, R121). -/
  yRef : Int
  /-- CH_FREQ_SIGMA of the last 60 estimates, newest first (R138). -/
  sigmas : List Nat
  /-- Stamp of the last PPS edge inside its window (R81). -/
  lastEdge : Option Nat
  /-- Long count at which it last left DISABLED or ABSENT, from which the timeouts of its received QL run (R76). -/
  leftAt : Nat
deriving DecidableEq, Repr

/-- The selector and the forced pins (R85–R90, R91). -/
structure Select where
  /-- SELECTED_REF; 0xFF none (R91). -/
  current : Nat
  /-- SELECT_STATE (R91). -/
  state : Nat
  /-- SELECT_SOURCE (R91). -/
  source : Nat
  /-- SWITCH_COUNT (R91). -/
  count : Nat
  /-- A switch in progress: the reference left, and the long count of its tick (R88, R121). -/
  switching : Option (Nat × Nat)
  /-- The target became ABSENT during the switch (R88). -/
  targetLost : Bool
  /-- Latched pins: [2:0] REF_FORCE, [3] REF_FORCE_EN (R90). -/
  latched : Nat
  /-- Raw pins, same layout (R90). -/
  raw : Nat
  /-- The debounce is running (R90). -/
  debouncing : Bool
  /-- Pins whose IN_ELEC has been written since the last anchor (R541). -/
  elecDue : List Nat
deriving DecidableEq, Repr

/-- A ToD receiver, TOD_RX0 or TOD_RX1 (R73). -/
structure TodRx where
  /-- Sentences discarded outside the window (R73). -/
  discarded : Nat
  /-- The second the last valid sentence named, if it carried a date. -/
  lastSecond : Option Nat
deriving DecidableEq, Repr

/-! ## TIU (04) -/

/-- A stamp record of R96. `stamp` is the whole long count of the edge in 2⁻¹⁶ ns (TS48 and LC_HI together). -/
structure TiuRec where
  stamp : Nat
  status : Nat
  gap : Bool
  glitch : Bool
  edge : Nat
deriving DecidableEq, Repr

/-- One TIU channel (R93–R103, R107). -/
structure Tiu where
  /-- Prescaler N forced by the part after a rate recomputation, 0 when CH_DIV decides (R95). -/
  forcedN : Nat
  /-- EDGE of the next stamped edge (R96). -/
  edge : Nat
  /-- EDGE of the last record delivered, extended to 64 bits (R99). -/
  ext : Nat
  /-- FIFO of records waiting for the engines, oldest first (R99). -/
  fifo : List TiuRec
  gapDue : Bool
  glitchDue : Bool
  /-- Long count of the last stamped edge (R98). -/
  lastStamp : Option Nat
  /-- Records kept for the windows, newest first (R101). -/
  window : List TiuRec
  /-- Long count at the start of the current gate window, and the anchors latched before it (R101). -/
  gateStart : Nat
  gateSeq : Nat
  /-- Start and end of the window of the last 1 s estimate (R101, R104). -/
  estFrom : Nat
  estTo : Nat
  freq : Int
  freqGate : Int
  sigma : Nat
  resid : Nat
  stamps : Nat
  overflow : Nat
  deadTime : Nat
  /-- CH_EST_STATUS (R107). -/
  estStatus : Nat
  /-- A window that begins before this long count gives no estimate: the end of a system reset, or of a reconfiguration
  (R100, R108). -/
  quiet : Nat
deriving DecidableEq, Repr

/-! ## Servo (05) -/

/-- Servo states of R116. -/
inductive SState where
  | free | acquire | track | freq | phaseOnly | buildOut | align | holdover
deriving DecidableEq, Repr

/-- SERVO_STATE's codes (R116). -/
def SState.code : SState → Nat
  | .free => 0
  | .acquire => 1
  | .track => 2
  | .freq => 3
  | .phaseOnly => 4
  | .buildOut => 5
  | .align => 6
  | .holdover => 7

/-- A ramp of u (R119, R121): what u had beyond its new value at the start, 2⁻⁵⁶, the long count of the start, and the limit at which
it goes to 0, 10⁻¹⁵ per s. `phase` tells that the phase it adds goes into φ_b (R121 step 3), and `align` that the switch it belongs to
slews φ_b out, so that this phase joins the slew (R122, R124). -/
structure Ramp where
  diff : Int
  start : Nat
  slope : Nat
  phase : Bool
  align : Bool
deriving DecidableEq, Repr

/-- Why a step has been issued (R110, R117, R124): for ACQUIRE or by a command; on a return from holdover; on a return that a later
switch has overtaken. -/
inductive StepKind where
  | plain | onReturn | overtaken
deriving DecidableEq, Repr

/-- One second between two anchors (R115): its long counts, Σ u × time in 2⁻⁵⁶ × 2⁻¹⁶ ns, and the u_h in force, 2⁻⁵⁶. -/
structure SteerSec where
  start : Nat
  stop : Nat
  area : Int
  uh : Int
deriving DecidableEq, Repr

/-- The servo on SC0 (R109–R125). -/
structure Servo where
  state : SState
  /-- Control value u, 2⁻⁵⁶ (R109). -/
  u : Int
  /-- Integrator i, 2⁻⁵⁶ (R112). -/
  i : Int
  /-- Last phase error e, 2⁻¹⁶ ns (R111). -/
  e : Int
  /-- Build-out offset φ_b, 2⁻¹⁶ ns (R111, R121). -/
  phiB : Int
  /-- SERVO_BW_EFFECTIVE in mHz (R113). -/
  bw : Nat
  /-- Y_STEER, 10⁻¹⁵ (R115). -/
  ySteer : Int
  /-- Consecutive measurements with |e| below LOCK_PHASE (R116). -/
  lockRun : Nat
  /-- ACQUIRE has ended since power-on reset (R117). -/
  acquired : Bool
  /-- ACQUIRE has begun since power-on reset (R116). -/
  started : Bool
  /-- The integrator is frozen (R118). -/
  frozen : Bool
  /-- A ramp of u in progress (R119, R121). -/
  ramp : Option Ramp
  /-- Long count of the last processed measurement since the switch, and of the last of a class T reference (R314). -/
  lastT : Option Nat
  lastClassT : Option Nat
  /-- Decimation: sum and count of measurements not yet processed (R111). -/
  decSum : Int
  decCount : Nat
  /-- The last |e|, newest first, 2⁻¹⁶ ns (R211). -/
  eHist : List Nat
  /-- Long count since which the loop has stayed at its slope limit (R125). -/
  slopeSince : Option Nat
  /-- Σ u × time since the last anchor, 2⁻⁵⁶ × 2⁻¹⁶ ns, and where it was last brought up to date (R115). -/
  uSum : Int
  uSumT : Nat
  /-- A step issued by the servo waits for its boundary (R117, R124). -/
  stepWait : Bool
  /-- What the pending step is for (R110, R117, R124). -/
  stepKind : StepKind
  /-- The last seconds between anchors, newest first, as far back as a window of R101 reaches (R104, R115). -/
  seconds : List SteerSec
  /-- The current holdover end carries R124's alignment whatever CHANGE_MODE holds. -/
  fromHoldover : Bool
  /-- SC0 is reset and not yet restored (R120). -/
  suspended : Bool
deriving DecidableEq, Repr

/-- The hardware phase accumulator (R109, R110). -/
structure Accum where
  /-- The control value it applies, 2⁻⁵⁶. -/
  u : Int
  /-- Slew: what remains in 2⁻¹⁶ ns, and the rate in ps/s. -/
  slewLeft : Int
  slewRate : Nat
  slewing : Bool
deriving DecidableEq, Repr

/-! ## Holdover, oven, atomic (06) -/

/-- An entry of the history ring (R130); TEMP in 1/256 °C. -/
structure HistEntry where
  uMean : Int
  temp : Int
  flags : Nat
  aseq : Nat
deriving DecidableEq, Repr

/-- A one-minute sum (R41, R131). -/
structure MinuteSum where
  sumU : Int
  sumT : Int
  count : Nat
deriving DecidableEq, Repr

/-- The holdover model and its history (R128–R138). Temperatures in 1/256 °C. -/
structure Holdover where
  /-- The model has been valid at least once (R78). -/
  everValid : Bool
  /-- u_0 and s_u0 in 10⁻¹⁸ (R128, R133). -/
  u0 : Int
  su0 : Nat
  /-- t_m: mean time of the window, in 1/256 s of the anchor number (R128). -/
  tm : Int
  /-- T_w in 1/256 °C (R128). -/
  tw : Int
  /-- a and s_a in use, 10⁻¹⁸ per s (R128, R134). -/
  a : Int
  sa : Nat
  /-- k_T and s_kT in use, 10⁻¹⁵ per °C (R128, R134). -/
  kT : Int
  skT : Nat
  /-- The terms of the last fit: a, s_a, k_T, s_kT; none before the first (R133, R134). A fit that completes during holdover
  waits here until holdover ends (R135). -/
  learned : Option (Int × Nat × Int × Nat)
  /-- The averaging window has held an entry, so that u_0 has a value (R128). -/
  hasWin : Bool
  /-- Learnable entries of the averaging window, the frozen one in holdover (R128, R135). -/
  winCount : Nat
  /-- The model is frozen by holdover (R128). -/
  frozen : Bool
  /-- Holdover runs on an invalid model (R136). -/
  invalid : Bool
  /-- Long count of entry to holdover or of the freeze in force (R137, R214). -/
  entry : Nat
  /-- What gives φ_e: |Δu| of the entry ramp in 2⁻⁵⁶, and FREQ_SLOPE_LIMIT at entry (R119, R137). -/
  phiDu : Nat
  phiL : Nat
  /-- ΔT_max, 1/256 °C (R137). -/
  dTmax : Nat
  /-- A sensor fault of the compensation temperature has occurred since entry (R137). -/
  faultSeen : Bool
  /-- u_h at the last anchor, 2⁻⁵⁶ (R128). -/
  uh : Int
  /-- HO_GROWTH, 1/16 ns (R137). -/
  growth : Nat
  /-- H carried as a constant into the growth in force, 1/16 ns (R138). -/
  carry : Nat
  /-- Class F growth in force since this long count (R138). -/
  classF : Option Nat
  /-- The last 60 CH_FREQ_SIGMA of the class F reference (R138). -/
  sigmaF : List Nat
  /-- The history ring, newest first, at most 86,400 entries (R130); and the entries put into it since it was last cleared. -/
  ring : List HistEntry
  ringPut : Nat
  /-- The learned terms are to be fitted again at the next anchor (R542). -/
  refitDue : Bool
  /-- The one-minute sums, newest first, at most 1,440 (R41, R131). -/
  minutes : List MinuteSum
  /-- Seconds in the newest minute sum. -/
  minuteFill : Nat
  /-- Anchors since the first at which WARM_FLAG rose (R133). -/
  anchorsWarm : Option Nat
  /-- T(t): the mean compensation temperature of the last second that had one free of a sensor fault, 1/256 °C (R128). -/
  lastTemp : Int
  /-- Sum in 0.001 °C and count of the compensation temperature's values in the second that runs (R128, R130). -/
  tempSum : Int
  tempCount : Nat
  /-- In the second that runs: a condition of R132 has failed, the time base has left the disciplined count, the compensation
  temperature has had a sensor fault (R130, R132). -/
  learnGap : Bool
  coarseGap : Bool
  faultGap : Bool
deriving DecidableEq, Repr

/-- The oven controller, the warm flag and the ambient estimate (R145–R150). Temperatures in 0.001 °C. -/
structure Oven where
  temp : Int
  sampleSum : Int
  samples : Nat
  /-- Oven temperature of the previous loop step (R145). -/
  prevTemp : Option Int
  /-- Integrator, 10⁻⁸ %. -/
  integ : Int
  /-- Driven duty, 0.01 % (R145). -/
  duty : Nat
  /-- Sensor fault (R147). -/
  sensorFault : Bool
  /-- Consecutive samples free of the fault (R147). -/
  goodRun : Nat
  /-- Over-temperature (R147). -/
  overTemp : Bool
  /-- WARM_FLAG (R150). -/
  warm : Bool
  /-- OVEN_WARM_IN level (R148). -/
  warmPin : Bool
  /-- The last 60 valid offsets of channel 0x1E against the selected reference, newest first, each with the long count of its anchor,
10⁻¹⁵ (R150). -/
  offsets : List (Nat × Int)
  /-- The reference those offsets are against; 0xFF for none yet. -/
  offRef : Nat
  /-- WARM_SLOPE, 10⁻¹⁵ per minute (R150). -/
  slope : Int
  /-- Long count since which the conditions of a rise of WARM_FLAG have held, and since which those of its fall have (R150). -/
  condSince : Option Nat
  awaySince : Option Nat
  /-- AMBIENT_EST (R149). -/
  ambient : Int
deriving DecidableEq, Repr

/-- Atomic steering (R142–R144). -/
structure Atomic where
  /-- ATOMIC_ADJ, 10⁻¹⁵ (R144). -/
  adj : Int
  /-- ATOMIC_STATE (R143). -/
  state : Nat
  /-- Sequence number of the next sentence (R143). -/
  seq : Nat
  /-- Replies discarded (R143). -/
  discarded : Nat
  /-- The transmit line: the last sentence or relay bytes sent (R142, R143). -/
  sent : List Nat
  /-- Long count of the last status that the module or the relay gave (R75, R143). -/
  lastStatus : Nat
  /-- Writes of ATOMIC_RELAY_TX and ATOMIC_RELAY_STATUS that wait for the next steering second (R142, R152). -/
  relayTx : Option Nat
  relayStatus : Option Nat
deriving DecidableEq, Repr

/-! ## Girth (09) -/

/-- What freezes the girth terms (R214). -/
inductive Freeze where
  | none | holdover | switch | classF | takeover
deriving DecidableEq, Repr

/-- The girth (R210–R227). -/
structure Girth where
  /-- The girth register, GIRTH_NOW (R226). -/
  now : Nat
  b : Nat
  m : Nat
  sTerm : Nat
  h : Nat
  a : Nat
  freeze : Freeze
  /-- Long count of the freeze in force (R214). -/
  freezeT : Nat
  /-- A value has been written at the last anchor or since (R500). -/
  written : Bool
  /-- Long count of the anchor from which R226 grows the register, while no value is written. -/
  growFrom : Option Nat
  rejected : Nat
  /-- Claims per reference (R216); entry 17 is the peer's (R227). -/
  claims : List (Option Claim)
  /-- Last effective claim of each reference whose claim is absent (R229). -/
  lastC : List Nat
  /-- G has been composed since the reset (R229). -/
  composed : Bool
  /-- Source type of the last class T reference (R219). -/
  src : Nat
  /-- HFLAGS of the own hop at the last composition (R220). -/
  hflags : Nat
  /-- The claim in use at the last composition (R221). -/
  inUse : Option Claim
  /-- The reference of the terms composed last (R211). -/
  refN : Nat
  /-- 3 × GN_TIME_SIGMA and the mean path delay at the last composition, 1/16 ns: what a frozen B or A goes on from (R214, R230). -/
  bBase : Nat
  aBase : Nat
  /-- QL served at the last anchor outside a switch (R173, R218). -/
  ql : Nat
  /-- Terms, 0 B, 1 M, 2 S, 3 H, 4 A, whose input has been unavailable for 10 s, with the long count of that (R213). -/
  lapsed : List (Nat × Nat)
  /-- TIME_VALID (R18). -/
  timeValid : Bool
deriving DecidableEq, Repr

/-! ## Synthesis and outputs (07) -/

/-- An output APLL: active values, lock state and counters (R155, R157, R163). -/
structure Apll where
  p : Nat
  nInt : Nat
  nFrac : Nat
  q : Nat
  /-- APLL_LOCK_STATE: 0 off, 1 locked, 2 relock after commit, 3 relock after loss (R179). -/
  lock : Nat
  loss : Nat
  /-- f_VCO in µHz that the loop would deliver in this relock without the clamp of R162: a free value. -/
  pull : Nat
deriving DecidableEq, Repr

/-- What an IRIG-B frame codes (R175, R176): year and control functions where the code carries them, and the straight binary
seconds. Bit i of `cf` is position 60 + i. -/
structure IrigFrame where
  year : Option Nat
  day : Nat
  hour : Nat
  minute : Nat
  second : Nat
  cf : Option Nat
  sbs : Option Nat
deriving DecidableEq, Repr

/-- The pulse-density stream of a modulated IRIG-B output (R177): its rate and carrier in Hz, and mark to space in tenths. -/
structure PdStream where
  rate : Nat
  carrier : Nat
  ratio : Nat
deriving DecidableEq, Repr

/-- An output: the committed values of its block 0x4900+n and what it is doing (R156–R171). -/
structure Output where
  enable : Bool
  apll : Nat
  div : Nat
  format : Nat
  mode : Nat
  phase : Int
  rate : Nat
  width : Nat
  align : Bool
  holdOnRelock : Bool
  stepAllow : Bool
  stepMin : Nat
  idle : Nat
  irigCode : Nat
  irigScale : Nat
  irigCf : Nat
  irigMr : Nat
  startGate : Nat
  /-- The output emits edges (R159). -/
  running : Bool
  /-- The driver is at high impedance (R159, R161). -/
  highZ : Bool
  /-- The framer free-runs (R164). -/
  freeRun : Bool
  /-- OUTn_SKEW and U_n in force, taken at second boundaries (R169, R514). -/
  skew : Int
  skewUnc : Nat
  /-- a, 2⁻¹⁶ ns (R170). -/
  alignErr : Int
  /-- Commanded placement relative to the target, 2⁻¹⁶ ns (R170). -/
  placed : Int
  /-- A slew: the fine phase steps q_f that the edges of the second after long count `moveFrom` share (R170). -/
  move : Int
  moveFrom : Nat
  /-- Long count until which a step holds the output at its idle level (R170). -/
  heldTo : Nat
  /-- Long count until which the high phase lasts that was in progress when a stop came due or the placement was changed: neither
  shortens it (R159, R170). -/
  highTo : Nat
  /-- Long count of a rising edge of a divider that is not tied to time: that of its start (R156, R159). -/
  origin : Nat
  /-- While the framer free-runs: the drift of the coarse count at which it began to (R164). -/
  shift : Int
  /-- No valid loopback record for 10 s (R170). -/
  loopDead : Bool
  /-- Relock girth hold of R162: unbounded until a is small again. -/
  girthHeld : Bool
  /-- s_n, 2⁻¹⁶ ns (R171). -/
  sigma : Nat
  starts : Nat
  /-- A stop is due: a commit, a loss of lock, a withdrawn halter enable or HO_PULSE_POLICY (R158, R161, R162, R178). -/
  committing : Bool
  /-- Long count before which it does not start: a commit's boundary (R158), a takeover (R453). -/
  notBefore : Nat
  /-- The IRIG-B frame that the output sends, the one that follows it with the long count at which it begins, and the stream that
  carries a modulated one (R175–R177). -/
  frame : Option IrigFrame
  nextFrame : Option (Nat × IrigFrame)
  stream : Option PdStream
deriving DecidableEq, Repr

/-- A sentence of R172, field by field; `format` is TOD_TXu_FORMAT. -/
structure TodSentence where
  format : Nat
  tai : Nat
  /-- yyyymmdd and hhmmss as decimal numbers. -/
  date : Nat
  time : Nat
  leap : Nat
  off : Int
  ql : Nat
  girth : Nat
  flags : Nat
deriving DecidableEq, Repr

/-- A ToD transmitter (R172–R174). -/
structure TodTx where
  /-- Settings in force since the last second boundary (R180). -/
  enable : Bool
  source : Nat
  format : Nat
  baud : Nat
  delay : Nat
  /-- The last sentence sent, and its characters on the line. -/
  sent : Option TodSentence
  line : List Nat
  lastQl : Nat
deriving DecidableEq, Repr

/-- Output APLLs, outputs and the commit (R153–R178). -/
structure Synth where
  aplls : List Apll
  outs : List Output
  tod : List TodTx
  /-- A commit waiting: the mask, the outputs it includes, bit n for OUTn, and the ASEQ of the anchor at whose boundary it is applied
  (R157). -/
  pending : Option (Nat × Nat × Nat)
  /-- APLL mask in relock after a commit (R158). -/
  relocking : Nat
  /-- PULSE_SLEW_RATE in force since the last second boundary (R180). -/
  slewRate : Nat
  /-- Pulse and IRIG-B outputs and ToD sentences are stopped by HO_PULSE_POLICY (R140, R178). -/
  policy : Bool
  /-- OSC_NOMINAL_HZ in force since power-on reset, µHz (R151). -/
  fosc : Nat
  /-- While the time base is not disciplined: Σ u × time since then at long counts, newest first, 2⁻⁵⁶ × 2⁻¹⁶ ns, as far back as a
  loopback record of the last second reaches (R164). -/
  drift : List (Nat × Int)
deriving DecidableEq, Repr

/-! ## GNSS (08) -/

/-- An IF input GIFk (R182–R188). -/
structure Gif where
  /-- GIF_STATUS (R208). -/
  status : Nat
  jam : Nat
  agc : Nat
  sfm : Nat
  /-- Notches in use: centre in Hz, level in 0.1 dB, and 10 ms periods its line has been below (R186). -/
  notches : List (Option (Int × Nat × Nat))
  /-- 100 ms updates with J below GN_JAM_THRESHOLD − 16, in a row (R188). -/
  quiet : Nat
  /-- Bits by which the alignment of sample words is shifted (R184). -/
  slip : Nat
deriving DecidableEq, Repr

/-- Where a signal was last held: code phase in 2⁻³² ms less the long count, modulo its primary code, Doppler in mHz, and the long
count of that moment (R190; log entry 129). -/
structure Fix where
  code : Nat
  dop : Int
  at_ : Nat
deriving DecidableEq, Repr

/-- An entry of the target list (R190): signal, satellite, the long count until which it stands at the front, and where it was last held. -/
structure Target where
  sig : Nat
  svid : Nat
  until_ : Nat
  last : Option Fix
  /-- It has been returned to the end of the list in this round (R190). -/
  done : Bool
deriving DecidableEq, Repr

/-- A search grid (R189, R190): code phase of its first code step in 2⁻³² ms less the long count, number of code steps and steps to a
chip, lowest Doppler in mHz, number of Doppler bins, coherent time in ms, and the statistic's threshold in 0.01. -/
structure Grid where
  code0 : Nat
  codes : Nat
  step : Nat
  dop0 : Int
  bins : Nat
  tc : Nat
  threshold : Nat
deriving DecidableEq, Repr

/-- A search engine (R189, R190). -/
structure Search where
  /-- The target: signal code and satellite, none while it picks one. -/
  target : Option (Nat × Nat)
  /-- The grid of the target, and the place in it (R190). -/
  cell : Nat
  grid : Grid
  /-- Re-tests left of the 4, and hits among them (R190). -/
  retests : Nat
  hits : Nat
  verifying : Bool
  /-- A hit waits at its cell for a free channel (R190). -/
  waiting : Bool
  /-- Paused by the governor (R191). -/
  paused : Bool
deriving DecidableEq, Repr

/-- A tracking channel (R192–R194). -/
structure Track where
  sig : Nat
  svid : Nat
  /-- TRK_STATE (R192). -/
  state : Nat
  cn0 : Nat
  doppler : Int
  spacing : Nat
  vspacing : Nat
  /-- Code phase in 2⁻³² ms less the long count, modulo the primary code, and the long count at which it was found (R190). -/
  code : Nat
  codeAt : Nat
  /-- Long count of the first of the epochs in a row with C/N₀ below GN_CN0_DROP (R194). -/
  lowSince : Option Nat
deriving DecidableEq, Repr

/-- A satellite's navigation data as the engines hold it (R199, R200). -/
structure SvData where
  sig : Nat
  svid : Nat
  /-- Full time seconds of the last ephemeris; an ephemeris is held (R195). -/
  ephTime : Option Int
  /-- Issue of data of that ephemeris; it has been superseded by another (R195). -/
  iod : Option Nat
  stale : Bool
  /-- Predicted elevation in degrees and predicted Doppler in mHz, when almanac data give them (R189, R190). -/
  elev : Option (Nat × Int)
  /-- Second of the last data unit that a navigation channel completed on the signal (R195; log entry 130). -/
  navAt : Option Int
  /-- ADKD 0 verified for the current ephemeris (R201). -/
  adkd0 : Bool
  /-- Excluded by OSNMA until this second (R200). -/
  excludedUntil : Int
deriving DecidableEq, Repr

/-- An entry of a measurement record as the engines use it (R197): channel, signal, satellite, TFLAGS, TXT, CN0. -/
structure EpochEntry where
  ch : Nat
  sig : Nat
  svid : Nat
  tflags : Nat
  txt : Nat
  cn0 : Nat
deriving DecidableEq, Repr

/-- A measurement record that waits for the engines (R197, R198): EPOCH_SEQ, EFLAGS and entries. -/
structure EpochRec where
  seq : Nat
  eflags : Nat
  entries : List EpochEntry
deriving DecidableEq, Repr

/-- GNSS baseband and time solution (R181–R208). -/
structure Gnss where
  gifs : List Gif
  engines : List Search
  /-- Tracking channels that are not IDLE: number and contents, ascending. -/
  tracks : List (Nat × Track)
  /-- The target list (R190). -/
  targets : List Target
  /-- EPOCH_SEQ of the next epoch edge (R197). -/
  epochSeq : Nat
  /-- Measurement records of epochs waiting for the engines (R197, R33). -/
  epochs : List EpochRec
  epochDropped : Bool
  /-- Conditions of R201 found at the last epoch: enough authenticated satellites, and the cross-check failed. -/
  enough : Bool
  crossFail : Bool
  notchMoved : Bool
  ifLoss : Bool
  svs : List SvData
  osnmaChain : Bool
  /-- Second of the last ADKD 4 verification (R201). -/
  adkd4 : Option Int
  /-- GN0 verified since power-on reset (R200). -/
  everVerified : Bool
  osnmaFail : Option Int
  /-- Held position by survey, mm (R202). -/
  position : Option (Int × Int × Int)
  surveyLeft : Nat
  surveySum : Int × Int × Int
  surveyCount : Nat
  /-- Time of the valid epochs that the survey has averaged, in 0.01 s (R202). -/
  surveyTime : Nat
  /-- Position of the last solution that solved one, mm (R208). -/
  lastPos : Option (Int × Int × Int)
  /-- System and satellite of each entry of the last solution (R195). -/
  used : List (Nat × Nat)
  /-- Dynamic position that the newest record in a hold mode gives, mm, until it is compared (R202). -/
  dynPos : Option (Int × Int × Int)
  /-- Seconds in a row with the dynamic position away from the held one (R202). -/
  posMismatch : Nat
  solStatus : Nat
  timeOffset : Int
  timeSigma : Nat
  /-- GN_TIME_SIGMA of the last valid solution, which the reference bound takes (R206, R213). -/
  boundSigma : Nat
  svUsed : Nat
  svExcluded : Nat
  residRms : Nat
  isb : List Int
  /-- Broadcast offsets from GPS time of Galileo and of BeiDou, 2⁻¹⁶ ns, once received, and the TAI second of that (R204). -/
  isbBcast : List (Option (Int × Int))
  isbFlags : Nat
  verified : Bool
  droppedEpochs : Nat
  navErrors : Nat
  /-- Units with checks passed that agree on the leap data: offset, pending, second, count (R206). -/
  leapSeen : Option (Int × Nat × Nat × Nat)
  /-- GN0 held at DNU by the jamming indicator (R188). -/
  jamDnu : Bool
  /-- The GNSS clock runs (R22). -/
  clock : Bool
deriving DecidableEq, Repr

/-! ## Lanes and port stamps (10, 11) -/

/-- A quad of Ethernet lanes (R231–R235). -/
structure Quad where
  /-- Mode and FEC in force (R235). -/
  mode : Nat
  fec : Nat
  /-- QUAD_STATE (R253): 0x03 from the loss of the reference clock until it is back and the PLL has relocked (R234). -/
  state : Nat
  /-- The reference clock is lost (R234). -/
  refLost : Bool
deriving DecidableEq, Repr

/-- A lane (R236–R248, R253), with the port stamp unit's figures of the lane (R257–R266). -/
structure Lane where
  /-- LANE_STATE (R253). -/
  state : Nat
  fom : Nat
  ctle : Nat
  /-- LANE_DFE where adaptation has stopped (R239). -/
  dfe : List Int
  /-- LANE_TX_FIR_USED: c(−1), c(0), c(+1) (R237). -/
  fir : Int × Int × Int
  txSleep : Bool
  rxSleep : Bool
  /-- The figure-of-merit warning is armed (R242). -/
  warnArmed : Bool
  linkDowns : Nat
  retrains : Nat
  fecCorr : Nat
  fecUncorr : Nat
  rxDrop : Nat
  trainFails : Nat
  lpiUnexpected : Nat
  /-- The F1 of R248 has been raised since the last bring-up. -/
  lpiRaised : Bool
  /-- 10 ms scans in a row at or above LANE_FOM_WARN + 32, below LANE_FOM_WARN and below LANE_FOM_MIN (R242). -/
  fomRun : Nat
  lowRun : Nat
  minRun : Nat
  /-- Long count of the last link-up (R266). -/
  upAt : Nat
  /-- Settings taken at the last bring-up (R254): polarity, training, CTLE mode and the fixed code. -/
  txPol : Bool
  rxPol : Bool
  train : Nat
  ctleMode : Nat
  ctleFixed : Nat
  /-- In this bring-up the CTLE sweep has ended, and the lane has completed (R238, R243). -/
  swept : Bool
  done : Bool
  /-- Mode and FEC advertised at the last bring-up under LANE_TRAIN 0x02 (R243). -/
  adv : Option (Nat × Nat)
  /-- EEE ability advertised at the last bring-up (R247, R248). -/
  eee : Bool
  /-- ESMC: the QL last sent, and PDUs sent (R250). -/
  esmcQl : Nat
  esmcSent : Nat
  /-- The last ESMC PDU: SSM, eSSM, event (R250). -/
  esmcPdu : Option (Nat × Nat × Bool)
  /-- Interpolator span calibrated at this long count (R258). -/
  spanCal : Option Nat
  spanFault : Bool
  /-- PORT_STAMP_STATE (R266). -/
  stampState : Nat
  /-- Alignment measurements, newest first: A_rx bits, A_tx in 2⁻⁸ UI (R265). -/
  aligns : List (Nat × Nat)
  aRx : Nat
  aTx : Nat
  /-- Delays in use since the last bring-up, 2⁻¹⁶ ns (R260, R261). -/
  dTx : Int
  dRx : Int
  /-- U_tx,int, U_rx,int and U_ext in force, 2⁻¹⁶ ns: of the last bring-up, or raised since (R260, R261). -/
  uTx : Nat
  uRx : Nat
  uExt : Nat
  /-- U_ctle in 2⁻¹⁶ ns × 1000 is kept as CTLE changes since bring-up (R264). -/
  ctleChanges : Nat
  /-- Long count of the last CTLE change (R264). -/
  ctleAt : Option Nat
  /-- U_ctle has exceeded PORT_CTLE_UNC_MAX since the last bring-up (R264). -/
  ctleOver : Bool
  stampsDropped : Nat
  staleDiscards : Nat
  /-- The external parts of the delays in use, and the loop measurement (R263): calibration frames sent, when the next one may be sent,
  transmit stamps of those that are under way, and number, sum and sum of squares of t_rx′ − t_tx′. -/
  extTx : Int
  extRx : Int
  calSent : Nat
  calNext : Nat
  calTx : List (Nat × Int)
  calGot : Nat
  calSum : Int
  calSq : Nat
  /-- PORT_CAL_RESULT: E, σ, status (R263, R268). -/
  calE : Int
  calSigma : Nat
  calStatus : Nat
  calDropped : Nat
deriving DecidableEq, Repr

/-- A peer-link lane (R251, R252). -/
structure PeerLane where
  /-- PEER_STATE (R253). -/
  state : Nat
  fom : Nat
  /-- CTLE code in use, its sweep in this bring-up, transmit taps, and DFE taps where adaptation has stopped (R237–R240). -/
  ctle : Nat
  swept : Bool
  fir : Int × Int × Int
  dfe : List Int
  warnArmed : Bool
  /-- 10 ms scans in a row that re-arm the warning, that are below the warning's threshold and below the retrain's (R242). -/
  fomRun : Nat
  lowRun : Nat
  minRun : Nat
  /-- Long count at which the lane came up (R252). -/
  upAt : Nat
deriving DecidableEq, Repr

/-- The lanes (10, 11). -/
structure Lanes where
  quads : List Quad
  lanes : List Lane
  peers : List PeerLane
  /-- PEER_ACTIVE; 0xFF none (R253). -/
  peerActive : Nat
  peerSwitches : Nat
deriving DecidableEq, Repr

/-! ## Messages of the part itself (10, 13, 14, 20) -/

/-- A PTP message of the part: messageType, sequenceId, three words of its body (R297, R299, R300), and its girth TLV (R223). -/
structure PtpSent where
  mtype : Nat
  seq : Nat
  w0 : Int
  w1 : Int
  w2 : Int
  girth : Option GirthBlock
deriving DecidableEq, Repr

/-- A Signaling message of unicast negotiation (R304): instance, address, tlvType, messageType, logInterMessagePeriod, duration and
minorVersionPTP (R289). -/
structure Signal where
  inst : Nat
  addr : Nat
  kind : Nat
  mtype : Nat
  log : Int
  duration : Nat
  minor : Nat
deriving DecidableEq, Repr

/-- A response of NTP that the part has built or sent (R314, R321, R325). -/
structure NtpSent where
  /-- 0 time response, 1 RATE kiss, 2 NTSN kiss. -/
  kind : Nat
  li : Nat
  vn : Nat
  stratum : Nat
  poll : Int
  rootDispersion : Nat
  /-- Reference ID as four ASCII bytes, first byte highest. -/
  refId : Nat
  reference : Nat
  origin : Nat
  receive : Nat
  transmit : Nat
  /-- Field Type and Length of its extension fields, in order (R224, R319, R321). -/
  fields : List (Nat × Nat)
  /-- The block of its girth field (R222, R224, R323). -/
  girth : Option GirthBlock
  /-- Cookies carried and the key ID they were minted under. -/
  cookies : Nat
  keyId : Nat
deriving DecidableEq, Repr

/-- A time response between build and transmit instant (R314, R315, R319, R320): the time-base girth and its rate at the build, whether it
is an NTS response, how many launch instants have passed, the one that is fixed with its transmit stamp, and whether the crypto unit
delivers by then. -/
structure NtpPending where
  resp : NtpSent
  girth : Nat
  rate : Nat
  built : Nat
  nts : Bool
  tries : Nat
  launch : Option (Nat × Nat)
  ready : Bool
deriving DecidableEq, Repr

/-- A message that the part itself sends, while its frame waits (R250, R263, R273, R299–R304, R312, R440, R474). What a stamp of its own
frame decides is filled in as it leaves. -/
inductive OwnMsg where
  /-- A general PTP message. -/
  | general (m : PtpSent)
  /-- A Sync of an instance, with its Follow_Up when two-step. -/
  | sync (k seq : Nat) (two : Bool)
  | delayReq (k seq : Nat)
  | pdelayReq (seq : Nat)
  /-- A Pdelay_Resp: sequenceId, t2, the request's correctionField and sourcePortIdentity. -/
  | pdelayResp (seq : Nat) (t2 correction : Int) (target : Nat) (two : Bool)
  | signal (m : Signal)
  /-- A time response of NTP or NTS, and a kiss. -/
  | ntp (w : NtpPending)
  | kiss (m : NtpSent)
  | esmc (ql : Nat) (event : Bool)
  /-- A response of Esxia: source, TAG, status and body; a message of the hierarchy: TYPE, worker and content. -/
  | esxia (src tag status value : Nat)
  | domain (ty w : Nat) (content : List Nat)
  /-- The answer of the engines to a request to a host address. -/
  | reply (host : Nat)
deriving DecidableEq, Repr

/-! ## Yard (12) -/

/-- A copy in an egress queue (R270, R277). -/
structure Copy where
  /-- Number of the frame, shared by its copies (R276). -/
  id : Nat
  frame : Frame
  /-- Cells it holds, and those it needs once its tail has been stored (R277). -/
  cells : Nat
  need : Nat
  /-- Account charged: 0 timing reserve, 1 queue minimum, 2 shared pool (R276). -/
  account : Nat
  /-- Long counts of its admission, and at which its tail has been stored (R277, R280, R282). -/
  at_ : Nat
  tailAt : Nat
  /-- It is a copy of a multicast or flooded frame (R282). -/
  multi : Bool
  timing : Bool
  event : Bool
  /-- Receive stamp and STAMP_STATUS. -/
  rx : Nat
  rxStatus : Nat
  tagged : Bool
  vid : Nat
  ce : Bool
  /-- The message, when the part itself has built the frame. -/
  own : Option OwnMsg
  /-- Mirror copy (R284). -/
  mirror : Bool
  /-- Cut-through copy (R280). -/
  ct : Bool
  /-- Held across a port-down interval (R283). -/
  held : Bool
deriving DecidableEq, Repr

/-- An egress queue (R275–R279, R287). -/
structure Queue where
  copies : List Copy
  /-- Cells charged: depth, from the minimum, from the shared pool (R277). -/
  depth : Nat
  minUsed : Nat
  sharedUsed : Nat
  deficit : Nat
  tailDrops : Nat
  ecnMarks : Nat
  txFrames : Nat
deriving DecidableEq, Repr

/-- The last transmission of a port: ingress port, payload, message of the part, whether it asked for a stamp, transmit stamp, status,
correction and UDP checksum as sent (R303), tag, ECN mark, and tail marked bad (R281). -/
structure Sent where
  port : Nat
  payload : Nat
  own : Option OwnMsg
  event : Bool
  tx : Nat
  status : Nat
  correction : Int
  udpSum : Nat
  vid : Option Nat
  ce : Bool
  stomped : Bool
deriving DecidableEq, Repr

/-- The forwarding side of a port (R283, R287). -/
structure YPort where
  /-- PORT_FWD_STATE (R287). -/
  fwd : Nat
  /-- Long count until which a transmission lasts, and whether it is a cut-through copy (R279–R281). -/
  busyUntil : Nat
  ctSending : Bool
  fcsErr : Nat
  rxTrunc : Nat
  txStomp : Nat
  partialDrop : Nat
  downDrops : Nat
  flushed : Nat
  blockDrops : Nat
  eventBlocked : Nat
  vlanDrops : Nat
  ctrlDrops : Nat
  ctFrames : Nat
  /-- Second of the last refused timing-class fault (R277). -/
  refusedAt : Option Int
  sent : Option Sent
  /-- Round-robin place of the weighted queues (R279). -/
  rr : Nat
  /-- Long counts at which PORT_FWD_STATE last changed (R283), and at which a frame last left the queues (R246). -/
  since : Nat
  emptyAt : Nat
  /-- The launch instant fixed for an NTS response and the end of its frame: no other frame is on the wire then (R319). -/
  launch : Option (Nat × Nat)
  /-- STAMP_STATUS delivered last for a frame that was to be stamped and was not sent (R267). -/
  unsent : Option Nat
deriving DecidableEq, Repr

/-- A learned FDB entry (R270). -/
structure FdbEntry where
  mac : Nat
  vid : Nat
  port : Nat
  /-- Long count at which it was last learned. -/
  seen : Nat
deriving DecidableEq, Repr

/-- A terminated frame that waits for its service (R273, R276): service (1 PTP, 2 NTP, 3 Esxia, 4 engines), port, HOST_ADDR entry, the
frame, its cells of the host account, and its receive stamp (R255, R257), as a long count, with STAMP_STATUS. -/
structure Term where
  service : Nat
  port : Nat
  host : Option Nat
  frame : Frame
  cells : Nat
  rx : Nat
  status : Nat
deriving DecidableEq, Repr

/-- The yard and the shed (R269–R288). -/
structure Yard where
  ports : List YPort
  /-- Egress queues 8p + q (R275). -/
  queues : List Queue
  fdb : List FdbEntry
  timingUsed : Nat
  hostUsed : Nat
  sharedUsed : Nat
  /-- SHED_BANKS_ON (R286). -/
  banks : Nat
  hostDrops : Nat
  hostUnhandled : Nat
  /-- Requests answered for each host address in the current second (R273). -/
  hostRate : List (Nat × Nat)
  hostSecond : Int
  mirrorDrops : List Nat
  mirrorSuspended : List Nat
  /-- Terminated frames that wait for their service, oldest first. -/
  terminated : List Term
  /-- Number of the next frame. -/
  nextId : Nat
deriving DecidableEq, Repr

/-! ## PTP (13) -/

/-- A foreign time transmitter heard on a port (R296): its portIdentity, protocol address (0 for multicast) and dataset, and
the long counts of its Announces inside the qualification window, newest first. -/
structure Foreign where
  sender : Nat
  addr : Nat
  ds : PtpDs
  heard : List Nat
deriving DecidableEq, Repr

/-- A PTP port, by its first lane (R293, R310). -/
structure PtpPort where
  state : Nat
  peerDelay : Int
  authFail : Nat
  authMissing : Nat
  replay : Nat
  dreqDrops : Nat
  tcFrames : Nat
  tcDegraded : Nat
  /-- Offset measurements valid in a row (R295). -/
  validRun : Nat
  foreign : List Foreign
  /-- A two-step Sync waiting for its Follow_Up: sequenceId, t2 and correction, and its receive stamp and STAMP_STATUS (R299). -/
  sync : Option (Nat × Int × Int × Nat × Nat)
  /-- A Delay_Req sent: sequenceId and t3 (R299). -/
  dreq : Option (Nat × Int)
  /-- A Pdelay_Req sent: sequenceId and its transmit stamp (R301). -/
  pdreq : Option (Nat × Int)
  /-- A two-step Pdelay_Resp waiting for its Follow_Up: sequenceId, t4 and t2 with its correction (R301). -/
  pdresp : Option (Nat × Int × Int)
  /-- Long count at which the port came to LISTENING, and whether its Announce receipt timeout has expired with no foreign dataset
  left (R294). -/
  listenAt : Nat
  timedOut : Bool
  /-- Next sequenceId of Announce, Sync, Delay_Req and Pdelay_Req. -/
  annSeq : Nat
  syncSeq : Nat
  dreqSeq : Nat
  pdSeq : Nat
  /-- The last messages sent, newest first, at most two; their minorVersionPTP (R289), and the securityParameterPointer and keyID of
  the AUTHENTICATION TLV they carry (R307). -/
  sent : List PtpSent
  sentMinor : Nat
  sentTlv : Option (Nat × Nat)
deriving DecidableEq, Repr

/-- A PTP instance (R291, R310). -/
structure PtpInst where
  /-- Parent portIdentity, 0 for none (R298). -/
  parent : Nat
  parentDs : PtpDs
  clientPort : Nat
  offset : Int
  meanDelay : Int
  /-- The last 16 delay samples, and the last 16 offsets with their long counts, newest first (R299, R211). -/
  delays : List Int
  offsets : List (Nat × Int)
  /-- m of the latest Sync (R299). -/
  lastM : Option Int
  servedClass : Nat
  servedAcc : Nat
  /-- L_k as it was taken last (R296). -/
  local_ : PtpDs
  /-- A change waits for the next state decision, and when the last one ran (R296). -/
  due : Bool
  decidedAt : Nat
deriving DecidableEq, Repr

/-- A unicast grant in force at this server (R304). -/
structure Grant where
  inst : Nat
  addr : Nat
  portId : Nat
  mtype : Nat
  logPeriod : Int
  /-- Long count at which it ends. -/
  expiry : Nat
  /-- Next sequenceId sent under it. -/
  seq : Nat
deriving DecidableEq, Repr

/-- A grant this part holds at an upstream server (R304): requested or granted. -/
structure ClientGrant where
  inst : Nat
  addr : Nat
  mtype : Nat
  /-- Seconds granted, 0 while it is only asked for. -/
  duration : Nat
  since : Nat
deriving DecidableEq, Repr

/-- A Delay_Resp reservation (R305): its load in 1/16 messages/s, and the long count at which it is released. -/
structure Reservation where
  inst : Nat
  addr : Nat
  portId : Nat
  load : Nat
  until_ : Nat
deriving DecidableEq, Repr

/-- A request for a new grant (R304, R305): the millisecond it came in, and the port it came to. -/
structure GrantReq where
  ms : Nat
  inst : Nat
  port : Nat
  addr : Nat
  portId : Nat
  mtype : Nat
  log : Int
  duration : Nat
deriving DecidableEq, Repr

/-- The PTP service (R289–R311). -/
structure Ptp where
  insts : List PtpInst
  ports : List PtpPort
  grants : List Grant
  upstream : List ClientGrant
  reservations : List Reservation
  refused : Nat
  v1Drops : Nat
  mgmtDrops : Nat
  /-- Multicast Delay_Req answered in the current millisecond (R306): the millisecond and the load used. -/
  mcastMs : Nat × Nat
  /-- The last authenticated sequenceId for each source portIdentity and messageType (R308). -/
  seqs : List (Nat × Nat × Nat)
  /-- The last Signaling messages sent, newest first (R304). -/
  negotiated : List Signal
  /-- Requests for new grants that wait for the end of their millisecond, in order of arrival (R305). -/
  batch : List GrantReq
deriving DecidableEq, Repr

/-! ## NTP and NTS (14) -/

/-- A bucket of R324 that is not full with K at 0: index, tokens in 1/16, K, and T counted in units of 2²¹ ns without its wrap. -/
structure Bucket where
  index : Nat
  tokens : Nat
  kissed : Bool
  at_ : Nat
deriving DecidableEq, Repr

/-- The NTP and NTS fast path (R312–R331). -/
structure Ntp where
  /-- NTP_COUNTERS (R329) and NTP_GIRTH_COUNTERS (R330), subindex 1 first. -/
  counters : List Nat
  girthCounters : List Nat
  /-- Buckets that are not full with K at 0, ascending index (R324). -/
  buckets : List Bucket
  /-- How many hash keys have been drawn (R324). -/
  hashEpoch : Nat
  /-- Kisses sent in the current second (R325). -/
  kissSecond : Int
  kisses : Nat
  /-- Requests and operations accepted in the current millisecond (R326). -/
  ms : Nat
  requests : Nat
  operations : Nat
  /-- Exception requests in the current second (R322). -/
  excSecond : Int
  excCount : Nat
  /-- Minting block in force; NTS_KEY_CURRENT may already hold the next one (R318). -/
  current : Nat
  lastSent : Option NtpSent
  mintProducer : Nat
  mintConsumer : Nat
  /-- STATUS of the last mint entry served, and cookies written to it (R327). -/
  mintStatus : Nat
  mintWritten : Nat
  /-- Requests waiting for the engines with their receive stamps, oldest first (R322). -/
  excQueue : List (NtpReq × Nat × Nat)
deriving DecidableEq, Repr

/-! ## Engines (15) and their counters (17) -/

/-- What an engine waits for (R339, R340, R341, R342). -/
inductive Stall where
  | none
  | twait (until_ : Nat)
  | qwait (queue : Nat) (deadline : Option Nat)
  | cwait (d tag : Nat)
  | idle
deriving DecidableEq, Repr

/-- What an engine is held in; ENG_STATE shows a gated row besides (R349, R350). -/
inductive EngStatus where
  | off | firmware | inReset | paddock
deriving DecidableEq, Repr

/-- ENG_STATE's codes (R350). -/
def EngStatus.code : EngStatus → Nat
  | .off => 0
  | .firmware => 1
  | .inReset => 3
  | .paddock => 4

/-- A protection region (R335). -/
structure Region where
  base : Nat
  limit : Nat
  r : Bool
  w : Bool
  x : Bool
deriving DecidableEq, Repr

/-- An instruction sample (R369, R370). -/
structure Sample where
  pc : Nat
  word : Nat
  latency : Nat
  stall : Nat
  trapped : Bool
  program : Bool
  cycle : Nat
  nsc : Nat
  aseq : Nat
deriving DecidableEq, Repr

/-- The counters of an engine (R364, R369). -/
structure Pmc where
  cyc : Nat
  /-- Shadow of PMCYC[63:32] (R364). -/
  cycH : Nat
  /-- PMC0–PMC7, PMSEL0–PMSEL7. -/
  count : List Nat
  sel : List Nat
  /-- Shadows of odd counters latched by a read of their even partner (R365). -/
  shadow : List (Option Nat)
  ctl : Nat
  ovf : Nat
  smpCtl : Nat
  smpSel : Nat
  /-- The hidden sample counter; a sample is armed; FIFO, oldest first; samples dropped since the last loss record. -/
  smpCount : Nat
  armed : Bool
  fifo : List Sample
  dropped : Nat
deriving DecidableEq, Repr

/-- The paddock side of an engine TE24–TE31 (R345, R350). -/
structure Tack where
  /-- TACK_STATE and TACK_LOAD_STATUS. -/
  state : Nat
  loadStatus : Nat
  faults : Nat
  cause : Nat
  trapPc : Nat
  /-- DRAM address of the image last loaded (R345). -/
  image : Nat
  /-- Full time seconds of the automatic reloads, newest first (R345). -/
  restarts : List Int
deriving DecidableEq, Repr

/-- An engine (R332, R335, R336, R342, R343). A time engine keeps its 32-bit registers in the low half. -/
structure Eng where
  status : EngStatus
  regs : List Word64
  /-- f0–f31, servo cores only. -/
  fregs : List Word64
  pc : Nat
  /-- MODE: program mode (R335). -/
  program : Bool
  trapPc : Nat
  cause : Nat
  trapBase : Nat
  dwin : Nat
  fpstat : Nat
  evmask : Nat
  /-- PROT0–PROT7 (R343). -/
  prot : List Region
  stall : Stall
  /-- Events of EVMASK that have occurred and not been taken by IDLE: [0] anchor, [1] queue, [2] crypto. -/
  events : Nat
  /-- Long count of the last WDKICK or start; while the row is gated, the time run since then (R348, R349). -/
  kicked : Nat
  /-- Halted by DBG for the debugger (R342). -/
  halted : Bool
  resets : Nat
  lastCause : Nat
  imem : List Host.Cell
  dmem : List Host.Cell
  /-- Frame windows, receive at offset 0 and transmit at offset 16 KiB (R334). -/
  windows : List Host.Cell
  pmc : Pmc
deriving DecidableEq, Repr

/-- A record queue of R340: records as bytes, oldest first, each with its flag of earlier drops. -/
structure RecQueue where
  num : Nat
  recs : List (List Byte × Bool)
  /-- Records were dropped since the last one queued. -/
  dropDue : Bool
deriving DecidableEq, Repr

/-- The engines and the paddock (R332–R351). -/
structure Engines where
  eng : List Eng
  tack : List Tack
  /-- Shared engine SRAM (R334), and the part of DRAM that engines and the host reach as bytes. -/
  sram : List Host.Cell
  dram : List Host.Cell
  /-- Queues that are not empty or have a drop due, ascending number (R340). -/
  queues : List RecQueue
  /-- The doorbell FIFO, oldest first, at most 64 (R347). -/
  doorbell : List Nat
  tapDrops : List Nat
  tapSuspended : List Nat
  /-- Crypto jobs completed and not waited for: engine, tag, status (R341). -/
  done : List (Nat × Nat × Nat)
  /-- Work classes gated now, bit k for Wk (R349). -/
  gated : Nat
deriving DecidableEq, Repr

/-- The dump unit (R371, R372, R375). -/
structure Dump where
  producer : Nat
  lost : Nat
  suspended : Nat
  /-- Records lost since the last loss record (R372), and SEQ of the next record (R370). -/
  lossDue : Nat
  seq : Nat
  /-- Anchor counting: milliseconds at the last dump (R371). -/
  lastDump : Nat
  /-- The last record that PC_READ returned: e and its 64 bytes (R375). -/
  read : Option (Nat × List Byte)
  /-- Gelusk engines whose PC_EVENT or PC_SAMPLE has been written since the last anchor (R373). -/
  due : List Nat
deriving DecidableEq, Repr

/-! ## Budget governor (16) -/

/-- The governor (R352–R363). -/
structure Gov where
  level : Nat
  /-- Millisecond of the last change of level, and the level before it, which that millisecond's decisions use (R358). -/
  prev : Nat × Nat
  hold : Nat
  settle : Nat
  tjWait : Nat
  /-- GOV_LEVEL_COST, level 1 first (R357). -/
  cost : List Nat
  /-- Milliseconds at levels 0 to 7 since power-on reset (R362). -/
  times : List Nat
  /-- A cold start runs; decisions since power-on reset; decisions in a row with OVEN_STATUS[4] set (R359). -/
  cold : Bool
  sinceReset : Nat
  warmRun : Nat
  /-- Decisions with a reading missing; decisions for which the floor of 7 still holds; an input fault is present (R360). -/
  missing : Nat
  clearRun : Nat
  inputFault : Bool
  /-- Decisions at level 7 with negative headroom (R361). -/
  deficitRun : Nat
  pPart : Nat
  headroom : Int
  tj : Int
  unparked : Nat
  cause : Nat
  sheds : Nat
  /-- The level left by the last raise and P_part before it, until it is measured (R357). -/
  raised : Option (Nat × Nat)
  /-- Committed loads in force at entry to level 7, 1/16 messages/s: authenticated, all (R354). -/
  entryAuth : Nat
  entryAll : Nat
deriving DecidableEq, Repr

/-! ## Vault and life cycle (18) -/

/-- One key slot (R379, R381). The key itself is never visible outside the vault: KCV stands for it, together with a
key name that the model uses to tell keys apart (`key`, an index into the opaque keys of Config). -/
structure Slot where
  /-- SSTATE: 0 EMPTY, 1 PREPARED, 2 LOADED (R381). -/
  sstate : Nat
  use : Nat
  alg : Nat
  role : Nat
  /-- FLAGS: [0] EXPORT, [1] PERSIST (R393). -/
  flags : Nat
  kcv : Nat
  key : Nat
  /-- Staged replacement: KCV, key, and long count of the stage (R391); none when SHADOW_PENDING reads 0. -/
  shadow : Option (Nat × Nat × Nat)
deriving DecidableEq, Repr

/-- A record of the vault area (R394): type 1 shadow, 2 commit, 3 erase. -/
structure VaultRec where
  kind : Nat
  rootId : Nat
  slot : Nat
  seq : Nat
  /-- For a shadow record the attributes, KCV and key. For a commit record, the SEQ of its shadow record. -/
  use : Nat
  alg : Nat
  role : Nat
  flags : Nat
  kcv : Nat
  key : Nat
  ofSeq : Nat
  bytes : Nat
deriving DecidableEq, Repr

/-- A crypto job in flight (R341, R382). -/
structure Job where
  tag : Nat
  engine : Nat
  op : Nat
  slot : Nat
  /-- The second slot of wrap, unwrap and derive (R384). -/
  other : Nat
  src : Nat
  srcLen : Nat
  aadLen : Nat
  dst : Nat
  /-- The slot as the job uses it, taken at acceptance (R385). -/
  key : Slot
  /-- 0 for an accepted job, else the status it completes with. -/
  verdict : Nat
deriving DecidableEq, Repr

/-- A tamper record (R400). -/
structure TamperRec where
  tseq : Nat
  sources : Nat
  moment : Nat
  lc : Nat
  aonTime : Nat
  slot : Nat
  op : Nat
deriving DecidableEq, Repr

/-- The cloaking keys of the vault RAM (R386, R387): the key of the cell permutation, the two mask sets, and the mask epoch that
every cell carries between sweeps. The RAM's words are held in clear in `Vault.slots`: no command sees them cloaked. -/
structure Cloak where
  perm : Nat
  mask0 : Nat
  mask1 : Nat
  epoch : Bool
deriving DecidableEq, Repr

/-- The key vault, the fuses of the life cycle and the always-on block (R377–R405, R522). -/
structure Vault where
  /-- Permutation key and mask sets, in flip-flops (R387); none from a wipe until they are drawn again. -/
  cloak : Option Cloak
  /-- LC_STATE (R404). -/
  lc : LifeCycle
  /-- LC_DEBUG_ENTRIES (R390). -/
  debugEntries : Nat
  /-- The owner root has been fused (R390). -/
  ownerRoot : Bool
  makerRoot : Bool
  /-- Slots that are not EMPTY: slot number and contents, ascending. -/
  slots : List (Nat × Slot)
  /-- Vault area of the active half, oldest first (R394). -/
  area : List VaultRec
  /-- SEQ of the next record. -/
  nextSeq : Nat
  /-- Generation of the active half (R394). -/
  gen : Nat
  /-- The vault area is to be erased at the next boot; or its test-root records dropped (R390). -/
  eraseDue : Bool
  dropDebugDue : Bool
  opStatus : Nat
  /-- Role of the last KEY_EXPORT, and its blob (R384, R404). -/
  exportRole : Nat
  exportBlob : Nat
  maskRotations : Nat
  unsealFails : Nat
  /-- Unsealed since the last reset (R395). -/
  unsealed : Bool
  /-- A key operation, or a life-cycle transition (OP 0), cut short by an alarm that is about to be taken: OP code of R400 and
  slot (R398). -/
  keyOp : Option (Nat × Nat)
  /-- Crypto jobs accepted and not complete, oldest first (R385). -/
  jobs : List Job
  /-- Slots whose KEY_ERASE waits for their accepted jobs, with the outcome of its record (R385). -/
  erasing : List (Nat × Nat)
  /-- Tamper latch (R397). -/
  latch : Bool
  /-- TAMPER_STATE[8:0]: sources in alarm now (R404). -/
  alarms : Nat
  /-- Tamper records, newest first, at most 8 (R400). -/
  records : List TamperRec
  nextTseq : Nat
  /-- AON-lost flag (R399). -/
  aonLost : Bool
  /-- AON counter, unit 2⁻¹⁵ s (R400). -/
  aonTime : Nat
  /-- The always-on block runs from VBAT_AON (R522). -/
  onBattery : Bool
deriving DecidableEq, Repr

/-! ## Access (19) and the dictionary (20) -/

/-- An open session (R409). -/
structure Session where
  num : Nat
  role : Role
  path : Path
  ticketId : Nat
  /-- The session was opened with a ticket, whose NOT_AFTER is `notAfter` (R408). -/
  ticketed : Bool
  notAfter : Nat
  opened : Nat
  /-- Esxia source address and port, and the HOST_ADDR entry and port it was opened on (R440, R444). -/
  src : Nat
  host : Nat
  port : Nat
  /-- SEQ last accepted (R432). -/
  seq : Option Nat
  /-- A request is outstanding (R432). -/
  busy : Bool
  /-- The stored response (R432). -/
  resp : Option (Nat × Nat)
  /-- Consecutive 0x0B refusals (R432). -/
  sealFails : Nat
  /-- Long count of the last request (R409). -/
  lastReq : Nat
  /-- DICT_DESCRIBE_ADDR and CAL_SELECT of this session (R428, R514). -/
  describe : Nat
  calSel : Nat
deriving DecidableEq, Repr

/-- What each path holds outside sessions (R409, R428, R432, R514). -/
structure PathState where
  path : Path
  /-- The current nonce: its number and the long count of the read (R409). -/
  nonce : Option (Nat × Nat)
  /-- AUTH_REPLY: session number, source, and the ephemeral key and signature, which are a free value (R409). -/
  reply : Option (Nat × Nat × Nat)
  seq : Option Nat
  busy : Bool
  /-- What SEAL_RESP shows, and the session whose response it is; 0 for a plain envelope's (R432). -/
  resp : Option (Nat × Nat)
  respOf : Nat
  describe : Nat
  calSel : Nat
  /-- Code and value of the last request answered on this path. -/
  code : Nat
  value : Nat
deriving DecidableEq, Repr

/-- Roles, sessions, owner keys, JTAG and the audit chain (R406–R424). -/
structure Access where
  sessions : List Session
  paths : List PathState
  /-- Nonces drawn so far. -/
  nonces : Nat
  /-- Fused owner keys: hashes in order (R412). -/
  ownerKeys : List Nat
  /-- A transfer registered in state MAKER: hash of the proposed owner key (R412). -/
  transfer : Option Nat
  /-- JTAG_STATE (R423). -/
  jtag : Nat
  /-- Newest ASEQ (R420); 0 before the first record. -/
  aseq : Nat
  /-- CHAIN of the newest record (R422). -/
  chain : Nat
  /-- The last AUDIT_HEAD read: ASEQ, CHAIN and the nonce it used up (R422). -/
  headSigned : Option (Nat × Nat × Nat)
deriving DecidableEq, Repr

/-- One CAN controller (R433, R434). -/
structure Can where
  /-- CAN_STATE (R443). -/
  state : Nat
  busOff : Nat
  nmtIgnored : Nat
  /-- A transfer is running (R433). -/
  transfer : Bool
  /-- Settings in force since the last write of 1 to CAN_ENABLE: node-ID, nominal and data rate (R434). -/
  node : Nat
  nomRate : Nat
  dataRate : Nat
  /-- The last frame sent: COB-ID and data word (R433). -/
  sent : Option (Nat × Nat)
deriving DecidableEq, Repr

/-- The dictionary agent and the access paths (R425–R444). -/
structure Dict where
  /-- Values of writable objects that differ from their default or have been written: key = index × 256 + subindex,
  ascending (R425, R429). -/
  store : List (Nat × Nat)
  /-- Entries whose last write has not yet taken effect, with the stored value still in force, none for the default (R92, R127, R135,
  R152, R180, R209). -/
  held : List (Nat × Option Nat)
  /-- The configuration store in flash: GEN and records (R441, R511). -/
  saved : Option (Nat × List (Nat × Nat))
  /-- A save is running, holding what it writes (R441). -/
  saving : Option (List (Nat × Nat))
  /-- The store in flash fails verification (R511). -/
  savedBad : Bool
  /-- DICT_QUEUE_PEAK (R443). -/
  queuePeak : Nat
  /-- ATTN_CAUSE's latched bits (R436). -/
  attn : Nat
  can : List Can
  /-- MSP_WIDTH in force (R435), the result held for FETCH, MSP_RDY, and the agent-returned bit (R435). -/
  mspWidth : Nat
  mspResult : Option (Nat × Nat × Nat)
  mspRdy : Bool
  mspReturned : Bool
  mspBusyDrops : Nat
  mspChkErrors : Nat
  /-- The last bytes sent on the management serial port (R435). -/
  mspSent : List Nat
  /-- PCIE_LAST_ERROR: index, subindex, code (R438). -/
  pcieLastError : Nat × Nat × Nat
  apertureRefused : Nat
  /-- The PCIe link is up (R22). -/
  pcieUp : Bool
  /-- Completion data of the last PCIe read (R438). -/
  pcieData : Nat
  /-- BAR2 mailbox: MB_STATUS code of the last submit, response ready (R437). -/
  mbCode : Nat
  mbReady : Bool
  mbEnvelope : Option Envelope
  /-- MSI-X vectors fired: counts for 0, 1, 2 (R437). -/
  msix : Nat × Nat × Nat
  /-- DMA_STATUS and the running request: source, offset, length, host address (R439). -/
  dmaStatus : Nat
  dma : Option (Nat × Nat × Nat × Nat)
  esxiaDrops : Nat
  /-- Requests of this second per Esxia source: source and count (R440). -/
  esxiaRate : List (Nat × Nat)
  esxiaSecond : Int
  /-- The last Esxia response: source, TAG, status, value (R440). -/
  esxiaSent : Option (Nat × Nat × Nat × Nat)
deriving DecidableEq, Repr

/-! ## Faults and the event log (23) -/

/-- A fault record body (R494); DETAIL is a 32-byte number, little-endian. -/
structure FaultBody where
  code : Nat
  cls : Nat
  fflags : Nat
  rep : Nat
  inst : Nat
  ftime : Int
  fgirth : Nat
  start : Nat
  pair : Nat
  glevel : Nat
  causeSeq : Nat
  detail : Nat
deriving DecidableEq, Repr

/-- An audit record (R420) without its own chain value. -/
structure AuditBody where
  atype : Nat
  role : Nat
  path : Nat
  session : Nat
  aseq : Nat
  atime : Int
  agirth : Nat
  aindex : Nat
  asub : Nat
  aresult : Nat
  ticket : Nat
  avalue : Nat
  chain : Nat
deriving DecidableEq, Repr

/-- The bodies of the event log (R494). -/
inductive LogBody where
  | fault (b : FaultBody)
  | audit (b : AuditBody)
  | loss (count : Nat)
deriving DecidableEq, Repr

/-- An entry of the event log (R494). -/
structure LogRec where
  lseq : Nat
  lflags : Nat
  laseq : Nat
  lnsc : Nat
  body : LogBody
deriving DecidableEq, Repr

/-- The event log: staging, the DRAM ring's pointers, and the newest entries (R493, R494, R497). -/
structure Log where
  /-- Entries waiting in staging, oldest first, at most 256 (R493). -/
  staging : List LogRec
  /-- The ring in DRAM: entries written, newest first, at most EVLOG_SIZE (R494). -/
  ring : List LogRec
  nextLseq : Nat
  /-- EVLOG_PRODUCER (R497). -/
  producer : Nat
  /-- EVLOG_LOST (R493). -/
  lost : Nat
  /-- Records lost since the last loss record (R493). -/
  lossDue : Nat
deriving DecidableEq, Repr

/-- A code and instance last recorded in this second, with the further raisings since (R488). -/
structure Coalesce where
  code : Nat
  inst : Nat
  second : Int
  rep : Nat
deriving DecidableEq, Repr

/-- The fault collector (R485–R495). -/
structure Collector where
  /-- Level faults whose condition holds: code and instance, oldest first (R488). -/
  levels : List (Nat × Nat)
  /-- Active faults shown in FAULT_ACTIVE, oldest first: code, instance and class (R495, R497). -/
  active : List (Nat × Nat × Nat)
  /-- F3 latch (R491). -/
  latch : Bool
  /-- The F2 being handled: code, LSEQ (R489). -/
  handling : Option (Nat × Nat)
  /-- Long count at which that handling began (R490). -/
  handledAt : Nat
  /-- F2s waiting: code, LSEQ, oldest first, at most 16 (R489). -/
  queue : List (Nat × Nat)
  /-- Records of F0, F1, F2, F3 since power-on reset (R497). -/
  f0 : Nat
  f1 : Nat
  f2 : Nat
  f3 : Nat
  /-- Long counts of the F3 resets, newest first (R492). -/
  f3Resets : List Int
  /-- An F3 reset is in progress; an F3 in it is absorbed (R491). -/
  inReset : Bool
  coalesce : List Coalesce
  /-- Raisings latched while the collector was in reset: code, instance, detail (R490). -/
  held : List (Nat × Nat × Nat)
deriving DecidableEq, Repr

/-! ## Start-up, flash and calibration (24) -/

/-- A firmware bundle in flash (R504, R505). -/
structure Bundle where
  /-- SIG and every image verify with one SVN (R505). -/
  good : Bool
  svn : Nat
  gen : Nat
deriving DecidableEq, Repr

/-- A calibration entry that differs from the factory value: EID without bit [31], VALUE, UNC, owner-written (R512). -/
structure CalEntry where
  eid : Nat
  value : Int
  unc : Nat
  owner : Bool
deriving DecidableEq, Repr

/-- Start-up, reset, firmware update, DRAM and calibration (R499–R518). -/
structure Start where
  state : StartState
  /-- Lock latch (R500). -/
  lockLatch : Bool
  /-- STARTUP_TIMES: BOOT, WARMING, ACQUIRING, LOCKED in ms (R517). -/
  times : List Nat
  /-- BOOT_STATUS bits (R517). -/
  bundleB : Bool
  haltBundle : Bool
  haltTamper : Bool
  haltF3 : Bool
  storeDefaults : Bool
  /-- RESET_CAUSE, and the cause of the power-on reset being held (R517). -/
  cause : Nat
  /-- Power-on reset is held (R501). -/
  porHeld : Bool
  /-- A system reset is in progress: the engines have not yet returned (R37). -/
  inReset : Bool
  /-- Boot complete (R500). -/
  bootDone : Bool
  /-- The dictionary agent runs (R502). -/
  agent : Bool
  /-- Sleep (R508). -/
  sleep : Bool
  /-- STARTUP_WARM_MAX in force since power-on reset (R518). -/
  warmMax : Nat
  /-- Firmware bundles (R503); none for an erased or invalid one. -/
  bundleA : Option Bundle
  bundleBInfo : Option Bundle
  /-- FW_UPDATE_STATE (R517). -/
  fwState : Nat
  /-- The other bundle has been erased since the last commit (R506). -/
  fwErased : Bool
  /-- The header being verified, and the bundle it would make (R506). -/
  fwPending : Option Bundle
  /-- DRAM_STATUS and DRAM_SIZE (R517). -/
  dramStatus : Nat
  dramSize : Nat
  /-- The history ring must be zeroed; the paddock wipe runs (R510). -/
  ringZeroDue : Bool
  paddockWipe : Bool
deriving DecidableEq, Repr

/-- The calibration table (R512–R515). -/
structure Cal where
  /-- Entries written by an owner, ascending EID (R514). -/
  entries : List CalEntry
  gen : Nat
  rootId : Nat
  /-- Neither half usable (R513). -/
  unusable : Bool
  /-- A commit running: the entries it writes, and the class named by a failure (R514). -/
  commit : Option (List CalEntry × Nat)
  /-- UNC raises in force before or without a commit: EID and UNC (R514). -/
  raises : List (Nat × Nat)
  /-- Staging buffer for the per-unit file: offsets and lengths loaded (R515). -/
  staging : List (Nat × Nat)
  stagingTime : Nat
deriving DecidableEq, Repr

/-! ## Redundancy (21) -/

/-- PAIR_STATE (R447). -/
inductive PState where
  | single | joining | syncing | aligning | ready | diag | unfit | isolated | active | handoff | claiming
deriving DecidableEq, Repr

/-- PAIR_STATE's codes (R447). -/
def PState.code : PState → Nat
  | .single => 0
  | .joining => 1
  | .syncing => 2
  | .aligning => 3
  | .ready => 4
  | .diag => 5
  | .unfit => 6
  | .isolated => 7
  | .active => 8
  | .handoff => 9
  | .claiming => 10

/-- What the peer last reported (R446, R458). -/
structure Peer where
  serial : Nat
  lc : Nat
  preferred : Bool
  fwSvn : Nat
  /-- Its PAIR_STATE, PAIR_FIT, alignment, GIRTH_NOW, applied epoch and PAIR_CONFIG_MATCH, by its last STATUS. -/
  state : Nat
  fit : Bool
  aligned : Bool
  girth : Nat
  epoch : Nat
  configMatch : Bool
deriving DecidableEq, Repr

/-- A planned handoff in progress (R463). -/
structure Handoff where
  releaser : Bool
  /-- T_h, TAI seconds. -/
  th : Nat
  cause : Nat
  accepted : Bool
  committed : Bool
  cancelled : Bool
  /-- The receiver has made its sanctioned claim (R463, step 3). -/
  claimed : Bool
  /-- The releaser's full epoch has been sent (R463, step 2). -/
  fullSent : Bool
  /-- Long count of the receiver's last pulse seen (R463, step 4). -/
  pulse : Nat
deriving DecidableEq, Repr

/-- The halter unit and the pair (R445–R470). -/
structure Pair where
  state : PState
  /-- The lease timer runs (R448); long count of its last start or restart. -/
  lease : Bool
  leaseT : Nat
  /-- HALTER_LEASE in force since the last claim, ms (R470). -/
  leaseMs : Nat
  /-- A renewal failed since the lease last restarted (R449). -/
  renewFailed : Bool
  /-- Long counts of the last falling edge of HALT_A and HALT_B and of the last RENEW, from which silence counts (R451). -/
  silA : Nat
  silB : Nat
  silL : Nat
  /-- Levels of the wires as last sampled; true is high (R445). -/
  wireA : Bool
  wireB : Bool
  /-- PREFERRED strap (R445). -/
  preferred : Bool
  /-- Long count at which a RELEASE that still stands was received (R451, R544). -/
  release : Option Nat
  /-- Pair session keys held (R446). -/
  keys : Bool
  /-- Messages sent, and PSEQ last accepted (R458). -/
  pseqOut : Nat
  pseqIn : Option Nat
  peer : Option Peer
  /-- θ, σ_θ, δ and the last 16 θ, newest first (R106, R456). -/
  theta : Int
  sigma : Nat
  delta : Int
  thetas : List Int
  /-- Long count of the last exchange (R213). -/
  thetaT : Option Nat
  /-- PAIR_OWN_CHOICE (R456). -/
  ownChoice : Nat
  /-- The servo follows the peer (R456). -/
  following : Bool
  /-- Sections buffered until their trailer, oldest first (R460). -/
  snapBuf : List SnapSection
  /-- PAIR_SNAP_EPOCH, and the long count of its application (R460). -/
  snapEpoch : Nat
  snapTime : Option Nat
  /-- The last epoch the holder sent, its last full one, and whether a full one is due (R459). -/
  outEpoch : Nat
  lastFull : Nat
  fullDue : Bool
  configMatch : Bool
  fit : Bool
  diagResult : Nat
  /-- A planned handoff under way (R463). -/
  handoff : Option Handoff
  /-- A scheduled swap fell due while W4 was withheld, and its window has not ended (R358). -/
  swapDue : Bool
  lastCause : Nat
  /-- TAI second of the last swap or takeover, and whether it was a scheduled swap (R465, R467). -/
  lastSwap : Int
  lastScheduled : Bool
  /-- Long count since which the standby has been READY and fit (R467). -/
  readySince : Option Nat
  /-- Gratuitous ARP and neighbour advertisements sent (R453). -/
  garps : Nat
  /-- PAIR_COUNTERS (R469). -/
  counters : List Nat
  /-- The last messages sent, newest first: MTYPE, PSEQ and the fields of the body in their order (R458). -/
  sent : List (Nat × Nat × List Nat)
  /-- The sections of the last epoch sent, and the grants that it left with the standby (R459). -/
  outSections : List SnapSection
  outGrants : List Grant
  /-- Long count of the last scheduled swap that R462 stopped (R465). -/
  swapTry : Option Nat
deriving DecidableEq, Repr

/-! ## Domain (22) -/

/-- A domain session as the manager holds it (R473, R481, R483). -/
structure Worker where
  num : Nat
  serial : Nat
  lc : Nat
  epoch : Nat
  girth : Nat
  ql : Nat
  /-- 0x02 joined, 0x03 lost (R483). -/
  state : Nat
  /-- Full time seconds of the last STATUS. -/
  lastStatus : Nat
  /-- DSEQ last accepted, and messages sent (R474). -/
  dseqIn : Option Nat
  dseqOut : Nat
  /-- Message key and wrap key of the session, none once it has ended (R472). -/
  keys : Option (Nat × Nat)
  /-- Long count of the last STATUS, or of the join (R481). -/
  heard : Nat
deriving DecidableEq, Repr

/-- The last QUALITY held by a worker (R474, R476). -/
structure Quality where
  ql : Nat
  flags : Nat
  epoch : Nat
  rx : Nat
deriving DecidableEq, Repr

/-- The hierarchy domain (R471–R484). -/
structure Domain where
  /-- A worker's DOMAIN_STATE: 1 joining, 2 joined, 3 lost, 4 refused (R483). -/
  state : Nat
  /-- DOMAIN_POLICY_EPOCH (R477). -/
  epoch : Nat
  /-- The manager's records, ascending number. -/
  workers : List Worker
  /-- Worker: session keys held, manager serial, DSEQ last accepted and messages sent (R472, R474). -/
  session : Bool
  manager : Nat
  dseqIn : Option Nat
  dseqOut : Nat
  /-- Message key and wrap key of a worker's session, wiped when it ends (R472). -/
  keys : Option (Nat × Nat)
  /-- Long count of the last QUALITY, or of the join (R481). -/
  heard : Nat
  quality : Option Quality
  /-- The QUALITY's girth claim (R475, R476). -/
  claim : Option Claim
  /-- JOINs accepted in a full time second (R473). -/
  joins : Nat
  joinSecond : Int
  /-- A change of the policy waits for the next anchor (R477). -/
  policyDue : Bool
  /-- DOMAIN_COUNTERS (R483). -/
  counters : List Nat
  /-- The last messages sent, newest first: TYPE, worker, and the fields of the content in order (R474). -/
  sent : List (Nat × Nat × List Nat)
deriving DecidableEq, Repr

/-! ## The outcomes other than a next state -/

/-- Why a step can stop with a fault. -/
inductive Fault where
  /-- An engine reads or writes the device window of R334, whose contents and effects the spec does not give. Raised by
  the loads, the stores and TEXT in monitor mode (log entry 9). Safe: the hardware goes on. -/
  | deviceWindow
deriving DecidableEq, Repr

/-- Why a command can be refused by the model. -/
inductive Refusal where
  /-- The command has no meaning yet. Raised by the arms of exec that name it, and by nothing else. Safe. -/
  | notModelled (mnemonic : String)
deriving DecidableEq, Repr

/-! ## The whole block -/

/-- The state of the ICY-8032: everything the spec gives it, and the queue of commands that wait, first in, first out. -/
structure State where
  pending : List Instr
  clk : Clk
  tb : TimeBase
  refs : List Ref
  sel : Select
  tod : List TodRx
  tiu : List Tiu
  servo : Servo
  accum : Accum
  ho : Holdover
  oven : Oven
  atomic : Atomic
  synth : Synth
  gnss : Gnss
  girth : Girth
  net : Lanes
  yard : Yard
  ptp : Ptp
  ntp : Ntp
  engs : Engines
  dump : Dump
  gov : Gov
  vault : Vault
  access : Access
  dict : Dict
  pair : Pair
  domain : Domain
  log : Log
  faults : Collector
  start : Start
  cal : Cal
  /-- Free values drawn so far (log entry 2): the model's own field. -/
  freeCount : Nat
deriving DecidableEq, Repr

/-! ## Reset

Every value is the one the spec gives for power-on reset; where it gives none, the value is a choice that INVENTORY.md
and the assumption log name. -/

/-- Right after the release of a first power-on reset R22 gives no status: CORE, ENG, MEM and CAN run on the safe clock, and XO,
AON and TB read 0x01, though the time-base APLL's start-up relock is not yet confirmed (DESIGN CHOICE, log entry 108). -/
def Clk.init : Clk :=
  { groups := [1, 1, 2, 2, 1, 0, 0, 0, 2, 0, 2, 0, 0, 0, 0], xoBackup := false, oscLost := false,
    relockC := false, relockE := false }

def Anchor.init : Anchor := ⟨0, 0, 0, 0, 0, 0⟩

/-- The disciplined count from long count `t` (R44). -/
def Count.disciplined (t : Nat) : Count := ⟨t, 65536, false, 0⟩

def TimeBase.init : TimeBase :=
  { lc := 0, offset := 0, isSet := false, setByWrite := false, stepRef := 0xFF, ring := List.replicate 16 Anchor.init, nextAseq := 0,
    pendSet := none, pendStep := none, coarse := 0, coarseG0 := 0, coarseTc := 0, coarseAcc := 0, coarseRho := 0,
    coarseFrom := 0, coarseFloor := false, coarseLeft := 0, returnDue := false,
    counts := [Count.disciplined 0], returnAt := none, degraded := [], waiting := [], utcValid := false, lastLeap := none }

def Ref.init : Ref :=
  { state := .disabled, qlRx := 14, freqOffset := 0, freqTrend := 0, phaseOffset := 0, lastMeas := none, phases := [],
    estimates := [], soakLeft := 0, clearRun := 0, gateRun := 0, cause := 0, windowFaults := [], misses := 0,
    todMismatch := false, present := false, seconds := false, yRef := 0, sigmas := [], lastEdge := none,
    leftAt := 0 }

def Select.init : Select :=
  { current := 0xFF, state := 0, source := 0, count := 0, switching := none, targetLost := false, latched := 0, raw := 0,
    debouncing := false, elecDue := [] }

def TodRx.init : TodRx := ⟨0, none⟩

def Tiu.init : Tiu :=
  { forcedN := 0, edge := 0, ext := 0, fifo := [], gapDue := false, glitchDue := false, lastStamp := none, window := [],
    gateStart := 0, gateSeq := 0, estFrom := 0, estTo := 0, freq := 0, freqGate := 0, sigma := 0, resid := 0, stamps := 0, overflow := 0, deadTime := 0,
    estStatus := 0, quiet := 0 }

def Servo.init : Servo :=
  { state := .free, u := 0, i := 0, e := 0, phiB := 0, bw := 0, ySteer := 0, lockRun := 0, acquired := false,
    started := false, frozen := false, ramp := none, lastT := none, lastClassT := none, decSum := 0, decCount := 0, eHist := [],
    slopeSince := none, uSum := 0, uSumT := 0, stepWait := false, stepKind := .plain, seconds := [],
    fromHoldover := false, suspended := false }

def Accum.init : Accum := ⟨0, 0, 0, false⟩

def Holdover.init : Holdover :=
  { everValid := false, u0 := 0, su0 := 0, tm := 0, tw := 0, a := 0, sa := 0, kT := 0, skT := 0,
    learned := none, hasWin := false, winCount := 0, frozen := false, invalid := false, entry := 0, phiDu := 0, phiL := 1, dTmax := 0,
    faultSeen := false, uh := 0, growth := 0, carry := 0, classF := none, sigmaF := [], ring := [], ringPut := 0, refitDue := false,
    minutes := [],
    minuteFill := 0, anchorsWarm := none, lastTemp := 0, tempSum := 0, tempCount := 0, learnGap := true, coarseGap := false,
    faultGap := false }

def Oven.init : Oven :=
  { temp := 0, sampleSum := 0, samples := 0, prevTemp := none, integ := 0, duty := 0, sensorFault := false, goodRun := 0,
    overTemp := false, warm := false, warmPin := false, offsets := [], offRef := 0xFF, slope := 0, condSince := none,
    awaySince := none, ambient := 0 }

def Atomic.init : Atomic := ⟨0, 0, 0, 0, [], 0, none, none⟩

def Apll.init : Apll := ⟨1, 500, 0, 4, 0, 0, 0⟩

def Output.init (n : Nat) : Output :=
  { enable := false, apll := n / 4, div := 8, format := 0, mode := 0, phase := 0, rate := 1, width := 100000000,
    align := true, holdOnRelock := true, stepAllow := false, stepMin := 1000, idle := 0, irigCode := 4, irigScale := 0,
    irigCf := 0, irigMr := 33, startGate := 1, running := false, highZ := true, freeRun := false, skew := 0, skewUnc := 0, alignErr := 0,
    placed := 0, move := 0, moveFrom := 0, heldTo := 0, highTo := 0, origin := 0, shift := 0, loopDead := false, girthHeld := false, sigma := 0,
    starts := 0, committing := false, notBefore := 0, frame := none, nextFrame := none, stream := none }

def TodTx.init : TodTx := ⟨false, 0xFF, 0, 9600, 200, none, [], 0⟩

def Synth.init : Synth :=
  { aplls := List.replicate 4 Apll.init, outs := (List.range 16).map Output.init, tod := List.replicate 2 TodTx.init,
    pending := none, relocking := 0, slewRate := 10000, policy := false, fosc := 10000000000000, drift := [] }

def Gif.init : Gif := ⟨0, 0, 0, 0, List.replicate 8 none, 0, 0⟩

def Search.init : Search := ⟨none, 0, ⟨0, 0, 2, 0, 0, 1, 1800⟩, 0, 0, false, false, false⟩

def Gnss.init : Gnss :=
  { gifs := List.replicate 3 Gif.init, engines := List.replicate 4 Search.init, tracks := [], targets := [],
    epochSeq := 0, epochs := [], epochDropped := false, enough := false, crossFail := false, notchMoved := false, ifLoss := false, svs := [],
    osnmaChain := false, adkd4 := none, everVerified := false, osnmaFail := none, position := none, surveyLeft := 0,
    surveySum := (0, 0, 0), surveyCount := 0, surveyTime := 0, lastPos := none, used := [], dynPos := none, posMismatch := 0, solStatus := 0, timeOffset := 0, timeSigma := 0, boundSigma := 0,
    svUsed := 0, svExcluded := 0, residRms := 0, isb := [0, 0, 0], isbBcast := [none, none], isbFlags := 0,
    verified := false, droppedEpochs := 0, navErrors := 0, leapSeen := none, jamDnu := false, clock := false }

def Girth.init : Girth :=
  { now := girthUnknown, b := girthUnknown, m := girthUnknown, sTerm := girthUnknown, h := girthUnknown,
    a := girthUnknown, freeze := .none, freezeT := 0, written := false, growFrom := none,
    rejected := 0, claims := List.replicate 18 none, lastC := List.replicate 17 girthUnknown, composed := false, src := 0, hflags := 0, inUse := none,
    refN := 0xFF, bBase := 0, aBase := 0, ql := 0xF, lapsed := [], timeValid := false }

def Quad.init : Quad := ⟨3, 0, 0, false⟩

def Lane.init : Lane :=
  { state := 0, fom := 0, ctle := 0, dfe := List.replicate 12 0, fir := (0, 63, 0), txSleep := false, rxSleep := false,
    warnArmed := true, fomRun := 0, lowRun := 0, minRun := 0, upAt := 0, linkDowns := 0, retrains := 0, fecCorr := 0, fecUncorr := 0, rxDrop := 0, trainFails := 0,
    lpiUnexpected := 0, lpiRaised := false, txPol := false, rxPol := false, train := 0, ctleMode := 0, ctleFixed := 8, swept := false, done := false, adv := none, eee := false, esmcQl := 0, esmcSent := 0,
    esmcPdu := none, spanCal := none, spanFault := false, stampState := 0, aligns := [], aRx := 0, aTx := 0, dTx := 0,
    dRx := 0, uTx := 0, uRx := 0, uExt := 0, ctleChanges := 0, ctleAt := none, ctleOver := false, stampsDropped := 0, staleDiscards := 0, extTx := 0, extRx := 0, calSent := 0, calNext := 0, calTx := [], calGot := 0, calSum := 0, calSq := 0, calE := 0, calSigma := 0,
    calStatus := 0, calDropped := 0 }

def PeerLane.init : PeerLane := ⟨0, 0, 0, false, (0, 63, 0), List.replicate 12 0, true, 0, 0, 0, 0⟩

def Lanes.init : Lanes :=
  { quads := List.replicate 8 Quad.init, lanes := List.replicate 32 Lane.init, peers := List.replicate 2 PeerLane.init,
    peerActive := 0xFF, peerSwitches := 0 }

def Queue.init : Queue := ⟨[], 0, 0, 0, 0, 0, 0, 0⟩

def YPort.init : YPort := ⟨0, 0, false, 0, 0, 0, 0, 0, 0, 0, 0, 0, 0, 0, none, none, 0, 0, 0, none, none⟩

def Yard.init : Yard :=
  { ports := List.replicate 32 YPort.init, queues := List.replicate 256 Queue.init, fdb := [], timingUsed := 0,
    hostUsed := 0, sharedUsed := 0, banks := 0xFFFF, hostDrops := 0, hostUnhandled := 0, hostRate := [],
    hostSecond := 0, mirrorDrops := [0, 0, 0, 0], mirrorSuspended := [0, 0, 0, 0], terminated := [], nextId := 0 }

def PtpDs.zero : PtpDs := ⟨0, 0, 0, 0, 0, 0, 0⟩

def PtpPort.init : PtpPort :=
  { state := 3, peerDelay := 0, authFail := 0, authMissing := 0, replay := 0, dreqDrops := 0, tcFrames := 0,
    tcDegraded := 0, validRun := 0, foreign := [], sync := none, dreq := none, pdreq := none, pdresp := none, listenAt := 0, timedOut := false, annSeq := 0,
    syncSeq := 0, dreqSeq := 0, pdSeq := 0, sent := [], sentMinor := 1, sentTlv := none }

def PtpInst.init : PtpInst :=
  { parent := 0, parentDs := PtpDs.zero, clientPort := 0xFF, offset := 0, meanDelay := 0, delays := [], offsets := [],
    lastM := none, servedClass := 248, servedAcc := 0xFE, local_ := PtpDs.zero, due := false, decidedAt := 0 }

def Ptp.init : Ptp :=
  { insts := List.replicate 4 PtpInst.init, ports := List.replicate 32 PtpPort.init, grants := [], upstream := [],
    reservations := [], refused := 0, v1Drops := 0, mgmtDrops := 0, mcastMs := (0, 0),
    seqs := [], negotiated := [], batch := [] }

def Ntp.init : Ntp :=
  { counters := List.replicate 17 0, girthCounters := List.replicate 4 0, buckets := [], hashEpoch := 0, kissSecond := 0,
    kisses := 0, ms := 0, requests := 0, operations := 0, excSecond := 0, excCount := 0, current := 0,
    lastSent := none, mintProducer := 0, mintConsumer := 0, mintStatus := 0, mintWritten := 0, excQueue := [] }

def Pmc.init : Pmc :=
  { cyc := 0, cycH := 0, count := List.replicate 8 0, sel := List.replicate 8 0, shadow := List.replicate 4 none,
    ctl := 0, ovf := 0, smpCtl := 0, smpSel := 0, smpCount := 0, armed := false, fifo := [], dropped := 0 }

def Region.init : Region := ⟨0, 0, false, false, false⟩

def Eng.init : Eng :=
  { status := .off, regs := List.replicate 32 0#64, fregs := List.replicate 32 0#64, pc := 0, program := false,
    trapPc := 0, cause := 0, trapBase := 0, dwin := 0, fpstat := 0, evmask := 0, prot := List.replicate 8 Region.init,
    stall := .none, events := 0, kicked := 0, halted := false, resets := 0, lastCause := 0, imem := [], dmem := [],
    windows := [], pmc := Pmc.init }

def Tack.init : Tack := ⟨0, 0, 0, 0, 0, 0, []⟩

def Engines.init : Engines :=
  { eng := List.replicate 36 Eng.init, tack := List.replicate 8 Tack.init, sram := [], dram := [], queues := [],
    doorbell := [], tapDrops := List.replicate 8 0, tapSuspended := List.replicate 8 0, done := [], gated := 0x3C }

def Dump.init : Dump := ⟨0, 0, 0, 0, 0, 0, none, []⟩

def Gov.init : Gov :=
  { level := 7, prev := (0, 7), hold := 0, settle := 0, tjWait := 0, cost := [1500, 900, 450, 1000, 1200, 1400, 600],
    times := List.replicate 8 0, cold := false, sinceReset := 0, warmRun := 0, missing := 0, clearRun := 0,
    inputFault := false, deficitRun := 0, pPart := 0, headroom := 0, tj := 0,
    unparked := 1, cause := 0, sheds := 0, raised := none, entryAuth := 0, entryAll := 0 }

def Vault.init : Vault :=
  { cloak := none, erasing := [], lc := .maker, debugEntries := 0, ownerRoot := false, makerRoot := true, slots := [], area := [], nextSeq := 1,
    gen := 1, eraseDue := false, dropDebugDue := false, opStatus := 0, exportRole := 0, exportBlob := 0,
    maskRotations := 0, unsealFails := 0, unsealed := false, keyOp := none, jobs := [], latch := false,
    alarms := 0, records := [], nextTseq := 1, aonLost := false, aonTime := 0, onBattery := false }

def PathState.init (p : Path) : PathState :=
  { path := p, nonce := none, reply := none, seq := none, busy := false, resp := none, respOf := 0, describe := 0, calSel := 0,
    code := 0, value := 0 }

def Access.init : Access :=
  { sessions := [], paths := [.pcie, .msp, .canA, .canB, .esxia, .jtag, .peer, .firmware].map PathState.init,
    nonces := 0, ownerKeys := [], transfer := none, jtag := 0, aseq := 0, chain := 0, headSigned := none }

def Can.init (c : Nat) : Can := ⟨0, 0, 0, false, 16 + c, 500000, 2000000, none⟩

def Dict.init : Dict :=
  { store := [], held := [], saved := none, saving := none, savedBad := false, queuePeak := 0, attn := 0,
    can := [Can.init 0, Can.init 1], mspWidth := 0, mspResult := none, mspRdy := false, mspReturned := false,
    mspBusyDrops := 0, mspChkErrors := 0, mspSent := [], pcieLastError := (0, 0, 0), apertureRefused := 0,
    pcieUp := false, pcieData := 0, mbCode := 0, mbReady := false, mbEnvelope := none, msix := (0, 0, 0),
    dmaStatus := 0, dma := none, esxiaDrops := 0, esxiaRate := [], esxiaSecond := 0, esxiaSent := none }

def Pair.init : Pair :=
  { state := .single, lease := false, leaseT := 0, leaseMs := 20, renewFailed := false, silA := 0, silB := 0, silL := 0,
    wireA := true, wireB := true, preferred := false, release := none, keys := false, pseqOut := 0, pseqIn := none,
    peer := none, theta := 0, sigma := 0, delta := 0, thetas := [], thetaT := none, ownChoice := 0xFF, following := false,
    snapBuf := [], snapEpoch := 0, snapTime := none, outEpoch := 0, lastFull := 0, fullDue := false,
    configMatch := false, fit := true, diagResult := 0, handoff := none, swapDue := false, lastCause := 0, lastSwap := 0,
    lastScheduled := false, readySince := none, garps := 0, counters := List.replicate 8 0, sent := [], outSections := [], outGrants := [],
    swapTry := none }

def Domain.init : Domain :=
  { state := 1, epoch := 0, workers := [], session := false, manager := 0, dseqIn := none, dseqOut := 0, keys := none, heard := 0, quality := none,
    claim := none, joins := 0, joinSecond := 0, policyDue := false, counters := List.replicate 5 0, sent := [] }

def Log.init : Log := ⟨[], [], 0, 0, 0, 0⟩

def Collector.init : Collector :=
  { levels := [], active := [], latch := false, handling := none, handledAt := 0, queue := [], f0 := 0, f1 := 0, f2 := 0, f3 := 0,
    f3Resets := [], inReset := false, coalesce := [], held := [] }

def Start.init : Start :=
  { state := .boot, lockLatch := false, times := [0, 0xFFFFFFFF, 0xFFFFFFFF, 0xFFFFFFFF], bundleB := false,
    haltBundle := false, haltTamper := false, haltF3 := false, storeDefaults := true, cause := 1, porHeld := false,
    inReset := false, bootDone := false, agent := false, sleep := false, warmMax := 1800, bundleA := some ⟨true, 1, 1⟩,
    bundleBInfo := none, fwState := 0, fwErased := false, fwPending := none, dramStatus := 0, dramSize := 0,
    ringZeroDue := true, paddockWipe := false }

def Cal.init : Cal := ⟨[], 1, 1, false, none, [], [], 0⟩

/-- The block right after the release of a power-on reset: start-up state BOOT, boot not yet complete, the queue empty
(R45, R499, R502; log entries 1 and 3). -/
def State.reset : State :=
  { pending := [], clk := Clk.init, tb := TimeBase.init, refs := List.replicate 17 Ref.init, sel := Select.init,
    tod := [TodRx.init, TodRx.init], tiu := List.replicate 32 Tiu.init, servo := Servo.init, accum := Accum.init,
    ho := Holdover.init, oven := Oven.init, atomic := Atomic.init, synth := Synth.init, gnss := Gnss.init,
    girth := Girth.init, net := Lanes.init, yard := Yard.init, ptp := Ptp.init, ntp := Ntp.init, engs := Engines.init,
    dump := Dump.init, gov := Gov.init, vault := Vault.init, access := Access.init, dict := Dict.init,
    pair := Pair.init, domain := Domain.init, log := Log.init, faults := Collector.init, start := Start.init,
    cal := Cal.init, freeCount := 0 }

end Sys2Proof.Machine
end

