-- ==== Sys2Proof/Machine/Params.lean ====
section
/-!
DEFINITION. The writable objects as the part reads them: each accessor answers the value last written, or the default of the
object tables (R425, R429). A name is the object's name; an index argument is the chapter's own (reference, channel, lane …).
-/
set_option Elab.async false

namespace Sys2Proof.Machine

/-- The value stored for an entry, or its default (R425). -/
def State.cfg (s : State) (idx sub dflt : Nat) : Nat := (s.dict.store.lookup (idx * 256 + sub)).getD dflt

/-- The value in force of an entry: a write that has not yet taken effect leaves the one before it (R92, R127, R135, R152, R180,
R209). -/
def State.live (s : State) (idx sub dflt : Nat) : Nat :=
  match s.dict.held.lookup (idx * 256 + sub) with
  | some v => v.getD dflt
  | none => s.cfg idx sub dflt

/-- Two's complement of n bytes, read as a number (R426). -/
def signed (n v : Nat) : Int := if v < 2 ^ (8 * n - 1) then (v : Int) else (v : Int) - ((2 ^ (8 * n) : Nat) : Int)

/-- A number as two's complement of n bytes (R426). -/
def unsigned (n : Nat) (v : Int) : Nat := (v % ((2 ^ (8 * n) : Nat) : Int)).toNat

/-- CLOCK_IDENTITY's default as its eight bytes, first byte lowest: OUI, 0, and the serial number, most significant
byte first (R310). -/
def clockIdentityDefault : Nat :=
  let n := Config.serial % 4294967296
  0x00A81F64 + (n / 2 ^ 24 % 256) * 2 ^ 32 + (n / 2 ^ 16 % 256) * 2 ^ 40 + (n / 2 ^ 8 % 256) * 2 ^ 48
    + (n % 256) * 2 ^ 56

/-- CAN_ENABLE (R443). -/
def State.canEnable (s : State) (c : Nat) : Bool := s.cfg (0x1E00 + c) 1 0 == 1
/-- CAN_NODE_ID (R443). -/
def State.canNodeId (s : State) (c : Nat) : Nat := s.cfg (0x1E00 + c) 2 (16 + c)
/-- CAN_NOM_RATE (R443). -/
def State.canNomRate (s : State) (c : Nat) : Nat := s.cfg (0x1E00 + c) 3 500000
/-- CAN_DATA_RATE (R443). -/
def State.canDataRate (s : State) (c : Nat) : Nat := s.cfg (0x1E00 + c) 4 2000000
/-- CAN_SDO_TIMEOUT (R443). -/
def State.canSdoTimeout (s : State) (c : Nat) : Nat := s.cfg (0x1E00 + c) 5 1000
/-- CAN_HEARTBEAT (R443). -/
def State.canHeartbeat (s : State) (c : Nat) : Nat := s.cfg (0x1E00 + c) 6 1000
/-- MSP_WIDTH (R443). -/
def State.mspWidth (s : State) : Nat := s.cfg 0x1E10 1 0
/-- ESXIA_ENABLE (R443). -/
def State.esxiaEnable (s : State) : Bool := s.cfg 0x1E30 1 0 == 1
/-- ESXIA_UDP_PORT (R443). -/
def State.esxiaUdpPort (s : State) : Nat := s.cfg 0x1E30 2 4742
/-- ESXIA_ADDRS (R443). -/
def State.esxiaAddrs (s : State) : Nat := s.cfg 0x1E30 3 0
/-- ESXIA_PORTS (R443). -/
def State.esxiaPorts (s : State) : Nat := s.cfg 0x1E30 4 0
/-- ESXIA_RATE (R443). -/
def State.esxiaRate (s : State) : Nat := s.cfg 0x1E30 5 200
/-- ATTN_MASK (R443). -/
def State.attnMask (s : State) : Nat := s.cfg 0x1E40 2 1
/-- COARSE_RATE_OSC (R67). -/
def State.coarseRateOsc (s : State) : Nat := s.cfg 0x2030 1 1000000
/-- COARSE_RATE_SAFE (R67). -/
def State.coarseRateSafe (s : State) : Nat := s.cfg 0x2030 2 100000000
/-- UTC_OFFSET (R67). -/
def State.utcOffset (s : State) : Int := signed 4 (s.cfg 0x2100 1 37)
/-- UTC_OFFSET_MODE (R67). -/
def State.utcOffsetMode (s : State) : Nat := s.cfg 0x2100 3 1
/-- LEAP_PENDING (R67). -/
def State.leapPending (s : State) : Nat := s.cfg 0x2100 4 0
/-- LEAP_TAI (R67). -/
def State.leapTai (s : State) : Nat := s.cfg 0x2100 5 0
/-- GIRTH_LIMIT (R229). -/
def State.girthLimit (s : State) : Nat := s.cfg 0x2810 1 4000
/-- GIRTH_UNAUTH_MODE (R229). -/
def State.girthUnauthMode (s : State) : Nat := s.live 0x2810 2 0
/-- GIRTH_CLAIM_AGE (R229). -/
def State.girthClaimAge (s : State) : Nat := s.live 0x2810 3 3000
/-- GIRTH_TLV_MSGS (R229). -/
def State.girthTlvMsgs (s : State) : Nat := s.cfg 0x2820 2 1
/-- GIRTH_EF_TYPE (R229). -/
def State.girthEfType (s : State) : Nat := s.cfg 0x2820 3 11786
/-- REF_BOUND (R229). -/
def State.refBound (s : State) (n : Nat) : Nat := s.live (0x2900 + n) 1 (if n = 16 then 320 else 4294967295)
/-- REF_PATH_ALLOW (R229). -/
def State.refPathAllow (s : State) (n : Nat) : Nat := s.live (0x2900 + n) 2 0
/-- ASYM_BOUND (R229). -/
def State.asymBound (s : State) (n : Nat) : Nat := s.live (0x2900 + n) 3 4294967295
/-- REF_MODE (R91). -/
def State.refMode (s : State) : Nat := s.live 0x3000 1 0
/-- REF_MANUAL (R91). -/
def State.refManual (s : State) : Nat := s.live 0x3000 2 16
/-- REF_REVERTIVE (R91). -/
def State.refRevertive (s : State) : Bool := s.live 0x3000 3 1 == 1
/-- QL_FLOOR (R91). -/
def State.qlFloor (s : State) : Nat := s.live 0x3000 4 8
/-- FORCE_PIN_ENABLE (R91). -/
def State.forcePinEnable (s : State) : Bool := s.live 0x3000 5 0 == 1
/-- FORCE_DEBOUNCE (R91). -/
def State.forceDebounce (s : State) : Nat := s.live 0x3000 6 10
/-- FREQ_LIMIT_COLD (R91). -/
def State.freqLimitCold (s : State) : Nat := s.live 0x3000 7 4600000
/-- REF_FORCE_MAP (R91). -/
def State.refForceMap (s : State) (k : Nat) : Nat := s.live 0x3001 k (k - 1)
/-- TOD_BAUD (R91). -/
def State.todBaud (s : State) (k : Nat) : Nat := s.live 0x3003 k 9600
/-- ENABLE (R91). -/
def State.refEnable (s : State) (n : Nat) : Bool := s.live (0x3100 + n) 1 0 == 1
/-- PRIORITY (R91). -/
def State.refPriority (s : State) (n : Nat) : Nat := s.live (0x3100 + n) 2 128
/-- QL_CONFIG (R91). -/
def State.qlConfig (s : State) (n : Nat) : Nat := s.live (0x3100 + n) 3 14
/-- QL_SOURCE (R91). -/
def State.qlSource (s : State) (n : Nat) : Nat := s.live (0x3100 + n) 4 2
/-- FREQ_LIMIT (R91). -/
def State.freqLimit (s : State) (n : Nat) : Nat := s.live (0x3100 + n) 5 50000
/-- PHASE_LIMIT (R91). -/
def State.phaseLimit (s : State) (n : Nat) : Nat := s.live (0x3100 + n) 6 1000
/-- PHASE_JUMP (R91). -/
def State.phaseJump (s : State) (n : Nat) : Nat := s.live (0x3100 + n) 7 250
/-- SOAK_TIME (R91). -/
def State.soakTime (s : State) (n : Nat) : Nat := s.live (0x3100 + n) 8 10
/-- SUSPECT_PCT (R91). -/
def State.suspectPct (s : State) (n : Nat) : Nat := s.live (0x3100 + n) 9 75
/-- PROJ_HORIZON (R91). -/
def State.projHorizon (s : State) (n : Nat) : Nat := s.live (0x3100 + n) 10 60
/-- IN_BIND (R91). -/
def State.inBind (s : State) (n : Nat) : Nat := s.live (0x3100 + n) 11 0
/-- IN_PAIR (R91). -/
def State.inPair (s : State) (n : Nat) : Nat := s.live (0x3100 + n) 12 255
/-- NOMINAL_HZ (R91). -/
def State.nominalHz (s : State) (n : Nat) : Nat := s.live (0x3100 + n) 13 10000000000000
/-- IN_ELEC (R540). -/
def State.inElec (s : State) (n : Nat) : Nat := s.cfg (0x3100 + n) 14 0
/-- SE_LANE (R91). -/
def State.seLane (s : State) (n : Nat) : Nat := s.live (0x3100 + n) 11 (n - 8)
/-- GN_UNVERIFIED_QL (R91). -/
def State.gnUnverifiedQl (s : State) : Nat := s.live 0x3110 11 4
/-- TIU_AUTO_RATE (R107). -/
def State.tiuAutoRate (s : State) : Nat := s.cfg 0x3800 1 1000000
/-- TIU_RESID_LIMIT (R107). -/
def State.tiuResidLimit (s : State) : Nat := s.cfg 0x3800 3 6554
/-- CH_ENABLE (R107). -/
def State.chEnable (s : State) (c : Nat) : Bool := s.cfg (0x3900 + c) 1 1 == 1
/-- CH_DIV (R107). -/
def State.chDiv (s : State) (c : Nat) : Nat := s.cfg (0x3900 + c) 2 0
/-- CH_EDGE (R107). -/
def State.chEdge (s : State) (c : Nat) : Nat := s.cfg (0x3900 + c) 3 0
/-- CH_GATE (R107). -/
def State.chGate (s : State) (c : Nat) : Nat := s.live (0x3900 + c) 4 10000
/-- SERVO_BW_ACQ (R126). -/
def State.servoBwAcq (s : State) : Nat := s.live 0x4010 1 1000
/-- SERVO_BW_TRACK (R126). -/
def State.servoBwTrack (s : State) : Nat := s.live 0x4010 2 100
/-- SERVO_BW_SUSPECT (R126). -/
def State.servoBwSuspect (s : State) : Nat := s.live 0x4010 3 10
/-- SERVO_BW_FREQ (R126). -/
def State.servoBwFreq (s : State) : Nat := s.live 0x4010 4 10
/-- SERVO_DAMPING (R126). -/
def State.servoDamping (s : State) : Nat := s.live 0x4010 5 1000
/-- PHASE_SLOPE_LIMIT (R126). -/
def State.phaseSlopeLimit (s : State) : Nat := s.live 0x4011 1 10000
/-- ACQ_SLOPE_LIMIT (R126). -/
def State.acqSlopeLimit (s : State) : Nat := s.live 0x4011 2 1000000
/-- FREQ_SLOPE_LIMIT (R126). -/
def State.freqSlopeLimit (s : State) : Nat := s.live 0x4011 3 1000000
/-- CONTROL_RANGE (R126). -/
def State.controlRange (s : State) : Nat := s.live 0x4011 4 100000000
/-- CHANGE_MODE (R126). -/
def State.changeMode (s : State) : Nat := s.live 0x4012 1 1
/-- STEP_ON_RETURN (R126). -/
def State.stepOnReturn (s : State) : Bool := s.live 0x4012 2 0 == 1
/-- STEP_THRESHOLD (R126). -/
def State.stepThreshold (s : State) : Nat := s.live 0x4012 3 1000
/-- LOCK_PHASE (R126). -/
def State.lockPhase (s : State) : Nat := s.live 0x4012 4 100
/-- LOCK_COUNT (R126). -/
def State.lockCount (s : State) : Nat := s.live 0x4012 5 16
/-- OSC_TYPE (R151). -/
def State.oscType (s : State) : Nat := s.live 0x4400 1 1
/-- OSC_NOMINAL_HZ (R151). -/
def State.oscNominalHz (s : State) : Nat := s.cfg 0x4400 2 10000000000000
/-- OSC_WARM_POLARITY (R151). -/
def State.oscWarmPolarity (s : State) : Bool := s.live 0x4400 3 1 == 1
/-- OVEN_SETPOINT (R151). -/
def State.ovenSetpoint (s : State) : Int := signed 2 (s.live 0x4401 1 8000)
/-- OVEN_KP (R151). -/
def State.ovenKp (s : State) : Nat := s.live 0x4401 2 40000
/-- OVEN_KI (R151). -/
def State.ovenKi (s : State) : Nat := s.live 0x4401 3 400
/-- OVEN_KD (R151). -/
def State.ovenKd (s : State) : Nat := s.live 0x4401 4 20000
/-- OVEN_KFF (R151). -/
def State.ovenKff (s : State) : Nat := s.live 0x4401 5 1100
/-- OVEN_DUTY_MAX (R151). -/
def State.ovenDutyMax (s : State) : Nat := s.live 0x4401 6 10000
/-- OVEN_PWM_HZ (R151). -/
def State.ovenPwmHz (s : State) : Nat := s.live 0x4401 7 20000
/-- OVEN_HEATER_W (R151). -/
def State.ovenHeaterW (s : State) : Nat := s.live 0x4401 8 0
/-- OVEN_TEMP_MAX (R151). -/
def State.ovenTempMax (s : State) : Int := signed 2 (s.live 0x4401 9 10500)
/-- OVEN_THETA (R151). -/
def State.ovenTheta (s : State) : Nat := s.live 0x4401 10 150
/-- THERM_A (R151). -/
def State.thermA (s : State) : Int := signed 8 (s.live 0x4402 1 1129148000000)
/-- THERM_B (R151). -/
def State.thermB (s : State) : Int := signed 8 (s.live 0x4402 2 234125000000)
/-- THERM_C (R151). -/
def State.thermC (s : State) : Int := signed 8 (s.live 0x4402 3 87674100)
/-- OVEN_SENSE_RREF (R151). -/
def State.ovenSenseRref (s : State) : Nat := s.live 0x4402 4 10000
/-- HO_WINDOW (R151). -/
def State.hoWindow (s : State) : Nat := s.live 0x4420 1 3600
/-- HO_GUARD (R151). -/
def State.hoGuard (s : State) : Nat := s.live 0x4420 2 600
/-- HO_LEARN (R151). -/
def State.hoLearn (s : State) : Nat := s.live 0x4420 3 0
/-- HO_AGEING_CFG (R151). -/
def State.hoAgeingCfg (s : State) : Int := signed 4 (s.cfg 0x4420 4 0)
/-- HO_TEMPCO_CFG (R151). -/
def State.hoTempcoCfg (s : State) : Int := signed 4 (s.cfg 0x4420 5 0)
/-- HO_TEMP_SPREAD_MIN (R151). -/
def State.hoTempSpreadMin (s : State) : Nat := s.cfg 0x4420 6 200
/-- HO_FREQ_FLOOR (R151). -/
def State.hoFreqFloor (s : State) : Nat := s.live 0x4420 7 50
/-- HO_AGEING_FLOOR (R151). -/
def State.hoAgeingFloor (s : State) : Nat := s.live 0x4420 8 100
/-- HO_AGEING_PRIOR (R151). -/
def State.hoAgeingPrior (s : State) : Nat := s.cfg 0x4420 9 1000
/-- HO_COLD_FREQ (R151). -/
def State.hoColdFreq (s : State) : Nat := s.cfg 0x4420 10 10000000
/-- HO_PULSE_POLICY (R151). -/
def State.hoPulsePolicy (s : State) : Nat := s.cfg 0x4420 11 0
/-- HO_LEARN_SPAN (R151). -/
def State.hoLearnSpan (s : State) : Nat := s.cfg 0x4420 12 86400
/-- ATOMIC_PROTO (R151). -/
def State.atomicProto (s : State) : Nat := s.live 0x4440 1 0
/-- ATOMIC_BAUD (R151). -/
def State.atomicBaud (s : State) : Nat := s.live 0x4440 2 57600
/-- ATOMIC_TAU (R151). -/
def State.atomicTau (s : State) : Nat := s.live 0x4440 3 1000
/-- ATOMIC_STEP_MAX (R151). -/
def State.atomicStepMax (s : State) : Nat := s.live 0x4440 4 1000
/-- APLL_P (R179). -/
def State.apllP (s : State) (a : Nat) : Nat := s.cfg (0x4800 + a) 1 1
/-- APLL_N_INT (R179). -/
def State.apllNInt (s : State) (a : Nat) : Nat := s.cfg (0x4800 + a) 2 500
/-- APLL_N_FRAC (R179). -/
def State.apllNFrac (s : State) (a : Nat) : Nat := s.cfg (0x4800 + a) 3 0
/-- APLL_Q (R179). -/
def State.apllQ (s : State) (a : Nat) : Nat := s.cfg (0x4800 + a) 4 4
/-- PULSE_SLEW_RATE (R179). -/
def State.pulseSlewRate (s : State) : Nat := s.cfg 0x4840 3 10000
/-- TOD_TXu_ENABLE (R179). -/
def State.todTxEnable (s : State) (u : Nat) : Bool := s.cfg (0x4841 + u) 1 0 == 1
/-- TOD_TXu_SOURCE (R179). -/
def State.todTxSource (s : State) (u : Nat) : Nat := s.cfg (0x4841 + u) 2 255
/-- TOD_TXu_FORMAT (R179). -/
def State.todTxFormat (s : State) (u : Nat) : Nat := s.cfg (0x4841 + u) 3 0
/-- TOD_TXu_BAUD (R179). -/
def State.todTxBaud (s : State) (u : Nat) : Nat := s.cfg (0x4841 + u) 4 9600
/-- TOD_TXu_DELAY (R179). -/
def State.todTxDelay (s : State) (u : Nat) : Nat := s.cfg (0x4841 + u) 5 200
/-- OUTn_ENABLE (R179). -/
def State.outEnable (s : State) (n : Nat) : Bool := s.cfg (0x4900 + n) 1 0 == 1
/-- OUTn_APLL (R179). -/
def State.outApll (s : State) (n : Nat) : Nat := s.cfg (0x4900 + n) 2 (n / 4)
/-- OUTn_DIV (R179). -/
def State.outDiv (s : State) (n : Nat) : Nat := s.cfg (0x4900 + n) 3 8
/-- OUTn_FORMAT (R179). -/
def State.outFormat (s : State) (n : Nat) : Nat := s.cfg (0x4900 + n) 4 0
/-- OUTn_MODE (R179). -/
def State.outMode (s : State) (n : Nat) : Nat := s.cfg (0x4900 + n) 5 0
/-- OUTn_PHASE (R179). -/
def State.outPhase (s : State) (n : Nat) : Int := signed 8 (s.cfg (0x4900 + n) 6 0)
/-- OUTn_PULSE_RATE (R179). -/
def State.outPulseRate (s : State) (n : Nat) : Nat := s.cfg (0x4900 + n) 7 1
/-- OUTn_PULSE_WIDTH (R179). -/
def State.outPulseWidth (s : State) (n : Nat) : Nat := s.cfg (0x4900 + n) 8 100000000
/-- OUTn_ALIGN (R179). -/
def State.outAlign (s : State) (n : Nat) : Bool := s.cfg (0x4900 + n) 9 1 == 1
/-- OUTn_HOLD_ON_RELOCK (R179). -/
def State.outHoldOnRelock (s : State) (n : Nat) : Bool := s.cfg (0x4900 + n) 10 1 == 1
/-- OUTn_STEP_ALLOW (R179). -/
def State.outStepAllow (s : State) (n : Nat) : Bool := s.cfg (0x4900 + n) 11 0 == 1
/-- OUTn_STEP_MIN (R179). -/
def State.outStepMin (s : State) (n : Nat) : Nat := s.cfg (0x4900 + n) 12 1000
/-- OUTn_IDLE (R179). -/
def State.outIdle (s : State) (n : Nat) : Nat := s.cfg (0x4900 + n) 13 0
/-- OUTn_IRIG_CODE (R179). -/
def State.outIrigCode (s : State) (n : Nat) : Nat := s.cfg (0x4900 + n) 14 4
/-- OUTn_IRIG_SCALE (R179). -/
def State.outIrigScale (s : State) (n : Nat) : Nat := s.cfg (0x4900 + n) 15 0
/-- OUTn_IRIG_CF (R179). -/
def State.outIrigCf (s : State) (n : Nat) : Nat := s.cfg (0x4900 + n) 16 0
/-- OUTn_IRIG_MR (R179). -/
def State.outIrigMr (s : State) (n : Nat) : Nat := s.cfg (0x4900 + n) 17 33
/-- OUTn_START_GATE (R179). -/
def State.outStartGate (s : State) (n : Nat) : Nat := s.cfg (0x4900 + n) 18 1
/-- GN_ENABLE (R208). -/
def State.gnEnable (s : State) : Bool := s.cfg 0x5000 1 0 == 1
/-- GN_SYSTEMS (R208). -/
def State.gnSystems (s : State) : Nat := s.live 0x5000 2 7
/-- GN_SIGNALS (R208). -/
def State.gnSignals (s : State) : Nat := s.live 0x5000 3 5
/-- GN_EPOCH_RATE (R208). -/
def State.gnEpochRate (s : State) : Nat := s.live 0x5000 4 10
/-- GN_TIME_SYSTEM (R208). -/
def State.gnTimeSystem (s : State) : Nat := s.live 0x5000 5 0
/-- GN_ISB_MODE (R208). -/
def State.gnIsbMode (s : State) : Nat := s.live 0x5000 6 0
/-- GN_ISB_TOL (R208). -/
def State.gnIsbTol (s : State) : Nat := s.live 0x5000 7 20
/-- GN_ELEV_MASK (R208). -/
def State.gnElevMask (s : State) : Nat := s.live 0x5000 8 10
/-- GN_CN0_MASK (R208). -/
def State.gnCn0Mask (s : State) : Nat := s.live 0x5000 9 3000
/-- GN_CN0_DROP (R208). -/
def State.gnCn0Drop (s : State) : Nat := s.live 0x5000 10 2000
/-- GN_MIN_SV (R208). -/
def State.gnMinSv (s : State) : Nat := s.live 0x5000 11 5
/-- GN_RESID_LIMIT (R208). -/
def State.gnResidLimit (s : State) : Nat := s.live 0x5000 12 30
/-- GN_SIGMA_LIMIT (R208). -/
def State.gnSigmaLimit (s : State) : Nat := s.live 0x5000 13 100
/-- GN_FDE_MAX (R208). -/
def State.gnFdeMax (s : State) : Nat := s.live 0x5000 14 2
/-- GN_JAM_THRESHOLD (R208). -/
def State.gnJamThreshold (s : State) : Nat := s.live 0x5000 15 96
/-- GN_POS_MODE (R208). -/
def State.gnPosMode (s : State) : Nat := s.live 0x5001 1 1
/-- GN_POSITION (R208). -/
def State.gnPosition (s : State) : Nat := s.live 0x5001 2 0
/-- GN_SURVEY_TIME (R208). -/
def State.gnSurveyTime (s : State) : Nat := s.live 0x5001 3 3600
/-- GN_POS_TOL (R208). -/
def State.gnPosTol (s : State) : Nat := s.live 0x5001 4 50000
/-- GN_OSNMA_ENABLE (R208). -/
def State.gnOsnmaEnable (s : State) : Bool := s.live 0x5002 1 1 == 1
/-- GN_OSNMA_PUBKEY (R208). -/
def State.gnOsnmaPubkey (s : State) : Nat := s.live 0x5002 2 0
/-- GN_OSNMA_ROOT (R208). -/
def State.gnOsnmaRoot (s : State) : Nat := s.live 0x5002 3 0
/-- GN_OSNMA_TIME_SOURCE (R208). -/
def State.gnOsnmaTimeSource (s : State) : Nat := s.live 0x5002 4 0
/-- GN_OSNMA_MIN_SV (R208). -/
def State.gnOsnmaMinSv (s : State) : Nat := s.live 0x5002 5 3
/-- GN_OSNMA_CHANNELS (R208). -/
def State.gnOsnmaChannels (s : State) : Nat := s.live 0x5002 6 8
/-- GN_XCHECK (R208). -/
def State.gnXcheck (s : State) : Nat := s.live 0x5002 7 50
/-- ACQ_TC (R208). -/
def State.acqTc (s : State) : Nat := s.cfg 0x5003 1 1
/-- ACQ_NNC (R208). -/
def State.acqNnc (s : State) : Nat := s.cfg 0x5003 2 4
/-- ACQ_CODE_STEP (R208). -/
def State.acqCodeStep (s : State) : Nat := s.cfg 0x5003 3 0
/-- ACQ_DOPPLER_SPAN (R208). -/
def State.acqDopplerSpan (s : State) : Nat := s.cfg 0x5003 4 5000
/-- ACQ_THRESHOLD (R208). -/
def State.acqThreshold (s : State) : Nat := s.cfg 0x5003 5 1800
/-- GIF_ENABLE (R208). -/
def State.gifEnable (s : State) (k : Nat) : Bool := s.live (0x5010 + k) 1 0 == 1
/-- GIF_RATE_DIV (R208). -/
def State.gifRateDiv (s : State) (k : Nat) : Nat := s.live (0x5010 + k) 2 1
/-- GIF_CODE (R208). -/
def State.gifCode (s : State) (k : Nat) : Nat := s.live (0x5010 + k) 3 0
/-- GIF_SLIP (R208). -/
def State.gifSlip (s : State) (k : Nat) : Nat := s.live (0x5010 + k) 4 0
/-- GIF_LO_HZ (R208). -/
def State.gifLoHz (s : State) (k : Nat) : Nat := s.live (0x5010 + k) 5 (match k with | 0 => 1568259000 | 1 => 1176450000 | _ => 1253175000)
/-- GIF_INVERT (R208). -/
def State.gifInvert (s : State) (k : Nat) : Bool := s.live (0x5010 + k) 6 0 == 1
/-- NOTCH_MODE (R208). -/
def State.notchMode (s : State) (k : Nat) : Nat := s.live (0x5010 + k) 7 1
/-- NOTCH_FIXED (R208). -/
def State.notchFixed (s : State) (k : Nat) : Nat := s.live (0x5010 + k) 8 0
/-- NOTCH_DETECT (R208). -/
def State.notchDetect (s : State) (k : Nat) : Nat := s.live (0x5010 + k) 9 150
/-- AGC_QUIET (R208). -/
def State.agcQuiet (s : State) (k : Nat) : Int := signed 2 (s.live (0x5010 + k) 10 64336)
/-- SFM_QUIET (R208). -/
def State.sfmQuiet (s : State) (k : Nat) : Nat := s.live (0x5010 + k) 11 900
/-- TRK_SPACING (R208). -/
def State.trkSpacing (s : State) (ch : Nat) : Nat := s.cfg (0x5100 + ch) 1 16
/-- TRK_VSPACING (R208). -/
def State.trkVspacing (s : State) (ch : Nat) : Nat := s.cfg (0x5100 + ch) 2 64
/-- QUAD_MODE (R253). -/
def State.quadMode (s : State) (q : Nat) : Nat := s.cfg (0x6000 + q) 1 3
/-- QUAD_FEC (R253). -/
def State.quadFec (s : State) (q : Nat) : Nat := s.cfg (0x6000 + q) 2 0
/-- QUAD_REFCLK_SRC (R253). -/
def State.quadRefclkSrc (s : State) (q : Nat) : Nat := s.cfg (0x6000 + q) 3 255
/-- LANE_ENABLE (R253). -/
def State.laneEnable (s : State) (l : Nat) : Bool := s.cfg (0x6100 + l) 1 1 == 1
/-- LANE_TRAIN (R253). -/
def State.laneTrain (s : State) (l : Nat) : Nat := s.cfg (0x6100 + l) 2 0
/-- LANE_TX_POL (R253). -/
def State.laneTxPol (s : State) (l : Nat) : Bool := s.cfg (0x6100 + l) 3 0 == 1
/-- LANE_RX_POL (R253). -/
def State.laneRxPol (s : State) (l : Nat) : Bool := s.cfg (0x6100 + l) 4 0 == 1
/-- LANE_TX_FIR (R253). -/
def State.laneTxFir (s : State) (l : Nat) : Nat := s.cfg (0x6100 + l) 5 16128
/-- LANE_CTLE_MODE (R253). -/
def State.laneCtleMode (s : State) (l : Nat) : Nat := s.cfg (0x6100 + l) 6 0
/-- LANE_CTLE_FIXED (R253). -/
def State.laneCtleFixed (s : State) (l : Nat) : Nat := s.cfg (0x6100 + l) 7 8
/-- LANE_FOM_WARN (R253). -/
def State.laneFomWarn (s : State) (l : Nat) : Nat := s.cfg (0x6100 + l) 8 200
/-- LANE_FOM_MIN (R253). -/
def State.laneFomMin (s : State) (l : Nat) : Nat := s.cfg (0x6100 + l) 9 32
/-- LANE_LPI_ALLOW (R253). -/
def State.laneLpiAllow (s : State) (l : Nat) : Bool := s.cfg (0x6100 + l) 10 0 == 1
/-- LANE_LPI_IDLE (R253). -/
def State.laneLpiIdle (s : State) (l : Nat) : Nat := s.cfg (0x6100 + l) 11 20
/-- ESMC_TX_ENABLE (R253). -/
def State.esmcTxEnable (s : State) (l : Nat) : Bool := s.cfg (0x6100 + l) 12 0 == 1
/-- PEER_LANE_ENABLE (R253). -/
def State.peerLaneEnable (s : State) : Nat := s.cfg 0x6300 1 3
/-- PEER_PREFER (R253). -/
def State.peerPrefer (s : State) : Nat := s.cfg 0x6300 2 0
/-- PORT_ASYM_CORR (R268). -/
def State.portAsymCorr (s : State) (l : Nat) : Int := signed 8 (s.cfg (0x6400 + l) 1 0)
/-- PORT_CTLE_UNC_MAX (R268). -/
def State.portCtleUncMax (s : State) (l : Nat) : Nat := s.cfg (0x6400 + l) 2 12
/-- PORT_CAL_LOOP_DELAY (R268). -/
def State.portCalLoopDelay (s : State) (l : Nat) : Nat := s.cfg (0x6400 + l) 4 0
/-- YARD_MAC_AGE (R287). -/
def State.yardMacAge (s : State) : Nat := s.cfg 0x6800 1 300
/-- YARD_MTU (R287). -/
def State.yardMtu (s : State) : Nat := s.cfg 0x6800 2 9216
/-- SHED_TIMING_RESERVE (R287). -/
def State.shedTimingReserve (s : State) : Nat := s.cfg 0x6800 3 2048
/-- SHED_HOST_RESERVE (R287). -/
def State.shedHostReserve (s : State) : Nat := s.cfg 0x6800 4 4096
/-- HOST_ADDR (R287). -/
def State.hostAddr (s : State) (h : Nat) : Nat := s.cfg (0x6810 + h) 1 0
/-- YARD_VLAN (R287). -/
def State.yardVlan (s : State) (v : Nat) : Nat := s.cfg (0x6880 + v) 1 (if v = 0 then 0xFFFFFFFFFFFFFFFF00010001 else 0)
/-- FDB_STATIC (R287). -/
def State.fdbStatic (s : State) (e : Nat) : Nat := s.cfg (0x6900 + e) 1 0
/-- PORT_CUT_THROUGH (R287). -/
def State.portCutThrough (s : State) (p : Nat) : Bool := s.cfg (0x6A00 + p) 1 1 == 1
/-- PORT_DOWN_HOLD (R287). -/
def State.portDownHold (s : State) (p : Nat) : Nat := s.cfg (0x6A00 + p) 2 2000
/-- PORT_BLOCK_TIME (R287). -/
def State.portBlockTime (s : State) (p : Nat) : Nat := s.cfg (0x6A00 + p) 3 100
/-- PORT_PVID (R287). -/
def State.portPvid (s : State) (p : Nat) : Nat := s.cfg (0x6A00 + p) 4 1
/-- PORT_QMAP_MODE (R287). -/
def State.portQmapMode (s : State) (p : Nat) : Nat := s.cfg (0x6A00 + p) 5 0
/-- PORT_PCP_MAP (R287). -/
def State.portPcpMap (s : State) (p : Nat) : Nat := s.cfg (0x6A00 + p) 6 506097522914230528
/-- PORT_DSCP_MAP (R287). -/
def State.portDscpMap (s : State) (p : Nat) : Nat := s.cfg (0x6A00 + p) 7 368057472586659528220750338286844376477516999725734724041164210659721433828806855236731797976772334213688962774359125851528715305599118485254382230175744
/-- PORT_DEF_QUEUE (R287). -/
def State.portDefQueue (s : State) (p : Nat) : Nat := s.cfg (0x6A00 + p) 8 0
/-- QUEUE_SCHED (R287). -/
def State.queueSched (s : State) (pq : Nat) : Nat := s.cfg (0x6B00 + pq) 1 0
/-- QUEUE_WEIGHT (R287). -/
def State.queueWeight (s : State) (pq : Nat) : Nat := s.cfg (0x6B00 + pq) 2 8
/-- QUEUE_MIN (R287). -/
def State.queueMin (s : State) (pq : Nat) : Nat := s.cfg (0x6B00 + pq) 3 16
/-- QUEUE_ALPHA (R287). -/
def State.queueAlpha (s : State) (pq : Nat) : Nat := s.cfg (0x6B00 + pq) 4 3
/-- QUEUE_MAX (R287). -/
def State.queueMax (s : State) (pq : Nat) : Nat := s.cfg (0x6B00 + pq) 5 12288
/-- QUEUE_ECN_THRESH (R287). -/
def State.queueEcnThresh (s : State) (pq : Nat) : Nat := s.cfg (0x6B00 + pq) 6 1024
/-- MIRROR_ENABLE (R287). -/
def State.mirrorEnable (s : State) (m : Nat) : Bool := s.cfg (0x6E00 + m) 1 0 == 1
/-- MIRROR_DEST (R287). -/
def State.mirrorDest (s : State) (m : Nat) : Nat := s.cfg (0x6E00 + m) 2 0
/-- MIRROR_SRC_RX (R287). -/
def State.mirrorSrcRx (s : State) (m : Nat) : Nat := s.cfg (0x6E00 + m) 3 0
/-- MIRROR_SRC_TX (R287). -/
def State.mirrorSrcTx (s : State) (m : Nat) : Nat := s.cfg (0x6E00 + m) 4 0
/-- MIRROR_FLOW (R287). -/
def State.mirrorFlow (s : State) (m : Nat) : Nat := s.cfg (0x6E00 + m) 5 0
/-- MIRROR_TRUNC (R287). -/
def State.mirrorTrunc (s : State) (m : Nat) : Nat := s.cfg (0x6E00 + m) 6 0
/-- CLOCK_IDENTITY (R310). -/
def State.clockIdentity (s : State) : Nat := s.live 0x7000 1 clockIdentityDefault
/-- PTP_AUTH_CAPACITY (R310). -/
def State.ptpAuthCapacity (s : State) : Nat := s.cfg 0x7000 2 4000000
/-- PTP_MSG_CAPACITY (R310). -/
def State.ptpMsgCapacity (s : State) : Nat := s.cfg 0x7000 3 12000000
/-- PTP_GRANT_MAX_DURATION (R310). -/
def State.ptpGrantMaxDuration (s : State) : Nat := s.live 0x7000 4 300
/-- PTP_TC_MODE (R310). -/
def State.ptpTcMode (s : State) : Nat := s.live 0x7000 5 0
/-- PTP_ENABLE (R310). -/
def State.ptpEnable (s : State) (k : Nat) : Bool := s.live (0x7010 + k) 1 0 == 1
/-- PTP_PROFILE (R310). -/
def State.ptpProfile (s : State) (k : Nat) : Nat := s.cfg (0x7010 + k) 2 2
/-- PTP_DOMAIN (R310). -/
def State.ptpDomain (s : State) (k : Nat) : Nat := s.cfg (0x7010 + k) 3 24
/-- PTP_ROLE (R310). -/
def State.ptpRole (s : State) (k : Nat) : Nat := s.live (0x7010 + k) 4 0
/-- PTP_PORTS (R310). -/
def State.ptpPorts (s : State) (k : Nat) : Nat := s.cfg (0x7010 + k) 5 0
/-- PTP_TRANSPORT (R310). -/
def State.ptpTransport (s : State) (k : Nat) : Nat := s.cfg (0x7010 + k) 6 0
/-- PTP_MINOR_VERSION (R310). -/
def State.ptpMinorVersion (s : State) (k : Nat) : Nat := s.live (0x7010 + k) 7 1
/-- PTP_PRIORITY1 (R310). -/
def State.ptpPriority1 (s : State) (k : Nat) : Nat := s.live (0x7010 + k) 8 128
/-- PTP_PRIORITY2 (R310). -/
def State.ptpPriority2 (s : State) (k : Nat) : Nat := s.live (0x7010 + k) 9 128
/-- PTP_LOG_ANNOUNCE (R310). -/
def State.ptpLogAnnounce (s : State) (k : Nat) : Int := signed 1 (s.live (0x7010 + k) 10 253)
/-- PTP_LOG_SYNC (R310). -/
def State.ptpLogSync (s : State) (k : Nat) : Int := signed 1 (s.live (0x7010 + k) 11 252)
/-- PTP_LOG_DELAY_REQ (R310). -/
def State.ptpLogDelayReq (s : State) (k : Nat) : Int := signed 1 (s.live (0x7010 + k) 12 252)
/-- PTP_ANNOUNCE_TIMEOUT (R310). -/
def State.ptpAnnounceTimeout (s : State) (k : Nat) : Nat := s.live (0x7010 + k) 13 3
/-- PTP_TWO_STEP (R310). -/
def State.ptpTwoStep (s : State) (k : Nat) : Bool := s.live (0x7010 + k) 14 0 == 1
/-- PTP_UNICAST (R310). -/
def State.ptpUnicast (s : State) (k : Nat) : Bool := s.live (0x7010 + k) 15 0 == 1
/-- PTP_AUTH_POLICY (R310). -/
def State.ptpAuthPolicy (s : State) (k : Nat) : Nat := s.live (0x7010 + k) 16 2
/-- PTP_SA_SEND (R310). -/
def State.ptpSaSend (s : State) (k : Nat) : Nat := s.live (0x7010 + k) 17 0
/-- PTP_UC_MASTERS (R310). -/
def State.ptpUcMasters (s : State) (k : Nat) : Nat := s.live (0x7010 + k) 18 0
/-- PTP_PORT_ROLE (R310). -/
def State.ptpPortRole (s : State) (p : Nat) : Nat := s.live (0x7100 + p) 1 0
/-- PTP_LOCAL_PRIORITY (R310). -/
def State.ptpLocalPriority (s : State) (p : Nat) : Nat := s.live (0x7100 + p) 2 128
/-- PORT_TC_ENABLE (R310). -/
def State.portTcEnable (s : State) (p : Nat) : Bool := s.live (0x7100 + p) 3 0 == 1
/-- SA_ALG (R310). -/
def State.saAlg (s : State) (i : Nat) : Nat := s.live (0x7300 + i) 1 0
/-- SA_KEY_ID (R310). -/
def State.saKeyId (s : State) (i : Nat) : Nat := s.live (0x7300 + i) 2 0
/-- SA_SEND_SLOT (R310). -/
def State.saSendSlot (s : State) (i : Nat) : Nat := s.live (0x7300 + i) 3 65535
/-- SA_VERIFY_SLOT (R310). -/
def State.saVerifySlot (s : State) (i : Nat) : Nat := s.live (0x7300 + i) 4 65535
/-- SA_NEXT_KEY_ID (R310). -/
def State.saNextKeyId (s : State) (i : Nat) : Nat := s.live (0x7300 + i) 5 0
/-- SA_NEXT_SEND_SLOT (R310). -/
def State.saNextSendSlot (s : State) (i : Nat) : Nat := s.live (0x7300 + i) 6 65535
/-- SA_NEXT_VERIFY_SLOT (R310). -/
def State.saNextVerifySlot (s : State) (i : Nat) : Nat := s.live (0x7300 + i) 7 65535
/-- SA_SWITCH_TAI (R310). -/
def State.saSwitchTai (s : State) (i : Nat) : Nat := s.live (0x7300 + i) 8 0
/-- NTP_ENABLE (R328). -/
def State.ntpEnable (s : State) : Bool := s.cfg 0x7800 1 0 == 1
/-- NTS_ENABLE (R328). -/
def State.ntsEnable (s : State) : Bool := s.cfg 0x7800 2 0 == 1
/-- NTP_VERSIONS (R328). -/
def State.ntpVersions (s : State) : Nat := s.cfg 0x7800 3 3
/-- NTP_PORTS (R328). -/
def State.ntpPorts (s : State) : Nat := s.cfg 0x7800 4 0
/-- NTP_ADDRS (R328). -/
def State.ntpAddrs (s : State) : Nat := s.cfg 0x7800 5 0
/-- NTP_LEAP_MODE (R328). -/
def State.ntpLeapMode (s : State) : Nat := s.cfg 0x7800 6 0
/-- NTS_AEADS (R328). -/
def State.ntsAeads (s : State) : Nat := s.cfg 0x7800 7 3
/-- NTP_PREFIX4 (R328). -/
def State.ntpPrefix4 (s : State) : Nat := s.cfg 0x7801 1 32
/-- NTP_PREFIX6 (R328). -/
def State.ntpPrefix6 (s : State) : Nat := s.cfg 0x7801 2 64
/-- NTP_BUCKET_RATE (R328). -/
def State.ntpBucketRate (s : State) : Nat := s.cfg 0x7801 3 128
/-- NTP_BUCKET_DEPTH (R328). -/
def State.ntpBucketDepth (s : State) : Nat := s.cfg 0x7801 4 16
/-- NTP_RATE_KISS (R328). -/
def State.ntpRateKiss (s : State) : Bool := s.cfg 0x7801 5 0 == 1
/-- NTP_KISS_POLL (R328). -/
def State.ntpKissPoll (s : State) : Int := signed 1 (s.cfg 0x7801 6 6)
/-- NTP_KISS_RATE (R328). -/
def State.ntpKissRate (s : State) : Nat := s.cfg 0x7801 7 100000
/-- NTP_CAPACITY (R328). -/
def State.ntpCapacity (s : State) : Nat := s.cfg 0x7802 1 24000000
/-- NTS_CAPACITY (R328). -/
def State.ntsCapacity (s : State) : Nat := s.cfg 0x7802 2 16000000
/-- NTS_EXC_RATE (R328). -/
def State.ntsExcRate (s : State) : Nat := s.cfg 0x7802 5 10000
/-- NTS_KEY_ID (R328). -/
def State.ntsKeyId (s : State) (k : Nat) : Nat := s.cfg (0x7810 + k) 1 0
/-- NTS_KEY_ENC_SLOT (R328). -/
def State.ntsKeyEncSlot (s : State) (k : Nat) : Nat := s.cfg (0x7810 + k) 2 65535
/-- NTS_KEY_DEC_SLOT (R328). -/
def State.ntsKeyDecSlot (s : State) (k : Nat) : Nat := s.cfg (0x7810 + k) 3 65535
/-- NTS_KEY_CURRENT (R328). -/
def State.ntsKeyCurrent (s : State) : Nat := s.cfg 0x7812 1 0
/-- NTS_MINT_RING_BASE (R328). -/
def State.ntsMintRingBase (s : State) : Nat := s.cfg 0x7820 1 0
/-- NTS_MINT_RING_SIZE (R328). -/
def State.ntsMintRingSize (s : State) : Nat := s.cfg 0x7820 2 0
/-- NTS_MINT_WRAP_SLOT (R328). -/
def State.ntsMintWrapSlot (s : State) : Nat := s.cfg 0x7820 5 65535
/-- FW_MIN_SVN (R350). -/
def State.fwMinSvn (s : State) : Nat := s.cfg 0x8000 2 0
/-- PADDOCK_ENABLE (R350). -/
def State.paddockEnable (s : State) : Bool := s.cfg 0x8010 1 0 == 1
/-- TACK_ENGINES (R350). -/
def State.tackEngines (s : State) : Nat := s.cfg 0x8010 2 0
/-- PADDOCK_BASE (R350). -/
def State.paddockBase (s : State) : Nat := s.cfg 0x8010 3 0
/-- PADDOCK_SIZE (R350). -/
def State.paddockSize (s : State) : Nat := s.cfg 0x8010 4 0
/-- PADDOCK_DRAM_SHARE (R350). -/
def State.paddockDramShare (s : State) : Nat := s.cfg 0x8010 5 10
/-- TACK_VERIFY_SLOT (R350). -/
def State.tackVerifySlot (s : State) : Nat := s.cfg 0x8010 6 65535
/-- TACK_MIN_SVN (R350). -/
def State.tackMinSvn (s : State) : Nat := s.cfg 0x8010 7 0
/-- TACK_HOST_ACCESS (R350). -/
def State.tackHostAccess (s : State) : Bool := s.cfg 0x8010 8 0 == 1
/-- TACK_RESTART_MAX (R350). -/
def State.tackRestartMax (s : State) : Nat := s.cfg 0x8010 9 0
/-- TACK_WDOG (R350). -/
def State.tackWdog (s : State) (j : Nat) : Nat := s.cfg (0x8020 + j) 4 1000
/-- TACK_TAP (R350). -/
def State.tackTap (s : State) (t : Nat) : Nat := s.cfg (0x8030 + t) 1 0
/-- PC_DUMP_BASE (R375). -/
def State.pcDumpBase (s : State) : Nat := s.cfg 0x8800 1 0
/-- PC_DUMP_SIZE (R375). -/
def State.pcDumpSize (s : State) : Nat := s.cfg 0x8800 2 0
/-- PC_DUMP_PERIOD (R375). -/
def State.pcDumpPeriod (s : State) : Nat := s.live 0x8800 3 1000
/-- PC_DUMP_MASK (R375). -/
def State.pcDumpMask (s : State) : Nat := s.live 0x8800 4 0
/-- PC_SAMPLE_MASK (R375). -/
def State.pcSampleMask (s : State) : Nat := s.live 0x8800 5 0
/-- PC_DUMP_CONSUMER (R375). -/
def State.pcDumpConsumer (s : State) : Nat := s.cfg 0x8801 2 0
/-- PC_EVENT (R375). -/
def State.pcEvent (s : State) (e : Nat) : Nat := s.cfg (0x8810 + e) 1 0
/-- PC_SAMPLE (R375). -/
def State.pcSample (s : State) (e : Nat) : Nat := s.cfg (0x8810 + e) 2 0
/-- GOV_SUPPLY_CAP (R362). -/
def State.govSupplyCap (s : State) : Nat := s.cfg 0x8C00 1 0
/-- GOV_BOARD_W (R362). -/
def State.govBoardW (s : State) : Nat := s.cfg 0x8C00 2 0
/-- GOV_MARGIN (R362). -/
def State.govMargin (s : State) : Nat := s.cfg 0x8C00 3 1000
/-- GOV_TJ_LIMIT (R362). -/
def State.govTjLimit (s : State) : Int := signed 2 (s.cfg 0x8C00 4 (if Config.gradeE then 10500 else 9000))
/-- GOV_TJ_HYST (R362). -/
def State.govTjHyst (s : State) : Nat := s.cfg 0x8C00 5 300
/-- GOV_RAISE_MARGIN (R362). -/
def State.govRaiseMargin (s : State) : Nat := s.cfg 0x8C00 6 500
/-- GOV_RAISE_HOLD (R362). -/
def State.govRaiseHold (s : State) : Nat := s.cfg 0x8C00 7 1000
/-- GOV_W2_REDUCED (R362). -/
def State.govW2Reduced (s : State) : Nat := s.cfg 0x8C00 8 50
/-- GOV_W2_MIN (R362). -/
def State.govW2Min (s : State) : Nat := s.cfg 0x8C00 9 10
/-- GOV_COLD_START (R362). -/
def State.govColdStart (s : State) : Bool := s.cfg 0x8C00 10 0 == 1
/-- GOV_COLD_MAX (R362). -/
def State.govColdMax (s : State) : Nat := s.cfg 0x8C00 11 900
/-- GOV_LEVEL_MIN (R362). -/
def State.govLevelMin (s : State) : Nat := s.cfg 0x8C00 12 0
/-- VAULT_STAGE_TIMEOUT (R404). -/
def State.vaultStageTimeout (s : State) : Nat := s.cfg 0xA001 1 60
/-- VAULT_CLASS_MODE (R404). -/
def State.vaultClassMode (s : State) (c : Nat) : Nat := s.cfg (0xA010 + c) 1 0
/-- TAMPER_ENABLE (R404). -/
def State.tamperEnable (s : State) : Nat := s.cfg 0xA500 1 480
/-- TAMPER_LOOP_LEVEL (R404). -/
def State.tamperLoopLevel (s : State) : Nat := s.cfg 0xA500 2 0
/-- TAMPER_TEMP_LOW (R404). -/
def State.tamperTempLow (s : State) : Int := signed 2 (s.cfg 0xA500 3 (if Config.gradeE then 60536 else 64536))
/-- TAMPER_TEMP_HIGH (R404). -/
def State.tamperTempHigh (s : State) : Int := signed 2 (s.cfg 0xA500 4 (if Config.gradeE then 12000 else 10500))
/-- AUTH_IDLE (R423). -/
def State.authIdle (s : State) : Nat := s.cfg 0xA801 1 300
/-- ANON_READ (R423). -/
def State.anonRead (s : State) : Nat := s.cfg 0xA801 2 0
/-- TICKET_MIN_ID (R423). -/
def State.ticketMinId (s : State) : Nat := s.cfg 0xA801 3 0
/-- PAIR_ENABLE (R469). -/
def State.pairEnable (s : State) : Bool := s.cfg 0xB000 1 0 == 1
/-- HALTER_LEASE (R469). -/
def State.halterLease (s : State) : Nat := s.live 0xB000 2 20
/-- HALTER_GUARD (R469). -/
def State.halterGuard (s : State) : Nat := s.live 0xB000 3 5
/-- PAIR_KEY_SLOT (R469). -/
def State.pairKeySlot (s : State) : Nat := s.cfg 0xB000 4 65535
/-- PAIR_PEER_SERIAL (R469). -/
def State.pairPeerSerial (s : State) : Nat := s.cfg 0xB000 5 0
/-- PAIR_SHARED_ADDRS (R469). -/
def State.pairSharedAddrs (s : State) : Nat := s.live 0xB000 6 0
/-- PAIR_REVERTIVE (R469). -/
def State.pairRevertive (s : State) : Bool := s.live 0xB000 7 1 == 1
/-- RETURN_HOLD (R469). -/
def State.returnHold (s : State) : Nat := s.live 0xB000 8 300
/-- PAIR_HOLD_STANDBY (R469). -/
def State.pairHoldStandby (s : State) : Bool := s.live 0xB000 9 0 == 1
/-- PAIR_YIELD_MASK (R469). -/
def State.pairYieldMask (s : State) : Nat := s.live 0xB000 10 255
/-- PAIR_KEY_SLOTS (R469). -/
def State.pairKeySlots (s : State) : Nat := s.live 0xB000 11 115792089237316195423570985008687907853269984665640564039457584007913129639935
/-- SWAP_PERIOD (R469). -/
def State.swapPeriod (s : State) : Nat := s.live 0xB001 1 24
/-- SWAP_WINDOW_START (R469). -/
def State.swapWindowStart (s : State) : Nat := s.live 0xB001 2 7200
/-- SWAP_WINDOW_LEN (R469). -/
def State.swapWindowLen (s : State) : Nat := s.live 0xB001 3 3600
/-- SWAP_DWELL (R469). -/
def State.swapDwell (s : State) : Nat := s.live 0xB001 4 3600
/-- HANDOFF_ALIGN (R469). -/
def State.handoffAlign (s : State) : Nat := s.live 0xB001 5 100
/-- SNAP_MAX_AGE (R469). -/
def State.snapMaxAge (s : State) : Nat := s.live 0xB001 6 2000
/-- SNAP_FULL_PERIOD (R469). -/
def State.snapFullPeriod (s : State) : Nat := s.live 0xB001 7 60
/-- DOMAIN_ROLE (R483). -/
def State.domainRole (s : State) : Nat := s.cfg 0xB800 1 0
/-- DOMAIN_ID (R483). -/
def State.domainId (s : State) : Nat := s.cfg 0xB800 2 0
/-- DOMAIN_KEY_SLOT (R483). -/
def State.domainKeySlot (s : State) : Nat := s.cfg 0xB800 3 65535
/-- DOMAIN_MANAGER_ADDR (R483). -/
def State.domainManagerAddr (s : State) : Nat := s.live 0xB800 4 0
/-- DOMAIN_MANAGER_SERIALS (R483). -/
def State.domainManagerSerials (s : State) : Nat := s.live 0xB800 5 0
/-- DOMAIN_MANAGER_ID (R483). -/
def State.domainManagerId (s : State) : Nat := s.live 0xB800 6 0
/-- WORKER_NUMBER (R483). -/
def State.workerNumber (s : State) : Nat := s.cfg 0xB800 7 0
/-- DOMAIN_POLICY_MASK (R483). -/
def State.domainPolicyMask (s : State) : Nat := s.cfg 0xB800 8 0
/-- DOMAIN_LOSS_TIME (R483). -/
def State.domainLossTime (s : State) : Nat := s.live 0xB800 9 3000
/-- DOMAIN_JOIN_RATE (R483). -/
def State.domainJoinRate (s : State) : Nat := s.live 0xB800 10 200
/-- DOMAIN_KEY_SLOTS (R483). -/
def State.domainKeySlots (s : State) : Nat := s.live 0xB800 11 115792089237316195423570985008687907853269984665640564039457584007913129639935
/-- DOMAIN_PORTS (R483). -/
def State.domainPorts (s : State) : Nat := s.live 0xB800 12 0
/-- DOMAIN_POLICY (R483). -/
def State.domainPolicy (s : State) (i : Nat) : Nat := s.cfg (0xBB00 + i) 1 0
/-- FAULT_N_LEVEL (R497). -/
def State.faultNLevel (s : State) : Nat := s.live 0xC000 2 2
/-- FAULT_HANDLE_MAX (R497). -/
def State.faultHandleMax (s : State) : Nat := s.live 0xC000 3 100
/-- FAULT_F3_LIMIT (R497). -/
def State.faultF3Limit (s : State) : Nat := s.live 0xC000 4 3
/-- EVLOG_BASE (R497). -/
def State.evlogBase (s : State) : Nat := s.cfg 0xC010 1 0
/-- EVLOG_SIZE (R497). -/
def State.evlogSize (s : State) : Nat := s.cfg 0xC010 2 0
/-- EVLOG_AUDIT_HOLD (R497). -/
def State.evlogAuditHold (s : State) : Bool := s.live 0xC010 3 0 == 1
/-- EVLOG_CONSUMER (R497). -/
def State.evlogConsumer (s : State) : Nat := s.cfg 0xC011 2 0
/-- STARTUP_WARM_MAX (R517). -/
def State.startupWarmMax (s : State) : Nat := s.cfg 0xD000 3 1800
/-- GATE_ON_RELOCK (R28). -/
def State.gateOnRelock (s : State) : Bool := s.cfg 0xD101 1 1 == 1

end Sys2Proof.Machine
end

