-- ==== Sys2Proof/Machine/Prim.lean ====
section
/-!
DEFINITION. Small helpers the meanings share: counters that wrap, bit fields, sorted lists of pairs, byte memories in
canonical form, exact division and roots, and the accessors of the state's lists.
-/
set_option Elab.async false
namespace Sys2Proof.Machine

/-! ## Numbers -/

/-- A U32 counter counted up by one; it wraps. -/
def bump (n : Nat) : Nat := (n + 1) % 4294967296

/-- A U32 counter counted up by k; it wraps. -/
def bumpBy (n k : Nat) : Nat := (n + k) % 4294967296

/-- `len` bytes of a little-endian record value from offset `off`. -/
def fld (v off len : Nat) : Nat := v / 2 ^ (8 * off) % 2 ^ (8 * len)

/-- `w` bits of `v` from bit `lo`. -/
def bits (v lo w : Nat) : Nat := v / 2 ^ lo % 2 ^ w

/-- Bit `n` of `v`. -/
def bit (v n : Nat) : Bool := v.testBit n

/-- `v` with bit `n` set or cleared. -/
def setBit (v n : Nat) (b : Bool) : Nat :=
  if b == v.testBit n then v else if b then v + 2 ^ n else v - 2 ^ n

/-- 1 for true, 0 for false. -/
def b2n (b : Bool) : Nat := if b then 1 else 0

/-- A number with the given bits, bit 0 first. -/
def ofBits : List Bool → Nat
  | [] => 0
  | b :: t => b2n b + 2 * ofBits t

/-- Number of set bits among the lowest `n`. -/
def popcount (n v : Nat) : Nat := (List.range n).countP v.testBit

/-- The lowest set bit among the lowest `n`. -/
def lowBit (n v : Nat) : Option Nat := (List.range n).find? v.testBit

/-- The set bits among the lowest `n`, ascending. -/
def bitList (n v : Nat) : List Nat := (List.range n).filter v.testBit

/-- Quotient rounded to nearest, ties up (log entry 12). -/
def rdiv (a : Int) (b : Nat) : Int := (2 * a + b) / (2 * (b : Int))

/-- Quotient rounded up. -/
def cdiv (a b : Nat) : Nat := (a + b - 1) / b

/-- A value held between two bounds. -/
def clampI (lo hi v : Int) : Int := max lo (min hi v)

/-- Square root rounded down: `k` bits still to try, `r` found so far. -/
def isqrtGo (n : Nat) : Nat → Nat → Nat
  | 0, r => r
  | k + 1, r => if (r + 2 ^ k) * (r + 2 ^ k) ≤ n then isqrtGo n k (r + 2 ^ k) else isqrtGo n k r

/-- Square root rounded down. -/
def isqrt (n : Nat) : Nat := isqrtGo n (n.log2 / 2 + 1) 0

/-- Square root rounded up. -/
def isqrtUp (n : Nat) : Nat := if isqrt n * isqrt n = n then isqrt n else isqrt n + 1

/-- The square root of x / d rounded to nearest (log entry 12). -/
def rootRatio (x d : Nat) : Nat := (isqrt (4 * x / d) + 1) / 2

/-- A sum of GIRTH32 values, saturating (R12). -/
def gsum (l : List Nat) : Nat := min girthUnknown (if l.any (girthUnknown ≤ ·) then girthUnknown else l.sum)

/-- 2⁻¹⁶ ns rounded up to 1/16 ns, saturating (R12). -/
def toGirth (u : Nat) : Nat := min girthUnknown (cdiv u 4096)

/-- The largest of a list of Nat, 0 for none. -/
def maxL (l : List Nat) : Nat := l.foldl max 0

/-- Bytes of a number, least significant first. -/
def leBytes : Nat → Nat → List Byte
  | 0, _ => []
  | n + 1, v => BitVec.ofNat 8 v :: leBytes n (v / 256)

/-- The number that bytes spell, least significant first. -/
def leNat : List Byte → Nat
  | [] => 0
  | b :: t => b.toNat + 256 * leNat t

/-- A list of parts with their byte lengths as one little-endian number, first part lowest. -/
def lePack : List (Nat × Nat) → Nat
  | [] => 0
  | (len, v) :: t => v % 2 ^ (8 * len) + 2 ^ (8 * len) * lePack t

/-- Byte length of such a list. -/
def lePackLen (l : List (Nat × Nat)) : Nat := (l.map (·.1)).sum

/-- The octets of a number of `n` octets in the opposite order. -/
def revBytes : Nat → Nat → Nat
  | 0, _ => 0
  | n + 1, v => v % 256 * 256 ^ n + revBytes n (v / 256)

/-! ## Lists -/

/-- A list of pairs in ascending order of key, with `k` set to `v`. -/
def putKey {α : Type} (k : Nat) (v : α) : List (Nat × α) → List (Nat × α)
  | [] => [(k, v)]
  | (j, w) :: t => if k < j then (k, v) :: (j, w) :: t else if k = j then (k, v) :: t else (j, w) :: putKey k v t

/-- The list without key `k`. -/
def delKey {α : Type} (k : Nat) (l : List (Nat × α)) : List (Nat × α) := l.filter (fun p => p.1 != k)

/-- Entry `i` changed by `f`; the list as it is when there is no such entry. -/
def upd {α : Type} (f : α → α) : Nat → List α → List α
  | _, [] => []
  | 0, a :: t => f a :: t
  | n + 1, a :: t => a :: upd f n t

/-- Entry `i` of a list of counters counted up. -/
def bumpAt (i : Nat) (l : List Nat) : List Nat := upd bump i l

/-- The first `n` of a list. -/
def newest {α : Type} (n : Nat) (l : List α) : List α := l.take n

/-! ## Byte memories

A memory lists the bytes that differ from 0, addresses strictly rising (R509 leaves a wiped memory at 0; log entry 11). -/

/-- A byte of a memory. -/
def memGet (m : List Host.Cell) (a : Nat) : Byte := (m.lookup a).getD 0#8

/-- A byte of a memory written. -/
def memSet (m : List Host.Cell) (a : Nat) (v : Byte) : List Host.Cell :=
  if v = 0#8 then delKey a m else putKey a v m

/-- Bytes written from an address. -/
def memWrite (m : List Host.Cell) (a : Nat) : List Byte → List Host.Cell
  | [] => m
  | b :: t => memWrite (memSet m a b) (a + 1) t

/-- `n` bytes read from an address. -/
def memRead (m : List Host.Cell) (a : Nat) : Nat → List Byte
  | 0 => []
  | n + 1 => memGet m a :: memRead m (a + 1) n

/-- A range wiped. -/
def memWipe (m : List Host.Cell) (a n : Nat) : List Host.Cell := m.filter (fun c => c.1 < a || a + n ≤ c.1)

/-- The canonical form: addresses strictly rising, no byte equal to 0. -/
def memWf : List Host.Cell → Bool
  | [] => true
  | [c] => c.2 != 0#8
  | c :: d :: t => c.2 != 0#8 && decide (c.1 < d.1) && memWf (d :: t)

/-! ## Accessors of the state's lists -/

def State.ref (s : State) (n : Nat) : Ref := s.refs.getD n Ref.init
def State.onRef (s : State) (n : Nat) (f : Ref → Ref) : State := { s with refs := upd f n s.refs }
def State.chan (s : State) (c : Nat) : Tiu := s.tiu.getD c Tiu.init
def State.onChan (s : State) (c : Nat) (f : Tiu → Tiu) : State := { s with tiu := upd f c s.tiu }
def State.apll (s : State) (a : Nat) : Apll := s.synth.aplls.getD a Apll.init
def State.onApll (s : State) (a : Nat) (f : Apll → Apll) : State :=
  { s with synth := { s.synth with aplls := upd f a s.synth.aplls } }
def State.out (s : State) (n : Nat) : Output := s.synth.outs.getD n (Output.init n)
def State.onOut (s : State) (n : Nat) (f : Output → Output) : State :=
  { s with synth := { s.synth with outs := upd f n s.synth.outs } }
def State.onOuts (s : State) (f : Output → Output) : State :=
  { s with synth := { s.synth with outs := s.synth.outs.map f } }
def State.gif (s : State) (k : Nat) : Gif := s.gnss.gifs.getD k Gif.init
def State.onGif (s : State) (k : Nat) (f : Gif → Gif) : State :=
  { s with gnss := { s.gnss with gifs := upd f k s.gnss.gifs } }
def State.quad (s : State) (q : Nat) : Quad := s.net.quads.getD q Quad.init
def State.onQuad (s : State) (q : Nat) (f : Quad → Quad) : State :=
  { s with net := { s.net with quads := upd f q s.net.quads } }
def State.lane (s : State) (l : Nat) : Lane := s.net.lanes.getD l Lane.init
def State.onLane (s : State) (l : Nat) (f : Lane → Lane) : State :=
  { s with net := { s.net with lanes := upd f l s.net.lanes } }
def State.yport (s : State) (p : Nat) : YPort := s.yard.ports.getD p YPort.init
def State.onYPort (s : State) (p : Nat) (f : YPort → YPort) : State :=
  { s with yard := { s.yard with ports := upd f p s.yard.ports } }
def State.queue (s : State) (i : Nat) : Queue := s.yard.queues.getD i Queue.init
def State.onQueue (s : State) (i : Nat) (f : Queue → Queue) : State :=
  { s with yard := { s.yard with queues := upd f i s.yard.queues } }
def State.pport (s : State) (p : Nat) : PtpPort := s.ptp.ports.getD p PtpPort.init
def State.onPPort (s : State) (p : Nat) (f : PtpPort → PtpPort) : State :=
  { s with ptp := { s.ptp with ports := upd f p s.ptp.ports } }
def State.inst (s : State) (k : Nat) : PtpInst := s.ptp.insts.getD k PtpInst.init
def State.onInst (s : State) (k : Nat) (f : PtpInst → PtpInst) : State :=
  { s with ptp := { s.ptp with insts := upd f k s.ptp.insts } }
def State.eng (s : State) (e : Nat) : Eng := s.engs.eng.getD e Eng.init
def State.onEng (s : State) (e : Nat) (f : Eng → Eng) : State :=
  { s with engs := { s.engs with eng := upd f e s.engs.eng } }
def State.tackOf (s : State) (j : Nat) : Tack := s.engs.tack.getD j Tack.init
def State.onTack (s : State) (j : Nat) (f : Tack → Tack) : State :=
  { s with engs := { s.engs with tack := upd f j s.engs.tack } }
def State.canOf (s : State) (c : Nat) : Can := s.dict.can.getD c (Can.init c)
def State.onCan (s : State) (c : Nat) (f : Can → Can) : State :=
  { s with dict := { s.dict with can := upd f c s.dict.can } }
def State.group (s : State) (g : Nat) : Nat := s.clk.groups.getD (g - 1) 0
def State.setGroup (s : State) (g v : Nat) : State :=
  { s with clk := { s.clk with groups := s.clk.groups.set (g - 1) v } }
def State.slot (s : State) (n : Nat) : Slot := (s.vault.slots.lookup n).getD ⟨0, 0, 0, 0, 0, 0, 0, none⟩
def State.setSlot (s : State) (n : Nat) (v : Slot) : State :=
  { s with vault := { s.vault with slots := putKey n v s.vault.slots } }
def State.dropSlot (s : State) (n : Nat) : State :=
  { s with vault := { s.vault with slots := delKey n s.vault.slots } }

/-- A value of the dictionary stored (R425). -/
def State.put (s : State) (idx sub v : Nat) : State :=
  { s with dict := { s.dict with store := putKey (idx * 256 + sub) v s.dict.store } }

/-- A bundle: false for A, true for B. -/
def State.bundle (s : State) (b : Bool) : Option Bundle := if b then s.start.bundleBInfo else s.start.bundleA

/-- SVN of the running bundle. -/
def State.fwSvn (s : State) : Nat :=
  match s.bundle s.start.bundleB with
  | some b => b.svn
  | none => 0

/-- A value stored whose effect waits: what was in force stays so (R92, R127, R135, R152, R180, R209). -/
def State.putLate (s : State) (idx sub v : Nat) : State :=
  let k := idx * 256 + sub
  let t := s.put idx sub v
  if (s.dict.held.lookup k).isSome then t
  else { t with dict := { t.dict with held := putKey k (s.dict.store.lookup k) t.dict.held } }

/-- The waiting writes of the entries that `p` names take effect. -/
def State.takeLate (s : State) (p : Nat → Bool) : State :=
  { s with dict := { s.dict with held := s.dict.held.filter (fun x => !p x.1) } }

/-- The part as its stored values alone show it: a write is judged against these. -/
def State.stored (s : State) : State := { s with dict := { s.dict with held := [] } }

/-- A free value (log entry 2): the next of the part's open values, and the state that has drawn it. -/
def State.draw (s : State) : Nat × State := (Config.freeValue s.freeCount, { s with freeCount := s.freeCount + 1 })

/-! ## Time -/

/-- Full time in 2⁻¹⁶ ns: long count and offset (R44). -/
def State.full (s : State) : Int := s.tb.lc + s.tb.offset * 65536

/-- TAI seconds of full time. -/
def State.tai (s : State) : Int := s.full / 65536000000000

/-- The NSC: long count in ns modulo 2³² (R11). -/
def State.nsc (s : State) : Nat := s.tb.lc / 65536 % 4294967296

/-- ASEQ of the newest anchor. Before the first it is 0xFFFFFFFF, so that a stamp then has the tag 15, which names an entry with
VALID 0 (R48, R51; DESIGN CHOICE, log entry 109). -/
def State.aseqNow (s : State) : Nat := if s.tb.nextAseq = 0 then 4294967295 else s.tb.nextAseq - 1

/-- TIME96 as a number of 96 bits (R11). -/
def time96 (full : Int) : Nat :=
  let sec := full / 65536000000000
  let r := (full % 65536000000000).toNat
  (sec % 281474976710656).toNat * 281474976710656 + r

/-- Milliseconds of the long count. -/
def State.ms (s : State) : Nat := s.tb.lc / 65536000000

/-- A number of seconds in the long count's unit. -/
def secs (n : Nat) : Nat := n * secUnits

/-- A number of milliseconds in the long count's unit. -/
def millis (n : Nat) : Nat := n * 65536000000

/-- The count that ran at long count `t` (R44, R57, R61). -/
def State.countAt (s : State) (t : Nat) : Count := (s.tb.counts.find? (fun c => decide (c.from_ ≤ t))).getD (Count.disciplined 0)

/-- The newest TB cycle at or before `t`: a whole number of increments after the start of the count that ran then, 1 ns each on
the disciplined count and T_c each on the coarse count (R44, R57). -/
def State.cycleAt (s : State) (t : Nat) : Nat :=
  let c := s.countAt t
  c.from_ + (t - c.from_) / c.inc * c.inc

/-- The first TB cycle at or after `t`; after a return from the coarse count the fraction carries on as it stood (R51, R57). -/
def State.cycleFrom (s : State) (t : Nat) : Nat :=
  let c := s.countAt t
  c.from_ + cdiv (t - c.from_) c.inc * c.inc

/-- The long count that a stamp or an anchor of cycle `t` shows: on the coarse count the interpolators are bypassed and the
fraction stays as it was at entry (R57). -/
def State.shown (s : State) (t : Nat) : Nat :=
  let c := s.countAt t
  if c.coarse then t / 65536 * 65536 + c.frac else t

/-- The stamp of an edge at `t`: on the coarse count, that of the cycle in which it fell (R44, R57). -/
def State.edgeAt (s : State) (t : Nat) : Nat := if (s.countAt t).coarse then s.shown (s.cycleAt t) else t

/-- The moment of a command that names the long count `now`, in which no time runs back (log entry 5); the long count itself is
that of the TB cycle it falls in (R44). -/
def State.moment (s : State) (now : Nat) : Nat := max s.tb.lc now

/-- Growth of the coarse bound so far, ρ × t in 2⁻¹⁶ ns × 10⁻¹² (R59, R61, R68). -/
def State.coarseGrowth (s : State) : Nat :=
  s.tb.coarseAcc + (if s.tb.coarse = 0 then 0 else s.tb.coarseRho * (s.tb.lc - s.tb.coarseFrom))

/-- The coarse bound G_c (R59). -/
def State.coarseBound (s : State) : Nat :=
  gsum [s.tb.coarseG0, toGirth (2 * s.tb.coarseTc + cdiv s.coarseGrowth 1000000000000)]

/-- The girth register: the value last written, grown at HO_COLD_FREQ while none is written (R226). -/
def State.gReg (s : State) : Nat :=
  match s.girth.growFrom with
  | none => s.girth.now
  | some t => gsum [s.girth.now, cdiv (16 * s.hoColdFreq * (s.tb.lc - t)) (1000000 * secUnits)]

/-- The girth in effect: the register, floored by the coarse bound (R59, R61); unbounded while XO runs from the backup
oscillator (R60) and until the time has been set (R45). -/
def State.gNow (s : State) : Nat :=
  if s.clk.xoBackup || !s.tb.isSet then girthUnknown
  else if s.tb.coarse != 0 || s.tb.coarseFloor then max s.gReg s.coarseBound
  else s.gReg

/-- TIME_VALID (R18, R414): LOCKED, the girth at most GIRTH_LIMIT, and not in state DEBUG. -/
def State.refresh (s : State) : State :=
  { s with girth := { s.girth with
      timeValid := s.start.state == .locked && decide (s.gNow ≤ s.girthLimit) && decide (s.gNow < girthUnknown) &&
        s.vault.lc != .debug } }

/-! ## The accumulator's progress (R109, R110, R115, R121) -/

/-- Time that a ramp takes at its limit, 2⁻¹⁶ ns, rounded up (R119, R121). -/
def Ramp.time (r : Ramp) : Nat := cdiv (r.diff.natAbs * 1000000000000000 * secUnits) (72057594037927936 * max 1 r.slope)

/-- What u still has beyond its new value at long count `t`, 2⁻⁵⁶ (R119, R121). -/
def Ramp.rest (r : Ramp) (t : Nat) : Int :=
  if r.time ≤ t - r.start then 0 else r.diff - rdiv (r.diff * ((t - r.start : Nat) : Int)) r.time

/-- Σ rest × time from `a` to `b`, exact over the ramp's two pieces (R115). -/
def Ramp.area (r : Ramp) (a b : Nat) : Int :=
  let tri (a b : Nat) : Int := (r.rest a + r.rest b) * ((b - a : Nat) : Int) / 2
  let m := r.start + r.time
  if m ≤ a || b ≤ m then tri a b else tri a m + tri m b

/-- What a ramp in progress adds to u at long count `t`. -/
def State.rampRest (s : State) (t : Nat) : Int :=
  match s.servo.ramp with
  | none => 0
  | some r => r.rest t

/-- The u that the accumulator applies at long count `t`, 2⁻⁵⁶ (R109, R119, R121). -/
def State.uAt (s : State) (t : Nat) : Int := s.accum.u + s.rampRest t

/-- The u applied now. -/
def State.uNow (s : State) : Int := s.uAt s.tb.lc

/-- Σ u × time from `a` to `b` (R115). -/
def State.uArea (s : State) (a b : Nat) : Int :=
  s.accum.u * ((b - a : Nat) : Int) + (match s.servo.ramp with
    | none => 0
    | some r => r.area a b)

/-- u is held at what the accumulator applies now (R37, R120, R121). -/
def State.holdU (s : State) : State :=
  { s with servo := { s.servo with u := s.uNow, ramp := none }, accum := { s.accum with u := s.uNow } }

/-- What a slew consumes in `dt`, 2⁻¹⁶ ns (R110). -/
def slewOf (rate dt : Nat) : Nat := rate * nsUnits * dt / (1000 * secUnits)

/-- While the time base is not disciplined, Σ u × time is noted at the present, before u changes (R164). -/
def State.noteDrift (s : State) : List (Nat × Int) :=
  match s.synth.drift with
  | [] => []
  | (t, a) :: l =>
    if t < s.tb.lc then (s.tb.lc, a + s.uArea t s.tb.lc) :: (t, a) :: l.takeWhile (fun x => decide (s.tb.lc < x.1 + secs 2))
    else (t, a) :: l

/-- The accumulator brought up to the present: the mean of u accrues, and a slew that runs consumes its amount, φ_b with
it; on the coarse count a slew pauses (R110, R115, R122). -/
def State.accrue (s : State) : State :=
  let a := s.servo.uSumT
  let b := s.tb.lc
  let used : Int := if s.accum.slewing && s.tb.coarse == 0 then
      let k := min s.accum.slewLeft.natAbs (slewOf s.accum.slewRate (b - a))
      if 0 ≤ s.accum.slewLeft then k else -k
    else 0
  { s with servo := { s.servo with uSum := s.servo.uSum + s.uArea a b, uSumT := b, phiB := s.servo.phiB - used }
           accum := { s.accum with slewLeft := s.accum.slewLeft - used }
           synth := { s.synth with drift := s.noteDrift } }

end Sys2Proof.Machine
end

