-- ==== Sys2Proof/Machine/Wave.lean ====
section
/-!
DEFINITION. The waveform of the outputs: their frequencies (R154–R156), the targets of their edges and where those are placed
(R164, R168–R170), what an IRIG-B frame makes of a second (R175–R177), and the high phase that an output is in (R159).
-/
set_option Elab.async false
namespace Sys2Proof.Machine

/-! ## Frequencies (R153–R156) -/

/-- Nominal f_VCO × P × 2⁴⁸ from f_osc in µHz (R155). -/
def Apll.plan (fosc : Nat) (p : Apll) : Nat := fosc * (p.nInt * 281474976710656 + p.nFrac)

/-- Nominal f_VCO over a divider `d`, µHz (R155, R156; log entry 12). -/
def apllOver (fosc : Nat) (p : Apll) (d : Nat) : Nat := (rdiv (p.plan fosc : Nat) (281474976710656 * p.p * d)).toNat

/-- Nominal f_A of an APLL from f_osc in µHz (R155). -/
def apllFreq (fosc : Nat) (p : Apll) : Nat := apllOver fosc p p.q

/-- Nominal frequency of an output, µHz (R155, R156, R166, R167). -/
def State.outFreq (s : State) (n : Nat) : Nat :=
  let o := s.out n
  if o.mode = 0 then apllOver s.synth.fosc (s.apll o.apll) ((s.apll o.apll).q * o.div)
  else if o.mode = 1 then o.rate * 1000000
  else 1000000

/-- f_VCO under a control value u of 2⁻⁵⁶, µHz (R154, R155). -/
def vcoFreq (fosc : Nat) (u : Int) (p : Apll) : Nat :=
  (rdiv ((p.plan fosc : Nat) * (72057594037927936 + u)) (72057594037927936 * 281474976710656 * p.p)).toNat

/-- f_VCO of an output APLL now: the accumulator applies u to its divider as it does to the time base's (R154); while it relocks, what
the loop delivers, at most 1.002 × its target (R162). -/
def State.vcoNow (s : State) (a : Nat) : Nat :=
  let p := s.apll a
  let target := vcoFreq s.synth.fosc s.uNow p
  if p.lock = 0 then 0 else if p.lock = 1 then target else min p.pull (target * 1002 / 1000)

/-- The output carries clock edges tied to time: OUTn_ALIGN at 1 and a whole number of hertz (R168). -/
def State.clockAligned (s : State) (n : Nat) : Bool :=
  (s.out n).mode == 0 && (s.out n).align && s.outFreq n % 1000000 == 0 && s.outFreq n != 0

/-- The output's edges have targets (R168, R169). -/
def State.targeted (s : State) (n : Nat) : Bool := (s.out n).mode != 0 || s.clockAligned n

/-- r of R169, edges per second. -/
def State.edgeRate (s : State) (n : Nat) : Nat :=
  if (s.out n).mode = 0 then s.outFreq n / 1000000 else if (s.out n).mode = 1 then (s.out n).rate else 1

/-- OUTn_SKEW in force (R169, R512, R514). -/
def State.outSkew (s : State) (n : Nat) : Int := (s.out n).skew

/-- f_VCO of an output's APLL. -/
def State.outVco (s : State) (n : Nat) : Nat := max 1 (s.vcoNow (s.out n).apll)

/-- A time of 2⁻¹⁶ ns as fine phase steps q_f = T_VCO / 32, to nearest: 32 × Q steps are a whole cycle of f_A (R153, R169). -/
def State.toFine (s : State) (n : Nat) (x : Int) : Int := rdiv (x * s.outVco n) 2048000000000000000

/-- The time of a number of fine phase steps, 2⁻¹⁶ ns. -/
def State.fineTime (s : State) (n : Nat) (k : Int) : Int := rdiv (k * 2048000000000000000) (s.outVco n)

/-! ## Targets and edges (R156, R159, R164, R167–R170) -/

/-- Σ u × time at long count `t` since the time base left the disciplined count, 2⁻⁵⁶ × 2⁻¹⁶ ns: between two noted points that of a
constant u (R164). -/
def State.driftAt (s : State) (t : Nat) : Int :=
  match s.synth.drift with
  | [] => 0
  | (t0, a0) :: _ =>
    if t0 ≤ t then a0 + s.uArea t0 t
    else
      match (List.zip s.synth.drift (s.synth.drift.drop 1)).find? (fun p => decide (p.2.1 ≤ t)) with
      | some p => p.2.2 + (p.1.2 - p.2.2) * ((t - p.2.1 : Nat) : Int) / ((p.1.1 - p.2.1 : Nat) : Int)
      | none => (s.synth.drift.getLast?.map (·.2)).getD 0

/-- How far the targets of a free-running framer have moved from those of the time base at long count `t`: they keep the output's own
frequency, which u steers, where the coarse count advances by nominal periods (R57, R154, R164). -/
def State.targetShift (s : State) (o : Output) (t : Nat) : Int :=
  if o.freeRun then -(rdiv (s.driftAt t - o.shift) 72057594037927936) else 0

/-- Long count `t` on the scale of an output's targets, which stand at its multiples of 1 / r s (R164, R169). -/
def State.targetPos (s : State) (n t : Nat) : Int :=
  (t : Int) + s.tb.offset * 65536 - (s.out n).phase + s.outSkew n - s.targetShift (s.out n) t

/-- Targets passed by long count `t`, counted from an arbitrary one. -/
def State.targetsTo (s : State) (n t : Nat) : Int := s.targetPos n t * s.edgeRate n / 65536000000000

/-- Where the divider and the fine phase stage place the edge of long count `t`, relative to its target, 2⁻¹⁶ ns: a slew is spread
evenly over the edges of its second, in steps of q_f (R105, R169, R170). -/
def State.placedAt (s : State) (n t : Nat) : Int :=
  let o := s.out n
  let r := max 1 (s.edgeRate n)
  o.placed + s.fineTime n (rdiv (o.move * clampI 0 r (s.targetsTo n t - s.targetsTo n o.moveFrom)) r)

/-! ## IRIG-B elements (R175–R177) -/

/-- The fields of an IRIG-B frame: first position, width and value (R175, R176; log entry 14). -/
def IrigFrame.fields (f : IrigFrame) : List (Nat × Nat × Nat) :=
  let y := f.year.getD 0
  let cf := f.cf.getD 0
  let sbs := f.sbs.getD 0
  [(1, 4, f.second % 10), (6, 3, f.second / 10), (10, 4, f.minute % 10), (15, 3, f.minute / 10), (20, 4, f.hour % 10),
   (25, 2, f.hour / 10), (30, 4, f.day % 10), (35, 4, f.day / 10 % 10), (40, 2, f.day / 100), (50, 4, y % 10), (55, 4, y / 10),
   (60, 19, cf), (80, 9, sbs), (90, 8, sbs / 512)]

/-- How long element `i` of the frame is high, ms: 8 for the reference marker and the position identifiers, 5 for a 1 and 2 for a 0
(R175; log entry 14). -/
def IrigFrame.width (f : IrigFrame) (i : Nat) : Nat :=
  if i = 0 || i % 10 = 9 then 8
  else if f.fields.any (fun (x : Nat × Nat × Nat) => decide (x.1 ≤ i) && decide (i < x.1 + x.2.1) && bit x.2.2 (i - x.1)) then 5
  else 2

/-- The frame that an output sends at long count `t` (R175). -/
def Output.frameAt (o : Output) (t : Nat) : Option IrigFrame :=
  match o.nextFrame with
  | some (start, f) => if start ≤ t then some f else o.frame
  | none => o.frame

/-- sin of an angle of 2⁻⁴⁰ rad in 2⁻⁴⁰: `k` terms of the series left (log entry 12). -/
def sinSum (x2 : Int) : Nat → Nat → Int → Int
  | 0, _, _ => 0
  | k + 1, j, t => t + sinSum x2 k (j + 1) (-(t * x2 / 1099511627776) / ((2 * j + 2) * (2 * j + 3) : Nat))

/-- sin (2π k / 4,096) in 2⁻⁴⁰. -/
def carrierSine (k : Nat) : Int :=
  let h := k % 2048
  let q := if h ≤ 1024 then h else 2048 - h
  let x : Int := rdiv (q * 6908435304719 : Nat) 4096
  let v := sinSum (x * x / 1099511627776) 10 0 x
  if k % 4096 < 2048 then v else -v

/-- What the stream of a modulated output encodes at sample `k` of a second, in 2⁻³⁰ of full scale: the 1 kHz carrier, at a mark while the
element is high and smaller by OUTn_IRIG_MR / 10 in its rest, from a positive-going zero crossing (R175, R177; log entry 157). -/
def IrigFrame.level (f : IrigFrame) (ratio k : Nat) : Int :=
  let mark := decide (k % 40960 / 4096 < f.width (k / 40960))
  let a : Int := Config.irigAmplitude * (if mark then 1 else 10)
  rdiv (a * carrierSine k) (1099511627776 * (if mark then 1 else max 1 ratio))

/-- The two last errors of the second-order modulator after `k` samples of a second (R177; log entry 157). -/
def IrigFrame.errors (f : IrigFrame) (ratio : Nat) : Nat → Int × Int
  | 0 => (0, 0)
  | k + 1 =>
    let (a, b) := f.errors ratio k
    let v := f.level ratio k + 2 * a - b
    (v - (if 0 ≤ v then 1073741824 else -1073741824), a)

/-- Bit `k` of the second's pulse-density stream (R177). -/
def IrigFrame.streamBit (f : IrigFrame) (ratio k : Nat) : Bool :=
  let (a, b) := f.errors ratio k
  decide (0 ≤ f.level ratio k + 2 * a - b)

/-! ## High phases (R156, R159, R167, R175, R177) -/

/-- Where long count `t` lies in the present period of an output with targets, 10⁹ × 2¹⁶ to a period. -/
def State.cyclePos (s : State) (n t : Nat) : Nat := ((s.targetPos n t - s.placedAt n t) * s.edgeRate n % 65536000000000).toNat

/-- Where long count `t` lies in the present period of a divider that is not tied to time, 10¹⁵ × 2¹⁶ to a period: its rising edges
follow its first at 1 / f_out (R156; log entry 124). -/
def State.dividerPos (s : State) (n t : Nat) : Nat := (t - (s.out n).origin) * s.outFreq n % 65536000000000000000

/-- The high part of `p` units of a clock's period: ⌈D / 2⌉ of D cycles, half of one for D = 1 (R156). -/
def Output.highPart (o : Output) (p : Nat) : Nat := if o.div = 1 then p / 2 else cdiv ((o.div + 1) / 2 * p) (max 1 o.div)

/-- Time that the high phase of a running output still lasts at the present, by its own pattern, 2⁻¹⁶ ns; 0 when it is low. That of an
IRIG-B output is its element's, and in mode 0x03 that of the stream's bit (R156, R159, R167, R175, R177). -/
def State.patternLeft (s : State) (n : Nat) : Nat :=
  let o := s.out n
  let r := max 1 (s.edgeRate n)
  let x := s.cyclePos n s.tb.lc
  if o.mode = 0 && !s.targeted n then cdiv (o.highPart 65536000000000000000 - s.dividerPos n s.tb.lc) (max 1 (s.outFreq n))
  else if o.mode = 0 then cdiv (o.highPart 65536000000000 - x) r
  else if o.mode = 1 then cdiv (o.width * 65536 * r - x) r
  else match o.frameAt s.tb.lc with
    | none => 0
    | some f =>
      if o.mode = 2 then f.width (x / 655360000000) * 65536000000 - x % 655360000000
      else
        let k := x / 16000000
        if f.streamBit o.irigMr k then (k + 1) * 16000000 - x else 0

/-- Time that the high phase in progress still lasts: by the pattern, or that of a high phase which a change of the placement or a stop
found in progress; a step holds the output at its idle level meanwhile (R159, R170). -/
def State.highLeft (s : State) (n : Nat) : Nat :=
  let o := s.out n
  if !o.running then 0
  else max (o.highTo - s.tb.lc) (if o.committing || s.tb.lc < o.heldTo then 0 else s.patternLeft n)

/-- A running output is in a high phase (R159). -/
def State.outHigh (s : State) (n : Nat) : Bool := decide (0 < s.highLeft n)

/-- A pulse or a frame would begin in this very cycle. -/
def State.beginsNow (s : State) (n : Nat) : Bool :=
  (s.out n).mode != 0 && decide (s.cyclePos n s.tb.lc < (s.countAt s.tb.lc).inc * max 1 (s.edgeRate n))

/-- A stop comes due (R158, R159, R161, R178): the high phase in progress ends as it would, and no further one begins, nor a pulse or
frame in this very cycle. -/
def State.stopDue (s : State) (n : Nat) : State :=
  let left := if s.beginsNow n && decide ((s.out n).highTo ≤ s.tb.lc) then 0 else s.highLeft n
  s.onOut n (fun o => if o.running && !o.committing then { o with committing := true, highTo := s.tb.lc + left } else o)

/-- A stop comes due at each output that `p` names. -/
def State.stopAll (s : State) (p : Output → Bool) : State :=
  (List.range 16).foldl (fun s n => if p (s.out n) then s.stopDue n else s) s

end Sys2Proof.Machine
end

