-- ==== Sys2Proof/Machine/Ops.lean ====
section
/-!
DEFINITION. The operations every chapter uses: attention, tap copies, the event log, audit records, sessions, the halter's
release, the resets with their wipes, and the fault collector that may start one.
-/
set_option Elab.async false
namespace Sys2Proof.Machine

/-! ## Attention (R436, R437) -/

/-- The counter dump ring is at least half full (R436 bit 2). -/
def State.dumpHalf (s : State) : Bool :=
  s.pcDumpSize != 0 && decide (s.pcDumpSize ≤ 2 * ((s.dump.producer + 4294967296 - s.pcDumpConsumer) % 4294967296))

/-- ATTN_CAUSE: latched bits, and bits 1 and 2 that follow their conditions (R436). -/
def State.attnCause (s : State) : Nat := s.dict.attn + 2 * b2n (!s.engs.doorbell.isEmpty) + 4 * b2n s.dumpHalf

/-- MSP_IRQ's condition (R436). -/
def State.irq (s : State) : Bool := s.attnCause &&& s.attnMask != 0

/-- MSI-X vector 0 fires on every rise of MSP_IRQ's condition (R437): `t` is the state after, `s` before. -/
def State.irqEdge (s t : State) : State :=
  if t.irq && !s.irq then
    { t with dict := { t.dict with msix := (bump t.dict.msix.1, t.dict.msix.2) } }
  else t

/-- A latched attention bit is set (R436). -/
def State.attn (s : State) (b : Nat) : State :=
  s.irqEdge { s with dict := { s.dict with attn := setBit s.dict.attn b true } }

/-- TIME_VALID is compared again, and a change sets its attention bit (R18, R436). -/
def State.revalid (s : State) : State :=
  if s.refresh.girth.timeValid == s.girth.timeValid then s.refresh else s.refresh.attn 6

/-- The girth register is written (R226). -/
def State.setG (s : State) (g : Nat) : State :=
  { s with girth := { s.girth with now := g, growFrom := none, written := true, composed := true } }.revalid

/-- A sensor fault of the compensation temperature (R129). -/
def State.compFault (s : State) : Bool := if s.oscType = 0 then s.oven.sensorFault else s.gov.inputFault

/-- What held since the last command marks the second that runs for the holdover history: SERVO_STATE other than TRACK and FREQ or
a slew, WARM_FLAG 0, the coarse count, a sensor fault, or engines that do not run (R115, R130–R132). -/
def State.noteSecond (s : State) : State :=
  let track := (s.servo.state == .track || s.servo.state == .freq) && !s.accum.slewing && s.oven.warm && !s.start.inReset
  { s with ho := { s.ho with learnGap := s.ho.learnGap || !track, coarseGap := s.ho.coarseGap || s.group 5 != 1,
                             faultGap := s.ho.faultGap || s.compFault } }

/-- Long count `now` is reached, on the coarse count the newest cycle at or before it (R57), and TIME_VALID is compared (R18); a
command never moves the long count back (log entry 5). -/
def State.atTime (s : State) (now : Nat) : State :=
  let s := if s.tb.lc < now then s.noteSecond else s
  ({ s with tb := { s.tb with lc := max s.tb.lc (s.cycleAt now) } } : State).revalid

/-! ## Record queues and taps (R340, R346) -/

/-- The records waiting in a queue. -/
def State.recs (s : State) (q : Nat) : List (List Byte × Bool) :=
  match s.engs.queues.find? (·.num == q) with
  | some r => r.recs
  | none => []

/-- A record is due to carry the mark of earlier drops. -/
def State.dropDue (s : State) (q : Nat) : Bool :=
  match s.engs.queues.find? (·.num == q) with
  | some r => r.dropDue
  | none => false

/-- A queue's contents replaced; an empty queue with no drop due is not listed. -/
def State.setQueue (s : State) (q : Nat) (recs : List (List Byte × Bool)) (due : Bool) : State :=
  let rest := s.engs.queues.filter (·.num != q)
  let l := if recs.isEmpty && !due then rest
    else rest.filter (·.num < q) ++ [⟨q, recs, due⟩] ++ rest.filter (fun r => q < r.num)
  { s with engs := { s.engs with queues := l } }

/-- An event enabled in EVMASK occurs for an engine: [0] anchor, [1] queue, [2] crypto (R342). -/
def Eng.event (b : Nat) (g : Eng) : Eng := if bit g.evmask b then { g with events := setBit g.events b true } else g

/-- A record is appended to a queue of `depth` records, or dropped with the mark due (R340). The flag tells which. -/
def State.enqueue (s : State) (q depth : Nat) (r : List Byte) : State × Bool :=
  if (s.recs q).length < depth then
    let s := s.setQueue q (s.recs q ++ [(r, s.dropDue q)]) false
    ({ s with engs := { s.engs with eng := s.engs.eng.map (fun g => g.event 1) } }, true)
  else (s.setQueue q (s.recs q) true, false)

/-- A record is offered to every tap whose source, and where it matters whose selection, is the record's (R346). A tap
copies nothing while work class W5 is withheld, and counts what it would have copied (R349); it stops with PADDOCK_ENABLE (R351). -/
def State.tap (s : State) (src sel : Nat) (selects : Bool) (r : List Byte) : State :=
  (List.range 8).foldl (fun s t =>
    if s.paddockEnable && fld (s.tackTap t) 0 1 == src && (!selects || fld (s.tackTap t) 1 1 == sel) then
      if !bit s.engs.gated 5 then
        match s.enqueue (0xC0 + t) 256 r with
        | (s, true) => s
        | (s, false) => { s with engs := { s.engs with tapDrops := bumpAt t s.engs.tapDrops } }
      else { s with engs := { s.engs with tapSuspended := bumpAt t s.engs.tapSuspended } }
    else s) s

/-! ## The event log (R493, R494, R420) -/

/-- A fault body's 112 bytes (R494). -/
def FaultBody.bytes (b : FaultBody) : List Byte :=
  leBytes 112 (lePack [(2, b.code), (1, b.cls), (1, b.fflags), (2, b.rep), (2, b.inst), (12, time96 b.ftime), (4, b.fgirth),
    (1, b.start), (1, b.pair), (1, b.glevel), (1, 0), (4, b.causeSeq), (32, b.detail)])

/-- An audit record's bytes 0–47 as a number (R420). -/
def AuditBody.head (b : AuditBody) : Nat :=
  lePack [(1, b.atype), (1, b.role), (1, b.path), (1, b.session), (4, b.aseq), (12, time96 b.atime), (4, b.agirth),
    (2, b.aindex), (1, b.asub), (1, b.aresult), (4, b.ticket), (16, b.avalue)]

/-- An audit record's 64 bytes, with 48 zero bytes behind (R420, R494). -/
def AuditBody.bytes (b : AuditBody) : List Byte := leBytes 112 (lePack [(48, b.head), (16, b.chain)])

/-- The body of an entry. -/
def LogBody.bytes : LogBody → List Byte
  | .fault b => b.bytes
  | .audit b => b.bytes
  | .loss n => leBytes 112 n

/-- LTYPE (R494). -/
def LogBody.ltype : LogBody → Nat
  | .fault _ => 1
  | .audit _ => 2
  | .loss _ => 3

/-- The 128 bytes of an entry (R494). -/
def LogRec.bytes (r : LogRec) : List Byte :=
  leBytes 16 (lePack [(4, r.lseq), (1, r.body.ltype), (1, r.lflags), (2, 0), (4, r.laseq), (4, r.lnsc)]) ++ r.body.bytes

/-- Class of an entry that may be displaced: F0, F1 or F2 (R493). -/
def LogRec.isClass (c : Nat) (r : LogRec) : Bool :=
  match r.body with
  | .fault b => b.cls == c
  | .audit _ => false
  | .loss _ => false

/-- Staging with its oldest F0 removed, or else its oldest F1, or else its oldest F2 (R493). -/
def displaceOne (l : List LogRec) : Option (List LogRec) :=
  match (List.range 3).find? (fun c => l.any (LogRec.isClass c)) with
  | some c => some (l.eraseP (LogRec.isClass c))
  | none => none

/-- Staging with room for `k` more entries, displacing at most `fuel`; with the number displaced. -/
def makeRoom (k : Nat) : Nat → List LogRec → Option (List LogRec × Nat)
  | 0, l => if l.length + k ≤ 256 then some (l, 0) else none
  | fuel + 1, l =>
    if l.length + k ≤ 256 then some (l, 0)
    else match displaceOne l with
      | none => none
      | some l' => (makeRoom k fuel l').map (fun p => (p.1, p.2 + 1))

/-- An entry made of a body at this moment: one staged while DRAM is unavailable is marked for its move (R494). -/
def State.entry (s : State) (lseq : Nat) (b : LogBody) : LogRec := ⟨lseq, b2n (s.start.dramStatus != 2), s.aseqNow, s.nsc, b⟩

/-- An entry put into staging and offered to the taps of source 0x06. -/
def State.stageOne (s : State) (b : LogBody) : State :=
  let r := s.entry s.log.nextLseq b
  { s with log := { s.log with staging := s.log.staging ++ [r], nextLseq := bump s.log.nextLseq } }.tap 6 0 false r.bytes

/-- Staging replaced, with `n` records lost in the course of it (R493). -/
def State.lose (s : State) (l : List LogRec) (n : Nat) : State :=
  { s with log := { s.log with staging := l, lost := bumpBy s.log.lost n, lossDue := s.log.lossDue + n } }

/-- The loss record that is due is staged (R493). -/
def State.stageLoss (s : State) : State :=
  { (s.stageOne (.loss s.log.lossDue)) with log := { (s.stageOne (.loss s.log.lossDue)).log with lossDue := 0 } }

/-- A body is stored in staging, preceded by a loss record when records have been lost; none when there is no room
(R493; log entry 21). -/
def State.stage (s : State) (b : LogBody) : Option State :=
  match (if s.log.lossDue = 0 then none else makeRoom 2 2 s.log.staging) with
  | some (l, n) => some ((s.lose l n).stageLoss.stageOne b)
  | none =>
    match makeRoom 1 1 s.log.staging with
    | some (l, n) => some ((s.lose l n).stageOne b)
    | none => none

/-- What an audited decision records (R420, R543). -/
structure AuditIn where
  atype : Nat
  role : Role := .none
  path : Nat := 8
  session : Nat := 0xFF
  index : Nat := 0
  sub : Nat := 0
  result : Nat := 0
  ticket : Nat := 0
  value : Nat := 0

/-- AVALUE of a value of `len` bytes (R420). -/
def auditValue (len v : Nat) : Nat :=
  if len ≤ 16 then v else Config.sha384 [v] % 340282366920938463463374607431768211456

/-- An audit record is chained and stored; none when the event log cannot accept it (R420, R421). -/
def State.audit (s : State) (a : AuditIn) : Option State :=
  let b : AuditBody := { atype := a.atype, role := a.role.code, path := a.path, session := a.session,
                         aseq := bump s.access.aseq, atime := s.full, agirth := s.gNow, aindex := a.index, asub := a.sub,
                         aresult := a.result, ticket := a.ticket, avalue := a.value, chain := 0 }
  let b := { b with chain := Config.sha384 [s.access.chain, b.head] % 340282366920938463463374607431768211456 }
  (s.stage (.audit b)).map (fun s => { s with access := { s.access with aseq := b.aseq, chain := b.chain } })

/-- An audited event that no refusal can stop: its record is stored, or counted as lost (R421, R493). -/
def State.auditEvent (s : State) (a : AuditIn) : State := (s.audit a).getD (s.lose s.log.staging 1)

/-! ## Sessions (R409, R543) -/

/-- What SEAL_RESP shows of a session that ends is never released (R432). -/
def PathState.forget (n : Nat) (p : PathState) : PathState := if p.respOf = n then { p with resp := none } else p

/-- A session ends, with its cause in byte 32 of its record (R543), and attention bit 5 is set (R436). -/
def State.endSession (cause : Nat) (s : State) (x : Session) : State :=
  let s := { s with access := { s.access with sessions := s.access.sessions.filter (·.num != x.num)
                                              paths := s.access.paths.map (PathState.forget x.num) } }
  (s.auditEvent { atype := 5, role := x.role, path := x.path.code, session := x.num,
                  index := if cause = 1 then 0xA800 else 0, sub := if cause = 1 then 4 else 0, ticket := x.ticketId, value := cause }).attn 5

/-- Every session that meets `p` ends, lowest number first. -/
def State.endSessions (s : State) (cause : Nat) (p : Session → Bool) : State :=
  (s.access.sessions.filter p).foldl (State.endSession cause) s

/-- Every session ends without a record of its own: a reset, a transition or an alarm (R543). -/
def State.dropSessions (s : State) : State :=
  if s.access.sessions.isEmpty then s
  else ({ s with access := { s.access with sessions := [],
                                           paths := s.access.paths.map (fun p => if p.respOf = 0 then p else { p with resp := none }) } } : State).attn 5

/-! ## The halter (R448, R455, R161) -/

/-- The halter enable is asserted (R161, R448). -/
def State.halterOn (s : State) : Bool := !s.pairEnable || s.pair.lease

/-- The part holds the halter or is contending for it (R29, R508): it holds the lease, is CLAIMING, or is the receiver of a planned
handoff (log entry 110). -/
def State.contends (s : State) : Bool := s.pair.lease || s.pair.state == .claiming || s.pair.handoff.any (fun h => !h.releaser)

/-- A peer-link message is sent: MTYPE, the next PSEQ, and the fields of its body (R458). -/
def State.peerSend (s : State) (m : Nat) (body : List Nat) : State :=
  { s with pair := { s.pair with sent := (m, s.pair.pseqOut + 1, body) :: s.pair.sent.take 7, pseqOut := s.pair.pseqOut + 1 } }

/-- CORE runs, on its loop or on the safe clock: it is neither stopped nor gated (R27, R448). -/
def State.coreRuns (s : State) : Bool := s.group 3 == 1 || s.group 3 == 2

/-- ENG runs: it is neither stopped nor gated (R27). -/
def State.engClock (s : State) : Bool := s.group 4 == 1 || s.group 4 == 2

/-- The state of a part that does not hold the halter (R447; log entry 90). -/
def State.idlePState (s : State) : PState :=
  if !s.pairEnable then .single
  else if s.net.peerActive == 0xFF then .claiming
  else if s.pair.keys then .syncing else .joining

/-- Every domain session of this part as a manager ends (R482). -/
def State.dropDomain (s : State) : State :=
  if s.domainRole == 1 then { s with domain := { s.domain with workers := [] } } else s

/-- The outputs lose the halter enable: an idle one's driver goes to high impedance at once, and a running one stops at the
end of its high phase (R161; OUTPUT_STOP). -/
def State.haltOutputs (s : State) : State :=
  (s.onOuts (fun o => if o.running then o else { o with highZ := true })).stopAll (·.running)

/-- The part serves no time: it shares a pair and does not hold the halter, or has claimed it only for a handoff that is not
yet carried out (R457, R463; log entry 91). -/
def State.standby (s : State) : Bool :=
  s.pairEnable && !(s.pair.lease && !s.pair.handoff.any (fun h => !h.releaser))

/-- Ports that transmitted time are held in PASSIVE (R457). -/
def State.hushPorts (s : State) : State :=
  { s with ptp := { s.ptp with ports := s.ptp.ports.map (fun x => if x.state == 5 || x.state == 6 then { x with state := 7 } else x) } }

/-- The lease stops with a cause (R448, R455): the enable is withdrawn, the wires are let go, RELEASE is sent while CORE
runs, and a manager's sessions end. Nothing happens to a part that does not hold the halter. -/
def State.stopLease (s : State) (cause : Nat) : State :=
  if s.pair.lease then
    let s := { s with pair := { s.pair with lease := false, renewFailed := false, handoff := none, snapTime := none,
                                            swapDue := false } }
    let s := { s with pair := { s.pair with state := s.idlePState } }
    let s := if s.halterOn then s else s.haltOutputs.hushPorts
    (if s.coreRuns then s.peerSend 8 [cause] else s).dropDomain
  else s

/-- INSTANCE where R487 shows none. -/
def noInst : Nat := 0xFFFF

/-! ## Resets and their wipes (R36, R37, R402, R509) -/

/-- A lane after a port reset or with its group reset: down, its alignment gone, its counters kept, and a loop measurement
abandoned (R36, R40, R253, R266). -/
def Lane.down (l : Lane) : Lane :=
  { l with state := 0, fom := 0, txSleep := false, rxSleep := false, aligns := [], stampState := 0, ctleChanges := 0,
           ctleAt := none, ctleOver := false, lpiRaised := false, fomRun := 0, lowRun := 0, minRun := 0, swept := false, done := false,
           calStatus := if l.calStatus = 1 then 4 else l.calStatus }

/-- Twelve taps in a free word: the first of 7 bits, the others of 6, signed (R239). -/
def tapsOf (v : Nat) : List Int :=
  (List.range 12).map (fun i => if i = 0 then (v % 128 : Int) - 64 else (v / 64 ^ (i + 1) % 64 : Int) - 32)

/-- DFE taps of a receive direction now (R239): it adapts while it is awake and receives words, and holds its taps otherwise. -/
def State.dfeNow (s : State) (l state : Nat) (asleep : Bool) (held : List Int) : List Int :=
  if 2 ≤ state && !asleep then tapsOf (Config.dfeWord l s.tb.lc) else held

/-- LANE_DFE (R239, R253). -/
def State.laneDfe (s : State) (l : Nat) : List Int := s.dfeNow l (s.lane l).state (s.lane l).rxSleep (s.lane l).dfe

/-- A lane's taps stop where they are. -/
def State.holdTaps (s : State) (l : Nat) : State := let t := s.laneDfe l; s.onLane l (fun x => { x with dfe := t })

/-- Every lane's taps stop where they are. -/
def State.holdAllTaps (s : State) : State := (List.range 32).foldl State.holdTaps s

/-- A reference after the servo cores' memories are lost (R542): its signal is absent until it is seen again. -/
def Ref.restart (_r : Ref) : Ref := Ref.init

/-- The cloaking keys cleared, which alone makes the vault RAM unreadable (R387). -/
def State.clearCloak (s : State) : State := { s with vault := { s.vault with cloak := none } }

/-- The cloaking keys cleared first, then the vault RAM, shadows, crypto units and fast-path key registers wiped (R387, R402). -/
def State.wipeVault (s : State) : State :=
  let s := s.clearCloak
  { s with vault := { s.vault with slots := [], jobs := [], erasing := [], keyOp := none } }

/-- An engine in reset, its local memory and counters wiped (R509, R367). -/
def Eng.reset (st : EngStatus) (cause : Nat) (g : Eng) : Eng :=
  { Eng.init with status := st, resets := bump g.resets, lastCause := cause }

/-- The engines while a reset lasts (R509): local and shared memories wiped, queues discarded. `dram` is what stays. -/
def Engines.wipe (e : Engines) (dram : List Host.Cell) : Engines :=
  { Engines.init with eng := e.eng.map (fun g => { g.reset .inReset g.lastCause with resets := g.resets }),
                      tack := e.tack.map (fun t => { t with state := if t.state = 0 then 0 else 1, loadStatus := 0 }), dram := dram }

/-- DRAM without the paddock region (R509). -/
def State.dramKept (s : State) : List Host.Cell := memWipe s.engs.dram s.paddockBase (s.paddockSize * 1048576)

/-- A system reset begins (R36, R37, R491, R509): everything but the always-on block and the timing core is reset. Written
object values stay (log entry 6). Level faults leave FAULT_ACTIVE and wait for the collector's return (R490, R495). -/
def State.sysReset (s : State) (cause : Nat) : State :=
  if s.start.porHeld || s.start.inReset then s
  else
    let s := s.accrue.holdU
    let s := s.dropSessions.dropDomain.wipeVault.holdAllTaps
    let u := s.accum.u
    let t : State := { s with
      refs := s.refs.map Ref.restart
      sel := { Select.init with raw := s.sel.raw, count := s.sel.count }
      tod := [TodRx.init, TodRx.init]
      tiu := s.tiu.map (fun c => { c with fifo := [], window := [], quiet := s.tb.lc })
      servo := { Servo.init with u := u, i := u, suspended := true, acquired := s.servo.acquired,
                                 started := s.servo.started, uSumT := s.tb.lc
                                 phiB := if s.accum.slewing then s.accum.slewLeft else 0 }
      oven := { s.oven with condSince := none, offsets := [], offRef := 0xFF, slope := 0 }
      atomic := { Atomic.init with lastStatus := s.tb.lc }
      synth := { s.synth with tod := s.synth.tod.map (fun x => { x with sent := none }) }
      gnss := { Gnss.init with clock := s.gnss.clock, everVerified := s.gnss.everVerified
                               gifs := s.gnss.gifs.map (fun g => { Gif.init with status := g.status % 4, slip := g.slip }) }
      girth := { s.girth with claims := Girth.init.claims, lastC := Girth.init.lastC, composed := false, inUse := none, written := false, lapsed := [] }
      net := { s.net with lanes := s.net.lanes.map Lane.down, peers := Lanes.init.peers, peerActive := 0xFF,
                          quads := s.net.quads.map (fun q => { q with state := if q.mode = 0 then 0 else if q.state = 3 then 3 else 1 }) }
      yard := Yard.init
      ptp := Ptp.init
      ntp := { Ntp.init with hashEpoch := s.ntp.hashEpoch + 1 }
      engs := s.engs.wipe s.dramKept
      gov := { s.gov with level := 7, prev := (s.ms, 7), hold := 0, settle := 0, tjWait := 0, missing := 0, clearRun := 0,
                          inputFault := false, deficitRun := 0, raised := none, cause := 0, entryAuth := 0, entryAll := 0 }
      vault := { s.vault with unsealed := false }
      access := { s.access with paths := Access.init.paths, jtag := 0 }
      dict := { s.dict with held := [], saving := none, mspResult := none, mspRdy := false, mspReturned := false,
                            mbReady := false, mbEnvelope := none, dmaStatus := if s.dict.dma.isSome then 3 else s.dict.dmaStatus, dma := none,
                            can := [Can.init 0, Can.init 1], esxiaRate := [], esxiaSent := none }
      pair := { s.pair with keys := false, pseqIn := none, peer := none, snapBuf := [], snapEpoch := 0, snapTime := none,
                            handoff := none, swapDue := false, swapTry := none, outSections := [], outGrants := [], thetas := [], following := false, readySince := none, release := none,
                            state := if s.pair.lease then .active else if s.pairEnable then .claiming else .single }
      domain := { Domain.init with
        epoch := s.domain.epoch
        state := if s.domain.session then 3 else s.domain.state
        counters := if s.domain.session then bumpAt 3 s.domain.counters else s.domain.counters }
      faults := { s.faults with levels := [], active := s.faults.active.filter (fun a => !s.faults.levels.contains (a.1, a.2.1)),
                                handling := none, queue := [], coalesce := [], held := s.faults.levels.map (fun p => (p.1, p.2, 0)) ++
                                          (if s.domain.session then [(0x1303, noInst, 0)] else []),
                                inReset := cause == 5 }
      start := { s.start with state := .boot, cause := cause, inReset := true, bootDone := false, agent := false,
                              haltBundle := false, fwErased := false, fwPending := none, fwState := if s.start.fwState = 4 then 4 else 0,
                              paddockWipe := s.start.dramStatus == 2 && s.paddockSize != 0 }
      cal := { s.cal with commit := none, staging := [] } }
    t.revalid

/-! ## The fault collector (R485–R496) -/

/-- Class of a fault code (R487, R516); none for a reserved code. -/
def faultClass (code : Nat) : Option Nat :=
  if [0x0101, 0x0102, 0x0201, 0x0203, 0x0204, 0x0301, 0x0601, 0x0801, 0x0802, 0x0804, 0x0902, 0x0905, 0x0D03, 0x0E04,
      0x120B, 0x1507].contains code then some 0
  else if [0x0008, 0x0009, 0x000A, 0x0202, 0x0401, 0x0701, 0x0702, 0x0803, 0x0901, 0x0903, 0x0904, 0x0A01, 0x0B01, 0x0D01,
      0x0E01, 0x0E02, 0x0F02, 0x1001, 0x1201, 0x1205, 0x1207, 0x1208, 0x1209, 0x1301, 0x1302, 0x1303, 0x1401, 0x1502,
      0x1504, 0x1505, 0x1506].contains code then some 1
  else if [0x0001, 0x0002, 0x0003, 0x0004, 0x0006, 0x0007, 0x0501, 0x0502, 0x0D02, 0x0E03, 0x1202, 0x1203, 0x1204, 0x1206,
      0x120A, 0x1501].contains code then some 2
  else if [0x0005, 0x0F01, 0x1101, 0x1503, 0x1601, 0x1602].contains code then some 3
  else none

/-- A level fault of R487 or R516; every other code is an event fault (R485). -/
def isLevel (code : Nat) : Bool :=
  [0x0001, 0x0002, 0x0003, 0x0004, 0x0005, 0x0006, 0x0007, 0x0008, 0x0009, 0x000A, 0x0401, 0x0501, 0x0502, 0x0701, 0x0702,
   0x0901, 0x0904, 0x0B01, 0x0E01, 0x0E02, 0x0E03, 0x1204, 0x1205, 0x1206, 0x1207, 0x1208, 0x120A, 0x1301, 0x1303, 0x1401,
   0x1501].contains code

/-- Codes whose every raising is its own record (R488). -/
def neverCoalesced (code : Nat) : Bool := [0x0101, 0x0102, 0x0203, 0x0601].contains code

/-- The fault level of FAULT_LEVEL (R495). -/
def State.faultLevel (s : State) : Nat := max (maxL (s.faults.active.map (·.2.2))) (if s.faults.latch then 3 else 0)

/-- FAULT_N is driven low (R495). -/
def State.faultN (s : State) : Bool := s.start.porHeld || s.start.inReset || decide (s.faultNLevel ≤ s.faultLevel)

/-- A fault record is written (R494, R496, R497): the log takes it or counts it lost, the class's count rises, and a record
of class F1 to F3 sets attention bit 0. -/
def State.record (s : State) (code cls flags inst rep causeSeq detail : Nat) : State :=
  let b : FaultBody := { code := code, cls := cls, fflags := flags, rep := min rep 0xFFFF, inst := inst, ftime := s.full,
                         fgirth := s.gNow, start := s.start.state.code, pair := s.pair.state.code, glevel := s.gov.level,
                         causeSeq := causeSeq, detail := detail }
  let s := (s.stage (.fault b)).getD (s.lose s.log.staging 1)
  let f := s.faults
  let s := { s with faults := { f with f0 := if cls = 0 then bump f.f0 else f.f0, f1 := if cls = 1 then bump f.f1 else f.f1,
                                       f2 := if cls = 2 then bump f.f2 else f.f2, f3 := if cls = 3 then bump f.f3 else f.f3 } }
  if cls = 0 then s else s.attn 0

/-- LSEQ of the newest record stored. -/
def State.lastLseq (s : State) : Nat := (s.log.nextLseq + 4294967295) % 4294967296

/-- A fault becomes active (R495): a level fault while its condition holds, an F1 or F2 event fault until acknowledged. -/
def State.activate (s : State) (code inst cls : Nat) : State :=
  let s := if isLevel code then { s with faults := { s.faults with levels := s.faults.levels ++ [(code, inst)] } } else s
  if (isLevel code || cls == 1 || cls == 2) && !s.faults.active.any (fun a => a.1 == code && a.2.1 == inst) then
    { s with faults := { s.faults with active := s.faults.active ++ [(code, inst, cls)] } }
  else s

/-- Handling of an F2 begins when firmware runs, or the fault waits its turn (R489). -/
def State.handle (s : State) (code : Nat) : State :=
  if s.faults.handling.isNone && s.faults.queue.isEmpty && s.start.agent then
    { s with faults := { s.faults with handling := some (code, s.lastLseq), handledAt := s.tb.lc } }
  else { s with faults := { s.faults with queue := s.faults.queue ++ [(code, s.lastLseq)] } }

/-- The response to an F3 that has been recorded (R491). -/
def State.f3Response (s : State) : State :=
  let s := s.stopLease 2
  let s := { s with faults := { s.faults with latch := true } }
  let s := (s.faults.handling.toList ++ s.faults.queue).foldl (fun s p => s.record p.1 2 4 noInst 0 0 0) s
  let s := { s with faults := { s.faults with handling := none, queue := [], f3Resets := (s.tb.lc : Int) :: s.faults.f3Resets.take 15 } }
  s.sysReset 5

/-- F3 resets within the last 600 s (R492). -/
def State.f3Count (s : State) : Nat := (s.faults.f3Resets.filter (fun t => decide ((s.tb.lc : Int) < t + ((secs 600 : Nat) : Int)))).length

/-- Objects of the collector whose writes take effect at the next raising (R498). -/
def faultKey (k : Nat) : Bool := k == 0xC00002 || k == 0xC00003 || k == 0xC00004 || k == 0xC01003

/-- The class a raising takes: an F2 may be escalated (R490). -/
def State.raisedClass (s : State) (code cls : Nat) : Nat :=
  if cls == 2 && ((match s.faults.handling with | some h => h.1 / 256 == code / 256 | none => false) ||
      decide (16 ≤ s.faults.queue.length)) then 3 else cls

/-- A raising that reaches the collector outside reset, of class `cls` by its code (R488–R491). -/
def State.collect (s : State) (code cls inst detail : Nat) : State :=
  let s := s.takeLate faultKey
  let hold := 8 * b2n s.start.haltF3
  let c := s.raisedClass code cls
  let esc := c != cls
  let causeSeq := if esc then (match s.faults.handling with | some h => h.2 | none => 0) else 0
  if c < 2 then
    match (if neverCoalesced code then none
        else s.faults.coalesce.find? (fun x => x.code == code && x.inst == inst && x.second == s.tai)) with
    | some _ =>
      let l := s.faults.coalesce.map (fun x =>
        if x.code == code && x.inst == inst then { x with rep := x.rep + 1 } else x)
      ({ s with faults := { s.faults with coalesce := l } } : State).activate code inst c
    | none =>
      let s := (s.record code c hold inst 0 0 detail).activate code inst c
      if neverCoalesced code then s
      else
        let l := s.faults.coalesce.filter (fun x => !(x.code == code && x.inst == inst)) ++ [⟨code, inst, s.tai, 0⟩]
        { s with faults := { s.faults with coalesce := l } }
  else if c = 2 then ((s.record code 2 hold inst 0 0 detail).activate code inst 2).handle code
  else if s.start.haltF3 then
    let s := (s.record code 3 (hold + 2 * b2n esc) inst 0 causeSeq detail).activate code inst 3
    { s with faults := { s.faults with latch := true } }
  else ((s.record code 3 (2 * b2n esc) inst 0 causeSeq detail).activate code inst 3).f3Response

/-- A fault or event is raised (R485–R491). During a system reset an F3 is recorded and absorbed, and every other raising
waits for the collector's return (R490, R491). A level fault whose condition already holds is not raised again (R488). -/
def State.raise (s : State) (code : Nat) (inst : Nat := noInst) (detail : Nat := 0) : State :=
  match faultClass code with
  | none => s
  | some cls =>
    if s.start.porHeld then s
    else if s.start.inReset then
      if cls = 3 then
        let s := s.record code 3 0 inst 0 0 detail
        { s with faults := { s.faults with latch := true } }
      else if s.faults.held.any (fun h => h.1 == code && h.2.1 == inst && isLevel code) then s
      else { s with faults := { s.faults with held := s.faults.held ++ [(code, inst, detail)] } }
    else if isLevel code && s.faults.levels.contains (code, inst) then s
    else s.collect code cls inst detail

/-- A level fault's condition ends: it is recorded once more and leaves FAULT_ACTIVE (R485). During a reset a raising that
waits is dropped (R490). -/
def State.clearFault (s : State) (code : Nat) (inst : Nat := noInst) : State :=
  if s.start.inReset then
    { s with faults := { s.faults with held := s.faults.held.filter (fun h => !(h.1 == code && h.2.1 == inst)) } }
  else if s.faults.levels.contains (code, inst) then
    let s := { s with faults := { s.faults with levels := s.faults.levels.filter (· != (code, inst)),
                                                active := s.faults.active.filter (fun a => !(a.1 == code && a.2.1 == inst)) } }
    s.record code ((faultClass code).getD 0) 1 inst 0 0 0
  else s

/-- A level fault follows its condition. -/
def State.level (s : State) (b : Bool) (code : Nat) (inst : Nat := noInst) : State :=
  if b then s.raise code inst else s.clearFault code inst

/-- The next queued F2 is handed over (R489). -/
def State.nextF2 (s : State) : State :=
  match s.faults.queue with
  | q :: rest =>
    if s.faults.handling.isNone && s.start.agent then
      { s with faults := { s.faults with handling := some q, handledAt := s.tb.lc, queue := rest } }
    else s
  | [] => s

/-- Handling of a code ends, if it is the one being handled (R489). -/
def State.endHandling (s : State) (code : Nat) : State :=
  match s.faults.handling with
  | some h => if h.1 = code then ({ s with faults := { s.faults with handling := none } } : State).nextF2 else s
  | none => s

/-- The coalesced raisings of R488 are written at an anchor. -/
def State.flushCoalesced (s : State) : State :=
  let due := s.faults.coalesce.filter (fun x => 0 < x.rep)
  let s := { s with faults := { s.faults with coalesce := [] } }
  due.foldl (fun s x => s.record x.code ((faultClass x.code).getD 0) 0 x.inst x.rep 0 0) s

end Sys2Proof.Machine
end

