-- ==== Sys2Proof/Machine/Clocks.lean ====
section
/-!
DEFINITION. Clock groups (R22–R29), the time base with its steps, anchors, coarse count and leap record (R43–R68), and the
meanings of the clock commands. Loops are numbered 0 CPLL, 1 EPLL, 2 MPLL, 3 SPLL, 4 the time-base APLL, 5–8 APLL-A to
APLL-D, 9–16 the transmit PLLs of the quads.
-/
set_option Elab.async false
namespace Sys2Proof.Machine

/-! ## Coarse count (R25, R57–R61, R164) -/

/-- T_c of a coarse source in 2⁻¹⁶ ns: the oscillator's nominal period rounded to nearest, or 40 ns, or 80 ns while the
safe clock derives from the backup oscillator (R57). `fosc` is in µHz. -/
def State.coarsePeriod (s : State) (src : Nat) : Nat :=
  if src = 1 then (65536 * 1000000000 * 1000000 + s.synth.fosc / 2) / s.synth.fosc
  else if src = 2 then (if s.clk.xoBackup then 80 else 40) * nsUnits
  else 0

/-- ρ of a coarse source (R59). -/
def State.coarseRate (s : State) (src : Nat) : Nat := if src = 1 then s.coarseRateOsc else s.coarseRateSafe

/-- Growth earned so far is banked and a new rate counts from now (R59, R68). -/
def State.coarseRebase (s : State) (src : Nat) : State :=
  { s with tb := { s.tb with coarseAcc := s.coarseGrowth, coarseRho := s.coarseRate src, coarseFrom := s.tb.lc } }

/-- A count of TB cycles begins at the present cycle (R44, R57, R61): those before it that no edge of less than 2³¹ ns ago can have
fallen in are let go (R54). -/
def State.newCount (s : State) (inc : Nat) (coarse : Bool) (frac : Nat) : State :=
  let recent := s.tb.counts.takeWhile (fun c => decide (s.tb.lc < c.from_ + 2147483648 * 65536))
  let older := (s.tb.counts.drop recent.length).take 1
  { s with tb := { s.tb with counts := ⟨s.tb.lc, inc, coarse, frac⟩ :: (recent ++ older) } }

/-- The pulse and IRIG-B framers leave the time base's edge times, those of stopped outputs too, or rejoin them (R164). -/
def State.freeRunOuts (s : State) (b : Bool) : State :=
  if b then
    let s := if s.synth.drift.isEmpty then { s with synth := { s.synth with drift := [(s.tb.lc, 0)] } } else s
    s.onOuts (fun o => if o.mode != 0 && !o.freeRun then { o with freeRun := true, shift := s.driftAt s.tb.lc } else o)
  else
    let t := s.onOuts (fun o =>
      if o.freeRun then
        { o with freeRun := false, placed := if o.running then o.placed + s.targetShift o s.tb.lc else o.placed, shift := 0 }
      else o)
    { t with synth := { t.synth with drift := [] } }

/-! ## Commands of the accumulator (R109, R110) -/

/-- A control command (R109): u applied at once, held within CONTROL_RANGE; a ramp in progress ends. -/
def State.control (s : State) (u : Int) : State :=
  let s := s.accrue
  let r : Int := (s.controlRange : Int) * 72057594037927936 / 1000000000000
  let u := clampI (-r) r u
  { s with servo := { s.servo with u := u, ramp := none }, accum := { s.accum with u := u } }

/-- A slew command replaces the remainder of the previous one (R110). -/
def State.slew (s : State) (amount : Int) (rate : Nat) : State :=
  let s := s.accrue
  { s with accum := { s.accum with slewLeft := amount, slewRate := rate, slewing := amount != 0 } }

/-- The condition of DEGRADED (R56): the time base is not disciplined, or the anchor with RETURN is due. Its changes are noted
with their long counts, those kept that a stamp of less than 2³¹ ns can need (R54). -/
def State.noteDegraded (s : State) : State :=
  let d := s.group 5 != 1 || s.tb.returnDue
  let l := s.tb.degraded
  if d == (l.head?.map (·.2)).getD false then s
  else { s with tb := { s.tb with degraded := (s.tb.lc, d) :: l.takeWhile (fun x => decide (s.tb.lc < x.1 + 2147483648 * 65536)) } }

/-- DEGRADED of R56 for an edge of long count `t`. -/
def State.degradedAt (s : State) (t : Nat) : Bool :=
  match s.tb.degraded.find? (fun x => decide (x.1 ≤ t)) with
  | some x => x.2
  | none => match s.tb.degraded.getLast? with
    | some x => !x.2
    | none => s.group 5 != 1 || s.tb.returnDue

/-- The time base goes to the coarse count from source 1 (oscillator) or 2 (safe clock): R25, R57, R59. -/
def State.enterCoarse (s : State) (src : Nat) : State :=
  let s := s.accrue
  let s := if s.tb.coarse = 0 then
      { s with tb := { s.tb with coarseG0 := s.gNow, coarseAcc := 0, coarseFrom := s.tb.lc, coarseRho := 0 } }
    else s
  let c := s.countAt s.tb.lc
  let s := (s.coarseRebase src).newCount (s.coarsePeriod src) true (if c.coarse then c.frac else s.tb.lc % 65536)
  let s := { s with tb := { s.tb with coarse := src, coarseTc := s.coarsePeriod src } }
  (((s.setGroup 5 4).noteDegraded).freeRunOuts true).revalid

/-- The return to the disciplined count (R61): the bound stops growing and still floors the girth. -/
def State.leaveCoarse (s : State) : State :=
  if s.tb.coarse = 0 then (s.setGroup 5 1).noteDegraded
  else
    let s := s.accrue.newCount 65536 false 0
    let s := { s with tb := { s.tb with coarseAcc := s.coarseGrowth, coarse := 0, coarseFloor := true,
                                        coarseLeft := s.lockCount, returnDue := true, returnAt := none } }
    let s := { s with clk := { s.clk with oscLost := false } }
    (((s.setGroup 5 1).noteDegraded).freeRunOuts false).revalid

/-! ## Loops (R24, R27, R29) -/

/-- The group a loop clocks (R22). -/
def loopGroup (loop : Nat) : Nat :=
  match loop with
  | 0 => 3
  | 1 => 4
  | 2 => 9
  | 3 => 11
  | _ => 5

/-- CAN controllers fall silent, or speak again, with SPLL (R24). -/
def State.canSilent (s : State) (b : Bool) : State :=
  { s with dict := { s.dict with can := s.dict.can.map (fun c =>
      if b then (if c.state = 1 || c.state = 2 then { c with state := 4 } else c)
      else (if c.state = 4 then { c with state := 1 } else c)) } }

/-- The transmission of a port underruns when CORE leaves its normal clock at long count `now`: it is a cut-through copy in the middle of
its transmission, not marked bad already (R281). -/
def YPort.underruns (y : YPort) (now : Nat) : Bool := decide (now < y.busyUntil) && y.ctSending && y.sent.any (!·.stomped)

/-- Cut-through copies in the middle of their transmission underrun: each is marked bad at its tail, which the ingress port and the
egress port count (R281). -/
def State.underrun (s : State) : State :=
  let from_ := (s.yard.ports.filter (·.underruns s.tb.lc)).filterMap (fun y => y.sent.map (·.port))
  let s := { s with yard := { s.yard with ports := s.yard.ports.map (fun y =>
      if y.underruns s.tb.lc then
        { y with txStomp := bump y.txStomp, ctSending := false, sent := y.sent.map (fun x => { x with stomped := true }) }
      else y) } }
  from_.foldl (fun s p => s.onYPort p (fun y => { y with fcsErr := bump y.fcsErr })) s

/-- Loss of lock of CPLL, EPLL, MPLL or SPLL (R24): the group runs on the safe clock and F2 is raised. -/
def opClockLoss (loop : Nat) (s : State) : State :=
  if loop < 4 && s.group (loopGroup loop) == 1 then
    let s := s.setGroup (loopGroup loop) 2
    let s := if loop = 0 then s.underrun else s
    (if loop = 3 then s.canSilent true else s).raise (loop + 1)
  else s

/-- Loss of lock of the time-base APLL (R25): the coarse count from the oscillator, or from the safe clock when the monitor
flags the oscillator too; F2 0x0006. -/
def opTbLoss (oscToo : Bool) (s : State) : State :=
  if s.tb.coarse = 0 then
    let s := { s with clk := { s.clk with oscLost := oscToo } }
    (s.enterCoarse (if oscToo then 2 else 1)).raise 0x0006
  else s

/-- The monitor flags the oscillator while the time base is on the coarse count (R25). -/
def opOscLoss (s : State) : State :=
  if s.tb.coarse = 1 then
    let s := { s with clk := { s.clk with oscLost := true } }
    s.enterCoarse 2
  else s

/-- XO stops (R26): the backup oscillator, the halter's release and F3 0x0005. Where the time base runs on the safe clock
its period becomes 80 ns (R57). -/
def opXoStop (s : State) : State :=
  if s.clk.xoBackup then s
  else
    let s := { s with clk := { s.clk with xoBackup := true } }
    let s := s.setGroup 2 5
    let s := if s.tb.coarse = 2 then s.enterCoarse 2 else s
    ((s.stopLease 3).revalid).raise 0x0005

/-- An output APLL's lock is confirmed (R27, R162, R163): its fault clears, and its outputs may start again. -/
def opApllLocked (a : Nat) (s : State) : State :=
  let s := s.onApll a (fun p => { p with lock := 1 })
  let s := { s with synth := { s.synth with relocking := setBit s.synth.relocking a false } }
  (s.clearFault 0x0007 a).endHandling 0x0007

/-- A relocking loop's lock is confirmed (R27). -/
def opLockConfirmed (loop : Nat) (s : State) : State :=
  if loop < 4 then
    if s.group (loopGroup loop) == 2 || s.group (loopGroup loop) == 3 then
      let s := s.setGroup (loopGroup loop) 1
      let s := if loop = 3 then s.canSilent false else s
      let s := { s with clk := { s.clk with relockC := s.clk.relockC && loop != 0, relockE := s.clk.relockE && loop != 1 } }
      (s.clearFault (loop + 1)).endHandling (loop + 1)
    else s
  else if loop = 4 then
    if s.tb.coarse = 0 then s else (s.leaveCoarse.clearFault 0x0006).endHandling 0x0006
  else if loop < 9 then
    if (s.apll (loop - 5)).lock = 2 || (s.apll (loop - 5)).lock = 3 then opApllLocked (loop - 5) s else s
  else if (s.quad (loop - 9)).state = 1 || ((s.quad (loop - 9)).state = 3 && !(s.quad (loop - 9)).refLost) then
    s.onQuad (loop - 9) (fun q => { q with state := 2 })
  else s

/-- A commanded divider change of CPLL (1) or EPLL (2): gated, or on the safe clock, until lock (R27, R29). -/
def opPllRelock (v : Nat) (s : State) : State :=
  let s := { s with clk := { s.clk with relockC := s.clk.relockC || v == 1, relockE := s.clk.relockE || v == 2 } }
  let s := if v = 1 then s.underrun else s
  s.setGroup (if v = 1 then 3 else 4) (if s.gateOnRelock then 3 else 2)

/-- PLL_RELOCK is refused in LOCKED while the part holds or contends for the halter (R29; log entry 110). -/
def okPllRelock (s : State) : Bool := !(s.start.state == .locked && s.contends)

/-! ## Steps and anchors (R46–R51, R65) -/

/-- TIME_SET accepted with whole seconds `sec` (R47): due at the next boundary, or at the one after it with one second more
when less than 10 ms remain. -/
def opTimeSet (sec : Nat) (s : State) : State :=
  let left := 65536000000000 - s.full % 65536000000000
  { s with tb := { s.tb with pendSet := if left < 655360000000 then some (sec + 1, 1) else some (sec, 0) } }

/-- TIME_SET's value and moment (R47): no nanoseconds and no fraction, and not in LOCKED. -/
def okTimeSet (v : Nat) (s : State) : Nat :=
  if v % 281474976710656 != 0 then 0x08 else if s.start.state == .locked then 0x09 else 0

/-- The long count of the cycle that crosses the next second boundary: the first that does, which on the coarse count and after it
can lie past the second (R50, R51). -/
def State.boundary (s : State) : Nat :=
  max s.tb.lc (s.cycleFrom ((s.tai + 1) * 65536000000000 - s.tb.offset * 65536).toNat)

/-- A reference after a step of `ns`: its regression prediction is shifted (R79), and an earlier measurement serves no
build-out any more (R124). -/
def Ref.shift (ns : Int) (r : Ref) : Ref :=
  { r with phases := r.phases.map (fun p => (p.1, p.2 - ns * 65536)), phaseOffset := r.phaseOffset - ns * 65536,
           lastMeas := none }

/-- A step of `ns` nanoseconds taken in this cycle (R46): the offset changes and an F0 record gives the amount. -/
def State.step (s : State) (ns : Int) : State :=
  ({ s with tb := { s.tb with offset := s.tb.offset + ns }, refs := s.refs.map (Ref.shift ns) } : State).raise 0x0101 noInst
    (unsigned 8 ns)

/-- The servo's step due at this boundary, which cancels a slew (R46, R110), with the amount taken. A step of R124 comes out of φ_b, and
what remains is slewed; once another switch has overtaken it, only under phase alignment (log entry 117). -/
def State.takeServoStep (s : State) : State × Option Int :=
  match s.tb.pendStep with
  | some ns =>
    let k := s.servo.stepKind
    let s := s.accrue
    let s := { s with tb := { s.tb with pendStep := none, isSet := true, setByWrite := false, stepRef := s.sel.current }
                      servo := { s.servo with stepWait := false, stepKind := .plain
                                              phiB := if k == StepKind.plain then s.servo.phiB else s.servo.phiB - ns * 65536 }
                      accum := { s.accum with slewLeft := 0, slewing := false } }
    let s := s.step ns
    if s.sel.switching.isNone && (k == StepKind.onReturn || (k == StepKind.overtaken && s.changeMode == 1)) then
      let s := s.slew s.servo.phiB s.phaseSlopeLimit
      ({ s with servo := { s.servo with
          state := if s.servo.state == .track && s.accum.slewing then .align else s.servo.state } }, some ns)
    else (s, some ns)
  | none => (s, none)

/-- The step due at this boundary: TIME_SET's before the servo's, which is then discarded (R47); with the amount taken. -/
def State.takeStep (s : State) : State × Option Int :=
  match s.tb.pendSet with
  | some (sec, 0) =>
    let ns := (sec : Int) * 1000000000 - s.full / 65536
    let s := { s with tb := { s.tb with pendSet := none, pendStep := none, isSet := true, setByWrite := true, stepRef := 0xFE }
                      servo := { s.servo with stepWait := false, stepKind := .plain } }
    (s.step ns, some ns)
  | some (sec, k + 1) => ({ s with tb := { s.tb with pendSet := some (sec, k) } } : State).takeServoStep
  | none => s.takeServoStep

/-- The offset that a leap record puts in effect at a second (R65). -/
def State.offsetInEffect (s : State) (tai : Int) : Int :=
  if s.leapPending = 1 && decide ((s.leapTai : Int) ≤ tai) then s.utcOffset + 1
  else if s.leapPending = 2 && decide ((s.leapTai : Int) ≤ tai) then s.utcOffset - 1
  else s.utcOffset

/-- The leap record at an anchor (R65): when the offset in effect changes, UTC_OFFSET takes it, LEAP_PENDING is cleared and
an F0 record is written. The flag tells that it changed. -/
def State.leap (s : State) : State × Bool :=
  let o := s.offsetInEffect s.tai
  if o = s.utcOffset then (s, false)
  else
    let d := o - s.utcOffset
    let s := { s with tb := { s.tb with lastLeap := some (s.leapTai, s.utcOffset) } }
    (((s.put 0x2100 1 (unsigned 4 o)).put 0x2100 4 0).raise 0x0102 noInst (unsigned 8 d), true)

/-- AFLAGS of an anchor (R51). -/
def State.anchorFlags (s : State) (step change : Bool) : Nat :=
  ofBits [true, step, s.tb.coarse == 1, s.tb.coarse == 2, s.tb.returnDue, change]

/-- An anchor is latched into ANCHOR_RING (R50, R51). -/
def State.latch (s : State) (step : Option Int) (change : Bool) : State :=
  let t := s.shown s.tb.lc
  let a : Anchor := { aseq := s.tb.nextAseq, flags := s.anchorFlags step.isSome change, nsc := t % 281474976710656,
                      full := t + s.tb.offset * 65536, stepNs := step.getD 0, at_ := s.tb.lc }
  ({ s with tb := { s.tb with
      ring := s.tb.ring.set (a.aseq % 16) a, nextAseq := bump a.aseq, returnDue := false
      returnAt := if s.tb.returnDue then some s.tb.lc else s.tb.returnAt } } : State).noteDegraded

/-- The newest anchor. -/
def State.anchor (s : State) : Anchor := s.tb.ring.getD (s.aseqNow % 16) Anchor.init

/-- Long count of the newest anchor; 0 before the first. -/
def State.lastAnchor (s : State) : Nat := s.anchor.at_

/-- An anchor's 32 bytes (R51). -/
def Anchor.bytes (a : Anchor) : List Byte :=
  leBytes 32 (lePack [(4, a.aseq), (2, a.flags), (6, a.nsc), (12, time96 a.full), (8, unsigned 8 a.stepNs)])

/-- The freeze of the leap record from 60 s before LEAP_TAI until it is cleared (R65). -/
def State.leapFrozen (s : State) : Bool := s.leapPending != 0 && decide ((s.leapTai : Int) - 60 ≤ s.tai)

/-- UTC data that the selected reference delivers: offset, and a leap record when it announces one (R63, R64, R65). Data that the source
does not mark valid are taken too, and only UTC_OFFSET_VALID stays as it was: R63 takes what the reference carries and R64 alone
speaks of the mark (DESIGN CHOICE, log entry 151). -/
def State.learnUtc (s : State) (offset : Int) (pending : Nat) (leapTai : Nat) (valid : Bool) : State :=
  if s.utcOffsetMode = 1 && !s.leapFrozen then
    let s := (s.put 0x2100 1 (unsigned 4 offset)).put 0x2100 4 pending
    let s := if pending = 0 then s else s.put 0x2100 5 leapTai
    if valid then { s with tb := { s.tb with utcValid := true } } else s
  else s

/-- UTC data whose source announces a leap second without its LEAP_TAI, a ToD sentence or an Announce: a record in force for that leap
keeps its LEAP_TAI, and a new one has a free value (R63, R65; log entry 2). -/
def State.learnAnnounced (s : State) (offset : Int) (leap : Nat) (valid : Bool) : State :=
  if leap = 0 || s.leapPending = leap then s.learnUtc offset leap s.leapTai valid
  else s.draw.2.learnUtc offset leap s.draw.1 valid

/-! ## Stamps (R48–R56) -/

/-- ATAG of an edge at `t`: the newest anchor latched at or before the TB cycle in which it fell, among those that the ring still
holds (R48, R49). -/
def State.tagAt (s : State) (t : Nat) : Nat :=
  let before (k : Nat) : Bool :=
    let a := s.tb.ring.getD ((s.aseqNow + 16 - k) % 16) Anchor.init
    bit a.flags 0 && decide (a.at_ ≤ s.cycleAt t)
  match (List.range 16).find? before with
  | some k => (s.aseqNow + 16 - k) % 16
  | none => s.aseqNow % 16

/-- STAMP_STATUS of a stamp whose edge fell at long count `t`: valid, degraded where R56 or the stamp's unit says so, and the tag
of the newest anchor at or before the edge (R48, R49, R56). -/
def State.stampStatus (s : State) (t : Nat) (degraded : Bool) : Nat :=
  1 + 2 * b2n (degraded || s.degradedAt t) + 16 * s.tagAt t

/-- A stamp of long count `lc` has aged 2³¹ ns or more at delivery (R54). -/
def State.stale (s : State) (lc : Nat) : Bool := decide (lc + 2147483648 * 65536 ≤ s.tb.lc)

/-- The extension of R52: full time in 2⁻¹⁶ ns, or STALE. -/
def State.extend (s : State) (ts status : Nat) : Option Int :=
  let a := s.tb.ring.getD (bits status 4 4) Anchor.init
  let d := (ts + 281474976710656 - a.nsc) % 281474976710656
  if bit status 0 && !bit status 2 && bit a.flags 0 && decide (d ≤ 72089600000000) then some (a.full + d) else none

/-- T_c for COARSE_PERIOD (R67). -/
def State.coarsePeriodNow (s : State) : Nat := if s.tb.coarse = 0 then 0 else s.tb.coarseTc

/-! ## Meanings -/

/-- CLOCK_LOSS_OF_LOCK (R24). -/
def execClockLossOfLock (now loop : Nat) (s : State) : Host.Outcome State Fault Refusal :=
  .next (opClockLoss loop (s.atTime now))

/-- TB_APLL_LOSS_OF_LOCK (R25). -/
def execTbApllLossOfLock (now : Nat) (oscToo : Bool) (s : State) : Host.Outcome State Fault Refusal :=
  .next (opTbLoss oscToo (s.atTime now))

/-- XO_STOP (R26). -/
def execXoStop (now : Nat) (s : State) : Host.Outcome State Fault Refusal := .next (opXoStop (s.atTime now))

/-- LOCAL_OSC_LOSS (R25). -/
def execLocalOscLoss (now : Nat) (s : State) : Host.Outcome State Fault Refusal := .next (opOscLoss (s.atTime now))

end Sys2Proof.Machine
end

