-- ==== Sys2Proof/Machine/Flags.lean ====
section
/-!
DEFINITION. Binary64 arithmetic with the sticky flags of CSR FPSTAT (R336, R343): values are taken apart exactly, computed
exactly, and rounded once to nearest-even. Flags: [0] inexact, [1] underflow, [2] overflow, [3] divide by zero, [4] invalid.
-/
set_option Elab.async false
namespace Sys2Proof.Machine

/-- A binary64 value: a finite one is (−1)^neg × m × 2^e. -/
inductive FVal where
  | nan (quiet : Bool)
  | inf (neg : Bool)
  | fin (neg : Bool) (m : Nat) (e : Int)
deriving DecidableEq, Repr

/-- The value of 64 bits. -/
def fdecode (b : Nat) : FVal :=
  let neg := bit b 63
  let x := bits b 52 11
  let f := bits b 0 52
  if x = 2047 then (if f = 0 then .inf neg else .nan (bit b 51))
  else if x = 0 then .fin neg f (-1074)
  else .fin neg (f + 2 ^ 52) ((x : Int) - 1075)

/-- Bits with a sign. -/
def fsign (neg : Bool) (b : Nat) : Nat := b2n neg * 2 ^ 63 + b

/-- An infinity. -/
def finf (neg : Bool) : Nat := fsign neg (2047 * 2 ^ 52)

/-- A NaN of free sign and payload (log entry 52). -/
def fnan (free : Nat) : Nat := fsign (bit free 51) (2047 * 2 ^ 52 + 2 ^ 51 + free % 2 ^ 51)

/-- Number of bits of a natural number. -/
def bitLen (m : Nat) : Nat := if m = 0 then 0 else m.log2 + 1

/-- m / 2^k rounded to nearest-even; `sticky` stands for a remainder below m's last bit. -/
def roundShift (m k : Nat) (sticky : Bool) : Nat × Bool :=
  if k = 0 then (m, sticky)
  else
    let q := m / 2 ^ k
    let r := m % 2 ^ k
    let half := 2 ^ (k - 1)
    let up := half < r || (r == half && (sticky || q % 2 == 1))
    (q + b2n up, r != 0 || sticky)

/-- A number below the smallest normal one, before or after its rounding (R336). -/
def ftiny (m : Nat) (e : Int) (sticky : Bool) : Bool :=
  let top := e + bitLen m - 1
  let before := decide (top < -1022)
  if Config.tinyAfter then
    before && !(top == -1023 && decide (2 ^ 53 ≤ (roundShift m (bitLen m - 53) sticky).1) && decide (53 < bitLen m))
  else before

/-- (−1)^neg × (m and, with `sticky`, a little more) × 2^e rounded: bits and flags. -/
def fround (neg : Bool) (m : Nat) (e : Int) (sticky : Bool) : Nat × Nat :=
  if m = 0 then (fsign neg 0, b2n sticky)
  else
    let e' := max (e + bitLen m - 53) (-1074)
    let (q, inexact) := if e' ≤ e then (m * 2 ^ (e - e').toNat, sticky) else roundShift m (e' - e).toNat sticky
    let (q, e') := if q = 2 ^ 53 then (2 ^ 52, e' + 1) else (q, e')
    let x := (e' + 1075).toNat
    if q < 2 ^ 52 then (fsign neg q, ofBits [inexact, inexact])
    else if 2047 ≤ x then (finf neg, 5)
    else (fsign neg (x * 2 ^ 52 + (q - 2 ^ 52)), ofBits [inexact, inexact && ftiny m e sticky])

/-- A signed integer times 2^e rounded; a zero takes the sign given. -/
def froundInt (v : Int) (e : Int) (zeroNeg : Bool) : Nat × Nat :=
  if v = 0 then (fsign zeroNeg 0, 0) else fround (decide (v < 0)) v.natAbs e false

/-- A NaN result: invalid when an operand signals. -/
def fnanOf (free : Nat) (a b : FVal) : Nat × Nat := (fnan free, if a == .nan false || b == .nan false then 16 else 0)

/-- A finite value as an integer times 2^e. -/
def fint (neg : Bool) (m : Nat) : Int := if neg then -(m : Int) else m

/-- DADD (R338). -/
def fadd (free a b : Nat) : Nat × Nat :=
  match fdecode a, fdecode b with
  | .nan q, y => fnanOf free (.nan q) y
  | x, .nan q => fnanOf free x (.nan q)
  | .inf s, .inf t => if s == t then (finf s, 0) else (fnan free, 16)
  | .inf s, .fin _ _ _ => (finf s, 0)
  | .fin _ _ _, .inf t => (finf t, 0)
  | .fin s m e, .fin t n f =>
    let g := min e f
    froundInt (fint s m * 2 ^ (e - g).toNat + fint t n * 2 ^ (f - g).toNat) g (s && t)

/-- The bits of −b. -/
def fneg (b : Nat) : Nat := b ^^^ 2 ^ 63

/-- DSUB (R338). -/
def fsub (free a b : Nat) : Nat × Nat := fadd free a (match fdecode b with | .nan _ => b | .inf _ => fneg b | .fin _ _ _ => fneg b)

/-- DMUL (R338). -/
def fmul (free a b : Nat) : Nat × Nat :=
  match fdecode a, fdecode b with
  | .nan q, y => fnanOf free (.nan q) y
  | x, .nan q => fnanOf free x (.nan q)
  | .inf s, .inf t => (finf (s != t), 0)
  | .inf s, .fin t n _ => if n = 0 then (fnan free, 16) else (finf (s != t), 0)
  | .fin s m _, .inf t => if m = 0 then (fnan free, 16) else (finf (s != t), 0)
  | .fin s m e, .fin t n f => fround (s != t) (m * n) (e + f) false

/-- DDIV (R338). -/
def fdiv (free a b : Nat) : Nat × Nat :=
  match fdecode a, fdecode b with
  | .nan q, y => fnanOf free (.nan q) y
  | x, .nan q => fnanOf free x (.nan q)
  | .inf _, .inf _ => (fnan free, 16)
  | .inf s, .fin t _ _ => (finf (s != t), 0)
  | .fin s _ _, .inf t => (fsign (s != t) 0, 0)
  | .fin s m e, .fin t n f =>
    if n = 0 then (if m = 0 then (fnan free, 16) else (finf (s != t), 8))
    else fround (s != t) (m * 2 ^ 120 / n) (e - f - 120) (m * 2 ^ 120 % n != 0)

/-- DSQRT (R338). -/
def fsqrt (free a : Nat) : Nat × Nat :=
  match fdecode a with
  | .nan q => fnanOf free (.nan q) (.nan q)
  | .inf s => if s then (fnan free, 16) else (finf false, 0)
  | .fin s m e =>
    if m = 0 then (a, 0)
    else if s then (fnan free, 16)
    else
      let k : Nat := if e % 2 = 0 then 120 else 121
      let n := m * 2 ^ k
      fround false (isqrt n) ((e - k) / 2) (isqrt n * isqrt n != n)

/-- a < b for values that are no NaN. -/
def fvalLt : FVal → FVal → Bool
  | .inf s, .inf t => s && !t
  | .inf s, .fin _ _ _ => s
  | .fin _ _ _, .inf t => !t
  | .fin s m e, .fin t n f =>
    let g := min e f
    decide (fint s m * 2 ^ (e - g).toNat < fint t n * 2 ^ (f - g).toNat)
  | .nan _, _ => false
  | _, .nan _ => false

/-- A value is a NaN. -/
def isNan (b : Nat) : Bool := bits b 52 11 == 2047 && bits b 0 52 != 0

/-- A signalling NaN. -/
def isSnan (b : Nat) : Bool := isNan b && !bit b 51

/-- DCEQ: invalid for a signalling NaN (R336; log entry 52). -/
def feq (a b : Nat) : Nat × Nat :=
  if isNan a || isNan b then (0, if isSnan a || isSnan b then 16 else 0)
  else (b2n (!fvalLt (fdecode a) (fdecode b) && !fvalLt (fdecode b) (fdecode a)), 0)

/-- DCLT: invalid for any NaN. -/
def flt (a b : Nat) : Nat × Nat :=
  if isNan a || isNan b then (0, 16) else (b2n (fvalLt (fdecode a) (fdecode b)), 0)

/-- DCLE: invalid for any NaN. -/
def fle (a b : Nat) : Nat × Nat :=
  if isNan a || isNan b then (0, 16) else (b2n (!fvalLt (fdecode b) (fdecode a)), 0)

/-- DMIN: with a NaN, or with zeros of both signs, the result is a free value (log entry 52). -/
def fmin (free a b : Nat) : Nat × Nat :=
  if isNan a || isNan b then (free % 2 ^ 64, if isSnan a || isSnan b then 16 else 0)
  else if fvalLt (fdecode a) (fdecode b) then (a, 0)
  else if fvalLt (fdecode b) (fdecode a) then (b, 0)
  else if a = b then (a, 0)
  else (if bit free 0 then a else b, 0)

/-- DMAX, as DMIN. -/
def fmax (free a b : Nat) : Nat × Nat :=
  if isNan a || isNan b then (free % 2 ^ 64, if isSnan a || isSnan b then 16 else 0)
  else if fvalLt (fdecode a) (fdecode b) then (b, 0)
  else if fvalLt (fdecode b) (fdecode a) then (a, 0)
  else if a = b then (a, 0)
  else (if bit free 0 then a else b, 0)

/-- DTOI: to I64, rounded to nearest-even and saturating (R338); a NaN gives a free value. -/
def ftoi (free a : Nat) : Nat × Nat :=
  let sat (neg : Bool) : Nat := if neg then 2 ^ 63 else 2 ^ 63 - 1
  match fdecode a with
  | .nan _ => (free % 2 ^ 64, 16)
  | .inf s => (sat s, 16)
  | .fin s m e =>
    let (q, inexact) := if 0 ≤ e then (m * 2 ^ e.toNat, false) else roundShift m (-e).toNat false
    if (if s then 2 ^ 63 < q else 2 ^ 63 ≤ q) then (sat s, 16)
    else (if s then (2 ^ 64 - q) % 2 ^ 64 else q, b2n inexact)

/-- ITOD: from a signed register (R338). -/
def itof (v : Int) : Nat × Nat := froundInt v 0 false

end Sys2Proof.Machine
end

