-- ==== Sys2Proof/Machine/Operands.lean ====
section
/-!
DEFINITION. What the instructions of the engines are built from: registers and immediates, words, the address map with its
protection, traps, the counters that every retired instruction moves, and the samples (R332–R337, R342, R343, R364–R370).
-/
set_option Elab.async false
namespace Sys2Proof.Machine

/-! ## Registers, immediates and words (R336, R337) -/

/-- A servo core (R332). -/
def isSc (e : Nat) : Bool := decide (32 ≤ e)

/-- Register width. -/
def engWidth (e : Nat) : Nat := if isSc e then 64 else 32

/-- The number that an n-bit word spells as a signed one. -/
def toSigned (n v : Nat) : Int := if v % 2 ^ n < 2 ^ (n - 1) then (v % 2 ^ n : Nat) else ((v % 2 ^ n : Nat) : Int) - (2 ^ n : Nat)

/-- An integer as an n-bit word. -/
def ofSigned (n : Nat) (v : Int) : Nat := (v % (2 ^ n : Nat)).toNat

/-- A 16-bit immediate sign-extended to the register width. -/
def immS (e imm : Nat) : Nat := ofSigned (engWidth e) (toSigned 16 imm)

/-- A general register; g0 reads as 0. -/
def State.reg (s : State) (e r : Nat) : Nat :=
  if r % 32 = 0 then 0 else ((s.eng e).regs.getD (r % 32) 0#64).toNat % 2 ^ engWidth e

/-- A general register written; writes to g0 are discarded. -/
def State.setReg (s : State) (e r v : Nat) : State :=
  if r % 32 = 0 then s
  else s.onEng e (fun g => { g with regs := g.regs.set (r % 32) (BitVec.ofNat 64 (v % 2 ^ engWidth e)) })

/-- A floating-point register. -/
def State.freg (s : State) (e r : Nat) : Nat := ((s.eng e).fregs.getD (r % 32) 0#64).toNat

/-- A floating-point register written. -/
def State.setFreg (s : State) (e r v : Nat) : State :=
  s.onEng e (fun g => { g with fregs := g.fregs.set (r % 32) (BitVec.ofNat 64 v) })

/-- Sticky flags accumulate in FPSTAT. -/
def State.stick (s : State) (e flags : Nat) : State := s.onEng e (fun g => { g with fpstat := g.fpstat ||| flags })

/-- Format R. -/
def wordR (op d a b fn : Nat) : Nat := op + d % 32 * 64 + a % 32 * 2048 + b % 32 * 65536 + fn * 2097152

/-- Format K. -/
def wordK (op d a imm : Nat) : Nat := op + d % 32 * 64 + a % 32 * 2048 + imm % 65536 * 65536

/-- Format S. -/
def wordS (op b a imm : Nat) : Nat := op + b % 32 * 64 + a % 32 * 2048 + imm % 65536 * 65536

/-- Format B. -/
def wordB (op a b off : Nat) : Nat := op + a % 32 * 64 + b % 32 * 2048 + off % 65536 * 65536

/-- Format J. -/
def wordJ (op off : Nat) : Nat := op + off % 67108864 * 64

/-! ## Counters and samples (R364–R369) -/

/-- `n` counts on counter i: its new value, and how often it passed 0xFFFFFFFF. -/
def pmcAdd (v n : Nat) : Nat × Nat := ((v + n) % 4294967296, (v + n) / 4294967296)

/-- One pair of counters takes its events (R365): an odd counter that is chained counts the overflows of its even partner. -/
def Pmc.addPair (p : Pmc) (k : Nat) (amount : Nat → Nat) : Pmc :=
  let i := 2 * k
  let chained := bit (p.sel.getD (i + 1) 0) 8
  let (a, oa) := pmcAdd (p.count.getD i 0) (amount (p.sel.getD i 0 % 256))
  let (b, ob) := pmcAdd (p.count.getD (i + 1) 0) (if chained then oa else amount (p.sel.getD (i + 1) 0 % 256))
  let ovf := if oa != 0 && !chained then setBit p.ovf i true else p.ovf
  let ovf := if ob != 0 then setBit ovf (i + 1) true else ovf
  let raised := (oa != 0 && !chained) || ob != 0
  { p with count := (p.count.set i a).set (i + 1) b, ovf := ovf, ctl := if raised && bit p.ctl 3 then setBit p.ctl 1 true else p.ctl }

/-- How often an event occurred. -/
def amountOf (evs : List (Nat × Nat)) (code : Nat) : Nat :=
  if code = 0 then 0 else ((evs.filter (fun x => x.1 == code)).map (·.2)).sum

/-- The counters take a list of events (code and amount), and the sample counter its own (R365, R369). -/
def Pmc.count_ (p : Pmc) (evs : List (Nat × Nat)) : Pmc :=
  let p := if bit p.ctl 0 && !bit p.ctl 1 then
      let q := (List.range 4).foldl (fun q k => q.addPair k (amountOf evs)) p
      { q with cyc := (p.cyc + amountOf evs 1) % 18446744073709551616 }
    else p
  if bit p.smpCtl 31 then
    let n := p.smpCount + amountOf evs p.smpSel
    let period := max 4096 (p.smpCtl % 16777216)
    if period ≤ n then { p with smpCount := 0, armed := true } else { p with smpCount := n }
  else p

/-- Work class of an engine's row (R333). -/
def engClass (e : Nat) : Nat :=
  if e < 4 || 32 ≤ e then 0
  else if e < 12 then 1
  else if e < 14 then 2
  else if e < 16 then 0
  else if e < 18 then 3
  else if e < 20 then 0
  else if e < 24 then 4
  else 5

/-- The row of an engine is gated (R349). -/
def State.engGated (s : State) (e : Nat) : Bool := bit s.engs.gated (engClass e)

/-- An event of an engine is counted; a gated or reset engine counts nothing (R367). -/
def State.pmcEvents (s : State) (e : Nat) (evs : List (Nat × Nat)) : State :=
  if s.engGated e then s
  else s.onEng e (fun g =>
    match g.status with
    | .firmware => { g with pmc := g.pmc.count_ evs }
    | .paddock => { g with pmc := g.pmc.count_ evs }
    | .off => g
    | .inReset => g)

/-- A sample joins the FIFO of 16, or is counted as dropped (R369). -/
def Pmc.sample (p : Pmc) (x : Sample) : Pmc :=
  if p.fifo.length < 16 then { p with fifo := p.fifo ++ [x], armed := false } else { p with dropped := p.dropped + 1, armed := false }

/-- An instruction retires: its cycles and its stall are free values (R7); an armed sample takes it (R369). -/
def State.retire (s : State) (e word : Nat) (evs : List (Nat × Nat)) (trapped : Bool) : State :=
  let c := max 1 (Config.cycles s.freeCount)
  let stall := Config.stallEvent s.freeCount
  let g := s.eng e
  let s := { s with freeCount := s.freeCount + 1 }
  let s := s.pmcEvents e ((1, c) :: (2, 1) :: (stall, c - 1) :: evs)
  let p := (s.eng e).pmc
  let x : Sample := { pc := g.pc, word := word, latency := min 65535 c, stall := stall, trapped := trapped, program := g.program, cycle := p.cyc, nsc := s.nsc, aseq := s.aseqNow }
  if g.pmc.armed then s.onEng e (fun g => { g with pmc := p.sample x })
  else s

/-! ## Traps (R342) -/

/-- Tack engine number of an engine, TE24–TE31. -/
def tackIndex (e : Nat) : Option Nat := if 24 ≤ e && e < 32 then some (e - 24) else none

/-- The engine belongs to the paddock. -/
def State.inPaddock (s : State) (e : Nat) : Bool := (s.eng e).status == .paddock

/-- A paddock engine stops in a TACK_STATE, with its cause kept. -/
def State.tackStop (s : State) (j state cause pc : Nat) : State :=
  s.onTack j (fun t => { t with state := state, cause := cause, trapPc := pc })

/-- A tack image is loaded again by itself, at most TACK_RESTART_MAX times in an hour (R345). -/
def State.tackRestart (s : State) (j : Nat) : State :=
  let recent := (s.tackOf j).restarts.filter (fun t => decide (s.tai - 3600 < t))
  if recent.length < s.tackRestartMax then
    s.onTack j (fun t => { t with state := 2, loadStatus := 0, restarts := s.tai :: recent })
  else s

/-- A paddock violation, or a tack watchdog (R342, R348): the engine is reset, counted and reported. -/
def State.violation (s : State) (e j cause pc : Nat) : State :=
  let s := s.onEng e (Eng.reset .paddock cause)
  let s := s.onTack j (fun t => { t with faults := bump t.faults })
  let s := (s.tackStop j 6 cause pc).raise 0x0D01 e
  s.tackRestart j

/-- A trap (R342): in monitor mode the handler is entered; a paddock engine stops, halts for the debugger, or commits a
violation. -/
def State.trap (s : State) (e cause : Nat) : State :=
  let pc := (s.eng e).pc
  let s := s.pmcEvents e [(0x15, 1)]
  let s := s.onEng e (fun g => { g with cause := cause, trapPc := pc, stall := .none })
  match (if s.inPaddock e then tackIndex e else none) with
  | none => s.onEng e (fun g => { g with pc := g.trapBase, lastCause := cause })
  | some j =>
    if cause = 5 then (s.tackStop j 5 5 pc).onEng e (fun g => { g with lastCause := 5 })
    else if cause = 6 && s.vault.lc == .debug then s.onEng e (fun g => { g with halted := true, lastCause := 6 })
    else s.violation e j cause pc

/-! ## The address map (R334, R335) -/

/-- Where an address leads. -/
inductive Loc where
  | dmem (off : Nat)
  | sram (off : Nat)
  | window (off : Nat)
  | device
  | dram (addr : Nat)
deriving DecidableEq, Repr

/-- Bytes of installed DRAM that can be reached (R334, R507). -/
def State.dramBytes (s : State) : Nat := if s.start.dramStatus = 2 then s.start.dramSize * 1048576 else 0

/-- A protection region permits an access in program mode (R335): [base, limit), with read, write or execute. -/
def Region.allows (x : Region) (addr len : Nat) (perm : Region → Bool) : Bool :=
  perm x && decide (x.base ≤ addr) && decide (addr + len ≤ x.limit)

/-- Program mode is allowed the access. -/
def State.permitted (s : State) (e addr len : Nat) (perm : Region → Bool) : Bool :=
  !(s.eng e).program || (s.eng e).prot.any (fun x => x.allows addr len perm)

/-- The paddock region holds a range of DRAM (R335). -/
def State.inRegion (s : State) (addr len : Nat) : Bool :=
  decide (s.paddockBase ≤ addr) && decide (addr + len ≤ s.paddockBase + s.paddockSize * 1048576)

/-- A range of DRAM that engine e may reach. -/
def State.dramLoc (s : State) (e addr len : Nat) : Option Loc :=
  if addr + len ≤ s.dramBytes && (!s.inPaddock e || s.inRegion addr len) then some (.dram addr) else none

/-- The place of a range in the map of engine e, if an access to it is allowed (R334, R335). -/
def State.locate (s : State) (e addr len : Nat) (perm : Region → Bool) : Option Loc :=
  let g := s.eng e
  let dmem := if isSc e then 524288 else 65536
  if !s.permitted e addr len perm then none
  else if 0x100000 ≤ addr && addr + len ≤ 0x100000 + dmem then some (.dmem (addr - 0x100000))
  else if isSc e then
    if 0x100000000 ≤ addr then s.dramLoc e (addr - 0x100000000) len
    else if g.program then none
    else if 0x1000000 ≤ addr && addr + len ≤ 0x1800000 then some (.sram (addr - 0x1000000))
    else if 0x2000000 ≤ addr && addr + len ≤ 0x2008000 then some (.window (addr - 0x2000000))
    else if 0x3000000 ≤ addr && addr + len ≤ 0x3100000 then some .device
    else none
  else if 0x40000000 ≤ addr && addr + len ≤ 0x80000000 then s.dramLoc e (g.dwin + (addr - 0x40000000)) len
  else if g.program then none
  else if 0x1000000 ≤ addr && addr + len ≤ 0x1800000 then some (.sram (addr - 0x1000000))
  else if 0x2000000 ≤ addr && addr + len ≤ 0x2008000 then some (.window (addr - 0x2000000))
  else if 0x3000000 ≤ addr && addr + len ≤ 0x3100000 then some .device
  else none

/-- A load or store is aligned to its width and may be made (R336). -/
def State.reach (s : State) (e addr len : Nat) (perm : Region → Bool) : Option Loc :=
  if addr % len = 0 then s.locate e addr len perm else none

/-- Bytes read at a place. -/
def State.readLoc (s : State) (e : Nat) (l : Loc) (n : Nat) : List Byte :=
  match l with
  | .dmem o => memRead (s.eng e).dmem o n
  | .sram o => memRead s.engs.sram o n
  | .window o => memRead (s.eng e).windows o n
  | .device => []
  | .dram a => memRead s.engs.dram a n

/-- Bytes written at a place. -/
def State.writeLoc (s : State) (e : Nat) (l : Loc) (b : List Byte) : State :=
  match l with
  | .dmem o => s.onEng e (fun g => { g with dmem := memWrite g.dmem o b })
  | .sram o => { s with engs := { s.engs with sram := memWrite s.engs.sram o b } }
  | .window o => s.onEng e (fun g => { g with windows := memWrite g.windows o b })
  | .device => s
  | .dram a => { s with engs := { s.engs with dram := memWrite s.engs.dram a b } }

/-- The event that an access counts (R368). -/
def accessEvent (l : Loc) (write : Bool) : List (Nat × Nat) :=
  match l with
  | .dmem _ => [(8, 1)]
  | .sram _ => [(0x0C, 1)]
  | .window _ => []
  | .device => []
  | .dram _ => [(if write then 0x0A else 9, 1)]

/-! ## The frame of an instruction -/

/-- The program counter lies in IMEM, where program mode needs the execute permission (R334, R335). -/
def State.pcOk (s : State) (e : Nat) : Bool :=
  let pc := (s.eng e).pc
  decide (pc + 4 ≤ (if isSc e then 262144 else 65536)) && s.permitted e pc 4 (·.x)

/-- An engine holds its state: its work class is withheld (R349) or its clock is gated (R27). -/
def State.engHeld (s : State) (e : Nat) : Bool := s.engGated e || !s.engClock

/-- An engine executes instructions: it runs Gelusk firmware or a tack program, and nothing stalls, halts or holds it. -/
def State.engRuns (s : State) (e : Nat) : Bool :=
  let g := s.eng e
  decide (e < 36) && !g.halted && g.stall == .none && !s.engHeld e &&
    (g.status == .firmware || (g.status == .paddock && (match tackIndex e with | some j => (s.tackOf j).state == 3 | none => false)))

/-- An instruction of engine e traps (R342). -/
def State.trapIns (s : State) (e word cause : Nat) : State := (s.retire e word [] true).trap e cause

/-- An instruction retires with events, and the next one is at `pc`. -/
def State.done (s : State) (e word : Nat) (evs : List (Nat × Nat)) (pc : Nat) : State :=
  (s.retire e word evs false).onEng e (fun g => { g with pc := pc % 2 ^ engWidth e })

/-- An instruction retires and the next one follows it. -/
def State.advance (s : State) (e word : Nat) (evs : List (Nat × Nat)) : State := s.done e word evs ((s.eng e).pc + 4)

/-- An instruction of engine e: nothing happens while the engine does not run; a program counter outside executable memory
traps ACCESS. -/
def opIns (e word : Nat) (f : State → State) (s : State) : State :=
  if !s.engRuns e then s else if !s.pcOk e then s.trapIns e word 2 else f s

/-- An instruction of a servo core: a time engine traps ILLEGAL (R338). -/
def opInsSc (e word : Nat) (f : State → State) (s : State) : State :=
  opIns e word (fun s => if isSc e then f s else s.trapIns e word 1) s

/-- An instruction of monitor mode: program mode traps PRIV (R341, R342). -/
def opInsMon (e word : Nat) (f : State → State) (s : State) : State :=
  opIns e word (fun s => if (s.eng e).program then s.trapIns e word 3 else f s) s

end Sys2Proof.Machine
end

