-- ==== Sys2Proof/Machine/Jobs.lean ====
section
/-!
DEFINITION. Crypto jobs as the vault judges and carries them out: algorithms, uses, descriptors, blobs and the effects of a
completed job (R341, R379, R380, R382–R385, R393).
-/
set_option Elab.async false
namespace Sys2Proof.Machine

/-! ## Algorithms (R380) -/

/-- Key length of an ALG in bytes; 0 for a reserved code. -/
def algLen (alg : Nat) : Nat :=
  match alg with
  | 1 => 16
  | 2 => 32
  | 3 => 32
  | 4 => 32
  | 5 => 32
  | 6 => 48
  | 7 => 48
  | 8 => 97
  | 9 => 65
  | _ => 0

/-- An ALG accepts a USE. -/
def algUse (alg use : Nat) : Bool :=
  if 1 ≤ alg && alg ≤ 4 then use == 1 || use == 2
  else if alg = 5 then use == 3
  else if alg = 6 then use == 4
  else if alg = 7 then use == 1
  else if alg = 8 || alg = 9 then use == 2
  else false

/-- An ALG offers an operation. -/
def algOffers (alg op : Nat) : Bool :=
  match op with
  | 1 => [1, 2, 4].contains alg
  | 2 => [1, 2, 4].contains alg
  | 3 => [1, 2, 3].contains alg
  | 4 => [1, 2, 3].contains alg
  | 5 => alg == 7
  | 6 => alg == 8 || alg == 9
  | 8 => alg == 5
  | 9 => alg == 5
  | 10 => alg == 6
  | _ => false

/-- The USE that an operation needs (R341). -/
def opUse (op : Nat) : Nat :=
  if op = 1 || op = 3 || op = 5 then 1 else if op = 2 || op = 4 || op = 6 then 2 else if op = 8 || op = 9 then 3 else 4

/-! ## Blobs (R393) -/

/-- Header of a blob: bytes 0–15. -/
def blobHead (alg use role flags rootId klen slot kcv : Nat) : Nat :=
  lePack [(1, 1), (1, alg), (1, use), (1, role), (1, flags), (1, rootId), (2, klen), (2, slot), (2, 0), (4, kcv)]

/-- The blob of a slot's key wrapped under another; its nonce, ciphertext and tag are opaque. -/
def State.blobOf (s : State) (n : Nat) (kek rootId : Nat) : Nat :=
  let x := s.slot n
  let len := algLen x.alg
  blobHead x.alg x.use x.role x.flags rootId len n x.kcv + 2 ^ 128 * (Config.wrap kek x.key % 2 ^ (8 * (28 + len)))

/-! ## Judging a job (R382, R384) -/

/-- The second slot's conditions: `body` is the blob of an unwrap. -/
def State.secondOk (s : State) (op slot src srcLen dst body : Nat) : Bool :=
  let x := s.slot slot
  if op = 8 then
    let y := s.slot (src % 512)
    decide (src < 512) && srcLen == 0 && y.sstate == 2 && bit y.flags 0 && decide (64 ≤ src) && src != slot
  else if op = 9 then
    let y := s.slot (dst % 512)
    decide (dst < 512) && y.sstate == 1 && fld body 1 1 == y.alg && fld body 2 1 == y.use && fld body 3 1 == y.role && !bit y.flags 1
  else if op = 10 then
    let y := s.slot (dst % 512)
    decide (dst < 512) && decide (srcLen ≤ 1024) && y.sstate == 1 && y.role == x.role && !(7 ≤ y.alg && y.alg ≤ 9) && !bit y.flags 1
  else true

/-- The status a job is refused with, 0 when it is accepted (R382). -/
def State.jobVerdict (s : State) (op slot aad srcLen src dst body : Nat) : Nat :=
  if op = 0 || 11 ≤ op || !(decide (slot < 512) || (op == 7 && slot == 0xFFFF)) || decide (srcLen < aad) || decide (16384 < srcLen) then 4
  else if s.vault.latch || s.vault.lc == .retired then 2
  else if op = 7 then 0
  else
    let x := s.slot slot
    if x.sstate = 2 && x.use = opUse op && algOffers x.alg op && s.secondOk op slot src srcLen dst body then 0 else 2

/-- The bytes of a job's source, if its engine can reach them. -/
def State.jobBytes (s : State) (e src len : Nat) : Option (List Byte) :=
  match s.locate e src len (·.r) with
  | some l => if l == .device then none else some (s.readLoc e l len)
  | none => none

/-- A job is submitted with a tag (R341, R382, R385): the key it uses is taken now. -/
def State.submit (s : State) (e tag : Nat) (d : List Byte) : State :=
  let v := leNat d
  let op := fld v 0 1
  let slot := fld v 2 2
  let aad := fld v 4 4
  let len := fld v 8 4
  let src := fld v 16 8
  let dst := fld v 24 8
  let body := leNat ((s.jobBytes e src (min len 172)).getD [])
  let verdict := s.jobVerdict op slot aad len src dst body
  let other := if op = 8 then src % 512 else dst % 512
  let j : Job := { tag := tag, engine := e, op := op, slot := slot, other := other, src := src, srcLen := len, aadLen := aad, dst := dst, key := s.slot slot, verdict := verdict }
  { s with vault := { s.vault with jobs := s.vault.jobs ++ [j] } }

/-! ## Completion (R341, R384) -/

/-- Bytes that a job writes at DST (log entry 51). -/
def jobOutLen (j : Job) : Nat :=
  match j.op with
  | 1 => j.srcLen - j.aadLen + 16
  | 2 => j.srcLen - j.aadLen - 16
  | 3 => if j.key.alg = 3 then 32 else 16
  | 5 => 96
  | 7 => 48
  | _ => 0

/-- A target slot takes a key: LOADED, its EXPORT cleared unless the source has it (R384). -/
def State.loadSlot (s : State) (n key : Nat) (export_ : Bool) : State :=
  let y := s.slot n
  s.setSlot n { y with sstate := 2, key := key, kcv := Config.kcv key % 4294967296, flags := setBit y.flags 0 (bit y.flags 0 && export_) }

/-- A job's effect and its status (R341, R384): `ok` tells whether what it checks is authentic. -/
def State.finishJob (s : State) (j : Job) (ok : Bool) : State × Nat :=
  if j.verdict != 0 then (s, j.verdict)
  else if s.vault.latch then (s, 3)
  else if j.op = 8 then
    let len := 44 + algLen (s.slot j.other).alg
    match s.locate j.engine j.dst len (·.w) with
    | some l => (s.writeLoc j.engine l (leBytes len (s.blobOf j.other j.key.key 0)), 0)
    | none => (s, 4)
  else
    match s.jobBytes j.engine j.src j.srcLen with
    | none => (s, 4)
    | some b =>
      let input := leNat b
      if (j.op = 2 || j.op = 4 || j.op = 6 || j.op = 9) && !ok then (s, 1)
      else if j.op = 9 then
        (s.loadSlot j.other (Config.keyOf input) (bit (fld input 4 1) 0), 0)
      else if j.op = 10 then
        (s.loadSlot j.other (Config.keyOf (Config.cipher 10 j.key.key input)) (bit j.key.flags 0), 0)
      else
        let n := jobOutLen j
        if n = 0 then (s, 0)
        else match s.locate j.engine j.dst n (·.w) with
          | some l => (s.writeLoc j.engine l (leBytes n (Config.cipher j.op j.key.key input)), 0)
          | none => (s, 4)

/-- A stalled CWAIT on this tag returns the status (R341, R368). -/
def State.wakeCwait (s : State) (e tag status : Nat) : State :=
  match (s.eng e).stall with
  | .cwait d t =>
    if t = tag then
      let s := (s.onEng e (fun g => { g with stall := .none, pc := g.pc + 4 })).setReg e d status
      if status = 0 then s else s.pmcEvents e [(0x14, 1)]
    else { s with engs := { s.engs with done := s.engs.done ++ [(e, tag, status)] } }
  | .none => { s with engs := { s.engs with done := s.engs.done ++ [(e, tag, status)] } }
  | .twait _ => { s with engs := { s.engs with done := s.engs.done ++ [(e, tag, status)] } }
  | .qwait _ _ => { s with engs := { s.engs with done := s.engs.done ++ [(e, tag, status)] } }
  | .idle => { s with engs := { s.engs with done := s.engs.done ++ [(e, tag, status)] } }

/-- A job completes, unless an earlier one on its slot still runs (R385). -/
def opJobDone (tag : Nat) (ok : Bool) (s : State) : State :=
  match (if s.coreRuns then s.vault.jobs.find? (·.tag == tag) else none) with
  | none => s
  | some j =>
    if (s.vault.jobs.find? (·.slot == j.slot)) != some j then s
    else
      let (s, status) := s.finishJob j ok
      let s := { s with vault := { s.vault with jobs := s.vault.jobs.erase j } }
      let s := s.onEng j.engine (Eng.event 2)
      s.wakeCwait j.engine tag status

/-- Every accepted job is aborted by a tamper alarm (R397). -/
def State.abortJobs (s : State) : State :=
  s.vault.jobs.foldl (fun s j =>
    (({ s with vault := { s.vault with jobs := s.vault.jobs.erase j } } : State).wakeCwait j.engine j.tag 3)) s

end Sys2Proof.Machine
end

