-- ==== Sys2Proof/Machine/Tiu.lean ====
section
/-!
DEFINITION. Nominal rates (R72, R94, R155, R156, R231), the calibration table's lookup (R512–R514, R545), and the
time-interval unit: stamps, windows and regression (R93–R108).
-/
set_option Elab.async false
namespace Sys2Proof.Machine

/-! ## Calibration lookup (R512–R514) -/

/-- EID of a class and key (R512). -/
def eid (cls key : Nat) : Nat := cls * 16777216 + key

/-- Factory VALUE and UNC of an entry: those of classes 0x03, 0x04 and 0x08, which describe the board, are 0 (R545). -/
def factoryVal (e : Nat) : Int := if [3, 4, 8].contains (e / 16777216) then 0 else Config.factoryValue e
def factoryUncOf (e : Nat) : Nat := if [3, 4, 8].contains (e / 16777216) then 0 else Config.factoryUnc e

/-- VALUE of an entry in force, 2⁻¹⁶ ns (R512, R513). -/
def State.calVal (s : State) (e : Nat) : Int :=
  if s.cal.unusable then 0
  else match s.cal.entries.find? (·.eid == e) with
    | some x => x.value
    | none => factoryVal e

/-- UNC of an entry in force: a raise counts from its write (R513, R514). -/
def State.calUnc (s : State) (e : Nat) : Nat :=
  if s.cal.unusable then girthUnknown
  else
    let u := match s.cal.entries.find? (·.eid == e) with
      | some x => x.unc
      | none => factoryUncOf e
    max u ((s.cal.raises.lookup e).getD 0)

/-! ## Nominal rates -/

/-- Line clock of a quad's mode, µHz (R22, R231); 0 for a powered-down quad. -/
def quadClock (mode : Nat) : Nat :=
  match mode with
  | 1 => 125000000000000
  | 2 => 322265625000000
  | 3 => 402832031250000
  | 4 => 322265625000000
  | 5 => 402832031250000
  | _ => 0

/-- Nominal rate of a reference pin, µHz (R72). -/
def State.pinRate (s : State) (n : Nat) : Nat := if s.inBind n = 0 || s.inBind n = 4 then s.nominalHz n else 1000000

/-- Nominal rate f_nom of a TIU channel, µHz (R94). -/
def State.chanRate (s : State) (c : Nat) : Nat :=
  if c < 8 then s.pinRate c
  else if c < 12 then quadClock (s.quad (s.seLane c / 4)).mode
  else if c < 28 then s.outFreq (c - 12)
  else if c = 28 then s.gnEpochRate * 1000000
  else if c = 30 then s.synth.fosc
  else 1000000

/-- Prescaler N of a channel (R95, R196). -/
def State.chanN (s : State) (c : Nat) : Nat :=
  let f := (s.chan c).forcedN
  if c = 28 && s.gnEnable then 1
  else if f ≠ 0 then f
  else if s.chDiv c ≠ 0 then s.chDiv c
  else max 1 (cdiv (s.chanRate c) (s.tiuAutoRate * 1000000))

/-- The configured rate of a channel is at most 25,000,000 events/s (R95). -/
def State.chanOk (s : State) (c : Nat) : Bool := decide (s.chanRate c ≤ 25000000 * 1000000 * s.chanN c)

/-- The sum of the configured rates of the enabled channels that `p` names, as an exact fraction of µHz (R95). -/
def State.rateFrac (s : State) (p : Nat → Bool) : Nat × Nat :=
  ((List.range 32).filter (fun c => s.chEnable c && p c)).foldl
    (fun a c => (a.1 * s.chanN c + s.chanRate c * a.2, a.2 * s.chanN c)) (0, 1)

/-- TIU_RATE_SUM: configured rates of the enabled channels, rounded up (R95, R107; log entry 12). -/
def State.rateSum (s : State) : Nat :=
  let (a, b) := s.rateFrac (fun _ => true)
  cdiv a (1000000 * b)

/-- The second limit of R95 holds. -/
def State.sumOk (s : State) : Bool :=
  let (a, b) := s.rateFrac (fun _ => true)
  decide (a ≤ 200000000 * 1000000 * b)

/-- Both limits of R95 hold. -/
def State.ratesOk (s : State) : Bool := (List.range 32).all s.chanOk && s.sumOk

/-- The smallest N with which a channel meets both limits beside the others (R95). -/
def State.leastN (s : State) (c : Nat) : Nat :=
  let (a, b) := s.rateFrac (· != c)
  let n := cdiv (s.chanRate c) (25000000 * 1000000)
  max 1 (if s.chEnable c then max n (cdiv (s.chanRate c * b) (max 1 (200000000 * 1000000 * b - a))) else n)

/-- After a change of a nominal rate the part sets N of a channel that breaks a limit to the smallest value that meets
both, and an F0 event names it (R95). -/
def State.fixRate (s : State) (c : Nat) : State :=
  let s := s.onChan c (fun x => { x with forcedN := 0 })
  if s.chanOk c && (!s.chEnable c || s.sumOk) then s
  else (s.onChan c (fun x => { x with forcedN := s.leastN c })).raise 0x0301 c

/-! ## Stamps (R96–R100) -/

/-- A record's 16 bytes (R96). -/
def TiuRec.bytes (c : Nat) (r : TiuRec) : List Byte :=
  leBytes 16 (lePack [(6, r.stamp % 281474976710656), (1, r.status), (1, c + 32 * b2n r.gap + 64 * b2n r.glitch), (4, r.edge),
    (1, r.stamp / 281474976710656 % 256), (3, 0)])

/-- The engines take records: their clock runs and no system reset lasts (R37, R99). -/
def State.engsRun (s : State) : Bool := !s.start.inReset && s.engClock

/-- A record is delivered to the engines (R54, R99): its EDGE is extended to 64 bits, it joins the channel's windows, and a tap of
source 0x01 copies it. -/
def State.deliver (c : Nat) (s : State) (r : TiuRec) : State :=
  let r := if s.stale r.stamp then { r with status := setBit r.status 2 true } else r
  let e (x : Tiu) : Nat := (x.ext + (r.edge + 4294967296 - x.ext % 4294967296) % 4294967296) % 18446744073709551616
  let s := s.onChan c (fun x => { x with stamps := bump x.stamps, ext := e x, window := { r with edge := e x } :: x.window })
  s.tap 1 c true (r.bytes c)

/-- One arbiter slot of a channel: its oldest record, if it has one, goes to the engines (R99). -/
def State.arbOne (s : State) (c : Nat) : State :=
  match (s.chan c).fifo with
  | [] => s
  | r :: t => State.deliver c (s.onChan c (fun x => { x with fifo := t })) r

/-- The arbiter moves the records of all channels to the engines while they run, round-robin from channel 0 (R99; log entry 113). -/
def State.drain (s : State) : State :=
  if s.engsRun then
    (List.range (maxL (s.tiu.map (·.fifo.length)))).foldl (fun s _ => (List.range 32).foldl State.arbOne s) s
  else s

/-- The interpolator's result for an edge at long count `t`, in steps of 0.5 ps (R93; log entry 113). -/
def interp (t : Nat) : Nat := t * 2000 / 65536

/-- The stamp of an edge at long count `t`: the interpolator's result with the channel's linearity entry and, on a pin, its input
delay, rounded to 2⁻¹⁶ ns (R97, R512); on the coarse count the interpolators are bypassed (R57). -/
def State.edgeStamp (s : State) (c bin t : Nat) : Nat :=
  if (s.countAt t).coarse then s.edgeAt t
  else (rdiv (interp t * 65536) 2000 + s.calVal (eid 5 (c * 256 + bin)) - (if c < 8 then s.calVal (eid 6 c) else 0)).toNat

/-- A prescaled edge of a channel at `now` (R96–R100): counted, and stamped unless dead time, an overflow or a reset loses it; its tag
and its DEGRADED are those of the TB cycle in which it fell (R48, R49, R56). Edges that a system reset loses count as none of them, so
that the next record carries no GAP for them (R37, R96, R100; DESIGN CHOICE, log entry 148). -/
def State.tiuEdge (s : State) (now c bin : Nat) : State :=
  let ch := s.chan c
  let t := s.edgeStamp c bin (s.moment now)
  let dead := match ch.lastStamp with
    | some l => decide (t < l + 4 * nsUnits)
    | none => false
  let s := s.onChan c (fun x => { x with edge := bump x.edge })
  if dead then s.onChan c (fun x => { x with deadTime := bump x.deadTime, glitchDue := true })
  else
    let s := s.onChan c (fun x => { x with lastStamp := some t })
    if s.start.inReset then s
    else if ch.fifo.length < 64 then
      let r : TiuRec := ⟨t, s.stampStatus (s.moment now) false, ch.gapDue, ch.glitchDue, ch.edge⟩
      (s.onChan c (fun x => { x with fifo := x.fifo ++ [r], gapDue := false, glitchDue := false })).drain
    else s.onChan c (fun x => { x with overflow := bump x.overflow, gapDue := true })

/-! ## Regression (R101–R103) -/

/-- An estimate of R102: y_tb and sigma in 10⁻¹⁵, res in 2⁻¹⁶ ns; whether it is valid, and the flags of its window. -/
structure Estimate where
  valid : Bool
  y : Int
  sigma : Nat
  res : Nat
  glitch : Bool
  gap : Bool
  count : Nat

/-- The regression of R102 over a window, oldest record last; `fnom` in µHz. Double precision is taken as exact arithmetic
rounded once (log entry 12). -/
def regress (s : State) (c : Nat) (w : List TiuRec) : Estimate :=
  let w := w.reverse
  match w with
  | [] => ⟨false, 0, 0, 0, false, false, 0⟩
  | first :: _ =>
    let m := w.length
    let ns := w.map (fun r => (r.edge + 18446744073709551616 - first.edge) % 18446744073709551616)
    let ts := w.map (fun r => r.stamp - first.stamp)
    let sn := ns.sum
    let st := ts.sum
    let snn := m * (ns.map (fun n => n * n)).sum - sn * sn
    let stt := m * (ts.map (fun t => t * t)).sum - st * st
    let snt : Int := m * (List.zipWith (· * ·) ns ts).sum - sn * st
    let x := ((stt : Int) * snn - snt * snt).toNat
    let res := rootRatio x (m * m * snn)
    let num : Int := (s.chanN c : Int) * 1000000000 * 1000000 * 65536 * snn
    let den := snt.toNat * s.chanRate c
    let y := rdiv ((num - den) * 1000000000000000) den
    let sigma := rootRatio (x * 1000000000000000000000000000000) (m * snt.toNat * snt.toNat)
    let glitch := w.any (·.glitch)
    let span := ns.getLast?.getD 0 + 1
    let ok := decide (8 ≤ m) && !glitch && decide (span ≤ 2 * m) && decide (res < s.tiuResidLimit) && decide (0 < snt) &&
      decide (0 < s.chanRate c) && s.group 5 == 1
    ⟨ok, y, sigma, res, glitch, w.any (·.gap), m⟩

/-- The records of the 1 s window from one anchor to the next, extended back to 16 records and at most 64 s when it holds fewer
than 8, and where the window begins (R101). -/
def window1s (w : List TiuRec) (prev now : Nat) : List TiuRec × Nat :=
  let a := w.filter (fun r => decide (prev < r.stamp) && decide (r.stamp ≤ now))
  if 8 ≤ a.length then (a, prev)
  else
    let l := (w.filter (fun r => decide (now ≤ r.stamp + secs 64) && decide (r.stamp ≤ now))).take 16
    (l, match l.getLast? with
      | some r => min prev r.stamp
      | none => prev)

/-- The 1 s estimate of a channel at the anchor of long count `now` (R100–R103; log entry 114); records no later window needs are let
go. -/
def State.estimate1s (prev now : Nat) (s : State) (c : Nat) : State :=
  let (w, start) := window1s (s.chan c).window prev now
  let e := regress s c w
  let ok := e.valid && decide ((s.chan c).quiet ≤ start)
  let keep := (s.chan c).window.filter (fun r => decide (now ≤ r.stamp + secs 64) || decide ((s.chan c).gateStart < r.stamp))
  s.onChan c (fun x =>
    { x with freq := if ok then e.y else x.freq
             sigma := if e.count < 2 then x.sigma else e.sigma
             resid := if e.count < 2 then x.resid else e.res
             window := if 16 ≤ keep.length then keep else x.window.take 16
             estFrom := start
             estTo := now
             estStatus := ofBits [ok, bit x.estStatus 1, e.glitch, e.gap, e.count == 0] })

/-- Where the gate window of a channel ends, and the anchors latched by then, once it has ended (R101): below 1 s at the next whole
multiple of CH_GATE within the second, else at the anchor that completes it. -/
def State.gateEnd (s : State) (c : Nat) : Option (Nat × Nat) :=
  let x := s.chan c
  let g := s.chGate c
  if g < 1000 then
    let e := x.gateStart + (millis g - (((x.gateStart : Int) + s.tb.offset * 65536) % (millis g : Nat)).toNat)
    if e ≤ s.tb.lc then some (e, s.tb.nextAseq) else none
  else
    let k := (s.tb.nextAseq + 4294967296 - x.gateSeq) % 4294967296
    if g / 1000 ≤ k then
      some ((s.tb.ring.getD ((s.aseqNow + 16 - min 15 (k - g / 1000)) % 16) Anchor.init).at_, (x.gateSeq + g / 1000) % 4294967296)
    else none

/-- The gate estimate of a channel, once its window has ended (R101); the next window begins there, and a CH_GATE written since takes
effect with it (R108; log entry 114). -/
def opGateEstimate (c : Nat) (s : State) : State :=
  match s.gateEnd c with
  | none => s
  | some (stop, seq) =>
    let x := s.chan c
    let e := regress s c (x.window.filter (fun r => decide (x.gateStart < r.stamp) && decide (r.stamp ≤ stop)))
    let ok := e.valid && decide (x.quiet ≤ x.gateStart)
    (s.onChan c (fun x =>
      { x with freqGate := if ok then e.y else x.freqGate
               gateStart := stop
               gateSeq := seq
               estStatus := setBit x.estStatus 1 ok })).takeLate (· == (0x3900 + c) * 256 + 4)

/-- A write of CH_DIV, CH_EDGE or CH_ENABLE restarts EDGE at 0 and invalidates both windows (R108); the records still in the FIFO, what
they owed, and the last stamp go with them (log entry 119). A prescaler that the part has set stays (R95). -/
def opTiuReconfig (c : Nat) (s : State) : State :=
  s.onChan c (fun x =>
    { x with edge := 0, ext := 0, window := [], fifo := [], quiet := s.tb.lc, lastStamp := none, gapDue := false,
             glitchDue := false, estStatus := x.estStatus / 4 * 4 })

/-- y_tb of a channel over the window from long count `a` to `b`, which need not be its own (R104). -/
def State.estOver (s : State) (c a b : Nat) : Option Int :=
  let e := regress s c ((s.chan c).window.filter (fun r => decide (a < r.stamp) && decide (r.stamp ≤ b)))
  if e.valid && decide ((s.chan c).quiet ≤ a) then some e.y else none

/-- The valid 1 s estimate of a channel. -/
def State.chanEst (s : State) (c : Nat) : Option Int :=
  if bit (s.chan c).estStatus 0 then some (s.chan c).freq else none

/-! ## Meanings -/

/-- TIU_GATE_ESTIMATE (R101). -/
def execTiuGateEstimate (now c : Nat) (s : State) : Host.Outcome State Fault Refusal :=
  .next (opGateEstimate c (s.atTime now))

end Sys2Proof.Machine
end

