-- ==== Sys2Proof/Machine/Holdover.lean ====
section
/-!
DEFINITION. The holdover model, its history and its growth term (R128–R141).
-/
set_option Elab.async false
namespace Sys2Proof.Machine

/-- 10⁻¹⁵ as 2⁻⁵⁶ (R109). -/
def femtoToU (x : Int) : Int := rdiv (x * 72057594037927936) 1000000000000000

/-- 2⁻⁵⁶ as 10⁻¹⁵ (R109). -/
def uToFemto (u : Int) : Int := rdiv (u * 1000000000000000) 72057594037927936

/-- 10⁻¹⁸ as 2⁻⁵⁶. -/
def attoToU (x : Int) : Int := rdiv (x * 72057594037927936) 1000000000000000000

/-- DRAM is ready (R41, R507). -/
def State.dramReady (s : State) : Bool := s.start.dramStatus == 2

/-- The compensation temperature, 1/256 °C: that of the second just ended, and while it has a sensor fault the last value free
of it (R128). -/
def State.compTemp (s : State) : Int := s.ho.lastTemp

/-- The compensation temperature of the second just ended is taken (R128, R130). -/
def State.takeTemp (s : State) : State :=
  { s with ho := { s.ho with
      lastTemp := if s.ho.tempCount = 0 then s.ho.lastTemp else rdiv (s.ho.tempSum * 256) (1000 * s.ho.tempCount)
      tempSum := 0
      tempCount := 0 } }

/-! ## The averaging window (R128, R133, R135, R136) -/

/-- What a window yields: u_0 and its standard error in 10⁻¹⁸, the mean time in 1/256 s, the mean temperature, the count. -/
structure WinFit where
  count : Nat
  u0 : Int
  su0 : Nat
  tm : Int
  tw : Int

/-- Anchors from an entry to the newest anchor (R51: ASEQ wraps). -/
def State.ageOf (s : State) (aseq : Nat) : Nat := (s.aseqNow + 4294967296 - aseq) % 4294967296

/-- A learnable entry (R132). -/
def HistEntry.learnable (e : HistEntry) : Bool := bit e.flags 1

/-- The means of R128 over entries, each timed at the middle of its second, and the standard error of u_0 (R133). -/
def State.fitEntries (s : State) (l : List HistEntry) : WinFit :=
  let n := l.length
  if n = 0 then ⟨0, 0, 0, 0, 0⟩
  else
    let su := (l.map (·.uMean)).sum
    let suu := (l.map (fun e => e.uMean * e.uMean)).sum
    let st := (l.map (fun e => -((2 * s.ageOf e.aseq + 1 : Nat) : Int))).sum + 2 * s.aseqNow * n
    let sT := (l.map (·.temp)).sum
    let var := (n * suu - su * su).toNat
    { count := n, u0 := rdiv (su * 1000) n, su0 := if n < 2 then 0 else rootRatio (var * 1000000) (n * n * (n - 1)),
      tm := rdiv (st * 128) n, tw := rdiv sT n }

/-- The learnable entries of the sliding window at the current anchor (R128). -/
def State.slideWindow (s : State) : List HistEntry :=
  s.ho.ring.filter (fun e => e.learnable && decide (s.hoGuard ≤ s.ageOf e.aseq) &&
    decide (s.ageOf e.aseq < s.hoGuard + s.hoWindow))

/-- The window moved back at entry to holdover: the latest learnable entries at least HO_GUARD old, at most HO_WINDOW of
them (R136). -/
def State.searchWindow (s : State) : List HistEntry :=
  (s.ho.ring.filter (fun e => e.learnable && decide (s.hoGuard ≤ s.ageOf e.aseq))).take s.hoWindow

/-- The one-minute sums aligned to whole minutes, each weighted by its count, when DRAM is unavailable (R41): the minute that still
fills is left out, HO_GUARD is rounded up to whole minutes and HO_WINDOW down, to one at least (DESIGN CHOICE, log entry 149). The sums
hold no squares, so s_u0 is the spread of the minutes' means, each weighted by its count, over n (n − 1) seconds (DESIGN CHOICE, log
entry 150). -/
def State.fitMinutes (s : State) : WinFit :=
  let full := if s.ho.minuteFill = 0 then s.ho.minutes else s.ho.minutes.drop 1
  let l := ((full.drop (cdiv s.hoGuard 60)).take (max 1 (s.hoWindow / 60)))
  let n := (l.map (·.count)).sum
  if n = 0 then ⟨0, 0, 0, 0, 0⟩
  else
    let su := (l.map (·.sumU)).sum
    let u0 := rdiv (su * 1000) n
    let first := s.ho.minuteFill + 60 * cdiv s.hoGuard 60 + 30
    let st := (List.zipWith (fun (m : MinuteSum) (i : Nat) => -((m.count * (first + 60 * i) : Nat) : Int)) l
      (List.range l.length)).sum + s.aseqNow * n
    let ss := (l.map (fun m => if m.count = 0 then 0 else
      (m.sumU * 1000 - u0 * m.count) * (m.sumU * 1000 - u0 * m.count) / m.count)).sum.toNat
    { count := n, u0 := u0, su0 := if n < 2 then 0 else rootRatio ss (n * (n - 1)), tm := rdiv (st * 256) n,
      tw := rdiv ((l.map (·.sumT)).sum) n }

/-! ## Learning (R133, R134) -/

/-- The terms in use for HO_LEARN: a, s_a, k_T, s_kT (R134). -/
def State.termsInUse (s : State) : Int × Nat × Int × Nat :=
  let cfgSk := (rdiv s.hoTempcoCfg.natAbs 10).toNat
  let (a, sa, k, sk) := s.ho.learned.getD (0, s.hoAgeingPrior, 0, 0)
  match s.hoLearn with
  | 0 => (a, sa, k, sk)
  | 1 => (a, sa, s.hoTempcoCfg, cfgSk)
  | _ => (s.hoAgeingCfg, s.hoAgeingPrior, s.hoTempcoCfg, cfgSk)

/-- The terms of R134 taken into use outside holdover. -/
def State.useTerms (s : State) : State :=
  let (a, sa, k, sk) := s.termsInUse
  if s.ho.frozen then s else { s with ho := { s.ho with a := a, sa := sa, kT := k, skT := sk } }

/-- The least-squares fit of U_MEAN on time and temperature (R133): a, s_a, k_T, s_kT. With too small a temperature spread
k_T keeps its previous value. -/
def State.fitTerms (s : State) (l : List HistEntry) : Int × Nat × Int × Nat :=
  let n : Int := l.length
  let t := l.map (fun e => -((s.ageOf e.aseq : Nat) : Int))
  let c := l.map (·.temp)
  let k0 := s.ho.learned.getD (0, s.hoAgeingPrior, 0, 0)
  let dot (a b : List Int) : Int := n * (List.zipWith (· * ·) a b).sum - a.sum * b.sum
  let spread := (c.foldl max (c.headD 0) - c.foldl min (c.headD 0)).toNat
  let att := dot t t
  if s.hoTempSpreadMin * 256 ≤ spread * 1000 && s.hoLearn = 0 then
    let u := l.map (·.uMean)
    let aTT := dot c c
    let atT := dot t c
    let aut := dot u t
    let auT := dot u c
    let det := att * aTT - atT * atT
    if det ≤ 0 then k0
    else
      let pa := aut * aTT - auT * atT
      let pk := auT * att - aut * atT
      let ss := (dot u u * det - pa * aut - pk * auT).toNat / det.toNat
      (rdiv (pa * 1000) det.toNat, rootRatio (ss * aTT.toNat * 1000000) ((l.length - 3) * det.toNat),
        rdiv (pk * 256) det.toNat, rootRatio (ss * att.toNat * 65536) ((l.length - 3) * det.toNat))
  else
    let k := if s.hoLearn = 0 then k0.2.2.1 else s.hoTempcoCfg
    let u := l.map (fun e => e.uMean * 256 - k * e.temp)
    let aut := dot u t
    if att ≤ 0 then k0
    else
      let ss := (dot u u * att - aut * aut).toNat / att.toNat
      (rdiv (aut * 1000) (att.toNat * 256), rootRatio (ss * 1000000) ((l.length - 2) * att.toNat * 65536), k0.2.2.1, k0.2.2.2)

/-- HO_LEARN_FIT (R133), while the servo cores run, once every 3,600 anchors from the first rise of WARM_FLAG: with at least 21,600 learnable entries of the last HO_LEARN_SPAN seconds the terms are fitted; a
fit during holdover waits (R135). Learning stops while DRAM is unavailable (R41). -/
def opLearnFit (s : State) : State :=
  let l := s.ho.ring.filter (fun e => e.learnable && decide (s.ageOf e.aseq < s.hoLearnSpan))
  let due := match s.ho.anchorsWarm with
    | some k => 0 < k && k % 3600 == 0
    | none => false
  if due && s.engsRun && s.dramReady && decide (21600 ≤ l.length) then
    ({ s with ho := { s.ho with learned := some (s.fitTerms l) } } : State).useTerms
  else s

/-! ## u_h and the model (R128, R135, R136) -/

/-- u_h at this moment, 2⁻⁵⁶ (R128): the model's terms at the newest anchor's number. -/
def State.predict (s : State) : Int :=
  let age := (s.aseqNow : Int) * 256 - s.ho.tm
  attoToU (s.ho.u0 + rdiv (s.ho.a * age) 256 + rdiv (s.ho.kT * 1000 * (s.compTemp - s.ho.tw)) 256)

/-- A window taken into the model. -/
def Holdover.take (w : WinFit) (h : Holdover) : Holdover :=
  { h with u0 := w.u0, su0 := w.su0, tm := w.tm, tw := w.tw, hasWin := true, winCount := w.count }

/-- ΔT_max since the freeze in force, and whether its seconds have seen a sensor fault: in the second just closed, wherever it began
and ended (R137). -/
def State.tempSecond (s : State) : State :=
  if s.girth.freeze == .none then s
  else { s with ho := { s.ho with
      dTmax := max s.ho.dTmax (s.ho.lastTemp - s.ho.tw).natAbs
      faultSeen := s.ho.faultSeen || s.ho.faultGap || s.compFault } }

/-- Writes of HO_WINDOW, HO_GUARD and HO_LEARN take effect (R135). -/
def State.takeHo (s : State) : State := s.takeLate (fun k => 0x442001 ≤ k && k ≤ 0x442003)

/-- u_h is computed again (R128); before the averaging window has ever held an entry it is 0 (log entry 120). -/
def State.setUh (s : State) : State := { s with ho := { s.ho with uh := if s.ho.hasWin then s.predict else 0 } }

/-- The learned terms are fitted again at the first anchor after the engines' return, where R133 allows a fit (R542; log entry 98). -/
def State.refit (s : State) : State :=
  let l := s.ho.ring.filter (fun e => e.learnable && decide (s.ageOf e.aseq < s.hoLearnSpan))
  if s.ho.refitDue then
    let s := { s with ho := { s.ho with refitDue := false } }
    if s.dramReady && decide (21600 ≤ l.length) then
      let s := { s with ho := { s.ho with learned := some (s.fitTerms l) } }
      let (a, sa, k, sk) := s.termsInUse
      if s.ho.invalid then s else { s with ho := { s.ho with a := a, sa := sa, kT := k, skT := sk } }
    else s
  else s

/-- HO_VALID (R135): WARM_FLAG is 1 and the averaging window holds at least HO_WINDOW / 2 learnable entries. -/
def State.hoValid (s : State) : Bool := s.oven.warm && decide (s.hoWindow ≤ 2 * s.ho.winCount)

/-- The model has been valid (R78). -/
def State.noteValid (s : State) : State := { s with ho := { s.ho with everValid := s.ho.everValid || s.hoValid } }

/-- The model at an anchor (R128, R135): outside holdover the window slides and the terms are those of R134; u_h is computed again. When
a window that has held entries empties, u_0, t_m and T_w keep their last values, since R128 gives the mean over no entries no value
(DESIGN CHOICE, log entry 154). -/
def State.modelAnchor (s : State) : State :=
  let s := s.takeHo.refit
  let s := if s.ho.frozen then s
    else
      let s := s.useTerms
      let w := if s.dramReady then s.fitEntries s.slideWindow else s.fitMinutes
      { s with ho := if w.count = 0 then { s.ho with winCount := 0 } else s.ho.take w }
  s.noteValid.setUh

/-- The model freezes at entry to holdover (R136, R41): the window, or the window moved back, or the invalid model. -/
def State.freezeModel (s : State) : State :=
  let s := s.useTerms
  let w := if s.dramReady then
      let a := s.slideWindow
      let a := if s.hoWindow ≤ 2 * a.length then a else s.searchWindow
      s.fitEntries a
    else s.fitMinutes
  let h := { s.ho with frozen := true, entry := s.tb.lc, phiDu := 0, classF := none }
  if s.hoWindow ≤ 2 * w.count then ({ s with ho := { h.take w with invalid := false } } : State).setUh
  else
    ({ s with ho := { h with invalid := true, u0 := rdiv (s.uNow * 1000000000000000000) 72057594037927936, su0 := 0, hasWin := true,
                             winCount := w.count, tm := (s.aseqNow : Int) * 256, tw := s.compTemp, a := 0, kT := 0 } } : State).setUh

/-! ## Growth (R137, R138) -/

/-- The linear coefficient of H in 10⁻¹⁸ / 256 (R136, R137). -/
def State.linCoef (s : State) : Nat :=
  256 * (if s.ho.invalid then s.hoColdFreq * 1000 else 3 * s.ho.su0 + s.hoFreqFloor * 1000) +
    (if s.ho.faultSeen then 256 * s.hoColdFreq * 1000 else 3 * s.ho.skT * 1000 * s.ho.dTmax)

/-- The quadratic coefficient of H before its half, 10⁻¹⁸ per s (R137). -/
def State.quadCoef (s : State) : Nat := 3 * s.ho.sa + s.hoAgeingFloor

/-- H(t) of R137 in 1/16 ns for a time in 2⁻¹⁶ ns, exact and rounded up once (R210). -/
def State.growthAt (s : State) (t : Nat) : Nat :=
  let den := 1000000000 * 512 * secUnits * secUnits
  let num := 16 * (2 * s.linCoef * t * secUnits + 256 * s.quadCoef * t * t)
  let pden := 2 * max 1 s.ho.phiL * 5192296858534827628530496329220096
  let pnum := 16000000000 * s.ho.phiDu * s.ho.phiDu * 1000000000000000
  min girthUnknown (cdiv (num * pden + pnum * den) (den * pden))

/-- H at long count `t` (R137, R138, R214): the growth since the freeze in force, or that of a selected class F reference
with the mean CH_FREQ_SIGMA of its last 60 estimates, with what is carried. -/
def State.hAt (s : State) (t : Nat) : Nat :=
  match s.ho.classF with
  | some t0 =>
    let k := max 1 s.ho.sigmaF.length
    gsum [s.ho.carry, cdiv (16 * (3 * s.ho.sigmaF.sum + s.hoFreqFloor * k) * (t - t0)) (1000000 * k * secUnits)]
  | none => if s.girth.freeze == .none then 0 else gsum [s.ho.carry, s.growthAt (t - s.girth.freezeT)]

/-- H now. -/
def State.hNow (s : State) : Nat := s.hAt s.tb.lc

/-- The terms B, M, S and A freeze (R214); a freeze that runs already keeps its moment, but holdover after a class F reference begins
R137 anew (R138). -/
def State.freezeGirth (s : State) (k : Freeze) : State :=
  let s := if s.girth.freeze == .none || (k == .holdover && s.girth.freeze == .classF) then
      { s with ho := { s.ho with dTmax := (s.ho.lastTemp - s.ho.tw).natAbs, faultSeen := s.compFault } }
    else s
  { s with girth := { s.girth with
      freeze := if s.girth.freeze == .none || k == .holdover || k == .classF then k else s.girth.freeze
      freezeT := if s.girth.freeze == .none then s.tb.lc else s.girth.freezeT } }

/-- The freeze ends (R214). -/
def State.thawGirth (s : State) : State := { s with girth := { s.girth with freeze := .none } }

/-- A class F reference takes over the frequency (R138): H so far is carried, and its growth counts from now, with the CH_FREQ_SIGMA of
its last 60 estimates. -/
def State.classFStart (s : State) (sigmas : List Nat) : State :=
  { s with ho := { s.ho with carry := s.hNow, classF := some s.tb.lc, frozen := false, invalid := false, sigmaF := sigmas } }

/-- Holdover's growth ends with a class T reference (R141). -/
def State.holdoverEnd (s : State) : State :=
  { s with ho := { s.ho with frozen := false, invalid := false, classF := none, carry := 0, growth := 0, phiDu := 0 } }

/-! ## History (R130–R132, R41) -/

/-- The 16 bytes of an entry of the history ring (R130). -/
def HistEntry.bytes (e : HistEntry) : List Byte :=
  leBytes 16 (lePack [(8, unsigned 8 e.uMean), (2, unsigned 2 e.temp), (1, e.flags), (1, 0), (4, e.aseq)])

/-- `n` entries of the ring from place `p` zeroed. -/
def ringClear (m : List Host.Cell) (p n : Nat) : List Host.Cell :=
  memWipe (memWipe m (16 * p) (16 * min n (86400 - p))) 0 (16 * (p + n - 86400))

/-- An entry put into the history ring, the k-th at place k mod 86,400 (log entry 121); the seconds missed since the entry before
carry WRITTEN 0 (R130, R131). -/
def State.pushRing (s : State) (e : HistEntry) : State :=
  let gap := match s.ho.ring.head? with
    | some x => min 86400 (((e.aseq + 4294967296 - x.aseq) % 4294967296) - 1)
    | none => 0
  let dram := ringClear s.engs.dram (s.ho.ringPut % 86400) gap
  { s with ho := { s.ho with
             ring := (e :: (List.replicate gap ⟨0, 0, 0, 0⟩ ++ s.ho.ring)).take 86400
             ringPut := s.ho.ringPut + gap + 1 }
           engs := { s.engs with dram := memWrite dram (16 * ((s.ho.ringPut + gap) % 86400)) e.bytes } }

/-- The second that the anchor `aseq` closes, with its mean of u, none while the servo does not run: it enters the history ring, while
DRAM is available, and the one-minute sums (R130–R132, R41). An entry is learnable when no condition of R132 has failed within the
second. -/
def State.history (s : State) (aseq : Nat) (uMean : Option Int) : State :=
  let learn := !(s.ho.learnGap || s.ho.coarseGap || s.ho.faultGap)
  let one : MinuteSum := match uMean with
    | some u => if learn then ⟨u, s.compTemp, 1⟩ else ⟨0, 0, 0⟩
    | none => ⟨0, 0, 0⟩
  let add (m : MinuteSum) : MinuteSum := ⟨m.sumU + one.sumU, m.sumT + one.sumT, m.count + one.count⟩
  let minutes := if s.ho.minuteFill = 0 then (one :: s.ho.minutes).take 1440
    else match s.ho.minutes with
      | [] => [one]
      | m :: t => add m :: t
  let s := match uMean with
    | some u =>
      if s.dramReady then s.pushRing ⟨u, s.compTemp, ofBits [true, learn, s.ho.coarseGap, s.ho.faultGap], aseq⟩ else s
    | none => s
  { s with ho := { s.ho with
      minutes := minutes
      minuteFill := (s.ho.minuteFill + 1) % 60
      learnGap := false, coarseGap := false, faultGap := false } }

/-! ## Meanings -/

/-- HO_LEARN_FIT (R133). -/
def execHoLearnFit (s : State) : Host.Outcome State Fault Refusal := .next (opLearnFit s)

end Sys2Proof.Machine
end

