-- ==== Sys2Proof/Machine/Servo.lean ====
section
/-!
DEFINITION. References as the servo sees them, the PI filter, the servo's states and the changeover (R69–R72, R109–R127).
-/
set_option Elab.async false
namespace Sys2Proof.Machine

/-- SC0 runs: the engines do, and SC0 is not in reset (R37, R120). -/
def State.sc0Runs (s : State) : Bool := s.engsRun && (s.eng 32).status != .inReset

/-! ## What a reference is (R69, R72, R94) -/

/-- A class F reference (R69, R72). -/
def State.classF (s : State) (n : Nat) : Bool := if n < 8 then s.inBind n = 0 || s.inBind n = 4 else n < 12

/-- A pin bound 0x04 is never selected on its own (R72). -/
def State.isHalf (s : State) (n : Nat) : Bool := n < 8 && s.inBind n = 4

/-- The frequency half whose partner is PPS pin n (R72). -/
def State.freqHalf (s : State) (n : Nat) : Option Nat := (List.range 8).find? (fun k => s.inBind k = 4 && s.inPair k = n)

/-- The TIU channel whose 1 s estimate serves a reference; none for PT0–PT3 (R69, R94). -/
def State.refChan (s : State) (n : Nat) : Option Nat :=
  if n < 8 then some ((s.freqHalf n).getD n) else if n < 12 then some n else if n = 16 then some 0x1C else none

/-- The least-squares slope of points (x, y), as numerator and denominator. -/
def lsSlope (l : List (Int × Int)) : Int × Int :=
  let n : Int := l.length
  let sx := (l.map (·.1)).sum
  let sy := (l.map (·.2)).sum
  (n * (l.map (fun p => p.1 * p.2)).sum - sx * sy, n * (l.map (fun p => p.1 * p.1)).sum - sx * sx)

/-- The phases of PTk over the last 1 s window, extended back to 16 and at most 64 s when it holds fewer than 8, as R101 forms a
channel's window (log entry 115). -/
def State.phaseWindow (s : State) (n : Nat) : List (Nat × Int) :=
  let now := s.lastAnchor
  let l := (s.ref n).phases.filter (fun p => decide (p.1 ≤ now))
  let a := l.filter (fun p => decide (now < p.1 + secUnits))
  if 8 ≤ a.length then a else (l.filter (fun p => decide (now ≤ p.1 + secs 64))).take 16

/-- The frequency of PTk against the time base in 10⁻¹⁵: the slope of its phases over a window of at least 8 (R69, R78, R104; log
entry 115). -/
def phaseFreq (l : List (Nat × Int)) : Option Int :=
  match l with
  | [] => none
  | p0 :: _ =>
    let (a, b) := lsSlope (l.map (fun p => (-((p0.1 - p.1 : Nat) : Int), p.2)))
    if 8 ≤ l.length && decide (0 < b) then some (rdiv (a * 1000000000000000) b.toNat) else none

/-- y_tb of a reference over its last window, when it is valid (R103, R104). -/
def State.refFreq (s : State) (n : Nat) : Option Int :=
  match s.refChan n with
  | some c => s.chanEst c
  | none => phaseFreq (s.phaseWindow n)

/-- Start and end of the window of that estimate. -/
def State.refSpan (s : State) (n : Nat) : Nat × Nat :=
  match s.refChan n with
  | some c => ((s.chan c).estFrom, (s.chan c).estTo)
  | none =>
    match (s.phaseWindow n).getLast? with
    | some p => (min p.1 (s.lastAnchor - secUnits), s.lastAnchor)
    | none => (s.lastAnchor, s.lastAnchor)

/-- The share of one second between anchors in a window: Σ (u − u_h) × time, or Σ u × time against the oscillator's nominal frequency,
and the time (R104, R115; log entry 116). -/
def SteerSec.share (nominal : Bool) (a b : Nat) (x : SteerSec) : Int × Nat :=
  let d := x.stop - x.start
  let o := min b x.stop - max a x.start
  if d = 0 then (0, 0) else ((x.area - (if nominal then 0 else x.uh * d)) * o / d, o)

/-- The mean steering of the time base over a window, 10⁻¹⁵ (R104, R115). -/
def State.steerMean (s : State) (nominal : Bool) (a b : Nat) : Int :=
  let l := s.servo.seconds.map (SteerSec.share nominal a b)
  let t := (l.map (·.2)).sum
  if t = 0 then 0 else uToFemto (rdiv (l.map (·.1)).sum t)

/-- The offset from the holdover model's predicted frequency, 10⁻¹⁵ (R104): y_tb and y_steer over the same window. -/
def State.refModel (s : State) (n : Nat) : Option Int :=
  (s.refFreq n).map (fun y => y + s.steerMean false (s.refSpan n).1 (s.refSpan n).2)

/-- The offset that qualification judges, 10⁻¹⁵ (R78): until the holdover model is first valid, against the oscillator's nominal
frequency. -/
def State.refOffset (s : State) (n : Nat) : Option Int :=
  (s.refFreq n).map (fun y => y + s.steerMean (!s.ho.everValid) (s.refSpan n).1 (s.refSpan n).2)

/-! ## The filter (R112, R113) -/

/-- π in 10⁻¹⁸. -/
def piAtto : Int := 3141592653589793238

/-- Configured bandwidth of a servo state, mHz (R116). -/
def State.bandwidth (s : State) (x : SState) : Nat :=
  match x with
  | .acquire => s.servoBwAcq
  | .track => s.servoBwTrack
  | .align => s.servoBwTrack
  | .phaseOnly => s.servoBwSuspect
  | .freq => s.servoBwFreq
  | .buildOut => 0
  | .holdover => 0
  | .free => 0

/-- The interval that gives the processed measurement rate (R113): since the last processed measurement, or else since the reference's
last measurement, or else its nominal period (log entry 116). -/
def State.rateDt (s : State) (t : Nat) : Nat :=
  match s.servo.lastT with
  | some l => t - l
  | none =>
    match (s.ref s.sel.current).phases.find? (fun p => decide (p.1 < t)) with
    | some p => t - p.1
    | none => if s.sel.current = 16 then secUnits / max 1 s.gnEpochRate else secUnits

/-- Effective bandwidth, mHz: never more than a tenth of the processed measurement rate (R113). -/
def State.effBw (s : State) (x : SState) (dt : Nat) : Nat := min (s.bandwidth x) (100 * secUnits / max 1 dt)

/-- A phase slope of ps/s as a fraction in 2⁻⁵⁶. -/
def slopeU (ps : Nat) : Int := (ps : Int) * 72057594037927936 / 1000000000000

/-- kp × e × 10⁻⁹ in 2⁻⁵⁶, before the clamp (R112): e in 2⁻¹⁶ ns, fn in mHz, ζ in 0.001. -/
def kpTerm (zeta fn : Nat) (e : Int) : Int :=
  rdiv (e * 72057594037927936 * 4 * piAtto * zeta * fn) (65536 * 1000000000 * 1000000000000000000 * 1000000)

/-- ki × e × 10⁻⁹ × Δt in 2⁻⁵⁶ (R112). -/
def kiTerm (fn : Nat) (e : Int) (dt : Nat) : Int :=
  rdiv (e * 72057594037927936 * 4 * piAtto * piAtto * fn * fn * dt)
    (65536 * 1000000000 * 1000000000000000000 * 1000000000000000000 * 1000000 * secUnits)

/-- The largest change of i in Δt, 2⁻⁵⁶ (R112). -/
def State.iStep (s : State) (dt : Nat) : Int :=
  (s.freqSlopeLimit : Int) * 72057594037927936 * dt / (1000000000000000 * secUnits)

/-- CONTROL_RANGE in 2⁻⁵⁶ (R109). -/
def State.range (s : State) : Int := (s.controlRange : Int) * 72057594037927936 / 1000000000000

/-- i moved toward a value, within FREQ_SLOPE_LIMIT and CONTROL_RANGE (R112). -/
def State.moveI (s : State) (goal : Int) (dt : Nat) : Int :=
  let d := s.iStep dt
  clampI (s.servo.i - d) (s.servo.i + d) (clampI (-s.range) s.range goal)

/-- The filter's u taken by the accumulator (R109, R112): within CONTROL_RANGE together with what a ramp still adds; a u that a lowered
CONTROL_RANGE has left outside, with or without the ramp's rest, comes back within FREQ_SLOPE_LIMIT (R127). The ramp goes on. -/
def State.aim (s : State) (u : Int) (dt : Nat) : State :=
  let s := s.accrue
  let rest := s.rampRest s.tb.lc
  let v := clampI (-s.range - min 0 rest) (s.range - max 0 rest) u
  let d := s.iStep dt
  let v := if s.range < s.accum.u.natAbs || s.range < (s.accum.u + rest).natAbs then clampI (s.accum.u - d) (s.accum.u + d) v else v
  { s with servo := { s.servo with u := v }, accum := { s.accum with u := v } }

/-- Writes of the servo's objects take effect (R127). -/
def State.takeServo (s : State) : State := s.takeLate (fun k => 0x401000 ≤ k && k < 0x401300)

/-! ## States (R116–R118) -/

/-- The state in which a selected reference is followed once its switch is complete (R116–R118). -/
def State.followState (s : State) (n : Nat) : SState :=
  if (s.ref n).state == .suspect then .phaseOnly
  else if s.classF n then .freq
  else if !s.servo.acquired then .acquire
  else if s.accum.slewing && s.servo.phiB != 0 then .align
  else .track

/-- A switch is in progress (R88). -/
def State.switchingNow (s : State) : Bool := s.sel.switching.isSome

/-- The servo state follows the selection (R116, R118): the integrator is frozen in PHASE_ONLY. A selected reference that is lost leaves
the state as it is until the next selector tick (R84). A standby that follows its peer does so as it would a class T reference (R456). -/
def State.settle (s : State) : State :=
  if s.pair.following && !s.switchingNow && !s.servo.suspended then
    { s with servo := { s.servo with
        state := if !s.servo.acquired then .acquire else if s.accum.slewing && s.servo.phiB != 0 then .align else .track
        frozen := false, started := true } }
  else if s.servo.suspended || s.switchingNow || s.sel.current == 0xFF || (s.ref s.sel.current).state == .absent then s
  else
    let x := s.followState s.sel.current
    { s with servo := { s.servo with state := x, frozen := x == .phaseOnly, started := true } }

/-- The loop is at its slope limit, or leaves it, at `t` (R125). -/
def State.slopeRun (s : State) (atLimit : Bool) (t : Nat) : State :=
  if atLimit then
    { s with servo := { s.servo with slopeSince := some (s.servo.slopeSince.getD t) } }
  else { s with servo := { s.servo with slopeSince := none } }.clearFault 0x0401

/-- A measurement counts toward the end of the coarse bound's floor: a class T reference is selected, and its edge fell after the RETURN
anchor (R61). -/
def State.countsReturn (s : State) (t : Nat) : Bool :=
  !s.classF s.sel.current && decide (s.sel.current < 17) && match s.tb.returnAt with
    | some a => decide (a < t)
    | none => false

/-- A processed measurement's e (R111, R126, R211): the last e, and its magnitude among those that S looks at. -/
def State.noteError (s : State) (e : Int) : State :=
  { s with servo := { s.servo with e := e, eHist := newest 1024 (e.natAbs :: s.servo.eHist) } }

/-- One processed measurement of error e at long count `t` (R112, R113, R116, R117). While the ramp of R121 moves u, the filter's value is
what u moves to (log entry 32). The first after a switch or a restart has no previous one that the filter took, so its Δt is 0 and it
moves p alone (R112; DESIGN CHOICE, log entry 152). -/
def State.processError (s : State) (e : Int) (t : Nat) : State :=
  let s := (s.takeServo.noteError e).accrue
  let dt := match s.servo.lastT with
    | some l => t - l
    | none => 0
  let fn := s.effBw s.servo.state (s.rateDt t)
  let ps := if s.servo.state == .acquire then s.acqSlopeLimit else s.phaseSlopeLimit
  let raw := kpTerm s.servoDamping fn e
  let p := clampI (-(slopeU ps)) (slopeU ps) raw
  let i := s.moveI (if s.servo.frozen then s.servo.i else s.servo.i + kiTerm fn e dt) dt
  let lock := decide (e.natAbs < s.lockPhase * nsUnits)
  let run := if lock then s.servo.lockRun + 1 else 0
  let done := s.servo.acquired || (s.servo.state == .acquire && decide (s.lockCount ≤ run))
  let s := { s with servo := { s.servo with
              i := i
              bw := fn
              lockRun := run
              acquired := done
              lastT := some t
              lastClassT := if s.pair.following then s.servo.lastClassT else some t } }
  let s := s.aim (i + p) dt
  let n := b2n (s.tb.coarseFloor && s.countsReturn t)
  let s := { s with tb := { s.tb with
              coarseLeft := s.tb.coarseLeft - n
              coarseFloor := s.tb.coarseFloor && decide (n < s.tb.coarseLeft) } }
  (s.slopeRun (p != raw) t).settle

/-! ## Switches and holdover (R119, R121–R124) -/

/-- DETAIL of 0x0203 (R487): kind, reference left, reference taken, φ_b. -/
def switchDetail (kind left taken : Nat) (phi : Int) : Nat :=
  lePack [(1, kind), (1, left), (1, taken), (5, 0), (8, unsigned 8 phi)]

/-- u starts to move from its last applied value to `goal`, held within CONTROL_RANGE, at FREQ_SLOPE_LIMIT (R109, R119, R121); `phase`
tells whether the phase this adds goes into φ_b, and `align` whether φ_b is slewed out. -/
def State.rampTo (s : State) (goal : Int) (phase align : Bool) : State :=
  let s := s.accrue
  let v := clampI (-s.range) s.range goal
  { s with servo := { s.servo with u := v, ramp := some ⟨s.uNow - v, s.tb.lc, s.freqSlopeLimit, phase, align⟩ }
           accum := { s.accum with u := v } }

/-- Holdover's growth carries on from class F's, when that ran: R137 restarts from the new entry (R138, R214). -/
def State.carryGrowth (s : State) : State :=
  match s.ho.classF with
  | some _ => { s with ho := { s.ho with carry := s.hNow }, girth := { s.girth with freezeT := s.tb.lc } }
  | none => s

/-- The step of u that entering holdover makes, and the limit at which u moves (R119, R136). -/
def State.noteRamp (s : State) : State :=
  { s with ho := { s.ho with phiDu := (s.ho.uh - s.uNow).natAbs, phiL := s.freqSlopeLimit } }

/-- The servo and the selection show holdover (R85, R119). -/
def State.showHoldover (s : State) : State :=
  { s with servo := { s.servo with state := .holdover, frozen := false }, sel := { s.sel with state := 4 } }

/-- Entry to holdover (R119, R136, R214): the model freezes, u ramps to u_h, and the girth's terms freeze. -/
def State.enterHoldover (s : State) : State :=
  let s := (s.accrue.carryGrowth.freezeModel.freezeGirth .holdover).noteRamp
  (s.rampTo s.ho.uh false false).showHoldover

/-- The switch that now starts ends holdover (R124): the selection result is 0xFF, or a switch that was to end it has lost its target. -/
def State.endsHoldover (s : State) : Bool :=
  s.servo.state == SState.holdover && (s.sel.current == 0xFF || s.servo.fromHoldover)

/-- A switch to reference n starts (R86, R121, R123, R214): u is held, a slew is cancelled with the φ_b that remains. -/
def State.startSwitch (s : State) (n : Nat) (source : Nat) : State :=
  let s := s.accrue.holdU
  let old := s.sel.current
  let s := { s with
    accum := { s.accum with slewLeft := 0, slewing := false }
    servo := { s.servo with
      phiB := if s.accum.slewing then 0 else s.servo.phiB
      state := .buildOut
      fromHoldover := s.endsHoldover
      lastT := none
      decSum := 0
      decCount := 0
      slopeSince := none }
    sel := { s.sel with
      current := n
      state := 3
      source := source
      count := bump s.sel.count
      switching := some (old, s.tb.lc)
      targetLost := false } }
  (s.freezeGirth .switch).raise 0x0203 n (switchDetail 1 old n 0)

/-- θ is available to a standby, so its servo is to follow the peer (R456). -/
def State.thetaReady (s : State) : Bool :=
  s.pairEnable && !s.pair.lease && s.pair.keys && decide (4 ≤ s.pair.thetas.length) && s.pair.state != .isolated && s.pair.state != .claiming

/-- A switch to the peer starts (R456, R464): an ordinary switch, but that no reference is selected (log entry 135). -/
def State.startFollow (s : State) : State :=
  let own := if s.sel.current < 17 then s.sel.current else s.pair.ownChoice
  let t := s.startSwitch 0xFF 0
  { t with pair := { t.pair with following := true, ownChoice := own } }

/-- What a completed switch leaves in the girth (R138, R214): a class T reference ends the freeze and holdover's growth, a
class F reference takes the growth over. -/
def State.switchGirth (s : State) (n : Nat) : State :=
  if s.classF n then (s.classFStart (s.ref n).sigmas).freezeGirth .classF else s.holdoverEnd.thawGirth

/-- Source type of PTk in the sense of R219 (R228, R298): 3 while it follows the domain manager. -/
def State.ptSource (s : State) (k : Nat) : Nat :=
  let parent := (s.inst k).parent
  if s.domainRole == 2 && parent != 0 && parent / 65536 == revBytes 8 s.domainManagerId then 3 else 2

/-- SRC of a class T reference (R219). -/
def State.srcOf (s : State) (n : Nat) : Nat :=
  if n = 16 then 1
  else if 12 ≤ n then s.ptSource (n - 12)
  else if s.inBind n = 5 then 6
  else if s.inBind n = 1 then 5
  else 4

/-- φ_b is slewed out at PHASE_SLOPE_LIMIT (R122). -/
def State.alignSlew (s : State) : State := s.slew s.servo.phiB s.phaseSlopeLimit

/-- The switch that completes takes φ_b out again (R117, R122, R124): after holdover always, after another reference under CHANGE_MODE
0x01, and never while ACQUIRE has not ended. -/
def State.aligns (s : State) : Bool := s.servo.acquired && (s.servo.fromHoldover || s.changeMode == 1)

/-- What follows φ_b when a switch to a class T reference completes (R122, R124): a slew, or after holdover a step when STEP_ON_RETURN
asks for it. -/
def State.afterBuildOut (s : State) : State :=
  if !s.aligns then s
  else if s.servo.fromHoldover && s.stepOnReturn && decide (s.stepThreshold * nsUnits ≤ s.servo.phiB.natAbs) then
    { s with tb := { s.tb with pendStep := some (s.servo.phiB.tdiv 65536) }
             servo := { s.servo with stepWait := true, stepKind := .onReturn } }
  else s.alignSlew

/-- A switch ends: the selection shows its target (R88). -/
def State.switchDone (s : State) : State :=
  { s with sel := { s.sel with switching := none, targetLost := false, state := if s.classF s.sel.current then 2 else 1 } }

/-- What a switch to a class T reference leaves beside φ_b: its SRC, and a time set by no write (R122, R219). -/
def State.builtOut (s : State) (n : Nat) : State :=
  let t := s.afterBuildOut
  { t with girth := { t.girth with src := t.srcOf n }, tb := { t.tb with setByWrite := false } }

/-- The reference that a switch leaves, 0xFF for none. -/
def State.leftRef (s : State) : Nat :=
  match s.sel.switching with
  | some (o, _) => o
  | none => 0xFF

/-- A switch whose target was lost completes without a build-out (R88): u follows u_h. -/
def State.lostBuildOut (s : State) : State :=
  let t := (s.switchDone.rampTo s.ho.uh false false).raise 0x0203 s.sel.current (switchDetail 2 s.leftRef s.sel.current 0)
  { t with servo := { t.servo with state := .holdover } }

/-- A step of R124 that still waits is overtaken by the switch that now completes (R124). -/
def State.overtakeStep (s : State) : State :=
  if s.servo.stepKind == StepKind.onReturn then { s with servo := { s.servo with stepKind := .overtaken } } else s

/-- A switch completes with the target's phase `p` built out (R121 steps 3 and 4). While ACQUIRE has not ended φ_b is 0, and the phase that
the ramp adds is not added to it at the ramp's end either: ACQUIRE's own measurements remove it (R117; DESIGN CHOICE, log entry 153). -/
def State.passBuildOut (s : State) (p : Int) : State :=
  let n := s.sel.current
  let s := s.overtakeStep
  let i := clampI (-s.range) s.range (s.ho.uh + femtoToU (s.ref n).yRef)
  let phi := if s.classF n || !s.servo.acquired then 0 else p
  let t := { s with servo := { s.servo with i := i, phiB := phi, started := true } }
  let t := (t.rampTo i (!s.classF n && s.servo.acquired) (!s.classF n && s.aligns)).switchDone.switchGirth n
  let t := if t.classF n then t else t.builtOut n
  (t.raise 0x0203 n (switchDetail 2 s.leftRef n phi)).settle

/-- A switch to the peer completes with −θ built out (R121, R464): no estimate of the peer's frequency exists, so i is the u held (log entry
135). -/
def State.passPeer (s : State) (p : Int) : State :=
  let s := s.overtakeStep
  let phi := if s.servo.acquired then p else 0
  let t := { s with servo := { s.servo with i := clampI (-s.range) s.range s.uNow, phiB := phi, started := true } }
  let t := t.switchDone.holdoverEnd.thawGirth.afterBuildOut
  (({ t with tb := { t.tb with setByWrite := false } } : State).raise 0x0203 0xFF (switchDetail 2 s.leftRef 0xFF phi)).settle

/-- A switch completes with its build-out (R121 steps 3 and 4): `phase` is the target's measured phase, none when it was
lost or has never been measured (R88). Writes of the servo's objects take effect with it (R127; log entry 116). -/
def State.endBuildOut (s : State) (phase : Option Int) : State :=
  match phase with
  | none => s.accrue.lostBuildOut
  | some p => if s.pair.following then s.takeServo.accrue.passPeer p else s.takeServo.accrue.passBuildOut p

/-- The phase that a ramp adds relative to its new value, 2⁻¹⁶ ns (R119, R121): u beyond the new value makes the time base run ahead. -/
def Ramp.gain (r : Ramp) : Int := rdiv (-(r.diff * r.time)) (2 * 72057594037927936)

/-- The ramp of u ends (R121): the phase it has added goes into φ_b in one step, and where the switch slews φ_b out (R122, R124) into the
slew, which is issued again when it has been consumed already. -/
def opRampEnd (s : State) : State :=
  let s := s.accrue
  match s.servo.ramp with
  | none => s
  | some r =>
    if s.tb.lc < r.start + r.time then s
    else
      let s := { s with servo := { s.servo with ramp := none } }
      if r.phase then
        let s := { s with servo := { s.servo with phiB := s.servo.phiB + r.gain } }
        if !r.align || s.servo.stepWait then s
        else if s.accum.slewing then { s with accum := { s.accum with slewLeft := s.accum.slewLeft + r.gain } }
        else s.alignSlew.settle
      else s

/-- The slew amount is consumed (R122): φ_b reaches 0 and ALIGN ends. -/
def opSlewComplete (s : State) : State :=
  let s := s.accrue
  if s.accum.slewing then
    let s := { s with accum := { s.accum with slewLeft := 0, slewing := false }
                      servo := { s.servo with phiB := s.servo.phiB - s.accum.slewLeft } }
    s.settle
  else s

/-! ## Measurements (R111, R117, R121) -/

/-- The reference's bookkeeping of a measurement: phase `p` at long count `t` (R79, R81, R91). -/
def State.noteMeasure (s : State) (n : Nat) (p : Int) (t : Nat) : State :=
  s.onRef n (fun r => { r with phaseOffset := p, lastMeas := some (t, p), phases := newest 128 ((t, p) :: r.phases),
                               present := true })

/-- A reference delivers seconds (R70): a pin does while its binding names a ToD receiver whose last sentence carried a date. -/
def State.delivers (s : State) (n : Nat) : Bool :=
  decide (12 ≤ n) || ((s.inBind n == 2 || s.inBind n == 3) && (s.ref n).seconds)

/-- The time base has never been set and the reference delivers seconds, or ACQUIRE sees an error of STEP_THRESHOLD or
more: a step of whole nanoseconds toward zero is issued (R117, R125). -/
def State.acquireStep (s : State) (n : Nat) (e : Int) : Option Int :=
  if s.servo.state != .acquire || s.start.state == .locked then none
  else if !s.tb.isSet then (if s.delivers n then some (e.tdiv 65536) else none)
  else if decide (s.stepThreshold * nsUnits ≤ e.natAbs) then some (e.tdiv 65536)
  else none

/-- A processed measurement of error e of the selected reference (R111, R117): a step that ACQUIRE takes, or the filter. -/
def State.takeError (s : State) (n : Nat) (e : Int) (t : Nat) : State :=
  let s := s.takeServo
  match s.acquireStep n e with
  | some ns =>
    let s := s.noteError e
    { s with tb := { s.tb with pendStep := some ns }
             servo := { s.servo with stepWait := true, stepKind := .plain, lockRun := 0 } }
  | none => s.processError e t

/-- A measurement of the selected reference enters the loop (R111): at most 128 a second, the rest averaged. While a step of the servo
waits for its boundary none does (log entry 118). During a slew the φ_b that is subtracted is the one at the moment of processing, not
at the measured edge (DESIGN CHOICE, log entry 156). -/
def State.followMeasure (s : State) (n : Nat) (p : Int) (t : Nat) : State :=
  let s := s.accrue
  if s.servo.stepWait then s
  else
    let sum := s.servo.decSum + (p - s.servo.phiB)
    let cnt := s.servo.decCount + 1
    let due := match s.servo.lastT with
      | some l => decide (secUnits ≤ 128 * (t - l))
      | none => true
    if due then ({ s with servo := { s.servo with decSum := 0, decCount := 0 } } : State).takeError n (rdiv sum cnt) t
    else { s with servo := { s.servo with decSum := sum, decCount := cnt } }

/-! ## Anchors (R114, R115, R119) -/

/-- 2π f as a fraction: numerator and denominator, f in mHz. -/
def twoPi (mHz : Nat) : Int × Int := (2 * piAtto * mHz, 1000000000000000000000)

/-- i of a class F reference moves toward u_h + y_ref with a first-order response of SERVO_BW_FREQ, which one estimate a second limits to
100 mHz (R113, R114; log entry 31). -/
def State.freqLoop (s : State) : State :=
  match s.refModel s.sel.current with
  | none => s
  | some y =>
    let s := s.takeServo
    let bw := s.effBw .freq secUnits
    let (a, b) := twoPi bw
    let goal := s.ho.uh + femtoToU y
    let i := s.moveI (s.servo.i + (goal - s.servo.i) * a / (a + b)) secUnits
    ({ s with servo := { s.servo with i := i, bw := bw } } : State).aim i secUnits

/-- What the servo does at an anchor besides measurements: the frequency loop, holdover's u_h, that of a switch whose target is lost,
and FREE's (R84, R88, R114, R116, R119). -/
def State.servoAnchor (s : State) : State :=
  if s.servo.suspended then s
  else match s.servo.state with
    | .freq => if s.servo.frozen || (s.ref s.sel.current).state == .absent then s else s.freqLoop
    | .holdover => s.aim s.ho.uh secUnits
    | .free => s.aim (if s.hoValid then s.ho.uh else 0) secUnits
    | .buildOut => if s.sel.targetLost then s.aim s.ho.uh secUnits else s
    | .acquire => s
    | .track => s
    | .phaseOnly => s
    | .align => s

/-- Σ u × time of the second that an anchor closes is handed over, and the next begins (R115). -/
def State.takeArea (s : State) : State × Int :=
  let s := s.accrue
  ({ s with servo := { s.servo with uSum := 0 } }, s.servo.uSum)

/-- The second between two anchors closes: Y_STEER, and the history entry (R115, R130, R132); nothing is passed while the servo does
not run (R120, R131). -/
def State.closeSecond (s : State) (x : AnchorDue) (runs : Bool) : State :=
  let s := (s.takeTemp).tempSecond
  let dt := x.stop - x.start
  let mean := if dt = 0 then s.uNow else rdiv x.area dt
  let s := { s with servo := { s.servo with
    seconds := newest 65 (⟨x.start, x.stop, x.area, s.ho.uh⟩ :: s.servo.seconds)
    ySteer := if runs then uToFemto (mean - s.ho.uh) else s.servo.ySteer } }
  s.history x.record.aseq (if runs then some (uToFemto mean) else none)

/-- SC0 restarts after an engine reset, once the loader has restored it (R120): i is the last applied u; HOLDOVER, with u going from its
held value to u_h at FREQ_SLOPE_LIMIT (R119), or BUILD_OUT against the selected reference, without counting as a switch. -/
def opServoRestart (s : State) : State :=
  if s.servo.suspended && s.sc0Runs then
    let s := s.accrue.holdU
    let s := { s with servo := { s.servo with suspended := false, i := s.accum.u, lastT := none, decSum := 0, decCount := 0 } }
    if s.sel.current == 0xFF && !s.pair.following then
      ({ s with servo := { s.servo with state := .holdover } } : State).rampTo s.ho.uh false false
    else { s with servo := { s.servo with state := .buildOut, fromHoldover := s.servo.fromHoldover && s.switchingNow }
                  sel := { s.sel with switching := some (if s.switchingNow then s.leftRef else s.sel.current, s.tb.lc), state := 3 } }
  else s

/-- The loop has been at its slope limit for longer than 600 s (R125). -/
def opSlopeTimeout (s : State) : State :=
  match s.servo.slopeSince with
  | some t => if secs 600 < s.tb.lc - t then s.raise 0x0401 else s
  | none => s

/-- A step command (R110): queued for the next second boundary. -/
def opAccumStep (ns : Int) (s : State) : State :=
  { s with tb := { s.tb with pendStep := some ns }, servo := { s.servo with stepKind := .plain } }

/-! ## Meanings -/

/-- ACCUM_CONTROL (R109). -/
def execAccumControl (now : Nat) (u : Int) (s : State) : Host.Outcome State Fault Refusal := .next ((s.atTime now).control u)

/-- ACCUM_SLEW (R110). -/
def execAccumSlew (now : Nat) (amount : Int) (rate : Nat) (s : State) : Host.Outcome State Fault Refusal :=
  .next ((s.atTime now).slew amount rate).settle

/-- ACCUM_STEP (R110). -/
def execAccumStep (ns : Int) (s : State) : Host.Outcome State Fault Refusal := .next (opAccumStep ns s)

/-- SLEW_COMPLETE (R122). -/
def execSlewComplete (now : Nat) (s : State) : Host.Outcome State Fault Refusal := .next (opSlewComplete (s.atTime now))

/-- FREQ_RAMP_END (R121). -/
def execFreqRampEnd (now : Nat) (s : State) : Host.Outcome State Fault Refusal := .next (opRampEnd (s.atTime now))

/-- SERVO_RESTART (R120). -/
def execServoRestart (now : Nat) (s : State) : Host.Outcome State Fault Refusal := .next (opServoRestart (s.atTime now))

/-- SLOPE_LIMIT_TIMEOUT (R125). -/
def execSlopeLimitTimeout (now : Nat) (s : State) : Host.Outcome State Fault Refusal :=
  .next (opSlopeTimeout (s.atTime now))

end Sys2Proof.Machine
end

