-- ==== Sys2Proof/Machine/Refs.lean ====
section
/-!
DEFINITION. References: quality levels, qualification, selection and the forced pins (R69–R92, R542), and what a
measurement of a reference does (R79, R111, R121).
-/
set_option Elab.async false
namespace Sys2Proof.Machine

/-! ## Quality levels (R75–R77) -/

/-- QL of an ESMC PDU: a recognised eSSM code before the SSM (R75, R76). -/
def qlOfEsmc (ssm : Nat) (essm : Option Nat) : Nat :=
  let bySsm := match ssm with
    | 2 => 4
    | 4 => 5
    | 8 => 6
    | 0xB => 7
    | 0xF => 0xF
    | _ => 0xE
  match essm with
  | some 0x21 => 1
  | some 0x20 => 2
  | some 0x23 => 3
  | some 0x22 => 7
  | _ => bySsm

/-- QL of a clockClass (R75). -/
def qlOfClass (cls acc : Nat) : Nat :=
  if cls = 6 then (if acc ≤ 0x20 then 1 else 2)
  else if cls = 150 || cls = 160 then 7
  else if cls = 7 || cls = 135 || cls = 140 then 8
  else if cls = 13 || cls = 14 then 0xE
  else 0xF

/-- A QL code that R75 does not reserve. -/
def qlKnown (q : Nat) : Bool := (1 ≤ q && q ≤ 8) || q == 0xE || q == 0xF

/-- A reference carries quality messages (R72, R74, R75). -/
def State.carriesQl (s : State) (n : Nat) : Bool := decide (8 ≤ n) || [2, 3, 5].contains (s.inBind n)

/-- Instance k is domain-fed (R476): its parent is the manager, and a QUALITY is held no older than DOMAIN_LOSS_TIME. -/
def State.domainFed (s : State) (k : Nat) : Bool :=
  s.ptSource k == 3 &&
    s.domain.quality.any (fun q => decide (s.tb.lc ≤ q.rx + millis s.domainLossTime))

/-- The claim held for an entry. -/
def State.claim (s : State) (n : Nat) : Option Claim := (s.girth.claims.getD n none)

/-- The effective claim C at long count t (R216). -/
def claimAt (c : Claim) (t : Nat) : Nat := gsum [c.girth, cdiv (c.growth * (t - c.rx)) secUnits]

/-- The claim of a reference (R216, R476): for a domain-fed instance, the QUALITY claim or the authenticated claim of its own
messages, whichever is larger at long count t. -/
def State.refClaimAt (s : State) (n t : Nat) : Option Claim :=
  if 12 ≤ n && n < 16 && s.domainFed (n - 12) then
    match s.domain.claim, s.claim n with
    | some q, some c => if c.auth && claimAt q t < claimAt c t then some c else some q
    | some q, none => some q
    | none, c => c
  else s.claim n

/-- REF_CLAIM's entry of reference n keeps C as it is now, before its claim is replaced or becomes absent (R229). -/
def State.noteClaim (s : State) (n : Nat) : State :=
  match s.refClaimAt n s.tb.lc with
  | some c => { s with girth := { s.girth with lastC := s.girth.lastC.set n (claimAt c s.tb.lc) } }
  | none => s

/-- The same for every instance, before the domain's claim goes (R476). -/
def State.noteFed (s : State) : State := (List.range 4).foldl (fun s k => s.noteClaim (12 + k)) s

/-- The QUALITY's QL, DNU while its TIME_VALID flag is 0 (R476). -/
def Quality.read (q : Quality) : Nat := if bit q.flags 0 then q.ql else 0xF

/-- QL_RX (R76, R476): while PTk is domain-fed, the larger of its own and the manager's. -/
def State.qlRx (s : State) (n : Nat) : Nat :=
  if 12 ≤ n && n < 16 && s.domainFed (n - 12) then max (s.ref n).qlRx ((s.domain.quality.map Quality.read).getD 0)
  else (s.ref n).qlRx

/-- The effective QL (R77). -/
def State.qlEff (s : State) (n : Nat) : Nat :=
  let q := s.qlRx n
  if q = 0xF && s.carriesQl n then 0xF
  else if s.qlSource n = 1 then s.qlConfig n
  else if q = 0xE || !s.carriesQl n then s.qlConfig n
  else if s.qlSource n = 0 then q
  else max q (s.qlConfig n)

/-! ## Selection (R70, R85–R88) -/

/-- R70 holds for a reference. -/
def State.meetsR70 (s : State) (n : Nat) : Bool := s.classF n || s.delivers n || s.tb.isSet

/-- QUALIFIED or SUSPECT. -/
def QState.usable (q : QState) : Bool := q == .qualified || q == .suspect

/-- A reference is eligible (R85), but for its PRIORITY. -/
def State.eligible (s : State) (n : Nat) : Bool :=
  !s.isHalf n && s.refEnable n && (s.ref n).state.usable && decide (s.qlEff n ≤ s.qlFloor) && s.qlEff n != 0xF && s.meetsR70 n

/-- The key of R86 as one number: class, state, QL, priority, reference. -/
def State.key (s : State) (n : Nat) : Nat :=
  ((((b2n (s.classF n)) * 2 + b2n ((s.ref n).state == .suspect)) * 256 + s.qlEff n) * 256 + s.refPriority n) * 256 + n

/-- The first three elements of the key (R86). -/
def State.key3 (s : State) (n : Nat) : Nat := s.key n / 65536

/-- The member with the smallest key. -/
def State.bestOf (s : State) : List Nat → Option Nat
  | [] => none
  | a :: t =>
    match s.bestOf t with
    | none => some a
    | some b => if s.key a ≤ s.key b then some a else some b

/-- The decision of R86: the target, and the source that SELECT_SOURCE reports. -/
def State.selectRef (s : State) : Nat × Nat :=
  if s.forcePinEnable && bit s.sel.latched 3 then
    let t := s.refForceMap (s.sel.latched % 8 + 1)
    (if t ≤ 16 && !s.isHalf t && (s.ref t).state.usable && s.meetsR70 t then t else 0xFF, 2)
  else
    let all := (List.range 17).filter s.eligible
    if s.refMode = 1 && all.contains s.refManual then (s.refManual, 1)
    else
      let cands := all.filter (fun n => s.refPriority n != 0)
      match s.bestOf cands with
      | none => (0xFF, 0)
      | some b =>
        if !s.refRevertive && cands.contains s.sel.current && s.key3 s.sel.current == s.key3 b then (s.sel.current, 0)
        else (b, 0)

/-- The selector's decision carried out (R86): a switch, or entry to holdover, when the result differs from the current reference; after
a switch that has lost its target (`again`), also to that target (R88, R121; log entry 117). A standby for which θ is available switches
to its peer, and once it follows the peer the selector only reports its choice (R456). -/
def State.runSelector (again : Bool) (s : State) : State :=
  let (t, src) := s.selectRef
  if s.pair.following then { s with pair := { s.pair with ownChoice := t } }
  else if s.thetaReady then ({ s with pair := { s.pair with ownChoice := t } } : State).startFollow
  else if t == s.sel.current && !again && !(t == 0xFF && s.sel.state == 1) then { s with sel := { s.sel with source := src } }
  else if t == 0xFF then
    let left := s.sel.current
    let s := { s with sel := { s.sel with current := 0xFF, source := src, count := bump s.sel.count } }
    s.enterHoldover.raise 0x0203 0xFF (switchDetail 3 left 0xFF 0)
  else s.startSwitch t src

/-- The selector tick (R86, R88): nothing while a switch is in progress. -/
def opSelectorTick (s : State) : State :=
  if s.switchingNow || s.servo.suspended then s else s.runSelector false

/-! ## Qualification (R78–R84) -/

/-- A reference changes its state: an F0 record, and F1 when the selected one becomes DISQUALIFIED (R82). Leaving DISABLED
or ABSENT, the received QL is UNKNOWN, but for PT0–PT3, which hold a qualified Announce (R76). -/
def State.moveRef (s : State) (n : Nat) (q : QState) : State :=
  let old := (s.ref n).state
  if old == q then s
  else
    let s := s.onRef n (fun r => { r with
      state := q
      qlRx := if (old == .disabled || old == .absent) && !(12 ≤ n && n < 16) then 0xE else r.qlRx
      soakLeft := if q == .soaking then s.soakTime n else 0
      clearRun := 0
      gateRun := 0
      leftAt := if old == .disabled || old == .absent then s.tb.lc else r.leftAt })
    let s := s.raise 0x0201 n
    (if q == .disqualified && s.sel.current == n then s.raise 0x0202 n else s).settle

/-- What a lost signal leaves of a reference (R76, R81, R82). -/
def Ref.lost (r : Ref) : Ref :=
  { r with present := false, lastMeas := none, phases := [], estimates := [], misses := 0, windowFaults := [], cause := 0,
           seconds := false, todMismatch := false, lastEdge := none, gateRun := 0 }

/-- A reference without a signal goes to ABSENT or DISABLED (R81, R82). A switch to it goes on without it, on u_h (R88); where it is the
selected one the accumulator holds the control value that it applies now, a ramp in progress included, until the next selector tick
(R84). -/
def State.dropRef (s : State) (n : Nat) (q : QState) : State :=
  let s := (s.moveRef n q).onRef n Ref.lost
  if s.sel.current != n then s
  else if s.switchingNow then
    let s := { s with sel := { s.sel with targetLost := true } }
    s.rampTo s.ho.uh false false
  else s.accrue.holdU

/-- The signal of one reference number is lost (R81, R84): ABSENT at once; a DISABLED reference stays so. -/
def State.loseRef (s : State) (n : Nat) : State :=
  if (s.ref n).state == .disabled then s.onRef n Ref.lost else s.dropRef n .absent

/-- Loss of signal (R81, R84). With the frequency half of a pair its reference is lost, which carries the number of the PPS half
(R72). -/
def opLossOfSignal (n : Nat) (s : State) : State :=
  if 17 ≤ n then s
  else
    let t := s.loseRef n
    if s.isHalf n && decide (s.inPair n < 8) then t.loseRef (s.inPair n) else t

/-- The frequency limit in force, 10⁻¹⁵ (R78). -/
def State.freqLim (s : State) (n : Nat) : Nat := (if s.ho.everValid then s.freqLimit n else s.freqLimitCold) * 1000

/-- The slope of values over their long counts, newest first, as an exact fraction of 10⁻¹⁵ per 2⁻¹⁶ ns; none with fewer than 8
(R78, R150). -/
def slopeFrac (l : List (Nat × Int)) : Option (Int × Nat) :=
  let t0 := (l.head?.map (·.1)).getD 0
  let (a, b) := lsSlope (l.map (fun p => ((p.1 : Int) - t0, p.2)))
  if 8 ≤ l.length && decide (0 < b) then some (a, b.toNat) else none

/-- That slope in 10⁻¹⁵ per `s` seconds, rounded once (R78, R150). -/
def trendOf (s : Nat) (l : List (Nat × Int)) : Option Int := (slopeFrac l).map (fun x => rdiv (x.1 * (s * secUnits : Nat)) x.2)

/-- The offset of the present signal: its last estimate (R78). -/
def Ref.offset (r : Ref) : Option Int := r.estimates.head?.map (·.2)

/-- The projection, offset + trend × PROJ_HORIZON, crosses the limit (R78). -/
def State.crosses (s : State) (n : Nat) : Bool :=
  match (s.ref n).offset, slopeFrac (s.ref n).estimates with
  | some y, some (a, b) => decide (s.freqLim n * b ≤ (y * b + a * (s.projHorizon n * secUnits : Nat)).natAbs)
  | some _, none => false
  | none, _ => false

/-- The magnitude of the offset is at least `pct` % of the limit; never while the present signal has no estimate yet (R78, R82). -/
def State.offPct (s : State) (n pct : Nat) : Bool :=
  match (s.ref n).offset with
  | some y => decide (s.freqLim n * pct ≤ y.natAbs * 100)
  | none => false

/-- The causes now active (R79, R81, R82, R91); the jump bit is set and cleared by measurements. -/
def State.causes (s : State) (n : Nat) : Nat :=
  let r := s.ref n
  let phase := !s.classF n && s.sel.current != n && s.girth.timeValid &&
    decide (s.phaseLimit n * nsUnits ≤ r.phaseOffset.natAbs)
  let faults := r.windowFaults.countP (fun t => decide (s.tb.lc ≤ t + secs 10))
  ofBits [s.offPct n 100, bit r.cause 1, phase, decide (3 ≤ faults), r.todMismatch]

/-- The second's estimate of a present reference: its offset, its trend, and y_ref (R78, R104). -/
def State.takeEstimate (s : State) (n : Nat) (y ref : Int) : State :=
  s.onRef n (fun r =>
    let l := newest 32 (((s.refSpan n).2, y) :: r.estimates)
    { r with freqOffset := y, estimates := l, freqTrend := (trendOf 1 l).getD 0, yRef := ref })

/-- CH_FREQ_SIGMA of a class F reference's estimate joins its last 60 (R138). -/
def State.noteSigma (s : State) (n : Nat) : State :=
  match s.refChan n with
  | some c => if s.classF n then s.onRef n (fun r => { r with sigmas := newest 60 ((s.chan c).sigma :: r.sigmas) }) else s
  | none => s

/-- Soaking for one valid second (R82). -/
def State.soak (s : State) (n : Nat) : State :=
  let recent := (s.ref n).windowFaults.any (fun t => decide (s.tb.lc ≤ t + secUnits))
  if s.offPct n (s.suspectPct n) || s.crosses n || recent then s.onRef n (fun r => { r with soakLeft := s.soakTime n })
  else if (s.ref n).soakLeft ≤ 1 then s.moveRef n .qualified
  else s.onRef n (fun r => { r with soakLeft := r.soakLeft - 1 })

/-- SUSPECT for one valid second (R82). -/
def State.suspectSecond (s : State) (n : Nat) : State :=
  if !s.crosses n && !s.offPct n (s.suspectPct n - 15) then
    if s.soakTime n ≤ (s.ref n).clearRun + 1 then s.moveRef n .qualified
    else s.onRef n (fun r => { r with clearRun := r.clearRun + 1 })
  else s.onRef n (fun r => { r with clearRun := 0 })

/-- The once-per-second evaluation of one reference (R78, R79, R82). -/
def State.evalRef (s : State) (n : Nat) : State :=
  if !s.refEnable n || s.group 5 != 1 then s
  else
    let est := if (s.ref n).present then s.refOffset n else none
    let s := match est with
      | some y => (s.takeEstimate n y ((s.refModel n).getD 0)).noteSigma n
      | none => s
    let s := s.onRef n (fun r => { r with cause := s.causes n })
    let r := s.ref n
    match r.state with
    | .disabled => s.moveRef n .absent
    | .absent =>
      if !r.present then s.onRef n (fun r => { r with gateRun := 0 })
      else if 1 ≤ r.gateRun then s.moveRef n .soaking
      else s.onRef n (fun r => { r with gateRun := r.gateRun + 1 })
    | .soaking => if r.cause != 0 then s.moveRef n .disqualified else if est.isSome then s.soak n else s
    | .qualified =>
      if r.cause != 0 then s.moveRef n .disqualified
      else if est.isSome && (s.crosses n || s.offPct n (s.suspectPct n)) then s.moveRef n .suspect
      else s
    | .suspect =>
      if r.cause != 0 then s.moveRef n .disqualified else if est.isSome then s.suspectSecond n else s
    | .disqualified =>
      if est.isNone || r.cause != 0 || s.offPct n (s.suspectPct n) then s.onRef n (fun r => { r with gateRun := 0 })
      else if 1 ≤ r.gateRun then s.moveRef n .soaking
      else s.onRef n (fun r => { r with gateRun := r.gateRun + 1 })

/-- The evaluation of every reference (R78, R82), while the servo cores have a clock (R27): a class F target's first estimate completed after the tick also ends its build-out
(R121), and the class F reference's CH_FREQ_SIGMA is kept for R138. -/
def opRefEvaluation (s : State) : State :=
  if !s.engsRun then s else
  let s := (List.range 17).foldl State.evalRef s
  let n := s.sel.current
  if n < 12 && s.classF n && (s.refFreq n).isSome then
    let s := { s with ho := { s.ho with sigmaF := if s.ho.classF.isSome && !s.switchingNow then (s.ref n).sigmas else s.ho.sigmaF } }
    match s.sel.switching with
    | some (_, t0) =>
      if !s.sel.targetLost && !s.servo.suspended && decide (t0 < (s.refSpan n).2) then s.endBuildOut (some 0) else s
    | none => s
  else s

/-- ENABLE of a reference takes effect (R82): ABSENT, its signal still to be shown, or DISABLED. -/
def opRefEnable (n : Nat) (s : State) : State :=
  if s.refEnable n then
    if (s.ref n).state == .disabled then (s.moveRef n .absent).onRef n Ref.lost else s
  else if (s.ref n).state == .disabled then s
  else s.dropRef n .disabled

/-- A write that changes SOAK_TIME restarts every soak in progress on that reference (R92). -/
def opSoakRestart (n : Nat) (s : State) : State :=
  s.onRef n (fun r => { r with soakLeft := if r.state == .soaking then s.soakTime n else r.soakLeft })

/-! ## Measurements (R79, R111, R121) -/

/-- The phase that the regression through the last phases predicts for long count `t` (R79); none with fewer than two (log entry 115). -/
def predictPhase (l : List (Nat × Int)) (t : Nat) : Option Int :=
  let x (a : Nat) : Int := (a : Int) - t
  let pts := l.map (fun p => (x p.1, p.2))
  let n : Int := l.length
  let sx := (pts.map (·.1)).sum
  let sy := (pts.map (·.2)).sum
  let sxy := (pts.map (fun p => p.1 * p.2)).sum
  let sxx := (pts.map (fun p => p.1 * p.1)).sum
  let d := n * sxx - sx * sx
  if 2 ≤ l.length && decide (0 < d) then some (rdiv (sy * sxx - sx * sxy) d.toNat) else none

/-- The jump check fails (R79). -/
def State.jumps (s : State) (n : Nat) (p : Int) (t : Nat) : Bool :=
  s.girth.timeValid && match predictPhase (newest 16 (s.ref n).phases) t with
    | some q => decide (s.phaseJump n * nsUnits ≤ (p - q).natAbs)
    | none => false

/-- Steps taken since long count `t`, ns: those of the anchors latched after it (R46, R51). -/
def State.stepsAfter (s : State) (t : Nat) : Int :=
  (s.tb.ring.map (fun a =>
    if bit a.flags 1 && decide (t < a.at_) then a.stepNs else 0)).sum

/-- Whether a stamp of a PPS pin lies within ±1 µs of a whole number of seconds after the last edge inside its window (R81). -/
def inPpsWindow (last t : Nat) : Bool :=
  let d := (t - last) % secUnits
  decide (d ≤ 65536000) || decide (secUnits - 65536000 ≤ d)

/-- A PPS pin (R72, R81). -/
def State.isPps (s : State) (n : Nat) : Bool := n < 8 && s.inBind n != 0 && s.inBind n != 4

/-- A PPS edge outside its window, whose measurement is withheld (R81). -/
def State.outOfWindow (s : State) (n t : Nat) : Bool :=
  s.isPps n && match (s.ref n).lastEdge with
    | some l => !inPpsWindow l t
    | none => false

/-- The frequency half of a pin that is the PPS half of a pair has its signal; a pin that is no such half needs none (R72, R81). -/
def State.halfPresent (s : State) (n : Nat) : Bool :=
  match s.freqHalf n with
  | some k => (s.ref k).present
  | none => true

/-- A prescaled edge of a reference's channel shows that its signal is present (R81): a PPS edge outside its window is a window fault,
and one that follows two empty windows means that the signal was lost. A pair is present with both its halves, a recovered clock while
the link of its lane is up. -/
def State.refEdge (s : State) (n t : Nat) : State :=
  let whole := s.halfPresent n
  let seen (r : Ref) : Ref := { r with present := whole, lastEdge := some t }
  if s.isPps n then
    match (s.ref n).lastEdge with
    | some l =>
      if l + secs 2 + 65536000 < t then (opLossOfSignal n s).onRef n seen
      else if inPpsWindow l t then s.onRef n seen
      else s.onRef n (fun r => { r with windowFaults := newest 3 (t :: r.windowFaults) })
    | none => s.onRef n seen
  else if 8 ≤ n && (s.lane (s.seLane n)).state != 5 then s
  else s.onRef n (fun r => { r with present := true })

/-- A prescaled edge reaches channel c (R81, R96). -/
def opTiuEdge (now c bin : Nat) (s : State) : State :=
  if c < 32 && s.chEnable c then
    let t := s.edgeStamp c bin (s.moment now)
    if c < 12 then (s.tiuEdge now c bin).refEdge c t else s.tiuEdge now c bin
  else s

/-- A phase measurement of a class T reference: phase `p`, STAMP_STATUS of its stamps, long count `t` of the edge (R79, R81, R84,
R111, R121). One whose stamp falls before a step is taken against the time base before it, as its prediction was (R79),
and serves nothing else (R124). -/
def opMeasure (n : Nat) (p : Int) (status t : Nat) (s : State) : State :=
  let early := s.stepsAfter t != 0
  let p := p - s.stepsAfter t * 65536
  if 17 ≤ n || !s.engsRun || s.classF n || !bit status 0 || bit status 1 || bit status 2 || s.outOfWindow n t then s
  else if s.jumps n p t then
    let s := s.onRef n (fun r => { r with cause := setBit r.cause 1 true, phases := [(t, p)] })
    if (s.ref n).state.usable || (s.ref n).state == .soaking then s.moveRef n .disqualified else s
  else
    let s := s.onRef n (fun r => { r with cause := setBit r.cause 1 false })
    let s := if early then s else s.noteMeasure n p t
    if early || s.sel.current != n || s.servo.suspended || s.pair.following then s
    else if s.switchingNow then (if s.sel.targetLost then s else s.endBuildOut (some p))
    else if (s.ref n).state.usable then s.followMeasure n p t
    else s

/-- The build-out has lasted 1 s (R121 step 2): it ends on the target's last measurement, or without one; then the selector runs again
(R88). -/
def opBuildOutTimeout (s : State) : State :=
  match s.sel.switching with
  | none => s
  | some (_, t0) =>
    let last := if s.sel.targetLost then none
      else if s.pair.following then some (-s.pair.theta)
      else if s.classF s.sel.current then (if (s.ref s.sel.current).estimates.isEmpty then none else some 0)
      else (s.ref s.sel.current).lastMeas.map (·.2)
    if s.tb.lc < t0 + secUnits || s.servo.suspended || !s.engsRun then s
    else match last with
      | some p => s.endBuildOut (some p)
      | none => (s.endBuildOut none).runSelector true

/-! ## Messages (R73–R76) -/

/-- The pin whose binding names ToD UART k (R72). -/
def State.todPin (s : State) (k : Nat) : Option Nat := (List.range 8).find? (fun n => s.inBind n = 2 + k)

/-- A ToD sentence of its own format or a ZDA, complete `since` ms after the preceding PPS edge; `tai` is the second it
names, when it carries a date (R73, R63, R82). Its girth is an unauthenticated claim without a trace record (R216). -/
def opTodRx (k since : Nat) (own : Bool) (tai : Option Nat) (leap : Nat) (off : Int) (ql girth flags : Nat) (s : State) : State :=
  if since < 100 || 900 < since then
    { s with tod := upd (fun x => { x with discarded := bump x.discarded }) k s.tod }
  else match s.todPin k with
    | none => s
    | some n =>
      let s := { s with tod := upd (fun x => { x with lastSecond := tai }) k s.tod }
      let next := (s.full + ((1000 - since : Nat) : Int) * 65536000000 + 32768000000000) / 65536000000000
      let s := s.onRef n (fun r => { r with
        qlRx := if own then (if qlKnown ql then ql else 0xF) else 0xE
        seconds := tai.isSome
        todMismatch := match tai with
          | some x => s.tb.isSet && (x : Int) != next
          | none => false })
      let s := if own then
          { s with girth := { s.girth with claims := s.girth.claims.set n (some ⟨girth, 0, [], false, s.tb.lc⟩) } }
        else s
      if own && s.sel.current == n then s.learnAnnounced off leap (bit flags 2) else s

/-- No valid sentence for 3 s, or no ESMC PDU for 5 s: received QL is DNU (R75, R76). A pin whose sentences have ceased has no seconds,
and no sentence that names another (R70, R82). -/
def opQlTimeout (n : Nat) (s : State) : State :=
  let s := if n < 8 then s.onRef n (fun r => { r with seconds := false, todMismatch := false }) else s
  if (s.ref n).state == .disabled || (s.ref n).state == .absent then s else s.onRef n (fun r => { r with qlRx := 0xF })

/-- IN_BIND of a pin takes effect: its rate is computed again (R95), and what its ToD sentences said is no longer so (R70, R82), nor
what they claimed (R211, R213). SRC of the selected pin is that of its new binding (R219). The qualification state, the received QL and
the estimates stay (log entry 122). -/
def opRebind (n : Nat) (s : State) : State :=
  let s := ((s.noteClaim n).onRef n (fun r => { r with seconds := false, todMismatch := false, lastEdge := none })).fixRate n
  { s with girth := { s.girth with
      claims := s.girth.claims.set n none
      src := if s.sel.current == n && !s.switchingNow && !s.classF n then s.srcOf n else s.girth.src } }

/-- The port of a lane: its quad's first lane where the quad is one port (R231). -/
def State.portOf (s : State) (l : Nat) : Nat := if 4 ≤ (s.quad (l / 4)).mode then l / 4 * 4 else l

/-- An ESMC PDU on a lane's port reaches the references that name the port (R74–R76). -/
def opEsmcRx (lane ssm : Nat) (essm : Option Nat) (s : State) : State :=
  ((List.range 4).filter (fun k => s.portOf (s.seLane (8 + k)) == s.portOf lane)).foldl
    (fun s k => s.onRef (8 + k) (fun r => { r with qlRx := qlOfEsmc ssm essm })) s

/-! ## Forced pins (R89, R90) -/

/-- The synchronised pins change: [2:0] REF_FORCE, [3] REF_FORCE_EN (R90). -/
def opForceChange (pins : Nat) (s : State) : State := { s with sel := { s.sel with raw := pins % 16, debouncing := true } }

/-- The pins have held for FORCE_DEBOUNCE (R90). -/
def opForceLatch (s : State) : State :=
  if s.sel.debouncing then
    ({ s with sel := { s.sel with latched := s.sel.raw, debouncing := false } } : State).raise 0x0204
  else s

/-! ## Meanings -/

/-- TIU_EDGE (R81, R96). -/
def execTiuEdge (now c bin : Nat) (s : State) : Host.Outcome State Fault Refusal := .next (opTiuEdge now c bin (s.atTime now))

/-- REF_EVALUATION (R82). -/
def execRefEvaluation (now : Nat) (s : State) : Host.Outcome State Fault Refusal := .next (opRefEvaluation (s.atTime now))

/-- REF_LOSS_OF_SIGNAL (R81). -/
def execRefLossOfSignal (now n : Nat) (s : State) : Host.Outcome State Fault Refusal :=
  .next (opLossOfSignal n (s.atTime now))

/-- TOD_SENTENCE_RX (R73). -/
def execTodSentenceRx (now k since : Nat) (own : Bool) (tai : Option Nat) (leap : Nat) (off : Int) (ql girth flags : Nat)
    (s : State) : Host.Outcome State Fault Refusal :=
  .next (opTodRx k since own tai leap off ql girth flags (s.atTime now))

/-- TOD_SENTENCE_TIMEOUT (R75): the reference whose pin is bound to UART k. -/
def execTodSentenceTimeout (k : Nat) (s : State) : Host.Outcome State Fault Refusal :=
  .next (match s.todPin k with
    | some n => opQlTimeout n s
    | none => s)

/-- ESMC_PDU_RX (R76). -/
def execEsmcPduRx (lane ssm : Nat) (essm : Option Nat) (s : State) : Host.Outcome State Fault Refusal :=
  .next (opEsmcRx lane ssm essm s)

/-- ESMC_RX_TIMEOUT (R75): reference SEk. -/
def execEsmcRxTimeout (k : Nat) (s : State) : Host.Outcome State Fault Refusal :=
  .next (if k < 4 then opQlTimeout (8 + k) s else s)

/-- FORCE_PIN_CHANGE (R90). -/
def execForcePinChange (pins : Nat) (s : State) : Host.Outcome State Fault Refusal := .next (opForceChange pins s)

/-- FORCE_PIN_LATCH (R90). -/
def execForcePinLatch (now : Nat) (s : State) : Host.Outcome State Fault Refusal := .next (opForceLatch (s.atTime now))

/-- BUILD_OUT_TIMEOUT (R121). -/
def execBuildOutTimeout (now : Nat) (s : State) : Host.Outcome State Fault Refusal :=
  .next (opBuildOutTimeout (s.atTime now))

end Sys2Proof.Machine
end

