-- ==== Sys2Proof/Machine/Oven.lean ====
section
/-!
DEFINITION. The oven controller, the warm flag, the ambient estimate and the steering of an atomic pair (R142–R152).
-/
set_option Elab.async false
namespace Sys2Proof.Machine

/-! ## Thermistor (R145) -/

/-- Σ z^(2j+1)/(2j+1) in 2⁻⁴⁰, `k` terms left: `p` is z^(2j+1), `z2` is z². -/
def atanhSum (z2 : Nat) : Nat → Nat → Nat → Nat
  | 0, _, _ => 0
  | k + 1, j, p => p / (2 * j + 1) + atanhSum z2 k (j + 1) (p * z2 / 1099511627776)

/-- The natural logarithm of n ≥ 1 in 2⁻⁴⁰: n = 2^k (1 + x), by the series of 2 artanh (log entry 12). -/
def lnFix (n : Nat) : Nat :=
  let k := n.log2
  let z := (n - 2 ^ k) * 1099511627776 / (n + 2 ^ k)
  k * 762123384786 + 2 * atanhSum (z * z / 1099511627776) 16 0 z

/-- Temperature of an OVEN_SENSE code in 0.001 °C, by Steinhart–Hart (R145). -/
def State.thermTemp (s : State) (code : Nat) : Int :=
  let l : Int := (lnFix (s.ovenSenseRref * code) : Int) - lnFix (65536 - code)
  let inv := s.thermA + s.thermB * l / 1099511627776 + s.thermC * l * l * l / 1329227995784915872903807060280344576
  if inv ≤ 0 then 0 else rdiv 1000000000000000000 inv.toNat - 273150

/-! ## The warm flag (R150) -/

/-- The temperature condition of R150. -/
def State.tempCond (s : State) : Bool :=
  if s.oscType = 0 then !s.oven.sensorFault && decide ((s.oven.temp - s.ovenSetpoint * 10).natAbs ≤ 50)
  else s.oven.warmPin == s.oscWarmPolarity

/-- The reference against which channel 0x1E is judged (R150). -/
def State.warmRef (s : State) : Option Nat :=
  if s.sel.current != 0xFF then some s.sel.current
  else (List.range 17).find? (fun n => (s.ref n).present && (s.refFreq n).isSome)

/-- The slope condition of R150: 60 valid offsets, and |WARM_SLOPE| below 10⁻¹⁰ per minute; with no reference it is not met. -/
def State.slopeCond (s : State) : Bool :=
  s.warmRef.isSome && s.oven.offsets.length == 60 && decide (s.oven.slope.natAbs < 100000)

/-- The condition under which WARM_FLAG falls after 10 s (R150). -/
def State.awayCond (s : State) : Bool :=
  if s.oscType = 0 then decide (200 < (s.oven.temp - s.ovenSetpoint * 10).natAbs) else s.oven.warmPin != s.oscWarmPolarity

/-- Since when the conditions of a rise, and that of a fall, have held (R150); the 60 s of a flag not yet raised wait for the engines to
return from a system reset. A sensor fault of the oven lowers the flag, but during a system reset it holds its value (R147, R150). -/
def State.noteWarm (s : State) : State :=
  { s with oven := { s.oven with
      warm := s.oven.warm && (s.start.inReset || s.oscType != 0 || !s.oven.sensorFault)
      condSince := if s.tempCond && s.slopeCond && !s.start.inReset then some (s.oven.condSince.getD s.tb.lc) else none
      awaySince := if s.awayCond then some (s.oven.awaySince.getD s.tb.lc) else none } }

/-! ## The loop (R145–R148) -/

/-- One OVEN_SENSE sample, with the level of OVEN_WARM_IN (R145, R147, R148). While OSC_TYPE is 0x01 OVEN_SENSE is ignored, so that a sensor
fault or an over-temperature that is latched stays in OVEN_STATUS until OSC_TYPE is 0x00 again (DESIGN CHOICE, log entry 155). -/
def opOvenSample (code : Nat) (pin : Bool) (s : State) : State :=
  let s := ({ s with oven := { s.oven with warmPin := pin } } : State).noteWarm
  if s.oscType != 0 then s
  else if code < 256 || 65280 < code then
    let s := { s with oven := { s.oven with sensorFault := true, goodRun := 0, duty := 0 },
                      ho := { s.ho with faultGap := true } }
    s.noteWarm.raise 0x0501
  else
    let s := { s with oven := { s.oven with sampleSum := s.oven.sampleSum + s.thermTemp code, samples := s.oven.samples + 1,
                                            goodRun := s.oven.goodRun + 1 } }
    if s.oven.sensorFault && 100 ≤ s.oven.goodRun then
      ({ s with oven := { s.oven with sensorFault := false } } : State).clearFault 0x0501
    else s

/-- The PID step's duty in 10⁻⁸ %, and its integrator (R145). -/
def State.ovenPid (s : State) (temp : Int) : Int × Int :=
  let sp := s.ovenSetpoint * 10
  let e := sp - temp
  let dt := match s.oven.prevTemp with
    | some p => temp - p
    | none => 0
  let d := 100 * s.ovenKff * (sp - s.oven.ambient) + 100 * s.ovenKp * e + s.oven.integ - 10000 * s.ovenKd * dt
  let top : Int := (s.ovenDutyMax : Int) * 1000000
  let sat := (decide (top ≤ d) && decide (0 < e)) || (decide (d ≤ 0) && decide (e < 0))
  (clampI 0 top d, if sat then s.oven.integ else s.oven.integ + s.ovenKi * e)

/-- AMBIENT_EST: die temperature minus OVEN_THETA × measured power, 0.001 °C (R149). -/
def State.ambientEst (s : State) : Int := s.gov.tj * 10 - rdiv ((s.ovenTheta * s.gov.pPart : Nat) : Int) 100

/-- A value of the compensation temperature joins the second that runs, unless it has a sensor fault (R128, R129). -/
def State.addTemp (s : State) (t : Int) : State :=
  if s.compFault then s
  else { s with ho := { s.ho with tempSum := s.ho.tempSum + t, tempCount := s.ho.tempCount + 1 } }

/-- Writes of the oven's objects take effect (R152). -/
def State.takeOven (s : State) : State := s.takeLate (fun k => 0x440000 ≤ k && k < 0x440300)

/-- The 100 Hz loop step (R145, R147, R149, R152). -/
def opOvenStep (s : State) : State :=
  let s := s.takeOven
  let s := { s with oven := { s.oven with ambient := s.ambientEst } }
  if s.oscType != 0 then
    (({ s with oven := { s.oven with duty := 0, sampleSum := 0, samples := 0 } } : State).addTemp s.oven.ambient).noteWarm
  else if s.oven.samples = 0 then s.noteWarm
  else
    let temp := rdiv s.oven.sampleSum s.oven.samples
    let hot := if s.oven.overTemp then decide (s.ovenTempMax * 10 - 2000 < temp) else decide (s.ovenTempMax * 10 ≤ temp)
    let run := !s.oven.sensorFault && !hot
    let (d, i) := s.ovenPid temp
    let o := { s.oven with
      temp := temp
      prevTemp := some temp
      sampleSum := 0
      samples := 0
      overTemp := hot
      duty := if run then (rdiv d 1000000).toNat else 0
      integ := if run then i else s.oven.integ }
    ((({ s with oven := o } : State).addTemp temp).noteWarm).level hot 0x0502

/-- OVEN_POWER in mW (R146). -/
def State.ovenPower (s : State) : Nat := (rdiv (s.oven.duty * s.ovenHeaterW : Nat) 10000).toNat

/-! ## The warm flag's changes (R150, R499) -/

/-- The frequency of channel 0x1E over the window of a reference's estimate (R104). -/
def State.oscOver (s : State) (n : Nat) : Option Int := s.estOver 0x1E (s.refSpan n).1 (s.refSpan n).2

/-- At an anchor the offset of channel 0x1E against that reference, both over the same window, joins the last 60, which begin again with
another reference (R104, R150). -/
def State.warmSecond (s : State) : State :=
  let s := match s.warmRef.bind s.oscOver, s.warmRef, s.warmRef.bind s.refFreq with
    | some a, some n, some b =>
      let l := newest 60 ((s.lastAnchor, a - b) :: (if s.oven.offRef = n then s.oven.offsets else []))
      { s with oven := { s.oven with offsets := l, offRef := n, slope := (trendOf 60 l).getD 0 } }
    | some _, some _, none => s
    | some _, none, _ => s
    | none, _, _ => s
  s.noteWarm

/-- WARMING is left for ACQUIRING (R499). -/
def State.leaveWarming (s : State) : State :=
  if s.start.state == .warming then
    { s with start := { s.start with state := .acquiring, times := s.start.times.set 2 s.ms } }
  else s

/-- WARM_FLAG rises (R150): both conditions have held for 60 s; WARMING ends (R499), and the fits count from the first rise (R133). -/
def opWarmRise (s : State) : State :=
  match s.oven.condSince with
  | none => s
  | some t =>
    if !s.oven.warm && s.tempCond && s.slopeCond && decide (t + secs 60 ≤ s.tb.lc) then
      let s := { s with oven := { s.oven with warm := true }, ho := { s.ho with anchorsWarm := some (s.ho.anchorsWarm.getD 0) } }
      s.noteValid.leaveWarming
    else s

/-- WARM_FLAG falls (R150): a sensor fault of the oven, or 10 s away from the warm condition; never during a system reset. -/
def opWarmFall (s : State) : State :=
  let long := match s.oven.awaySince with
    | some t => decide (t + secs 10 ≤ s.tb.lc)
    | none => false
  if s.oven.warm && !s.start.inReset && ((s.oscType = 0 && s.oven.sensorFault) || (s.awayCond && long)) then { s with oven := { s.oven with warm := false } }
  else s

/-! ## Atomic steering (R142–R144) -/

/-- The PPS half of the atomic pair (R72). -/
def State.atomicPin (s : State) : Option Nat := (List.range 8).find? (fun n => s.inBind n = 5)

/-- Decimal digits of a number as ASCII, at most `fuel` of them. -/
def decDigits : Nat → Nat → List Nat
  | 0, _ => []
  | f + 1, n => if n < 10 then [48 + n] else decDigits f (n / 10) ++ [48 + n % 10]

/-- A signed decimal in ASCII. -/
def decInt (i : Int) : List Nat := (if i < 0 then [45] else []) ++ decDigits 40 i.natAbs

/-- Two upper-case hexadecimal digits in ASCII. -/
def hex2 (n : Nat) : List Nat := [n / 16 % 16, n % 16].map (fun d => if d < 10 then 48 + d else 55 + d)

/-- A sentence `$…*cs` CR LF around its body, with the XOR of the body's characters (R143). -/
def sentence (body : List Nat) : List Nat := [36] ++ body ++ [42] ++ hex2 (body.foldl Nat.xor 0) ++ [13, 10]

/-- The steering sentence of R143. -/
def steerSentence (seq : Nat) (adj : Int) : List Nat :=
  sentence ([71, 76, 83, 84, 82, 44] ++ decDigits 3 seq ++ [44] ++ decInt adj)

/-- The steering step is taken this second (R144). -/
def State.steers (s : State) (n : Nat) : Bool :=
  s.atomicProto != 0 && s.sel.current != n && s.sel.current != 0xFF && !s.classF s.sel.current &&
    (s.ref s.sel.current).state == .qualified && s.servo.state == .track &&
    ((s.ref n).state == .soaking || (s.ref n).state.usable)

/-- delta of R144, 10⁻¹⁵. -/
def State.steerDelta (s : State) (n : Nat) : Int :=
  let y := (s.chan ((s.freqHalf n).getD n)).freq
  let d := -(y + rdiv ((s.ref n).phaseOffset * 1000000) (65536 * max 1 s.atomicTau))
  clampI (-s.atomicStepMax) s.atomicStepMax d

/-- ATOMIC_STATE and the pair's received QL (R75, R143): locked is UNKNOWN, everything else DNU. -/
def State.setAtomic (s : State) (st : Nat) : State :=
  let s := { s with atomic := { s.atomic with state := st } }
  match s.atomicPin with
  | some n => s.onRef n (fun r => { r with qlRx := if st = 3 then 0xE else 0xF })
  | none => s

/-- The module, or a relay write, gives a status (R142, R143). -/
def State.atomicStatus (s : State) (st : Nat) : State :=
  let s := s.setAtomic st
  { s with atomic := { s.atomic with lastStatus := s.tb.lc } }

/-- Without a dialect the status is silent (R142); the pair's received QL is DNU once that has lasted 3 s from its last status and from
the moment the pair left DISABLED or ABSENT (R75, R76). -/
def State.atomicMute (s : State) : State :=
  let late := match s.atomicPin with
    | some n => decide (max (s.ref n).leftAt s.atomic.lastStatus + secs 3 ≤ s.tb.lc)
    | none => false
  if late then s.setAtomic 0 else { s with atomic := { s.atomic with state := 0 } }

/-- What a write has left for the relay dialect (R142, R152): its 64 bytes are sent, its status is taken; outside that dialect they are
dropped. -/
def State.takeRelay (s : State) : State :=
  let t := { s with atomic := { s.atomic with relayTx := none, relayStatus := none } }
  if s.atomicProto = 2 then
    let t := match s.atomic.relayTx with
      | some v => { t with atomic := { t.atomic with sent := (leBytes 64 v).map (·.toNat) } }
      | none => t
    match s.atomic.relayStatus with
    | some v => t.atomicStatus v
    | none => t
  else t

/-- Writes of the atomic objects take effect (R152). -/
def State.takeAtomic (s : State) : State := s.takeLate (fun k => 0x444001 ≤ k && k ≤ 0x444004)

/-- The steering second (R142–R144): the writes that have waited take effect, and without a dialect the status is silent. -/
def opSteer (s : State) : State :=
  let s := s.takeAtomic.takeRelay
  let s := match s.atomicPin with
    | some n => if s.steers n then { s with atomic := { s.atomic with adj := s.atomic.adj + s.steerDelta n } } else s
    | none => s
  if s.atomicProto = 0 then s.atomicMute
  else if s.atomicProto = 1 then
    { s with atomic := { s.atomic with sent := steerSentence s.atomic.seq s.atomic.adj, seq := (s.atomic.seq + 1) % 256 } }
  else s

/-- A steering reply (R143): `st` is its letter, L, U or W in ASCII. -/
def opAtomicReply (ok : Bool) (seq st : Nat) (s : State) : State :=
  if s.atomicProto != 1 then s
  else if !ok || seq != (s.atomic.seq + 255) % 256 || !([76, 85, 87].contains st) then
    { s with atomic := { s.atomic with discarded := bump s.atomic.discarded } }
  else s.atomicStatus (if st = 76 then 3 else if st = 85 then 2 else 1)

/-! ## Meanings -/

/-- OVEN_SAMPLE (R145). -/
def execOvenSample (code : Nat) (pin : Bool) (s : State) : Host.Outcome State Fault Refusal := .next (opOvenSample code pin s)

/-- OVEN_LOOP_STEP (R145). -/
def execOvenLoopStep (s : State) : Host.Outcome State Fault Refusal := .next (opOvenStep s)

/-- WARM_FLAG_RISE (R150). -/
def execWarmFlagRise (now : Nat) (s : State) : Host.Outcome State Fault Refusal := .next (opWarmRise (s.atTime now))

/-- WARM_FLAG_FALL (R150). -/
def execWarmFlagFall (now : Nat) (s : State) : Host.Outcome State Fault Refusal := .next (opWarmFall (s.atTime now))

/-- ATOMIC_STEER_SEND (R143). -/
def execAtomicSteerSend (s : State) : Host.Outcome State Fault Refusal := .next (opSteer s)

/-- ATOMIC_REPLY_RX (R143). -/
def execAtomicReplyRx (ok : Bool) (seq st : Nat) (s : State) : Host.Outcome State Fault Refusal :=
  .next (opAtomicReply ok seq st s)

/-- ATOMIC_SILENT_TIMEOUT (R143). -/
def execAtomicSilentTimeout (s : State) : Host.Outcome State Fault Refusal := .next (s.setAtomic 0)

end Sys2Proof.Machine
end

