-- ==== Sys2Proof/Machine/EngineSys.lean ====
section
/-!
DEFINITION. The time, queue, crypto and control instructions of the engines, with the control registers (R339–R343, R364–R368).
-/
set_option Elab.async false
namespace Sys2Proof.Machine

/-! ## Time instructions (R339) -/

/-- TNOW (R339): a time engine writes the pair gd, g(d+1), and an odd d traps ILLEGAL. -/
def opTnow (e d : Nat) (s : State) : State :=
  let word := wordR 0x38 d 0 0 0
  opIns e word (fun s =>
    if isSc e then (s.advance e word []).setReg e d (s.nsc * 65536 + s.tb.lc % 65536)
    else if d % 2 = 1 then s.trapIns e word 1
    else ((s.advance e word []).setReg e d s.nsc).setReg e (d + 1) (s.tb.lc % 65536)) s

/-- TSEQ (R339). -/
def opTseq (e d : Nat) (s : State) : State :=
  let word := wordR 0x38 d 0 0 1
  opIns e word (fun s => (s.advance e word []).setReg e d s.aseqNow) s

/-- The accesses of TEXT, or none where it traps ACCESS. -/
def State.textLocs (s : State) (e a b : Nat) : Option (Loc × Loc) :=
  match s.locate e (s.reg e a) 8 (·.r), s.locate e (s.reg e b) 12 (·.w) with
  | some x, some y => some (x, y)
  | _, _ => none

/-- TEXT (R339): a stamp record at ga is extended as R52, and its TIME96 written at gb; STALE writes nothing. -/
def opText (e d a b : Nat) (s : State) : State :=
  let word := wordR 0x38 d a b 2
  opIns e word (fun s =>
    match s.textLocs e a b with
    | none => s.trapIns e word 2
    | some (x, y) =>
      let v := leNat (s.readLoc e x 8)
      match s.extend (fld v 0 6) (fld v 6 1) with
      | some t =>
        ((s.advance e word (accessEvent x false ++ accessEvent y true)).writeLoc e y (leBytes 12 (time96 t))).setReg e d 0
      | none => (s.advance e word (accessEvent x false ++ [(0x16, 1)])).setReg e d 1) s

/-- The NSC has reached a target (R339, R340). -/
def State.reached (s : State) (t : Nat) : Bool := decide ((s.nsc + 4294967296 - t % 4294967296) % 4294967296 < 2147483648)

/-- TWAIT (R339): the engine stalls until the NSC reaches ga. -/
def opTwait (e a : Nat) (s : State) : State :=
  let word := wordR 0x38 0 a 0 3
  opIns e word (fun s =>
    let t := s.reg e a % 4294967296
    if s.reached t then s.advance e word []
    else (s.retire e word [] false).onEng e (fun g => { g with stall := .twait t })) s

/-- A stalled engine goes on behind its instruction; a gated one stays (R349). -/
def State.resume (s : State) (e : Nat) : State :=
  if s.engHeld e then s else s.onEng e (fun g => { g with stall := .none, pc := g.pc + 4 })

/-- TWAIT_RESUME (R339). -/
def opTwaitResume (e : Nat) (s : State) : State :=
  match (s.eng e).stall with
  | .twait t => if s.reached t then s.resume e else s
  | .none => s
  | .qwait _ _ => s
  | .cwait _ _ => s
  | .idle => s

/-- GADD and GMAX (R339). -/
def opGirth (e d a b fn : Nat) (f : Nat → Nat → Nat) (s : State) : State :=
  let word := wordR 0x38 d a b fn
  opIns e word (fun s => (s.advance e word []).setReg e d (f (s.reg e a % 4294967296) (s.reg e b % 4294967296))) s

/-! ## Queue instructions (R340, R346, R347) -/

/-- Records of a queue as the instructions see them; the doorbell's entries are words. -/
def State.qRecs (s : State) (q : Nat) : List (List Byte × Bool) :=
  if q = 0xC8 then s.engs.doorbell.map (fun v => (leBytes 4 v, false)) else s.recs q

/-- A queue may be used: outside the table, or a Gelusk queue in program mode, it traps PRIV. -/
def State.qOk (s : State) (e q : Nat) : Bool := (q < 0xC0 && !(s.eng e).program) || (0xC0 ≤ q && q ≤ 0xC8)

/-- The oldest record leaves a queue. -/
def State.qDrop (s : State) (q : Nat) : State :=
  if q = 0xC8 then { s with engs := { s.engs with doorbell := s.engs.doorbell.tail } }
  else s.setQueue q (s.recs q).tail (s.dropDue q)

/-- QPOP's destination: DMEM or the DRAM window (R340). -/
def State.popLoc (s : State) (e addr len : Nat) : Option Loc :=
  match s.locate e addr len (·.w) with
  | some (.dmem o) => some (.dmem o)
  | some (.dram a) => some (.dram a)
  | some (.sram _) => none
  | some (.window _) => none
  | some .device => none
  | none => none

/-- QPOP (R340). -/
def opQpop (e d a b : Nat) (s : State) : State :=
  let word := wordR 0x39 d a b 0
  opIns e word (fun s =>
    let q := s.reg e a % 256
    if !s.qOk e q then s.trapIns e word 3
    else match s.qRecs q with
      | [] => (s.advance e word []).setReg e d 0
      | (r, mark) :: _ =>
        match s.popLoc e (s.reg e b) r.length with
        | none => s.trapIns e word 2
        | some l =>
          let evs := accessEvent l true ++ [(0x10, 1)] ++ (if mark then [(0x11, 1)] else [])
          (((s.advance e word evs).qDrop q).writeLoc e l r).setReg e d (r.length % 16777216 + (if mark then 2147483648 else 0))) s

/-- A value is pushed (R340, R347): the flag tells whether the queue took it. -/
def State.qPush (s : State) (e q v : Nat) : State × Bool :=
  if q = 0xC8 then
    if s.engs.doorbell.length < 64 then
      let t := { s with engs := { s.engs with doorbell := s.engs.doorbell ++ [v % 4294967296] } }
      (s.irqEdge t, true)
    else (s, false)
  else
    let depth := if q < 0xC0 then Config.queueDepth q else 256
    if (s.recs q).length < depth then s.enqueue q depth (leBytes (engWidth e / 8) v) else (s, false)

/-- QPUSH (R340). -/
def opQpush (e d a b : Nat) (s : State) : State :=
  let word := wordR 0x39 d a b 1
  opIns e word (fun s =>
    let q := s.reg e a % 256
    if !s.qOk e q then s.trapIns e word 3
    else
      match s.qPush e q (s.reg e b) with
      | (t, true) => (t.advance e word []).setReg e d 0
      | (t, false) => (t.advance e word [(0x12, 1)]).setReg e d 1) s

/-- QSTAT (R340). -/
def opQstat (e d a : Nat) (s : State) : State :=
  let word := wordR 0x39 d a 0 2
  opIns e word (fun s =>
    let q := s.reg e a % 256
    if !s.qOk e q then s.trapIns e word 3 else (s.advance e word []).setReg e d (s.qRecs q).length) s

/-- QWAIT (R340): a b field of 0 sets no deadline. -/
def opQwait (e a b : Nat) (s : State) : State :=
  let word := wordR 0x39 0 a b 3
  opIns e word (fun s =>
    let q := s.reg e a % 256
    let dl := if b % 32 = 0 then none else some (s.reg e b % 4294967296)
    if !s.qOk e q then s.trapIns e word 3
    else if !(s.qRecs q).isEmpty || dl.any s.reached then s.advance e word []
    else (s.retire e word [] false).onEng e (fun g => { g with stall := .qwait q dl })) s

/-- QWAIT_RESUME (R340). -/
def opQwaitResume (e : Nat) (s : State) : State :=
  match (s.eng e).stall with
  | .qwait q dl => if !(s.qRecs q).isEmpty || dl.any s.reached then s.resume e else s
  | .none => s
  | .twait _ => s
  | .cwait _ _ => s
  | .idle => s

/-! ## Crypto instructions (R341) -/

/-- CSUB (R341): the descriptor lies in DMEM; 0xFFFF when the submission queue is full. -/
def opCsub (e d a : Nat) (s : State) : State :=
  let word := wordR 0x3A d a 0 0
  opInsMon e word (fun s =>
    match s.locate e (s.reg e a) 32 (·.r) with
    | some (.dmem o) =>
      if s.vault.jobs.length < Config.jobQueueDepth then
        let tag := Config.jobTag s.freeCount % 0xFFFF
        ((s.advance e word [(8, 1), (0x13, 1)]).submit e tag (memRead (s.eng e).dmem o 32)).setReg e d tag
      else (s.advance e word [(8, 1)]).setReg e d 0xFFFF
    | some (.sram _) => s.trapIns e word 2
    | some (.window _) => s.trapIns e word 2
    | some .device => s.trapIns e word 2
    | some (.dram _) => s.trapIns e word 2
    | none => s.trapIns e word 2) s

/-- CWAIT (R341). -/
def opCwait (e d a : Nat) (s : State) : State :=
  let word := wordR 0x3A d a 0 1
  opInsMon e word (fun s =>
    let tag := s.reg e a % 65536
    match s.engs.done.find? (fun x => x.2.1 == tag) with
    | some x =>
      let s := { s with engs := { s.engs with done := s.engs.done.erase x } }
      (s.advance e word (if x.2.2 = 0 then [] else [(0x14, 1)])).setReg e d x.2.2
    | none => (s.retire e word [] false).onEng e (fun g => { g with stall := .cwait d tag })) s

/-- CRAND (R341): gd from the random source, a free value. -/
def opCrand (e d : Nat) (s : State) : State :=
  let word := wordR 0x3A d 0 0 2
  opInsMon e word (fun s =>
    let (v, s) := s.draw
    (s.advance e word []).setReg e d v) s

/-! ## Control registers (R343, R364) -/

/-- The trap that an access to a CSR takes, 0 for none: reserved numbers, and accesses that the table does not give, are
ILLEGAL; monitor-only ones in program mode are PRIV (log entry 53). -/
def State.csrCause (s : State) (e n : Nat) (write : Bool) : Nat :=
  let prog := (s.eng e).program
  if n ≤ 1 then (if write then 1 else 0)
  else if n ≤ 4 then (if prog then 3 else 0)
  else if n = 5 then (if isSc e then 1 else if write && prog then 3 else 0)
  else if n = 6 then (if isSc e then 0 else 1)
  else if n = 7 then (if write then 0 else 1)
  else if n = 8 then 0
  else if 0x10 ≤ n && n < 0x20 then (if prog then 3 else 0)
  else if n = 0x100 || n = 0x101 || (0x108 ≤ n && n < 0x11C) then 0
  else 1

/-- A chained pair is read low half first: the even counter latches the odd one (R365). -/
def Pmc.readCount (p : Pmc) (i : Nat) : Pmc × Nat :=
  if i % 2 = 0 then
    if bit (p.sel.getD (i + 1) 0) 8 then
      ({ p with shadow := p.shadow.set (i / 2) (some (p.count.getD (i + 1) 0)) }, p.count.getD i 0)
    else (p, p.count.getD i 0)
  else
    match p.shadow.getD (i / 2) none with
    | some v => ({ p with shadow := p.shadow.set (i / 2) none }, v)
    | none => (p, p.count.getD i 0)

/-- A counter CSR is read (R364). -/
def Pmc.read (p : Pmc) (sc : Bool) (n : Nat) : Pmc × Nat :=
  if n = 0x100 then
    (if sc then (p, p.cyc) else ({ p with cycH := p.cyc / 4294967296 }, p.cyc % 4294967296))
  else if n = 0x101 then (p, p.cycH)
  else if n < 0x110 then p.readCount (n - 0x108)
  else if n < 0x118 then (p, p.sel.getD (n - 0x110) 0)
  else if n = 0x118 then (p, p.ctl)
  else if n = 0x119 then (p, p.ovf)
  else if n = 0x11A then (p, p.smpCtl)
  else (p, p.smpSel)

/-- An event code as PMSEL and SMPSEL store it: a reserved one is stored as 0 (R368). -/
def eventCode (v : Nat) : Nat := if v % 256 ≤ 0x18 then v % 256 else 0

/-- A counter CSR is written (R364, R365). -/
def Pmc.write (p : Pmc) (sc : Bool) (n v : Nat) : Pmc :=
  if n = 0x100 then { p with cyc := if sc then v else p.cyc / 4294967296 * 4294967296 + v % 4294967296 }
  else if n = 0x101 then p
  else if n < 0x110 then { p with count := p.count.set (n - 0x108) (v % 4294967296) }
  else if n < 0x118 then
    let i := n - 0x110
    { p with sel := p.sel.set i (eventCode v + (if i % 2 = 1 && bit v 8 then 256 else 0)) }
  else if n = 0x118 then
    let p := { p with ctl := ofBits [bit v 0, bit v 1, false, bit v 3] }
    if bit v 2 then { p with cyc := 0, count := List.replicate 8 0 } else p
  else if n = 0x119 then { p with ovf := (List.range 8).foldl (fun o i => if bit v i then setBit o i false else o) p.ovf }
  else if n = 0x11A then { p with smpCtl := v % 16777216 + (if bit v 31 then 2147483648 else 0) }
  else { p with smpSel := eventCode v }

/-- A CSR is read: its value, and the state with what the read latches. -/
def State.csrRead (s : State) (e n : Nat) : State × Nat :=
  let g := s.eng e
  if n = 0 then (s, e)
  else if n = 1 then (s, b2n g.program)
  else if n = 2 then (s, g.trapPc)
  else if n = 3 then (s, g.cause)
  else if n = 4 then (s, g.trapBase)
  else if n = 5 then (s, g.dwin)
  else if n = 6 then (s, g.fpstat)
  else if n = 8 then (s, g.evmask)
  else if n < 0x20 then
    let x := g.prot.getD ((n - 0x10) / 2) Region.init
    (s, if n % 2 = 0 then x.base else x.limit)
  else
    let (p, v) := g.pmc.read (isSc e) n
    (s.onEng e (fun g => { g with pmc := p }), v)

/-- A CSR is written. -/
def State.csrWrite (s : State) (e n v : Nat) : State :=
  s.onEng e (fun g =>
    if n = 2 then { g with trapPc := v }
    else if n = 3 then { g with cause := v % 256 }
    else if n = 4 then { g with trapBase := v }
    else if n = 5 then { g with dwin := v / 1048576 * 1048576 }
    else if n = 6 then { g with fpstat := v % 32 }
    else if n = 7 then { g with kicked := s.tb.lc }
    else if n = 8 then { g with evmask := v % 8 }
    else if n < 0x20 then
      { g with prot := upd (fun x => if n % 2 = 0 then { x with base := v } else { x with limit := v }) ((n - 0x10) / 2) g.prot }
    else { g with pmc := g.pmc.write (isSc e) n v })

/-- RDC (R343). -/
def opRdc (e d imm : Nat) (s : State) : State :=
  let word := wordK 0x3B d 0 imm
  opIns e word (fun s =>
    let c := s.csrCause e (imm % 65536) false
    if c != 0 then s.trapIns e word c
    else
      let (t, v) := s.csrRead e (imm % 65536)
      (t.advance e word []).setReg e d v) s

/-- WRC (R343): a written counter keeps its value against the events of the same cycle, and a PMOVF flag is set again by an overflow of it
(R366). -/
def opWrc (e a imm : Nat) (s : State) : State :=
  let word := wordK 0x3C 0 a imm
  opIns e word (fun s =>
    let c := s.csrCause e (imm % 65536) true
    if c != 0 then s.trapIns e word c
    else if imm % 65536 = 0x119 then (s.csrWrite e 0x119 (s.reg e a)).advance e word []
    else (s.advance e word []).csrWrite e (imm % 65536) (s.reg e a)) s

/-! ## Control (R342) -/

/-- IDLE (R342): the engine stalls until an event enabled in EVMASK occurs. -/
def opIdle (e : Nat) (s : State) : State :=
  let word := wordR 0x3D 0 0 0 0
  opIns e word (fun s => (s.retire e word [] false).onEng e (fun g => { g with stall := .idle, events := 0 })) s

/-- IDLE_WAKE (R342). -/
def opIdleWake (e : Nat) (s : State) : State :=
  if (s.eng e).stall == .idle && (s.eng e).events != 0 && !s.engHeld e then (s.resume e).onEng e (fun g => { g with events := 0 }) else s

/-- TRET (R342). -/
def opTret (e : Nat) (s : State) : State :=
  let word := wordR 0x3D 0 0 0 2
  opIns e word (fun s => s.done e word [] (s.eng e).trapPc) s

/-! ## The commands -/

/-- TNOW (R339). -/
def execTnow (now e d : Nat) (s : State) : Host.Outcome State Fault Refusal := .next (opTnow e d (s.atTime now))

/-- TSEQ (R339). -/
def execTseq (e d : Nat) (s : State) : Host.Outcome State Fault Refusal := .next (opTseq e d s)

/-- TEXT (R339): a stamp record or a result in the device window stops the model. -/
def execText (e d a b : Nat) (s : State) : Host.Outcome State Fault Refusal :=
  match (if s.engRuns e && s.pcOk e then s.textLocs e a b else none) with
  | some (x, y) => if x == .device || y == .device then .fault .deviceWindow else .next (opText e d a b s)
  | none => .next (opText e d a b s)

/-- TWAIT (R339). -/
def execTwait (now e a : Nat) (s : State) : Host.Outcome State Fault Refusal := .next (opTwait e a (s.atTime now))

/-- TWAIT_RESUME (R339). -/
def execTwaitResume (now e : Nat) (s : State) : Host.Outcome State Fault Refusal := .next (opTwaitResume e (s.atTime now))

/-- GADD (R339). -/
def execGadd (e d a b : Nat) (s : State) : Host.Outcome State Fault Refusal := .next (opGirth e d a b 4 (fun x y => gsum [x, y]) s)

/-- GMAX (R339). -/
def execGmax (e d a b : Nat) (s : State) : Host.Outcome State Fault Refusal := .next (opGirth e d a b 5 max s)

/-- QPOP (R340). -/
def execQpop (e d a b : Nat) (s : State) : Host.Outcome State Fault Refusal := .next (opQpop e d a b s)

/-- QPUSH (R340). -/
def execQpush (e d a b : Nat) (s : State) : Host.Outcome State Fault Refusal := .next (opQpush e d a b s)

/-- QSTAT (R340). -/
def execQstat (e d a : Nat) (s : State) : Host.Outcome State Fault Refusal := .next (opQstat e d a s)

/-- QWAIT (R340). -/
def execQwait (now e a b : Nat) (s : State) : Host.Outcome State Fault Refusal := .next (opQwait e a b (s.atTime now))

/-- QWAIT_RESUME (R340). -/
def execQwaitResume (now e : Nat) (s : State) : Host.Outcome State Fault Refusal := .next (opQwaitResume e (s.atTime now))

/-- CSUB (R341). -/
def execCsub (e d a : Nat) (s : State) : Host.Outcome State Fault Refusal := .next (opCsub e d a s)


/-- CWAIT (R341). -/
def execCwait (e d a : Nat) (s : State) : Host.Outcome State Fault Refusal := .next (opCwait e d a s)

/-- CRAND (R341). -/
def execCrand (e d : Nat) (s : State) : Host.Outcome State Fault Refusal := .next (opCrand e d s)

/-- RDC (R343). -/
def execRdc (e d imm : Nat) (s : State) : Host.Outcome State Fault Refusal := .next (opRdc e d imm s)

/-- WRC (R343). -/
def execWrc (now e a imm : Nat) (s : State) : Host.Outcome State Fault Refusal := .next (opWrc e a imm (s.atTime now))

/-- IDLE (R342). -/
def execIdle (e : Nat) (s : State) : Host.Outcome State Fault Refusal := .next (opIdle e s)

/-- IDLE_WAKE (R342). -/
def execIdleWake (e : Nat) (s : State) : Host.Outcome State Fault Refusal := .next (opIdleWake e s)

/-- STOP (R342). -/
def execStop (e : Nat) (s : State) : Host.Outcome State Fault Refusal :=
  .next (opIns e (wordR 0x3D 0 0 0 1) (fun s => s.trapIns e (wordR 0x3D 0 0 0 1) 5) s)

/-- TRET (R342). -/
def execTret (e : Nat) (s : State) : Host.Outcome State Fault Refusal := .next (opTret e s)

/-- DBG (R342). -/
def execDbg (e : Nat) (s : State) : Host.Outcome State Fault Refusal :=
  .next (opIns e (wordR 0x3D 0 0 0 3) (fun s => s.trapIns e (wordR 0x3D 0 0 0 3) 6) s)

end Sys2Proof.Machine
end

