-- ==== Sys2Proof/Machine/Synth.lean ====
section
/-!
DEFINITION. Output APLLs, outputs, the double-buffered commit, alignment, ToD sentences and IRIG-B frames (R153–R180).
-/
set_option Elab.async false
namespace Sys2Proof.Machine

/-! ## Frequencies (R153–R156) -/

/-- The nominal f_PFD, f_VCO and f_A lie in the ranges of R153, exactly. -/
def planOk (fosc : Nat) (p : Apll) : Bool :=
  let f := p.plan fosc
  let unit := 281474976710656 * p.p
  decide (p.p * 5000000000000 ≤ fosc) && decide (fosc ≤ p.p * 100000000000000) &&
  decide (4800000000000000 * unit ≤ f) && decide (f ≤ 6000000000000000 * unit) &&
  decide (600000000000000 * unit * p.q ≤ f) && decide (f ≤ 1500000000000000 * unit * p.q)

/-- Maximum f_out of a format, Hz (R165). -/
def formatMax (f : Nat) : Nat :=
  if f = 1 then 700000000 else if f < 4 then 1500000000 else if f < 6 then 250000000 else 200000000

/-- U_n: the one in force, or the table's where that has been raised, at once (R171, R514). -/
def State.outUnc (s : State) (n : Nat) : Nat := max (s.out n).skewUnc (s.calUnc (eid 0x0A n))

/-- At a second boundary an output takes its entry of the calibration table (R514). -/
def State.takeSkew (s : State) (n : Nat) : State :=
  s.onOut n (fun o => { o with skew := s.calVal (eid 0x0A n), skewUnc := s.calUnc (eid 0x0A n) })

/-! ## State of an output (R160–R164) -/

/-- The output's APLL is in relock (R162). -/
def State.inRelock (s : State) (n : Nat) : Bool := let l := (s.apll (s.out n).apll).lock; l == 2 || l == 3

/-- The rows 0x00 to 0x03 of R160: the first that holds. -/
def State.outStop (s : State) (n : Nat) : Option Nat :=
  let o := s.out n
  if !o.enable then some 0
  else if !s.halterOn then some 1
  else if s.inRelock n && o.holdOnRelock then some 2
  else if o.mode != 0 && s.synth.policy then some 3
  else none

/-- |a| > q_f / 2 (R153, R170). -/
def State.misaligned (s : State) (n : Nat) : Bool := decide (2048000000000000000 < (s.out n).alignErr.natAbs * 2 * s.outVco n)

/-! ## Targets and edges (R156, R159, R167–R170) -/

/-- A start point of R159: any edge of a divider that is not tied to time; else a target, that of k = 0 for a clock and an IRIG-B
output, which falls within a TB cycle of the present one. While the framers free-run, those of a stopped output place targets of their
own too (R164). -/
def State.startPoint (s : State) (n : Nat) : Bool :=
  let r := if (s.out n).mode = 1 then (s.out n).rate else 1
  let c := (s.countAt s.tb.lc).inc
  !s.targeted n || decide ((s.targetPos n s.tb.lc + c) * r % 65536000000000 < 2 * c * r)

/-- OUTn_STATE (R160). -/
def State.outState (s : State) (n : Nat) : Nat :=
  match s.outStop n with
  | some x => x
  | none =>
    let o := s.out n
    if !o.running then 4
    else if s.inRelock n then 8
    else if o.freeRun then 7
    else if s.targeted n && s.misaligned n then 6
    else 5

/-- An output may start at a start point (R158–R162, R167, R453, R502). -/
def State.mayStart (s : State) (n : Nat) : Bool :=
  let o := s.out n
  !s.standby && (s.outStop n).isNone && !o.running && !o.committing && decide (o.notBefore ≤ s.tb.lc) &&
  (s.apll o.apll).lock == 1 && (s.start.bootDone || s.start.inReset) &&
  (o.mode == 0 || (s.tb.isSet && (o.startGate == 0 || s.start.state == .locked)))

/-- G_n (R171); unbounded in the cases of R160, R162, R168, R170 and for clock outputs that are not aligned. -/
def State.outGirth (s : State) (n : Nat) : Nat :=
  let o := s.out n
  if s.outState n < 5 || o.girthHeld || o.loopDead || !s.targeted n || s.cal.unusable then girthUnknown
  else
    let f := 64 * s.outVco n
    let q := 65536000000000000000
    let x := (o.alignErr.natAbs + 3 * o.sigma + s.outUnc n) * f + q +
      (if o.freeRun then 64 * q * (s.apll o.apll).q else 0)
    gsum [s.gNow, min girthUnknown (cdiv x (4096 * f))]

/-- SYNTH_COMMIT_STATUS (R179). -/
def State.commitStatus (s : State) : Nat :=
  if s.synth.pending.isSome then 1 else if s.synth.relocking != 0 then 2 else 0

/-! ## Commit (R157, R158) -/

/-- The shadows of an APLL. -/
def State.apllShadow (s : State) (a : Nat) : Apll :=
  { (s.apll a) with p := s.apllP a, nInt := s.apllNInt a, nFrac := s.apllNFrac a, q := s.apllQ a }

/-- The shadows of an output, with what the output is doing. -/
def State.outShadow (s : State) (n : Nat) : Output :=
  { (s.out n) with
    enable := s.outEnable n, apll := s.outApll n, div := s.outDiv n, format := s.outFormat n, mode := s.outMode n
    phase := s.outPhase n, rate := s.outPulseRate n, width := s.outPulseWidth n, align := s.outAlign n
    holdOnRelock := s.outHoldOnRelock n, stepAllow := s.outStepAllow n, stepMin := s.outStepMin n, idle := s.outIdle n
    irigCode := s.outIrigCode n, irigScale := s.outIrigScale n, irigCf := s.outIrigCf n, irigMr := s.outIrigMr n
    startGate := s.outStartGate n }

/-- A commit of a mask includes an output: its current or its shadow APLL is in the mask (R157). -/
def State.included (s : State) (mask n : Nat) : Bool := bit mask (s.out n).apll || bit mask (s.outApll n)

/-- The pending commit includes a shadow: an APLL's (R158). -/
def State.apllLocked (s : State) (a : Nat) : Bool :=
  match s.synth.pending with
  | some (m, _, _) => bit m a
  | none => false

/-- The pending commit includes a shadow: an output's (R158). -/
def State.outLocked (s : State) (n : Nat) : Bool :=
  match s.synth.pending with
  | some (_, outs, _) => bit outs n
  | none => false

/-- The checks of an included output against the plan that would be in force (R156, R165, R166, R167, R176). -/
def State.outPlanOk (s : State) (mask n : Nat) : Bool :=
  let o := s.outShadow n
  let p := if bit mask o.apll then s.apllShadow o.apll else s.apll o.apll
  (o.irigCf == 0 || ((o.irigCode == 4 || o.irigCode == 5) && o.irigScale == 0)) &&
  (if o.mode = 0 then
    decide (0 < o.div) &&
      decide (p.plan s.synth.fosc ≤ formatMax o.format * 1000000 * o.div * p.q * p.p * 281474976710656)
  else if o.mode = 1 then
    decide (0 < o.rate) && 1000000000 % o.rate == 0 && decide (10 ≤ o.width) && decide (o.width + 10 ≤ 1000000000 / o.rate)
  else if o.mode = 3 then decide (4 ≤ o.format)
  else true)

/-- SYNTH_COMMIT's code (R155–R158): 0x09 while a commit is pending, 0x08 for a plan out of range. -/
def State.okCommit (s : State) (mask : Nat) : Nat :=
  if s.synth.pending.isSome then 0x09
  else if (List.range 4).all (fun a => !bit mask a || planOk s.synth.fosc (s.apllShadow a)) &&
      (List.range 16).all (fun n => !s.included mask n || s.outPlanOk mask n) then 0
  else 0x08

/-- A commit is scheduled (R157): for the next boundary when at least 10 ms of the second remain. -/
def opCommit (mask : Nat) (s : State) : State :=
  let left := 65536000000000 - s.full % 65536000000000
  let due := if left < 655360000000 then bump s.tb.nextAseq else s.tb.nextAseq
  { s with synth := { s.synth with pending := some (mask, ofBits ((List.range 16).map (s.included mask)), due) } }

/-- An APLL takes its shadows: a relock when a value changes or the APLL was off (R158). -/
def State.loadApll (s : State) (a : Nat) : State :=
  let p := s.apllShadow a
  if p == s.apll a && p.lock != 0 then s
  else
    let s := s.draw.2.onApll a (fun _ => { p with lock := if p.lock = 3 then 3 else 2, pull := s.draw.1 })
    { s with synth := { s.synth with relocking := setBit s.synth.relocking a true } }

/-- An output takes its shadows (R158, R162): it stops, with no pulse or frame at the boundary itself, and restarts, but for one whose objects do not change and whose
OUTn_HOLD_ON_RELOCK is 0, which runs on through its APLL's relock (log entry 126). A stopped one drives its idle level (R159). -/
def State.loadOut (s : State) (n : Nat) : State :=
  let o := s.out n
  let w := s.outShadow n
  let s := if w == o && !o.holdOnRelock && s.inRelock n then s.onOut n (fun o => { o with girthHeld := true })
    else
      let s := s.stopDue n
      let free := w.mode != 0 && (o.freeRun || s.group 5 != 1)
      s.onOut n (fun x =>
        { w with committing := x.committing, highTo := x.highTo, notBefore := max o.notBefore (s.tb.lc + 1), placed := 0, move := 0
                 heldTo := 0, girthHeld := false, frame := none, nextFrame := none, stream := none
                 freeRun := free, shift := if o.freeRun then o.shift else s.driftAt s.tb.lc
                 highZ := if o.running then o.highZ else !s.halterOn || w.idle == 1 })
  s.fixRate (12 + n)

/-- The commit is applied at its boundary (R157, R158). -/
def opCommitApply (s : State) : State :=
  match s.synth.pending with
  | none => s
  | some (mask, outs, due) =>
    if 2147483648 ≤ (s.aseqNow + 4294967296 - due) % 4294967296 then s
    else
      let s := { s with synth := { s.synth with pending := none } }
      let s := (bitList 4 mask).foldl State.loadApll s
      (bitList 16 outs).foldl State.loadOut s

/-- Loss of lock of an output APLL (R163): an APLL that is off has no lock to lose. -/
def opApllLoss (a : Nat) (s : State) : State :=
  if a < 4 && (s.apll a).lock != 0 then
    let s := s.draw.2.onApll a (fun p => { p with lock := 3, loss := bump p.loss, pull := s.draw.1 })
    let s := s.stopAll (fun o => o.apll = a && o.holdOnRelock)
    let s := s.onOuts (fun o => if o.apll = a && o.running && !o.holdOnRelock then { o with girthHeld := true } else o)
    s.raise 0x0007 a
  else s

/-! ## Alignment (R169, R170) -/

/-- A time wrapped into (−P/2, +P/2] of an output's period (R170). -/
def State.wrapP (s : State) (n : Nat) (t : Int) : Int :=
  let f := max 1 (s.edgeRate n)
  let x := t * f % 65536000000000
  rdiv (if 32768000000000 < x then x - 65536000000000 else x) f

/-- The error of one loopback record against its target at the edge's own time, 2⁻¹⁶ ns, wrapped into (−P/2, +P/2] (R105, R164, R169,
R170). -/
def State.edgeError (s : State) (n : Nat) (r : TiuRec) : Int := s.wrapP n (s.targetPos n r.stamp)

/-- An error moved by whole periods next to another. -/
def State.unwrapTo (s : State) (n : Nat) (near e : Int) : Int :=
  let f : Int := max 1 (s.edgeRate n)
  e + rdiv (rdiv ((near - e) * f) 65536000000000 * 65536000000000) f.toNat

/-- The loopback records of the last second (R170). -/
def State.loopRecs (s : State) (n : Nat) : List TiuRec :=
  (s.chan (12 + n)).window.filter (fun r => decide (s.tb.lc < r.stamp + secs 1) && bit r.status 0 && !bit r.status 2)

/-- Of the loopback records of the last second: the mean of their errors against their targets (R170), and the standard deviation of
their phase errors, which are against the instants at which the edges were placed (R105, R171). None without a record. -/
def State.loopStats (s : State) (n : Nat) : Option (Int × Nat) :=
  match (s.loopRecs n).map (fun r => (s.edgeError n r, s.placedAt n r.stamp)) with
  | [] => none
  | p :: t =>
    let l := p :: t.map (fun x => (s.unwrapTo n p.1 x.1, x.2))
    let e := l.map (fun x => x.1 - x.2)
    let mean := rdiv e.sum l.length
    let var := (e.map (fun x => ((x - mean) * (x - mean)).toNat)).sum / l.length
    some (s.wrapP n (rdiv (l.map (·.1)).sum l.length), isqrtUp var)

/-- A slew that has reached long count `lc` ends there. -/
def State.settleMove (s : State) (n : Nat) : State :=
  let p := s.placedAt n s.tb.lc
  s.onOut n (fun o => { o with placed := p, move := 0 })

/-- A step of R170 that takes out the error `a`: the high phase in progress ends as it would, and the output then stays at its idle level
until its next edge, which an early one makes on its target, a late one one target later. -/
def State.stepOut (s : State) (n : Nat) (a : Int) : State :=
  let o := s.out n
  let r : Int := max 1 (s.edgeRate n)
  let placed := o.placed + s.fineTime n (s.toFine n (-a))
  let next := (s.targetPos n s.tb.lc - s.placedAt n s.tb.lc) * r / 65536000000000 + (if a < 0 then 1 else 2)
  let ahead := next * 65536000000000 - (s.targetPos n s.tb.lc - placed) * r
  let left := s.highLeft n
  s.onOut n (fun o => { o with placed := placed, highTo := s.tb.lc + left, heldTo := s.tb.lc + cdiv ahead.toNat r.toNat })

/-- What R170 does about an error `a`: a step with its F0 record, or a slew over the edges of the coming second. -/
def State.correct (s : State) (n : Nat) (a : Int) : State :=
  let o := s.out n
  if o.stepAllow && decide (o.stepMin * nsUnits ≤ a.natAbs) then (s.stepOut n a).raise 0x0601 n (unsigned 8 a)
  else
    let k : Int := min a.natAbs (s.synth.slewRate * nsUnits / 1000)
    s.onOut n (fun o => { o with move := s.toFine n (if a < 0 then k else -k), moveFrom := s.tb.lc })

/-- The alignment check of an output (R170). -/
def opAlignCheck (n : Nat) (s : State) : State :=
  if (s.out n).running && s.targeted n then
    let stats := s.loopStats n
    let s := s.settleMove n
    let s := match stats with
      | some (a, sd) => s.onOut n (fun o => { o with alignErr := a, sigma := sd, loopDead := false })
      | none => if (s.out n).loopDead then s.onOut n (fun o => { o with alignErr := s.wrapP n o.placed }) else s
    if s.misaligned n then s.correct n (s.out n).alignErr
    else s.onOut n (fun o => { o with girthHeld := o.girthHeld && s.inRelock n })
  else s

/-- The loopback has delivered no valid record for 10 s (R170). -/
def opLoopTimeout (n : Nat) (s : State) : State :=
  let p := s.placedAt n s.tb.lc
  s.onOut n (fun o => { o with loopDead := true, alignErr := s.wrapP n p })

/-- A time-base step moves the targets of running outputs by the step modulo P (R170). -/
def State.stepTargets (s : State) (ns : Int) : State :=
  (List.range 16).foldl (fun s n =>
    if (s.out n).running && s.targeted n then
      let d := s.wrapP n (ns * 65536)
      s.onOut n (fun o => { o with placed := o.placed + d, alignErr := s.wrapP n (o.alignErr + d) })
    else s) s

/-! ## Calendar (R66) -/

/-- The civil date of a day counted from 1 January 1970: year, month, day. -/
def civil (days : Nat) : Nat × Nat × Nat :=
  let z := days + 719468
  let era := z / 146097
  let doe := z % 146097
  let yoe := (doe - doe / 1460 + doe / 36524 - doe / 146096) / 365
  let doy := doe - (365 * yoe + yoe / 4 - yoe / 100)
  let mp := (5 * doy + 2) / 153
  let m := if mp < 10 then mp + 3 else mp - 9
  (yoe + era * 400 + (if m ≤ 2 then 1 else 0), m, doy - (153 * mp + 2) / 5 + 1)

/-- A leap year. -/
def isLeapYear (y : Nat) : Bool := y % 4 == 0 && (y % 100 != 0 || y % 400 == 0)

/-- Day of the year, from 1. -/
def dayOfYear (y m d : Nat) : Nat :=
  ([31, if isLeapYear y then 29 else 28, 31, 30, 31, 30, 31, 31, 30, 31, 30, 31].take (m - 1)).sum + d

/-- UTC of a TAI second under R66: the day since 1970 and the second of the day, with the second that an insertion adds as
86,400. -/
def State.utcOf (s : State) (tai : Nat) : Nat × Nat :=
  let inserted := s.leapPending = 1 && tai + 1 = s.leapTai
  let u := ((tai : Int) - s.offsetInEffect tai - (if inserted then 1 else 0)).toNat
  (u / 86400, u % 86400 + (if inserted then 1 else 0))

/-- hh, mm, ss of a second of the day, 86,400 being 23:59:60. -/
def clockOf (t : Nat) : Nat × Nat × Nat := if t = 86400 then (23, 59, 60) else (t / 3600, t / 60 % 60, t % 60)

/-! ## ToD sentences and IRIG-B (R172–R177) -/

/-- Holdover, as the sentences show it (R172, R173). -/
def State.inHoldover (s : State) : Bool := s.servo.state == .holdover

/-- The ql field (R173). -/
def State.todQl (s : State) (last : Nat) : Nat :=
  if s.start.state != .locked || !s.girth.timeValid then 0xF
  else if s.switchingNow then last
  else if s.inHoldover || s.sel.current == 0xFF || s.classF s.sel.current then 8
  else s.qlEff s.sel.current

/-- Girth that a sentence carries: its source's (R172). -/
def State.todGirth (s : State) (src : Nat) : Nat := if src < 16 then s.outGirth src else s.gNow

/-- TAI second of the next edge of a source (R172). -/
def State.nextEdge (s : State) (src : Nat) : Nat :=
  let shift : Int := if src < 16 then (s.out src).phase - s.outSkew src else 0
  ((s.full - shift) / 65536000000000 + 1).toNat

/-- The sentence that names the next edge of its source (R172, R173). -/
def State.todSentence (s : State) (u : Nat) : TodSentence :=
  let x := s.synth.tod.getD u TodTx.init
  let tai := s.nextEdge x.source
  let (day, t) := s.utcOf tai
  let (y, m, d) := civil day
  let (hh, mm, ss) := clockOf t
  { format := x.format, tai := tai, date := y * 10000 + m * 100 + d, time := hh * 10000 + mm * 100 + ss, leap := s.leapPending
    off := s.offsetInEffect tai, ql := s.todQl x.lastQl, girth := s.todGirth x.source
    flags := ofBits [s.girth.timeValid, s.inHoldover, s.tb.utcValid,
                     s.accum.slewing || (decide (x.source < 16) && s.outState x.source == 6),
                     s.tb.pendStep.isSome || (match s.tb.pendSet with | some p => p.2 == 0 | none => false)] }

/-- A number of `n` decimal digits in ASCII. -/
def decPad : Nat → Nat → List Nat
  | 0, _ => []
  | n + 1, v => decPad n (v / 10) ++ [48 + v % 10]

/-- The characters of a sentence: `$GLTOD,…` in format 0x00, ZDA with the date and time of UTC in format 0x01 (R172; log entry 125). -/
def TodSentence.line (m : TodSentence) : List Nat :=
  let c : List Nat := [44]
  if m.format = 0 then
    sentence ([71, 76, 84, 79, 68] ++ c ++ decDigits 40 m.tai ++ c ++ decPad 8 m.date ++ c ++ decPad 6 m.time ++ c ++ decDigits 3 m.leap ++ c ++
      decInt m.off ++ c ++ hex2 m.ql ++ c ++ (hex2 (m.girth / 16777216) ++ hex2 (m.girth / 65536) ++ hex2 (m.girth / 256) ++ hex2 m.girth) ++
      c ++ hex2 m.flags)
  else
    sentence ([71, 80, 90, 68, 65] ++ c ++ decPad 6 m.time ++ [46, 48, 48] ++ c ++ decPad 2 (m.date % 100) ++ c ++
      decPad 2 (m.date / 100 % 100) ++ c ++ decPad 4 (m.date / 10000) ++ c ++ [48, 48] ++ c ++ [48, 48])

/-- TOD_TXu_DELAY has elapsed since the edge that precedes the named one, to its unit of 1 ms (R174). -/
def State.todMoment (s : State) (x : TodTx) : Bool :=
  let shift : Int := if x.source < 16 then (s.out x.source).phase - s.outSkew x.source else 0
  decide ((s.full - shift) % 65536000000000 / 65536000000 = (x.delay : Int))

/-- The source of a transmitter can be named: a pulse-mode output at 1 pulse/s in state 0x05, 0x06 or 0x07, or the time-base second once
the time has been set (R174). -/
def State.todSourceOk (s : State) (src : Nat) : Bool :=
  if src < 16 then
    (s.out src).mode == 1 && (s.out src).rate == 1 && decide (5 ≤ s.outState src) && decide (s.outState src ≤ 7)
  else src == 0xFF && s.tb.isSet

/-- A ToD sentence is sent (R174, R178). -/
def opTodTx (u : Nat) (s : State) : State :=
  let x := s.synth.tod.getD u TodTx.init
  if x.enable && !s.start.inReset && !s.synth.policy && s.todSourceOk x.source && s.todMoment x then
    let m := s.todSentence u
    { s with synth := { s.synth with tod := upd (fun x => { x with sent := some m, line := m.line, lastQl := m.ql }) u s.synth.tod } }
  else s

/-- Girth class of R176. -/
def girthClass (g : Nat) : Nat :=
  if g = girthUnknown then 31 else ((List.range 31).find? (fun k => decide (g ≤ 16 * 2 ^ k))).getD 31

/-- Time quality code of layout 0x01: the smallest whose bound covers the girth (R176; log entry 14). -/
def timeQuality (g : Nat) : Nat :=
  if g = girthUnknown then 15
  else match (List.range 11).find? (fun k => decide (g ≤ 16 * 10 ^ k)) with
  | some k => k + 1
  | none => 15

/-- The control functions of an IRIG-B output; bit i is position 60 + i (R176). -/
def State.irigCf (s : State) (n : Nat) (parity : Bool) : Nat :=
  let g := s.outGirth n
  if (s.out n).irigCf = 0 then
    ofBits [s.leapPending != 0, s.leapPending == 2, s.girth.timeValid, s.inHoldover] + 16 * s.todQl s.girth.ql +
      256 * b2n s.tb.utcValid + 1024 * girthClass g
  else ofBits [s.leapPending != 0, s.leapPending == 2] + 2048 * timeQuality g + 32768 * b2n parity

/-- The IRIG-B frame of an output for TAI second `tai` (R175, R176; log entry 14). -/
def State.irigFrame (s : State) (n tai : Nat) (parity : Bool) : IrigFrame :=
  let o := s.out n
  let (day, t) := if o.irigScale = 0 then s.utcOf tai else (tai / 86400, tai % 86400)
  let (y, m, d) := civil day
  let (hh, mm, ss) := clockOf t
  { year := if 4 ≤ o.irigCode then some (y % 100) else none
    day := dayOfYear y m d
    hour := hh
    minute := mm
    second := ss
    cf := if [0, 1, 4, 5].contains o.irigCode then some (s.irigCf n parity) else none
    sbs := if [0, 3, 4, 7].contains o.irigCode then some t else none }

/-- The frame of an IRIG-B output whose second S begins at the target S + OUTn_PHASE − OUTn_SKEW, formed at the anchor or the start before
it, and in mode 0x03 the stream that carries it: 4.096 MHz, a 1 kHz carrier (R169, R170, R175–R177; log entries 14, 157). A frame that
begins in this cycle is sent from now, another from its target on. A stopping output gets none (R158, R178). -/
def State.putFrame (s : State) (n : Nat) : State :=
  let o := s.out n
  if o.running && !o.committing && decide (2 ≤ o.mode) then
    let c := (s.countAt s.tb.lc).inc
    let pos := s.targetPos n s.tb.lc - s.placedAt n s.tb.lc + c
    let sec := pos / 65536000000000
    let into := pos % 65536000000000
    let now := decide (into < 2 * c)
    let f := s.irigFrame n (if now then sec else sec + 1).toNat (s.draw.1 % 2 == 1)
    s.draw.2.onOut n (fun o => { o with
      frame := if now then some f else o.frameAt s.tb.lc
      nextFrame := if now then none else some (s.tb.lc + c + (65536000000000 - into).toNat, f)
      stream := if o.mode = 3 then some ⟨4096000, 1000, o.irigMr⟩ else none })
  else s

/-! ## Start and stop (R159, R161) -/

/-- An output starts at its start point (R159). -/
def opOutStart (n : Nat) (s : State) : State :=
  if s.mayStart n && s.startPoint n then
    (s.onOut n (fun o => { o with running := true, highZ := false, starts := bump o.starts, placed := 0, move := 0, heldTo := 0
                                  highTo := 0, origin := s.tb.lc, frame := none, nextFrame := none })).putFrame n
  else s

/-- An output that must stop does so at the end of its high phase; one whose APLL has lost its clock is driven low by the stop stage
(R159, R161). -/
def opOutStop (n : Nat) (s : State) : State :=
  if (s.out n).running && ((s.outStop n).isSome || (s.out n).committing) &&
      (!s.outHigh n || (s.apll (s.out n).apll).lock == 3) then
    s.onOut n (fun o => { o with running := false, committing := false, frame := none, nextFrame := none, stream := none, move := 0
                                 heldTo := 0, highTo := 0, highZ := !s.halterOn || o.idle == 1 })
  else s

/-- What the outputs do at an anchor: HO_PULSE_POLICY, the settings of R180, and the frame of each IRIG-B output. -/
def State.synthAnchor (s : State) : State :=
  let pol := s.hoPulsePolicy == 1 && !s.girth.timeValid && (s.synth.policy || s.inHoldover)
  let tod := (List.range 2).map (fun u =>
    { (s.synth.tod.getD u TodTx.init) with enable := s.todTxEnable u, source := s.todTxSource u, format := s.todTxFormat u
                                           baud := s.todTxBaud u, delay := s.todTxDelay u })
  let s := { s with synth := { s.synth with policy := pol, slewRate := s.pulseSlewRate, tod := tod } }
  let s := if pol then s.stopAll (fun o => o.mode != 0) else s
  (List.range 16).foldl State.putFrame ((List.range 16).foldl State.takeSkew s)

/-! ## Meanings -/

/-- SYNTH_COMMIT_APPLY (R158). -/
def execSynthCommitApply (now : Nat) (s : State) : Host.Outcome State Fault Refusal := .next (opCommitApply (s.atTime now))

/-- OUTPUT_APLL_LOSS (R163). -/
def execOutputApllLoss (now a : Nat) (s : State) : Host.Outcome State Fault Refusal := .next (opApllLoss a (s.atTime now))

/-- OUTPUT_START (R159). -/
def execOutputStart (now n : Nat) (s : State) : Host.Outcome State Fault Refusal := .next (opOutStart n (s.atTime now))

/-- OUTPUT_STOP (R159). -/
def execOutputStop (now n : Nat) (s : State) : Host.Outcome State Fault Refusal := .next (opOutStop n (s.atTime now))

/-- OUTPUT_ALIGN_CHECK (R170). -/
def execOutputAlignCheck (now n : Nat) (s : State) : Host.Outcome State Fault Refusal := .next (opAlignCheck n (s.atTime now))

/-- LOOPBACK_TIMEOUT (R170). -/
def execLoopbackTimeout (n : Nat) (s : State) : Host.Outcome State Fault Refusal := .next (opLoopTimeout n s)

/-- TOD_SENTENCE_TX (R174). -/
def execTodSentenceTx (now u : Nat) (s : State) : Host.Outcome State Fault Refusal := .next (opTodTx u (s.atTime now))

end Sys2Proof.Machine
end

