-- ==== Sys2Proof/Machine/Lanes.lean ====
section
/-!
DEFINITION. Ports, Ethernet lanes and peer lanes (R231–R254), with what a port's loss and return do in the yard (R283), to
its PTP port (R293, R294) and to a SyncE reference (R81). Lanes 32 and 33 stand for PL0 and PL1 where a command names either.
-/
set_option Elab.async false
namespace Sys2Proof.Machine

/-! ## Ports (R231, R256) -/

/-- The lanes of a port, by its first lane: none in a quad that is powered down (R231). -/
def State.portLanes (s : State) (p : Nat) : List Nat :=
  if (s.quad (p / 4)).mode = 0 then []
  else if 4 ≤ (s.quad (p / 4)).mode then (List.range 4).map (p / 4 * 4 + ·) else [p]

/-- Port rate in Mbit/s (R231). -/
def portRate (mode : Nat) : Nat :=
  match mode with
  | 1 => 1000
  | 2 => 10000
  | 3 => 25000
  | 4 => 40000
  | 5 => 100000
  | _ => 0

/-- Line rate of a mode, Hz (R231). -/
def lineRate (mode : Nat) : Nat :=
  match mode with
  | 1 => 1250000000
  | 2 => 10312500000
  | 3 => 25781250000
  | 4 => 10312500000
  | 5 => 25781250000
  | _ => 1

/-- FEC that a mode accepts (R231, R233). -/
def fecOk (mode fec : Nat) : Bool :=
  match mode with
  | 1 => fec == 0
  | 2 => decide (fec < 2)
  | 3 => decide (fec < 3)
  | 4 => decide (fec < 2)
  | 5 => fec == 0 || fec == 2
  | _ => true

/-- Stamp profile (R256). -/
def stampProfile (mode fec : Nat) : Nat :=
  match mode with
  | 1 => 0
  | 2 => 1 + fec
  | 3 => 3 + fec
  | 4 => 6 + fec
  | 5 => 8 + fec / 2
  | _ => 3

/-- Bits of a PMA word (R231). -/
def wordBits (mode : Nat) : Nat :=
  match mode with
  | 1 => 10
  | 2 => 32
  | 3 => 64
  | 4 => 32
  | 5 => 64
  | _ => 64

/-- Bits from the boundary of the word that holds the mark to the first bit after the SFD (R256): 80 after the start of /S/, 66 after the
sync header of a start block, and under FEC those that the block or codeword locates. -/
def stampOffset (profile mark : Nat) : Nat :=
  if profile = 0 then mark + 80 else if [1, 3, 6, 8].contains profile then mark + 66 else mark

/-- The bit position b of the stamped bit within its PMA word (R256, R257). -/
def State.stampBit (s : State) (l mark : Nat) : Nat :=
  let q := s.quad (l / 4)
  stampOffset (stampProfile q.mode q.fec) mark % wordBits q.mode

/-- The link of a port is up: every lane reads 0x05 (R253). -/
def State.linkUp (s : State) (p : Nat) : Bool := !(s.portLanes p).isEmpty && (s.portLanes p).all (fun l => (s.lane l).state == 5)

/-- The enabled instance that a port belongs to (R291). -/
def State.instOfPort (s : State) (p : Nat) : Option Nat :=
  (List.range 4).find? (fun k => s.ptpEnable k && bit (s.ptpPorts k) p)

/-- The enabled SyncE references that take their clock from a lane (R74). -/
def State.seRefsOf (s : State) (l : Nat) : List Nat := [8, 9, 10, 11].filter (fun n => s.refEnable n && s.seLane n == l)

/-- The SyncE references of a lane lose their signal (R81). -/
def State.seLost (s : State) (l : Nat) : State := (s.seRefsOf l).foldl (fun s n => opLossOfSignal n s) s

/-- LANE_TIMING_PORT (R244). -/
def State.timingPort (s : State) (l : Nat) : Bool :=
  let p := s.portOf l
  (s.instOfPort p).isSome || s.portTcEnable p || (s.ntpEnable && bit s.ntpPorts p) || !(s.seRefsOf l).isEmpty

/-- Sleep is permitted on a lane (R247). -/
def State.sleepPermitted (s : State) (l : Nat) : Bool := s.laneLpiAllow l && !s.timingPort l

/-- LANE_LPI_STATE (R253). -/
def State.lpiState (s : State) (l : Nat) : Nat := ofBits [(s.lane l).txSleep, (s.lane l).rxSleep, s.sleepPermitted l]

/-- A lane that becomes a timing port lane wakes its transmit direction (R248). -/
def State.wakeTiming (s : State) : State :=
  (List.range 32).foldl (fun s l => if s.timingPort l then s.onLane l (fun x => { x with txSleep := false }) else s) s

/-! ## The shed's release (R276, R283) -/

/-- A copy of frame `id` charged to the shared pool still waits somewhere. -/
def State.sharedHeld (s : State) (id : Nat) : Bool :=
  s.yard.queues.any (fun q => q.copies.any (fun c => c.id == id && c.account == 2))

/-- Cells that copies whose tail has been stored hold beyond their need (R277). -/
def surplus (l : List Copy) : Nat := (l.map (fun c => c.cells - c.need)).sum

/-- A copy holds cells beyond its need although its tail has been stored by long count `now`. -/
def Copy.settles (c : Copy) (now : Nat) : Bool := decide (c.need < c.cells) && decide (c.tailAt ≤ now)

/-- A queue whose copies have released the cells that they do not use (R277). -/
def Queue.settle (q : Queue) (now : Nat) : Queue :=
  let l := q.copies.filter (·.settles now)
  { q with copies := q.copies.map (fun c => if c.settles now then { c with cells := c.need } else c)
           depth := q.depth - surplus l
           minUsed := q.minUsed - surplus (l.filter (·.account == 1))
           sharedUsed := q.sharedUsed - surplus (l.filter (·.account == 2)) }

/-- Copies whose tail has been stored release the cells that they do not use: those of the shared pool once a frame (R276, R277). It is
done before the accounts are next looked at. -/
def State.settleTails (s : State) : State :=
  let l := s.yard.queues.flatMap (fun q => q.copies.filter (·.settles s.tb.lc))
  let shared := ((l.filter (·.account == 2)).map (fun c => (c.id, c.cells - c.need))).eraseDups
  { s with yard := { s.yard with
      queues := s.yard.queues.map (·.settle s.tb.lc)
      timingUsed := s.yard.timingUsed - surplus (l.filter (·.account == 0))
      sharedUsed := s.yard.sharedUsed - (shared.map (·.2)).sum } }

/-- A copy that has left queue `i` releases its cells (R276): those of the shared pool with the frame's last copy. -/
def State.release (s : State) (i : Nat) (c : Copy) : State :=
  let s := s.onYPort (i / 8) (fun y => { y with emptyAt := s.tb.lc })
  let s := s.onQueue i (fun q =>
    { q with depth := q.depth - c.cells
             minUsed := if c.account = 1 then q.minUsed - c.cells else q.minUsed
             sharedUsed := if c.account = 2 then q.sharedUsed - c.cells else q.sharedUsed })
  if c.account = 0 then { s with yard := { s.yard with timingUsed := s.yard.timingUsed - c.cells } }
  else if c.account = 2 && !s.sharedHeld c.id then { s with yard := { s.yard with sharedUsed := s.yard.sharedUsed - c.cells } }
  else s

/-- PORT_FWD_STATE changes (R283). -/
def State.setFwd (s : State) (p f : Nat) : State := s.onYPort p (fun y => { y with fwd := f, since := s.tb.lc })

/-- A stamp that was asked for is delivered with VALID 0 and STALE 1, since its frame is not sent (R267). -/
def State.stampUnsent (s : State) (p : Nat) : State :=
  s.onYPort p (fun y => { y with unsent := some (setBit (setBit (s.stampStatus s.tb.lc false) 0 false) 2 true) })

/-- A refused timing-class frame raises F1 at most once a second and port (R277). -/
def State.raiseRefused (s : State) (p : Nat) (timing : Bool) : State :=
  if timing && (s.yport p).refusedAt != some s.tai then
    (s.onYPort p (fun y => { y with refusedAt := some s.tai })).raise 0x0A01 p
  else s

/-- A multicast or flooded copy that is not delivered (R282). -/
def State.partialDrop (s : State) (p : Nat) (multi : Bool) : State :=
  if multi then s.onYPort p (fun y => { y with partialDrop := bump y.partialDrop }) else s

/-- A refusal because the port is not FORWARDING (R277). -/
def State.refuseDown (s : State) (p : Nat) (timing : Bool) : State :=
  (s.onYPort p (fun y => { y with downDrops := bump y.downDrops })).raiseRefused p timing

/-- A copy leaves queue `i`. -/
def State.takeCopy (s : State) (i : Nat) (c : Copy) : State :=
  (s.onQueue i (fun q => { q with copies := q.copies.erase c })).release i c

/-- A copy is lost with its port: a stamp that it asked for is delivered as R267 says. -/
def State.dropCopy (s : State) (i : Nat) (c : Copy) : State :=
  let s := s.takeCopy i c
  if c.event then s.stampUnsent (i / 8) else s

/-- A port that goes down refuses the copies admitted in that same cycle (R282). -/
def State.refuseSame (s : State) (p : Nat) : State :=
  (List.range 8).foldl (fun s q =>
    let i := 8 * p + q
    ((s.queue i).copies.filter (fun c => decide (s.tb.lc ≤ c.at_))).foldl (fun s c =>
      ((s.dropCopy i c).refuseDown p c.timing).partialDrop p c.multi) s) s

/-- Every queue of a port is flushed and counted (R283). -/
def State.flushPort (s : State) (p : Nat) : State :=
  let s := s.onYPort p (fun y => { y with launch := none })
  (List.range 8).foldl (fun s q =>
    let i := 8 * p + q
    let l := (s.queue i).copies
    let s := s.onYPort p (fun y => { y with flushed := bumpBy y.flushed l.length })
    (l.foldl (fun s c => s.dropCopy i c) s).onQueue i (fun q => { q with deficit := 0 })) s

/-! ## A port's loss and return -/

/-- The state of a PTP port follows its link (R293, R294); leaving TIME_RECEIVER makes PTk ABSENT (R295). -/
def State.ptpLink (s : State) (p : Nat) : State :=
  match s.instOfPort p with
  | none => s
  | some k =>
    let bad := !s.linkUp p || (s.yport p).fwd != 3 || (s.lane p).stampState == 3
    if bad then
      let was := (s.pport p).state
      let s := s.onPPort p (fun x =>
        { x with state := 2, validRun := 0, sync := none, dreq := none, pdreq := none, pdresp := none, foreign := [] })
      let s := if was == 2 then s else s.onInst k (fun x => { x with due := true })
      if was == 9 then
        opLossOfSignal (12 + k) (s.onInst k (fun x => { x with clientPort := if x.clientPort = p then 0xFF else x.clientPort }))
      else s
    else if (s.pport p).state == 2 then s.onPPort p (fun x => { x with state := 4, listenAt := s.tb.lc, timedOut := false })
    else s

/-- The port exists, and every lane of it is enabled (R231, R253). -/
def State.portEnabled (s : State) (p : Nat) : Bool := !(s.portLanes p).isEmpty && (s.portLanes p).all s.laneEnable

/-- LANE_TX_FIR as its three taps (R253). -/
def firOf (v : Nat) : Int × Int × Int := (signed 1 (v % 256), signed 1 (v / 256 % 256), signed 1 (v / 65536 % 256))

/-- A bring-up begins: the settings of R254 and the starting taps of R237 are taken, and under LANE_TRAIN 0x02 what is advertised
(R243, R247). -/
def State.beginLane (s : State) (l : Nat) : State :=
  s.onLane l (fun x =>
    { x with state := 1
             txPol := s.laneTxPol l
             rxPol := s.laneRxPol l
             train := s.laneTrain l
             ctleMode := s.laneCtleMode l
             ctleFixed := s.laneCtleFixed l
             fir := firOf (s.laneTxFir l)
             swept := false
             done := false
             adv := if s.laneTrain l = 2 then some ((s.quad (l / 4)).mode, (s.quad (l / 4)).fec) else none
             eee := s.laneTrain l == 2 && s.sleepPermitted l
             lpiRaised := false })

/-- The lanes of a port go down, and with `st` 1 begin their bring-up where the port is enabled; lanes whose link was up count it and raise F1 unless the port is powered down
(R22, R245, R253, R266); a calibration loop that runs fails (R263). -/
def State.downLanes (s : State) (p st : Nat) : State :=
  (s.portLanes p).foldl (fun s l =>
    let up := (s.lane l).state == 5
    let s := (s.holdTaps l).onLane l (fun x =>
      { x.down with linkDowns := if up then bump x.linkDowns else x.linkDowns
                    calStatus := if x.calStatus = 1 then 4 else x.calStatus })
    let s := if st = 1 && s.portEnabled p then s.beginLane l else s
    let s := s.clearFault 0x0702 l
    let s := if st = 0 then s.clearFault 0x0901 l else if up then s.raise 0x0901 l else s
    s.seLost l) s

/-- A copy that was being sent is lost with the link (R281), and with it the stamp that it asked for (R267). -/
def State.cutSending (s : State) (p : Nat) : State :=
  if s.tb.lc < (s.yport p).busyUntil then
    let s := if (s.yport p).sent.any (·.event) then s.stampUnsent p else s
    s.onYPort p (fun y => { y with downDrops := bump y.downDrops, busyUntil := s.tb.lc, ctSending := false })
  else s

/-- A response whose launch instant is lost with the link waits for a new one (R319, R320). -/
def OwnMsg.unlaunch (m : OwnMsg) : OwnMsg :=
  match m with
  | .ntp w => .ntp { w with launch := none, ready := false }
  | m => m

/-- A link loss with a hold: HOLDING, queued frames kept (R283). -/
def State.holdPort (s : State) (p : Nat) : State :=
  let s := (s.cutSending p).refuseSame p
  let s := if (s.yport p).fwd = 0 then s else s.setFwd p 1
  let s := s.onYPort p (fun y => { y with launch := none })
  let s := (List.range 8).foldl (fun s q =>
    s.onQueue (8 * p + q) (fun x => { x with copies := x.copies.map (fun c => { c with held := true, own := c.own.map OwnMsg.unlaunch }) })) s
  s.ptpLink p

/-- A port reset (R36, R283): DOWN at once, its queues flushed. -/
def State.portReset (s : State) (p st : Nat) : State :=
  let s := ((s.downLanes p st).cutSending p).refuseSame p
  let s := (s.setFwd p 0).flushPort p
  s.ptpLink p

/-- A retrain of a lane's port (R245): absorbed by a bring-up that runs. -/
def opRetrain (l : Nat) (s : State) : State :=
  let p := s.portOf l
  if s.linkUp p then
    let s := (s.portLanes p).foldl (fun s l => s.onLane l (fun x => { x with retrains := bump x.retrains })) s
    (s.downLanes p 1).holdPort p
  else s

/-- LANE_ENABLE written 0 powers the lane, or the whole port, down (R253, R283). -/
def opLaneDisable (l : Nat) (s : State) : State := s.portReset (s.portOf l) 0

/-! ## Bring-up (R237–R243, R254, R257–R266) -/

/-- The figure of merit from V in µV and W in 10⁻⁶ UI (R241). -/
def figureOfMerit (v w : Nat) : Nat := min 1023 (1023 * min v 200000 * min w 1000000 / 200000000000)

/-- The code that a sweep keeps: that of the scan (V, W) with the highest figure of merit, the lowest of several (R238; log entry 159). -/
def bestCode (scans : List (Nat × Nat)) : Nat :=
  let l := scans.map (fun x => figureOfMerit x.1 x.2)
  l.idxOf (l.foldl max 0)

/-- The partner's requests keep the taps within their ranges (R237). -/
def firIn (f : Int × Int × Int) : Bool :=
  decide (-16 ≤ f.1) && decide (f.1 ≤ 0) && decide (32 ≤ f.2.1) && decide (f.2.1 ≤ 63) && decide (-24 ≤ f.2.2) && decide (f.2.2 ≤ 0) &&
    decide (f.2.1 - f.1 - f.2.2 ≤ 63)

/-- The bring-up of a lane trains (R243): LANE_TRAIN has it, and its mode, which is not that of 1 Gbit/s. -/
def State.trains (s : State) (l : Nat) : Bool := (s.lane l).train != 0 && (s.quad (l / 4)).mode != 1

/-- LANE_STATE that a bring-up in state `old` has at a stage (R243, R253): 2 CDR lock, 3 training where there is one, 4 PCS lock. -/
def stageOf (old stage : Nat) (trains : Bool) : Nat :=
  if old = 0 || 5 ≤ old || stage < old || 5 ≤ stage || (stage = 3 && !trains) then old else stage

/-- A peer lane changes. -/
def State.onPeer (s : State) (p : Nat) (f : PeerLane → PeerLane) : State := { s with net := { s.net with peers := upd f p s.net.peers } }

/-- A peer lane. -/
def State.peerLane (s : State) (p : Nat) : PeerLane := s.net.peers.getD p PeerLane.init

/-- DFE taps of a peer lane, numbered on from the Ethernet lanes (R239, R251). -/
def State.peerDfe (s : State) (p : Nat) : List Int := s.dfeNow (32 + p) (s.peerLane p).state false (s.peerLane p).dfe

/-- A peer lane's bring-up begins, with default taps (R237, R251). -/
def State.beginPeer (s : State) (p : Nat) : State :=
  let t := s.peerDfe p
  s.onPeer p (fun x => { x with state := 1, fom := 0, swept := false, fir := (0, 63, 0), dfe := t, fomRun := 0, lowRun := 0, minRun := 0 })

/-- Bring-up reaches a stage (R243, R251, R253): 1 begins it. After CDR lock 32 scans of 1 ms, one for each CTLE code, make the sweep where
the code is not fixed (R238), and while training runs the partner's requests move the taps (R237). -/
def opBringUp (l stage : Nat) (scans : List (Nat × Nat)) (fir : Int × Int × Int) (s : State) : State :=
  let p := s.portOf l
  if 32 ≤ l then
    let x := s.peerLane (l - 32)
    if !bit s.peerLaneEnable (l - 32) || x.state = 5 then s
    else if stage = 1 then s.beginPeer (l - 32)
    else
      let st := stageOf x.state stage false
      let sweep := 2 ≤ st && scans.length = 32
      s.onPeer (l - 32) (fun x => { x with state := st, swept := x.swept || sweep, ctle := if sweep then bestCode scans else x.ctle })
  else if !s.portEnabled p || (s.quad (p / 4)).state != 2 || s.linkUp p then s
  else if stage = 1 then s.beginLane l
  else
    let st := stageOf (s.lane l).state stage (s.trains l)
    let sweep := 2 ≤ st && scans.length = 32 && (s.lane l).ctleMode != 2
    s.onLane l (fun x =>
      { x with state := st
               swept := x.swept || sweep
               ctle := if sweep then bestCode scans else x.ctle
               fir := if st = 3 && firIn fir then fir else x.fir })

/-- A training timeout, or a partner that resolves to anything else: the bring-up of the port restarts (R243). -/
def opTrainTimeout (l : Nat) (s : State) : State :=
  let p := s.portOf l
  if (s.lane l).state == 0 || (s.lane l).state == 5 || ((s.lane l).train != 2 && !s.trains l) then s
  else ((s.portLanes p).foldl State.beginLane s).onLane l (fun x => { x with trainFails := bump x.trainFails })

/-- EIDs of a lane's port entries: internal transmit and receive delay for its profile, external transmit and receive (R512). -/
def State.txEid (s : State) (l : Nat) : Nat := eid 1 (l * 256 + stampProfile (s.quad (l / 4)).mode (s.quad (l / 4)).fec)
def State.rxEid (s : State) (l : Nat) : Nat := eid 2 (l * 256 + stampProfile (s.quad (l / 4)).mode (s.quad (l / 4)).fec)

/-- One lane of a port that comes up: its CTLE code and its delays and uncertainties in force (R238, R260, R261, R264). -/
def State.upLane (s : State) (l : Nat) : State :=
  let s := s.onLane l (fun x =>
    { x with state := 5
             ctle := if x.ctleMode = 2 then x.ctleFixed else x.ctle
             upAt := s.tb.lc
             dTx := s.calVal (s.txEid l) + s.calVal (eid 3 l)
             dRx := s.calVal (s.rxEid l) + s.calVal (eid 4 l)
             extTx := s.calVal (eid 3 l)
             extRx := s.calVal (eid 4 l)
             uTx := s.calUnc (s.txEid l)
             uRx := s.calUnc (s.rxEid l)
             uExt := s.calUnc (eid 3 l)
             aligns := []
             aRx := 0
             aTx := 0
             ctleChanges := 0
             ctleAt := none
             ctleOver := false })
  s.clearFault 0x0901 l

/-- A lane has all that its bring-up needs (R238, R243): PCS lock, and its CTLE code. -/
def State.laneReady (s : State) (l : Nat) : Bool := (s.lane l).state == 4 && ((s.lane l).swept || (s.lane l).ctleMode == 2)

/-- A lane completes its bring-up; with all lanes of its port the link is up (R243), and ALIGNING and BLOCKING begin (R266, R283). -/
def opLinkUp (l : Nat) (s : State) : State :=
  let p := s.portOf l
  if l < 32 && s.portEnabled p && (s.quad (p / 4)).state == 2 && s.laneReady l then
    let s := s.onLane l (fun x => { x with done := true })
    if (s.portLanes p).all (fun l => (s.lane l).done) then
      let s := (s.portLanes p).foldl State.upLane s
      let s := s.onLane p (fun x => { x with stampState := 1 })
      (s.setFwd p 2).ptpLink p
    else s
  else s

/-- PORT_BLOCK_TIME has passed with the link up (R283). -/
def opBlockTime (p : Nat) (s : State) : State :=
  if (s.yport p).fwd = 2 && s.linkUp p && decide ((s.yport p).since + millis (s.portBlockTime p) ≤ s.tb.lc) then
    (s.setFwd p 3).ptpLink p
  else s

/-- PORT_DOWN_HOLD has expired with the link still down: a link that returns in the very cycle of the expiry returns within the hold
(R283). -/
def opDownHold (p : Nat) (s : State) : State :=
  if (s.yport p).fwd = 1 && !s.linkUp p && decide ((s.yport p).since + 1000 * nsUnits * s.portDownHold p < s.tb.lc) then
    (s.setFwd p 0).flushPort p
  else s

/-! ## Quads (R234, R235) -/

/-- The ports of a quad, by first lane (R231). -/
def State.quadPorts (s : State) (q : Nat) : List Nat :=
  if (s.quad q).mode = 0 then []
  else if 4 ≤ (s.quad q).mode then [4 * q] else (List.range 4).map (4 * q + ·)

/-- Loss of a quad's reference clock: every port is down (R22, R234). A quad that is powered down has none, and is without the clock
when a mode is applied. -/
def opQrefLoss (q : Nat) (s : State) : State :=
  let s := (s.quadPorts q).foldl (fun s p => (s.downLanes p 1).holdPort p) s
  if q < 8 then
    let s := s.onQuad q (fun x => { x with state := if x.mode = 0 then 0 else 3, refLost := true })
    if (s.quad q).mode = 0 then s else s.raise 0x0009 q
  else s

/-- The reference clock returns: the transmit PLL starts its relock, and QUAD_STATE reads 0x03 until it locks (R234). -/
def opQrefReturn (q : Nat) (s : State) : State :=
  if (s.quad q).refLost then (s.onQuad q (fun x => { x with refLost := false })).clearFault 0x0009 q else s

/-- An enabled SyncE reference names a lane of a quad that its mode lets nobody name: of a 40 or 100 Gbit/s port only the first may be
(R74). -/
def State.seBarred (s : State) (q mode : Nat) : Bool :=
  decide (4 ≤ mode) && [8, 9, 10, 11].any (fun n => s.refEnable n && s.seLane n / 4 == q && s.seLane n % 4 != 0 && decide (s.seLane n < 32))

/-- QUAD_APPLY may be refused (R74, R233, R235): a combination that R231 does not accept, a SyncE reference on a lane that may not be
named, or the selected reference on the quad. -/
def State.okQuadApply (s : State) (q : Nat) : Nat :=
  let n := s.sel.current
  let onQuad (p : Nat) : Bool := p / 4 == q
  if !fecOk (s.quadMode q) (s.quadFec q) || s.seBarred q (s.quadMode q) then 0x08
  else if decide (8 ≤ n) && decide (n < 12) && onQuad (s.seLane n) then 0x09
  else if decide (12 ≤ n) && decide (n < 16) && (List.range 32).any (fun p => onQuad p && bit (s.ptpPorts (n - 12)) p) then 0x09
  else 0

/-- QUAD_APPLY (R235): a port reset of every port, the shadows, a relock of the quad's transmit PLL, and the rate of the TIU channels
that count its lanes' clocks (R95). -/
def opQuadApply (q : Nat) (s : State) : State :=
  let m := s.quadMode q
  let s := (s.quadPorts q).foldl (fun s p => s.portReset p (if m = 0 then 0 else 1)) s
  let off := (s.quad q).mode = 0
  let s := s.onQuad q (fun x =>
    { x with mode := m, fec := s.quadFec q, state := if m = 0 then 0 else if x.refLost || x.state = 3 then 3 else 1 })
  let s := if off && m != 0 && (s.quad q).refLost then s.raise 0x0009 q else s
  let s := (s.quadPorts q).foldl (fun s p => (s.portLanes p).foldl
    (if s.portEnabled p then State.beginLane else fun s l => s.onLane l (fun x => { x with state := 0 })) s) s
  [8, 9, 10, 11].foldl (fun s n => if s.seLane n / 4 = q then s.fixRate n else s) s.wakeTiming

/-! ## Eye, figure of merit and CTLE (R238–R242) -/

/-- The warning re-arms after 1 s of scans at or above the threshold + 32 (R242). -/
def rearm (warn fom : Nat) (armed : Bool) (run : Nat) : Bool × Nat :=
  if warn + 32 ≤ fom then (armed || decide (100 ≤ run + 1), run + 1) else (armed, 0)

/-- Scans in a row below a threshold, with one more of figure `fom` (R242). -/
def below (limit fom run : Nat) : Nat := if fom < limit then run + 1 else 0

/-- A threshold of R242 has been missed for 1 s, 100 scans. -/
def missed (run : Nat) : Bool := decide (100 ≤ run)

/-- A peer lane is up. -/
def State.peerUp (s : State) (p : Nat) : Bool := (s.peerLane p).state == 5

/-- The 10 ms eye scan of a link that is up (R241, R251): a receive direction that sleeps keeps its figure. -/
def opEyeScan (l v w : Nat) (s : State) : State :=
  let f := figureOfMerit v w
  if 32 ≤ l then
    if s.peerUp (l - 32) then
      s.onPeer (l - 32) (fun x =>
        { x with fom := f
                 warnArmed := (rearm 200 f x.warnArmed x.fomRun).1
                 fomRun := (rearm 200 f x.warnArmed x.fomRun).2
                 lowRun := below 200 f x.lowRun
                 minRun := below 32 f x.minRun })
    else s
  else if (s.lane l).rxSleep || (s.lane l).state != 5 then s
  else
    s.onLane l (fun x =>
      { x with fom := f
               warnArmed := (rearm (s.laneFomWarn l) f x.warnArmed x.fomRun).1
               fomRun := (rearm (s.laneFomWarn l) f x.warnArmed x.fomRun).2
               lowRun := below (s.laneFomWarn l) f x.lowRun
               minRun := below (s.laneFomMin l) f x.minRun })

/-- The figure of merit has been below LANE_FOM_WARN for 1 s (R242). -/
def opFomWarn (l : Nat) (s : State) : State :=
  if 32 ≤ l then
    let x := s.peerLane (l - 32)
    if missed x.lowRun && x.warnArmed then (s.onPeer (l - 32) (fun x => { x with warnArmed := false })).raise 0x0902 l else s
  else if missed (s.lane l).lowRun && (s.lane l).warnArmed then
    (s.onLane l (fun x => { x with warnArmed := false })).raise 0x0902 l
  else s

/-- U_ctle exceeds PORT_CTLE_UNC_MAX (R264). -/
def State.ctleExceeds (s : State) (l : Nat) : Bool := decide (s.portCtleUncMax (s.portOf l) < 3 * (s.lane l).ctleChanges)

/-- From the moment at which it does, until the lane's next bring-up (R264). -/
def State.markCtle (s : State) (l : Nat) : State := if s.ctleExceeds l then s.onLane l (fun x => { x with ctleOver := true }) else s

/-- The CTLE moves by a code, which the stamp unit is told with its time (R240, R264). -/
def State.moveCtle (s : State) (l code : Nat) : State :=
  (s.onLane l (fun x => { x with ctle := code, ctleChanges := x.ctleChanges + 1, ctleAt := some s.tb.lc })).markCtle l

/-- Continuous CTLE mode (R238, R241, R264): one code toward a neighbour that scores at least 16 more, by 1 ms scans (V, W) of the codes
below and above. -/
def opCtleAdapt (l : Nat) (below above : Nat × Nat) (s : State) : State :=
  let x := s.lane l
  let lo := figureOfMerit below.1 below.2
  let hi := figureOfMerit above.1 above.2
  if x.ctleMode != 1 || x.state != 5 || x.rxSleep then s
  else
    let down := decide (0 < x.ctle) && decide (x.fom + 16 ≤ lo)
    let up := decide (x.ctle < 31) && decide (x.fom + 16 ≤ hi)
    if up && (!down || decide (lo ≤ hi)) then s.moveCtle l (x.ctle + 1)
    else if down then s.moveCtle l (x.ctle - 1)
    else s

/-- LANE_CTLE_MODE written: a move to continuous mode takes effect at once (R254). -/
def opCtleMode (l : Nat) (s : State) : State :=
  if s.laneCtleMode l = 1 then s.onLane l (fun x => { x with ctleMode := 1 }) else s

/-! ## Sleep (R246–R249) -/

/-- Idle time after which a transmit direction sleeps: LANE_LPI_IDLE, or none under the governor's lane-sleep lever (R246, R249). -/
def State.lpiIdle (s : State) (l : Nat) : Nat := if s.gov.level = 0 then 1000 * nsUnits * s.laneLpiIdle l else 0

/-- The transmit direction sleeps (R246, R249): its queues are empty, nothing is being sent, and the idle time has passed. -/
def opLpiTx (l : Nat) (s : State) : State :=
  let p := s.portOf l
  if s.sleepPermitted l && (s.lane l).state == 5 && (List.range 8).all (fun q => (s.queue (8 * p + q)).copies.isEmpty) &&
      decide (max (s.yport p).busyUntil ((s.yport p).emptyAt + s.lpiIdle l) ≤ s.tb.lc) then
    s.onLane l (fun x => { x with txSleep := true })
  else s

/-- The partner signals sleep or wake on a receive direction (R246, R248). -/
def opLpiRx (l : Nat) (asleep : Bool) (s : State) : State :=
  if (s.lane l).state != 5 then s
  else
    let s := (if asleep then s.holdTaps l else s).onLane l (fun x => { x with rxSleep := asleep })
    if asleep && s.timingPort l then
      let raised := (s.lane l).lpiRaised
      let s := s.onLane l (fun x => { x with lpiUnexpected := bump x.lpiUnexpected, lpiRaised := true })
      let s := if raised then s else s.raise 0x0903 l
      s.seLost l
    else s

/-! ## ESMC (R250) -/

/-- The QL that a port's ESMC sends (R250). -/
def State.esmcQl (s : State) (l : Nat) : Nat :=
  let src := s.quadRefclkSrc (l / 4)
  let n := s.sel.current
  if decide (8 ≤ n) && decide (n < 12) && s.seLane n == l then 0xF
  else if src = 0xFF || !(decide (5 ≤ s.outState src) && decide (s.outState src ≤ 7)) || !s.girth.timeValid || s.standby then 0xF
  else if n < 12 && s.classF n then s.qlEff n
  else s.todQl s.girth.ql

/-- SSM of a QL (R75, R250). -/
def ssmOf (q : Nat) : Nat :=
  match q with
  | 1 => 0x2
  | 2 => 0x2
  | 3 => 0x2
  | 4 => 0x2
  | 5 => 0x4
  | 6 => 0x8
  | 7 => 0xB
  | 8 => 0xB
  | _ => 0xF

/-- eSSM of a QL (R75, R250). -/
def essmOf (q : Nat) : Nat :=
  match q with
  | 1 => 0x21
  | 2 => 0x20
  | 3 => 0x23
  | 7 => 0x22
  | _ => 0xFF

/-! ## Peer lanes (R251, R252) -/

/-- A wire has been silent for HALTER_LEASE + HALTER_GUARD since long count `t` (R451; log entry 93). -/
def State.silent (s : State) (t : Nat) : Bool := decide (t + millis (s.halterLease + s.halterGuard) ≤ s.tb.lc)

/-- The servo follows the peer no longer (R453, R456, R464): the next selector tick switches to the part's own choice. A switch to the peer
that is still in progress has lost its target (R88). -/
def State.unfollow (s : State) : State :=
  if s.pair.following then
    let t := { s with pair := { s.pair with following := false } }
    if t.switchingNow then ({ t with sel := { t.sel with targetLost := true } } : State).rampTo t.ho.uh false false else t
  else s

/-- θ is not available any more, or the peer link is silent (R456): a part that follows its peer goes to its own choice, and
a standby is ISOLATED while a wire is alive and CLAIMING otherwise. -/
def State.leavePeer (s : State) : State :=
  let s := s.unfollow
  if !s.pairEnable || s.pair.lease then s
  else { s with pair := { s.pair with
      state := if s.silent s.pair.silA && s.silent s.pair.silB then .claiming else .isolated
      readySince := none } }

/-- The active peer lane changes (R252): exchanges taken before the switch are discarded, and θ is not available (R456). -/
def State.peerSwitch (s : State) (p : Nat) : State :=
  let s := { s with net := { s.net with peerActive := p, peerSwitches := bump s.net.peerSwitches }
                    pair := { s.pair with thetas := [] } }
  let s := if s.pair.following then s.leavePeer else s
  s.raise 0x0905 p

/-- The active peer lane has lost block lock for 1 ms or fails the figure-of-merit rule (R252). -/
def opPeerSwitch (s : State) : State :=
  let a := s.net.peerActive
  if a < 2 && s.peerUp (1 - a) then s.peerSwitch (1 - a) else s

/-- The active lane becomes the preferred one, which has been up for `wait` (R252, R254): 10 s, or no time where PEER_PREFER is
written. -/
def opPeerRevert (wait : Nat) (s : State) : State :=
  if s.net.peerActive < 2 && s.net.peerActive != s.peerPrefer && s.peerUp s.peerPrefer &&
      (wait == 0 || decide ((s.peerLane s.peerPrefer).upAt + wait ≤ s.tb.lc)) then s.peerSwitch s.peerPrefer else s

/-! ## Meanings -/

/-- QREF_LOSS (R234). -/
def execQrefLoss (now q : Nat) (s : State) : Host.Outcome State Fault Refusal := .next (opQrefLoss q (s.atTime now))

/-- QREF_RETURN (R234). -/
def execQrefReturn (now q : Nat) (s : State) : Host.Outcome State Fault Refusal := .next (opQrefReturn q (s.atTime now))

/-- LINK_BRING_UP (R243). -/
def execLinkBringUp (now l stage : Nat) (scans : List (Nat × Nat)) (pre main post : Int) (s : State) : Host.Outcome State Fault Refusal :=
  .next (opBringUp l stage scans (pre, main, post) (s.atTime now))

/-- TRAINING_TIMEOUT (R243). -/
def execTrainingTimeout (now l : Nat) (s : State) : Host.Outcome State Fault Refusal := .next (opTrainTimeout l (s.atTime now))

/-- LINK_UP (R243). -/
def execLinkUp (now l : Nat) (s : State) : Host.Outcome State Fault Refusal := .next (opLinkUp l (s.atTime now))

/-- LINK_LOSS (R283). -/
def execLinkLoss (now l : Nat) (s : State) : Host.Outcome State Fault Refusal := .next (opRetrain l (s.atTime now))

/-- BLOCK_LOCK_LOSS_TIMEOUT (R245). -/
def execBlockLockLossTimeout (now l : Nat) (s : State) : Host.Outcome State Fault Refusal := .next (opRetrain l (s.atTime now))

/-- EYE_SCAN (R241). -/
def execEyeScan (l v w : Nat) (s : State) : Host.Outcome State Fault Refusal := .next (opEyeScan l v w s)

/-- FOM_WARN_TIMEOUT (R242). -/
def execFomWarnTimeout (now l : Nat) (s : State) : Host.Outcome State Fault Refusal := .next (opFomWarn l (s.atTime now))

/-- CTLE_ADAPT (R238). -/
def execCtleAdapt (now l vlo wlo vhi whi : Nat) (s : State) : Host.Outcome State Fault Refusal :=
  .next (opCtleAdapt l (vlo, wlo) (vhi, whi) (s.atTime now))

/-- LPI_TX_SLEEP (R246). -/
def execLpiTxSleep (l : Nat) (s : State) : Host.Outcome State Fault Refusal := .next (opLpiTx l s)

/-- LPI_RX_SIGNAL (R248). -/
def execLpiRxSignal (now l : Nat) (asleep : Bool) (s : State) : Host.Outcome State Fault Refusal :=
  .next (opLpiRx l asleep (s.atTime now))

/-- PEER_LANE_SWITCH (R252). -/
def execPeerLaneSwitch (now : Nat) (s : State) : Host.Outcome State Fault Refusal := .next (opPeerSwitch (s.atTime now))

/-- PEER_LANE_REVERT (R252). -/
def execPeerLaneRevert (now : Nat) (s : State) : Host.Outcome State Fault Refusal := .next (opPeerRevert (secs 10) (s.atTime now))

/-- DOWN_HOLD_EXPIRE (R283). -/
def execDownHoldExpire (now p : Nat) (s : State) : Host.Outcome State Fault Refusal := .next (opDownHold p (s.atTime now))

/-- BLOCK_TIME_EXPIRE (R283). -/
def execBlockTimeExpire (now p : Nat) (s : State) : Host.Outcome State Fault Refusal := .next (opBlockTime p (s.atTime now))

end Sys2Proof.Machine
end

