-- ==== Sys2Proof/Machine/PortStamps.lean ====
section
/-!
DEFINITION. The port stamp units: stamps and their marks, delays and uncertainties, alignment and the calibration loop
(R255–R268).
-/
set_option Elab.async false
namespace Sys2Proof.Machine

/-! ## Delays and uncertainties (R257–R264) -/

/-- An alignment term in 2⁻¹⁶ ns: `n` in UI / `k` at the lane's line rate (R265). -/
def State.uiTime (s : State) (l n k : Nat) : Int := rdiv (n * secUnits : Nat) (k * lineRate (s.quad (l / 4)).mode)

/-- D_tx in use (R260). -/
def State.txDelay (s : State) (l : Nat) : Int := (s.lane l).dTx + s.uiTime l (s.lane l).aTx 256

/-- D_rx in use (R260). -/
def State.rxDelay (s : State) (l : Nat) : Int := (s.lane l).dRx + s.uiTime l (s.lane l).aRx 1

/-- U_ctle, 2⁻¹⁶ ns: 3 ps for each CTLE change since the bring-up (R264). -/
def Lane.uCtle (x : Lane) : Nat := cdiv (3 * 65536 * x.ctleChanges) 1000

/-- Egress stamp uncertainty of a lane, 2⁻¹⁶ ns (R260). -/
def State.laneTxUnc (s : State) (l : Nat) : Nat := (s.lane l).uTx + (s.lane l).uExt

/-- Ingress stamp uncertainty of a lane without U_ctle, 2⁻¹⁶ ns (R260). -/
def State.laneRxUnc (s : State) (l : Nat) : Nat := (s.lane l).uRx + (s.lane l).uExt

/-- A raise of an entry's uncertainty reaches the lanes that use it at once (R261, R514). -/
def State.raiseUnc (s : State) (e u : Nat) : State :=
  let key := e % 16777216
  let l := key / 256
  match e / 16777216 with
  | 1 => if e = s.txEid l then s.onLane l (fun x => { x with uTx := max x.uTx u }) else s
  | 2 => if e = s.rxEid l then s.onLane l (fun x => { x with uRx := max x.uRx u }) else s
  | 3 => s.onLane key (fun x => { x with uExt := max x.uExt u })
  | _ => s

/-- PORT_TX_UNC: the largest over the port's lanes (R260; log entry 15). -/
def State.txUnc (s : State) (p : Nat) : Nat := maxL ((s.portLanes p).map s.laneTxUnc)

/-- PORT_RX_UNC (R260, R264). -/
def State.rxUnc (s : State) (p : Nat) : Nat := maxL ((s.portLanes p).map (fun l => s.laneRxUnc l + (s.lane l).uCtle))

/-- Egress stamp uncertainty as a girth (R225, R260, R513). -/
def State.txGirth (s : State) (p : Nat) : Nat := if s.cal.unusable then girthUnknown else toGirth (s.txUnc p)

/-! ## Stamps (R257, R267) -/

/-- T_w + b × UI (R257): the word boundary in 0.25 ps and the bit position in the word, in units of 2⁻¹⁶ ns over 4,000 × the line rate. -/
def State.edgeSum (s : State) (l tw b : Nat) : Nat := tw * 65536 * lineRate (s.quad (l / 4)).mode + b * secUnits * 4000

/-- The moment of the stamped edge at the PMA, 2⁻¹⁶ ns. -/
def State.edgeTime (s : State) (l tw b : Nat) : Nat := (rdiv (s.edgeSum l tw b) (4000 * lineRate (s.quad (l / 4)).mode)).toNat

/-- A stamp: the edge moved by `d` (2⁻¹⁶ ns) and an alignment term of `a` (2⁻⁸ UI), rounded once (R257). On the coarse count the
interpolator is bypassed: T_w is that of the cycle in which the word boundary fell (R57, R258). -/
def State.crossing (s : State) (l tw b : Nat) (d a : Int) : Nat :=
  let r := lineRate (s.quad (l / 4)).mode
  let w := (rdiv (tw * 65536 : Nat) 4000).toNat
  let e := if (s.countAt w).coarse then s.edgeAt w * (4000 * r) + b * secUnits * 4000 else s.edgeSum l tw b
  (rdiv ((e + d * (4000 * r)) * 256 + a * (secUnits * 4000)) (4000 * r * 256)).toNat

/-- t_rx of a frame whose stamped bit lies on lane l (R257). -/
def State.rxStamp (s : State) (l tw b : Nat) : Nat := s.crossing l tw b (-(s.lane l).dRx) (-(256 * (s.lane l).aRx : Nat))

/-- t_tx (R257). -/
def State.txStamp (s : State) (l tw b : Nat) : Nat := s.crossing l tw b (s.lane l).dTx (s.lane l).aTx

/-- t_rx′ and t_tx′: the stamps of a calibration frame, with the external delays taken as 0 (R263). -/
def State.rxPrime (s : State) (l tw b : Nat) : Nat := s.crossing l tw b ((s.lane l).extRx - (s.lane l).dRx) (-(256 * (s.lane l).aRx : Nat))
def State.txPrime (s : State) (l tw b : Nat) : Nat := s.crossing l tw b ((s.lane l).dTx - (s.lane l).extTx) (s.lane l).aTx

/-- The interpolator span of a lane has not been calibrated for more than 10 s (R258). -/
def State.spanOld (s : State) (l : Nat) : Bool := decide (secs 10 < s.tb.lc - (s.lane l).spanCal.getD 0)

/-- STAMP_STATUS of a stamp that port p delivers: VALID only in state 0x02, and each row of R267 that applies. -/
def State.portStatus (s : State) (p l t : Nat) (degraded dropped : Bool) : Nat :=
  let v := (s.lane p).stampState == 2 && !dropped
  let d := s.stampStatus t (degraded || s.spanOld l)
  let d := if s.stale t then setBit d 2 true else d
  if v then d else if dropped then setBit (setBit d 0 false) 2 true else setBit d 0 false

/-- The CTLE changed while a frame of `len` bytes was arriving (R264). -/
def State.ctleDuring (s : State) (l edge len : Nat) : Bool :=
  match (s.lane l).ctleAt with
  | some t => decide (edge ≤ t) && decide (t ≤ edge + (len + 8) * 8 * 1000 * nsUnits / max 1 (portRate (s.quad (l / 4)).mode))
  | none => false

/-- STAMP_STATUS of a receive stamp whose edge came at long count `edge` (R264, R267). -/
def State.rxStatus (s : State) (p l edge len : Nat) (lost : Bool) : Nat :=
  s.portStatus p l edge ((s.lane l).ctleOver || s.ctleDuring l edge len) lost

/-- STAMP_STATUS of a stamp as it is delivered, at which moment its age counts (R54, R267). -/
def State.atDelivery (s : State) (t status : Nat) : Nat := if s.stale t then setBit status 2 true else status

/-- A stamp is usable for a measurement: VALID, not DEGRADED, not STALE (R299). -/
def stampGood (st : Nat) : Bool := bit st 0 && !bit st 1 && !bit st 2

/-! ## Interpolator and alignment (R258, R265, R266) -/

/-- A lane's interpolator calibrates its span (R258). -/
def opInterpCal (l : Nat) (s : State) : State :=
  (s.onLane l (fun x => { x with spanCal := some s.tb.lc, spanFault := false })).clearFault 0x0701 l

/-- Spans that have not been calibrated for 10 s raise their fault, one for each lane (R258). -/
def State.spanCheck (s : State) : State :=
  (List.range 32).foldl (fun s l =>
    if s.spanOld l && !(s.lane l).spanFault then
      (s.onLane l (fun x => { x with spanFault := true })).raise 0x0701 l
    else s) s

/-- An alignment measurement of a lane: A_rx in bits and A_tx in 2⁻⁸ UI (R265). -/
def opAlignMeasure (l arx atx : Nat) (s : State) : State :=
  if (s.lane l).state == 5 then s.onLane l (fun x => { x with aligns := newest 10 ((arx, atx) :: x.aligns) }) else s

/-- The last five measurements of a lane agree exactly in A_rx and within ±1 UI in A_tx (R266). -/
def Lane.agrees (x : Lane) : Bool :=
  let l := newest 5 x.aligns
  let tx := l.map (·.2)
  l.length == 5 && l.all (fun a => some a.1 == l.head?.map (·.1)) && tx.all (fun a => tx.all (fun b => decide (a ≤ b + 256)))

/-- The alignment decision of a port (R266): the first one 100 ms after link-up. -/
def opAlignDecide (p : Nat) (s : State) : State :=
  let st := (s.lane p).stampState
  if (st != 1 && st != 3) || s.tb.lc < (s.lane p).upAt + millis 100 then s
  else if (s.portLanes p).all (fun l => (s.lane l).agrees) then
    let s := (s.portLanes p).foldl (fun s l => s.onLane l (fun x =>
      let m := newest 5 x.aligns
      { x with aRx := (m.head?.map (·.1)).getD 0, aTx := (m.map (·.2)).sum / 5 })) s
    let s := s.onLane p (fun x => { x with stampState := 2 })
    (s.clearFault 0x0702 p).ptpLink p
  else if st = 3 then s
  else
    let s := s.onLane p (fun x => { x with stampState := 3 })
    (s.raise 0x0702 p).ptpLink p

/-! ## Calibration entries and the loop (R263, R512) -/

/-- An entry of the calibration table replaced, in ascending order of EID (R512, R514). -/
def putEntry (x : CalEntry) : List CalEntry → List CalEntry
  | [] => [x]
  | y :: t => if x.eid < y.eid then x :: y :: t else if x.eid = y.eid then x :: t else y :: putEntry x t

/-- VALUE of an entry is replaced by the part itself, and logged with the value before; its UNC stays (R261, R263, R420, R512). -/
def State.putCalValue (s : State) (e : Nat) (v : Int) : State :=
  let s := s.auditEvent { atype := 1, index := 0xC800, sub := 2, value := lePack [(8, unsigned 8 (s.calVal e)), (8, unsigned 8 v)] }
  { s with cal := { s.cal with entries := putEntry ⟨e, v, s.calUnc e, true⟩ s.cal.entries } }

/-- PORT_CAL_LOOP starts a loop measurement (R263). -/
def opCalLoop (p : Nat) (s : State) : State :=
  s.onLane p (fun x => { x with calStatus := 1, calSent := 0, calNext := s.tb.lc, calTx := [], calGot := 0, calSum := 0, calSq := 0 })

/-- A calibration frame is due on a port (R263): 4,096 of them, one a millisecond. -/
def State.calDue (s : State) (p : Nat) : Bool :=
  let x := s.lane p
  x.calStatus == 1 && decide (x.calSent < 4096) && decide (x.calNext ≤ s.tb.lc)

/-- A calibration frame leaves with its transmit stamp t_tx′; a stamp that was dropped measures nothing (R263). -/
def State.sendCal (s : State) (p lane tw b : Nat) (lost : Bool) : State :=
  let t : Int := s.txPrime lane tw b
  s.onLane p (fun x =>
    { x with calSent := x.calSent + 1
             calNext := x.calNext + millis 1
             calTx := if lost then x.calTx else (x.calSent, t) :: x.calTx.take 15 })

/-- A calibration frame of a running loop measurement arrives, with its receive stamp t_rx′ (R263). -/
def State.takeCal (s : State) (p n lane tw b : Nat) (lost : Bool) : State :=
  match (s.lane p).calTx.lookup n with
  | none => s
  | some t =>
    let d : Int := (s.rxPrime lane tw b : Int) - t
    s.onLane p (fun x =>
      let y := { x with calTx := x.calTx.filter (·.1 != n) }
      if lost then y else { y with calGot := x.calGot + 1, calSum := x.calSum + d, calSq := x.calSq + (d * d).toNat })

/-- n² times the variance of t_rx′ − t_tx′ over the n frames stamped twice. -/
def Lane.calVar (x : Lane) : Nat := x.calGot * x.calSq - (x.calSum * x.calSum).toNat

/-- The loop measurement ends when its 4,096 frames have been sent (R263). E is rounded to 2⁻¹⁶ ns, and the test of 10 ps is on the exact σ.
With no frame back stamped it has failed, and E and σ are free values (log entries 12, 160). -/
def opCalLoopDone (p : Nat) (s : State) : State :=
  let x := s.lane p
  if x.calStatus != 1 || x.calSent < 4096 then s
  else if x.calGot = 0 then
    let (e, s) := s.draw
    let (d, s) := s.draw
    s.onLane p (fun x => { x with calE := e, calSigma := d, calStatus := 3 })
  else
    let n := x.calGot
    let e := rdiv x.calSum n - s.portCalLoopDelay p
    let ok := decide (1000000 * x.calVar ≤ 10 * 65536 * (10 * 65536) * (n * n))
    let s := s.onLane p (fun x => { x with calE := e, calSigma := rootRatio x.calVar (n * n), calStatus := if ok then 2 else 3 })
    let half := rdiv (x.calSum - n * s.portCalLoopDelay p) (2 * n)
    if ok then (s.putCalValue (eid 3 p) half).putCalValue (eid 4 p) half else s

/-! ## Meanings -/

/-- INTERP_CAL (R258). -/
def execInterpCal (now l : Nat) (s : State) : Host.Outcome State Fault Refusal := .next (opInterpCal l (s.atTime now))

/-- ALIGN_MEASURE (R265). -/
def execAlignMeasure (l arx atx : Nat) (s : State) : Host.Outcome State Fault Refusal := .next (opAlignMeasure l arx atx s)

/-- ALIGN_DECIDE (R266). -/
def execAlignDecide (now p : Nat) (s : State) : Host.Outcome State Fault Refusal := .next (opAlignDecide p (s.atTime now))

/-- PORT_CAL_LOOP_DONE (R263). -/
def execPortCalLoopDone (p : Nat) (s : State) : Host.Outcome State Fault Refusal := .next (opCalLoopDone p s)

end Sys2Proof.Machine
end

