-- ==== Sys2Proof/Machine/Girth.lean ====
section
/-!
DEFINITION. The girth: its terms, claims, trace records and served values (R210–R230).
-/
set_option Elab.async false
namespace Sys2Proof.Machine

/-! ## Claims (R216, R217) -/

/-- A claim with a trace record is acceptable (R216). -/
def claimOk (c : Claim) : Bool :=
  c.growth != 0xFFFF && decide (1 ≤ c.hops.length) && decide (c.hops.length ≤ 8) && gsum (c.hops.map (·.contrib)) == c.girth

/-- A claim arrives for reference n, or entry 17 for the peer: one that R216 treats as absent is counted. -/
def State.putClaim (s : State) (n : Nat) (c : Claim) : State :=
  let s := s.noteClaim n
  if claimOk c then { s with girth := { s.girth with claims := s.girth.claims.set n (some c) } }
  else { s with girth := { s.girth with claims := s.girth.claims.set n none, rejected := bump s.girth.rejected } }

/-- Claims whose age exceeds GIRTH_CLAIM_AGE become absent and are counted (R216). -/
def State.expireClaims (s : State) : State :=
  let old (c : Claim) : Bool := decide (millis s.girthClaimAge < s.tb.lc - c.rx)
  let s := if s.domain.claim.any old || s.girth.claims.any (fun c => c.any old) then (List.range 17).foldl State.noteClaim s else s
  let s := match s.domain.claim with
    | some c =>
      if millis s.girthClaimAge < s.tb.lc - c.rx then
        { s with domain := { s.domain with claim := none }, girth := { s.girth with rejected := bump s.girth.rejected } }
      else s
    | none => s
  (List.range 18).foldl (fun s n =>
    match s.claim n with
    | some c =>
      if millis s.girthClaimAge < s.tb.lc - c.rx then
        { s with girth := { s.girth with claims := s.girth.claims.set n none, rejected := bump s.girth.rejected } }
      else s
    | none => s) s

/-- B of a reference other than GN0 at long count t, the claim flags of the own hop, and the claim in use (R217, R220, R221). -/
def State.claimB (s : State) (n t : Nat) : Nat × Nat × Option Claim :=
  match s.refClaimAt n t with
  | none => (s.refBound n, 8, none)
  | some c =>
    if c.auth then (claimAt c t, 2, some c)
    else if s.girthUnauthMode = 0 then (max (claimAt c t) (s.refBound n), 4, some c)
    else (claimAt c t, 4, some c)

/-! ## Terms (R211, R213, R227) -/

/-- Nine times the variance about their least-squares line of points (t, e), rounded up. -/
def nineVar (l : List (Nat × Int)) : Nat :=
  let n : Int := l.length
  let ts : List Int := l.map (fun p => (p.1 : Int) - (l.head?.map (·.1)).getD 0)
  let es := l.map (·.2)
  let s1 := ts.sum
  let e1 := es.sum
  let snn := n * (ts.map (fun x => x * x)).sum - s1 * s1
  let see := n * (es.map (fun x => x * x)).sum - e1 * e1
  let sne := n * (List.zipWith (· * ·) ts es).sum - s1 * e1
  if n = 0 then 0
  else if snn ≤ 0 then cdiv (9 * see).toNat (n * n).toNat
  else cdiv (9 * (snn * see - sne * sne)).toNat (n * n * snn).toNat

/-- M of the reference in use, none while its input is unavailable (R211, R213). -/
def State.termM (s : State) (n : Nat) : Option Nat :=
  if s.cal.unusable then some girthUnknown
  else if n = 16 then
    if bit (s.chan 28).estStatus 0 then
      let ks := (List.range 3).filter s.gifEnable
      some (toGirth (3 * (s.chan 28).resid + maxL (ks.map (fun k => s.calUnc (eid 7 k) + s.calUnc (eid 8 k)))))
    else none
  else if 12 ≤ n then
    let x := s.inst (n - 12)
    let p := x.clientPort
    if x.offsets.isEmpty || p == 0xFF then none
    else some (toGirth (isqrtUp (nineVar x.offsets) + s.rxUnc p + s.txUnc p))
  else if bit (s.chan n).estStatus 0 then some (toGirth (3 * (s.chan n).resid + s.calUnc (eid 6 n)))
  else none

/-- B, the claim flags and the claim in use (R211, R217). -/
def State.termB (s : State) (n t : Nat) : Nat × Nat × Option Claim :=
  if n = 16 then (gsum [toGirth (3 * s.gnss.boundSigma), s.refBound 16], 8, none) else s.claimB n t

/-- S: |φ_b| and the largest |e| of the last LOCK_COUNT measurements (R211). -/
def State.termS (s : State) : Option Nat :=
  if s.servo.eHist.isEmpty then none
  else some (toGirth (s.servo.phiB.natAbs + maxL (s.servo.eHist.take s.lockCount)))

/-- A for a mean path delay `d` in 1/16 ns (R211). -/
def State.allowance (s : State) (n d : Nat) : Nat :=
  if 12 ≤ n && n < 16 then gsum [min d (s.asymBound n), s.refPathAllow n] else s.refPathAllow n

/-- Mean path delay of a reference's instance in 1/16 ns (R211). -/
def State.meanPath (s : State) (n : Nat) : Nat := toGirth (s.inst (n - 12)).meanDelay.natAbs

/-- A (R211). -/
def State.termA (s : State) (n : Nat) : Nat := s.allowance n (s.meanPath n)

/-- U_peer: the larger entry of the active peer lane's two directions (R227; log entry 16). -/
def State.uPeer (s : State) : Nat :=
  max (s.calUnc (eid 0x0B (2 * s.net.peerActive))) (s.calUnc (eid 0x0B (2 * s.net.peerActive + 1)))

/-! ## Composition (R210, R212, R214, R226) -/

/-- The sum of the terms held (R210). -/
def State.girthSum (s : State) : Nat := gsum [s.girth.b, s.girth.m, s.girth.sTerm, s.girth.h, s.girth.a]

/-- The input of a term of reference n is available again after it lapsed at long count `t0` (R213): a valid solution or estimate, an
offset or a processed measurement since then. -/
def State.termBack (s : State) (n k t0 : Nat) : Bool :=
  let offset := (s.inst (n - 12)).offsets.any (fun p => decide (t0 < p.1))
  match k with
  | 0 => if n = 17 then (s.claim 17).isSome else if n = 16 then decide (1 ≤ s.gnss.solStatus) && decide (s.gnss.solStatus ≤ 3) else true
  | 1 => if 12 ≤ n && n < 16 then offset else if n = 17 then s.pair.thetaT.any (t0 < ·) else (s.termM n).isSome
  | 2 => if n = 17 then s.pair.thetaT.any (t0 < ·) else s.servo.lastT.any (t0 < ·)
  | 4 => if 12 ≤ n && n < 16 then offset else true
  | _ => true

/-- Terms whose input has returned count again (R213). -/
def State.termsBack (s : State) (n : Nat) : State :=
  { s with girth := { s.girth with lapsed := s.girth.lapsed.filter (fun p => !s.termBack n p.1 p.2) } }

/-- A term, unbounded while its input has lapsed (R213). -/
def State.bounded (s : State) (k v : Nat) : Nat := if (s.girth.lapsed.lookup k).isSome then girthUnknown else v

/-- The terms of the selected class T reference (R211, R213). -/
def State.composeRef (s : State) (n t : Nat) : State :=
  let s := s.termsBack n
  let (b, fl, c) := s.termB n t
  { s with girth := { s.girth with
      b := s.bounded 0 b
      m := s.bounded 1 ((s.termM n).getD s.girth.m)
      sTerm := s.bounded 2 (s.termS.getD s.girth.sTerm)
      h := s.bounded 3 0
      a := s.bounded 4 (s.termA n)
      hflags := fl
      inUse := c
      src := s.srcOf n
      refN := n
      bBase := toGirth (3 * s.gnss.boundSigma)
      aBase := s.meanPath n } }

/-- The terms of a standby aligned to its peer (R213, R227). -/
def State.composePeer (s : State) (t : Nat) : State :=
  let s := s.termsBack 17
  let c := s.claim 17
  { s with girth := { s.girth with
      b := match c with
        | some c => claimAt c t
        | none => s.bounded 0 s.girth.b
      m := s.bounded 1 (if s.cal.unusable then girthUnknown
        else if s.pair.thetas.length < 4 then s.girth.m else toGirth (3 * s.pair.sigma + s.uPeer))
      sTerm := s.bounded 2 (toGirth s.pair.theta.natAbs)
      h := s.bounded 3 0
      a := s.bounded 4 0
      hflags := 2
      inUse := c
      src := 7
      refN := 17 } }

/-- Frozen terms (R214): a write that raises the bound, the allowance or the bound on the asymmetry of their reference raises B or A; one that
lowers it waits for the freeze's end (R230). The claim that B was formed from is in use until its age makes it absent (R216, R221). -/
def State.composeFrozen (s : State) (t : Nat) : State :=
  let n := s.girth.refN
  let boundB := if n = 16 then gsum [s.girth.bBase, s.refBound 16]
    else if bit s.girth.hflags 3 || (bit s.girth.hflags 2 && s.girthUnauthMode = 0) then s.refBound n else 0
  { s with girth := { s.girth with
      inUse := s.girth.inUse.filter (fun c => decide (t ≤ c.rx + millis s.girthClaimAge))
      b := if n < 17 then max s.girth.b boundB else s.girth.b
      a := if n < 17 then max s.girth.a (s.allowance n s.girth.aBase) else s.girth.a
      h := s.hAt t } }

/-- The terms brought up to date for the time until the next anchor (R211, R212, R214). -/
def State.compose (s : State) : State :=
  let t := s.boundary
  if s.girth.freeze != .none then s.composeFrozen t
  else if s.pair.following then s.composePeer t
  else if s.sel.current < 17 && !s.switchingNow && !s.classF s.sel.current then s.composeRef s.sel.current t
  else s

/-- The servo cores compose G and write its register: not during a system reset, nor while SC0, which brings no measurement, or SC2 is in
engine reset (R120, R212, R226). -/
def State.girthRuns (s : State) : Bool := s.engsRun && (s.eng 32).status != .inReset && (s.eng 34).status != .inReset

/-- SC2 composes G and writes it (R212, R226). -/
def State.recalc (s : State) : State :=
  if s.girthRuns then
    let s := s.expireClaims.compose
    s.setG s.girthSum
  else s

/-- Writes that raise or lower a term take effect (R230): claims' mode and age, bounds and allowances, and the floors of H. -/
def State.takeTerms (s : State) : State :=
  s.takeLate (fun k => k == 0x281002 || k == 0x281003 || (0x290000 ≤ k && k < 0x291100) || k == 0x442007 || k == 0x442008 || k == 0x44200A)

/-- An anchor that no value of the girth reaches: the register grows from here (R226). -/
def State.growAnchor (s : State) : State :=
  if s.girthRuns then s else { s with girth := { s.girth with growFrom := some (s.girth.growFrom.getD s.tb.lc) } }

/-- The girth at an anchor (R212, R226). -/
def State.girthAnchor (s : State) : State :=
  let s := s.takeTerms
  let s := { s with girth := { s.girth with
              written := false
              ql := if s.switchingNow then s.girth.ql else s.todQl s.girth.ql }
                    ho := { s.ho with growth := s.hNow } }
  s.recalc

/-- A term's input has been unavailable for 10 s (R213): 0 B, 1 M, 2 S, 3 H, 4 A. Frozen terms have no input (R214). -/
def opTermTimeout (k : Nat) (s : State) : State :=
  if 5 ≤ k || s.girth.freeze != .none then s
  else
    let g := { s.girth with lapsed := putKey k s.tb.lc s.girth.lapsed }
    let u := girthUnknown
    let s := { s with girth := { g with b := if k = 0 then u else g.b, m := if k = 1 then u else g.m,
                                        sTerm := if k = 2 then u else g.sTerm, h := if k = 3 then u else g.h,
                                        a := if k = 4 then u else g.a } }
    let s := if s.pair.following && (k == 1 || k == 2) then s.leavePeer else s
    if s.girthRuns then s.setG s.girthSum else s

/-- GIRTH_RATE, 1/16 ns per s, rounded up: the growth of H, of the claim in use where it decides B (R217), of the coarse bound, or R226's
(R222, R229). -/
def State.girthRate (s : State) : Nat :=
  let hold := match s.ho.classF with
    | some _ =>
      let k := max 1 s.ho.sigmaF.length
      cdiv (16 * (3 * s.ho.sigmaF.sum + s.hoFreqFloor * k)) (1000000 * k)
    | none =>
      if s.girth.freeze == .none then 0
      else cdiv (16 * (s.linCoef * secUnits + 256 * s.quadCoef * (s.tb.lc - s.girth.freezeT))) (256 * 1000000000 * secUnits)
  let claim := match s.girth.inUse with
    | some c =>
      let bounded := !c.auth && s.girthUnauthMode = 0 && decide (claimAt c s.boundary < s.refBound s.girth.refN)
      if s.girth.freeze == .none && !bounded then c.growth else 0
    | none => 0
  let cold := if s.girth.growFrom.isSome then cdiv (16 * s.hoColdFreq) 1000000 else 0
  let coarse := if s.tb.coarse = 0 then 0 else cdiv (16 * s.tb.coarseRho) 1000
  max (max (hold + claim) cold) coarse

/-! ## Trace records and served girth (R218–R225) -/

/-- SRC of the own hop (R219, R227, R228): of the selected class T reference as it is now, or of the last one. -/
def State.hopSrc (s : State) : Nat :=
  if s.pair.following then 7
  else if s.tb.setByWrite then 8
  else if s.girth.freeze == .none && s.sel.current < 17 && !s.switchingNow && !s.classF s.sel.current then s.srcOf s.sel.current
  else s.girth.src

/-- HFLAGS of the own hop (R220). -/
def State.hopFlags (s : State) : Nat :=
  let c := s.girth.hflags
  ofBits [s.hopSrc == 1 && s.gnss.verified, bit c 1, bit c 2, bit c 3, s.girth.freeze != .none,
          decide (s.sel.current < 17) && s.classF s.sel.current, s.tb.coarse != 0]

/-- Two hops merged into a summary (R221). -/
def mergeTwo (x y : Hop) : Hop :=
  ⟨x.clockId, gsum [x.contrib, y.contrib], 9, setBit (x.hflags ||| y.hflags) 7 true, max x.hql y.hql⟩

/-- Hops reduced to 7 by merging the two oldest (R221). -/
def mergeHops : List Hop → List Hop
  | [] => []
  | [x] => [x]
  | x :: y :: t => if 8 ≤ t.length + 2 then mergeTwo x y :: t else x :: y :: t

/-- The trace record of a served girth (R221). -/
def State.trace (s : State) (served : Nat) : List Hop :=
  let (hops, base) := match s.girth.inUse with
    | some c => if c.hops.isEmpty then ([], 0) else (mergeHops c.hops, c.girth)
    | none => ([], 0)
  hops ++ [⟨s.clockIdentity, if girthUnknown ≤ served then girthUnknown else served - base, s.hopSrc, s.hopFlags,
    s.todQl s.girth.ql⟩]

/-- The chain of a trace record is attested (R221). -/
def attested (l : List Hop) : Bool := l.all (fun h => (bit h.hflags 1 || bit h.hflags 3) && !bit h.hflags 2)

/-- The girth served with added terms (R225). -/
def State.served (s : State) (extra : List Nat) : Nat := gsum (s.gNow :: extra)

/-- GFLAGS (R222). -/
def State.gflags (s : State) (l : List Hop) : Nat := ofBits [s.girth.timeValid, attested l]

/-- GROWTH (R222). -/
def State.growthField (s : State) : Nat := min 0xFFFF s.girthRate

/-- A trace record with its n oldest hops merged into the one behind them (R221, R323). -/
def mergeOldest : Nat → List Hop → List Hop
  | n + 1, x :: y :: t => mergeOldest n (mergeTwo x y :: t)
  | _, l => l

/-- The block that is served with a girth (R222, R225), with at most k hops (R323). -/
def State.girthBlockOf (s : State) (served k : Nat) : GirthBlock :=
  let l := s.trace served
  ⟨served, s.gflags l, s.growthField, mergeOldest (l.length - k) l⟩

/-- A block whose girth is fixed only at the transmit instant (R315): the hop that serves it takes what the others do not (R221). -/
def withGirth (b : GirthBlock) (served : Nat) : GirthBlock :=
  let others := b.hops.dropLast
  let rest := served - gsum (others.map (·.contrib))
  { b with girth := served
           hops := others ++ (b.hops.getLast?.map (fun h => { h with contrib := if girthUnknown ≤ served then girthUnknown else rest })).toList }

/-- A TLV is a girth TLV (R223): an ORGANIZATION_EXTENSION of Gelusk's with subtype 1 and the lengthField of its hops. -/
def girthTlvOk (t : GirthTlv) : Bool :=
  t.tlvType == 3 && t.org == 0x641FA8 && t.sub == 1 && t.len == 14 + 16 * t.block.hops.length

/-- GIRTH_TERMS (R229). -/
def State.girthTerms (s : State) : Nat :=
  lePack [(4, s.girth.b), (4, s.girth.m), (4, s.girth.sTerm), (4, s.girth.h), (4, s.girth.a)]

/-- A hop as an object holds it (R218), its reserved bits 0 (R9). -/
def packHop (h : Hop) : Nat := lePack [(8, h.clockId), (4, h.contrib), (1, h.src), (1, h.hflags), (1, h.hql % 16), (1, 0)]

/-- GIRTH_TRACE (R229): without a hop until G has been composed since the reset. -/
def State.girthTrace (s : State) : Nat :=
  let l := if s.girth.composed then s.trace s.gNow else []
  lePack ([(1, l.length), (3, 0)] ++ l.map (fun h => (16, packHop h)))

/-- REF_CLAIM (R229): C, or the last one of a claim that has become absent. -/
def State.refClaim (s : State) (n : Nat) : Nat :=
  match s.refClaimAt n s.tb.lc with
  | some c => claimAt c s.tb.lc
  | none => s.girth.lastC.getD n girthUnknown

/-! ## Meanings -/

/-- SERVO_MEASUREMENT (R112): the measurement, and the girth that follows it (R212). -/
def execServoMeasurement (now n : Nat) (p : Int) (status t : Nat) (s : State) : Host.Outcome State Fault Refusal :=
  .next (opMeasure n p status t (s.atTime now)).recalc

/-- GIRTH_TERM_TIMEOUT (R213). -/
def execGirthTermTimeout (now k : Nat) (s : State) : Host.Outcome State Fault Refusal := .next (opTermTimeout k (s.atTime now))

end Sys2Proof.Machine
end

