-- ==== Sys2Proof/Machine/Gnss.lean ====
section
/-!
DEFINITION. The GNSS baseband and time solution: IF inputs, notches and jamming, acquisition, tracking, epochs, navigation
data, OSNMA and GN0 (R181–R209). What satellites' signals, ephemerides and signatures give comes with the commands (log entry 17); what
the part makes of it, the least-squares solution of R203 included, is here.
-/
set_option Elab.async false
namespace Sys2Proof.Machine

/-! ## Signals (R181) -/

/-- Input of a signal code. -/
def sigInput (c : Nat) : Nat := if c < 5 then 0 else if c < 8 then 1 else 2

/-- System of a signal code: 0 GPS, 1 Galileo, 2 BeiDou. -/
def sigSystem (c : Nat) : Nat :=
  match c with
  | 2 => 1
  | 3 => 2
  | 4 => 2
  | 6 => 1
  | 7 => 2
  | 9 => 1
  | _ => 0

/-- Primary code length in chips (R181; the CM code for L2C, R189). -/
def sigChips (c : Nat) : Nat :=
  match c with
  | 0 => 1023
  | 2 => 4092
  | 3 => 2046
  | 9 => 5115
  | _ => 10230

/-- Primary code period in ms (R189). -/
def sigPeriod (c : Nat) : Nat :=
  match c with
  | 1 => 10
  | 2 => 4
  | 4 => 10
  | 8 => 20
  | _ => 1

/-- A signal with subcarrier always uses ¼ chip steps (R181, R189). -/
def sigBoc (c : Nat) : Bool := [1, 2, 4].contains c

/-- Carrier frequency in Hz, and half width of the main lobe in Hz (log entry 18). -/
def sigCarrier (c : Nat) : Nat × Nat :=
  match c with
  | 3 => (1561098000, 2046000)
  | 5 => (1176450000, 10230000)
  | 6 => (1176450000, 10230000)
  | 7 => (1176450000, 10230000)
  | 8 => (1227600000, 1023000)
  | 9 => (1278750000, 5115000)
  | 0 => (1575420000, 1023000)
  | _ => (1575420000, 2046000)

/-- Satellites of a system (log entry 18). -/
def systemSize (k : Nat) : Nat := if k = 0 then 32 else if k = 1 then 36 else 63

/-- A signal is enabled: itself, its system and its input (R208). -/
def State.sigEnabled (s : State) (c : Nat) : Bool :=
  decide (c < 10) && bit s.gnSignals c && bit s.gnSystems (sigSystem c) && s.gifEnable (sigInput c)

/-- Every enabled signal's main lobe lies within ±0.45 f_s of its input, for given settings (R185). -/
def lobesFit (signals k lo div : Nat) : Bool :=
  (List.range 10).all (fun c => !bit signals c || sigInput c != k ||
    decide ((((sigCarrier c).1 : Int) - lo).natAbs + (sigCarrier c).2 ≤ 45 * 1227600 / max 1 div))

/-- The main lobes of the enabled signals of an input fit (R185). -/
def State.lobesOk (s : State) (k : Nat) : Bool := lobesFit s.gnSignals k (s.gifLoHz k) (s.gifRateDiv k)

/-! ## Channels and the target list (R190–R195) -/

/-- The baseband runs. -/
def State.gnRuns (s : State) : Bool := s.gnEnable && s.group 6 == 1 && !s.start.inReset

/-- A tracking channel. -/
def State.track (s : State) (ch : Nat) : Option Track := s.gnss.tracks.lookup ch

/-- A channel is set, or returns to IDLE. -/
def State.setTrack (s : State) (ch : Nat) (t : Option Track) : State :=
  { s with gnss := { s.gnss with tracks := match t with
      | some t => putKey ch t s.gnss.tracks
      | none => delKey ch s.gnss.tracks } }

/-- A position is in use: configured, held, surveying or dynamic (R205). -/
def State.positionInUse (s : State) : Option (Int × Int × Int) :=
  if s.gnPosMode = 0 then
    (if s.gnPosition = 0 then none
     else some (signed 8 (fld s.gnPosition 0 8), signed 8 (fld s.gnPosition 8 8), signed 8 (fld s.gnPosition 16 8)))
  else if s.gnPosMode = 1 && s.gnss.position.isSome then s.gnss.position
  else s.gnss.lastPos

/-- GN_POSITION as it reads (R208): the position in use. -/
def State.shownPosition (s : State) : Nat :=
  match s.positionInUse with
  | some (x, y, z) => lePack [(8, unsigned 8 x), (8, unsigned 8 y), (8, unsigned 8 z)]
  | none => s.gnPosition

/-- Predicted elevation and Doppler of a satellite, when almanac data and a position exist (R189, R190). -/
def State.predicted (s : State) (sig v : Nat) : Option (Nat × Int) :=
  if s.positionInUse.isSome then
    s.gnss.svs.findSome? (fun x => if sigSystem x.sig == sigSystem sig && x.svid == v then x.elev else none)
  else none

/-- Every enabled signal and satellite, by predicted elevation where it is known, otherwise by code and number (R190). -/
def State.allTargets (s : State) : List (Nat × Nat) :=
  let l := ((List.range 10).filter s.sigEnabled).flatMap (fun c =>
    (List.range (systemSize (sigSystem c))).map (fun v => (c, v + 1)))
  let elev (p : Nat × Nat) : Option Nat := (s.predicted p.1 p.2).map (·.1)
  let known := l.filter (fun p => (elev p).isSome)
  let band (k : Nat) := known.filter (fun p => elev p == some k)
  ((List.range 91).reverse.flatMap band) ++ l.filter (fun p => (elev p).isNone)

/-- A signal is held by a channel, or already listed. -/
def State.held (s : State) (p : Nat × Nat) : Bool := s.gnss.tracks.any (fun t => t.2.sig == p.1 && t.2.svid == p.2)

/-- The target is being searched by an engine. -/
def State.searching (s : State) (t : Target) : Bool := s.gnss.engines.any (fun x => x.target == some (t.sig, t.svid))

/-- The target list brought up to date with what is enabled and held (R190, R209): signals that stand at its front, then those that this
round has still to search in the order of R190, then those returned to its end. A round is over when no engine can take another. -/
def State.retarget (s : State) : State :=
  let l := s.gnss.targets.filter (fun t => s.sigEnabled t.sig && !s.held (t.sig, t.svid))
  let front := l.filter (fun t => t.until_ != 0)
  let rest := l.filter (fun t => t.until_ == 0)
  let fresh := s.allTargets.filter (fun p => !s.held p && !front.any (fun t => t.sig == p.1 && t.svid == p.2))
  let ended := fresh.all (fun p => s.searching ⟨p.1, p.2, 0, none, false⟩ || rest.any (fun t => t.done && t.sig == p.1 && t.svid == p.2))
  let back := if ended then [] else rest.filter (·.done)
  let first := fresh.filter (fun p => !back.any (fun t => t.sig == p.1 && t.svid == p.2))
  { s with gnss := { s.gnss with targets := front ++ first.map (fun p => ⟨p.1, p.2, 0, none, false⟩) ++ back } }

/-- Thirty seconds from now (R190). -/
def State.frontEnd (s : State) : Nat := s.tb.lc + 30 * secUnits

/-- A target goes to the front of the list for 30 s with the place where it was last held, or to its end (R190). -/
def State.requeue (s : State) (c v : Nat) (last : Option Fix) : State :=
  let rest := s.gnss.targets.filter (fun t => !(t.sig == c && t.svid == v))
  { s with gnss := { s.gnss with
      targets := if last.isSome then ⟨c, v, s.frontEnd, last, false⟩ :: rest else rest ++ [⟨c, v, 0, none, true⟩] } }

/-- Entries whose 30 s at the front have ended stand at the end of the list (R190). -/
def State.ageTargets (s : State) : State :=
  let old (t : Target) : Bool := t.until_ != 0 && decide (t.until_ ≤ s.tb.lc)
  { s with gnss := { s.gnss with
      targets := s.gnss.targets.filter (fun t => !old t) ++
        (s.gnss.targets.filter old).map (fun t => { t with until_ := 0, last := none, done := true }) } }

/-- A free tracking channel: one that is no navigation channel first (log entry 19). -/
def State.freeTrack (s : State) : Option Nat :=
  ((List.range 240).map (· + 16) ++ List.range 16).find? (fun ch => (s.track ch).isNone)

/-- Length of a signal's primary code in 2⁻³² ms. -/
def codeUnits (c : Nat) : Nat := sigPeriod c * 4294967296

/-- Long-count units in 2⁻³² ms. -/
def lcCode (lc : Nat) : Nat := lc * 65536 / 1000000

/-- The cell that an engine stands at, in code-major order: code phase and Doppler (R189, R190). -/
def Search.at_ (x : Search) (sig now : Nat) : Fix :=
  { code := (x.grid.code0 + (rdiv ((x.cell / max 1 x.grid.bins * codeUnits sig : Nat) : Int) (sigChips sig * max 1 x.grid.step)).toNat) % codeUnits sig
    dop := x.grid.dop0 + rdiv (((x.cell % max 1 x.grid.bins) * 500000 : Nat) : Int) (max 1 x.grid.tc)
    at_ := now }

/-- A verified hit is handed to a free channel at its cell, or waits there (R190); a signal that is no longer enabled is let go (R209). -/
def State.handOver (s : State) (e : Nat) (x : Search) (tgt : Nat × Nat) : State :=
  if !s.sigEnabled tgt.1 then
    { s with gnss := { s.gnss with engines := s.gnss.engines.set e { Search.init with paused := x.paused } } }
  else match s.freeTrack with
  | none => { s with gnss := { s.gnss with engines := s.gnss.engines.set e { x with verifying := false, waiting := true } } }
  | some ch =>
    let f := x.at_ tgt.1 s.tb.lc
    let s := s.setTrack ch (some ⟨tgt.1, tgt.2, 1, 0, f.dop, s.trkSpacing ch, s.trkVspacing ch, f.code, f.at_, none⟩)
    { s with gnss := { s.gnss with
        engines := s.gnss.engines.set e { Search.init with paused := x.paused }
        targets := s.gnss.targets.filter (fun t => !(t.sig == tgt.1 && t.svid == tgt.2)) } }

/-- Engines whose hits wait take channels that have become free (R190). -/
def State.serveWaiting (s : State) : State :=
  (List.range 4).foldl (fun s e =>
    let x := s.gnss.engines.getD e Search.init
    match x.target with
    | some t => if x.waiting then s.handOver e { x with waiting := false } t else s
    | none => s) s

/-- A channel returns to IDLE, its signal back to the list: to the front with its last code phase and Doppler, or to the end (R190, R194,
R209). -/
def State.idleTrack (s : State) (ch : Nat) (front : Bool) : State :=
  match s.track ch with
  | none => s
  | some t =>
    let s := s.setTrack ch none
    (if s.sigEnabled t.sig then s.requeue t.sig t.svid (if front then some ⟨t.code, t.doppler, t.codeAt⟩ else none) else s).serveWaiting

/-- The baseband stops: every channel IDLE, every engine without a target (R207); where a signal was held stays known for a restart. -/
def State.gnStop (s : State) : State :=
  { s with gnss := { s.gnss with
      tracks := [], engines := List.replicate 4 Search.init, epochs := [], epochDropped := false
      targets := s.gnss.tracks.map (fun t => ⟨t.2.sig, t.2.svid, 0, some ⟨t.2.code, t.2.doppler, t.2.codeAt⟩, false⟩)
      solStatus := 0, verified := false, enough := false, crossFail := false, used := [] } }

/-- The baseband restarts (R198, R207): EPOCH_SEQ and EDGE of channel 0x1C at 0 together; `front` puts every satellite at the
front of the list. -/
def State.gnStart (s : State) (front : Bool) : State :=
  let s := opTiuReconfig 28 { s with gnss := { s.gnss with epochSeq := 0, epochs := [], epochDropped := false } }
  if front then
    let last (p : Nat × Nat) : Option Fix := (s.gnss.targets.find? (fun t => t.sig == p.1 && t.svid == p.2)).bind (·.last)
    { s with gnss := { s.gnss with
        targets := (s.allTargets.filter (fun p => !s.held p)).map (fun p => ⟨p.1, p.2, s.frontEnd, last p, false⟩) } }
  else ({ s with gnss := { s.gnss with targets := [] } } : State).retarget

/-- GN_ENABLE is written (R198, R208). Without the baseband GN0 has no solution and its signal is lost (R81; log entry 131). -/
def opGnEnable (s : State) : State := if s.gnEnable then s.gnStart false else opLossOfSignal 16 s.gnStop

/-! ## IF inputs and interference (R184–R188) -/

/-- GIFk_CLK has returned and the sample words are aligned, shifted by GIF_SLIP (R184). -/
def opGifAlign (k : Nat) (s : State) : State :=
  s.onGif k (fun g => { g with status := setBit (setBit g.status 0 true) 1 true, slip := s.gifSlip k })

/-- GIFk_CLK is lost (R184). -/
def opGifLost (k : Nat) (s : State) : State :=
  if bit (s.gif k).status 0 then
    let s := s.onGif k (fun g => { g with status := setBit g.status 0 false })
    ({ s with gnss := { s.gnss with ifLoss := true } } : State).raise 0x0801 k
  else s

/-- An input's settings change: it realigns under GIF_SLIP, and its channels return to IDLE (R209). -/
def opGifConfig (k : Nat) (s : State) : State :=
  let s := s.onGif k (fun g => { g with status := setBit g.status 1 (bit g.status 0), slip := s.gifSlip k })
  let chs := s.gnss.tracks.filter (fun t => sigInput t.2.sig == k)
  chs.foldl (fun s t => s.idleTrack t.1 false) s

/-- Channels whose signal is no longer enabled return to IDLE, engines let such a target go, and the target list follows (R190, R209). -/
def State.retune (s : State) : State :=
  let keep (x : Search) : Search := if x.target.any (fun t => !s.sigEnabled t.1) then { Search.init with paused := x.paused } else x
  let s : State := { s with gnss := { s.gnss with engines := s.gnss.engines.map keep } }
  ((s.gnss.tracks.filter (fun p => !s.sigEnabled p.2.sig)).foldl (fun s p => s.idleTrack p.1 false) s).retarget

/-- Objects whose writes wait for the next epoch (R209). -/
def gnKey (k : Nat) : Bool :=
  (0x500002 ≤ k && k < 0x500100) || (0x500101 ≤ k && k ≤ 0x500104) || (0x500201 ≤ k && k ≤ 0x500207) || (0x501000 ≤ k && k < 0x501300)

/-- Writes of the baseband's objects take effect (R209): an input whose settings change realigns, the target list follows, and a change of
GN_POS_MODE ends a position mismatch. -/
def State.takeGnss (s : State) : State :=
  let keys := (s.dict.held.filter (fun x => gnKey x.1)).map (·.1)
  let s := s.takeLate gnKey
  let s := (List.range 3).foldl (fun s k =>
    if [2, 3, 4, 5, 6].any (fun sub => keys.contains (0x501000 + 256 * k + sub)) then opGifConfig k s else s) s
  let s := if keys.contains 0x500101 then { s with gnss := { s.gnss with posMismatch := 0 } } else s
  if s.gnRuns && keys.any (fun k => k == 0x500002 || k == 0x500003 || k == 0x501001 || k == 0x501101 || k == 0x501201) then s.retune else s

/-- A sample's four bits as a value, by GIF_CODE (R182). -/
def sampleValue (code n : Nat) : Int :=
  match code with
  | 0 => if n < 8 then n else (n : Int) - 16
  | 1 => (n : Int) - 8
  | _ => if n < 8 then n else 8 - (n : Int)

/-- The value is at full scale of its code. -/
def fullScale (code : Nat) (v : Int) : Bool := v == 7 || v == (if code = 2 then -7 else -8)

/-- A sample, I in bits 3:0 and Q in bits 7:4, is at full scale (R182, R208). -/
def sampleFull (code n : Nat) : Bool :=
  fullScale code (sampleValue code (n % 16)) || fullScale code (sampleValue code (n / 16 % 16))

/-- Sample words of two streams of 4 bits, I in bits 3:0 and Q in bits 7:4, after their alignment has been shifted by `n` bits: each
word takes its last bits from the next one, most significant first (R182, R184). -/
def shiftWords (n : Nat) (l : List Nat) : List Nat :=
  let cut (a b : Nat) : Nat := (a * 2 ^ n + b / 2 ^ (4 - n)) % 16
  if n = 0 then l
  else List.zipWith (fun a b => cut (a % 16) (b % 16) + 16 * cut (a / 16 % 16) (b / 16 % 16)) l l.tail

/-- A notch list after one 10 ms spectrum in adaptive mode (R186): `lines` are the lines at or above NOTCH_DETECT. -/
def keepNotches (lines : List (Int × Nat)) (l : List (Option (Int × Nat × Nat))) : List (Option (Int × Nat × Nat)) :=
  l.map (fun n => n.bind (fun x =>
    match lines.find? (·.1 == x.1) with
    | some y => some (x.1, y.2, 0)
    | none => if 100 ≤ x.2.2 + 1 then none else some (x.1, x.2.1, x.2.2 + 1)))

/-- A new line takes a free notch, or the weakest covered line's when it is stronger (R186). -/
def addNotch (l : List (Option (Int × Nat × Nat))) (y : Int × Nat) : List (Option (Int × Nat × Nat)) :=
  if l.any (fun n => n.any (·.1 == y.1)) then l
  else match l.findIdx? (·.isNone) with
    | some i => l.set i (some (y.1, y.2, 0))
    | none =>
      let levels := l.map (fun n => (n.map (·.2.1)).getD 0)
      let low := levels.foldl min (levels.headD 0)
      if low < y.2 then l.set (levels.idxOf low) (some (y.1, y.2, 0)) else l

/-- The entries of NOTCH_FIXED (R186, R208). -/
def State.fixedNotches (s : State) (k : Nat) : List (Option (Int × Nat × Nat)) :=
  (List.range 8).map (fun j =>
    let f := signed 4 (fld (s.notchFixed k) (4 * j) 4)
    if f = 0 then none else some (f, 0, 0))

/-- A notch centre lies within the main lobe of an enabled signal (R186). -/
def State.notchInLobe (s : State) (k : Nat) (l : List (Option (Int × Nat × Nat))) : Bool :=
  l.any (fun n => n.any (fun x => (List.range 10).any (fun c => s.sigEnabled c && sigInput c == k &&
    decide ((x.1 + (s.gifLoHz k : Int) - ((sigCarrier c).1 : Int)).natAbs ≤ (sigCarrier c).2))))

/-- The 10 ms spectrum of an input (R186): its lines as the pins carry them, with their levels above the median in 0.1 dB, and sample words of
the interval as the clock's first edge aligns them, which the alignment's shift cuts anew (R184). Q negated turns a line's frequency
round (R185). -/
def opNotch (k : Nat) (lines : List (Int × Nat)) (words : List Nat) (s : State) : State :=
  let full := shiftWords (s.gif k).slip words
  let old := (s.gif k).notches
  let lines := if s.gifInvert k then lines.map (fun y => (-y.1, y.2)) else lines
  let strong := lines.filter (fun y => decide (s.notchDetect k ≤ y.2))
  let new := if s.notchMode k = 1 then strong.foldl addNotch (keepNotches strong old)
    else if s.notchMode k = 2 then s.fixedNotches k
    else List.replicate 8 none
  let moved := new.map (·.map (·.1)) != old.map (·.map (·.1))
  let clipped := decide (full.length < 100 * full.countP (sampleFull (s.gifCode k)))
  let s := s.onGif k (fun g =>
    { g with notches := new, status := setBit (setBit g.status 2 clipped) 3 (s.notchInLobe k new) })
  { s with gnss := { s.gnss with notchMoved := s.gnss.notchMoved || moved } }

/-- J (R187): power in 0.01 dBFS, flatness in 0.001. -/
def State.jamValue (s : State) (k d flat : Nat) : Nat := min 255 (8 * d / 100 + 255 * (s.sfmQuiet k - flat) / max 1 (s.sfmQuiet k))

/-- Received QL of GN0 (R75, R188). -/
def State.gnQl (s : State) : State :=
  let valid := decide (1 ≤ s.gnss.solStatus) && decide (s.gnss.solStatus ≤ 3)
  s.onRef 16 (fun r => { r with
    qlRx := if !valid || s.gnss.jamDnu then 0xF else if s.gnss.verified then 2 else s.gnUnverifiedQl })

/-- The 100 ms jamming update of an input (R187, R188). -/
def opJam (k : Nat) (power : Int) (flat : Nat) (s : State) : State :=
  let d := (power - s.agcQuiet k).toNat
  let j := s.jamValue k d flat
  let s := s.onGif k (fun g =>
    { g with jam := j, agc := d, sfm := flat, quiet := if j + 16 < s.gnJamThreshold then g.quiet + 1 else 0 })
  let ks := (List.range 3).filter s.gifEnable
  let dnu := if s.gifEnable k && decide (s.gnJamThreshold ≤ j) then true
    else s.gnss.jamDnu && !ks.all (fun k => decide (100 ≤ (s.gif k).quiet))
  ({ s with gnss := { s.gnss with jamDnu := dnu } } : State).gnQl

/-! ## Acquisition (R189–R191) -/

/-- The grid of a target, with the objects as they stand when it begins (R189, R190, R209): narrowed around the code phase and Doppler
where the signal was last held, while it stands at the front, or the whole code around the predicted Doppler. -/
def State.gridOf (s : State) (t : Target) : Grid :=
  let step := if sigBoc t.sig || s.acqCodeStep = 1 then 4 else 2
  let tc := max s.acqTc (sigPeriod t.sig)
  let bins (span : Nat) := 4 * span * tc / 1000 + 1
  match (if s.tb.lc < t.until_ then t.last else none) with
  | some f =>
    let n := codeUnits t.sig
    let drift := rdiv (f.dop * (lcCode (s.tb.lc - f.at_) : Nat)) (1000 * (sigCarrier t.sig).1)
    let first := (f.code : Int) + drift - ((20 * n / sigChips t.sig : Nat) : Int)
    ⟨(first % (n : Int)).toNat, 40 * step + 1, step, f.dop - 250000, bins 250, tc, s.acqThreshold⟩
  | none =>
    let mid := ((s.predicted t.sig t.svid).map (·.2)).getD 0
    ⟨0, sigChips t.sig * step, step, mid - (s.acqDopplerSpan : Int) * 1000, bins s.acqDopplerSpan, tc, s.acqThreshold⟩

/-- Cells of a grid (R189). -/
def Grid.cells (g : Grid) : Nat := g.codes * g.bins

/-- The next entry of the target list that no other engine holds (R190). -/
def State.nextTarget (s : State) : Option Target :=
  s.gnss.targets.find? (fun t => !s.searching t)

/-- The engine's own record is replaced. -/
def State.setSearch (s : State) (e : Nat) (x : Search) : State :=
  { s with gnss := { s.gnss with engines := s.gnss.engines.set e x } }

/-- An engine moves to its next cell, or returns its target to the end of the list (R190). -/
def State.nextCell (s : State) (e : Nat) (x : Search) (t : Nat × Nat) : State :=
  if x.cell + 1 < x.grid.cells then
    s.setSearch e { x with cell := x.cell + 1, verifying := false, retests := 0, hits := 0 }
  else (s.setSearch e { Search.init with paused := x.paused }).requeue t.1 t.2 none

/-- One statistic of a search engine, in 0.01 (R190): a first test, or one of four re-tests. -/
def State.statistic (s : State) (e stat : Nat) : State :=
  let x := s.gnss.engines.getD e Search.init
  match x.target with
    | none =>
      let s := s.ageTargets
      match s.nextTarget with
      | none => s
      | some t => s.setSearch e { Search.init with target := some (t.sig, t.svid), grid := s.gridOf t }
    | some t =>
      let hit := decide (x.grid.threshold ≤ stat)
      if x.verifying then
        let x := { x with retests := x.retests - 1, hits := x.hits + b2n hit }
        if 0 < x.retests then s.setSearch e x
        else if 3 ≤ x.hits then s.handOver e x t
        else s.nextCell e x t
      else if hit then s.setSearch e { x with verifying := true, retests := 4, hits := 0 }
      else s.nextCell e x t

/-- An engine pauses (R191): its statistic is complete, and on release it goes on at the next cell, so a verification that the pause
interrupts is not taken up again. -/
def State.pauseEngine (s : State) (e : Nat) : State :=
  let x := s.gnss.engines.getD e Search.init
  let s := match x.target with
    | some t => if x.verifying then s.nextCell e x t else s
    | none => s
  s.setSearch e { (s.gnss.engines.getD e Search.init) with paused := true }

/-- ACQ_STATISTIC (R190, R191): while work class W3 is withheld an engine completes its statistic and pauses; without a
target it pauses at once. -/
def opAcq (e stat : Nat) (s : State) : State :=
  let x := s.gnss.engines.getD e Search.init
  if !s.gnRuns || 4 ≤ e || x.paused || x.waiting then s
  else if bit s.engs.gated 3 then (if x.target.isSome then s.statistic e stat else s).pauseEngine e
  else s.statistic e stat

/-- A handed-over signal has not reached CODE_LOCK within 1 s (R190). -/
def opPullIn (ch : Nat) (s : State) : State :=
  match s.track ch with
  | some t => if t.state = 1 then s.idleTrack ch false else s
  | none => s

/-- A channel is lost (R194). -/
def opTrackLost (ch : Nat) (s : State) : State :=
  if (s.track ch).isSome then (s.idleTrack ch true).raise 0x0802 ch else s

/-- ACQ_ACTIVE (R208). -/
def State.acqActive (s : State) : Nat :=
  ofBits ((List.range 4).map (fun k => s.gnRuns && (s.gnss.engines.getD k Search.init).target.isSome &&
      !(s.gnss.engines.getD k Search.init).paused && !(s.gnss.engines.getD k Search.init).waiting) ++
    (List.range 4).map (fun k => (s.gnss.engines.getD k Search.init).paused))

/-! ## Epochs (R192, R193, R196–R198, R209) -/

/-- A channel as the epoch edge finds it. -/
def State.observe (s : State) (o : TrkObs) : State :=
  match s.track o.ch with
  | none => s
  | some t =>
    let n := codeUnits t.sig
    s.setTrack o.ch (some { t with
      state := if 1 ≤ o.state && o.state ≤ 5 then o.state else t.state
      cn0 := o.cn0
      doppler := o.doppler
      code := (((o.txt : Int) - (lcCode s.tb.lc : Nat)) % (n : Int)).toNat
      codeAt := s.tb.lc
      lowSince := if o.cn0 < s.gnCn0Drop then some (t.lowSince.getD s.tb.lc) else none })

/-- TFLAGS of an entry (R197): TIMED and the very-early/very-late pair as the channel is (R181, R192), the others as observed. -/
def Track.tflags (t : Track) (o : TrkObs) : Nat :=
  ofBits [t.state == 5, bit o.tflags 1, bit o.tflags 2, sigBoc t.sig]

/-- An entry of a measurement record (R197). -/
def State.entryBytes (s : State) (o : TrkObs) : Nat :=
  match s.track o.ch with
  | none => 0
  | some t =>
    lePack [(1, o.ch), (1, t.sig), (1, t.svid), (1, t.tflags o), (8, o.txt), (8, unsigned 8 o.carr), (4, unsigned 4 o.doppler),
      (2, o.cn0), (2, min o.lock 65535), (1, t.spacing), (3, 0)]

/-- The entry as the engines use it (R197). -/
def State.epochEntry (s : State) (o : TrkObs) : Option EpochEntry :=
  (s.track o.ch).map (fun t => ⟨o.ch, t.sig, t.svid, t.tflags o, o.txt, o.cn0⟩)

/-- Channels whose C/N₀ has stayed below GN_CN0_DROP for 1 s are lost (R194). -/
def State.dropWeak (s : State) : State :=
  (s.gnss.tracks.filter (fun t => t.2.lowSince.any (fun l => decide (l + secUnits ≤ s.tb.lc)))).foldl (fun s t => opTrackLost t.1 s) s

/-- The satellite's data under any of its system's signals. -/
def State.svData (s : State) (sys v : Nat) : List SvData := s.gnss.svs.filter (fun x => sigSystem x.sig == sys && x.svid == v)

/-- A satellite used in the solution whose ephemeris is more than 2 h old or superseded (R195). -/
def State.navDue (s : State) (sys v : Nat) : Bool :=
  s.gnss.used.contains (sys, v) && !(s.svData sys v).any (fun x => !x.stale && x.ephTime.any (fun t => decide (s.tai ≤ t + 7200)))

/-- A list in ascending order of a key. -/
def sortBy {α : Type} (key : α → Int) (l : List α) : List α :=
  l.foldl (fun acc x => acc.filter (fun y => decide (key y ≤ key x)) ++ x :: acc.filter (fun y => decide (key x < key y))) []

/-- The signals that navigation channels are to hold, in the precedence of R195: Galileo E1 by elevation, signals of satellites whose
ephemeris is due, and a rotation by which the one that delivered longest ago comes first (log entry 130). -/
def State.navWanted (s : State) : List (Nat × Nat) :=
  let l := (s.gnss.tracks.map (fun t => (t.2.sig, t.2.svid))).filter (fun p => p.1 != 9)
  let e1 := if s.gnOsnmaEnable then
      (sortBy (fun p => -(((s.predicted p.1 p.2).map (fun x => (x.1 : Int))).getD (-1))) (l.filter (·.1 == 2))).take s.gnOsnmaChannels
    else []
  let due := (l.filter (fun p => s.navDue (sigSystem p.1) p.2)).foldl
    (fun acc p => if acc.any (fun q => sigSystem q.1 == sigSystem p.1 && q.2 == p.2) then acc else acc ++ [p]) []
  let last (p : Nat × Nat) : Int := ((s.gnss.svs.find? (fun x => x.sig == p.1 && x.svid == p.2)).bind (·.navAt)).getD (-1)
  ((e1 ++ due ++ sortBy last l).foldl (fun acc p => if acc.contains p then acc else acc ++ [p]) []).take 16

/-- Two channels exchange what they hold, tracking state and all (R195). -/
def State.swapTracks (s : State) (a b : Nat) : State :=
  let x := s.track a
  let y := s.track b
  (s.setTrack a y).setTrack b x

/-- Navigation channels are assigned at the epoch boundary (R195): a wanted signal on another channel moves to a navigation channel that
is free or holds one that is not wanted. -/
def State.assignNav (s : State) : State :=
  let want := s.navWanted
  let moving := want.filterMap (fun p => (s.gnss.tracks.find? (fun t => 16 ≤ t.1 && t.2.sig == p.1 && t.2.svid == p.2)).map (·.1))
  let free := (List.range 16).filter (fun ch => (s.track ch).isNone)
  let other := (List.range 16).filter (fun ch => (s.track ch).any (fun t => !want.contains (t.sig, t.svid)))
  (moving.zip (free ++ other)).foldl (fun s p => s.swapTracks p.1 p.2) s

/-- TRK_SPACING and TRK_VSPACING count from the channel's epoch (R193). -/
def State.takeSpacing (s : State) : State :=
  { s with gnss := { s.gnss with
      tracks := s.gnss.tracks.map (fun t => (t.1, { t.2 with spacing := s.trkSpacing t.1, vspacing := s.trkVspacing t.1 })) } }

/-- What precedes the latch of an epoch: writes that waited take effect, channels are found as they are, and signals enter and leave navigation
channels (R193, R195, R209). -/
def State.epochBoundary (s : State) (obs : List TrkObs) : State :=
  (obs.foldl State.observe s.takeGnss).takeSpacing

/-- What follows it: lost channels, navigation channels, and engines that wait for a channel (R190, R194, R195). -/
def State.afterEpoch (s : State) : State := s.dropWeak.assignNav.retarget.serveWaiting

/-- An epoch is valid, or counts towards the loss of GN0's signal: the third in a row that is not (R81, R205). -/
def State.countEpoch (s : State) (ok : Bool) : State :=
  let n := if ok then 0 else (s.ref 16).misses + 1
  let s := s.onRef 16 (fun r => { r with misses := n })
  if n = 3 then opLossOfSignal 16 s else s

/-- The epoch edge (R196, R197): channels are latched, the record is queued and the edge is stamped on channel 0x1C. A record that a full
queue drops leaves its epoch without a valid solution (R33, R205). -/
def opEpoch (now bin : Nat) (obs : List TrkObs) (s : State) : State :=
  if !s.gnRuns then s
  else
    let s := s.epochBoundary obs
    let ent := obs.filter (fun o => match s.track o.ch with | some t => decide (2 ≤ t.state) | none => false)
    let fl := ofBits [s.gnss.ifLoss, s.gnss.epochDropped, s.gnss.notchMoved]
    let seq := s.gnss.epochSeq
    let full := decide (Config.gnssQueueDepth ≤ s.gnss.epochs.length)
    let r := lePack ([(4, seq), (2, ent.length), (2, fl), (24, 0)] ++ ent.map (fun o => (32, s.entryBytes o)))
    let s := { s with gnss := { s.gnss with
                epochs := (if full then s.gnss.epochs.drop 1 else s.gnss.epochs) ++ [(⟨seq, fl, ent.filterMap s.epochEntry⟩ : EpochRec)]
                epochDropped := full
                droppedEpochs := if full then bump s.gnss.droppedEpochs else s.gnss.droppedEpochs
                epochSeq := bump seq
                ifLoss := false
                notchMoved := false } }
    let s := ((s.tap 3 0 false (leBytes (32 + 32 * ent.length) r)).tiuEdge now 28 bin).afterEpoch
    if full then s.countEpoch false else s

/-! ## Navigation data and OSNMA (R195, R199–R201) -/

/-- A satellite's data. -/
def State.sv (s : State) (sig v : Nat) : Option SvData := s.gnss.svs.find? (fun x => x.sig == sig && x.svid == v)

/-- A satellite's data changed. -/
def State.onSv (s : State) (sig v : Nat) (f : SvData → SvData) : State :=
  let x := (s.sv sig v).getD ⟨sig, v, none, none, false, none, none, false, 0⟩
  { s with gnss := { s.gnss with svs := f x :: s.gnss.svs.filter (fun y => !(y.sig == sig && y.svid == v)) } }

/-- Independent time (R200). -/
def State.independent (s : State) : Bool :=
  decide (s.gNow < girthUnknown) && (s.gnOsnmaTimeSource = 1 || s.tb.stepRef != 16 || s.gnss.everVerified)

/-- GN_OSNMA_STATUS (R208). -/
def State.osnmaStatus (s : State) : Nat :=
  if !s.gnOsnmaEnable then 0
  else if s.gnOsnmaPubkey = 0 then 1
  else if !s.independent then 2
  else if !s.gnss.osnmaChain then 3
  else if (match s.gnss.osnmaFail with | some t => decide (s.tai < t + 300) | none => false) then 7
  else if !s.gnss.enough then 4
  else if s.gnss.crossFail then 6
  else if s.gnss.verified then 5 else 4

/-- A failed signature or tag (R200). -/
def State.osnmaBad (s : State) (sig v : Nat) : State :=
  let s := s.onSv sig v (fun x => { x with excludedUntil := s.tai + 300, adkd0 := false })
  ({ s with gnss := { s.gnss with osnmaFail := some s.tai } } : State).raise 0x0803 v

/-- An OSNMA element of an E1-B page (R200, R201). -/
def State.osnmaStep (s : State) (sig v : Nat) (o : Osnma) : State :=
  if !s.gnOsnmaEnable || sig != 2 then s
  else match o with
    | .none => s
    | .krootOk => { s with gnss := { s.gnss with osnmaChain := s.gnOsnmaPubkey != 0 } }
    | .krootBad => s.osnmaBad sig v
    | .keyDisclosed => s
    | .tag0Ok => if s.independent && s.gnss.osnmaChain then s.onSv sig v (fun x => { x with adkd0 := true }) else s
    | .tag4Ok =>
      if s.independent && s.gnss.osnmaChain then { s with gnss := { s.gnss with adkd4 := some s.tai } } else s
    | .tag12Ok => s
    | .tagBad => if s.independent && s.gnss.osnmaChain then s.osnmaBad sig v else s
    | .newKey k =>
      if s.gnOsnmaRoot = 0 then s
      else (s.auditEvent { atype := 0x0A, role := .owner, index := 0x5002, sub := 2, value := auditValue 68 k }).put 0x5002 2 k

/-- ADKD 4 verified within the last 24 h (R201). -/
def State.adkd4Recent (s : State) : Bool :=
  match s.gnss.adkd4 with
  | some t => decide (s.tai ≤ t + 86400)
  | none => false

/-- Leap-second fields of a unit: two that agree make them valid; while GN0 is verified only authenticated Galileo values are
supplied (R206). -/
def State.gnLeap (s : State) (sig : Nat) (l : Int × Nat × Nat) : State :=
  if !([0, 2, 5, 8].contains sig) || (s.gnss.verified && !(sig == 2 && s.adkd4Recent)) then s
  else
    let n := match s.gnss.leapSeen with
      | some (a, b, c, n) => if a == l.1 && b == l.2.1 && c == l.2.2 then n + 1 else 1
      | none => 1
    let s := { s with gnss := { s.gnss with leapSeen := some (l.1, l.2.1, l.2.2, n) } }
    if s.sel.current == 16 then s.learnUtc l.1 l.2.1 l.2.2 (decide (2 ≤ n)) else s

/-- Full time at a past long count: the present one's, without the steps taken since (R43, R46). -/
def State.fullAt (s : State) (t : Nat) : Int := (t : Int) + (s.tb.offset - s.stepsAfter t) * 65536

/-- The 104 bytes of a navigation-bit record (R199). -/
def State.navBytes (s : State) (ch sig v : Nat) (u : NavUnit) : List Byte :=
  leBytes 104 (lePack [(1, ch), (1, sig), (1, v), (1, u.nflags), (2, u.nbits), (2, u.checkMask),
    (12, time96 (s.fullAt u.rxt)), (4, 0), (80, u.bits)])

/-- The ephemeris that a unit completes, or a change of the issue of data that supersedes the one held (R195, R201). -/
def SvData.takeEph (x : SvData) (tai : Int) (u : NavUnit) : SvData :=
  if u.eph then { x with ephTime := some tai, iod := u.iod, stale := false, adkd0 := x.adkd0 && u.iod == x.iod }
  else { x with stale := x.stale || (u.iod.isSome && u.iod != x.iod) }

/-- The signals whose data give system k's offset from GPS time (R204): GGTO from Galileo I/NAV and F/NAV and GPS CNAV, the BeiDou–GPS
offset from D1 and B-CNAV1. -/
def bcastFrom (sig k : Nat) : Bool := if k = 1 then [2, 5, 6, 8].contains sig else if k = 2 then [3, 4].contains sig else false

/-- A navigation data unit of a navigation channel (R199, R200, R204, R206). -/
def opNav (ch : Nat) (u : NavUnit) (s : State) : State :=
  match s.track ch with
  | none => s
  | some t =>
    if 16 ≤ ch || !s.gnRuns || t.sig == 9 then s
    else
      let s := s.onSv t.sig t.svid (fun x => { x with navAt := some s.tai })
      if bit u.nflags 4 then s
      else
        let s := s.tap 4 0 false (s.navBytes ch t.sig t.svid u)
        if !bit u.nflags 1 then { s with gnss := { s.gnss with navErrors := bump s.gnss.navErrors } }
        else
          let s := s.onSv t.sig t.svid (fun x => x.takeEph s.tai u)
          let s := match u.elev with
            | some d => s.onSv t.sig t.svid (fun x => { x with elev := some d })
            | none => s
          let s := match u.bcast with
            | some (k, v) => if bcastFrom t.sig k then
                { s with gnss := { s.gnss with isbBcast := s.gnss.isbBcast.set (k - 1) (some (v, s.tai)) } } else s
            | none => s
          let s := s.osnmaStep t.sig t.svid u.osnma
          match u.leap with
          | some l => s.gnLeap t.sig l
          | none => s

/-- The engine that runs OSNMA and decodes navigation data is reset: its memory is wiped, so the chain starts again and the ephemerides are
gone (R200, R509; log entry 128). -/
def State.osnmaLost (s : State) : State :=
  { s with gnss := { s.gnss with
      osnmaChain := false, adkd4 := none
      svs := s.gnss.svs.map (fun x => { x with ephTime := none, iod := none, stale := false, adkd0 := false }) } }

/-! ## Time solution (R201–R206) -/

/-- System offset to TAI in s (R206). -/
def taiOffset (sys : Nat) : Int := if sys = 2 then 33 else 19

/-- The position that the hold modes use, mm (R202). -/
def State.heldPosition (s : State) : Option (Int × Int × Int) :=
  if s.gnPosMode = 2 then none
  else if s.gnPosMode = 0 then s.positionInUse
  else s.gnss.position

/-- The problem solves the position (R202). -/
def State.solvesPosition (s : State) : Bool := s.gnPosMode = 2 || (s.gnPosMode = 1 && s.gnss.position.isNone)

/-- A row of the least-squares problem (R203): satellite, system, TAI of the epoch edge that the entry gives at the point of linearisation in
2⁻¹⁶ ns, variance of code noise, sin² of the elevation, and direction. -/
structure GnRow where
  sig : Nat
  svid : Nat
  sys : Nat
  z : Int
  var : Nat
  sin2 : Nat
  los : Int × Int × Int
deriving DecidableEq, Repr

/-- The product of a direction, unit 2⁻³⁰, and a displacement in mm, as 2⁻¹⁶ ns of light. -/
def losTime (l d : Int × Int × Int) : Int :=
  rdiv ((l.1 * d.1 + l.2.1 * d.2.1 + l.2.2 * d.2.2) * 65536000000) (1073741824 * 299792458)

/-- Current offset of system k from GPS time by what has been broadcast (R204). DESIGN CHOICE: an offset is current for the 2 h after
which R195 has an ephemeris renewed (log entry 158). -/
def State.fromGps (s : State) (k : Nat) : Option Int :=
  if k = 0 then some 0
  else (s.gnss.isbBcast.getD (k - 1) none).bind (fun x => if s.tai ≤ x.2 + 7200 then some x.1 else none)

/-- GN_ISB_BCAST of system k: its broadcast time less that of the reference system (R204). -/
def State.isbCast (s : State) (k : Nat) : Option Int :=
  if k = s.gnTimeSystem then some 0
  else match s.fromGps k, s.fromGps s.gnTimeSystem with
    | some a, some b => some (a - b)
    | _, _ => none

/-- The entry enters the solution (R200, R203): TIMED, above the masks, its ephemeris held, and not excluded by OSNMA. -/
def State.gnEligible (s : State) (e : EpochEntry) (o : GnObs) : Bool :=
  let d := s.svData (sigSystem e.sig) e.svid
  bit e.tflags 0 && decide ((s.gnElevMask : Int) < o.elev) && decide (s.gnCn0Mask < e.cn0) &&
    d.any (fun x => x.ephTime.isSome) && d.all (fun x => decide (x.excludedUntil ≤ s.tai))

/-- TAI of the epoch edge by an entry, before its ionosphere is taken off (R183, R203, R206): transmit time, modelled delay, and the part's own
delays. -/
def State.entryTime (s : State) (e : EpochEntry) (o : GnObs) : Int :=
  (o.week + taiOffset (sigSystem e.sig)) * 65536000000000 + rdiv ((e.txt : Int) * 1000000) 65536 + o.prop +
    s.calVal (eid 7 (sigInput e.sig)) + s.calVal (eid 8 (sigInput e.sig)) + s.calVal (eid 9 e.sig)

/-- The partner band of a signal in the dual-frequency combination (R203): GPS L1 with L5, E1 with E5a, B1C with B2a. -/
def partnerBand (c : Nat) : Option Nat :=
  match c with
  | 0 => some 5
  | 1 => some 5
  | 2 => some 6
  | 4 => some 7
  | _ => none

/-- The ionosphere-free combination of two bands, whose carriers are 154 and 115 times 10.23 MHz (R203; log entry 18). -/
def ionoFree (a b : Int) : Int := rdiv (23716 * a - 13225 * b) 10491

/-- Variance of that combination. -/
def ionoFreeVar (a b : Nat) : Nat := cdiv (23716 * 23716 * a + 13225 * 13225 * b) (10491 * 10491)

/-- The rows of an epoch (R203): two tracked bands of a satellite make one row (log entry 132), any other entry one with its broadcast
ionosphere. -/
def State.gnRows (s : State) (r : EpochRec) (x : GnSol) : List GnRow :=
  let l := r.entries.filterMap (fun e => (x.obs.find? (·.ch == e.ch)).bind (fun o => if s.gnEligible e o then some (e, o) else none))
  let partner (p : EpochEntry × GnObs) : Option (EpochEntry × GnObs) :=
    (partnerBand p.1.sig).bind (fun c => l.find? (fun q => q.1.sig == c && q.1.svid == p.1.svid))
  let first (p : EpochEntry × GnObs) : Bool :=
    !l.any (fun q => q.1.svid == p.1.svid && decide (q.1.sig < p.1.sig) && partnerBand q.1.sig == partnerBand p.1.sig)
  let joined (p : EpochEntry × GnObs) : Bool :=
    l.any (fun q => partnerBand q.1.sig == some p.1.sig && q.1.svid == p.1.svid)
  l.filterMap (fun p =>
    let row (z : Int) (v : Nat) : GnRow := ⟨p.1.sig, p.1.svid, sigSystem p.1.sig, z, max 1 v, p.2.sin2, p.2.los⟩
    match (if first p then partner p else none) with
    | some q => some (row (ionoFree (s.entryTime p.1 p.2) (s.entryTime q.1 q.2)) (ionoFreeVar p.2.var q.2.var))
    | none => if joined p then none else some (row (s.entryTime p.1 p.2 + p.2.iono) p.2.var))

/-- Inter-system offsets that the problem solves (R204): of the other systems in use, under GN_ISB_MODE 0x00. -/
def State.isbUnknowns (s : State) (rows : List GnRow) : List Nat :=
  if s.gnIsbMode = 0 then (List.range 3).filter (fun k => k != s.gnTimeSystem && rows.any (·.sys == k)) else []

/-- Under GN_ISB_MODE 0x01 a row is taken in the reference system's time by the broadcast offset, and left out without one (R204). -/
def State.castRows (s : State) (rows : List GnRow) : List GnRow :=
  if s.gnIsbMode = 0 then rows
  else rows.filterMap (fun r => (s.isbCast r.sys).map (fun d => { r with z := r.z - d }))

/-- Coefficients of the unknowns in a row: time, inter-system offsets, position. -/
def GnRow.design (isbs : List Nat) (pos : Bool) (r : GnRow) : List Int :=
  1 :: isbs.map (fun k => if r.sys = k then 1 else 0) ++ (if pos then [r.los.1, r.los.2.1, r.los.2.2] else [])

/-- Determinant of the first n columns of n rows. -/
def det : Nat → List (List Int) → Int
  | 0, _ => 1
  | n + 1, m => ((List.range (n + 1)).map (fun i =>
      (if i % 2 = 0 then 1 else -1) * (m.getD i []).headD 0 * det n ((m.eraseIdx i).map List.tail))).sum

/-- A least-squares solution (R203): determinant of the normal equations, each unknown times it, its cofactor for the time, the sum of
weights and of weighted squares of residuals times the square of it, the scale of the weights, and each row's weighted square. -/
structure Lsq where
  dt : Int
  xs : List Int
  cof : Int
  sw : Nat
  ss : Nat
  scale : Nat
  parts : List Nat
deriving DecidableEq, Repr

/-- The weighted least-squares problem over the rows (R203). A weight is sin² of the elevation over the variance of code noise (log entry 133),
held exactly over the product of all variances. -/
def lsq (isbs : List Nat) (pos : Bool) (rows : List GnRow) : Lsq :=
  let scale := rows.foldl (fun a r => a * r.var) 1
  let w (r : GnRow) : Nat := r.sin2 * (scale / r.var)
  let n := 1 + isbs.length + (if pos then 3 else 0)
  let h (r : GnRow) := r.design isbs pos
  let sum (f : GnRow → Int) : Int := (rows.map f).sum
  let nm := (List.range n).map (fun i => (List.range n).map (fun j => sum (fun r => (w r : Int) * (h r).getD i 0 * (h r).getD j 0)))
  let b := (List.range n).map (fun i => sum (fun r => (w r : Int) * (h r).getD i 0 * r.z))
  let dt := det n nm
  let xs := (List.range n).map (fun i => det n (List.zipWith (fun row v => row.set i v) nm b))
  let parts := rows.map (fun r =>
    let e := r.z * dt - ((List.zipWith (· * ·) (h r) xs).sum)
    w r * (e * e).toNat)
  ⟨dt, xs, det (n - 1) (nm.tail.map List.tail), (rows.map w).sum, parts.sum, scale, parts⟩

/-- Weighted residual RMS, 2⁻¹⁶ ns, rounded up (R203). -/
def Lsq.rms (q : Lsq) : Nat := isqrtUp (cdiv q.ss (max 1 (q.sw * (q.dt * q.dt).toNat)))

/-- 1σ of the time unknown, 2⁻¹⁶ ns, rounded up. -/
def Lsq.sigma (q : Lsq) : Nat := isqrtUp (cdiv (q.scale * 65536 * q.cof.toNat) (max 1 q.dt.toNat))

/-- An unknown, rounded to nearest. -/
def Lsq.unknown (q : Lsq) (i : Nat) : Int := rdiv (q.xs.getD i 0) (max 1 q.dt.toNat)

/-- The rows left once the entry with the largest normalised residual has been excluded while the RMS exceeds the limit, at most `n` times
(R203), in a problem that solves the position or not. -/
def State.exclude (s : State) (pos : Bool) : Nat → List GnRow → List GnRow
  | 0, rows => rows
  | n + 1, rows =>
    let q := lsq (s.isbUnknowns rows) pos rows
    if 0 < q.dt && s.gnResidLimit * nsUnits < q.rms then
      s.exclude pos n (rows.eraseIdx (q.parts.idxOf (q.parts.foldl max 0)))
    else rows

/-- Position unknown `i` of a problem with `k` inter-system offsets, as mm of light's way. -/
def Lsq.shift (q : Lsq) (k i : Nat) : Int :=
  rdiv (q.xs.getD (1 + k + i) 0 * 1073741824 * 299792458) (max 1 q.dt.toNat * 65536000000)

/-- The dynamic position of a measurement record: the problem with the position unknown, where its entries determine it (R202). -/
def State.dynamicPos (s : State) (r : EpochRec) (x : GnSol) : Option (Int × Int × Int) :=
  let used := s.exclude true s.gnFdeMax (s.castRows (s.gnRows r x))
  let k := (s.isbUnknowns used).length
  let q := lsq (s.isbUnknowns used) true used
  if 0 < q.dt then some (x.lin.1 + q.shift k 0, x.lin.2.1 + q.shift k 1, x.lin.2.2 + q.shift k 2) else none

/-- What the solution of an epoch gives (R203–R205). -/
structure GnResult where
  /-- Reference-system time plus its offset to TAI at the epoch edge, 2⁻¹⁶ ns. -/
  tai : Int
  sigma : Nat
  resid : Nat
  rows : List GnRow
  excluded : Nat
  unknowns : Nat
  solved : Bool
  pos : Option (Int × Int × Int)
  isb : List (Option Int)
  /-- Time from the authenticated satellites alone less the all-in-view time (R201). -/
  authDiff : Option Int
deriving DecidableEq, Repr

/-- ADKD 0 verified for a satellite's current ephemeris (R201). -/
def State.authentic (s : State) (r : GnRow) : Bool := r.sys == 1 && (match s.sv 2 r.svid with | some d => d.adkd0 | none => false)

/-- Weighted mean of the rows' times. -/
def meanTime (rows : List GnRow) : Option Int :=
  let scale := rows.foldl (fun a r => a * r.var) 1
  let w (r : GnRow) : Nat := r.sin2 * (scale / r.var)
  let sw := (rows.map w).sum
  if sw = 0 then none else some (rdiv ((rows.map (fun r => (w r : Int) * r.z)).sum) sw)

/-- The time solution of a measurement record (R201–R204). In a hold mode the position is known, and the rows are taken to it from the point of
linearisation. -/
def State.solve (s : State) (r : EpochRec) (x : GnSol) : GnResult :=
  let rows := s.castRows (s.gnRows r x)
  let move (d : Int × Int × Int) (l : List GnRow) : List GnRow := l.map (fun r => { r with z := r.z - losTime r.los d })
  let rows := match s.heldPosition with
    | some (a, b, c) => move (a - x.lin.1, b - x.lin.2.1, c - x.lin.2.2) rows
    | none => rows
  let used := s.exclude s.solvesPosition s.gnFdeMax rows
  let isbs := s.isbUnknowns used
  let q := lsq isbs s.solvesPosition used
  let k := isbs.length
  let step := if s.solvesPosition then (q.shift k 0, q.shift k 1, q.shift k 2) else (0, 0, 0)
  let gal := if s.gnIsbMode = 0 && s.gnTimeSystem != 1 then q.unknown (1 + isbs.idxOf 1) else 0
  { tai := q.unknown 0, sigma := q.sigma, resid := q.rms, rows := used, excluded := rows.length - used.length
    unknowns := 1 + isbs.length + (if s.solvesPosition then 3 else 0), solved := decide (0 < q.dt)
    pos := if s.solvesPosition && decide (0 < q.dt) then some (x.lin.1 + step.1, x.lin.2.1 + step.2.1, x.lin.2.2 + step.2.2) else none
    isb := (List.range 3).map (fun k =>
      if k = s.gnTimeSystem then some 0
      else if s.gnIsbMode != 0 then s.isbCast k
      else if isbs.contains k then some (q.unknown (1 + isbs.idxOf k)) else none)
    authDiff := (meanTime (move step (used.filter s.authentic))).map (fun t => t - gal - q.unknown 0) }

/-- A position exists for a solution (R205). -/
def State.positionOk (s : State) : Bool := s.heldPosition.isSome || s.solvesPosition

/-- GN_SOL_STATUS of a solution (R205, R208): the first row that fails, or how it is valid. Normal equations that determine no time have no finite
sigma. -/
def State.solCode (s : State) (usable : Bool) (x : GnResult) : Nat :=
  if !usable then 9
  else if !s.positionOk then 8
  else if x.rows.length < max s.gnMinSv (x.unknowns + 2) then 4
  else if x.solved && s.gnResidLimit * nsUnits < x.resid then 5
  else if !x.solved || s.gnSigmaLimit * nsUnits < x.sigma then 6
  else if s.heldPosition.isSome && 10 ≤ s.gnss.posMismatch then 7
  else if s.gnPosMode = 2 then 3
  else if s.heldPosition.isSome then 2 else 1

/-- The survey takes a valid epoch's position (R202). -/
def State.surveyEpoch (s : State) (p : Option (Int × Int × Int)) : State :=
  if s.gnPosMode != 1 || s.gnss.position.isSome then s
  else match p with
    | none => s
    | some (x, y, z) =>
      let (a, b, c) := s.gnss.surveySum
      let n := s.gnss.surveyCount + 1
      let d := s.gnss.surveyTime + 100 / max 1 s.gnEpochRate
      { s with gnss := { s.gnss with surveySum := (a + x, b + y, c + z), surveyCount := n, surveyTime := d
                                     surveyLeft := s.gnSurveyTime - d / 100 } }

/-- Galileo satellites of a solution with ADKD 0 verified (R201). -/
def State.authCount (s : State) (x : GnResult) : Nat :=
  ((x.rows.filter s.authentic).foldl (fun acc r => if acc.contains r.svid then acc else r.svid :: acc) []).length

/-- Inter-system offsets against the broadcast values (R204). -/
def State.isbCheck (s : State) (isb : List (Option Int)) : State :=
  let bad (k : Nat) : Bool := k != s.gnTimeSystem && (match isb.getD k none, s.isbCast k with
    | some a, some b => decide (s.gnIsbTol * nsUnits < (a - b).natAbs)
    | _, _ => false)
  let old := s.gnss.isbFlags
  let s := { s with gnss := { s.gnss with
              isb := (List.range 3).map (fun k => (isb.getD k none).getD 0)
              isbFlags := ofBits ((List.range 3).map bad) } }
  (List.range 3).foldl (fun s k => if bad k && !bit old k then s.raise 0x0804 k else s) s

/-- The solution's figures, its verification and its QL (R201, R204, R205). -/
def State.takeSol (s : State) (code : Nat) (x : GnResult) : State :=
  let enough := decide (s.gnOsnmaMinSv ≤ s.authCount x) && s.adkd4Recent
  let agree := match x.authDiff with
    | some d => decide (d.natAbs ≤ s.gnXcheck * nsUnits)
    | none => false
  let ver := decide (1 ≤ code) && decide (code ≤ 3) && s.gnOsnmaEnable && enough && agree
  let s := { s with gnss := { s.gnss with
              solStatus := code
              timeSigma := min 4294967295 x.sigma
              boundSigma := if decide (1 ≤ code) && decide (code ≤ 3) then min 4294967295 x.sigma else s.gnss.boundSigma
              svUsed := min 255 x.rows.length
              svExcluded := x.excluded
              residRms := min 4294967295 x.resid
              used := x.rows.map (fun (r : GnRow) => (r.sys, r.svid))
              lastPos := if x.pos.isSome then x.pos else s.gnss.lastPos
              enough := enough
              crossFail := enough && !agree
              verified := ver
              everVerified := s.gnss.everVerified || ver } }
  (s.isbCheck x.isb).gnQl

/-- The engines join the oldest measurement record with its TIU record and run the solution (R198, R203, R205, R206). The edge's time is its
extended stamp (R52); one that cannot be extended leaves the epoch unusable. -/
def opMeasRecord (sol : Option GnSol) (s : State) : State :=
  match s.gnss.epochs with
  | [] => s
  | e :: rest =>
    if !s.engsRun then s
    else
      let s := { s with gnss := { s.gnss with epochs := rest } }
      match (s.chan 28).window.find? (·.edge % 4294967296 == e.seq) with
      | none =>
        ({ s with gnss := { s.gnss with droppedEpochs := bump s.gnss.droppedEpochs, solStatus := 9, verified := false } } : State).gnQl.countEpoch false
      | some r =>
        let sol := sol.getD ⟨[], (0, 0, 0)⟩
        let x := s.solve e sol
        let edge := s.extend (r.stamp % 281474976710656) r.status
        let code := s.solCode (stampGood r.status && edge.isSome) x
        let s := s.takeSol code x
        let s := { s with gnss := { s.gnss with dynPos := if s.heldPosition.isSome then s.dynamicPos e sol else none } }
        let ok := decide (1 ≤ code) && decide (code ≤ 3)
        let s := s.countEpoch ok
        if ok then
          let off := x.tai - edge.getD 0
          let s := { s with gnss := { s.gnss with timeOffset := off } }
          (opMeasure 16 off r.status r.stamp (s.surveyEpoch x.pos)).recalc
        else s

/-- The survey has averaged its time and its position is held (R202). -/
def opSurveyDone (s : State) : State :=
  if s.gnPosMode = 1 && s.gnss.position.isNone && s.gnss.surveyLeft = 0 && 0 < s.gnss.surveyCount then
    let (a, b, c) := s.gnss.surveySum
    let n := s.gnss.surveyCount
    { s with gnss := { s.gnss with position := some (rdiv a n, rdiv b n, rdiv c n) } }
  else s

/-- GN_SURVEY_RESTART (R202). -/
def opSurveyRestart (s : State) : State :=
  { s with gnss := { s.gnss with position := none, surveySum := (0, 0, 0), surveyCount := 0, surveyTime := 0,
                                 surveyLeft := s.gnSurveyTime, posMismatch := 0 } }

/-- The once-per-second comparison of the dynamic position with the held one (R202): that of the newest record joined in the second; a
second without one is none in which the position departs. -/
def opPosCheck (s : State) : State :=
  let pos := s.gnss.dynPos
  let s := { s with gnss := { s.gnss with dynPos := none } }
  match s.heldPosition, pos with
  | none, _ => { s with gnss := { s.gnss with posMismatch := 0 } }
  | _, none => { s with gnss := { s.gnss with posMismatch := 0 } }
  | some (a, b, c), some (x, y, z) =>
    let d := (x - a) * (x - a) + (y - b) * (y - b) + (z - c) * (z - c)
    let far := decide (((s.gnPosTol * s.gnPosTol : Nat) : Int) < d)
    { s with gnss := { s.gnss with posMismatch := if far then s.gnss.posMismatch + 1 else 0 } }

/-! ## GNSS clock (R22, R207) -/

/-- GNSS_CLK stops (R22, R207). -/
def opGnssClockLoss (s : State) : State :=
  if s.group 6 = 0 then s
  else
    let s := ((s.setGroup 6 0).gnStop)
    let s := { s with gnss := { s.gnss with clock := false, solStatus := 0, verified := false } }
    (opLossOfSignal 16 s).raise 0x0008

/-- GNSS_CLK returns (R207). -/
def opGnssClockReturn (s : State) : State :=
  if s.group 6 = 1 then s
  else
    let s := s.setGroup 6 1
    let s := { s with gnss := { s.gnss with clock := true } }
    (if s.gnEnable then s.gnStart true else s).clearFault 0x0008

/-! ## Meanings -/

/-- GIF_ALIGN (R184). -/
def execGifAlign (k : Nat) (s : State) : Host.Outcome State Fault Refusal := .next (opGifAlign k s)

/-- GIF_LOST (R184). -/
def execGifLost (k : Nat) (s : State) : Host.Outcome State Fault Refusal := .next (opGifLost k s)

/-- NOTCH_UPDATE (R186). -/
def execNotchUpdate (k : Nat) (lines : List (Int × Nat)) (words : List Nat) (s : State) : Host.Outcome State Fault Refusal :=
  .next (opNotch k lines words s)

/-- JAM_IND_UPDATE (R187). -/
def execJamIndUpdate (k : Nat) (power : Int) (flat : Nat) (s : State) : Host.Outcome State Fault Refusal :=
  .next (opJam k power flat s)

/-- ACQ_STATISTIC (R190). -/
def execAcqStatistic (now e stat : Nat) (s : State) : Host.Outcome State Fault Refusal := .next (opAcq e stat (s.atTime now))

/-- PULL_IN_TIMEOUT (R190). -/
def execPullInTimeout (ch : Nat) (s : State) : Host.Outcome State Fault Refusal := .next (opPullIn ch s)

/-- TRACK_CHANNEL_LOST (R194). -/
def execTrackChannelLost (now ch : Nat) (s : State) : Host.Outcome State Fault Refusal := .next (opTrackLost ch (s.atTime now))

/-- GNSS_EPOCH (R196). -/
def execGnssEpoch (now bin : Nat) (obs : List TrkObs) (s : State) : Host.Outcome State Fault Refusal :=
  .next (opEpoch now bin obs (s.atTime now))

/-- GNSS_MEAS_RECORD (R198). -/
def execGnssMeasRecord (now : Nat) (sol : Option GnSol) (s : State) : Host.Outcome State Fault Refusal :=
  .next (opMeasRecord sol (s.atTime now))

/-- NAV_BIT_RECORD (R199). -/
def execNavBitRecord (now ch : Nat) (u : NavUnit) (s : State) : Host.Outcome State Fault Refusal :=
  .next (opNav ch u (s.atTime now))

/-- SURVEY_COMPLETE (R202). -/
def execSurveyComplete (s : State) : Host.Outcome State Fault Refusal := .next (opSurveyDone s)

/-- GN_POS_CHECK (R202). -/
def execGnPosCheck (s : State) : Host.Outcome State Fault Refusal := .next (opPosCheck s)

/-- GNSS_CLOCK_LOSS (R207). -/
def execGnssClockLoss (now : Nat) (s : State) : Host.Outcome State Fault Refusal := .next (opGnssClockLoss (s.atTime now))

/-- GNSS_CLOCK_RETURN (R207). -/
def execGnssClockReturn (now : Nat) (s : State) : Host.Outcome State Fault Refusal := .next (opGnssClockReturn (s.atTime now))

end Sys2Proof.Machine
end

