-- ==== Sys2Proof/Machine/EngineEvents.lean ====
section
/-!
DEFINITION. What befalls the engines from outside their programs: traps, watchdogs, the loader's restore, tack images, and
the paddock's switches (R342, R344, R345, R347–R351).
-/
set_option Elab.async false
namespace Sys2Proof.Machine

/-! ## Traps, watchdogs and restores (R342, R348) -/

/-- An engine has a program in hand: Gelusk firmware, or a tack program that runs. -/
def State.engLive (s : State) (e : Nat) : Bool :=
  decide (e < 36) && !s.engHeld e &&
    ((s.eng e).status == .firmware || ((s.eng e).status == .paddock && (match tackIndex e with | some j => (s.tackOf j).state == 3 | none => false)))

/-- A Gelusk engine whose firmware cannot recover from a trap: engine reset and F2; SC0's loss suspends the servo (R120), and that of TE14
or TE15 restarts the OSNMA chain (R200). -/
def State.engineLost (s : State) (e cause : Nat) : State :=
  let pc := (s.eng e).trapPc
  let s := s.onEng e (Eng.reset .inReset cause)
  let s := if e = 32 then (fun (s : State) => { s with servo := { s.servo with suspended := true } }) s.accrue.holdU else s
  let s := if e = 14 || e = 15 then s.osnmaLost else s
  s.raise 0x0D02 e (cause + 256 * pc)

/-- A trap (R342). `recovers` tells whether Gelusk firmware goes on from its handler. -/
def opEngineTrap (e cause : Nat) (recovers : Bool) (s : State) : State :=
  if !s.engLive e || cause = 0 || 6 < cause then s
  else
    let firmware := (s.eng e).status == .firmware
    let s := s.trap e cause
    if firmware && !recovers then s.engineLost e cause else s

/-- The watchdog of an engine has run out: TACK_WDOG for a tack program, which counts from its last WDKICK or its start;
the firmware's own for Gelusk firmware (R348, R349). -/
def State.watchdogOut (s : State) (e : Nat) : Bool :=
  match (if s.inPaddock e then tackIndex e else none) with
  | some j => s.tackWdog j != 0 && decide ((s.eng e).kicked + millis (s.tackWdog j) ≤ s.tb.lc)
  | none => true

/-- ENGINE_WATCHDOG_EXPIRE (R348). -/
def opEngineWatchdog (e : Nat) (recovers : Bool) (s : State) : State :=
  if s.engLive e && s.watchdogOut e then opEngineTrap e 4 recovers s else s

/-- ENGINE_RESTORE (R342, R489): the loader puts the verified image back, and handling of 0x0D02 ends. -/
def opEngineRestore (e : Nat) (s : State) : State :=
  if decide (e < 36) && (s.eng e).status == .inReset && !s.start.inReset && !s.start.porHeld && (tackIndex e).isNone then
    (s.onEng e (fun g => { g with status := .firmware, kicked := s.tb.lc })).endHandling 0x0D02
  else s

/-! ## Tack images (R344, R345) -/

/-- A field of the image header at a DRAM address. -/
def State.imageField (s : State) (addr off len : Nat) : Nat := leNat (memRead s.engs.dram (addr + off) len)

/-- Bytes of an image: header, IMEM and DMEM contents. -/
def State.imageBytes (s : State) (addr : Nat) : Nat := 256 + s.imageField addr 16 4 + s.imageField addr 20 4

/-- TACK_LOAD is accepted: the paddock is on and wiped, the engine is in it, and header and body lie inside the region
(R345, R510). -/
def State.tackLoadOk (s : State) (j addr : Nat) : Bool :=
  s.paddockEnable && bit s.tackEngines j && !s.start.paddockWipe && s.start.dramStatus == 2 &&
    s.inRegion addr 256 && s.inRegion addr (s.imageBytes addr)

/-- TACK_LOAD, steps 1 and 2 (R345). -/
def opTackLoad (j addr : Nat) (s : State) : State :=
  if !s.tackLoadOk j addr then s
  else (s.onEng (24 + j) (Eng.reset .inReset 0)).onTack j (fun t => { t with state := 2, loadStatus := 0, image := addr })

/-- The slot named by TACK_VERIFY_SLOT holds an ECDSA P-384 public key for decryption and verification (R344, R350). -/
def State.tackKeyOk (s : State) : Bool :=
  let x := s.slot s.tackVerifySlot
  decide (s.tackVerifySlot < 512) && x.sstate == 2 && x.alg == 8 && x.use == 2

/-- TACK_LOAD_STATUS of a load that ends now (R345; log entry 54): the header, the lengths, SVN, hash, and signature in turn. -/
def State.tackVerdict (s : State) (addr : Nat) (hashOk sigOk : Bool) : Nat :=
  let f := s.imageField addr
  if f 0 4 != 0x49454C47 || f 4 2 != 1 || f 6 1 != 1 || f 7 1 != 2 then 2
  else if 65536 < f 16 4 || 65536 < f 20 4 + f 24 4 || s.paddockSize < f 28 4 then 3
  else if f 8 4 < s.tackMinSvn then 4
  else if !hashOk then 5
  else if !s.tackKeyOk then 7
  else if !sigOk then 6
  else 1

/-- A tack engine ready to run its image (R345, steps 5 and 6). -/
def State.tackImage (s : State) (addr : Nat) (g : Eng) : Eng :=
  let n := s.imageField addr 16 4
  let m := s.imageField addr 20 4
  let code : Region := ⟨0, 65536, false, false, true⟩
  let data : Region := ⟨0x100000, 0x110000, true, true, false⟩
  let pad : Region := ⟨0x40000000, min 0x80000000 (0x40000000 + s.paddockSize * 1048576), true, true, false⟩
  { g with status := .paddock, program := true, pc := s.imageField addr 12 4, dwin := s.paddockBase, kicked := s.tb.lc,
           prot := [code, data, pad] ++ List.replicate 5 Region.init, imem := memWrite [] 0 (memRead s.engs.dram (addr + 256) n),
           dmem := memWrite [] 0 (memRead s.engs.dram (addr + 256 + n) m) }

/-- Verification of an image completes (R345). -/
def opTackLoadDone (j : Nat) (hashOk sigOk : Bool) (s : State) : State :=
  let t := s.tackOf j
  if 8 ≤ j || t.state != 2 then s
  else
    let v := s.tackVerdict t.image hashOk sigOk
    if v = 1 then (s.onEng (24 + j) (s.tackImage t.image)).onTack j (fun t => { t with state := 3, loadStatus := 1 })
    else
      let s := s.onEng (24 + j) (fun g => { g with status := .paddock, imem := [], dmem := [] })
      (s.onTack j (fun t => { t with state := 7, loadStatus := v })).raise 0x0D03 j

/-! ## The switches of the paddock (R350, R351) -/

/-- TACK_STOP (R350): an engine of the paddock is reset into the stopped state. -/
def opTackStop (j : Nat) (s : State) : State :=
  if (s.tackOf j).state = 0 then s
  else (s.onEng (24 + j) (Eng.reset .paddock (s.eng (24 + j)).lastCause)).onTack j (fun t => { t with state := 1 })

/-- A tack engine leaves the paddock, or its program: reset and zeroed, a load in progress abandoned (R351). -/
def State.tackLeave (s : State) (j state : Nat) : State :=
  let was := (s.tackOf j).state
  if was = 0 then s
  else
    let s := s.onEng (24 + j) (Eng.reset (if state = 0 then .off else .paddock) (s.eng (24 + j)).lastCause)
    s.onTack j (fun t => { t with state := state, loadStatus := if was = 2 then 8 else t.loadStatus })

/-- The paddock region is wiped (R351, R509). -/
def State.wipePaddock (s : State) : State := { s with engs := { s.engs with dram := s.dramKept } }

/-- PADDOCK_ENABLE written (R351): the region is wiped; 0 also resets every tack engine, and stops the taps. -/
def opPaddockEnable (v : Nat) (s : State) : State :=
  let s := s.put 0x8010 1 v
  let s := if v = 0 then (List.range 8).foldl (fun s j => s.tackLeave j 1) s else s
  if s.start.dramStatus = 2 then
    if v = 0 then s.wipePaddock else { s with start := { s.start with paddockWipe := s.paddockSize != 0 } }
  else s

/-- TACK_ENGINES written (R351): an engine whose bit is cleared is reset and powered down, one whose bit is set is powered
up and stopped. -/
def opTackEngines (v : Nat) (s : State) : State :=
  let old := s.tackEngines
  let s := s.put 0x8010 2 v
  (List.range 8).foldl (fun s j =>
    if bit old j && !bit v j then s.tackLeave j 0
    else if bit v j && !bit old j then
      (s.onEng (24 + j) (fun g => { g with status := .paddock })).onTack j (fun t => { t with state := 1 })
    else s) s

/-- TACK_STATE as it reads (R347, R349, R350). -/
def State.tackState (s : State) (j : Nat) : Nat :=
  let t := (s.tackOf j).state
  if t = 0 then 0 else if s.start.dramStatus != 2 then 8 else if bit s.engs.gated 5 then 4 else t

/-- ENG_STATE as it reads (R349, R350). -/
def State.engState (s : State) (e : Nat) : Nat :=
  let g := s.eng e
  if g.status == .firmware && s.engGated e then 2 else g.status.code

/-- DRAM is lost: every tack engine is held in engine reset (R347). -/
def State.tackHold (s : State) : State :=
  (List.range 8).foldl (fun s j =>
    if (s.tackOf j).state = 0 then s
    else (s.onEng (24 + j) (Eng.reset .inReset (s.eng (24 + j)).lastCause)).onTack j (fun t => { t with state := 1 })) s

/-- DRAM is there again: the tack engines that its loss held in engine reset are stopped (R347). -/
def State.tackRelease (s : State) : State :=
  (List.range 8).foldl (fun s j =>
    if (s.tackOf j).state = 1 then s.onEng (24 + j) (fun g => { g with status := if g.status == .inReset then .paddock else g.status })
    else s) s

/-- Engine events at an anchor: EVMASK bit 0, and one anchor counted (R342, R368). -/
def State.anchorEvents (s : State) : State :=
  (List.range 36).foldl (fun s e => (s.onEng e (Eng.event 0)).pmcEvents e [(0x17, 1)]) s

/-- The oldest doorbell entry, 0 for none, and the FIFO without it (R347, R350). -/
def State.doorbellRead (s : State) : Nat × State :=
  (s.engs.doorbell.headD 0, { s with engs := { s.engs with doorbell := s.engs.doorbell.tail } })

/-! ## The commands -/

/-- ENGINE_TRAP (R342). -/
def execEngineTrap (now e cause : Nat) (recovers : Bool) (s : State) : Host.Outcome State Fault Refusal :=
  .next (opEngineTrap e cause recovers (s.atTime now))

/-- ENGINE_WATCHDOG_EXPIRE (R348). -/
def execEngineWatchdogExpire (now e : Nat) (recovers : Bool) (s : State) : Host.Outcome State Fault Refusal :=
  .next (opEngineWatchdog e recovers (s.atTime now))

/-- ENGINE_RESTORE (R342). -/
def execEngineRestore (now e : Nat) (s : State) : Host.Outcome State Fault Refusal := .next (opEngineRestore e (s.atTime now))

/-- TACK_LOAD_DONE (R345). -/
def execTackLoadDone (now j : Nat) (hashOk sigOk : Bool) (s : State) : Host.Outcome State Fault Refusal :=
  .next (opTackLoadDone j hashOk sigOk (s.atTime now))

end Sys2Proof.Machine
end

