-- ==== Sys2Proof/Machine/Counters.lean ====
section
/-!
DEFINITION. The dump unit and instruction sampling: records, the ring in DRAM, losses, and the counters that the dictionary
sets on Gelusk engines (R367–R376).
-/
set_option Elab.async false
namespace Sys2Proof.Machine

/-! ## Records (R370) -/

/-- A dump record's 64 bytes. -/
def dumpRec (rtype e flags seq cycle : Nat) (body : List (Nat × Nat)) (ovf nsc aseq : Nat) : List Byte :=
  leBytes 64 (lePack ([(1, rtype), (1, e), (2, flags), (4, seq), (8, cycle)] ++
    [(32, lePack body), (1, ovf), (3, 0), (4, nsc), (4, aseq), (4, 0)]))

/-- FLAGS that an engine's state gives a record. -/
def State.dumpFlags (s : State) (e : Nat) (program second : Bool) : Nat :=
  let g := s.eng e
  ofBits [program, second, g.status == .inReset || g.status == .off, bit g.pmc.ctl 1]

/-- A snapshot of engine e (R370, R371). -/
def State.snapshotRec (s : State) (seq e : Nat) : List Byte :=
  let p := (s.eng e).pmc
  dumpRec 2 e (s.dumpFlags e (s.eng e).program (s.engGated e)) seq p.cyc (p.count.map (fun c => (4, c))) p.ovf s.nsc s.aseqNow

/-- A sample of engine e (R369, R370). -/
def State.sampleRec (s : State) (seq e : Nat) (x : Sample) : List Byte :=
  dumpRec 1 e (s.dumpFlags e x.program x.trapped) seq x.cycle [(4, x.pc), (4, x.word), (2, x.latency), (1, x.stall)] 0 x.nsc x.aseq

/-- A loss record (R370, R372). -/
def State.lossRec (s : State) (seq n : Nat) : List Byte := dumpRec 3 0 0 seq 0 [(4, n)] 0 s.nsc s.aseqNow

/-! ## The ring (R371, R372) -/

/-- Entries in use. -/
def State.dumpUsed (s : State) : Nat := (s.dump.producer + 4294967296 - s.pcDumpConsumer) % 4294967296

/-- A record is written at the producer's entry. -/
def State.dumpWrite (s : State) (r : List Byte) : State :=
  let a := s.pcDumpBase + 64 * (s.dump.producer % max 1 s.pcDumpSize)
  { s with engs := { s.engs with dram := memWrite s.engs.dram a r }
           dump := { s.dump with producer := bump s.dump.producer, seq := bump s.dump.seq } }

/-- A record is put into the ring, preceded by the loss record that is due; or discarded and counted when it does not fit. -/
def State.dumpPut (s : State) (r : Nat → List Byte) : State :=
  let need := if s.dump.lossDue = 0 then 1 else 2
  if s.pcDumpSize < s.dumpUsed + need then
    { s with dump := { s.dump with lost := bump s.dump.lost, lossDue := s.dump.lossDue + 1 } }
  else
    let s := if s.dump.lossDue = 0 then s
      else
        let t := s.dumpWrite (s.lossRec s.dump.seq s.dump.lossDue)
        { t with dump := { t.dump with lossDue := 0 } }
    s.dumpWrite (r s.dump.seq)

/-- The sample FIFO of engine e is drained, oldest first; the samples it dropped join the losses (R371, R372). -/
def State.dumpDrain (s : State) (e : Nat) : State :=
  let p := (s.eng e).pmc
  let s := { s with dump := { s.dump with lossDue := s.dump.lossDue + p.dropped, lost := bumpBy s.dump.lost p.dropped } }
  let s := s.onEng e (fun g => { g with pmc := { g.pmc with fifo := [], dropped := 0 } })
  p.fifo.foldl (fun s x => s.dumpPut (fun seq => s.sampleRec seq e x)) s

/-- PC_DUMP_PERIOD and the masks, whose writes wait for the next dump period (R376). -/
def dumpKey (k : Nat) : Bool := 0x880003 ≤ k && k ≤ 0x880005

/-- PC_DUMP (R371, R372, R376): PC_DUMP_PERIOD after the last one, with the writes that waited for it. -/
def opPcDump (s : State) : State :=
  if s.pcDumpSize = 0 || s.ms < s.dump.lastDump + s.pcDumpPeriod then s
  else
    let s := s.takeLate dumpKey
    let s := { s with dump := { s.dump with lastDump := s.ms } }
    if s.start.dramStatus != 2 then s
    else if bit s.engs.gated 4 then
      { s with dump := { s.dump with suspended := bumpBy s.dump.suspended (popcount 36 s.pcDumpMask) } }
    else
      let snap := s
      let s := (bitList 36 s.pcDumpMask).foldl (fun s e => s.dumpPut (fun seq => snap.snapshotRec seq e)) s
      let s := (bitList 36 s.pcSampleMask).foldl State.dumpDrain s
      snap.irqEdge s

/-- The record that PC_READ returns (R375); its SEQ is a free value (log entry 55). -/
def opPcRead (e : Nat) (s : State) : State :=
  let (seq, s) := s.draw
  { s with dump := { s.dump with read := some (e, s.snapshotRec seq e) } }

/-! ## Sampling (R369) -/

/-- The sample counter has reached PERIOD and the next instruction retires: it is sampled. -/
def opInstructionSample (e pc word latency stall : Nat) (trapped : Bool) (s : State) : State :=
  let p := (s.eng e).pmc
  if !s.engLive e || !bit p.smpCtl 31 then s
  else
    let x : Sample := { pc := pc, word := word, latency := min 65535 latency, stall := if [3, 4, 5, 0x0B, 0x0E, 0x0F].contains stall then stall else 0, trapped := trapped, program := (s.eng e).program, cycle := p.cyc, nsc := s.nsc, aseq := s.aseqNow }
    s.onEng e (fun g => { g with pmc := { g.pmc.sample x with smpCount := 0 } })

/-! ## The dictionary's counters (R373, R374) -/

/-- Gelusk firmware sets an engine's counters from PC_EVENT and PC_SAMPLE. -/
def State.setCounters (s : State) (e : Nat) : State :=
  let ev := s.pcEvent e
  let sm := s.pcSample e
  s.onEng e (fun g =>
    let p := (List.range 8).foldl (fun (p : Pmc) i => p.write (isSc e) (0x110 + i) (fld ev (2 * i) 2)) g.pmc
    { g with pmc := (p.write (isSc e) 0x11A (fld sm 0 4)).write (isSc e) 0x11B (fld sm 4 1) })

/-- The counters written since the last anchor are set (R373). -/
def State.anchorCounters (s : State) : State :=
  let l := s.dump.due.filter (fun e => (s.eng e).status == .firmware)
  l.foldl State.setCounters { s with dump := { s.dump with due := s.dump.due.filter (fun e => !l.contains e) } }

/-- Samples of Gelusk engines end with a change of life-cycle state, and the ring is wiped (R374). -/
def State.clearSamples (s : State) : State :=
  let paddock := 0xFF000000
  let s := (s.takeLate dumpKey).put 0x8800 5 ((s.takeLate dumpKey).pcSampleMask &&& paddock)
  let s := (List.range 36).foldl (fun s e =>
    if (tackIndex e).isSome then s
    else
      let s := s.put (0x8810 + e) 2 0
      { s with dump := { s.dump with due := s.dump.due.filter (· != e) ++ [e] } }) s
  { s with engs := { s.engs with dram := memWipe s.engs.dram s.pcDumpBase (64 * s.pcDumpSize) } }

/-! ## The commands -/

/-- PC_DUMP (R371). -/
def execPcDump (now : Nat) (s : State) : Host.Outcome State Fault Refusal := .next (opPcDump (s.atTime now))

/-- INSTRUCTION_SAMPLE (R369). -/
def execInstructionSample (now e pc word latency stall : Nat) (trapped : Bool) (s : State) : Host.Outcome State Fault Refusal :=
  .next (opInstructionSample e pc word latency stall trapped (s.atTime now))

end Sys2Proof.Machine
end

