-- ==== Sys2Proof/Machine/Objects.lean ====
section
/-!
DEFINITION. The object dictionary as the chapters table it: one row per entry or run of like entries, with its type code,
length, RIGHTS_TABLE, default and accepted range (R425, R426, R428; the object tables of every chapter).
A default that the tables leave open is 0 here (log entry 3); a default that depends on the index or the grade is found by
`objDefault` of Machine/Access.lean.
-/
set_option Elab.async false
namespace Sys2Proof.Machine

/-- The values a write accepts, so far as the value alone decides (R429, check 10). -/
inductive RangeSpec where
  /-- Every value of the length. -/
  | any
  /-- An unsigned value between two bounds. -/
  | nat (lo hi : Nat)
  /-- A signed value between two bounds. -/
  | int (lo hi : Int)
  /-- 0, or a power of 2 between two bounds. -/
  | pow2 (lo hi : Nat)
  /-- A multiple of k. -/
  | mult (k : Nat)
  /-- One of a list. -/
  | oneOf (l : List Nat)
  /-- Between two bounds, or one further value. -/
  | natOr (lo hi v : Nat)
  /-- 0, or between two bounds. -/
  | zeroOr (lo hi : Nat)
  /-- CH_GATE (R101). -/
  | gate
  /-- LANE_TX_FIR (R237). -/
  | fir
  /-- A record that begins with an address family and 3 reserved bytes (R287, R483). -/
  | family
  /-- Four such records of 20 bytes (R310). -/
  | families
  /-- TACK_TAP (R346). -/
  | tap
  /-- GOV_TJ_LIMIT, up to the grade maximum (R362). -/
  | tjLimit
  /-- n bytes, each at most hi. -/
  | bytesTo (n hi : Nat)
  /-- GN_OSNMA_PUBKEY: 0, or first byte 0x01 or 0x02 (R208). -/
  | osnmaKey
  /-- The value modulo m is v. -/
  | low (v m : Nat)
deriving DecidableEq, Repr

/-- A row of the dictionary: entries idx … idx + cnt − 1, subindices lo … hi (R425). -/
structure ObjDef where
  idx : Nat
  cnt : Nat
  lo : Nat
  hi : Nat
  ty : Nat
  len : Nat
  /-- RIGHTS_TABLE of R428. -/
  rights : Nat
  /-- Tabled "any access" (R406). -/
  anyAccess : Bool
  dflt : Nat
  range : RangeSpec
deriving DecidableEq, Repr

/-- Dictionary rows, part 1. -/
def objTable1 : List ObjDef := [
  ⟨0x1000, 1, 0x00, 0x00, 0x07, 4, 0x5555, false, 0, .any⟩,  -- DEVICE_TYPE (R443)
  ⟨0x1008, 1, 0x00, 0x00, 0x09, 16, 0x5555, false, 3617287943545766729, .any⟩,  -- DEVICE_NAME (R443)
  ⟨0x1010, 1, 0x01, 0x01, 0x43, 3, 0x2AAA, true, 0, .any⟩,  -- DICT_DESCRIBE_ADDR (R443)
  ⟨0x1010, 1, 0x02, 0x02, 0x43, 32, 0x1555, true, 0, .any⟩,  -- DICT_DESCRIPTION (R443)
  ⟨0x1010, 1, 0x03, 0x03, 0x05, 1, 0x0008, false, 0, .any⟩,  -- DICT_STORE (R443)
  ⟨0x1018, 1, 0x01, 0x04, 0x07, 4, 0x5555, false, 0, .any⟩,  -- IDENTITY (R443)
  ⟨0x1030, 1, 0x01, 0x01, 0x0A, 1072, 0x2AAA, true, 0, .any⟩,  -- SEAL_REQ (R443)
  ⟨0x1030, 1, 0x02, 0x02, 0x0A, 1072, 0x1555, true, 0, .any⟩,  -- SEAL_RESP (R443)
  ⟨0x1100, 1, 0x01, 0x01, 0x05, 1, 0x5555, false, 0, .any⟩,  -- DEVICE_GRADE (R3)
  ⟨0x1100, 1, 0x02, 0x02, 0x05, 1, 0x5555, false, 161, .any⟩,  -- STEPPING (R3)
  ⟨0x1E00, 2, 0x01, 0x01, 0x01, 1, 0x155D, false, 0, .nat 0 1⟩,  -- CAN_ENABLE (R443)
  ⟨0x1E00, 2, 0x02, 0x02, 0x05, 1, 0x155D, false, 16, .nat 1 127⟩,  -- CAN_NODE_ID (R443)
  ⟨0x1E00, 2, 0x03, 0x03, 0x07, 4, 0x155D, false, 500000, .nat 125000 1000000⟩,  -- CAN_NOM_RATE (R443)
  ⟨0x1E00, 2, 0x04, 0x04, 0x07, 4, 0x155D, false, 2000000, .nat 1000000 8000000⟩,  -- CAN_DATA_RATE (R443)
  ⟨0x1E00, 2, 0x05, 0x05, 0x06, 2, 0x155D, false, 1000, .nat 100 10000⟩,  -- CAN_SDO_TIMEOUT (R443)
  ⟨0x1E00, 2, 0x06, 0x06, 0x06, 2, 0x157D, false, 1000, .any⟩,  -- CAN_HEARTBEAT (R443)
  ⟨0x1E00, 2, 0x07, 0x07, 0x05, 1, 0x1555, false, 0, .nat 0 4⟩,  -- CAN_STATE (R443)
  ⟨0x1E00, 2, 0x08, 0x08, 0x07, 4, 0x1555, false, 0, .any⟩,  -- CAN_BUSOFF_COUNT (R443)
  ⟨0x1E00, 2, 0x09, 0x09, 0x07, 4, 0x1555, false, 0, .any⟩,  -- CAN_NMT_IGNORED (R443)
  ⟨0x1E10, 1, 0x01, 0x01, 0x05, 1, 0x15DD, false, 0, .nat 0 1⟩,  -- MSP_WIDTH (R443)
  ⟨0x1E10, 1, 0x02, 0x02, 0x07, 4, 0x1555, false, 0, .any⟩,  -- MSP_BUSY_DROPS (R443)
  ⟨0x1E10, 1, 0x03, 0x03, 0x07, 4, 0x1555, false, 0, .any⟩,  -- MSP_CHK_ERRORS (R443)
  ⟨0x1E20, 1, 0x01, 0x01, 0x43, 4, 0x0054, false, 0, .any⟩,  -- PCIE_LAST_ERROR (R443)
  ⟨0x1E20, 1, 0x02, 0x02, 0x07, 4, 0x1555, false, 0, .any⟩   -- PCIE_APERTURE_REFUSED (R443)
]

/-- Dictionary rows, part 2. -/
def objTable2 : List ObjDef := [
  ⟨0x1E21, 1, 0x01, 0x01, 0x43, 24, 0x0080, false, 0, .any⟩,  -- DMA_REQ (R443)
  ⟨0x1E21, 1, 0x02, 0x02, 0x05, 1, 0x0044, false, 0, .nat 0 3⟩,  -- DMA_STATUS (R443)
  ⟨0x1E30, 1, 0x01, 0x01, 0x01, 1, 0x155D, false, 0, .nat 0 1⟩,  -- ESXIA_ENABLE (R443)
  ⟨0x1E30, 1, 0x02, 0x02, 0x06, 2, 0x155D, false, 4742, .nat 1024 65535⟩,  -- ESXIA_UDP_PORT (R443)
  ⟨0x1E30, 1, 0x03, 0x03, 0x1B, 8, 0x155D, false, 0, .any⟩,  -- ESXIA_ADDRS (R443)
  ⟨0x1E30, 1, 0x04, 0x04, 0x07, 4, 0x155D, false, 0, .any⟩,  -- ESXIA_PORTS (R443)
  ⟨0x1E30, 1, 0x05, 0x05, 0x06, 2, 0x155D, false, 200, .nat 10 10000⟩,  -- ESXIA_RATE (R443)
  ⟨0x1E30, 1, 0x06, 0x06, 0x07, 4, 0x1555, false, 0, .any⟩,  -- ESXIA_DROPS (R443)
  ⟨0x1E40, 1, 0x01, 0x01, 0x06, 2, 0x0054, false, 0, .any⟩,  -- ATTN_CAUSE (R443)
  ⟨0x1E40, 1, 0x02, 0x02, 0x06, 2, 0x00DC, false, 1, .nat 0 255⟩,  -- ATTN_MASK (R443)
  ⟨0x1E40, 1, 0x03, 0x03, 0x06, 2, 0x0088, false, 0, .nat 0 255⟩,  -- ATTN_ACK (R443)
  ⟨0x1E40, 1, 0x04, 0x04, 0x05, 1, 0x1555, false, 0, .any⟩,  -- DICT_QUEUE_PEAK (R443)
  ⟨0x2000, 1, 0x01, 0x01, 0x43, 22, 0x1555, false, 0, .any⟩,  -- TIME_SNAPSHOT (R67)
  ⟨0x2001, 1, 0x01, 0x01, 0x40, 12, 0x0008, false, 0, .any⟩,  -- TIME_SET (R67)
  ⟨0x2020, 1, 0x01, 0x10, 0x43, 32, 0x1555, false, 0, .any⟩,  -- ANCHOR_RING (R67)
  ⟨0x2030, 1, 0x01, 0x01, 0x07, 4, 0x155D, false, 1000000, .nat 1 4294967295⟩,  -- COARSE_RATE_OSC (R67)
  ⟨0x2030, 1, 0x02, 0x02, 0x07, 4, 0x155D, false, 100000000, .nat 1 4294967295⟩,  -- COARSE_RATE_SAFE (R67)
  ⟨0x2030, 1, 0x03, 0x03, 0x07, 4, 0x1555, false, 0, .any⟩,  -- COARSE_PERIOD (R67)
  ⟨0x2100, 1, 0x01, 0x01, 0x04, 4, 0x155D, false, 37, .any⟩,  -- UTC_OFFSET (R67)
  ⟨0x2100, 1, 0x02, 0x02, 0x01, 1, 0x1555, false, 0, .nat 0 1⟩,  -- UTC_OFFSET_VALID (R67)
  ⟨0x2100, 1, 0x03, 0x03, 0x05, 1, 0x155D, false, 1, .nat 0 1⟩,  -- UTC_OFFSET_MODE (R67)
  ⟨0x2100, 1, 0x04, 0x04, 0x05, 1, 0x155D, false, 0, .nat 0 2⟩,  -- LEAP_PENDING (R67)
  ⟨0x2100, 1, 0x05, 0x05, 0x1B, 8, 0x155D, false, 0, .any⟩,  -- LEAP_TAI (R67)
  ⟨0x2800, 1, 0x01, 0x01, 0x42, 4, 0x1555, false, 4294967295, .any⟩   -- GIRTH_NOW (R229)
]

/-- Dictionary rows, part 3. -/
def objTable3 : List ObjDef := [
  ⟨0x2800, 1, 0x02, 0x02, 0x43, 20, 0x1555, false, 1461501637330902918203684832716283019655932542975, .any⟩,  -- GIRTH_TERMS (R229)
  ⟨0x2800, 1, 0x03, 0x03, 0x07, 4, 0x1555, false, 0, .any⟩,  -- GIRTH_RATE (R229)
  ⟨0x2801, 1, 0x01, 0x01, 0x43, 132, 0x1555, false, 0, .any⟩,  -- GIRTH_TRACE (R229)
  ⟨0x2801, 1, 0x02, 0x02, 0x07, 4, 0x1555, false, 0, .any⟩,  -- GIRTH_CLAIMS_REJECTED (R229)
  ⟨0x2810, 1, 0x01, 0x01, 0x42, 4, 0x155D, false, 4000, .nat 0 4294967294⟩,  -- GIRTH_LIMIT (R229)
  ⟨0x2810, 1, 0x02, 0x02, 0x05, 1, 0x155D, false, 0, .nat 0 1⟩,  -- GIRTH_UNAUTH_MODE (R229)
  ⟨0x2810, 1, 0x03, 0x03, 0x06, 2, 0x155D, false, 3000, .nat 500 60000⟩,  -- GIRTH_CLAIM_AGE (R229)
  ⟨0x2820, 1, 0x01, 0x01, 0x0A, 3, 0x5555, false, 11018084, .any⟩,  -- GIRTH_TLV_ORG (R229)
  ⟨0x2820, 1, 0x02, 0x02, 0x05, 1, 0x155D, false, 1, .nat 0 3⟩,  -- GIRTH_TLV_MSGS (R229)
  ⟨0x2820, 1, 0x03, 0x03, 0x06, 2, 0x155D, false, 11786, .any⟩,  -- GIRTH_EF_TYPE (R229)
  ⟨0x2900, 17, 0x01, 0x01, 0x42, 4, 0x155D, false, 4294967295, .any⟩,  -- REF_BOUND (R229)
  ⟨0x2900, 17, 0x02, 0x02, 0x42, 4, 0x155D, false, 0, .any⟩,  -- REF_PATH_ALLOW (R229)
  ⟨0x290C, 4, 0x03, 0x03, 0x42, 4, 0x155D, false, 4294967295, .any⟩,  -- ASYM_BOUND (R229)
  ⟨0x2A00, 17, 0x01, 0x01, 0x42, 4, 0x1555, false, 4294967295, .any⟩,  -- REF_CLAIM (R229)
  ⟨0x3000, 1, 0x01, 0x01, 0x05, 1, 0x157D, false, 0, .nat 0 1⟩,  -- REF_MODE (R91)
  ⟨0x3000, 1, 0x02, 0x02, 0x05, 1, 0x157D, false, 16, .nat 0 16⟩,  -- REF_MANUAL (R91)
  ⟨0x3000, 1, 0x03, 0x03, 0x01, 1, 0x155D, false, 1, .nat 0 1⟩,  -- REF_REVERTIVE (R91)
  ⟨0x3000, 1, 0x04, 0x04, 0x05, 1, 0x155D, false, 8, .nat 1 14⟩,  -- QL_FLOOR (R91)
  ⟨0x3000, 1, 0x05, 0x05, 0x01, 1, 0x155D, false, 0, .nat 0 1⟩,  -- FORCE_PIN_ENABLE (R91)
  ⟨0x3000, 1, 0x06, 0x06, 0x06, 2, 0x155D, false, 10, .nat 1 1000⟩,  -- FORCE_DEBOUNCE (R91)
  ⟨0x3000, 1, 0x07, 0x07, 0x07, 4, 0x155D, false, 4600000, .any⟩,  -- FREQ_LIMIT_COLD (R91)
  ⟨0x3001, 1, 0x01, 0x08, 0x05, 1, 0x155D, false, 0, .natOr 0 16 255⟩,  -- REF_FORCE_MAP (R91)
  ⟨0x3002, 1, 0x01, 0x01, 0x05, 1, 0x1555, false, 255, .any⟩,  -- SELECTED_REF (R91)
  ⟨0x3002, 1, 0x02, 0x02, 0x05, 1, 0x1555, false, 0, .nat 0 4⟩   -- SELECT_STATE (R91)
]

/-- Dictionary rows, part 4. -/
def objTable4 : List ObjDef := [
  ⟨0x3002, 1, 0x03, 0x03, 0x05, 1, 0x1555, false, 0, .nat 0 2⟩,  -- SELECT_SOURCE (R91)
  ⟨0x3002, 1, 0x04, 0x04, 0x07, 4, 0x1555, false, 0, .any⟩,  -- SWITCH_COUNT (R91)
  ⟨0x3002, 1, 0x05, 0x05, 0x05, 1, 0x1555, false, 0, .any⟩,  -- FORCE_PIN_STATE (R91)
  ⟨0x3003, 1, 0x01, 0x02, 0x07, 4, 0x155D, false, 9600, .nat 4800 115200⟩,  -- TOD_BAUD (R91)
  ⟨0x3100, 17, 0x01, 0x01, 0x01, 1, 0x155D, false, 0, .nat 0 1⟩,  -- ENABLE (R91)
  ⟨0x3100, 17, 0x02, 0x02, 0x05, 1, 0x155D, false, 128, .any⟩,  -- PRIORITY (R91)
  ⟨0x3100, 17, 0x03, 0x03, 0x05, 1, 0x155D, false, 14, .oneOf [1,2,3,4,5,6,7,8,14,15]⟩,  -- QL_CONFIG (R91)
  ⟨0x3100, 17, 0x04, 0x04, 0x05, 1, 0x155D, false, 2, .nat 0 2⟩,  -- QL_SOURCE (R91)
  ⟨0x3100, 17, 0x05, 0x05, 0x07, 4, 0x155D, false, 50000, .nat 1 4294967295⟩,  -- FREQ_LIMIT (R91)
  ⟨0x3100, 17, 0x06, 0x06, 0x07, 4, 0x155D, false, 1000, .any⟩,  -- PHASE_LIMIT (R91)
  ⟨0x3100, 17, 0x07, 0x07, 0x07, 4, 0x155D, false, 250, .any⟩,  -- PHASE_JUMP (R91)
  ⟨0x3100, 17, 0x08, 0x08, 0x06, 2, 0x155D, false, 10, .nat 2 3600⟩,  -- SOAK_TIME (R91)
  ⟨0x3100, 17, 0x09, 0x09, 0x05, 1, 0x155D, false, 75, .nat 50 95⟩,  -- SUSPECT_PCT (R91)
  ⟨0x3100, 17, 0x0A, 0x0A, 0x06, 2, 0x155D, false, 60, .nat 10 600⟩,  -- PROJ_HORIZON (R91)
  ⟨0x3100, 8, 0x0B, 0x0B, 0x05, 1, 0x155D, false, 0, .nat 0 5⟩,  -- IN_BIND (R91)
  ⟨0x3100, 8, 0x0C, 0x0C, 0x05, 1, 0x155D, false, 255, .natOr 0 7 255⟩,  -- IN_PAIR (R91)
  ⟨0x3100, 8, 0x0D, 0x0D, 0x1B, 8, 0x155D, false, 10000000000000, .any⟩,  -- NOMINAL_HZ (R91)
  ⟨0x3100, 8, 0x0E, 0x0E, 0x05, 1, 0x155D, false, 0, .nat 0 2⟩,  -- IN_ELEC (R540)
  ⟨0x3108, 4, 0x0B, 0x0B, 0x05, 1, 0x155D, false, 0, .nat 0 31⟩,  -- SE_LANE (R91)
  ⟨0x3110, 1, 0x0B, 0x0B, 0x05, 1, 0x155D, false, 4, .oneOf [1,2,3,4,5,6,7,8,14,15]⟩,  -- GN_UNVERIFIED_QL (R91)
  ⟨0x3200, 17, 0x01, 0x01, 0x05, 1, 0x1555, false, 0, .any⟩,  -- STATE (R91)
  ⟨0x3200, 17, 0x02, 0x02, 0x05, 1, 0x1555, false, 14, .any⟩,  -- QL_RX (R91)
  ⟨0x3200, 17, 0x03, 0x03, 0x05, 1, 0x1555, false, 14, .any⟩,  -- QL_EFFECTIVE (R91)
  ⟨0x3200, 17, 0x04, 0x04, 0x15, 8, 0x1555, false, 0, .any⟩   -- FREQ_OFFSET (R91)
]

/-- Dictionary rows, part 5. -/
def objTable5 : List ObjDef := [
  ⟨0x3200, 17, 0x05, 0x05, 0x15, 8, 0x1555, false, 0, .any⟩,  -- FREQ_TREND (R91)
  ⟨0x3200, 17, 0x06, 0x06, 0x15, 8, 0x1555, false, 0, .any⟩,  -- PHASE_OFFSET (R91)
  ⟨0x3200, 17, 0x07, 0x07, 0x06, 2, 0x1555, false, 0, .any⟩,  -- SOAK_LEFT (R91)
  ⟨0x3200, 17, 0x08, 0x08, 0x05, 1, 0x1555, false, 0, .nat 0 31⟩,  -- DISQ_CAUSE (R91)
  ⟨0x3800, 1, 0x01, 0x01, 0x07, 4, 0x155D, false, 1000000, .nat 1000 25000000⟩,  -- TIU_AUTO_RATE (R107)
  ⟨0x3800, 1, 0x02, 0x02, 0x07, 4, 0x1555, false, 0, .any⟩,  -- TIU_RATE_SUM (R107)
  ⟨0x3800, 1, 0x03, 0x03, 0x07, 4, 0x155D, false, 6554, .nat 1 4294967295⟩,  -- TIU_RESID_LIMIT (R107)
  ⟨0x3900, 32, 0x01, 0x01, 0x01, 1, 0x157D, false, 1, .nat 0 1⟩,  -- CH_ENABLE (R107)
  ⟨0x3900, 32, 0x02, 0x02, 0x07, 4, 0x155D, false, 0, .nat 0 16777216⟩,  -- CH_DIV (R107)
  ⟨0x3900, 32, 0x03, 0x03, 0x05, 1, 0x155D, false, 0, .nat 0 1⟩,  -- CH_EDGE (R107)
  ⟨0x3900, 32, 0x04, 0x04, 0x07, 4, 0x157D, false, 10000, .gate⟩,  -- CH_GATE (R107)
  ⟨0x3A00, 32, 0x01, 0x01, 0x15, 8, 0x1555, false, 0, .any⟩,  -- CH_FREQ (R107)
  ⟨0x3A00, 32, 0x02, 0x02, 0x15, 8, 0x1555, false, 0, .any⟩,  -- CH_FREQ_GATE (R107)
  ⟨0x3A00, 32, 0x03, 0x03, 0x07, 4, 0x1555, false, 0, .any⟩,  -- CH_FREQ_SIGMA (R107)
  ⟨0x3A00, 32, 0x04, 0x04, 0x07, 4, 0x1555, false, 0, .any⟩,  -- CH_RESID (R107)
  ⟨0x3A00, 32, 0x05, 0x05, 0x07, 4, 0x1555, false, 0, .any⟩,  -- CH_STAMPS (R107)
  ⟨0x3A00, 32, 0x06, 0x06, 0x07, 4, 0x1555, false, 0, .any⟩,  -- CH_OVERFLOW (R107)
  ⟨0x3A00, 32, 0x07, 0x07, 0x07, 4, 0x1555, false, 0, .any⟩,  -- CH_DEADTIME (R107)
  ⟨0x3A00, 32, 0x08, 0x08, 0x05, 1, 0x1555, false, 0, .nat 0 31⟩,  -- CH_EST_STATUS (R107)
  ⟨0x4000, 1, 0x01, 0x01, 0x05, 1, 0x1555, false, 0, .any⟩,  -- SERVO_STATE (R126)
  ⟨0x4000, 1, 0x02, 0x02, 0x15, 8, 0x1555, false, 0, .any⟩,  -- SERVO_CONTROL (R126)
  ⟨0x4000, 1, 0x03, 0x03, 0x15, 8, 0x1555, false, 0, .any⟩,  -- SERVO_INTEGRATOR (R126)
  ⟨0x4000, 1, 0x04, 0x04, 0x15, 8, 0x1555, false, 0, .any⟩,  -- SERVO_PHASE_ERROR (R126)
  ⟨0x4000, 1, 0x05, 0x05, 0x15, 8, 0x1555, false, 0, .any⟩   -- BUILD_OUT (R126)
]

/-- Dictionary rows, part 6. -/
def objTable6 : List ObjDef := [
  ⟨0x4000, 1, 0x06, 0x06, 0x07, 4, 0x1555, false, 0, .any⟩,  -- SERVO_BW_EFFECTIVE (R126)
  ⟨0x4000, 1, 0x07, 0x07, 0x15, 8, 0x1555, false, 0, .any⟩,  -- Y_STEER (R126)
  ⟨0x4010, 1, 0x01, 0x01, 0x07, 4, 0x155D, false, 1000, .nat 10 10000⟩,  -- SERVO_BW_ACQ (R126)
  ⟨0x4010, 1, 0x02, 0x02, 0x07, 4, 0x155D, false, 100, .nat 1 5000⟩,  -- SERVO_BW_TRACK (R126)
  ⟨0x4010, 1, 0x03, 0x03, 0x07, 4, 0x155D, false, 10, .nat 1 5000⟩,  -- SERVO_BW_SUSPECT (R126)
  ⟨0x4010, 1, 0x04, 0x04, 0x07, 4, 0x155D, false, 10, .nat 1 1000⟩,  -- SERVO_BW_FREQ (R126)
  ⟨0x4010, 1, 0x05, 0x05, 0x06, 2, 0x155D, false, 1000, .nat 500 10000⟩,  -- SERVO_DAMPING (R126)
  ⟨0x4011, 1, 0x01, 0x01, 0x07, 4, 0x155D, false, 10000, .nat 1000 1000000⟩,  -- PHASE_SLOPE_LIMIT (R126)
  ⟨0x4011, 1, 0x02, 0x02, 0x07, 4, 0x155D, false, 1000000, .nat 10000 100000000⟩,  -- ACQ_SLOPE_LIMIT (R126)
  ⟨0x4011, 1, 0x03, 0x03, 0x07, 4, 0x155D, false, 1000000, .nat 1000 1000000000⟩,  -- FREQ_SLOPE_LIMIT (R126)
  ⟨0x4011, 1, 0x04, 0x04, 0x07, 4, 0x155D, false, 100000000, .nat 1000000 150000000⟩,  -- CONTROL_RANGE (R126)
  ⟨0x4012, 1, 0x01, 0x01, 0x05, 1, 0x155D, false, 1, .nat 0 1⟩,  -- CHANGE_MODE (R126)
  ⟨0x4012, 1, 0x02, 0x02, 0x01, 1, 0x155D, false, 0, .nat 0 1⟩,  -- STEP_ON_RETURN (R126)
  ⟨0x4012, 1, 0x03, 0x03, 0x07, 4, 0x155D, false, 1000, .nat 100 100000000⟩,  -- STEP_THRESHOLD (R126)
  ⟨0x4012, 1, 0x04, 0x04, 0x07, 4, 0x155D, false, 100, .nat 1 1000000⟩,  -- LOCK_PHASE (R126)
  ⟨0x4012, 1, 0x05, 0x05, 0x06, 2, 0x155D, false, 16, .nat 2 1024⟩,  -- LOCK_COUNT (R126)
  ⟨0x4400, 1, 0x01, 0x01, 0x05, 1, 0x155D, false, 1, .nat 0 1⟩,  -- OSC_TYPE (R151)
  ⟨0x4400, 1, 0x02, 0x02, 0x1B, 8, 0x155D, false, 10000000000000, .nat 5000000000000 100000000000000⟩,  -- OSC_NOMINAL_HZ (R151)
  ⟨0x4400, 1, 0x03, 0x03, 0x01, 1, 0x155D, false, 1, .nat 0 1⟩,  -- OSC_WARM_POLARITY (R151)
  ⟨0x4401, 1, 0x01, 0x01, 0x03, 2, 0x155D, false, 8000, .int (3000) (11000)⟩,  -- OVEN_SETPOINT (R151)
  ⟨0x4401, 1, 0x02, 0x02, 0x07, 4, 0x155D, false, 40000, .any⟩,  -- OVEN_KP (R151)
  ⟨0x4401, 1, 0x03, 0x03, 0x07, 4, 0x155D, false, 400, .any⟩,  -- OVEN_KI (R151)
  ⟨0x4401, 1, 0x04, 0x04, 0x07, 4, 0x155D, false, 20000, .any⟩,  -- OVEN_KD (R151)
  ⟨0x4401, 1, 0x05, 0x05, 0x07, 4, 0x155D, false, 1100, .any⟩   -- OVEN_KFF (R151)
]

/-- Dictionary rows, part 7. -/
def objTable7 : List ObjDef := [
  ⟨0x4401, 1, 0x06, 0x06, 0x06, 2, 0x155D, false, 10000, .nat 100 10000⟩,  -- OVEN_DUTY_MAX (R151)
  ⟨0x4401, 1, 0x07, 0x07, 0x07, 4, 0x155D, false, 20000, .nat 1000 200000⟩,  -- OVEN_PWM_HZ (R151)
  ⟨0x4401, 1, 0x08, 0x08, 0x06, 2, 0x155D, false, 0, .any⟩,  -- OVEN_HEATER_W (R151)
  ⟨0x4401, 1, 0x09, 0x09, 0x03, 2, 0x155D, false, 10500, .any⟩,  -- OVEN_TEMP_MAX (R151)
  ⟨0x4401, 1, 0x0A, 0x0A, 0x06, 2, 0x155D, false, 150, .any⟩,  -- OVEN_THETA (R151)
  ⟨0x4402, 1, 0x01, 0x01, 0x15, 8, 0x155D, false, 1129148000000, .any⟩,  -- THERM_A (R151)
  ⟨0x4402, 1, 0x02, 0x02, 0x15, 8, 0x155D, false, 234125000000, .any⟩,  -- THERM_B (R151)
  ⟨0x4402, 1, 0x03, 0x03, 0x15, 8, 0x155D, false, 87674100, .any⟩,  -- THERM_C (R151)
  ⟨0x4402, 1, 0x04, 0x04, 0x07, 4, 0x155D, false, 10000, .any⟩,  -- OVEN_SENSE_RREF (R151)
  ⟨0x4410, 1, 0x01, 0x01, 0x04, 4, 0x1555, false, 0, .any⟩,  -- OVEN_TEMP (R151)
  ⟨0x4410, 1, 0x02, 0x02, 0x06, 2, 0x1555, false, 0, .any⟩,  -- OVEN_DUTY (R151)
  ⟨0x4410, 1, 0x03, 0x03, 0x06, 2, 0x1555, false, 0, .any⟩,  -- OVEN_POWER (R151)
  ⟨0x4410, 1, 0x04, 0x04, 0x04, 4, 0x1555, false, 0, .any⟩,  -- AMBIENT_EST (R151)
  ⟨0x4410, 1, 0x05, 0x05, 0x01, 1, 0x1555, false, 0, .nat 0 1⟩,  -- WARM_FLAG (R151)
  ⟨0x4410, 1, 0x06, 0x06, 0x15, 8, 0x1555, false, 0, .any⟩,  -- WARM_SLOPE (R151)
  ⟨0x4410, 1, 0x07, 0x07, 0x05, 1, 0x1555, false, 0, .nat 0 63⟩,  -- OVEN_STATUS (R151)
  ⟨0x4420, 1, 0x01, 0x01, 0x07, 4, 0x155D, false, 3600, .nat 60 43200⟩,  -- HO_WINDOW (R151)
  ⟨0x4420, 1, 0x02, 0x02, 0x07, 4, 0x155D, false, 600, .nat 0 7200⟩,  -- HO_GUARD (R151)
  ⟨0x4420, 1, 0x03, 0x03, 0x05, 1, 0x155D, false, 0, .nat 0 2⟩,  -- HO_LEARN (R151)
  ⟨0x4420, 1, 0x04, 0x04, 0x04, 4, 0x155D, false, 0, .any⟩,  -- HO_AGEING_CFG (R151)
  ⟨0x4420, 1, 0x05, 0x05, 0x04, 4, 0x155D, false, 0, .any⟩,  -- HO_TEMPCO_CFG (R151)
  ⟨0x4420, 1, 0x06, 0x06, 0x06, 2, 0x155D, false, 200, .any⟩,  -- HO_TEMP_SPREAD_MIN (R151)
  ⟨0x4420, 1, 0x07, 0x07, 0x07, 4, 0x155D, false, 50, .nat 1 4294967295⟩,  -- HO_FREQ_FLOOR (R151)
  ⟨0x4420, 1, 0x08, 0x08, 0x07, 4, 0x155D, false, 100, .nat 1 4294967295⟩   -- HO_AGEING_FLOOR (R151)
]

/-- Dictionary rows, part 8. -/
def objTable8 : List ObjDef := [
  ⟨0x4420, 1, 0x09, 0x09, 0x07, 4, 0x155D, false, 1000, .any⟩,  -- HO_AGEING_PRIOR (R151)
  ⟨0x4420, 1, 0x0A, 0x0A, 0x07, 4, 0x155D, false, 10000000, .any⟩,  -- HO_COLD_FREQ (R151)
  ⟨0x4420, 1, 0x0B, 0x0B, 0x05, 1, 0x155D, false, 0, .nat 0 1⟩,  -- HO_PULSE_POLICY (R151)
  ⟨0x4420, 1, 0x0C, 0x0C, 0x07, 4, 0x155D, false, 86400, .nat 21600 86400⟩,  -- HO_LEARN_SPAN (R151)
  ⟨0x4430, 1, 0x01, 0x01, 0x01, 1, 0x1555, false, 0, .nat 0 1⟩,  -- HO_VALID (R151)
  ⟨0x4430, 1, 0x02, 0x02, 0x15, 8, 0x1555, false, 0, .any⟩,  -- HO_U0 (R151)
  ⟨0x4430, 1, 0x03, 0x03, 0x04, 4, 0x1555, false, 0, .any⟩,  -- HO_AGEING (R151)
  ⟨0x4430, 1, 0x04, 0x04, 0x04, 4, 0x1555, false, 0, .any⟩,  -- HO_TEMPCO (R151)
  ⟨0x4430, 1, 0x05, 0x05, 0x43, 12, 0x1555, false, 0, .any⟩,  -- HO_SIGMAS (R151)
  ⟨0x4430, 1, 0x06, 0x06, 0x15, 8, 0x1555, false, 0, .any⟩,  -- HO_PREDICT (R151)
  ⟨0x4430, 1, 0x07, 0x07, 0x07, 4, 0x1555, false, 0, .any⟩,  -- HO_ELAPSED (R151)
  ⟨0x4430, 1, 0x08, 0x08, 0x42, 4, 0x1555, false, 0, .any⟩,  -- HO_GROWTH (R151)
  ⟨0x4430, 1, 0x09, 0x09, 0x07, 4, 0x1555, false, 0, .any⟩,  -- HO_RING_FILL (R151)
  ⟨0x4430, 1, 0x0A, 0x0A, 0x1B, 8, 0x0054, false, 0, .any⟩,  -- HO_RING_BASE (R151)
  ⟨0x4440, 1, 0x01, 0x01, 0x05, 1, 0x155D, false, 0, .nat 0 2⟩,  -- ATOMIC_PROTO (R151)
  ⟨0x4440, 1, 0x02, 0x02, 0x07, 4, 0x155D, false, 57600, .nat 4800 115200⟩,  -- ATOMIC_BAUD (R151)
  ⟨0x4440, 1, 0x03, 0x03, 0x07, 4, 0x155D, false, 1000, .nat 100 100000⟩,  -- ATOMIC_TAU (R151)
  ⟨0x4440, 1, 0x04, 0x04, 0x07, 4, 0x155D, false, 1000, .any⟩,  -- ATOMIC_STEP_MAX (R151)
  ⟨0x4440, 1, 0x05, 0x05, 0x15, 8, 0x1555, false, 0, .any⟩,  -- ATOMIC_ADJ (R151)
  ⟨0x4440, 1, 0x06, 0x06, 0x05, 1, 0x1555, false, 0, .nat 0 3⟩,  -- ATOMIC_STATE (R151)
  ⟨0x4440, 1, 0x07, 0x07, 0x0A, 64, 0x0008, false, 0, .any⟩,  -- ATOMIC_RELAY_TX (R151)
  ⟨0x4440, 1, 0x08, 0x08, 0x05, 1, 0x0008, false, 0, .nat 0 3⟩,  -- ATOMIC_RELAY_STATUS (R151)
  ⟨0x4800, 4, 0x01, 0x01, 0x05, 1, 0x155D, false, 1, .nat 1 20⟩,  -- APLL_P (R179)
  ⟨0x4800, 4, 0x02, 0x02, 0x06, 2, 0x155D, false, 500, .nat 48 1200⟩   -- APLL_N_INT (R179)
]

/-- Dictionary rows, part 9. -/
def objTable9 : List ObjDef := [
  ⟨0x4800, 4, 0x03, 0x03, 0x1B, 8, 0x155D, false, 0, .nat 0 281474976710655⟩,  -- APLL_N_FRAC (R179)
  ⟨0x4800, 4, 0x04, 0x04, 0x05, 1, 0x155D, false, 4, .nat 4 8⟩,  -- APLL_Q (R179)
  ⟨0x4810, 4, 0x01, 0x01, 0x05, 1, 0x1555, false, 0, .nat 0 3⟩,  -- APLL_LOCK_STATE (R179)
  ⟨0x4810, 4, 0x02, 0x02, 0x1B, 8, 0x1555, false, 0, .any⟩,  -- APLL_FREQ (R179)
  ⟨0x4810, 4, 0x03, 0x03, 0x07, 4, 0x1555, false, 0, .any⟩,  -- APLL_LOSS_COUNT (R179)
  ⟨0x4840, 1, 0x01, 0x01, 0x05, 1, 0x0028, false, 0, .nat 1 15⟩,  -- SYNTH_COMMIT (R179)
  ⟨0x4840, 1, 0x02, 0x02, 0x05, 1, 0x1555, false, 0, .nat 0 2⟩,  -- SYNTH_COMMIT_STATUS (R179)
  ⟨0x4840, 1, 0x03, 0x03, 0x07, 4, 0x155D, false, 10000, .nat 1000 100000000⟩,  -- PULSE_SLEW_RATE (R179)
  ⟨0x4841, 2, 0x01, 0x01, 0x01, 1, 0x157D, false, 0, .nat 0 1⟩,  -- TOD_TXu_ENABLE (R179)
  ⟨0x4841, 2, 0x02, 0x02, 0x05, 1, 0x155D, false, 255, .natOr 0 15 255⟩,  -- TOD_TXu_SOURCE (R179)
  ⟨0x4841, 2, 0x03, 0x03, 0x05, 1, 0x155D, false, 0, .nat 0 1⟩,  -- TOD_TXu_FORMAT (R179)
  ⟨0x4841, 2, 0x04, 0x04, 0x07, 4, 0x155D, false, 9600, .nat 4800 115200⟩,  -- TOD_TXu_BAUD (R179)
  ⟨0x4841, 2, 0x05, 0x05, 0x06, 2, 0x155D, false, 200, .any⟩,  -- TOD_TXu_DELAY (R179)
  ⟨0x4900, 16, 0x01, 0x01, 0x01, 1, 0x157D, false, 0, .nat 0 1⟩,  -- OUTn_ENABLE (R179)
  ⟨0x4900, 16, 0x02, 0x02, 0x05, 1, 0x155D, false, 0, .nat 0 3⟩,  -- OUTn_APLL (R179)
  ⟨0x4900, 16, 0x03, 0x03, 0x07, 4, 0x155D, false, 8, .nat 1 16777216⟩,  -- OUTn_DIV (R179)
  ⟨0x4900, 16, 0x04, 0x04, 0x05, 1, 0x155D, false, 0, .nat 0 9⟩,  -- OUTn_FORMAT (R179)
  ⟨0x4900, 16, 0x05, 0x05, 0x05, 1, 0x155D, false, 0, .nat 0 3⟩,  -- OUTn_MODE (R179)
  ⟨0x4900, 16, 0x06, 0x06, 0x15, 8, 0x155D, false, 0, .int (-32767999999999) 32767999999999⟩,  -- OUTn_PHASE (R179)
  ⟨0x4900, 16, 0x07, 0x07, 0x07, 4, 0x155D, false, 1, .nat 1 1000000⟩,  -- OUTn_PULSE_RATE (R179)
  ⟨0x4900, 16, 0x08, 0x08, 0x07, 4, 0x155D, false, 100000000, .any⟩,  -- OUTn_PULSE_WIDTH (R179)
  ⟨0x4900, 16, 0x09, 0x09, 0x01, 1, 0x155D, false, 1, .nat 0 1⟩,  -- OUTn_ALIGN (R179)
  ⟨0x4900, 16, 0x0A, 0x0A, 0x01, 1, 0x155D, false, 1, .nat 0 1⟩,  -- OUTn_HOLD_ON_RELOCK (R179)
  ⟨0x4900, 16, 0x0B, 0x0B, 0x01, 1, 0x155D, false, 0, .nat 0 1⟩   -- OUTn_STEP_ALLOW (R179)
]

/-- Dictionary rows, part 10. -/
def objTable10 : List ObjDef := [
  ⟨0x4900, 16, 0x0C, 0x0C, 0x07, 4, 0x155D, false, 1000, .nat 100 100000000⟩,  -- OUTn_STEP_MIN (R179)
  ⟨0x4900, 16, 0x0D, 0x0D, 0x05, 1, 0x155D, false, 0, .nat 0 1⟩,  -- OUTn_IDLE (R179)
  ⟨0x4900, 16, 0x0E, 0x0E, 0x05, 1, 0x155D, false, 4, .nat 0 7⟩,  -- OUTn_IRIG_CODE (R179)
  ⟨0x4900, 16, 0x0F, 0x0F, 0x05, 1, 0x155D, false, 0, .nat 0 1⟩,  -- OUTn_IRIG_SCALE (R179)
  ⟨0x4900, 16, 0x10, 0x10, 0x05, 1, 0x155D, false, 0, .nat 0 1⟩,  -- OUTn_IRIG_CF (R179)
  ⟨0x4900, 16, 0x11, 0x11, 0x05, 1, 0x155D, false, 33, .nat 30 60⟩,  -- OUTn_IRIG_MR (R179)
  ⟨0x4900, 16, 0x12, 0x12, 0x05, 1, 0x155D, false, 1, .nat 0 1⟩,  -- OUTn_START_GATE (R179)
  ⟨0x4A00, 16, 0x01, 0x01, 0x05, 1, 0x1555, false, 0, .any⟩,  -- OUTn_STATE (R179)
  ⟨0x4A00, 16, 0x02, 0x02, 0x15, 8, 0x1555, false, 0, .any⟩,  -- OUTn_ALIGN_ERROR (R179)
  ⟨0x4A00, 16, 0x03, 0x03, 0x42, 4, 0x1555, false, 4294967295, .any⟩,  -- OUTn_GIRTH (R179)
  ⟨0x4A00, 16, 0x04, 0x04, 0x1B, 8, 0x1555, false, 0, .any⟩,  -- OUTn_FREQ (R179)
  ⟨0x4A00, 16, 0x05, 0x05, 0x07, 4, 0x1555, false, 0, .any⟩,  -- OUTn_STARTS (R179)
  ⟨0x5000, 1, 0x01, 0x01, 0x01, 1, 0x155D, false, 0, .nat 0 1⟩,  -- GN_ENABLE (R208)
  ⟨0x5000, 1, 0x02, 0x02, 0x05, 1, 0x155D, false, 7, .nat 0 7⟩,  -- GN_SYSTEMS (R208)
  ⟨0x5000, 1, 0x03, 0x03, 0x06, 2, 0x155D, false, 5, .nat 0 1023⟩,  -- GN_SIGNALS (R208)
  ⟨0x5000, 1, 0x04, 0x04, 0x05, 1, 0x155D, false, 10, .oneOf [1,2,4,5,10,20,25,50,100]⟩,  -- GN_EPOCH_RATE (R208)
  ⟨0x5000, 1, 0x05, 0x05, 0x05, 1, 0x155D, false, 0, .nat 0 2⟩,  -- GN_TIME_SYSTEM (R208)
  ⟨0x5000, 1, 0x06, 0x06, 0x05, 1, 0x155D, false, 0, .nat 0 1⟩,  -- GN_ISB_MODE (R208)
  ⟨0x5000, 1, 0x07, 0x07, 0x07, 4, 0x155D, false, 20, .any⟩,  -- GN_ISB_TOL (R208)
  ⟨0x5000, 1, 0x08, 0x08, 0x05, 1, 0x155D, false, 10, .nat 0 60⟩,  -- GN_ELEV_MASK (R208)
  ⟨0x5000, 1, 0x09, 0x09, 0x06, 2, 0x155D, false, 3000, .any⟩,  -- GN_CN0_MASK (R208)
  ⟨0x5000, 1, 0x0A, 0x0A, 0x06, 2, 0x155D, false, 2000, .any⟩,  -- GN_CN0_DROP (R208)
  ⟨0x5000, 1, 0x0B, 0x0B, 0x05, 1, 0x155D, false, 5, .nat 3 32⟩,  -- GN_MIN_SV (R208)
  ⟨0x5000, 1, 0x0C, 0x0C, 0x07, 4, 0x155D, false, 30, .any⟩   -- GN_RESID_LIMIT (R208)
]

/-- Dictionary rows, part 11. -/
def objTable11 : List ObjDef := [
  ⟨0x5000, 1, 0x0D, 0x0D, 0x07, 4, 0x155D, false, 100, .any⟩,  -- GN_SIGMA_LIMIT (R208)
  ⟨0x5000, 1, 0x0E, 0x0E, 0x05, 1, 0x155D, false, 2, .nat 0 4⟩,  -- GN_FDE_MAX (R208)
  ⟨0x5000, 1, 0x0F, 0x0F, 0x05, 1, 0x155D, false, 96, .nat 17 255⟩,  -- GN_JAM_THRESHOLD (R208)
  ⟨0x5001, 1, 0x01, 0x01, 0x05, 1, 0x155D, false, 1, .nat 0 2⟩,  -- GN_POS_MODE (R208)
  ⟨0x5001, 1, 0x02, 0x02, 0x43, 24, 0x155D, false, 0, .any⟩,  -- GN_POSITION (R208)
  ⟨0x5001, 1, 0x03, 0x03, 0x07, 4, 0x155D, false, 3600, .nat 600 86400⟩,  -- GN_SURVEY_TIME (R208)
  ⟨0x5001, 1, 0x04, 0x04, 0x07, 4, 0x155D, false, 50000, .any⟩,  -- GN_POS_TOL (R208)
  ⟨0x5001, 1, 0x05, 0x05, 0x07, 4, 0x1555, false, 0, .any⟩,  -- GN_SURVEY_LEFT (R208)
  ⟨0x5001, 1, 0x06, 0x06, 0x05, 1, 0x0008, false, 0, .nat 90 90⟩,  -- GN_SURVEY_RESTART (R208)
  ⟨0x5002, 1, 0x01, 0x01, 0x01, 1, 0x155D, false, 1, .nat 0 1⟩,  -- GN_OSNMA_ENABLE (R208)
  ⟨0x5002, 1, 0x02, 0x02, 0x0A, 68, 0x155D, false, 0, .osnmaKey⟩,  -- GN_OSNMA_PUBKEY (R208)
  ⟨0x5002, 1, 0x03, 0x03, 0x0A, 32, 0x155D, false, 0, .any⟩,  -- GN_OSNMA_ROOT (R208)
  ⟨0x5002, 1, 0x04, 0x04, 0x05, 1, 0x155D, false, 0, .nat 0 1⟩,  -- GN_OSNMA_TIME_SOURCE (R208)
  ⟨0x5002, 1, 0x05, 0x05, 0x05, 1, 0x155D, false, 3, .nat 1 16⟩,  -- GN_OSNMA_MIN_SV (R208)
  ⟨0x5002, 1, 0x06, 0x06, 0x05, 1, 0x155D, false, 8, .nat 0 16⟩,  -- GN_OSNMA_CHANNELS (R208)
  ⟨0x5002, 1, 0x07, 0x07, 0x07, 4, 0x155D, false, 50, .any⟩,  -- GN_XCHECK (R208)
  ⟨0x5002, 1, 0x08, 0x08, 0x05, 1, 0x1555, false, 0, .nat 0 7⟩,  -- GN_OSNMA_STATUS (R208)
  ⟨0x5003, 1, 0x01, 0x01, 0x05, 1, 0x157D, false, 1, .nat 1 20⟩,  -- ACQ_TC (R208)
  ⟨0x5003, 1, 0x02, 0x02, 0x05, 1, 0x157D, false, 4, .nat 1 64⟩,  -- ACQ_NNC (R208)
  ⟨0x5003, 1, 0x03, 0x03, 0x05, 1, 0x157D, false, 0, .nat 0 1⟩,  -- ACQ_CODE_STEP (R208)
  ⟨0x5003, 1, 0x04, 0x04, 0x07, 4, 0x157D, false, 5000, .nat 250 50000⟩,  -- ACQ_DOPPLER_SPAN (R208)
  ⟨0x5003, 1, 0x05, 0x05, 0x06, 2, 0x155D, false, 1800, .any⟩,  -- ACQ_THRESHOLD (R208)
  ⟨0x5003, 1, 0x06, 0x06, 0x05, 1, 0x1555, false, 0, .any⟩,  -- ACQ_ACTIVE (R208)
  ⟨0x5010, 3, 0x01, 0x01, 0x01, 1, 0x155D, false, 0, .nat 0 1⟩   -- GIF_ENABLE (R208)
]

/-- Dictionary rows, part 12. -/
def objTable12 : List ObjDef := [
  ⟨0x5010, 3, 0x02, 0x02, 0x05, 1, 0x155D, false, 1, .oneOf [1,2,4]⟩,  -- GIF_RATE_DIV (R208)
  ⟨0x5010, 3, 0x03, 0x03, 0x05, 1, 0x155D, false, 0, .nat 0 2⟩,  -- GIF_CODE (R208)
  ⟨0x5010, 3, 0x04, 0x04, 0x05, 1, 0x155D, false, 0, .nat 0 3⟩,  -- GIF_SLIP (R208)
  ⟨0x5010, 3, 0x05, 0x05, 0x1B, 8, 0x155D, false, 0, .any⟩,  -- GIF_LO_HZ (R208)
  ⟨0x5010, 3, 0x06, 0x06, 0x01, 1, 0x155D, false, 0, .nat 0 1⟩,  -- GIF_INVERT (R208)
  ⟨0x5010, 3, 0x07, 0x07, 0x05, 1, 0x155D, false, 1, .nat 0 2⟩,  -- NOTCH_MODE (R208)
  ⟨0x5010, 3, 0x08, 0x08, 0x44, 32, 0x155D, false, 0, .any⟩,  -- NOTCH_FIXED (R208)
  ⟨0x5010, 3, 0x09, 0x09, 0x06, 2, 0x155D, false, 150, .any⟩,  -- NOTCH_DETECT (R208)
  ⟨0x5010, 3, 0x0A, 0x0A, 0x03, 2, 0x155D, false, 64336, .any⟩,  -- AGC_QUIET (R208)
  ⟨0x5010, 3, 0x0B, 0x0B, 0x06, 2, 0x155D, false, 900, .nat 1 65535⟩,  -- SFM_QUIET (R208)
  ⟨0x5020, 3, 0x01, 0x01, 0x05, 1, 0x1555, false, 0, .nat 0 15⟩,  -- GIF_STATUS (R208)
  ⟨0x5020, 3, 0x02, 0x02, 0x05, 1, 0x1555, false, 0, .any⟩,  -- JAM_IND (R208)
  ⟨0x5020, 3, 0x03, 0x03, 0x06, 2, 0x1555, false, 0, .any⟩,  -- AGC_DEPTH (R208)
  ⟨0x5020, 3, 0x04, 0x04, 0x06, 2, 0x1555, false, 0, .any⟩,  -- SFM (R208)
  ⟨0x5020, 3, 0x05, 0x05, 0x05, 1, 0x1555, false, 0, .any⟩,  -- NOTCH_ACTIVE (R208)
  ⟨0x5020, 3, 0x06, 0x06, 0x44, 32, 0x1555, false, 0, .any⟩,  -- NOTCH_FREQ (R208)
  ⟨0x5100, 256, 0x01, 0x01, 0x05, 1, 0x155D, false, 16, .nat 3 64⟩,  -- TRK_SPACING (R208)
  ⟨0x5100, 256, 0x02, 0x02, 0x05, 1, 0x155D, false, 64, .nat 4 128⟩,  -- TRK_VSPACING (R208)
  ⟨0x5100, 256, 0x03, 0x03, 0x05, 1, 0x1555, false, 255, .any⟩,  -- TRK_SIG (R208)
  ⟨0x5100, 256, 0x04, 0x04, 0x05, 1, 0x1555, false, 0, .any⟩,  -- TRK_SVID (R208)
  ⟨0x5100, 256, 0x05, 0x05, 0x05, 1, 0x1555, false, 0, .any⟩,  -- TRK_STATE (R208)
  ⟨0x5100, 256, 0x06, 0x06, 0x06, 2, 0x1555, false, 0, .any⟩,  -- TRK_CN0 (R208)
  ⟨0x5100, 256, 0x07, 0x07, 0x04, 4, 0x1555, false, 0, .any⟩,  -- TRK_DOPPLER (R208)
  ⟨0x5300, 1, 0x01, 0x01, 0x05, 1, 0x1555, false, 0, .nat 0 9⟩   -- GN_SOL_STATUS (R208)
]

/-- Dictionary rows, part 13. -/
def objTable13 : List ObjDef := [
  ⟨0x5300, 1, 0x02, 0x02, 0x15, 8, 0x1555, false, 0, .any⟩,  -- GN_TIME_OFFSET (R208)
  ⟨0x5300, 1, 0x03, 0x03, 0x07, 4, 0x1555, false, 0, .any⟩,  -- GN_TIME_SIGMA (R208)
  ⟨0x5300, 1, 0x04, 0x04, 0x05, 1, 0x1555, false, 0, .any⟩,  -- GN_SV_USED (R208)
  ⟨0x5300, 1, 0x05, 0x05, 0x05, 1, 0x1555, false, 0, .any⟩,  -- GN_SV_EXCLUDED (R208)
  ⟨0x5300, 1, 0x06, 0x06, 0x07, 4, 0x1555, false, 0, .any⟩,  -- GN_RESID_RMS (R208)
  ⟨0x5300, 1, 0x07, 0x07, 0x44, 24, 0x1555, false, 0, .any⟩,  -- GN_ISB (R208)
  ⟨0x5300, 1, 0x08, 0x08, 0x44, 24, 0x1555, false, 0, .any⟩,  -- GN_ISB_BCAST (R208)
  ⟨0x5300, 1, 0x09, 0x09, 0x05, 1, 0x1555, false, 0, .nat 0 7⟩,  -- GN_ISB_FLAGS (R208)
  ⟨0x5300, 1, 0x0A, 0x0A, 0x01, 1, 0x1555, false, 0, .nat 0 1⟩,  -- GN_VERIFIED (R208)
  ⟨0x5300, 1, 0x0B, 0x0B, 0x07, 4, 0x1555, false, 0, .any⟩,  -- GN_DROPPED_EPOCHS (R208)
  ⟨0x5300, 1, 0x0C, 0x0C, 0x07, 4, 0x1555, false, 0, .any⟩,  -- GN_NAV_ERRORS (R208)
  ⟨0x6000, 8, 0x01, 0x01, 0x05, 1, 0x155D, false, 3, .nat 0 5⟩,  -- QUAD_MODE (R253)
  ⟨0x6000, 8, 0x02, 0x02, 0x05, 1, 0x155D, false, 0, .nat 0 2⟩,  -- QUAD_FEC (R253)
  ⟨0x6000, 8, 0x03, 0x03, 0x05, 1, 0x155D, false, 255, .natOr 0 15 255⟩,  -- QUAD_REFCLK_SRC (R253)
  ⟨0x6000, 8, 0x04, 0x04, 0x05, 1, 0x0028, false, 0, .nat 90 90⟩,  -- QUAD_APPLY (R253)
  ⟨0x6000, 8, 0x05, 0x05, 0x05, 1, 0x1555, false, 0, .nat 0 3⟩,  -- QUAD_STATE (R253)
  ⟨0x6100, 32, 0x01, 0x01, 0x01, 1, 0x157D, false, 1, .nat 0 1⟩,  -- LANE_ENABLE (R253)
  ⟨0x6100, 32, 0x02, 0x02, 0x05, 1, 0x155D, false, 0, .nat 0 2⟩,  -- LANE_TRAIN (R253)
  ⟨0x6100, 32, 0x03, 0x03, 0x01, 1, 0x155D, false, 0, .nat 0 1⟩,  -- LANE_TX_POL (R253)
  ⟨0x6100, 32, 0x04, 0x04, 0x01, 1, 0x155D, false, 0, .nat 0 1⟩,  -- LANE_RX_POL (R253)
  ⟨0x6100, 32, 0x05, 0x05, 0x43, 3, 0x155D, false, 16128, .fir⟩,  -- LANE_TX_FIR (R253)
  ⟨0x6100, 32, 0x06, 0x06, 0x05, 1, 0x155D, false, 0, .nat 0 2⟩,  -- LANE_CTLE_MODE (R253)
  ⟨0x6100, 32, 0x07, 0x07, 0x05, 1, 0x155D, false, 8, .nat 0 31⟩,  -- LANE_CTLE_FIXED (R253)
  ⟨0x6100, 32, 0x08, 0x08, 0x06, 2, 0x157D, false, 200, .nat 1 1023⟩   -- LANE_FOM_WARN (R253)
]

/-- Dictionary rows, part 14. -/
def objTable14 : List ObjDef := [
  ⟨0x6100, 32, 0x09, 0x09, 0x06, 2, 0x157D, false, 32, .nat 0 1022⟩,  -- LANE_FOM_MIN (R253)
  ⟨0x6100, 32, 0x0A, 0x0A, 0x01, 1, 0x155D, false, 0, .nat 0 1⟩,  -- LANE_LPI_ALLOW (R253)
  ⟨0x6100, 32, 0x0B, 0x0B, 0x06, 2, 0x155D, false, 20, .nat 1 10000⟩,  -- LANE_LPI_IDLE (R253)
  ⟨0x6100, 32, 0x0C, 0x0C, 0x01, 1, 0x155D, false, 0, .nat 0 1⟩,  -- ESMC_TX_ENABLE (R253)
  ⟨0x6100, 32, 0x0D, 0x0D, 0x05, 1, 0x0028, false, 0, .nat 90 90⟩,  -- LANE_RETRAIN (R253)
  ⟨0x6200, 32, 0x01, 0x01, 0x05, 1, 0x1555, false, 0, .nat 0 5⟩,  -- LANE_STATE (R253)
  ⟨0x6200, 32, 0x02, 0x02, 0x06, 2, 0x1555, false, 0, .any⟩,  -- LANE_FOM (R253)
  ⟨0x6200, 32, 0x03, 0x03, 0x05, 1, 0x1555, false, 0, .any⟩,  -- LANE_CTLE (R253)
  ⟨0x6200, 32, 0x04, 0x04, 0x44, 12, 0x1555, false, 0, .any⟩,  -- LANE_DFE (R253)
  ⟨0x6200, 32, 0x05, 0x05, 0x05, 1, 0x1555, false, 0, .nat 0 7⟩,  -- LANE_LPI_STATE (R253)
  ⟨0x6200, 32, 0x06, 0x06, 0x01, 1, 0x1555, false, 0, .nat 0 1⟩,  -- LANE_TIMING_PORT (R253)
  ⟨0x6200, 32, 0x07, 0x07, 0x07, 4, 0x1555, false, 0, .any⟩,  -- LANE_LINK_DOWNS (R253)
  ⟨0x6200, 32, 0x08, 0x08, 0x07, 4, 0x1555, false, 0, .any⟩,  -- LANE_RETRAINS (R253)
  ⟨0x6200, 32, 0x09, 0x09, 0x07, 4, 0x1555, false, 0, .any⟩,  -- LANE_FEC_CORR (R253)
  ⟨0x6200, 32, 0x0A, 0x0A, 0x07, 4, 0x1555, false, 0, .any⟩,  -- LANE_FEC_UNCORR (R253)
  ⟨0x6200, 32, 0x0B, 0x0B, 0x07, 4, 0x1555, false, 0, .any⟩,  -- LANE_RX_DROP (R253)
  ⟨0x6200, 32, 0x0C, 0x0C, 0x07, 4, 0x1555, false, 0, .any⟩,  -- LANE_TRAIN_FAILS (R253)
  ⟨0x6200, 32, 0x0D, 0x0D, 0x43, 3, 0x1555, false, 16128, .any⟩,  -- LANE_TX_FIR_USED (R253)
  ⟨0x6200, 32, 0x0E, 0x0E, 0x07, 4, 0x1555, false, 0, .any⟩,  -- LANE_LPI_RX_UNEXPECTED (R253)
  ⟨0x6300, 1, 0x01, 0x01, 0x05, 1, 0x155D, false, 3, .nat 0 3⟩,  -- PEER_LANE_ENABLE (R253)
  ⟨0x6300, 1, 0x02, 0x02, 0x05, 1, 0x155D, false, 0, .nat 0 1⟩,  -- PEER_PREFER (R253)
  ⟨0x6300, 1, 0x03, 0x03, 0x05, 1, 0x1555, false, 255, .any⟩,  -- PEER_ACTIVE (R253)
  ⟨0x6300, 1, 0x04, 0x04, 0x07, 4, 0x1555, false, 0, .any⟩,  -- PEER_SWITCHES (R253)
  ⟨0x6301, 2, 0x01, 0x01, 0x05, 1, 0x1555, false, 0, .any⟩   -- PEER_STATE (R253)
]

/-- Dictionary rows, part 15. -/
def objTable15 : List ObjDef := [
  ⟨0x6301, 2, 0x02, 0x02, 0x06, 2, 0x1555, false, 0, .any⟩,  -- PEER_FOM (R253)
  ⟨0x6400, 32, 0x01, 0x01, 0x15, 8, 0x155D, false, 0, .any⟩,  -- PORT_ASYM_CORR (R268)
  ⟨0x6400, 32, 0x02, 0x02, 0x06, 2, 0x155D, false, 12, .nat 3 60⟩,  -- PORT_CTLE_UNC_MAX (R268)
  ⟨0x6400, 32, 0x03, 0x03, 0x05, 1, 0x0008, false, 0, .nat 90 90⟩,  -- PORT_CAL_LOOP (R268)
  ⟨0x6400, 32, 0x04, 0x04, 0x07, 4, 0x155D, false, 0, .any⟩,  -- PORT_CAL_LOOP_DELAY (R268)
  ⟨0x6500, 32, 0x01, 0x01, 0x05, 1, 0x1555, false, 0, .any⟩,  -- PORT_STAMP_STATE (R268)
  ⟨0x6500, 32, 0x02, 0x02, 0x05, 1, 0x1555, false, 3, .any⟩,  -- PORT_PROFILE (R268)
  ⟨0x6500, 32, 0x03, 0x03, 0x44, 32, 0x1555, false, 0, .any⟩,  -- PORT_TX_DELAY_USED (R268)
  ⟨0x6500, 32, 0x04, 0x04, 0x44, 32, 0x1555, false, 0, .any⟩,  -- PORT_RX_DELAY_USED (R268)
  ⟨0x6500, 32, 0x05, 0x05, 0x07, 4, 0x1555, false, 0, .any⟩,  -- PORT_TX_UNC (R268)
  ⟨0x6500, 32, 0x06, 0x06, 0x07, 4, 0x1555, false, 0, .any⟩,  -- PORT_RX_UNC (R268)
  ⟨0x6500, 32, 0x07, 0x07, 0x44, 16, 0x1555, false, 0, .any⟩,  -- PORT_ALIGN (R268)
  ⟨0x6500, 32, 0x08, 0x08, 0x06, 2, 0x1555, false, 0, .any⟩,  -- PORT_CTLE_CHANGES (R268)
  ⟨0x6500, 32, 0x09, 0x09, 0x07, 4, 0x1555, false, 0, .any⟩,  -- PORT_STAMPS_DROPPED (R268)
  ⟨0x6500, 32, 0x0A, 0x0A, 0x07, 4, 0x1555, false, 0, .any⟩,  -- PORT_STALE_DISCARDS (R268)
  ⟨0x6500, 32, 0x0B, 0x0B, 0x43, 13, 0x1555, false, 0, .nat 0 4⟩,  -- PORT_CAL_RESULT (R268)
  ⟨0x6800, 1, 0x01, 0x01, 0x07, 4, 0x157D, false, 300, .nat 10 1000000⟩,  -- YARD_MAC_AGE (R287)
  ⟨0x6800, 1, 0x02, 0x02, 0x06, 2, 0x155D, false, 9216, .nat 1518 9216⟩,  -- YARD_MTU (R287)
  ⟨0x6800, 1, 0x03, 0x03, 0x07, 4, 0x155D, false, 2048, .nat 512 16384⟩,  -- SHED_TIMING_RESERVE (R287)
  ⟨0x6800, 1, 0x04, 0x04, 0x07, 4, 0x155D, false, 4096, .nat 1024 16384⟩,  -- SHED_HOST_RESERVE (R287)
  ⟨0x6801, 1, 0x01, 0x01, 0x07, 4, 0x1555, false, 98304, .any⟩,  -- SHED_FREE (R287)
  ⟨0x6801, 1, 0x02, 0x02, 0x07, 4, 0x1555, false, 0, .any⟩,  -- SHED_SHARED_USED (R287)
  ⟨0x6801, 1, 0x03, 0x03, 0x07, 4, 0x1555, false, 0, .any⟩,  -- SHED_TIMING_USED (R287)
  ⟨0x6801, 1, 0x04, 0x04, 0x06, 2, 0x1555, false, 65535, .any⟩   -- SHED_BANKS_ON (R287)
]

/-- Dictionary rows, part 16. -/
def objTable16 : List ObjDef := [
  ⟨0x6801, 1, 0x05, 0x05, 0x07, 4, 0x1555, false, 0, .any⟩,  -- HOST_DROPS (R287)
  ⟨0x6801, 1, 0x06, 0x06, 0x07, 4, 0x1555, false, 0, .any⟩,  -- HOST_UNHANDLED (R287)
  ⟨0x6810, 64, 0x01, 0x01, 0x43, 28, 0x155D, false, 0, .family⟩,  -- HOST_ADDR (R287)
  ⟨0x6880, 64, 0x01, 0x01, 0x43, 12, 0x155D, false, 0, .any⟩,  -- YARD_VLAN (R287)
  ⟨0x6900, 256, 0x01, 0x01, 0x43, 12, 0x155D, false, 0, .any⟩,  -- FDB_STATIC (R287)
  ⟨0x6A00, 32, 0x01, 0x01, 0x01, 1, 0x155D, false, 1, .nat 0 1⟩,  -- PORT_CUT_THROUGH (R287)
  ⟨0x6A00, 32, 0x02, 0x02, 0x07, 4, 0x155D, false, 2000, .nat 0 100000⟩,  -- PORT_DOWN_HOLD (R287)
  ⟨0x6A00, 32, 0x03, 0x03, 0x06, 2, 0x155D, false, 100, .nat 100 10000⟩,  -- PORT_BLOCK_TIME (R287)
  ⟨0x6A00, 32, 0x04, 0x04, 0x06, 2, 0x155D, false, 1, .nat 1 4094⟩,  -- PORT_PVID (R287)
  ⟨0x6A00, 32, 0x05, 0x05, 0x05, 1, 0x155D, false, 0, .nat 0 2⟩,  -- PORT_QMAP_MODE (R287)
  ⟨0x6A00, 32, 0x06, 0x06, 0x44, 8, 0x155D, false, 506097522914230528, .bytesTo 8 7⟩,  -- PORT_PCP_MAP (R287)
  ⟨0x6A00, 32, 0x07, 0x07, 0x44, 64, 0x155D, false, 368057472586659528220750338286844376477516999725734724041164210659721433828806855236731797976772334213688962774359125851528715305599118485254382230175744, .bytesTo 64 7⟩,  -- PORT_DSCP_MAP (R287)
  ⟨0x6A00, 32, 0x08, 0x08, 0x05, 1, 0x155D, false, 0, .nat 0 6⟩,  -- PORT_DEF_QUEUE (R287)
  ⟨0x6B00, 256, 0x01, 0x01, 0x05, 1, 0x155D, false, 0, .nat 0 1⟩,  -- QUEUE_SCHED (R287)
  ⟨0x6B00, 256, 0x02, 0x02, 0x05, 1, 0x155D, false, 8, .nat 1 255⟩,  -- QUEUE_WEIGHT (R287)
  ⟨0x6B00, 256, 0x03, 0x03, 0x06, 2, 0x155D, false, 16, .nat 0 1024⟩,  -- QUEUE_MIN (R287)
  ⟨0x6B00, 256, 0x04, 0x04, 0x05, 1, 0x155D, false, 3, .nat 0 6⟩,  -- QUEUE_ALPHA (R287)
  ⟨0x6B00, 256, 0x05, 0x05, 0x07, 4, 0x155D, false, 12288, .nat 64 98304⟩,  -- QUEUE_MAX (R287)
  ⟨0x6B00, 256, 0x06, 0x06, 0x07, 4, 0x155D, false, 1024, .any⟩,  -- QUEUE_ECN_THRESH (R287)
  ⟨0x6C00, 256, 0x01, 0x01, 0x07, 4, 0x1555, false, 0, .any⟩,  -- QUEUE_DEPTH (R287)
  ⟨0x6C00, 256, 0x02, 0x02, 0x07, 4, 0x1555, false, 0, .any⟩,  -- QUEUE_TAIL_DROPS (R287)
  ⟨0x6C00, 256, 0x03, 0x03, 0x07, 4, 0x1555, false, 0, .any⟩,  -- QUEUE_ECN_MARKS (R287)
  ⟨0x6C00, 256, 0x04, 0x04, 0x07, 4, 0x1555, false, 0, .any⟩,  -- QUEUE_TX_FRAMES (R287)
  ⟨0x6D00, 32, 0x01, 0x01, 0x05, 1, 0x1555, false, 0, .nat 0 3⟩   -- PORT_FWD_STATE (R287)
]

/-- Dictionary rows, part 17. -/
def objTable17 : List ObjDef := [
  ⟨0x6D00, 32, 0x02, 0x02, 0x07, 4, 0x1555, false, 0, .any⟩,  -- PORT_RX_FCS_ERR (R287)
  ⟨0x6D00, 32, 0x03, 0x03, 0x07, 4, 0x1555, false, 0, .any⟩,  -- PORT_RX_TRUNCATED (R287)
  ⟨0x6D00, 32, 0x04, 0x04, 0x07, 4, 0x1555, false, 0, .any⟩,  -- PORT_TX_STOMPED (R287)
  ⟨0x6D00, 32, 0x05, 0x05, 0x07, 4, 0x1555, false, 0, .any⟩,  -- PORT_PARTIAL_DELIVERY (R287)
  ⟨0x6D00, 32, 0x06, 0x06, 0x07, 4, 0x1555, false, 0, .any⟩,  -- PORT_DOWN_DROPS (R287)
  ⟨0x6D00, 32, 0x07, 0x07, 0x07, 4, 0x1555, false, 0, .any⟩,  -- PORT_FLUSHED (R287)
  ⟨0x6D00, 32, 0x08, 0x08, 0x07, 4, 0x1555, false, 0, .any⟩,  -- PORT_BLOCK_DROPS (R287)
  ⟨0x6D00, 32, 0x09, 0x09, 0x07, 4, 0x1555, false, 0, .any⟩,  -- PORT_EVENT_BLOCKED (R287)
  ⟨0x6D00, 32, 0x0A, 0x0A, 0x07, 4, 0x1555, false, 0, .any⟩,  -- PORT_VLAN_DROPS (R287)
  ⟨0x6D00, 32, 0x0B, 0x0B, 0x07, 4, 0x1555, false, 0, .any⟩,  -- PORT_CTRL_DROPS (R287)
  ⟨0x6D00, 32, 0x0C, 0x0C, 0x07, 4, 0x1555, false, 0, .any⟩,  -- PORT_CT_FRAMES (R287)
  ⟨0x6E00, 4, 0x01, 0x01, 0x01, 1, 0x157D, false, 0, .nat 0 1⟩,  -- MIRROR_ENABLE (R287)
  ⟨0x6E00, 4, 0x02, 0x02, 0x05, 1, 0x157D, false, 0, .nat 0 31⟩,  -- MIRROR_DEST (R287)
  ⟨0x6E00, 4, 0x03, 0x03, 0x07, 4, 0x157D, false, 0, .any⟩,  -- MIRROR_SRC_RX (R287)
  ⟨0x6E00, 4, 0x04, 0x04, 0x07, 4, 0x157D, false, 0, .any⟩,  -- MIRROR_SRC_TX (R287)
  ⟨0x6E00, 4, 0x05, 0x05, 0x43, 8, 0x157D, false, 0, .any⟩,  -- MIRROR_FLOW (R287)
  ⟨0x6E00, 4, 0x06, 0x06, 0x06, 2, 0x157D, false, 0, .zeroOr 64 9216⟩,  -- MIRROR_TRUNC (R287)
  ⟨0x6E00, 4, 0x07, 0x07, 0x07, 4, 0x1555, false, 0, .any⟩,  -- MIRROR_DROPS (R287)
  ⟨0x6E00, 4, 0x08, 0x08, 0x07, 4, 0x1555, false, 0, .any⟩,  -- MIRROR_SUSPENDED (R287)
  ⟨0x7000, 1, 0x01, 0x01, 0x0A, 8, 0x155D, false, 0, .any⟩,  -- CLOCK_IDENTITY (R310)
  ⟨0x7000, 1, 0x02, 0x02, 0x07, 4, 0x155D, false, 4000000, .nat 0 4000000⟩,  -- PTP_AUTH_CAPACITY (R310)
  ⟨0x7000, 1, 0x03, 0x03, 0x07, 4, 0x155D, false, 12000000, .nat 0 12000000⟩,  -- PTP_MSG_CAPACITY (R310)
  ⟨0x7000, 1, 0x04, 0x04, 0x06, 2, 0x155D, false, 300, .nat 10 1000⟩,  -- PTP_GRANT_MAX_DURATION (R310)
  ⟨0x7000, 1, 0x05, 0x05, 0x05, 1, 0x155D, false, 0, .nat 0 1⟩   -- PTP_TC_MODE (R310)
]

/-- Dictionary rows, part 18. -/
def objTable18 : List ObjDef := [
  ⟨0x7001, 1, 0x01, 0x01, 0x07, 4, 0x1555, false, 0, .any⟩,  -- PTP_AUTH_CAP_NOW (R310)
  ⟨0x7001, 1, 0x02, 0x02, 0x07, 4, 0x1555, false, 0, .any⟩,  -- PTP_MSG_CAP_NOW (R310)
  ⟨0x7001, 1, 0x03, 0x03, 0x07, 4, 0x1555, false, 0, .any⟩,  -- PTP_LOAD_AUTH (R310)
  ⟨0x7001, 1, 0x04, 0x04, 0x07, 4, 0x1555, false, 0, .any⟩,  -- PTP_LOAD_ALL (R310)
  ⟨0x7001, 1, 0x05, 0x05, 0x07, 4, 0x1555, false, 0, .any⟩,  -- PTP_GRANTS (R310)
  ⟨0x7001, 1, 0x06, 0x06, 0x07, 4, 0x1555, false, 0, .any⟩,  -- PTP_GRANTS_REFUSED (R310)
  ⟨0x7001, 1, 0x07, 0x07, 0x07, 4, 0x1555, false, 0, .any⟩,  -- PTP_V1_DROPS (R310)
  ⟨0x7001, 1, 0x08, 0x08, 0x07, 4, 0x1555, false, 0, .any⟩,  -- PTP_MGMT_DROPS (R310)
  ⟨0x7010, 4, 0x01, 0x01, 0x01, 1, 0x155D, false, 0, .nat 0 1⟩,  -- PTP_ENABLE (R310)
  ⟨0x7010, 4, 0x02, 0x02, 0x05, 1, 0x155D, false, 2, .nat 0 4⟩,  -- PTP_PROFILE (R310)
  ⟨0x7010, 4, 0x03, 0x03, 0x05, 1, 0x155D, false, 24, .any⟩,  -- PTP_DOMAIN (R310)
  ⟨0x7010, 4, 0x04, 0x04, 0x05, 1, 0x155D, false, 0, .nat 0 2⟩,  -- PTP_ROLE (R310)
  ⟨0x7010, 4, 0x05, 0x05, 0x07, 4, 0x155D, false, 0, .any⟩,  -- PTP_PORTS (R310)
  ⟨0x7010, 4, 0x06, 0x06, 0x05, 1, 0x155D, false, 0, .nat 0 2⟩,  -- PTP_TRANSPORT (R310)
  ⟨0x7010, 4, 0x07, 0x07, 0x05, 1, 0x155D, false, 1, .nat 0 1⟩,  -- PTP_MINOR_VERSION (R310)
  ⟨0x7010, 4, 0x08, 0x08, 0x05, 1, 0x155D, false, 128, .any⟩,  -- PTP_PRIORITY1 (R310)
  ⟨0x7010, 4, 0x09, 0x09, 0x05, 1, 0x155D, false, 128, .any⟩,  -- PTP_PRIORITY2 (R310)
  ⟨0x7010, 4, 0x0A, 0x0A, 0x02, 1, 0x155D, false, 253, .int (-3) (3)⟩,  -- PTP_LOG_ANNOUNCE (R310)
  ⟨0x7010, 4, 0x0B, 0x0B, 0x02, 1, 0x155D, false, 252, .int (-7) (4)⟩,  -- PTP_LOG_SYNC (R310)
  ⟨0x7010, 4, 0x0C, 0x0C, 0x02, 1, 0x155D, false, 252, .int (-7) (4)⟩,  -- PTP_LOG_DELAY_REQ (R310)
  ⟨0x7010, 4, 0x0D, 0x0D, 0x05, 1, 0x155D, false, 3, .nat 2 10⟩,  -- PTP_ANNOUNCE_TIMEOUT (R310)
  ⟨0x7010, 4, 0x0E, 0x0E, 0x01, 1, 0x155D, false, 0, .nat 0 1⟩,  -- PTP_TWO_STEP (R310)
  ⟨0x7010, 4, 0x0F, 0x0F, 0x01, 1, 0x155D, false, 0, .nat 0 1⟩,  -- PTP_UNICAST (R310)
  ⟨0x7010, 4, 0x10, 0x10, 0x05, 1, 0x155D, false, 2, .nat 0 2⟩   -- PTP_AUTH_POLICY (R310)
]

/-- Dictionary rows, part 19. -/
def objTable19 : List ObjDef := [
  ⟨0x7010, 4, 0x11, 0x11, 0x05, 1, 0x155D, false, 0, .nat 0 15⟩,  -- PTP_SA_SEND (R310)
  ⟨0x7010, 4, 0x12, 0x12, 0x44, 80, 0x155D, false, 0, .families⟩,  -- PTP_UC_MASTERS (R310)
  ⟨0x7020, 4, 0x01, 0x01, 0x05, 1, 0x1555, false, 255, .any⟩,  -- PTP_CLIENT_PORT (R310)
  ⟨0x7020, 4, 0x02, 0x02, 0x0A, 10, 0x1555, false, 0, .any⟩,  -- PTP_PARENT (R310)
  ⟨0x7020, 4, 0x03, 0x03, 0x43, 16, 0x1555, false, 0, .any⟩,  -- PTP_PARENT_DS (R310)
  ⟨0x7020, 4, 0x04, 0x04, 0x15, 8, 0x1555, false, 0, .any⟩,  -- PTP_OFFSET (R310)
  ⟨0x7020, 4, 0x05, 0x05, 0x15, 8, 0x1555, false, 0, .any⟩,  -- PTP_MEAN_DELAY (R310)
  ⟨0x7020, 4, 0x06, 0x06, 0x05, 1, 0x1555, false, 248, .any⟩,  -- PTP_SERVED_CLASS (R310)
  ⟨0x7020, 4, 0x07, 0x07, 0x05, 1, 0x1555, false, 254, .any⟩,  -- PTP_SERVED_ACCURACY (R310)
  ⟨0x7100, 32, 0x01, 0x01, 0x05, 1, 0x155D, false, 0, .nat 0 2⟩,  -- PTP_PORT_ROLE (R310)
  ⟨0x7100, 32, 0x02, 0x02, 0x05, 1, 0x155D, false, 128, .any⟩,  -- PTP_LOCAL_PRIORITY (R310)
  ⟨0x7100, 32, 0x03, 0x03, 0x01, 1, 0x155D, false, 0, .nat 0 1⟩,  -- PORT_TC_ENABLE (R310)
  ⟨0x7200, 32, 0x01, 0x01, 0x05, 1, 0x1555, false, 3, .any⟩,  -- PTP_PORT_STATE (R310)
  ⟨0x7200, 32, 0x02, 0x02, 0x15, 8, 0x1555, false, 0, .any⟩,  -- PTP_PEER_DELAY (R310)
  ⟨0x7200, 32, 0x03, 0x03, 0x07, 4, 0x1555, false, 0, .any⟩,  -- PTP_AUTH_FAIL (R310)
  ⟨0x7200, 32, 0x04, 0x04, 0x07, 4, 0x1555, false, 0, .any⟩,  -- PTP_AUTH_MISSING (R310)
  ⟨0x7200, 32, 0x05, 0x05, 0x07, 4, 0x1555, false, 0, .any⟩,  -- PTP_REPLAY (R310)
  ⟨0x7200, 32, 0x06, 0x06, 0x07, 4, 0x1555, false, 0, .any⟩,  -- PTP_DREQ_DROPS (R310)
  ⟨0x7200, 32, 0x07, 0x07, 0x07, 4, 0x1555, false, 0, .any⟩,  -- PTP_TC_FRAMES (R310)
  ⟨0x7200, 32, 0x08, 0x08, 0x07, 4, 0x1555, false, 0, .any⟩,  -- PTP_TC_DEGRADED (R310)
  ⟨0x7300, 16, 0x01, 0x01, 0x05, 1, 0x155D, false, 0, .nat 0 3⟩,  -- SA_ALG (R310)
  ⟨0x7300, 16, 0x02, 0x02, 0x07, 4, 0x155D, false, 0, .any⟩,  -- SA_KEY_ID (R310)
  ⟨0x7300, 16, 0x03, 0x03, 0x06, 2, 0x155D, false, 65535, .any⟩,  -- SA_SEND_SLOT (R310)
  ⟨0x7300, 16, 0x04, 0x04, 0x06, 2, 0x155D, false, 65535, .any⟩   -- SA_VERIFY_SLOT (R310)
]

/-- Dictionary rows, part 20. -/
def objTable20 : List ObjDef := [
  ⟨0x7300, 16, 0x05, 0x05, 0x07, 4, 0x155D, false, 0, .any⟩,  -- SA_NEXT_KEY_ID (R310)
  ⟨0x7300, 16, 0x06, 0x06, 0x06, 2, 0x155D, false, 65535, .any⟩,  -- SA_NEXT_SEND_SLOT (R310)
  ⟨0x7300, 16, 0x07, 0x07, 0x06, 2, 0x155D, false, 65535, .any⟩,  -- SA_NEXT_VERIFY_SLOT (R310)
  ⟨0x7300, 16, 0x08, 0x08, 0x1B, 8, 0x155D, false, 0, .any⟩,  -- SA_SWITCH_TAI (R310)
  ⟨0x7800, 1, 0x01, 0x01, 0x01, 1, 0x155D, false, 0, .nat 0 1⟩,  -- NTP_ENABLE (R328)
  ⟨0x7800, 1, 0x02, 0x02, 0x01, 1, 0x155D, false, 0, .nat 0 1⟩,  -- NTS_ENABLE (R328)
  ⟨0x7800, 1, 0x03, 0x03, 0x05, 1, 0x155D, false, 3, .nat 0 3⟩,  -- NTP_VERSIONS (R328)
  ⟨0x7800, 1, 0x04, 0x04, 0x07, 4, 0x155D, false, 0, .any⟩,  -- NTP_PORTS (R328)
  ⟨0x7800, 1, 0x05, 0x05, 0x1B, 8, 0x155D, false, 0, .any⟩,  -- NTP_ADDRS (R328)
  ⟨0x7800, 1, 0x06, 0x06, 0x05, 1, 0x155D, false, 0, .nat 0 1⟩,  -- NTP_LEAP_MODE (R328)
  ⟨0x7800, 1, 0x07, 0x07, 0x05, 1, 0x155D, false, 3, .nat 0 3⟩,  -- NTS_AEADS (R328)
  ⟨0x7801, 1, 0x01, 0x01, 0x05, 1, 0x155D, false, 32, .nat 8 32⟩,  -- NTP_PREFIX4 (R328)
  ⟨0x7801, 1, 0x02, 0x02, 0x05, 1, 0x155D, false, 64, .nat 16 128⟩,  -- NTP_PREFIX6 (R328)
  ⟨0x7801, 1, 0x03, 0x03, 0x06, 2, 0x155D, false, 128, .nat 1 4080⟩,  -- NTP_BUCKET_RATE (R328)
  ⟨0x7801, 1, 0x04, 0x04, 0x05, 1, 0x155D, false, 16, .nat 1 255⟩,  -- NTP_BUCKET_DEPTH (R328)
  ⟨0x7801, 1, 0x05, 0x05, 0x01, 1, 0x155D, false, 0, .nat 0 1⟩,  -- NTP_RATE_KISS (R328)
  ⟨0x7801, 1, 0x06, 0x06, 0x02, 1, 0x155D, false, 6, .int (4) (17)⟩,  -- NTP_KISS_POLL (R328)
  ⟨0x7801, 1, 0x07, 0x07, 0x07, 4, 0x155D, false, 100000, .nat 0 1000000⟩,  -- NTP_KISS_RATE (R328)
  ⟨0x7801, 1, 0x08, 0x08, 0x05, 1, 0x0028, false, 0, .nat 90 90⟩,  -- NTP_HASH_REKEY (R328)
  ⟨0x7802, 1, 0x01, 0x01, 0x07, 4, 0x155D, false, 24000000, .nat 0 24000000⟩,  -- NTP_CAPACITY (R328)
  ⟨0x7802, 1, 0x02, 0x02, 0x07, 4, 0x155D, false, 16000000, .nat 0 16000000⟩,  -- NTS_CAPACITY (R328)
  ⟨0x7802, 1, 0x03, 0x03, 0x07, 4, 0x1555, false, 0, .any⟩,  -- NTP_CAP_NOW (R328)
  ⟨0x7802, 1, 0x04, 0x04, 0x07, 4, 0x1555, false, 0, .any⟩,  -- NTS_CAP_NOW (R328)
  ⟨0x7802, 1, 0x05, 0x05, 0x07, 4, 0x155D, false, 10000, .nat 0 100000⟩   -- NTS_EXC_RATE (R328)
]

/-- Dictionary rows, part 21. -/
def objTable21 : List ObjDef := [
  ⟨0x7810, 2, 0x01, 0x01, 0x07, 4, 0x155D, false, 0, .any⟩,  -- NTS_KEY_ID (R328)
  ⟨0x7810, 2, 0x02, 0x02, 0x06, 2, 0x155D, false, 65535, .any⟩,  -- NTS_KEY_ENC_SLOT (R328)
  ⟨0x7810, 2, 0x03, 0x03, 0x06, 2, 0x155D, false, 65535, .any⟩,  -- NTS_KEY_DEC_SLOT (R328)
  ⟨0x7812, 1, 0x01, 0x01, 0x05, 1, 0x155D, false, 0, .nat 0 1⟩,  -- NTS_KEY_CURRENT (R328)
  ⟨0x7820, 1, 0x01, 0x01, 0x1B, 8, 0x00C4, false, 0, .mult 1024⟩,  -- NTS_MINT_RING_BASE (R328)
  ⟨0x7820, 1, 0x02, 0x02, 0x06, 2, 0x00C4, false, 0, .pow2 16 4096⟩,  -- NTS_MINT_RING_SIZE (R328)
  ⟨0x7820, 1, 0x03, 0x03, 0x07, 4, 0x0080, false, 0, .any⟩,  -- NTS_MINT_PRODUCER (R328)
  ⟨0x7820, 1, 0x04, 0x04, 0x07, 4, 0x0044, false, 0, .any⟩,  -- NTS_MINT_CONSUMER (R328)
  ⟨0x7820, 1, 0x05, 0x05, 0x06, 2, 0x155D, false, 65535, .any⟩,  -- NTS_MINT_WRAP_SLOT (R328)
  ⟨0x7880, 1, 0x01, 0x11, 0x07, 4, 0x1555, false, 0, .any⟩,  -- NTP_COUNTERS (R328)
  ⟨0x7881, 1, 0x01, 0x04, 0x07, 4, 0x1555, false, 0, .any⟩,  -- NTP_GIRTH_COUNTERS (R328)
  ⟨0x8000, 1, 0x01, 0x01, 0x07, 4, 0x1555, false, 0, .any⟩,  -- FW_SVN (R350)
  ⟨0x8000, 1, 0x02, 0x02, 0x07, 4, 0x155D, false, 0, .any⟩,  -- FW_MIN_SVN (R350)
  ⟨0x8010, 1, 0x01, 0x01, 0x01, 1, 0x155D, false, 0, .nat 0 1⟩,  -- PADDOCK_ENABLE (R350)
  ⟨0x8010, 1, 0x02, 0x02, 0x05, 1, 0x155D, false, 0, .any⟩,  -- TACK_ENGINES (R350)
  ⟨0x8010, 1, 0x03, 0x03, 0x1B, 8, 0x155D, false, 0, .mult 1048576⟩,  -- PADDOCK_BASE (R350)
  ⟨0x8010, 1, 0x04, 0x04, 0x06, 2, 0x155D, false, 0, .nat 0 1024⟩,  -- PADDOCK_SIZE (R350)
  ⟨0x8010, 1, 0x05, 0x05, 0x05, 1, 0x155D, false, 10, .nat 1 50⟩,  -- PADDOCK_DRAM_SHARE (R350)
  ⟨0x8010, 1, 0x06, 0x06, 0x06, 2, 0x155D, false, 65535, .any⟩,  -- TACK_VERIFY_SLOT (R350)
  ⟨0x8010, 1, 0x07, 0x07, 0x07, 4, 0x155D, false, 0, .any⟩,  -- TACK_MIN_SVN (R350)
  ⟨0x8010, 1, 0x08, 0x08, 0x01, 1, 0x155D, false, 0, .nat 0 1⟩,  -- TACK_HOST_ACCESS (R350)
  ⟨0x8010, 1, 0x09, 0x09, 0x05, 1, 0x155D, false, 0, .nat 0 3⟩,  -- TACK_RESTART_MAX (R350)
  ⟨0x8011, 1, 0x01, 0x01, 0x07, 4, 0x0040, false, 0, .any⟩,  -- TACK_DOORBELL (R350)
  ⟨0x8011, 1, 0x02, 0x02, 0x05, 1, 0x0044, false, 0, .any⟩   -- TACK_DOORBELL_COUNT (R350)
]

/-- Dictionary rows, part 22. -/
def objTable22 : List ObjDef := [
  ⟨0x8020, 8, 0x01, 0x01, 0x1B, 8, 0x0008, false, 0, .any⟩,  -- TACK_LOAD (R350)
  ⟨0x8020, 8, 0x02, 0x02, 0x05, 1, 0x1555, false, 0, .nat 0 8⟩,  -- TACK_STATE (R350)
  ⟨0x8020, 8, 0x03, 0x03, 0x05, 1, 0x1555, false, 0, .nat 0 8⟩,  -- TACK_LOAD_STATUS (R350)
  ⟨0x8020, 8, 0x04, 0x04, 0x07, 4, 0x155D, false, 1000, .nat 0 60000⟩,  -- TACK_WDOG (R350)
  ⟨0x8020, 8, 0x05, 0x05, 0x05, 1, 0x0028, false, 0, .nat 90 90⟩,  -- TACK_STOP (R350)
  ⟨0x8020, 8, 0x06, 0x06, 0x07, 4, 0x1555, false, 0, .any⟩,  -- TACK_FAULTS (R350)
  ⟨0x8020, 8, 0x07, 0x07, 0x43, 8, 0x0014, false, 0, .any⟩,  -- TACK_CAUSE (R350)
  ⟨0x8030, 8, 0x01, 0x01, 0x43, 2, 0x155D, false, 0, .tap⟩,  -- TACK_TAP (R350)
  ⟨0x8030, 8, 0x02, 0x02, 0x07, 4, 0x1555, false, 0, .any⟩,  -- TACK_TAP_DROPS (R350)
  ⟨0x8030, 8, 0x03, 0x03, 0x07, 4, 0x1555, false, 0, .any⟩,  -- TACK_TAP_SUSPENDED (R350)
  ⟨0x8100, 36, 0x01, 0x01, 0x05, 1, 0x1555, false, 0, .nat 0 4⟩,  -- ENG_STATE (R350)
  ⟨0x8100, 36, 0x02, 0x02, 0x07, 4, 0x1555, false, 0, .any⟩,  -- ENG_FW_VERSION (R350)
  ⟨0x8100, 36, 0x03, 0x03, 0x07, 4, 0x1555, false, 0, .any⟩,  -- ENG_RESETS (R350)
  ⟨0x8100, 36, 0x04, 0x04, 0x05, 1, 0x0014, false, 0, .any⟩,  -- ENG_LAST_CAUSE (R350)
  ⟨0x8800, 1, 0x01, 0x01, 0x1B, 8, 0x155D, false, 0, .mult 4096⟩,  -- PC_DUMP_BASE (R375)
  ⟨0x8800, 1, 0x02, 0x02, 0x07, 4, 0x155D, false, 0, .pow2 1024 1048576⟩,  -- PC_DUMP_SIZE (R375)
  ⟨0x8800, 1, 0x03, 0x03, 0x06, 2, 0x157D, false, 1000, .nat 1 60000⟩,  -- PC_DUMP_PERIOD (R375)
  ⟨0x8800, 1, 0x04, 0x04, 0x1B, 8, 0x157D, false, 0, .any⟩,  -- PC_DUMP_MASK (R375)
  ⟨0x8800, 1, 0x05, 0x05, 0x1B, 8, 0x157D, false, 0, .any⟩,  -- PC_SAMPLE_MASK (R375)
  ⟨0x8801, 1, 0x01, 0x01, 0x07, 4, 0x1555, false, 0, .any⟩,  -- PC_DUMP_PRODUCER (R375)
  ⟨0x8801, 1, 0x02, 0x02, 0x07, 4, 0x15D5, false, 0, .any⟩,  -- PC_DUMP_CONSUMER (R375)
  ⟨0x8801, 1, 0x03, 0x03, 0x07, 4, 0x1555, false, 0, .any⟩,  -- PC_DUMP_LOST (R375)
  ⟨0x8801, 1, 0x04, 0x04, 0x07, 4, 0x1555, false, 0, .any⟩,  -- PC_DUMP_SUSPENDED (R375)
  ⟨0x8810, 36, 0x01, 0x01, 0x44, 16, 0x157D, false, 0, .any⟩   -- PC_EVENT (R375)
]

/-- Dictionary rows, part 23. -/
def objTable23 : List ObjDef := [
  ⟨0x8810, 36, 0x02, 0x02, 0x43, 5, 0x157D, false, 0, .any⟩,  -- PC_SAMPLE (R375)
  ⟨0x8900, 36, 0x01, 0x01, 0x43, 64, 0x0054, false, 0, .any⟩,  -- PC_READ (R375)
  ⟨0x8C00, 1, 0x01, 0x01, 0x07, 4, 0x155D, false, 0, .any⟩,  -- GOV_SUPPLY_CAP (R362)
  ⟨0x8C00, 1, 0x02, 0x02, 0x07, 4, 0x155D, false, 0, .any⟩,  -- GOV_BOARD_W (R362)
  ⟨0x8C00, 1, 0x03, 0x03, 0x07, 4, 0x155D, false, 1000, .nat 0 10000⟩,  -- GOV_MARGIN (R362)
  ⟨0x8C00, 1, 0x04, 0x04, 0x03, 2, 0x155D, false, 10500, .tjLimit⟩,  -- GOV_TJ_LIMIT (R362)
  ⟨0x8C00, 1, 0x05, 0x05, 0x06, 2, 0x155D, false, 300, .nat 100 2000⟩,  -- GOV_TJ_HYST (R362)
  ⟨0x8C00, 1, 0x06, 0x06, 0x07, 4, 0x155D, false, 500, .nat 0 10000⟩,  -- GOV_RAISE_MARGIN (R362)
  ⟨0x8C00, 1, 0x07, 0x07, 0x06, 2, 0x155D, false, 1000, .nat 10 60000⟩,  -- GOV_RAISE_HOLD (R362)
  ⟨0x8C00, 1, 0x08, 0x08, 0x05, 1, 0x155D, false, 50, .nat 1 100⟩,  -- GOV_W2_REDUCED (R362)
  ⟨0x8C00, 1, 0x09, 0x09, 0x05, 1, 0x155D, false, 10, .nat 1 100⟩,  -- GOV_W2_MIN (R362)
  ⟨0x8C00, 1, 0x0A, 0x0A, 0x01, 1, 0x155D, false, 0, .nat 0 1⟩,  -- GOV_COLD_START (R362)
  ⟨0x8C00, 1, 0x0B, 0x0B, 0x06, 2, 0x155D, false, 900, .nat 60 3600⟩,  -- GOV_COLD_MAX (R362)
  ⟨0x8C00, 1, 0x0C, 0x0C, 0x05, 1, 0x157D, false, 0, .nat 0 7⟩,  -- GOV_LEVEL_MIN (R362)
  ⟨0x8C10, 1, 0x01, 0x01, 0x05, 1, 0x1555, false, 7, .any⟩,  -- GOV_LEVEL (R362)
  ⟨0x8C10, 1, 0x02, 0x02, 0x05, 1, 0x1555, false, 3, .nat 0 63⟩,  -- GOV_CLASS_GRANT (R362)
  ⟨0x8C10, 1, 0x03, 0x03, 0x05, 1, 0x1555, false, 0, .any⟩,  -- GOV_W2_GRANT (R362)
  ⟨0x8C10, 1, 0x04, 0x04, 0x07, 4, 0x1555, false, 0, .any⟩,  -- GOV_P_PART (R362)
  ⟨0x8C10, 1, 0x05, 0x05, 0x04, 4, 0x1555, false, 0, .any⟩,  -- GOV_HEADROOM (R362)
  ⟨0x8C10, 1, 0x06, 0x06, 0x03, 2, 0x1555, false, 0, .any⟩,  -- GOV_TJ (R362)
  ⟨0x8C10, 1, 0x07, 0x07, 0x05, 1, 0x1555, false, 1, .any⟩,  -- GOV_CRYPTO_UNPARKED (R362)
  ⟨0x8C10, 1, 0x08, 0x08, 0x05, 1, 0x1555, false, 0, .nat 0 31⟩,  -- GOV_CAUSE (R362)
  ⟨0x8C10, 1, 0x09, 0x09, 0x07, 4, 0x1555, false, 0, .any⟩,  -- GOV_SHEDS (R362)
  ⟨0x8C11, 1, 0x01, 0x01, 0x06, 2, 0x1555, false, 1500, .any⟩   -- GOV_LEVEL_COST1 (R362)
]

/-- Dictionary rows, part 24. -/
def objTable24 : List ObjDef := [
  ⟨0x8C11, 1, 0x02, 0x02, 0x06, 2, 0x1555, false, 900, .any⟩,  -- GOV_LEVEL_COST2 (R362)
  ⟨0x8C11, 1, 0x03, 0x03, 0x06, 2, 0x1555, false, 450, .any⟩,  -- GOV_LEVEL_COST3 (R362)
  ⟨0x8C11, 1, 0x04, 0x04, 0x06, 2, 0x1555, false, 1000, .any⟩,  -- GOV_LEVEL_COST4 (R362)
  ⟨0x8C11, 1, 0x05, 0x05, 0x06, 2, 0x1555, false, 1200, .any⟩,  -- GOV_LEVEL_COST5 (R362)
  ⟨0x8C11, 1, 0x06, 0x06, 0x06, 2, 0x1555, false, 1400, .any⟩,  -- GOV_LEVEL_COST6 (R362)
  ⟨0x8C11, 1, 0x07, 0x07, 0x06, 2, 0x1555, false, 600, .any⟩,  -- GOV_LEVEL_COST7 (R362)
  ⟨0x8C12, 1, 0x01, 0x08, 0x07, 4, 0x1555, false, 0, .any⟩,  -- GOV_LEVEL_TIME (R362)
  ⟨0xA000, 1, 0x01, 0x01, 0x05, 1, 0x1555, false, 0, .nat 0 5⟩,  -- LC_STATE (R404)
  ⟨0xA000, 1, 0x02, 0x02, 0x43, 100, 0x000A, false, 0, .any⟩,  -- LC_REQUEST (R404)
  ⟨0xA000, 1, 0x03, 0x03, 0x05, 1, 0x1555, false, 0, .any⟩,  -- LC_DEBUG_ENTRIES (R404)
  ⟨0xA001, 1, 0x01, 0x01, 0x06, 2, 0x155D, false, 60, .nat 1 3600⟩,  -- VAULT_STAGE_TIMEOUT (R404)
  ⟨0xA011, 7, 0x01, 0x01, 0x05, 1, 0x155D, false, 0, .nat 0 1⟩,  -- VAULT_CLASS_MODE (R404)
  ⟨0xA100, 512, 0x01, 0x01, 0x43, 4, 0x3FFF, false, 0, .any⟩,  -- SLOT_ATTR (R404)
  ⟨0xA400, 1, 0x01, 0x01, 0x43, 184, 0x2AAA, false, 0, .any⟩,  -- KEY_STAGE (R404)
  ⟨0xA400, 1, 0x02, 0x02, 0x06, 2, 0x2AAA, false, 0, .any⟩,  -- KEY_COMMIT (R404)
  ⟨0xA400, 1, 0x03, 0x03, 0x06, 2, 0x2AAA, false, 0, .any⟩,  -- KEY_ABANDON (R404)
  ⟨0xA400, 1, 0x04, 0x04, 0x06, 2, 0x2AAA, false, 0, .any⟩,  -- KEY_ERASE (R404)
  ⟨0xA400, 1, 0x05, 0x05, 0x43, 4, 0x2AAA, false, 0, .any⟩,  -- KEY_EXPORT (R404)
  ⟨0xA400, 1, 0x06, 0x06, 0x0A, 172, 0x1555, false, 0, .any⟩,  -- KEY_EXPORT_BLOB (R404)
  ⟨0xA400, 1, 0x07, 0x07, 0x05, 1, 0x1555, false, 0, .nat 0 8⟩,  -- VAULT_OP_STATUS (R404)
  ⟨0xA410, 1, 0x01, 0x01, 0x07, 4, 0x1555, false, 0, .any⟩,  -- VAULT_MASK_ROTATIONS (R404)
  ⟨0xA410, 1, 0x02, 0x02, 0x07, 4, 0x1555, false, 0, .any⟩,  -- VAULT_UNSEAL_FAILS (R404)
  ⟨0xA410, 1, 0x03, 0x03, 0x07, 4, 0x1555, false, 0, .any⟩,  -- VAULT_FLASH_FREE (R404)
  ⟨0xA300, 512, 0x01, 0x01, 0x43, 8, 0x1555, false, 0, .any⟩   -- SLOT_INFO (R404; behind KEY_STAGE and VAULT_MASK_ROTATIONS, whose entries it meets: log entry 83)
]

/-- Dictionary rows, part 25. -/
def objTable25 : List ObjDef := [
  ⟨0xA500, 1, 0x01, 0x01, 0x06, 2, 0x155D, false, 480, .nat 0 511⟩,  -- TAMPER_ENABLE (R404)
  ⟨0xA500, 1, 0x02, 0x02, 0x05, 1, 0x155D, false, 0, .nat 0 15⟩,  -- TAMPER_LOOP_LEVEL (R404)
  ⟨0xA500, 1, 0x03, 0x03, 0x03, 2, 0x155D, false, 60536, .any⟩,  -- TAMPER_TEMP_LOW (R404)
  ⟨0xA500, 1, 0x04, 0x04, 0x03, 2, 0x155D, false, 12000, .any⟩,  -- TAMPER_TEMP_HIGH (R404)
  ⟨0xA510, 1, 0x01, 0x01, 0x06, 2, 0x1555, false, 0, .nat 0 511⟩,  -- TAMPER_STATE (R404)
  ⟨0xA520, 1, 0x01, 0x08, 0x43, 32, 0x1555, false, 0, .any⟩,  -- TAMPER_RECORDS (R404)
  ⟨0xA530, 1, 0x01, 0x01, 0x43, 100, 0x0008, false, 0, .any⟩,  -- TAMPER_CLEAR (R404)
  ⟨0xA800, 1, 0x01, 0x01, 0x0A, 32, 0x1555, true, 0, .any⟩,  -- AUTH_CHALLENGE (R423)
  ⟨0xA800, 1, 0x02, 0x02, 0x43, 457, 0x2AAA, true, 0, .any⟩,  -- AUTH_OPEN (R423)
  ⟨0xA800, 1, 0x03, 0x03, 0x43, 197, 0x1555, true, 0, .any⟩,  -- AUTH_REPLY (R423)
  ⟨0xA800, 1, 0x04, 0x04, 0x05, 1, 0x2AAA, false, 0, .any⟩,  -- AUTH_CLOSE (R423)
  ⟨0xA800, 1, 0x05, 0x05, 0x44, 256, 0x0014, false, 0, .any⟩,  -- AUTH_SESSIONS (R423)
  ⟨0xA801, 1, 0x01, 0x01, 0x06, 2, 0x155D, false, 300, .nat 30 3600⟩,  -- AUTH_IDLE (R423)
  ⟨0xA801, 1, 0x02, 0x02, 0x05, 1, 0x155D, false, 0, .nat 0 7⟩,  -- ANON_READ (R423)
  ⟨0xA801, 1, 0x03, 0x03, 0x07, 4, 0x155D, false, 0, .any⟩,  -- TICKET_MIN_ID (R423)
  ⟨0xA802, 1, 0x01, 0x01, 0x0A, 97, 0x1555, false, 0, .any⟩,  -- DEVICE_ID_PUB (R423)
  ⟨0xA803, 1, 0x01, 0x01, 0x44, 192, 0x1555, false, 0, .any⟩,  -- OWNER_KEY (R423)
  ⟨0xA803, 1, 0x02, 0x02, 0x05, 1, 0x1555, false, 255, .any⟩,  -- OWNER_KEY_INDEX (R423)
  ⟨0xA803, 1, 0x03, 0x03, 0x43, 145, 0x2AAA, true, 0, .any⟩,  -- OWNER_TRANSFER (R423)
  ⟨0xA803, 1, 0x04, 0x04, 0x43, 196, 0x0008, false, 0, .any⟩,  -- OWNER_KEY_ROTATE (R423)
  ⟨0xA820, 1, 0x01, 0x01, 0x0A, 96, 0x0002, false, 0, .any⟩,  -- JTAG_UNLOCK (R423)
  ⟨0xA820, 1, 0x02, 0x02, 0x05, 1, 0x1555, false, 0, .nat 0 3⟩,  -- JTAG_STATE (R423)
  ⟨0xA830, 1, 0x01, 0x01, 0x07, 4, 0x1555, false, 0, .any⟩,  -- AUDIT_SEQ (R423)
  ⟨0xA830, 1, 0x02, 0x02, 0x0A, 16, 0x0014, false, 0, .any⟩   -- AUDIT_CHAIN (R423)
]

/-- Dictionary rows, part 26. -/
def objTable26 : List ObjDef := [
  ⟨0xA830, 1, 0x03, 0x03, 0x43, 116, 0x0014, false, 0, .any⟩,  -- AUDIT_HEAD (R423)
  ⟨0xB000, 1, 0x01, 0x01, 0x01, 1, 0x155D, false, 0, .nat 0 1⟩,  -- PAIR_ENABLE (R469)
  ⟨0xB000, 1, 0x02, 0x02, 0x06, 2, 0x155D, false, 20, .nat 8 200⟩,  -- HALTER_LEASE (R469)
  ⟨0xB000, 1, 0x03, 0x03, 0x06, 2, 0x155D, false, 5, .nat 2 50⟩,  -- HALTER_GUARD (R469)
  ⟨0xB000, 1, 0x04, 0x04, 0x06, 2, 0x155D, false, 65535, .any⟩,  -- PAIR_KEY_SLOT (R469)
  ⟨0xB000, 1, 0x05, 0x05, 0x07, 4, 0x155D, false, 0, .any⟩,  -- PAIR_PEER_SERIAL (R469)
  ⟨0xB000, 1, 0x06, 0x06, 0x1B, 8, 0x155D, false, 0, .any⟩,  -- PAIR_SHARED_ADDRS (R469)
  ⟨0xB000, 1, 0x07, 0x07, 0x01, 1, 0x155D, false, 1, .nat 0 1⟩,  -- PAIR_REVERTIVE (R469)
  ⟨0xB000, 1, 0x08, 0x08, 0x06, 2, 0x155D, false, 300, .nat 30 3600⟩,  -- RETURN_HOLD (R469)
  ⟨0xB000, 1, 0x09, 0x09, 0x01, 1, 0x157D, false, 0, .nat 0 1⟩,  -- PAIR_HOLD_STANDBY (R469)
  ⟨0xB000, 1, 0x0A, 0x0A, 0x07, 4, 0x155D, false, 255, .any⟩,  -- PAIR_YIELD_MASK (R469)
  ⟨0xB000, 1, 0x0B, 0x0B, 0x44, 32, 0x155D, false, 115792089237316195423570985008687907853269984665640564039457584007913129639935, .any⟩,  -- PAIR_KEY_SLOTS (R469)
  ⟨0xB001, 1, 0x01, 0x01, 0x06, 2, 0x155D, false, 24, .nat 0 720⟩,  -- SWAP_PERIOD (R469)
  ⟨0xB001, 1, 0x02, 0x02, 0x07, 4, 0x155D, false, 7200, .nat 0 86399⟩,  -- SWAP_WINDOW_START (R469)
  ⟨0xB001, 1, 0x03, 0x03, 0x07, 4, 0x155D, false, 3600, .nat 600 86400⟩,  -- SWAP_WINDOW_LEN (R469)
  ⟨0xB001, 1, 0x04, 0x04, 0x07, 4, 0x155D, false, 3600, .nat 300 86400⟩,  -- SWAP_DWELL (R469)
  ⟨0xB001, 1, 0x05, 0x05, 0x06, 2, 0x155D, false, 100, .nat 10 5000⟩,  -- HANDOFF_ALIGN (R469)
  ⟨0xB001, 1, 0x06, 0x06, 0x06, 2, 0x155D, false, 2000, .nat 1100 60000⟩,  -- SNAP_MAX_AGE (R469)
  ⟨0xB001, 1, 0x07, 0x07, 0x06, 2, 0x155D, false, 60, .nat 10 3600⟩,  -- SNAP_FULL_PERIOD (R469)
  ⟨0xB002, 1, 0x01, 0x01, 0x05, 1, 0x0028, false, 0, .oneOf [90,60]⟩,  -- PAIR_COMMAND (R469)
  ⟨0xB100, 1, 0x01, 0x01, 0x05, 1, 0x1555, false, 0, .any⟩,  -- PAIR_STATE (R469)
  ⟨0xB100, 1, 0x02, 0x02, 0x05, 1, 0x1555, false, 0, .any⟩,  -- PAIR_HALTER (R469)
  ⟨0xB100, 1, 0x03, 0x03, 0x15, 8, 0x1555, false, 0, .any⟩,  -- PAIR_THETA (R469)
  ⟨0xB100, 1, 0x04, 0x04, 0x07, 4, 0x1555, false, 0, .any⟩   -- PAIR_THETA_SIGMA (R469)
]

/-- Dictionary rows, part 27. -/
def objTable27 : List ObjDef := [
  ⟨0xB100, 1, 0x05, 0x05, 0x15, 8, 0x1555, false, 0, .any⟩,  -- PAIR_PEER_DELAY (R469)
  ⟨0xB100, 1, 0x06, 0x06, 0x05, 1, 0x1555, false, 255, .any⟩,  -- PAIR_OWN_CHOICE (R469)
  ⟨0xB100, 1, 0x07, 0x07, 0x07, 4, 0x1555, false, 0, .any⟩,  -- PAIR_SNAP_EPOCH (R469)
  ⟨0xB100, 1, 0x08, 0x08, 0x07, 4, 0x1555, false, 4294967295, .any⟩,  -- PAIR_SNAP_AGE (R469)
  ⟨0xB100, 1, 0x09, 0x09, 0x01, 1, 0x1555, false, 0, .nat 0 1⟩,  -- PAIR_CONFIG_MATCH (R469)
  ⟨0xB100, 1, 0x0A, 0x0A, 0x01, 1, 0x1555, false, 1, .nat 0 1⟩,  -- PAIR_FIT (R469)
  ⟨0xB100, 1, 0x0B, 0x0B, 0x07, 4, 0x1555, false, 0, .any⟩,  -- PAIR_DIAG_RESULT (R469)
  ⟨0xB100, 1, 0x0C, 0x0C, 0x1B, 8, 0x1555, false, 0, .any⟩,  -- PAIR_NEXT_SWAP (R469)
  ⟨0xB100, 1, 0x0D, 0x0D, 0x05, 1, 0x1555, false, 0, .nat 0 7⟩,  -- PAIR_LAST_CAUSE (R469)
  ⟨0xB101, 1, 0x01, 0x08, 0x07, 4, 0x1555, false, 0, .any⟩,  -- PAIR_COUNTERS (R469)
  ⟨0xB800, 1, 0x01, 0x01, 0x05, 1, 0x155D, false, 0, .nat 0 2⟩,  -- DOMAIN_ROLE (R483)
  ⟨0xB800, 1, 0x02, 0x02, 0x07, 4, 0x155D, false, 0, .any⟩,  -- DOMAIN_ID (R483)
  ⟨0xB800, 1, 0x03, 0x03, 0x06, 2, 0x155D, false, 65535, .any⟩,  -- DOMAIN_KEY_SLOT (R483)
  ⟨0xB800, 1, 0x04, 0x04, 0x43, 20, 0x155D, false, 0, .family⟩,  -- DOMAIN_MANAGER_ADDR (R483)
  ⟨0xB800, 1, 0x05, 0x05, 0x44, 8, 0x155D, false, 0, .any⟩,  -- DOMAIN_MANAGER_SERIALS (R483)
  ⟨0xB800, 1, 0x06, 0x06, 0x0A, 8, 0x155D, false, 0, .any⟩,  -- DOMAIN_MANAGER_ID (R483)
  ⟨0xB800, 1, 0x07, 0x07, 0x06, 2, 0x155D, false, 0, .nat 1 4095⟩,  -- WORKER_NUMBER (R483)
  ⟨0xB800, 1, 0x08, 0x08, 0x06, 2, 0x155D, false, 0, .nat 0 255⟩,  -- DOMAIN_POLICY_MASK (R483)
  ⟨0xB800, 1, 0x09, 0x09, 0x06, 2, 0x155D, false, 3000, .nat 2000 60000⟩,  -- DOMAIN_LOSS_TIME (R483)
  ⟨0xB800, 1, 0x0A, 0x0A, 0x06, 2, 0x155D, false, 200, .nat 10 1000⟩,  -- DOMAIN_JOIN_RATE (R483)
  ⟨0xB800, 1, 0x0B, 0x0B, 0x44, 32, 0x155D, false, 115792089237316195423570985008687907853269984665640564039457584007913129639935, .any⟩,  -- DOMAIN_KEY_SLOTS (R483)
  ⟨0xB800, 1, 0x0C, 0x0C, 0x07, 4, 0x155D, false, 0, .any⟩,  -- DOMAIN_PORTS (R483)
  ⟨0xB900, 1, 0x01, 0x01, 0x05, 1, 0x1555, false, 0, .nat 0 5⟩,  -- DOMAIN_STATE (R483)
  ⟨0xB900, 1, 0x02, 0x02, 0x07, 4, 0x1555, false, 0, .any⟩   -- DOMAIN_POLICY_EPOCH (R483)
]

/-- Dictionary rows, part 28. -/
def objTable28 : List ObjDef := [
  ⟨0xB900, 1, 0x03, 0x03, 0x06, 2, 0x1555, false, 0, .any⟩,  -- DOMAIN_WORKERS (R483)
  ⟨0xB901, 1, 0x01, 0x05, 0x07, 4, 0x1555, false, 0, .any⟩,  -- DOMAIN_COUNTERS (R483)
  ⟨0xBA00, 17, 0x01, 0xFF, 0x43, 28, 0x0014, false, 0, .any⟩,  -- DOMAIN_WORKER (R483)
  ⟨0xBB00, 64, 0x01, 0x01, 0x43, 20, 0x155D, false, 0, .any⟩,  -- DOMAIN_POLICY (R483)
  ⟨0xC000, 1, 0x01, 0x01, 0x05, 1, 0x1555, false, 0, .nat 0 3⟩,  -- FAULT_LEVEL (R497)
  ⟨0xC000, 1, 0x02, 0x02, 0x05, 1, 0x155D, false, 2, .nat 1 3⟩,  -- FAULT_N_LEVEL (R497)
  ⟨0xC000, 1, 0x03, 0x03, 0x06, 2, 0x155D, false, 100, .nat 10 10000⟩,  -- FAULT_HANDLE_MAX (R497)
  ⟨0xC000, 1, 0x04, 0x04, 0x05, 1, 0x155D, false, 3, .nat 1 10⟩,  -- FAULT_F3_LIMIT (R497)
  ⟨0xC001, 1, 0x01, 0x01, 0x06, 2, 0x1555, false, 0, .any⟩,  -- FAULT_HANDLING (R497)
  ⟨0xC001, 1, 0x02, 0x02, 0x05, 1, 0x1555, false, 0, .nat 0 16⟩,  -- FAULT_QUEUE (R497)
  ⟨0xC002, 1, 0x01, 0x01, 0x44, 64, 0x1555, false, 0, .any⟩,  -- FAULT_ACTIVE (R497)
  ⟨0xC003, 1, 0x01, 0x01, 0x06, 2, 0x00A8, false, 0, .any⟩,  -- FAULT_ACK (R497)
  ⟨0xC003, 1, 0x02, 0x02, 0x43, 100, 0x0008, false, 0, .low 0xFFF3 65536⟩,  -- F3_CLEAR (R497)
  ⟨0xC004, 1, 0x01, 0x04, 0x07, 4, 0x1555, false, 0, .any⟩,  -- FAULT_COUNTS (R497)
  ⟨0xC004, 1, 0x05, 0x05, 0x05, 1, 0x1555, false, 0, .any⟩,  -- FAULT_F3_RESETS (R497)
  ⟨0xC010, 1, 0x01, 0x01, 0x1B, 8, 0x155D, false, 0, .mult 4096⟩,  -- EVLOG_BASE (R497)
  ⟨0xC010, 1, 0x02, 0x02, 0x07, 4, 0x155D, false, 0, .pow2 1024 1048576⟩,  -- EVLOG_SIZE (R497)
  ⟨0xC010, 1, 0x03, 0x03, 0x01, 1, 0x155D, false, 0, .nat 0 1⟩,  -- EVLOG_AUDIT_HOLD (R497)
  ⟨0xC011, 1, 0x01, 0x01, 0x07, 4, 0x1555, false, 0, .any⟩,  -- EVLOG_PRODUCER (R497)
  ⟨0xC011, 1, 0x02, 0x02, 0x07, 4, 0x15D5, false, 0, .any⟩,  -- EVLOG_CONSUMER (R497)
  ⟨0xC011, 1, 0x03, 0x03, 0x07, 4, 0x1555, false, 0, .any⟩,  -- EVLOG_LOST (R497)
  ⟨0xC011, 1, 0x04, 0x04, 0x06, 2, 0x1555, false, 0, .any⟩,  -- EVLOG_STAGED (R497)
  ⟨0xC020, 1, 0x01, 0x10, 0x43, 128, 0x0055, false, 0, .any⟩,  -- EVLOG_READ (R497)
  ⟨0xC800, 1, 0x01, 0x01, 0x07, 4, 0x00FF, false, 0, .any⟩   -- CAL_SELECT (R517)
]

/-- Dictionary rows, part 29. -/
def objTable29 : List ObjDef := [
  ⟨0xC800, 1, 0x02, 0x02, 0x43, 13, 0x005D, false, 0, .any⟩,  -- CAL_VALUE (R517)
  ⟨0xC800, 1, 0x03, 0x03, 0x05, 1, 0x1555, false, 0, .nat 0 3⟩,  -- CAL_STATUS (R517)
  ⟨0xC800, 1, 0x04, 0x04, 0x06, 2, 0x1555, false, 0, .any⟩,  -- CAL_OWNER_COUNT (R517)
  ⟨0xC801, 1, 0x01, 0x01, 0x43, 1008, 0x0008, false, 0, .any⟩,  -- CAL_RELOAD_CHUNK (R517)
  ⟨0xC801, 1, 0x02, 0x02, 0x05, 1, 0x0008, false, 0, .nat 90 90⟩,  -- CAL_RELOAD_COMMIT (R517)
  ⟨0xD000, 1, 0x01, 0x01, 0x05, 1, 0x1555, false, 1, .any⟩,  -- STARTUP_STATE (R517)
  ⟨0xD000, 1, 0x02, 0x02, 0x44, 16, 0x1555, false, 340282366920938463463374607431768211455, .any⟩,  -- STARTUP_TIMES (R517)
  ⟨0xD000, 1, 0x03, 0x03, 0x06, 2, 0x155D, false, 1800, .nat 60 7200⟩,  -- STARTUP_WARM_MAX (R517)
  ⟨0xD000, 1, 0x04, 0x04, 0x05, 1, 0x1555, false, 0, .nat 0 63⟩,  -- BOOT_STATUS (R517)
  ⟨0xD010, 1, 0x01, 0x01, 0x05, 1, 0x00A8, false, 0, .nat 90 90⟩,  -- SYS_RESET (R39)
  ⟨0xD010, 1, 0x02, 0x02, 0x05, 1, 0x1555, false, 0, .nat 0 9⟩,  -- RESET_CAUSE (R517)
  ⟨0xD011, 1, 0x01, 0x01, 0x05, 1, 0x0028, false, 0, .nat 90 90⟩,  -- SLEEP_ENTER (R517)
  ⟨0xD020, 1, 0x01, 0x01, 0x05, 1, 0x0088, false, 0, .nat 90 90⟩,  -- FW_ERASE (R517)
  ⟨0xD020, 1, 0x02, 0x02, 0x43, 1008, 0x0088, false, 0, .any⟩,  -- FW_CHUNK (R517)
  ⟨0xD020, 1, 0x03, 0x03, 0x0A, 256, 0x0088, false, 0, .any⟩,  -- FW_COMMIT (R517)
  ⟨0xD020, 1, 0x04, 0x04, 0x05, 1, 0x1555, false, 0, .nat 0 6⟩,  -- FW_UPDATE_STATE (R517)
  ⟨0xD030, 1, 0x01, 0x01, 0x05, 1, 0x1555, false, 0, .nat 0 3⟩,  -- DRAM_STATUS (R517)
  ⟨0xD030, 1, 0x02, 0x02, 0x07, 4, 0x1555, false, 0, .any⟩,  -- DRAM_SIZE (R517)
  ⟨0xD100, 1, 0x01, 0x0F, 0x05, 1, 0x1555, false, 0, .any⟩,  -- CLOCK_GROUP_STATUS (R23)
  ⟨0xD101, 1, 0x01, 0x01, 0x01, 1, 0x157D, false, 1, .nat 0 1⟩,  -- GATE_ON_RELOCK (R28)
  ⟨0xD102, 1, 0x01, 0x01, 0x05, 1, 0x0028, false, 0, .nat 1 2⟩   -- PLL_RELOCK (R29)
]

/-- The dictionary (R425, R442). -/
def objTable : List ObjDef :=
  objTable1 ++
  objTable2 ++
  objTable3 ++
  objTable4 ++
  objTable5 ++
  objTable6 ++
  objTable7 ++
  objTable8 ++
  objTable9 ++
  objTable10 ++
  objTable11 ++
  objTable12 ++
  objTable13 ++
  objTable14 ++
  objTable15 ++
  objTable16 ++
  objTable17 ++
  objTable18 ++
  objTable19 ++
  objTable20 ++
  objTable21 ++
  objTable22 ++
  objTable23 ++
  objTable24 ++
  objTable25 ++
  objTable26 ++
  objTable27 ++
  objTable28 ++
  objTable29

end Sys2Proof.Machine
end

