-- ==== Sys2Proof/Machine/Yard.lean ====
section
/-!
DEFINITION. The yard and the shed: how a received frame is stamped, looked up, classified, admitted and queued, and how an
egress port picks, stamps, edits and sends (R269–R288), with the transparent clock's correction (R301, R302) and the
handling of PTP frames (R292).
-/
set_option Elab.async false
namespace Sys2Proof.Machine

/-! ## Lookup (R270, R271, R273, R292) -/

/-- A port's rate in Mbit/s. -/
def State.rateOf (s : State) (p : Nat) : Nat := portRate (s.quad (p / 4)).mode

/-- `p` is the first lane of a port. -/
def State.isPort (s : State) (p : Nat) : Bool := decide (p < 32) && s.portOf p == p

/-- The VID of a frame: its tag's, or PORT_PVID (R271). -/
def State.vidOf (s : State) (f : Frame) : Nat :=
  match f.tag with
  | some t => t.1
  | none => s.portPvid f.port

/-- The YARD_VLAN ranges that hold a VID and of which a port is a member (R271). -/
def State.vlanRanges (s : State) (vid p : Nat) : List Nat :=
  (List.range 64).filter (fun v =>
    let r := s.yardVlan v
    fld r 0 2 != 0 && decide (fld r 0 2 ≤ vid) && decide (vid ≤ fld r 2 2) && bit (fld r 4 4) p)

/-- A port is a member of a VLAN. -/
def State.vlanMember (s : State) (vid p : Nat) : Bool := !(s.vlanRanges vid p).isEmpty

/-- A copy leaves a port untagged (R271). -/
def State.vlanUntagged (s : State) (vid p : Nat) : Bool :=
  match s.vlanRanges vid p with
  | v :: _ => bit (fld (s.yardVlan v) 8 4) p
  | [] => false

/-- The HOST_ADDR entry that an address of a family and a VID match (R273). -/
def State.hostEntry (s : State) (vid family addr : Nat) : Option Nat :=
  (List.range 64).find? (fun h =>
    let r := s.hostAddr h
    !(s.standby && bit s.pairSharedAddrs h) && fld r 0 1 != 0 && fld r 0 1 == family && fld r 20 2 == vid &&
      fld r 4 (if family = 4 then 4 else 16) == addr)

/-- The HOST_ADDR entry that the destination address and VID of a frame match (R273). -/
def State.hostMatch (s : State) (vid : Nat) (f : Frame) : Option Nat := s.hostEntry vid f.ipv f.ipDst

/-- The messageType of a frame that is a PTP message, by its EtherType or UDP destination port (R274). -/
def framePtp (f : Frame) : Option Nat :=
  if f.etherType = 0x88F7 || (f.ipv != 0 && f.ipProto = 17 && (f.dport = 319 || f.dport = 320)) then some f.mtype else none

/-- A broadcast ARP frame (R273). -/
def arpFrame (f : Frame) : Bool := f.etherType == 0x0806 && f.dst == 0xFFFFFFFFFFFF

/-- The multicast addresses of ordinary PTP messages (R292). -/
def ptpGroup (f : Frame) : Bool :=
  f.dst == 0x000000191B01 || f.ipv == 4 && f.ipDst == 0x810100E0 ||
    f.ipv == 6 && f.ipDst % 256 == 0xFF && f.ipDst / 256 % 256 < 16 && f.ipDst / 65536 == 0x8101 * 2 ^ 96

/-- The multicast addresses of peer delay (R292). -/
def ptpPeerGroup (f : Frame) : Bool :=
  f.dst == 0x0E0000C28001 || f.ipv == 4 && f.ipDst == 0x6B0000E0 ||
    f.ipv == 6 && f.ipDst == 0x6B * 2 ^ 120 + 0x02FF

/-- PTP_TRANSPORT's code of a frame (R310). -/
def frameTransport (f : Frame) : Nat := if f.ipv = 4 then 1 else if f.ipv = 6 then 2 else 0

/-- An enabled instance has this domain and transport (R292). -/
def State.ptpInstance (s : State) (f : Frame) : Bool :=
  (List.range 4).any (fun k => s.ptpEnable k && s.ptpDomain k == f.domain && s.ptpTransport k == frameTransport f)

/-- The ingress port is an instance port for this message (R292). -/
def State.instancePort (s : State) (f : Frame) : Option Nat :=
  (List.range 4).find? (fun k =>
    s.ptpEnable k && bit (s.ptpPorts k) f.port && s.ptpDomain k == f.domain && s.ptpTransport k == frameTransport f)

/-- What becomes of a frame at the lookup. -/
inductive Fate where
  /-- Forwarded under R270. -/
  | forward
  /-- Terminated for a service: 1 PTP, 2 NTP, 3 Esxia, 4 engines. -/
  | terminate (service : Nat)
  /-- Dropped and counted in HOST_UNHANDLED. -/
  | unhandled
deriving DecidableEq, Repr

/-- Where a PTP frame goes (R292). -/
def State.ptpFate (s : State) (vid : Nat) (f : Frame) : Fate :=
  if (s.hostMatch vid f).isSome then
    if (s.instancePort f).isSome || s.ptpInstance f then .terminate 1 else .unhandled
  else if ptpGroup f then if (s.instancePort f).isSome then .terminate 1 else .forward
  else if ptpPeerGroup f then
    if (s.instancePort f).isSome || s.portTcEnable f.port then .terminate 1 else .unhandled
  else .forward

/-- Where a frame goes (R273, R292). -/
def State.fate (s : State) (vid : Nat) (f : Frame) : Fate :=
  if (framePtp f).isSome then s.ptpFate vid f
  else if (s.hostMatch vid f).isSome then
    if f.esxia then .terminate 3
    else if f.request then .terminate 4
    else if f.ipProto = 17 && f.dport = 123 then .terminate 2
    else .unhandled
  else .forward

/-- The source is learned, unless the FDB is full (R270). -/
def State.learn (s : State) (vid : Nat) (f : Frame) : State :=
  let rest := s.yard.fdb.filter (fun e => !(e.mac == f.src && e.vid == vid))
  if rest.length < 131072 then { s with yard := { s.yard with fdb := ⟨f.src, vid, f.port, s.tb.lc⟩ :: rest } } else s

/-- The static entry of a MAC and VID, as a port mask (R270). -/
def State.staticEntry (s : State) (mac vid : Nat) : Option Nat :=
  match (List.range 256).find? (fun e => fld (s.fdbStatic e) 6 2 != 0 && fld (s.fdbStatic e) 0 6 == mac &&
      fld (s.fdbStatic e) 6 2 == vid) with
  | some e => some (fld (s.fdbStatic e) 8 4)
  | none => none

/-- The learned entry of a unicast destination (R270): one older than YARD_MAC_AGE has aged out. -/
def State.learnedEntry (s : State) (vid : Nat) (f : Frame) : Option FdbEntry :=
  if bit f.dst 0 then none
  else s.yard.fdb.find? (fun e => e.mac == f.dst && e.vid == vid && decide (s.tb.lc < e.seen + secs s.yardMacAge))

/-- A multicast or flooded frame (R270, R282). -/
def State.spreads (s : State) (vid : Nat) (f : Frame) : Bool :=
  bit f.dst 0 || ((s.staticEntry f.dst vid).isNone && (s.learnedEntry vid f).isNone)

/-- The egress ports of a forwarded frame, ascending (R270): the static entry's, the learned one, or the members of its VLAN;
never the ingress port. -/
def State.egressPorts (s : State) (vid : Nat) (f : Frame) : List Nat :=
  let all := (List.range 32).filter (fun p => s.isPort p && p != f.port && s.vlanMember vid p)
  match s.staticEntry f.dst vid with
  | some m => all.filter (fun p => bit m p)
  | none =>
    match s.learnedEntry vid f with
    | some e => all.filter (fun p => p == e.port)
    | none => all

/-! ## Classes (R274, R275) -/

/-- Timing class of a received frame (R274). -/
def timingFrame (f : Frame) : Bool := (framePtp f).isSome || f.esmc

/-- A PTP event message (R274). -/
def eventFrame (f : Frame) : Bool := (framePtp f).any (fun t => decide (t < 4))

/-- The priority of a frame: its tag's PCP, 0 when untagged. -/
def framePcp (f : Frame) : Nat :=
  match f.tag with
  | some t => t.2
  | none => 0

/-- Egress queue of a copy (R275). -/
def State.queueOf (s : State) (p : Nat) (f : Frame) : Nat :=
  if timingFrame f then 7
  else
    let pcp := fld (s.portPcpMap p) (framePcp f) 1
    let q := match s.portQmapMode p with
      | 0 => pcp
      | 1 => if f.ipv = 0 then pcp else fld (s.portDscpMap p) f.dscp 1
      | _ => s.portDefQueue p
    if 7 ≤ q then 6 else q

/-! ## Admission (R276, R277) -/

/-- Cells of a length in bytes. -/
def cellsOf (len : Nat) : Nat := cdiv len 256

/-- Size of the shared pool (R276, R286). -/
def State.sharedPool (s : State) : Nat :=
  98304 - s.shedTimingReserve - s.shedHostReserve - ((List.range 256).map s.queueMin).sum -
    6144 * (16 - popcount 16 s.yard.banks)

/-- Shared cells not in use. -/
def State.sharedFree (s : State) : Nat := s.sharedPool - s.yard.sharedUsed

/-- The shared pool admits c cells to queue i: used + c ≤ 2^(QUEUE_ALPHA − 3) × (free − c). -/
def State.sharedOk (s : State) (i c : Nat) : Bool :=
  decide (c ≤ s.sharedFree) && decide (8 * ((s.queue i).sharedUsed + c) ≤ 2 ^ s.queueAlpha i * (s.sharedFree - c))

/-- The account that admits a copy to queue i (R277): none for REFUSE_TAIL. -/
def State.account (s : State) (i c : Nat) (timing mirror : Bool) : Option Nat :=
  if s.queueMax i < (s.queue i).depth + c then none
  else if mirror then if s.sharedOk i c then some 2 else none
  else if timing && decide (s.yard.timingUsed + c ≤ s.shedTimingReserve) then some 0
  else if (s.queue i).minUsed + c ≤ s.queueMin i then some 1
  else if s.sharedOk i c then some 2
  else none

/-- The long count at which a copy joins its queue (R280): at its admission, or with its tail when it is stored and forwarded. -/
def Copy.join (c : Copy) : Nat := if c.ct then c.at_ else c.tailAt

/-- A copy takes its place in a queue, behind those that join it no later (R272, R280). -/
def placeCopy (c : Copy) : List Copy → List Copy
  | [] => [c]
  | x :: l => if c.join < x.join then c :: x :: l else x :: placeCopy c l

/-- The copies of queue i that have joined it, in order (R280). -/
def State.joined (s : State) (i : Nat) : List Copy := (s.queue i).copies.filter (fun c => decide (c.join ≤ s.tb.lc))

/-- Cells that the admission of a frame asks for (R277): its own where it lies in its first cell, else those of YARD_MTU. -/
def State.askedCells (s : State) (len : Nat) : Nat := if len ≤ 256 then cellsOf len else max (cellsOf len) (cellsOf s.yardMtu)

/-- A copy is charged its cells in queue i (R276, R277): those of the shared pool once a frame. -/
def State.charge (s : State) (i : Nat) (c : Copy) : State :=
  let s := if c.account = 0 then { s with yard := { s.yard with timingUsed := s.yard.timingUsed + c.cells } }
    else if c.account = 2 && !s.sharedHeld c.id then
      { s with yard := { s.yard with sharedUsed := s.yard.sharedUsed + c.cells } }
    else s
  let s := s.onQueue i (fun q =>
    { q with copies := placeCopy c q.copies
             depth := q.depth + c.cells
             minUsed := if c.account = 1 then q.minUsed + c.cells else q.minUsed
             sharedUsed := if c.account = 2 then q.sharedUsed + c.cells else q.sharedUsed })
  (s.portLanes (i / 8)).foldl (fun s l => s.onLane l (fun x => { x with txSleep := false })) s

/-- A refusal for want of room (R277): a timing-class frame raises F1 at most once a second and port. -/
def State.refuseTail (s : State) (p i : Nat) (timing : Bool) : State :=
  (s.onQueue i (fun q => { q with tailDrops := bump q.tailDrops })).raiseRefused p timing

/-- A port is sending: a transmission lasts, a cut-through copy has begun, or a launch instant has come (R280, R319). -/
def State.portBusy (s : State) (p : Nat) : Bool :=
  decide (s.tb.lc < (s.yport p).busyUntil) || (List.range 8).any (fun q => (s.queue (8 * p + q)).copies.any (·.ct)) ||
    (match (s.yport p).launch with
     | some (a, b) => decide (a ≤ s.tb.lc) && decide (s.tb.lc < b)
     | none => false)

/-- The conditions of cut-through forwarding (R280). -/
def State.cutThrough (s : State) (f : Frame) (p i : Nat) : Bool :=
  s.portCutThrough p && decide (s.rateOf p ≤ s.rateOf f.port) && (s.joined i).isEmpty && !s.portBusy p && s.group 3 == 1

/-- A receive stamp is older than 1 ms, or STALE (R267, R283). -/
def State.staleRx (s : State) (rx status : Nat) : Bool := bit status 2 || decide (millis 1 < s.tb.lc - rx)

/-- Long count at which the tail of a frame that arrives now has been stored (R277, R280). -/
def State.tailOf (s : State) (f : Frame) : Nat := s.tb.lc + f.len * 8 * 1000 * nsUnits / max 1 (s.rateOf f.port)

/-- One copy of a forwarded frame is decided and queued (R277–R283). -/
def State.copyTo (s : State) (f : Frame) (id vid rx status p : Nat) (multi : Bool) : State :=
  let i := 8 * p + s.queueOf p f
  let timing := timingFrame f
  let event := eventFrame f
  if (s.yport p).fwd != 3 then (s.refuseDown p timing).partialDrop p multi
  else if event && (s.lane p).stampState != 2 then
    (s.onYPort p (fun y => { y with eventBlocked := bump y.eventBlocked }))
  else if event && s.staleRx rx status then
    s.onLane p (fun x => { x with staleDiscards := bump x.staleDiscards })
  else
    let mark := !timing && f.ipv != 0 && (f.ecn == 1 || f.ecn == 2) && s.queueEcnThresh i != 0 && decide (s.queueEcnThresh i ≤ (s.queue i).depth)
    let s := if mark then s.onQueue i (fun q => { q with ecnMarks := bump q.ecnMarks }) else s
    match s.account i (s.askedCells f.len) timing false with
    | none => (s.refuseTail p i timing).partialDrop p multi
    | some a =>
      let ct := s.cutThrough f p i
      if !ct && (!f.fcsOk || f.truncated) then s
      else s.charge i { id := id, frame := f, cells := s.askedCells f.len, need := cellsOf f.len, account := a, at_ := s.tb.lc, tailAt := s.tailOf f, multi := multi, timing := timing, event := event, rx := rx, rxStatus := status, tagged := !s.vlanUntagged vid p, vid := vid, ce := mark || f.ecn == 3, own := none, mirror := false, ct := ct, held := false }

/-! ## Mirroring (R284) -/

/-- The mirrored flow matches a frame; all 0 disables it. -/
def State.flowMatch (s : State) (m vid : Nat) (f : Frame) : Bool :=
  let r := s.mirrorFlow m
  r != 0 && (fld r 0 2 == 0 || fld r 0 2 == f.etherType) && (fld r 2 2 == 0 || fld r 2 2 == vid) &&
    (fld r 4 1 == 0 || fld r 4 1 == f.ipProto) && (fld r 6 2 == 0 || fld r 6 2 == f.dport)

/-- A mirror copy for session m, or its count (R284): of a received frame, whose tail comes at `tail`, or of a frame as sent. -/
def State.mirrorTo (s : State) (m vid rx status tail : Nat) (tagged ce : Bool) (own : Option OwnMsg) (f : Frame) : State :=
  if bit s.engs.gated 5 then
    { s with yard := { s.yard with mirrorSuspended := bumpAt m s.yard.mirrorSuspended } }
  else
    let p := s.mirrorDest m
    let i := 8 * p
    let len := if s.mirrorTrunc m = 0 then f.len else min f.len (s.mirrorTrunc m)
    let drop := { s with yard := { s.yard with mirrorDrops := bumpAt m s.yard.mirrorDrops } }
    if (s.yport p).fwd != 3 then drop.onYPort p (fun y => { y with downDrops := bump y.downDrops })
    else
      match s.account i (s.askedCells len) false true with
      | none => drop.refuseTail p i false
      | some a =>
        let id := s.yard.nextId
        ({ s with yard := { s.yard with nextId := id + 1 } } : State).charge i { id := id, frame := { f with len := len }, cells := s.askedCells len, need := cellsOf len, account := a, at_ := s.tb.lc, tailAt := tail, multi := false, timing := false, event := false, rx := rx, rxStatus := status, tagged := tagged, vid := vid, ce := ce, own := own, mirror := true, ct := false, held := false }

/-- The mirror sessions that a received frame meets (R284). -/
def State.mirrorRx (s : State) (vid rx status : Nat) (f : Frame) : State :=
  (List.range 4).foldl (fun s m =>
    if s.mirrorEnable m && (bit (s.mirrorSrcRx m) f.port || s.flowMatch m vid f) then
      s.mirrorTo m vid rx status (s.tailOf f) f.tag.isSome (f.ecn == 3) none f
    else s) s

/-- The mirror sessions that a sent frame meets (R284). -/
def State.mirrorTx (s : State) (p : Nat) (c : Copy) : State :=
  (List.range 4).foldl (fun s m =>
    if s.mirrorEnable m && bit (s.mirrorSrcTx m) p then s.mirrorTo m c.vid c.rx c.rxStatus s.tb.lc c.tagged c.ce c.own c.frame else s) s

/-! ## Terminated frames (R273, R276) -/

/-- A frame terminated for a service takes cells of the host account with its descriptor, or is dropped (R273, R276). -/
def State.terminate (s : State) (service : Nat) (host : Option Nat) (f : Frame) (rx status : Nat) : State :=
  let c := cellsOf f.len
  if s.yard.hostUsed + c ≤ s.shedHostReserve then
    { s with yard := { s.yard with hostUsed := s.yard.hostUsed + c
                                   terminated := s.yard.terminated ++ [⟨service, f.port, host, f, c, rx, status⟩] } }
  else { s with yard := { s.yard with hostDrops := bump s.yard.hostDrops } }

/-- A service takes the oldest terminated frame that it looks for, if one waits: its cells are free again. -/
def State.takeTerm (s : State) (hit : Term → Bool) : State × Option Term :=
  match s.yard.terminated.find? hit with
  | some t =>
    ({ s with yard := { s.yard with hostUsed := s.yard.hostUsed - t.cells, terminated := s.yard.terminated.erase t } }, some t)
  | none => (s, none)

/-- A PTP message of a type, which came in on port p. -/
def ptpTerm (p mtype : Nat) (t : Term) : Bool := t.service == 1 && t.port == p && t.frame.mtype == mtype

/-! ## The commands -/

/-- A frame that lies in a VLAN of its port is learned, mirrored, and terminated or forwarded (R270–R284). -/
def State.frameIn (s : State) (f : Frame) (vid rx status : Nat) : State :=
  let bad := !f.fcsOk || f.truncated
  let s := s.learn vid f
  let s := if bad then s else s.mirrorRx vid rx status f
  let id := s.yard.nextId
  let s := { s with yard := { s.yard with nextId := id + 1 } }
  match s.fate vid f with
  | .terminate k => if bad then s else s.terminate k (s.hostMatch vid f) f rx status
  | .unhandled => if bad then s else { s with yard := { s.yard with hostUnhandled := bump s.yard.hostUnhandled } }
  | .forward =>
    let ports := s.egressPorts vid f
    let multi := s.spreads vid f
    let s := ports.foldl (fun s p => s.copyTo f id vid rx status p multi) s
    if arpFrame f && !bad then s.terminate 4 (s.hostEntry vid 4 f.ipDst) f rx status else s

/-- A frame arrives (R255, R257, R267, R269–R284). On a port whose link is not up nothing arrives; while CORE is gated the frame
finds the lane's receive queue full (R27, R33; log entry 111); while a loop measurement runs, a calibration frame is stamped and any other
is dropped (R263). -/
def opIngress (f : Frame) (s : State) : State :=
  let p := f.port
  if !s.isPort p || !s.linkUp p then s
  else
    let s := s.onLane f.lane (fun x =>
      { x with fecCorr := bumpBy x.fecCorr f.fecCorr, fecUncorr := bumpBy x.fecUncorr f.fecUncorr })
    let b := s.stampBit f.lane f.mark
    if f.overflow || !s.coreRuns then s.onLane p (fun x => { x with rxDrop := bump x.rxDrop })
    else
      let s := if f.stampLost then s.onLane p (fun x => { x with stampsDropped := bump x.stampsDropped }) else s
      if (s.lane p).calStatus = 1 then
        match f.cal with
        | some n => s.takeCal p n f.lane f.tw b (f.stampLost || !f.fcsOk || f.truncated)
        | none => s.onLane p (fun x => { x with calDropped := bump x.calDropped })
      else
      let s := s.settleTails
      let rx := s.rxStamp f.lane f.tw b
      let st := s.rxStatus p f.lane (s.edgeTime f.lane f.tw b) f.len f.stampLost
      let status := if f.truncated then setBit st 0 false else st
      let s := if f.truncated then s.onYPort p (fun y => { y with rxTrunc := bump y.rxTrunc })
        else if !f.fcsOk then s.onYPort p (fun y => { y with fcsErr := bump y.fcsErr }) else s
      let blocked := (s.yport p).fwd != 3
      let s := if blocked && !f.esmc then s.onYPort p (fun y => { y with blockDrops := bump y.blockDrops }) else s
      if f.pause then s.onYPort p (fun y => { y with ctrlDrops := bump y.ctrlDrops })
      else if f.esmc then if !f.fcsOk || f.truncated then s else s.mirrorRx (s.vidOf f) rx status f
      else if blocked then s
      else if !s.vlanMember (s.vidOf f) p then s.onYPort p (fun y => { y with vlanDrops := bump y.vlanDrops })
      else s.frameIn f (s.vidOf f) rx status

/-- A response of NTP or NTS carries its request's receive stamp, as a forwarded frame carries its own (R315). -/
def Copy.carriesRx (c : Copy) : Bool :=
  match c.own with
  | none => true
  | some (.ntp _) => true
  | some _ => false

/-- Event frames that may not be sent leave the head of a queue (R267, R283). -/
def State.dropHeads (s : State) (p i : Nat) : Nat → State
  | 0 => s
  | n + 1 =>
    match s.joined i with
    | [] => s
    | c :: _ =>
      if !c.event then s
      else if (s.lane p).stampState != 2 then
        ((s.takeCopy i c).onYPort p (fun y => { y with eventBlocked := bump y.eventBlocked })).dropHeads p i n
      else if c.carriesRx && s.staleRx c.rx c.rxStatus then
        ((s.takeCopy i c).onLane p (fun x => { x with staleDiscards := bump x.staleDiscards })).dropHeads p i n
      else s

/-- The launch of the response at the head of queue 7, where one stands there that waits for its launch: the response, and its place
(R319). -/
def State.ntsHead (s : State) (p : Nat) : Option (Copy × NtpPending) :=
  match s.joined (8 * p + 7) with
  | c :: _ => match c.own with
    | some (.ntp w) => if w.nts then some (c, w) else none
    | _ => none
  | [] => none

/-- The copies of queue q of a port that may be sent (R279, R319): an NTS response at the head of queue 7 starts exactly at its launch
instant, and nothing behind it leaves before it does. -/
def State.sendable (s : State) (p q : Nat) : List Copy :=
  match (if q = 7 then s.ntsHead p else none) with
  | some (c, w) => if w.ready && w.launch.any (fun l => decide (l.1 ≤ s.tb.lc)) then [c] else []
  | none => s.joined (8 * p + q)

/-- Deficit-weighted round robin over queues 0 to 6 with QUEUE_SCHED 0x00 (R279): the queue at place `rr` sends while its
deficit covers its head; else the next queue's turn begins with its quantum. -/
def State.dwrr (s : State) (p : Nat) : Nat → Nat → State × Option Nat
  | 0, _ => (s, none)
  | n + 1, r =>
    let i := 8 * p + r
    let r' := (r + 1) % 7
    let j := 8 * p + r'
    let turn (s : State) : State :=
      let e := (s.joined j).isEmpty
      s.onQueue j (fun q => { q with deficit := if e then 0 else q.deficit + s.queueWeight j * 1024 })
    match (if s.queueSched i = 0 then s.joined i else []) with
    | c :: _ =>
      if c.frame.len ≤ (s.queue i).deficit then
        ((s.onQueue i (fun q => { q with deficit := q.deficit - c.frame.len })).onYPort p (fun y => { y with rr := r }), some r)
      else (turn s).dwrr p n r'
    | [] => (turn (s.onQueue i (fun q => { q with deficit := 0 }))).dwrr p n r'

/-- The queue that sends next (R279, R280): a cut-through copy that has begun, queue 7, the strict queues, then the round
robin. -/
def State.pick (s : State) (p : Nat) : State × Option Nat :=
  match (List.range 8).find? (fun q => (s.queue (8 * p + q)).copies.any (·.ct)) with
  | some q => (s, some q)
  | none =>
    match ([7, 6, 5, 4, 3, 2, 1, 0].find? (fun q =>
        (q == 7 || s.queueSched (8 * p + q) == 1) && !(s.sendable p q).isEmpty)) with
    | some q => (s, some q)
    | none =>
      let longest := maxL ((List.range 7).map (fun q => ((s.joined (8 * p + q)).head?.map (·.frame.len)).getD 0))
      s.dwrr p (7 * (longest / 1024 + 3)) (s.yport p).rr

/-- A copy is corrected by the transparent clock (R301). -/
def State.corrects (s : State) (p : Nat) (c : Copy) : Bool :=
  c.event && c.own.isNone && s.portTcEnable c.frame.port && s.portTcEnable p

/-- What the transparent clock adds (R301): the residence time, and the ingress port's link delay for a Sync under
peer-to-peer. -/
def State.tcCorrection (s : State) (c : Copy) (tx : Nat) : Int :=
  (tx : Int) - c.rx + (if s.ptpTcMode = 1 && framePtp c.frame == some 0 then (s.pport c.frame.port).peerDelay else 0)


/-- Time on the wire of a frame with preamble and gap, 2⁻¹⁶ ns. -/
def State.wireTime (s : State) (p len : Nat) : Nat := (len + 20) * 8 * 1000 * nsUnits / max 1 (s.rateOf p)

/-- A frame of `len` bytes would not end by the launch instant that is fixed on the port (R319). -/
def State.launchBars (s : State) (p len : Nat) : Bool :=
  match (s.yport p).launch with
  | some (a, b) => decide (s.tb.lc < b) && decide (a < s.tb.lc + s.wireTime p len)
  | none => false

/-! ## Frames of the part itself (R274–R277, R283) -/

/-- A frame that the part builds, before its addresses and headers are filled in (log entry 138). -/
def blankFrame (p len : Nat) : Frame :=
  { port := p, len := max 64 len, dst := 0, src := 0, tag := none, etherType := 0, ipv := 0, ipDst := 0, ipProto := 0, dscp := 0, ecn := 0, dport := 0, mtype := 0, domain := 0, esmc := false, pause := false, request := false, esxia := false, fcsOk := true, truncated := false, overflow := false, stampLost := false, fecCorr := 0, fecUncorr := 0, tw := 0, mark := 0, lane := p, correction := 0, udpSum := 0, cal := none, payload := 0 }

/-- A UDP datagram that the part builds: its IP version, destination port and payload length. -/
def udpFrame (p ipv dport len : Nat) : Frame :=
  { blankFrame p (len + 8 + (if ipv = 4 then 20 else 40) + 18) with etherType := if ipv = 4 then 0x0800 else 0x86DD, ipv := ipv, ipProto := 17, dport := dport }

/-- The messages of the part that are of the timing class (R274): all but the engines' answers. -/
def OwnMsg.timing (m : OwnMsg) : Bool :=
  match m with
  | .reply _ => false
  | _ => true

/-- The messages whose frames ask for a stamp (R255, R274): PTP event messages, and NTP and NTS time responses. -/
def OwnMsg.event (m : OwnMsg) : Bool :=
  match m with
  | .sync .. | .delayReq .. | .pdelayReq .. | .pdelayResp .. | .ntp _ => true
  | _ => false

/-- A frame that the part itself sends is admitted to its queue on port p: it needs PORT_FWD_STATE `least` or more, as an event frame a
valid stamp state and a receive stamp that is not stale, and room (R274–R277, R283). The flag tells whether it is queued. -/
def State.sendOwnFrom (s : State) (least p : Nat) (m : OwnMsg) (f : Frame) (rx status : Nat) : State × Bool :=
  if !s.coreRuns then (s, false)
  else
    let s := s.settleTails
    let i := 8 * p + (if m.timing then 7 else s.queueOf p f)
    let c : Copy := { id := s.yard.nextId, frame := f, cells := cellsOf f.len, need := cellsOf f.len, account := 0, at_ := s.tb.lc, tailAt := s.tb.lc, multi := false, timing := m.timing, event := m.event, rx := rx, rxStatus := status, tagged := false, vid := s.portPvid p, ce := false, own := some m, mirror := false, ct := false, held := false }
    if (s.yport p).fwd < least || !s.linkUp p then
      let s := s.refuseDown p m.timing
      (if m.event then s.stampUnsent p else s, false)
    else if m.event && (s.lane p).stampState != 2 then
      (s.onYPort p (fun y => { y with eventBlocked := bump y.eventBlocked }), false)
    else if m.event && c.carriesRx && s.staleRx rx status then
      (s.onLane p (fun x => { x with staleDiscards := bump x.staleDiscards }), false)
    else
      match s.account i (s.askedCells f.len) m.timing false with
      | none => (s.refuseTail p i m.timing, false)
      | some a =>
        (({ s with yard := { s.yard with nextId := s.yard.nextId + 1 } } : State).charge i { c with account := a }, true)

/-- A frame of a service needs a port that is FORWARDING (R283). -/
def State.sendOwn (s : State) (p : Nat) (m : OwnMsg) (f : Frame) : State × Bool := s.sendOwnFrom 3 p m f 0 0

/-- An ESMC PDU waits to be sent (R250), also while the port is BLOCKING (R283). -/
def opEsmcTx (l : Nat) (event : Bool) (s : State) : State :=
  let q := s.esmcQl l
  if s.engsRun && s.esmcTxEnable l && s.isPort l && !(event && q == (s.lane l).esmcQl) then
    (s.sendOwnFrom 2 l (.esmc q event) { blankFrame l 64 with etherType := 0x8809, esmc := true } 0 0).1
  else s

/-- A learned entry has aged beyond YARD_MAC_AGE (R270). -/
def opFdbAge (mac vid : Nat) (s : State) : State :=
  if !s.coreRuns then s
  else { s with yard := { s.yard with fdb := s.yard.fdb.filter (fun e =>
      !(e.mac == mac && e.vid == vid && decide (e.seen + secs s.yardMacAge ≤ s.tb.lc))) } }

/-- The engines answer the oldest request that waits for host address h, on its port, or drop it beyond 1,000 in the second; an ARP frame
that asks for no address of the part needs no answer (R273). -/
def opHostRequest (h : Nat) (s : State) : State :=
  if !s.engsRun then s
  else match s.takeTerm (fun t => t.service == 4 && (t.host == some h || t.host.isNone)) with
    | (s, none) => s
    | (s, some t) =>
      if t.host.isNone then s
      else
        let rate := if s.yard.hostSecond = s.tai then s.yard.hostRate else []
        let n := (rate.lookup h).getD 0
        if n < 1000 then
          let s := { s with yard := { s.yard with hostSecond := s.tai, hostRate := putKey h (n + 1) rate } }
          (s.sendOwn t.port (.reply h) { t.frame with fcsOk := true, lane := t.port }).1
        else { s with yard := { s.yard with hostSecond := s.tai, hostRate := rate, hostDrops := bump s.yard.hostDrops } }

/-- FRAME_INGRESS (R270). -/
def execFrameIngress (now : Nat) (f : Frame) (s : State) : Host.Outcome State Fault Refusal := .next (opIngress f (s.atTime now))

/-- FDB_AGE_OUT (R270). -/
def execFdbAgeOut (now mac vid : Nat) (s : State) : Host.Outcome State Fault Refusal := .next (opFdbAge mac vid (s.atTime now))

/-- ESMC_TX (R250). -/
def execEsmcTx (now l : Nat) (s : State) : Host.Outcome State Fault Refusal := .next (opEsmcTx l false (s.atTime now))

/-- ESMC_EVENT_TX (R250). -/
def execEsmcEventTx (now l : Nat) (s : State) : Host.Outcome State Fault Refusal := .next (opEsmcTx l true (s.atTime now))

/-- HOST_PROTOCOL_REQUEST (R273). -/
def execHostProtocolRequest (now h : Nat) (s : State) : Host.Outcome State Fault Refusal :=
  .next (opHostRequest h (s.atTime now))

end Sys2Proof.Machine
end

