-- ==== Sys2Proof/Machine/Egress.lean ====
section
/-!
DEFINITION. What leaves a port: the transmit stamp and what it fills into the messages of the part itself, the edits of a copy, and the
choice of the next frame (R255–R259, R263, R267, R278–R284, R300–R303, R314, R315).
-/
set_option Elab.async false
namespace Sys2Proof.Machine

/-! ## Messages of PTP (R289, R300, R307) -/

/-- CLOCK_IDENTITY with its first octet highest. -/
def State.clockId (s : State) : Nat := revBytes 8 s.clockIdentity

/-- portIdentity of a port: the clockIdentity and its first lane plus 1 (R291). -/
def State.portIdentity (s : State) (p : Nat) : Nat := s.clockId * 65536 + p + 1

/-- Bytes of a PTP message without its TLVs, as IEEE 1588-2019 lays it out (log entry 138). -/
def ptpBody (mtype : Nat) : Nat := if mtype = 0xB then 64 else if [2, 3, 9, 0xA].contains mtype then 54 else 44

/-- The frame of a PTP message of the part (R289, R291): its girth TLV is 18 bytes and 16 a hop (R223), its AUTHENTICATION TLV 26. -/
def State.ptpFrame (s : State) (p mtype body : Nat) (girth : Option GirthBlock) : Frame :=
  let k := s.instOfPort p
  let len := body + (match girth with | some b => 18 + 16 * b.hops.length | none => 0) + (if k.any (fun k => s.ptpAuthPolicy k != 0) then 26 else 0)
  let f := match (k.map s.ptpTransport).getD 0 with
    | 0 => { blankFrame p (len + 18) with etherType := 0x88F7 }
    | t => udpFrame p (if t = 1 then 4 else 6) (if mtype < 4 then 319 else 320) len
  { f with mtype := mtype, domain := (k.map s.ptpDomain).getD 0 }

/-- A message that is sent is noted, newest first, with the instance's minorVersionPTP and AUTHENTICATION TLV (R289, R297, R299, R300, R307).
A port of the transparent clock alone sends IEEE 1588-2019's minor version and no TLV. -/
def State.ptpSent (s : State) (p : Nat) (m : PtpSent) : State :=
  let k := s.instOfPort p
  let spp := (k.map s.ptpSaSend).getD 0
  s.onPPort p (fun x =>
    { x with sent := m :: x.sent.take 1, sentMinor := (k.map s.ptpMinorVersion).getD 1
             sentTlv := if k.any (fun k => s.ptpAuthPolicy k != 0) then some (spp, s.saKeyId spp) else none })

/-- A general PTP message is queued on a port (R275). -/
def State.queueGeneral (s : State) (p : Nat) (m : PtpSent) : State :=
  (s.sendOwn p (.general m) (s.ptpFrame p m.mtype (ptpBody m.mtype) m.girth)).1

/-- The block that a message carries in its girth TLV under bit b of GIRTH_TLV_MSGS (R223, R225). -/
def State.tlvGirth (s : State) (p b : Nat) : Option GirthBlock :=
  if bit s.girthTlvMsgs b then some (s.girthBlockOf (s.served [s.txGirth p]) 8) else none

/-- A time in whole ns and its fraction in 2⁻¹⁶ ns (R300); a time that cannot be extended is a free value. -/
def State.splitTime (s : State) (t : Option Int) : State × Int × Int :=
  match t with
  | some t => (s, t / 65536, t % 65536)
  | none =>
    let (v, s) := s.draw
    (s, (v : Int) / 65536, (v : Int) % 65536)

/-! ## Timestamps of NTP (R315) -/

/-- A counter of R329 counts up; `i` is its subindex. -/
def State.ntpCount (s : State) (i : Nat) : State := { s with ntp := { s.ntp with counters := bumpAt (i - 1) s.ntp.counters } }

/-- UTC offset in effect at a second, for times before the last leap too (R65, R315). -/
def State.ntpOffset (s : State) (tai : Int) : Int :=
  match s.tb.lastLeap with
  | some (t, o) => if tai < t then o else s.offsetInEffect tai
  | none => s.offsetInEffect tai

/-- A TAI second is the one an insertion presents as 23:59:60 (R66). -/
def State.insertedSecond (s : State) (tai : Int) : Bool :=
  s.leapPending == 1 && decide (tai = (s.leapTai : Int) - 1) ||
    (match s.tb.lastLeap with
     | some (t, o) => decide (tai = (t : Int) - 1) && decide (o < s.utcOffset)
     | none => false)

/-- A full time as an NTP timestamp of 64 bits (R315): the fraction rounded to nearest, a second that is inserted served as
23:59:59 once more. -/
def State.ntpTime (s : State) (t : Int) : Nat :=
  let tai := t / 65536000000000
  let frac := rdiv (t % 65536000000000 * 4294967296) 65536000000000
  let sec := tai - s.ntpOffset tai + 2208988800 - (b2n (s.insertedSecond tai) : Nat)
  ((sec * 4294967296 + frac) % 18446744073709551616).toNat

/-- The NTP timestamp of an extended stamp; a stamp that cannot be extended is a free value. -/
def State.ntpStamp (s : State) (ts status : Nat) : State × Nat :=
  match s.extend (ts % 281474976710656) status with
  | some t => (s, s.ntpTime t)
  | none =>
    let (v, s) := s.draw
    (s, v % 18446744073709551616)

/-- Root Dispersion of a girth, in units of 2⁻¹⁶ s rounded up (R314). -/
def rootDispersion (g : Nat) : Nat := if girthUnknown ≤ g then 0x00100000 else cdiv (g * 4096) 1000000000

/-- The girth served with a response: that at its build, grown to the transmit instant (R225, R315). -/
def State.ntpGirth (s : State) (p girth rate built tx : Nat) : Nat :=
  gsum [girth, cdiv (rate * (tx - built)) secUnits, s.txGirth p, 4]

/-! ## The moment of transmission -/

/-- A time response leaves with transmit stamp `tx` (R314, R315). -/
def State.ntpLeaves (s : State) (p tx status : Nat) (w : NtpPending) : State :=
  let (s, t) := s.ntpStamp tx status
  let g := s.ntpGirth p w.girth w.rate w.built tx
  ({ s with ntp := { s.ntp with lastSent := some { w.resp with transmit := t, rootDispersion := rootDispersion g, girth := w.resp.girth.map (fun b => withGirth b g) } } } : State).ntpCount 1

/-- A message of the part leaves port p (R250, R297, R299–R301, R304, R314, R440): with transmit stamp `tx`, the STAMP_STATUS `st` that is
delivered for it, and the one `ins` under which the stamp is inserted into the frame itself (R259, R267). -/
def State.ownSent (s : State) (p tx st ins : Nat) (m : OwnMsg) : State :=
  match m with
  | .general m => s.ptpSent p m
  | .sync _ seq two =>
    let (s, ns, frac) := s.splitTime (s.extend (tx % 281474976710656) (if two then st else ins))
    if two then (s.ptpSent p ⟨0, seq, 0, 0, 0, none⟩).queueGeneral p ⟨8, seq, ns, frac, 0, s.tlvGirth p 1⟩
    else s.ptpSent p ⟨0, seq, ns, frac, 0, s.tlvGirth p 1⟩
  | .delayReq _ seq =>
    let t := if stampGood st then s.extend (tx % 281474976710656) st else none
    (s.onPPort p (fun x => { x with dreq := t.map (fun t => (seq, t)) })).ptpSent p ⟨1, seq, 0, 0, 0, none⟩
  | .pdelayReq seq =>
    let t := if stampGood st then s.extend (tx % 281474976710656) st else none
    (s.onPPort p (fun x => { x with pdreq := t.map (fun t => (seq, t)), pdresp := none })).ptpSent p ⟨2, seq, 0, 0, 0, none⟩
  | .pdelayResp seq t2 c target two =>
    let (s, ns, frac) := s.splitTime (s.extend (tx % 281474976710656) (if two then st else ins))
    if two then (s.ptpSent p ⟨3, seq, t2 / 65536, -(t2 % 65536), target, none⟩).queueGeneral p ⟨0xA, seq, ns, frac + c, target, none⟩
    else s.ptpSent p ⟨3, seq, 0, ns * 65536 + frac - t2 + c, target, none⟩
  | .signal m => { s with ptp := { s.ptp with negotiated := m :: s.ptp.negotiated.take 7 } }
  | .ntp w => s.ntpLeaves p tx ins w
  | .kiss m => { s with ntp := { s.ntp with lastSent := some m } }
  | .esmc q e => s.onLane p (fun x => { x with esmcQl := q, esmcSent := bump x.esmcSent, esmcPdu := some (ssmOf q, essmOf q, e) })
  | .esxia src tag status v => { s with dict := { s.dict with esxiaSent := some (src, tag, status, v) } }
  | .domain .. => s
  | .reply _ => s

/-- One's complement sum of 16 bits with end-around carry. -/
def fold16 (x : Nat) : Nat := (x % 65536 + x / 65536) % 65536 + (x % 65536 + x / 65536) / 65536

/-- A UDP checksum after a field of 64 bits has changed, in the manner of RFC 1624 (R303): HC' = ~(~HC + ~m + m') word by word; over IPv4 a
checksum of 0 is left at 0, and no sum is sent as 0. -/
def udpUpdate (ipv old : Nat) (was now : Int) : Nat :=
  if was = now || ipv = 0 || (ipv = 4 && old = 0) then old
  else
    let a := unsigned 8 was
    let b := unsigned 8 now
    let sum := (List.range 4).foldl (fun x i => fold16 (x + (65535 - a / 65536 ^ i % 65536) + b / 65536 ^ i % 65536)) (65535 - old % 65536)
    if 65535 - sum = 0 then 65535 else 65535 - sum

/-- The launch instant that is fixed for a copy, with its transmit stamp (R319). -/
def Copy.launched (c : Copy) : Option (Nat × Nat) :=
  match c.own with
  | some (.ntp w) => w.launch
  | _ => none

/-- A copy is sent from queue i of port p (R255, R271, R278, R279, R281, R301–R303): its stamped bit lies on a lane at b in the word of
boundary tw; `lost`: the stamp finds the TB → CORE queue full (R33). -/
def State.send (s : State) (p i lane tw b : Nat) (lost : Bool) (c : Copy) : State :=
  let tx := (c.launched.map (·.2)).getD (s.txStamp lane tw b)
  let st := s.atDelivery tx (s.portStatus p lane tx false lost)
  let fix := s.corrects p c
  let bad := c.ct && (!c.frame.fcsOk || c.frame.truncated)
  let start := (c.launched.map (·.1)).getD s.tb.lc
  let s := (s.takeCopy i c).onQueue i (fun q => { q with txFrames := bump q.txFrames })
  let s := if c.event && lost then s.onLane p (fun x => { x with stampsDropped := bump x.stampsDropped }) else s
  let corr := c.frame.correction + (if fix then s.tcCorrection c tx else 0)
  let sum := udpUpdate c.frame.ipv c.frame.udpSum c.frame.correction corr
  let sent : Sent := { port := c.frame.port, payload := c.frame.payload, own := c.own, event := c.event, tx := tx, status := if c.event then st else 0, correction := corr, udpSum := sum, vid := if c.tagged then some c.vid else none, ce := c.ce, stomped := bad }
  let s := s.onYPort p (fun y =>
    { y with busyUntil := start + s.wireTime p c.frame.len
             ctSending := c.ct
             ctFrames := if c.ct then bump y.ctFrames else y.ctFrames
             txStomp := if bad then bump y.txStomp else y.txStomp
             launch := if c.launched.isSome then none else y.launch
             sent := some sent })
  let s := if fix then s.onPPort p (fun x =>
      { x with tcFrames := bump x.tcFrames
               tcDegraded := if bit c.rxStatus 1 then bump x.tcDegraded else x.tcDegraded }) else s
  let s := s.mirrorTx p { c with frame := { c.frame with correction := corr, udpSum := sum } }
  match (if c.mirror then none else c.own) with
  | some m => s.ownSent p tx st (s.portStatus p lane tx false false) m
  | none => s

/-- An idle egress port sends: a calibration frame that is due (R263), else the frame that it picks (R279, R283). A port that sends nothing
stays as it is. -/
def opEgress (p lane tw mark : Nat) (lost : Bool) (s : State) : State :=
  if !s.coreRuns || !s.isPort p || !s.linkUp p || (s.yport p).fwd < 2 || decide (s.tb.lc < (s.yport p).busyUntil) then s
  else
    let b := s.stampBit lane mark
    if s.calDue p && !s.launchBars p 64 then
      let s := if lost then s.onLane p (fun x => { x with stampsDropped := bump x.stampsDropped }) else s
      (s.sendCal p lane tw b lost).onYPort p (fun y => { y with busyUntil := s.tb.lc + s.wireTime p 64, ctSending := false, sent := none })
    else
      let s := (List.range 8).foldl (fun s q => s.dropHeads p (8 * p + q) (s.queue (8 * p + q)).copies.length) s.settleTails
      match s.pick p with
      | (_, none) => s
      | (t, some q) =>
        match ((t.queue (8 * p + q)).copies.find? (·.ct)).or (t.sendable p q).head? with
        | some c => if c.launched.isNone && s.launchBars p c.frame.len then s else t.send p (8 * p + q) lane tw b lost c
        | none => s

end Sys2Proof.Machine
end

