-- ==== Sys2Proof/Machine/Ptp.lean ====
section
/-!
DEFINITION. The PTP service: the served dataset, message authentication, the state decision, measurements, the stamps in
messages, unicast negotiation and its capacity (R289–R311).
-/
set_option Elab.async false
namespace Sys2Proof.Machine

/-! ## Identities and intervals (R291) -/

/-- An interval of log2 seconds, 2⁻¹⁶ ns. -/
def logTime (l : Int) : Nat := if 0 ≤ l then secUnits * 2 ^ l.toNat else secUnits / 2 ^ (-l).toNat

/-- A rate of log2 seconds in 1/16 messages/s. -/
def logRate (l : Int) : Nat := if l ≤ 4 then 2 ^ (4 - l).toNat else 0

/-- The ports of an enabled instance, ascending (R291). -/
def State.memberPorts (s : State) (k : Nat) : List Nat :=
  if s.ptpEnable k then (List.range 32).filter (fun p => s.isPort p && bit (s.ptpPorts k) p) else []

/-- The instance negotiates unicast (R290, R304): profile 0x03 always, profile 0x00 with PTP_UNICAST, the others never. -/
def State.negotiates (s : State) (k : Nat) : Bool := s.ptpProfile k == 3 || (s.ptpProfile k == 0 && s.ptpUnicast k)

/-- The instance's profile measures peer delay (R290). -/
def State.peerDelay (s : State) (k : Nat) : Bool := s.ptpProfile k == 1 || s.ptpProfile k == 4

/-- A port receives and sends PTP: it is neither FAULTY nor DISABLED (R293, R294). -/
def State.ptpActive (s : State) (p : Nat) : Bool := 4 ≤ (s.pport p).state

/-! ## The served dataset (R297) -/

/-- clockClass of a value of R173. -/
def State.classOf (s : State) (ql : Nat) : Nat :=
  if ql ≤ 2 then 6
  else if ql ≤ 7 then 150
  else if ql = 8 then (if s.girth.src = 2 || s.girth.src = 3 then 135 else 7)
  else 248

/-- The smallest clockAccuracy code of IEEE 1588-2019 Table 5 whose bound covers a girth (R297; log entry 41). Bounds in units
of 2.5 ps, from code 0x17. -/
def accuracyCode (g : Nat) : Nat :=
  let bounds := [4, 10, 40, 100, 400, 1000, 4000, 10000, 40000, 100000, 400000, 1000000, 4000000, 10000000, 40000000,
    100000000, 400000000, 1000000000, 4000000000, 10000000000, 40000000000, 100000000000]
  0x19 + bounds.countP (fun b => b < 25 * g)

/-- clockAccuracy with a girth served and a value of R173. -/
def accuracyOf (g ql : Nat) : Nat :=
  if girthUnknown ≤ g then 0xFE else if ql = 1 then accuracyCode g else max 0x21 (accuracyCode g)

/-- timeSource of SRC (R297). -/
def timeSource (src : Nat) : Nat :=
  match src with
  | 1 => 0x20
  | 2 => 0x40
  | 3 => 0x40
  | 4 => 0x39
  | 6 => 0x10
  | 8 => 0x60
  | 0 => 0xA0
  | _ => 0x90

/-- The girth of an Announce of instance k without a port of its own: the largest over its ports (R225; log entry 42). -/
def State.announceGirth (s : State) (k : Nat) : Nat := s.served [maxL ((s.memberPorts k).map s.txGirth)]

/-- The served dataset of an instance (R297). -/
def State.servedDs (s : State) (k : Nat) : PtpDs :=
  let ql := s.todQl s.girth.ql
  let cls := s.classOf ql
  let acc := accuracyOf (s.announceGirth k) ql
  let var := if cls = 6 then 0x4E5D else 0xFFFF
  let j := s.sel.current
  if 12 ≤ j && j ≤ 15 then
    let d := (s.inst (j - 12)).parentDs
    { d with cls := cls, acc := acc, steps := d.steps + 1 }
  else ⟨s.clockId, cls, acc, var, s.ptpPriority1 k, s.ptpPriority2 k, 0⟩

/-- What R297 would give if reference n, the selected one, were excluded from selection (R296): the reference that the selector would take
then, with the girth that its terms give, or holdover, which freezes the terms there are (R214). -/
def State.servedWithout (s : State) (k n : Nat) : PtpDs :=
  let s := s.onRef n (fun r => { r with state := .disabled })
  let t := s.selectRef.1
  let s := { s with sel := { s.sel with current := t } }
  if t == 0xFF then ({ s with servo := { s.servo with state := SState.holdover } } : State).servedDs k
  else
    let s := if s.classF t || s.girth.freeze != .none then s else s.composeRef t s.boundary
    ({ s with girth := { s.girth with now := s.girthSum } } : State).servedDs k

/-- The local dataset L_k: while PTk is selected, what R297 would give if it were excluded (R296). -/
def State.localDs (s : State) (k : Nat) : PtpDs :=
  if s.sel.current == 12 + k then s.servedWithout k (12 + k) else s.servedDs k

/-- The own dataset that a foreign clock is compared with: never one that was copied from that clock itself (R296). -/
def State.localDsFor (s : State) (k sender : Nat) : PtpDs :=
  let n := s.sel.current
  if 12 ≤ n && n ≤ 15 && (s.inst (n - 12)).parent == sender then s.servedWithout k n else s.localDs k

/-- The flags of an Announce (R297): leap61, leap59, currentUtcOffsetValid, ptpTimescale, timeTraceable,
frequencyTraceable. -/
def State.announceFlags (s : State) : Nat :=
  let near := decide ((s.leapTai : Int) - 43200 ≤ s.tai) && decide (s.tai < s.leapTai)
  ofBits [s.leapPending == 1 && near, s.leapPending == 2 && near, s.tb.utcValid, true,
          s.girth.timeValid && decide (s.todQl s.girth.ql ≤ 7), s.girth.timeValid]

/-! ## Capacity (R305, R306, R354) -/

/-- Load of a grant in 1/16 messages/s (R304). -/
def State.loadOf (s : State) (k mtype : Nat) (log : Int) : Nat :=
  let r := logRate log
  if mtype = 0xB then r else if mtype = 0 then (if s.ptpTwoStep k then 2 * r else r) else 2 * r

/-- Load of the TIME_TRANSMITTER ports of a multicast instance (R305). -/
def State.multicastLoad (s : State) (k : Nat) : Nat :=
  if s.negotiates k then 0
  else (s.memberPorts k).countP (fun p => (s.pport p).state == 6) *
    (logRate (s.ptpLogAnnounce k) + s.loadOf k 0 (s.ptpLogSync k))

/-- Committed load of an instance, 1/16 messages/s (R305). -/
def State.instLoad (s : State) (k : Nat) : Nat :=
  ((s.ptp.grants.filter (·.inst == k)).map (fun g => s.loadOf k g.mtype g.logPeriod)).sum +
    ((s.ptp.reservations.filter (·.inst == k)).map (·.load)).sum + s.multicastLoad k

/-- Committed load, 1/16 messages/s. -/
def State.loadAll (s : State) : Nat := ((List.range 4).map s.instLoad).sum

/-- Authenticated load, 1/16 messages/s. -/
def State.loadAuth (s : State) : Nat :=
  ((List.range 4).map (fun k => if s.ptpAuthPolicy k = 0 then 0 else s.instLoad k)).sum

/-- The level whose grants decide in millisecond m (R358). -/
def State.grantLevelAt (s : State) (m : Nat) : Nat := if m ≤ s.gov.prev.1 then s.gov.prev.2 else s.gov.level

/-- The level whose grants decide in this millisecond (R358). -/
def State.grantLevel (s : State) : Nat := s.grantLevelAt s.ms

/-- PTP_MSG_CAP_NOW in 1/16 messages/s in millisecond m: at level 7 the load in force at its entry (R306, R354). -/
def State.msgCapAt (s : State) (m : Nat) : Nat :=
  if s.grantLevelAt m = 7 then min (16 * s.ptpMsgCapacity) s.gov.entryAll else 16 * s.ptpMsgCapacity

/-- PTP_MSG_CAP_NOW in 1/16 messages/s. -/
def State.msgCap (s : State) : Nat := s.msgCapAt s.ms

/-- PTP_AUTH_CAP_NOW in 1/16 messages/s in millisecond m. -/
def State.authCapAt (s : State) (m : Nat) : Nat :=
  if s.grantLevelAt m = 7 then min (16 * s.ptpAuthCapacity) s.gov.entryAuth else 16 * s.ptpAuthCapacity

/-- PTP_AUTH_CAP_NOW in 1/16 messages/s. -/
def State.authCap (s : State) : Nat := s.authCapAt s.ms

/-- F1 0x0B01 follows the committed load (R306). -/
def State.ptpOver (s : State) : State := s.level (decide (s.msgCap < s.loadAll) || decide (s.authCap < s.loadAuth)) 0x0B01

/-! ## Authentication (R307–R309) -/

/-- A TLV passes R308 but for its sequenceId. -/
def State.tlvOk (s : State) (t : PtpTlv) : Bool :=
  let slot := if t.keyId = s.saKeyId t.spp then s.saVerifySlot t.spp else s.saNextVerifySlot t.spp
  t.last && !t.extra && decide (t.spp < 16) && s.saAlg t.spp != 0 &&
    (t.keyId == s.saKeyId t.spp || t.keyId == s.saNextKeyId t.spp) && (s.slot slot).sstate == 2 && t.icvOk

/-- A sequenceId is newer than the last one within the window (R308). -/
def seqNewer (last new : Nat) : Bool :=
  let d := (new + 65536 - last) % 65536
  decide (0 < d) && decide (d < 32768)

/-- A message is judged (R307, R308): none when it is dropped, else whether it is authenticated. -/
def State.ptpAuth (s : State) (k p mtype : Nat) (m : PtpMsg) : State × Option Bool :=
  if s.ptpAuthPolicy k = 0 then (s, some false)
  else match m.tlv with
    | none =>
      if s.ptpAuthPolicy k = 1 then (s, some false)
      else (s.onPPort p (fun x => { x with authMissing := bump x.authMissing }), none)
    | some t =>
      if !s.tlvOk t then (s.onPPort p (fun x => { x with authFail := bump x.authFail }), none)
      else
        let fresh := match s.ptp.seqs.find? (fun e => e.1 == m.sender && e.2.1 == mtype) with
          | some e => seqNewer e.2.2 m.seq
          | none => true
        if fresh then
          ({ s with ptp := { s.ptp with
              seqs := (m.sender, mtype, m.seq) :: s.ptp.seqs.filter (fun e => !(e.1 == m.sender && e.2.1 == mtype)) } }, some true)
        else (s.onPPort p (fun x => { x with replay := bump x.replay }), none)

/-- A girth claim of a message from the parent becomes PTk's claim (R216, R223). A TLV of another kind is skipped. -/
def State.ptpClaim (s : State) (k : Nat) (m : PtpMsg) (auth : Bool) : State :=
  match m.girth with
  | some t =>
    if girthTlvOk t && (s.inst k).parent == m.sender then s.putClaim (12 + k) ⟨t.block.girth, t.block.growth, t.block.hops, auth, s.tb.lc⟩ else s
  | none => s

/-- What a service has of a message that it has taken: it is authenticated, and its receive stamp, a long count, with STAMP_STATUS. -/
structure Taken where
  auth : Bool
  rx : Nat
  status : Nat
deriving DecidableEq, Repr

/-- A waiting frame belongs to an instance: its domain and transport match (R292). -/
def State.instTerm (s : State) (k : Nat) (t : Term) : Bool := t.frame.domain == s.ptpDomain k && frameTransport t.frame == s.ptpTransport k

/-- A message of instance k that waits on port p is taken with the descriptor of its frame (R54, R257): a FAULTY or DISABLED port discards
it, R307 judges it, and its girth claim is read (R223), that of an Announce with its dataset. While ENGS is gated it waits (R27). -/
def State.ptpIn (s : State) (k p mtype : Nat) (m : PtpMsg) : State × Option Taken :=
  match s.takeTerm (fun t => s.engsRun && ptpTerm p mtype t && s.instTerm k t) with
  | (s, none) => (s, none)
  | (s, some t) =>
    if s.ptpEnable k && s.ptpActive p then
      match s.ptpAuth k p mtype m with
      | (s, none) => (s, none)
      | (s, some a) => (if mtype = 0xB then s else s.ptpClaim k m a, some ⟨a, t.rx, s.atDelivery t.rx t.status⟩)
    else (s, none)

/-! ## The state decision (R296, R298) -/

/-- A dataset as the comparison sees it: with the sender and the receiving port, 0 for the own dataset. -/
structure Cand where
  ds : PtpDs
  sender : Nat
  port : Nat
deriving DecidableEq, Repr

/-- The first difference of two lists of numbers: 2 where the first is smaller, −2 where it is larger. -/
def lexOrder : List Nat → List Nat → Int
  | a :: t, b :: u => if a < b then 2 else if b < a then -2 else lexOrder t u
  | _, _ => 0

/-- Comparison of datasets with one grandmaster (IEEE 1588 clause 9.3.4, second part; log entry 43): 2 or 1 where the first is
better, or better by topology. -/
def State.topology (s : State) (a b : Cand) : Int :=
  if b.ds.steps + 1 < a.ds.steps then -2
  else if a.ds.steps + 1 < b.ds.steps then 2
  else if b.ds.steps < a.ds.steps then (if s.portIdentity a.port < a.sender then -2 else -1)
  else if a.ds.steps < b.ds.steps then (if s.portIdentity b.port < b.sender then 2 else 1)
  else if a.sender < b.sender then 1
  else if b.sender < a.sender then -1
  else if a.port < b.port then 1
  else if b.port < a.port then -1
  else 0

/-- Comparison of two datasets under the algorithm of a profile (R290, R296; log entry 43). -/
def State.compareDs (s : State) (k : Nat) (a b : Cand) : Int :=
  if s.ptpProfile k = 2 || s.ptpProfile k = 3 then
    let lp (c : Cand) : Nat := if c.sender = s.portIdentity c.port then 128 else s.ptpLocalPriority c.port
    let o := lexOrder [a.ds.cls, a.ds.acc, a.ds.var, a.ds.prio2, lp a] [b.ds.cls, b.ds.acc, b.ds.var, b.ds.prio2, lp b]
    if o != 0 then o
    else if a.ds.cls ≤ 127 || a.ds.gm == b.ds.gm then s.topology a b
    else lexOrder [a.ds.gm] [b.ds.gm]
  else if a.ds.gm == b.ds.gm then s.topology a b
  else lexOrder [a.ds.prio1, a.ds.cls, a.ds.acc, a.ds.var, a.ds.prio2, a.ds.gm]
    [b.ds.prio1, b.ds.cls, b.ds.acc, b.ds.var, b.ds.prio2, b.ds.gm]

/-- A foreign time transmitter is qualified: heard twice within four Announce intervals, fewer than 255 steps away
(log entry 43). -/
def State.qualified (s : State) (k : Nat) (f : Foreign) : Bool :=
  decide (f.ds.steps < 255) && decide (2 ≤ (f.heard.filter (fun t => s.tb.lc ≤ t + 4 * logTime (s.ptpLogAnnounce k))).length)

/-- The better of two candidates. -/
def State.betterDs (s : State) (k : Nat) (a : Option Cand) (b : Cand) : Option Cand :=
  match a with
  | none => some b
  | some x => if 0 ≤ s.compareDs k x b then some x else some b

/-- E_rbest of a port. -/
def State.portBest (s : State) (k p : Nat) : Option Cand :=
  ((s.pport p).foreign.filter (s.qualified k)).foldl (fun b f => s.betterDs k b ⟨f.ds, f.sender, p⟩) none

/-- A port never receives time (R296). -/
def State.neverReceives (s : State) (k p : Nat) : Bool := s.ptpRole k == 1 || s.ptpPortRole p == 1

/-- A port never transmits time (R296). -/
def State.neverSends (s : State) (k p : Nat) : Bool := s.ptpRole k == 2 || s.ptpPortRole p == 2

/-- E_best of an instance. -/
def State.instBest (s : State) (k : Nat) : Option Cand :=
  ((s.memberPorts k).filter (fun p => s.ptpActive p && !s.neverReceives k p)).foldl
    (fun b p => match s.portBest k p with | some c => s.betterDs k b c | none => b) none

/-- The own dataset as a candidate beside a foreign one. -/
def State.ownCand (s : State) (k : Nat) (c : Cand) : Cand := ⟨s.localDsFor k c.sender, s.portIdentity 0, 0⟩

/-- The state that the algorithm recommends for a port: 6, 7 or 8, none while it goes on listening (IEEE 1588 clause 9.3.3;
log entry 43). -/
def State.recommend (s : State) (k p : Nat) (best : Option Cand) : Option Nat :=
  let mine := s.portBest k p
  let send := if s.neverSends k p || s.standby then 7 else 6
  if (s.pport p).state = 4 && mine.isNone && !(s.pport p).timedOut then none
  else if (s.localDs k).cls ≤ 127 then
    match mine with
    | none => some send
    | some c => if 0 < s.compareDs k (s.ownCand k c) c then some send else some 7
  else match best with
    | none => some send
    | some b =>
      if 0 < s.compareDs k (s.ownCand k b) b then some send
      else if b.port == p && !s.neverReceives k p then some 8
      else match mine with
        | none => some send
        | some c => if s.compareDs k b c = 1 then some 7 else some send

/-- A port leaves the client state: PTk is ABSENT (R295). -/
def State.leaveClient (s : State) (k p : Nat) : State :=
  if (s.inst k).clientPort == p then
    (opLossOfSignal (12 + k) (s.onInst k (fun x => { x with clientPort := 0xFF }))).onPPort p (fun x => { x with validRun := 0 })
  else s

/-- A port takes the state recommended (R293, R295, R296): a transmitter passes through PRE_TIME_TRANSMITTER, a receiver
through UNCALIBRATED. -/
def State.takeState (s : State) (k p st : Nat) (newParent : Bool) : State :=
  let old := (s.pport p).state
  if st = 8 then
    if (old = 8 || old = 9) && !newParent then s
    else (s.leaveClient k p).onPPort p (fun x => { x with state := 8, validRun := 0, sync := none, dreq := none })
  else
    let st := if st = 6 && old != 6 then 5 else st
    (s.leaveClient k p).onPPort p (fun x => { x with state := st, validRun := 0 })

/-- The parent of instance k changes: PTk is ABSENT, and nothing measured against the old one stays (R298); its QL is that of the new
parent's Announce (R76). -/
def State.setParent (s : State) (k parent : Nat) (ds : PtpDs) : State :=
  if (s.inst k).parent == parent then s.onInst k (fun x => { x with parentDs := ds })
  else
    let s := s.onInst k (fun x => { x with parent := parent, parentDs := ds, delays := [], offsets := [], lastM := none })
    let s := s.noteClaim (12 + k)
    let s := { s with girth := { s.girth with claims := s.girth.claims.set (12 + k) none } }
    let s := opLossOfSignal (12 + k) s
    if parent = 0 then s else s.onRef (12 + k) (fun r => { r with qlRx := qlOfClass ds.cls ds.acc })

/-- The interval at which an instance asks for a messageType (R304). -/
def State.askLog (s : State) (k mtype : Nat) : Int :=
  if mtype = 0xB then s.ptpLogAnnounce k else if mtype = 0 then s.ptpLogSync k else s.ptpLogDelayReq k

/-- A negotiation message is queued on a port (R289, R304): its TLV is 10 bytes for a request, 12 for a grant and 6 for the others. -/
def State.negotiate (s : State) (k p addr kind mtype : Nat) (log : Int) (duration : Nat) : State :=
  let len := 44 + (if kind = 4 then 10 else if kind = 5 then 12 else 6)
  (s.sendOwn p (.signal ⟨k, addr, kind, mtype, log, duration, s.ptpMinorVersion k⟩) (s.ptpFrame p 0xC len none)).1

/-- The port by which a time receiver reaches an upstream server: one on which it hears it, else the first that is active (log entry 161). -/
def State.upstreamPort (s : State) (k addr : Nat) : Option Nat :=
  let l := (s.memberPorts k).filter s.ptpActive
  (l.find? (fun p => (s.pport p).foreign.any (·.addr == addr))).or l.head?

/-- A request for a grant is sent upstream, as soon as a port can carry it (R304). -/
def State.askGrant (s : State) (k addr mtype : Nat) : State :=
  if s.ptp.upstream.any (fun g => g.inst == k && g.addr == addr && g.mtype == mtype) then s
  else match s.upstreamPort k addr with
    | none => s
    | some p =>
      ({ s with ptp := { s.ptp with upstream := s.ptp.upstream ++ [⟨k, addr, mtype, 0, s.tb.lc⟩] } } : State).negotiate k p addr 4 mtype (s.askLog k mtype) s.ptpGrantMaxDuration

/-- The grants an instance holds or asks for as a time receiver (R304): Announce from every address of PTP_UC_MASTERS, Sync and
Delay_Resp from the parent alone. -/
def State.askUpstream (s : State) (k : Nat) (parentAddr : Option Nat) : State :=
  if !s.negotiates k || !s.ptpEnable k || s.ptpRole k == 1 then s
  else
    let s := { s with ptp := { s.ptp with
      upstream := s.ptp.upstream.filter (fun g => !(g.inst == k && g.mtype != 0xB && some g.addr != parentAddr)) } }
    let s := (List.range 4).foldl (fun s j =>
      let r := fld (s.ptpUcMasters k) (20 * j) 20
      if fld r 0 1 = 0 then s else s.askGrant k (fld r 4 16) 0xB) s
    match parentAddr with
    | some a => (s.askGrant k a 0).askGrant k a 9
    | none => s

/-- The address of a foreign time transmitter. -/
def State.foreignAddr (s : State) (c : Cand) : Option Nat :=
  ((s.pport c.port).foreign.find? (·.sender == c.sender)).map (·.addr)

/-- The served dataset of the instance's objects is taken again; a change of L_k waits for a decision (R296, R310). -/
def State.refreshServed (s : State) (k : Nat) : State :=
  let d := s.localDs k
  let served := s.servedDs k
  s.onInst k (fun x => { x with servedClass := served.cls, servedAcc := served.acc, local_ := d, due := x.due || d != x.local_ })

/-- At an anchor every enabled instance takes its served dataset again. -/
def State.ptpAnchor (s : State) : State :=
  (List.range 4).foldl (fun s k => if s.ptpEnable k then s.refreshServed k else s) s

/-- A port that joins an instance leaves INITIALIZING for LISTENING or FAULTY (R293, R294). -/
def State.initPort (s : State) (p : Nat) : State :=
  let bad := !s.linkUp p || (s.yport p).fwd != 3 || (s.lane p).stampState == 3
  s.onPPort p (fun x => { x with state := if bad then 2 else 4, listenAt := s.tb.lc, timedOut := false })

/-- The state decision of an instance (R296). -/
def State.decidePorts (s : State) (k : Nat) : State :=
  let best := s.instBest k
  let rec1 := (s.memberPorts k).map (fun p => (p, if s.ptpActive p then s.recommend k p best else none))
  let client := rec1.find? (fun r => r.2 == some 8)
  let parent := match client, best with
    | some _, some b => b.sender
    | _, _ => 0
  let ds := match client, best with
    | some _, some b => b.ds
    | _, _ => PtpDs.zero
  let addr := match client, best with
    | some _, some b => s.foreignAddr b
    | _, _ => none
  let fresh := (s.inst k).parent != parent
  let s := rec1.foldl (fun s r => match r.2 with | some st => s.takeState k r.1 st fresh | none => s) s
  (s.setParent k parent ds).askUpstream k addr

/-- The objects of R310 that wait for a state decision of instance k (R311): the instance's own, but for those of the exceptions; those
of its ports, and of ports of no instance; and those of no instance, which the first decision of any takes (log entry 139). -/
def State.ptpKey (s : State) (k key : Nat) : Bool :=
  let idx := key / 256
  let sub := key % 256
  (idx == 0x7010 + k && !([2, 3, 5, 6].contains sub)) || (idx == 0x7000 && (sub == 1 || sub == 4 || sub == 5)) ||
    (decide (0x7300 ≤ idx) && decide (idx < 0x7310)) ||
    (decide (0x7100 ≤ idx) && decide (idx < 0x7120) && (s.instOfPort (idx - 0x7100)).all (· == k))

/-- A write of an object of R310 waits, and makes a state decision due (R311; log entry 139). -/
def State.ptpWrite (s : State) (k idx sub v : Nat) : State := (s.putLate idx sub v).onInst k (fun x => { x with due := true })

/-- The ports and the state of an instance start anew: its ports pass INITIALIZING, ports that have left are DISABLED (R293, R311). -/
def State.ptpRestart (s : State) (k : Nat) : State :=
  let s := { s with ptp := { s.ptp with upstream := s.ptp.upstream.filter (·.inst != k) } }
  let s := s.onInst k (fun x => { PtpInst.init with servedClass := x.servedClass, servedAcc := x.servedAcc, due := true })
  let s := opLossOfSignal (12 + k) s
  let s := (List.range 32).foldl (fun s p =>
    match s.instOfPort p with
    | none => if (s.pport p).state = 3 then s else s.onPPort p (fun x => { x with state := 3, foreign := [], validRun := 0 })
    | some j => if j = k || (s.pport p).state = 3 then
        s.onPPort p (fun x => { x with state := 1, foreign := [], validRun := 0, sync := none, dreq := none, timedOut := false }) else s) s
  s.wakeTiming.ptpOver

/-- PTP_STATE_DECISION: at most once a millisecond, for every change since the run before, one of L_k included (R296); not while ENGS is
gated (R27). The writes that waited take effect; an
instance that they enable or disable starts anew (R311). -/
def opDecision (k : Nat) (s : State) : State :=
  let x := s.inst k
  let on := s.ptpEnable k
  let t := (s.takeLate (s.ptpKey k)).wakeTiming
  if !s.engsRun || 4 ≤ k || !(x.due || s.localDs k != x.local_) || (decide (0 < x.decidedAt) && decide (s.tb.lc < x.decidedAt + millis 1)) then s
  else if t.ptpEnable k != on then t.ptpRestart k
  else if !on then t.onInst k (fun x => { x with due := false, local_ := t.localDs k })
  else
    let s := t
    let ports := s.memberPorts k
    let s := s.onInst k (fun x => { x with due := false, decidedAt := s.tb.lc })
    let s := s.decidePorts k
    let s := ports.foldl (fun s p => if (s.pport p).state = 1 then s.initPort p else s) s
    let d := s.localDs k
    (s.onInst k (fun x => { x with local_ := d })).ptpOver

/-! ## Announce (R294, R296, R297) -/

/-- An Announce is received (R294, R296, R307). -/
def opAnnounceRx (k p : Nat) (m : PtpMsg) (ds : PtpDs) (s : State) : State :=
  match s.ptpIn k p 0xB m with
  | (s, none) => s
  | (s, some a) =>
    if ds.gm == s.clockId then s
    else
      let old := s.portBest k p
      let win := 4 * logTime (s.ptpLogAnnounce k)
      let heard := match (s.pport p).foreign.find? (·.sender == m.sender) with
        | some f => s.tb.lc :: (f.heard.filter (fun t => s.tb.lc ≤ t + win)).take 3
        | none => [s.tb.lc]
      let f : Foreign := ⟨m.sender, m.addr, ds, heard⟩
      let s := s.onPPort p (fun x => { x with foreign := f :: (x.foreign.filter (fun g => g.sender != m.sender)).take 31 })
      let best := s.portBest k p
      let s := s.onPPort p (fun x => { x with timedOut := x.timedOut && best.isNone })
      let s := if best != old then s.onInst k (fun x => { x with due := true }) else s
      if (s.inst k).parent == m.sender then
        let s := s.onInst k (fun x => { x with parentDs := ds })
        let s := (s.onRef (12 + k) (fun r => { r with qlRx := qlOfClass ds.cls ds.acc })).ptpClaim k m a.auth
        if s.sel.current == 12 + k then s.learnAnnounced m.utcOffset m.leap m.utcValid else s
      else s

/-- Foreign datasets not heard for PTP_ANNOUNCE_TIMEOUT Announce intervals are forgotten; a decision is due, and a port that has waited that
long in LISTENING without a qualified Announce waits no longer (R294, R296). -/
def opAnnounceTimeout (p : Nat) (s : State) : State :=
  match s.instOfPort p with
  | none => s
  | some k =>
    let limit := s.ptpAnnounceTimeout k * logTime (s.ptpLogAnnounce k)
    let keep := (s.pport p).foreign.filter (fun f => decide (s.tb.lc < f.heard.headD 0 + limit))
    let s := s.onPPort p (fun x => { x with foreign := keep })
    let best := s.portBest k p
    let s := s.onPPort p (fun x => { x with timedOut := best.isNone && (x.state != 4 || decide (x.listenAt + limit ≤ s.tb.lc)) })
    s.onInst k (fun x => { x with due := true })

/-- The grant that a message to an address is sent under; a multicast instance needs none (R304, R305). -/
def State.sendsTo (s : State) (k addr mtype : Nat) : Bool :=
  if addr = 0 then !s.negotiates k
  else s.ptp.grants.any (fun g => g.inst == k && g.addr == addr && g.mtype == mtype && decide (s.tb.lc < g.expiry))

/-- The next sequenceId of a message to an address, which is used up. -/
def State.nextSeq (s : State) (k p addr mtype : Nat) : State × Nat :=
  if addr = 0 then
    let x := s.pport p
    if mtype = 0xB then (s.onPPort p (fun x => { x with annSeq := (x.annSeq + 1) % 65536 }), x.annSeq)
    else (s.onPPort p (fun x => { x with syncSeq := (x.syncSeq + 1) % 65536 }), x.syncSeq)
  else
    let hit (g : Grant) : Bool := g.inst == k && g.addr == addr && g.mtype == mtype
    let seq := ((s.ptp.grants.find? hit).map (·.seq)).getD 0
    ({ s with ptp := { s.ptp with grants := s.ptp.grants.map (fun g => if hit g then { g with seq := (g.seq + 1) % 65536 } else g) } }, seq)

/-- An Announce is queued (R297); its girth is that of the port without an event stamp (R225). -/
def opAnnounceTx (k p addr : Nat) (s : State) : State :=
  if !s.ptpEnable k || (s.pport p).state != 6 || s.ptpRole k == 2 || !s.sendsTo k addr 0xB then s
  else
    let (s, seq) := s.nextSeq k p addr 0xB
    let d := s.servedDs k
    let acc := accuracyOf (s.served [s.txGirth p]) (s.todQl s.girth.ql)
    let body := lePack [(8, d.gm), (1, d.cls), (1, acc), (2, d.var), (1, d.prio1), (1, d.prio2), (2, d.steps),
      (1, timeSource s.hopSrc), (1, s.announceFlags), (2, (s.utcOffset % 65536).toNat)]
    s.queueGeneral p ⟨0xB, seq, body, 0, 0, s.tlvGirth p 0⟩

/-! ## Measurements (R295, R299) -/

/-- A measurement record for the taps of source 0x05. -/
def ptpRecord (t2 offset d : Int) : List Byte :=
  leBytes 32 (lePack [(12, time96 t2), (8, (offset % 18446744073709551616).toNat), (8, (d % 18446744073709551616).toNat), (4, 0)])

/-- D of an instance on a port: the mean of its samples, or the measured link delay (R299). -/
def State.pathDelay (s : State) (k p : Nat) : Option Int :=
  if s.peerDelay k then some (s.pport p).peerDelay
  else match (s.inst k).delays with
    | [] => none
    | l => some (rdiv l.sum l.length)

/-- The run of valid offsets is broken (R295). -/
def State.badOffset (s : State) (p : Nat) : State := s.onPPort p (fun x => { x with validRun := 0 })

/-- A Sync has given m (R299), with its receive stamp: the offset, the move to TIME_RECEIVER after eight in a row (R295), and the delivery to PTk. -/
def State.takeM (s : State) (k p : Nat) (m t2 : Int) (rx status : Nat) : State :=
  let s := s.onInst k (fun x => { x with lastM := some m })
  match s.pathDelay k p with
  | none => s.badOffset p
  | some d =>
    let off := m - d - s.portAsymCorr p
    let s := s.onInst k (fun x => { x with offset := off, meanDelay := d, offsets := newest 16 ((rx, off) :: x.offsets) })
    let s := s.onPPort p (fun x => { x with validRun := x.validRun + 1 })
    let s := s.tap 5 0 false (ptpRecord t2 off d)
    let s := if (s.pport p).state = 8 && 8 ≤ (s.pport p).validRun && (s.lane p).stampState == 2 then
        (s.onPPort p (fun x => { x with state := 9 })).onInst k (fun x => { x with clientPort := p }) else s
    if (s.pport p).state = 9 then (opMeasure (12 + k) (-off) status rx s).recalc else s

/-- A Sync is received (R299). -/
def opSyncRx (k p : Nat) (m : PtpMsg) (s : State) : State :=
  match s.ptpIn k p 0 m with
  | (s, none) => s
  | (s, some a) =>
    if ((s.pport p).state != 8 && (s.pport p).state != 9) || (s.inst k).parent != m.sender then s
    else
      match (if stampGood a.status then s.extend (a.rx % 281474976710656) a.status else none) with
      | none => s.badOffset p
      | some t2 =>
        if m.twoStep then s.onPPort p (fun x => { x with sync := some (m.seq, t2, m.correction, a.rx, a.status) })
        else s.takeM k p (t2 - m.origin - m.correction) t2 a.rx a.status

/-- A Follow_Up completes the Sync of its sequenceId (R299). -/
def opFollowUpRx (k p : Nat) (m : PtpMsg) (s : State) : State :=
  match s.ptpIn k p 8 m with
  | (s, none) => s
  | (s, some _) =>
    if ((s.pport p).state != 8 && (s.pport p).state != 9) || (s.inst k).parent != m.sender then s
    else
      match (s.pport p).sync with
      | none => s
      | some (seq, t2, c, rx, status) =>
        if seq != m.seq then s
        else
          let s := s.onPPort p (fun x => { x with sync := none })
          s.takeM k p (t2 - m.origin - (c + m.correction)) t2 rx status

/-- A time-receiver port queues a Delay_Req (R299), and no longer waits for the answer to the one before: nothing under peer delay. -/
def opDelayReqTx (k p : Nat) (s : State) : State :=
  if !s.ptpEnable k || s.peerDelay k || ((s.pport p).state != 8 && (s.pport p).state != 9) then s
  else
    let seq := (s.pport p).dreqSeq
    let s := s.onPPort p (fun x => { x with dreqSeq := (seq + 1) % 65536, dreq := none })
    (s.sendOwn p (.delayReq k seq) (s.ptpFrame p 1 (ptpBody 1) none)).1

/-- A Delay_Resp gives t4 and a path delay sample (R299). -/
def opDelayRespRx (k p : Nat) (m : PtpMsg) (s : State) : State :=
  match s.ptpIn k p 9 m with
  | (s, none) => s
  | (s, some _) =>
    if ((s.pport p).state != 8 && (s.pport p).state != 9) || (s.inst k).parent != m.sender || m.target != s.portIdentity p then s
    else
      match (s.pport p).dreq, (s.inst k).lastM with
      | some (seq, t3), some mm =>
        if seq != m.seq then s
        else
          let sample := rdiv (mm + (m.origin - t3 - m.correction)) 2
          let s := s.onPPort p (fun x => { x with dreq := none })
          let l := newest 16 (sample :: (s.inst k).delays)
          s.onInst k (fun x => { x with delays := l, meanDelay := rdiv l.sum l.length })
      | _, _ => s

/-! ## Serving (R300, R304, R306) -/

/-- A Sync is queued, one-step or with its Follow_Up (R300). -/
def opSyncTx (k p addr : Nat) (s : State) : State :=
  if !s.ptpEnable k || (s.pport p).state != 6 || !s.sendsTo k addr 0 then s
  else
    let (s, seq) := s.nextSeq k p addr 0
    let two := s.ptpTwoStep k
    (s.sendOwn p (.sync k seq two) (s.ptpFrame p 0 (ptpBody 0) (if two then none else s.tlvGirth p 1))).1

/-- A Delay_Req is dropped and counted. -/
def State.dropDreq (s : State) (p : Nat) : State := s.onPPort p (fun x => { x with dreqDrops := bump x.dreqDrops })

/-- Messages a millisecond that committed load leaves free to an instance (R306). -/
def State.freePerMs (s : State) (k : Nat) : Nat :=
  let all := s.msgCap - s.loadAll
  (if s.ptpAuthPolicy k = 0 then all else min all (s.authCap - s.loadAuth)) / 16000

/-- A Delay_Req is received (R304, R306): answered under a grant, or from the capacity left in this millisecond; any other is dropped and
counted. The correction of the answer is the request's less the stamp's fraction (log entry 44). -/
def opDelayReqRx (k p : Nat) (m : PtpMsg) (s : State) : State :=
  match s.ptpIn k p 1 m with
  | (s, none) => s
  | (s, some a) =>
    let used := if s.ptp.mcastMs.1 = s.ms then s.ptp.mcastMs.2 else 0
    let ok := if s.negotiates k then
        s.ptp.grants.any (fun g => g.inst == k && g.addr == m.addr && g.portId == m.sender && g.mtype == 9 && decide (s.tb.lc < g.expiry))
      else decide (used + 2 ≤ s.freePerMs k)
    match (if ok && (s.pport p).state == 6 && !s.peerDelay k then s.extend (a.rx % 281474976710656) a.status else none) with
    | none => s.dropDreq p
    | some t4 =>
      let s := if s.negotiates k then s else { s with ptp := { s.ptp with mcastMs := (s.ms, used + 2) } }
      s.queueGeneral p ⟨9, m.seq, t4 / 65536, m.correction - t4 % 65536, m.sender, none⟩

/-! ## Peer delay (R292, R300, R301) -/

/-- A port answers and measures peer delay (R292, R301). -/
def State.pdelayPort (s : State) (p : Nat) : Bool :=
  s.portTcEnable p || (match s.instOfPort p with | some k => s.peerDelay k | none => false)

/-- The transparent clock takes a peer-delay message as it is (R301). -/
def State.pdelayTc (s : State) (p mtype : Nat) : State × Option Taken :=
  match s.takeTerm (fun t => s.engsRun && ptpTerm p mtype t) with
  | (s, some t) => (s, if s.portTcEnable p && s.linkUp p then some ⟨false, t.rx, s.atDelivery t.rx t.status⟩ else none)
  | (s, none) => (s, none)

/-- A peer-delay message that waits on a port is taken: by the instance it belongs to, or by the transparent clock (R292, R301). -/
def State.pdelayIn (s : State) (p mtype : Nat) (m : PtpMsg) : State × Option Taken :=
  match s.instOfPort p, s.yard.terminated.find? (ptpTerm p mtype) with
  | some k, some t => if s.instTerm k t then s.ptpIn k p mtype m else s.pdelayTc p mtype
  | _, _ => s.pdelayTc p mtype
/-- A Pdelay_Req is answered by the port's responder (R292, R300). -/
def opPdelayReqRx (p : Nat) (m : PtpMsg) (s : State) : State :=
  match s.pdelayIn p 2 m with
  | (s, none) => s
  | (s, some a) =>
    match s.extend (a.rx % 281474976710656) a.status with
    | none => s
    | some t2 =>
      let two := match s.instOfPort p with | some k => s.ptpTwoStep k | none => false
      (s.sendOwn p (.pdelayResp m.seq t2 m.correction m.sender two) (s.ptpFrame p 3 (ptpBody 3) none)).1

/-- A Pdelay_Req is queued (R301), and the answer to the one before is no longer waited for. -/
def opPdelayReqTx (p : Nat) (s : State) : State :=
  if !s.pdelayPort p then s
  else
    let seq := (s.pport p).pdSeq
    let s := s.onPPort p (fun x => { x with pdSeq := (seq + 1) % 65536, pdreq := none, pdresp := none })
    (s.sendOwn p (.pdelayReq seq) (s.ptpFrame p 2 (ptpBody 2) none)).1

/-- A Pdelay_Resp, or the Follow_Up of a two-step one, gives the link delay (R301): half of t4 − t1 less the turnaround. -/
def opPdelayRespRx (p : Nat) (m : PtpMsg) (followUp : Bool) (s : State) : State :=
  match s.pdelayIn p (if followUp then 0xA else 3) m with
  | (s, none) => s
  | (s, some a) =>
    if !s.pdelayPort p || m.target != s.portIdentity p then s
    else match (s.pport p).pdreq with
      | none => s
      | some (seq, t1) =>
        if seq != m.seq then s
        else if followUp then
          match (s.pport p).pdresp with
          | some (q, t4, t2) =>
            if q != m.seq then s
            else s.onPPort p (fun x =>
              { x with peerDelay := rdiv (t4 - t1 - (m.origin + m.correction - t2)) 2, pdreq := none, pdresp := none })
          | none => s
        else
          match (if stampGood a.status then s.extend (a.rx % 281474976710656) a.status else none) with
          | none => s.onPPort p (fun x => { x with pdreq := none, pdresp := none })
          | some t4 =>
            if m.twoStep then s.onPPort p (fun x => { x with pdresp := some (m.seq, t4, m.origin - m.correction) })
            else s.onPPort p (fun x => { x with peerDelay := rdiv (t4 - t1 - m.correction) 2, pdreq := none })

/-- A message of another version, or a management message that the part would terminate, is taken and dropped (R289). -/
def opMgmtRx (version : Nat) (s : State) : State :=
  match s.takeTerm (fun t => s.engsRun && t.service == 1 && (version != 2 || t.frame.mtype == 0xD)) with
  | (s, none) => s
  | (s, some _) =>
    if version != 2 then { s with ptp := { s.ptp with v1Drops := bump s.ptp.v1Drops } }
    else { s with ptp := { s.ptp with mgmtDrops := bump s.ptp.mgmtDrops } }

/-! ## Unicast negotiation (R304, R305) -/

/-- The grant of a requester for a messageType. -/
def State.grantOf (s : State) (k addr portId mtype : Nat) : Option Grant :=
  s.ptp.grants.find? (fun g => g.inst == k && g.addr == addr && g.portId == portId && g.mtype == mtype)

/-- The Delay_Resp reservation of a requester. -/
def State.reservationOf (s : State) (k addr portId : Nat) : Nat :=
  ((s.ptp.reservations.find? (fun r => r.inst == k && r.addr == addr && r.portId == portId)).map (·.load)).getD 0

/-- The reservation of a client is released (R305). -/
def State.dropReservation (s : State) (k addr portId : Nat) : State :=
  { s with ptp := { s.ptp with
      reservations := s.ptp.reservations.filter (fun r => !(r.inst == k && r.addr == addr && r.portId == portId)) } }

/-- A grant is removed, and with a Sync grant the client's reservation (R304, R305). -/
def State.dropGrant (s : State) (k addr portId mtype : Nat) : State :=
  let s := { s with ptp := { s.ptp with
    grants := s.ptp.grants.filter (fun g => !(g.inst == k && g.addr == addr && g.portId == portId && g.mtype == mtype)) } }
  if mtype = 0 then s.dropReservation k addr portId else s

/-- logInterMessagePeriod is accepted for a messageType (R304). -/
def periodOk (mtype : Nat) (log : Int) : Bool :=
  if mtype = 0xB then decide (-3 ≤ log) && decide (log ≤ 3)
  else (mtype == 0 || mtype == 9) && decide (-7 ≤ log) && decide (log ≤ 4)

/-- The decision of R305 on a request with an accepted form, under the capacity of its millisecond. What a grant or reservation of the same
client already holds is replaced (R305; log entry 45). -/
def State.grantOk (s : State) (r : GrantReq) : Bool :=
  let old := s.grantOf r.inst r.addr r.portId r.mtype
  let held := (old.map (fun g => s.loadOf r.inst r.mtype g.logPeriod)).getD 0 +
    (if r.mtype = 0 || r.mtype = 9 then s.reservationOf r.inst r.addr r.portId else 0)
  let reserve := if r.mtype = 0 && !s.peerDelay r.inst && (s.grantOf r.inst r.addr r.portId 9).isNone then 2 * logRate r.log else 0
  let new := s.loadOf r.inst r.mtype r.log + reserve
  if s.standby then false
  else if old.isNone && (5 ≤ s.grantLevelAt r.ms || 65536 ≤ s.ptp.grants.length) then false
  else if s.msgCapAt r.ms + held < s.loadAll + new then false
  else s.ptpAuthPolicy r.inst == 0 || decide (s.loadAuth + new ≤ s.authCapAt r.ms + held)

/-- A request is decided at long count t and answered (R304, R305). -/
def State.decideGrant (s : State) (t : Nat) (r : GrantReq) : State :=
  if !s.ptpEnable r.inst || !s.negotiates r.inst then s
  else if periodOk r.mtype r.log && decide (10 ≤ r.duration) && s.grantOk r then
    let dur := min r.duration s.ptpGrantMaxDuration
    let seq := ((s.grantOf r.inst r.addr r.portId r.mtype).map (·.seq)).getD 0
    let s := s.dropGrant r.inst r.addr r.portId r.mtype
    let s := if r.mtype = 9 then s.dropReservation r.inst r.addr r.portId else s
    let s := { s with ptp := { s.ptp with
      grants := s.ptp.grants ++ [(⟨r.inst, r.addr, r.portId, r.mtype, r.log, t + secs dur, seq⟩ : Grant)]
      reservations := if r.mtype = 0 && !s.peerDelay r.inst && (s.grantOf r.inst r.addr r.portId 9).isNone then
          s.ptp.reservations ++ [(⟨r.inst, r.addr, r.portId, 2 * logRate r.log, t + secs 10⟩ : Reservation)]
        else s.ptp.reservations } }
    (s.negotiate r.inst r.port r.addr 5 r.mtype r.log dur).ptpOver
  else
    ({ s with ptp := { s.ptp with refused := bump s.ptp.refused } } : State).negotiate r.inst r.port r.addr 5 r.mtype r.log 0

/-- The requests for new grants of a millisecond that is over are decided, in order of arrival, at its end (R305; log entry 143). -/
def State.decideDue (s : State) : State :=
  let l := s.ptp.batch.filter (fun r => decide (r.ms < s.ms))
  let rest := s.ptp.batch.filter (fun r => !decide (r.ms < s.ms))
  l.foldl (fun s r => s.decideGrant (millis (r.ms + 1)) r) { s with ptp := { s.ptp with batch := rest } }

/-- The moment of a command of the service, with the requests decided that are due by then. -/
def State.ptpTime (s : State) (now : Nat) : State := (s.atTime now).decideDue

/-- A unicast grant is requested (R304, R305): a renewal is decided at once, and a request for a new grant when its millisecond is over. -/
def opRequestUnicast (k p addr portId mtype : Nat) (log : Int) (duration : Nat) (m : PtpMsg) (s : State) : State :=
  match s.ptpIn k p 0xC m with
  | (s, none) => s
  | (s, some _) =>
    let r : GrantReq := ⟨s.ms, k, p, addr, portId, mtype, log, duration⟩
    if !s.negotiates k then s
    else if (s.grantOf k addr portId mtype).isSome then s.decideGrant s.tb.lc r
    else { s with ptp := { s.ptp with batch := s.ptp.batch ++ [r] } }

/-- A cancel removes the grant at once and is acknowledged (R304). -/
def opCancelUnicast (k p addr portId mtype : Nat) (m : PtpMsg) (s : State) : State :=
  match s.ptpIn k p 0xC m with
  | (s, none) => s
  | (s, some _) =>
    if !s.negotiates k then s
    else ((s.dropGrant k addr portId mtype).negotiate k p addr 7 mtype 0 0).ptpOver

/-- A grant or a refusal arrives from an upstream server (R304). -/
def opGrantRx (k p addr mtype duration : Nat) (m : PtpMsg) (s : State) : State :=
  match s.ptpIn k p 0xC m with
  | (s, none) => s
  | (s, some _) =>
    { s with ptp := { s.ptp with upstream := s.ptp.upstream.map (fun g =>
        if g.inst == k && g.addr == addr && g.mtype == mtype then { g with duration := duration, since := s.tb.lc } else g) } }

/-- A grant that was not renewed ends (R304). -/
def opGrantExpire (k addr portId mtype : Nat) (s : State) : State :=
  match s.grantOf k addr portId mtype with
  | some g => if g.expiry ≤ s.tb.lc then (s.dropGrant k addr portId mtype).ptpOver else s
  | none => s

/-- Half of a client-side grant has run: its renewal is requested (R304). -/
def opGrantRenew (k addr mtype : Nat) (s : State) : State :=
  match s.ptp.upstream.find? (fun g => g.inst == k && g.addr == addr && g.mtype == mtype) with
  | some g =>
    if g.duration != 0 && decide (g.since + secs g.duration / 2 ≤ s.tb.lc) then
      match s.upstreamPort k addr with
      | some p => s.negotiate k p addr 4 mtype (s.askLog k mtype) s.ptpGrantMaxDuration
      | none => s
    else s
  | none => s

/-- A Delay_Resp reservation is released 10 s after its Sync grant (R305). -/
def opReservation (k addr portId : Nat) (s : State) : State :=
  ({ s with ptp := { s.ptp with reservations := s.ptp.reservations.filter (fun r =>
      !(r.inst == k && r.addr == addr && r.portId == portId && decide (r.until_ ≤ s.tb.lc))) } } : State).ptpOver

/-- The next key of an SA becomes its current one at SA_SWITCH_TAI (R309). -/
def opSaSwitch (i : Nat) (s : State) : State :=
  if 16 ≤ i || s.saSwitchTai i = 0 || s.tai < s.saSwitchTai i then s
  else
    let b := 0x7300 + i
    let s := s.takeLate (fun key => key / 256 == b)
    ((((s.put b 2 (s.saNextKeyId i)).put b 3 (s.saNextSendSlot i)).put b 4 (s.saNextVerifySlot i)).put b 8 0)

/-- The ports of an instance start anew, and every grant of it ends at once (R311). -/
def opPtpReconfig (k : Nat) (s : State) : State :=
  if 4 ≤ k then s
  else ({ s with ptp := { s.ptp with
    grants := s.ptp.grants.filter (·.inst != k)
    reservations := s.ptp.reservations.filter (·.inst != k) } } : State).ptpRestart k

/-- The qualification interval expires (R293). -/
def opQualification (p : Nat) (s : State) : State :=
  if (s.pport p).state = 5 then (s.onPPort p (fun x => { x with state := 6 })).ptpOver else s

/-! ## The commands -/

/-- EGRESS_SELECT (R279). -/
def execEgressSelect (now p lane tw mark : Nat) (lost : Bool) (s : State) : Host.Outcome State Fault Refusal :=
  .next (opEgress p lane tw mark lost (s.ptpTime now))

/-- PTP_ANNOUNCE_RX (R296). -/
def execPtpAnnounceRx (now k p : Nat) (m : PtpMsg) (ds : PtpDs) (s : State) : Host.Outcome State Fault Refusal :=
  .next (opAnnounceRx k p m ds (s.ptpTime now))

/-- ANNOUNCE_TIMEOUT (R294). -/
def execAnnounceTimeout (now p : Nat) (s : State) : Host.Outcome State Fault Refusal := .next (opAnnounceTimeout p (s.ptpTime now))

/-- PTP_STATE_DECISION (R296). -/
def execPtpStateDecision (now k : Nat) (s : State) : Host.Outcome State Fault Refusal := .next (opDecision k (s.ptpTime now))

/-- PTP_SYNC_RX (R299). -/
def execPtpSyncRx (now k p : Nat) (m : PtpMsg) (s : State) : Host.Outcome State Fault Refusal :=
  .next (opSyncRx k p m (s.ptpTime now))

/-- PTP_FOLLOW_UP_RX (R299). -/
def execPtpFollowUpRx (now k p : Nat) (m : PtpMsg) (s : State) : Host.Outcome State Fault Refusal :=
  .next (opFollowUpRx k p m (s.ptpTime now))

/-- PTP_DELAY_REQ_RX (R304). -/
def execPtpDelayReqRx (now k p : Nat) (m : PtpMsg) (s : State) : Host.Outcome State Fault Refusal :=
  .next (opDelayReqRx k p m (s.ptpTime now))

/-- PTP_DELAY_RESP_RX (R299). -/
def execPtpDelayRespRx (now k p : Nat) (m : PtpMsg) (s : State) : Host.Outcome State Fault Refusal :=
  .next (opDelayRespRx k p m (s.ptpTime now))

/-- PTP_PDELAY_REQ_RX (R300). -/
def execPtpPdelayReqRx (now p : Nat) (m : PtpMsg) (s : State) : Host.Outcome State Fault Refusal :=
  .next (opPdelayReqRx p m (s.ptpTime now))

/-- PTP_PDELAY_RESP_RX (R301). -/
def execPtpPdelayRespRx (now p : Nat) (m : PtpMsg) (followUp : Bool) (s : State) : Host.Outcome State Fault Refusal :=
  .next (opPdelayRespRx p m followUp (s.ptpTime now))

/-- PTP_MGMT_RX (R289). -/
def execPtpMgmtRx (version : Nat) (s : State) : Host.Outcome State Fault Refusal := .next (opMgmtRx version s)

/-- PTP_SYNC_TX (R300). -/
def execPtpSyncTx (now k p addr : Nat) (s : State) : Host.Outcome State Fault Refusal := .next (opSyncTx k p addr (s.ptpTime now))

/-- PTP_ANNOUNCE_TX (R297). -/
def execPtpAnnounceTx (now k p addr : Nat) (s : State) : Host.Outcome State Fault Refusal :=
  .next (opAnnounceTx k p addr (s.ptpTime now))

/-- PTP_DELAY_REQ_TX (R299). -/
def execPtpDelayReqTx (now k p : Nat) (s : State) : Host.Outcome State Fault Refusal := .next (opDelayReqTx k p (s.ptpTime now))

/-- REQUEST_UNICAST_TRANSMISSION (R305). -/
def execRequestUnicastTransmission (now k p addr portId mtype : Nat) (logPeriod : Int) (duration : Nat) (m : PtpMsg)
    (s : State) : Host.Outcome State Fault Refusal :=
  .next (opRequestUnicast k p addr portId mtype logPeriod duration m (s.ptpTime now))

/-- CANCEL_UNICAST_TRANSMISSION (R304). -/
def execCancelUnicastTransmission (now k p addr portId mtype : Nat) (m : PtpMsg) (s : State) :
    Host.Outcome State Fault Refusal :=
  .next (opCancelUnicast k p addr portId mtype m (s.ptpTime now))

/-- GRANT_UNICAST_TRANSMISSION_RX (R304). -/
def execGrantUnicastTransmissionRx (now k p addr mtype duration : Nat) (m : PtpMsg) (s : State) :
    Host.Outcome State Fault Refusal :=
  .next (opGrantRx k p addr mtype duration m (s.ptpTime now))

/-- GRANT_EXPIRE (R304). -/
def execGrantExpire (now k addr portId mtype : Nat) (s : State) : Host.Outcome State Fault Refusal :=
  .next (opGrantExpire k addr portId mtype (s.ptpTime now))

/-- GRANT_RENEW_TX (R304). -/
def execGrantRenewTx (now k addr mtype : Nat) (s : State) : Host.Outcome State Fault Refusal :=
  .next (opGrantRenew k addr mtype (s.ptpTime now))

/-- DELAY_RESP_RESERVATION_RELEASE (R305). -/
def execDelayRespReservationRelease (now k addr portId : Nat) (s : State) : Host.Outcome State Fault Refusal :=
  .next (opReservation k addr portId (s.ptpTime now))

/-- SA_KEY_SWITCH (R309). -/
def execSaKeySwitch (now i : Nat) (s : State) : Host.Outcome State Fault Refusal := .next (opSaSwitch i (s.ptpTime now))

/-- PTP_INSTANCE_RECONFIG (R311). -/
def execPtpInstanceReconfig (now k : Nat) (s : State) : Host.Outcome State Fault Refusal := .next (opPtpReconfig k (s.ptpTime now))

/-- PTP_PDELAY_REQ_TX (R301). -/
def execPtpPdelayReqTx (now p : Nat) (s : State) : Host.Outcome State Fault Refusal := .next (opPdelayReqTx p (s.ptpTime now))

/-- PTP_QUALIFICATION_TIMEOUT (R293). -/
def execPtpQualificationTimeout (now p : Nat) (s : State) : Host.Outcome State Fault Refusal :=
  .next (opQualification p (s.ptpTime now))

end Sys2Proof.Machine
end

