-- ==== Sys2Proof/Machine/Ntp.lean ====
section
/-!
DEFINITION. NTP and NTS: the fates of a request, the response and its timestamps, cookies and launches, admission by source
prefix, capacity and the mint ring (R312–R331). Counters are named by their subindex in NTP_COUNTERS (R329).
-/
set_option Elab.async false
namespace Sys2Proof.Machine

/-- A counter of R330 counts up. -/
def State.ntpGirthCount (s : State) (i : Nat) : State :=
  { s with ntp := { s.ntp with girthCounters := bumpAt (i - 1) s.ntp.girthCounters } }

/-! ## Capacity (R326, R354, R355) -/

/-- The W2 share in %, by level (R354). -/
def State.w2Share (s : State) (level : Nat) : Nat :=
  if level ≤ 4 then 100 else if level = 5 then s.govW2Reduced else if level = 6 then s.govW2Min else 0

/-- PTP_LOAD_AUTH in messages/s, rounded up. -/
def State.loadAuthMsgs (s : State) : Nat := cdiv s.loadAuth 16

/-- NTS_CAP_NOW (R326). -/
def State.ntsCapNow (s : State) : Nat :=
  min (min s.ntsCapacity (1250000 * s.gov.unparked - s.loadAuthMsgs)) (s.ntsCapacity * s.w2Share s.grantLevel / 100)

/-- NTP_CAP_NOW (R326). -/
def State.ntpCapNow (s : State) : Nat := s.ntpCapacity * s.w2Share s.grantLevel / 100

/-- The counts of the current millisecond. -/
def State.ntpMs (s : State) : State :=
  if s.ntp.ms = s.ms then s else { s with ntp := { s.ntp with ms := s.ms, requests := 0, operations := 0 } }

/-- The NTS fields of a request: NTS is served over NTPv4 only (R312). -/
def ntsOf (r : NtpReq) : Option NtsFields := if r.version = 4 then r.nts else none

/-- Operations that a request is charged (R326). -/
def ntpOps (r : NtpReq) : Nat :=
  match ntsOf r with
  | some f => 1 + f.placeholders.length
  | none => 0

/-- A request counts against its millisecond's capacity, or the capacity is used up (R313 row 8, R326). -/
def State.ntpCharge (s : State) (r : NtpReq) : State × Bool :=
  let s := s.ntpMs
  let ops := s.ntp.operations + ntpOps r
  if s.ntp.requests + 1 ≤ s.ntpCapNow / 1000 && ((ntsOf r).isNone || decide (ops ≤ s.ntsCapNow / 1000)) then
    ({ s with ntp := { s.ntp with requests := s.ntp.requests + 1, operations := ops } }, true)
  else (s, false)

/-! ## Admission buckets (R324, R325) -/

/-- The bucket of a source address. -/
def State.bucketIndex (s : State) (family src : Nat) : Nat :=
  let prefix_ := if family = 4 then src / 2 ^ (32 - s.ntpPrefix4) else src / 2 ^ (128 - s.ntpPrefix6)
  Config.sipHash s.ntp.hashEpoch family prefix_ % 1048576

/-- The T of a bucket, without its wrap: long count in units of 2²¹ ns. -/
def State.bucketTick (s : State) : Nat := s.tb.lc / (2097152 * nsUnits)

/-- A bucket refilled: whole units of 1/16 token that have accrued since T (log entry 46). -/
def State.refill (s : State) (b : Bucket) : Bucket :=
  let add := s.ntpBucketRate * (s.bucketTick - b.at_) * 2097152 / 1000000000
  if add = 0 then b
  else
    let t := min (16 * s.ntpBucketDepth) (b.tokens + add)
    { b with tokens := t, at_ := s.bucketTick, kissed := b.kissed && decide (t < 16) }

/-- A bucket is full with K at 0, and needs no entry. -/
def State.bucketFull (s : State) (b : Bucket) : Bool := !b.kissed && decide (16 * s.ntpBucketDepth ≤ b.tokens)

/-- The bucket at an index. -/
def State.bucket (s : State) (i : Nat) : Bucket :=
  (s.ntp.buckets.find? (·.index == i)).getD ⟨i, 16 * s.ntpBucketDepth, false, s.bucketTick⟩

/-- A bucket written back. -/
def State.setBucket (s : State) (b : Bucket) : State :=
  let l := s.ntp.buckets.filter (·.index != b.index)
  let l := if s.bucketFull b then l else l.filter (·.index < b.index) ++ [b] ++ l.filter (fun x => b.index < x.index)
  { s with ntp := { s.ntp with buckets := l } }

/-- A request takes a whole token of its bucket, or is refused (R324). -/
def State.takeToken (s : State) (r : NtpReq) : State × Bool :=
  let b := s.refill (s.bucket (s.bucketIndex r.family r.src))
  if 16 ≤ b.tokens then (s.setBucket { b with tokens := b.tokens - 16 }, true) else (s.setBucket b, false)

/-- A kiss may still be sent in this second, and is counted (R325). -/
def State.takeKiss (s : State) : State × Bool :=
  let n := if s.ntp.kissSecond = s.tai then s.ntp.kisses else 0
  if n < s.ntpKissRate then ({ s with ntp := { s.ntp with kissSecond := s.tai, kisses := n + 1 } }, true)
  else (s, false)

/-- The sweep refills every bucket (R324). -/
def opBucketSweep (s : State) : State :=
  { s with ntp := { s.ntp with buckets := (s.ntp.buckets.map s.refill).filter (fun b => !s.bucketFull b) } }

/-- The hash key is drawn again and every bucket is full (R324). -/
def opHashRekey (s : State) : State := { s with ntp := { s.ntp with buckets := [], hashEpoch := s.ntp.hashEpoch + 1 } }

/-! ## Responses (R314, R321, R323, R325) -/

/-- LI (R314). -/
def State.ntpLi (s : State) : Nat :=
  let near := decide ((s.leapTai : Int) - 86400 ≤ s.tai) && decide (s.tai < s.leapTai)
  if !s.girth.timeValid || !s.tb.utcValid then 3
  else if s.leapPending = 1 && near then 1
  else if s.leapPending = 2 && near then 2
  else 0

/-- Reference ID of SRC, four ASCII bytes (R314). -/
def refIdOf (src : Nat) : Nat :=
  match src with
  | 1 => 0x474E5353
  | 2 => 0x50545000
  | 3 => 0x50545000
  | 4 => 0x50505300
  | 5 => 0x50505300
  | 6 => 0x41544F4D
  | 7 => 0x50414952
  | _ => 0x4C4F434C

/-- Reference Timestamp: the servo's last measurement of a class T reference (R314); before the first it is a free value. -/
def State.ntpReference (s : State) : State × Nat :=
  match s.servo.lastClassT with
  | some t => (s, s.ntpTime (t + s.tb.offset * 65536))
  | none =>
    let (v, s) := s.draw
    (s, v % 18446744073709551616)

/-- Payload length of a response without a girth field (R323). -/
def responseLen (r : NtpReq) : Nat :=
  match ntsOf r with
  | some f => 48 + 4 + f.uids.headD 0 + 24 + 16 + 108 * (1 + f.placeholders.length)
  | none => 48

/-- The extension fields of a request that are of Field Type GIRTH_EF_TYPE (R224). -/
def State.girthFields (s : State) (r : NtpReq) : List EfField := r.fields.filter (·.ftype == s.girthEfType)

/-- The request asks for a girth field (R224, R312): one of the type with Length 16 and a body of zeros, over NTPv4. -/
def State.asksGirth (s : State) (r : NtpReq) : Bool := r.version == 4 && (s.girthFields r).any (fun f => f.len == 16 && f.zero)

/-- Hops of the girth field of a response, none for no field: those of the trace record, merged until the field fits (R323). -/
def State.girthHops (s : State) (r : NtpReq) : Option Nat :=
  if !s.asksGirth r then none
  else
    let k := min (s.trace s.gNow).length ((r.len - responseLen r - 12) / 16)
    if r.len < responseLen r + 28 then none else some k

/-- The block of a response as it is built (R224): its girth is fixed at the transmit instant. -/
def State.ntpBlock (s : State) (r : NtpReq) : Option GirthBlock := (s.girthHops r).map (s.girthBlockOf s.gNow)

/-- Length of a girth field (R224). -/
def girthEfLen (b : GirthBlock) : Nat := 12 + 16 * b.hops.length

/-- The extension fields of a response in their order (R224, R319): the echoed Unique Identifier, the girth field, and the Authenticator. -/
def State.responseFields (s : State) (r : NtpReq) : List (Nat × Nat) :=
  let g := match s.ntpBlock r with
    | some b => [(s.girthEfType, girthEfLen b)]
    | none => []
  match ntsOf r with
  | some f => [(0x0104, 4 + f.uids.headD 0)] ++ g ++ [(0x0404, 24 + 16 + 108 * (1 + f.placeholders.length))]
  | none => g

/-- The frame of a response (log entry 138): its payload over the request's IP version. -/
def State.ntpFrame (s : State) (r : NtpReq) (m : NtpSent) : Frame :=
  let len := 48 + (m.fields.map (·.2)).sum
  udpFrame r.port r.family 0 len

/-- The counts of R323. -/
def State.countGirth (s : State) (r : NtpReq) : State :=
  if !s.asksGirth r then s
  else match s.girthHops r with
    | none => s.ntpGirthCount 2
    | some k => (if k < (s.trace s.gNow).length then s.ntpGirthCount 1 else s).ntpCount 0x11

/-- A time response without its transmit timestamp and girth (R314), to a request whose receive stamp is `rx`; the precision is −32 and the
root delay 0. -/
def State.ntpResponse (s : State) (r : NtpReq) (rx status cookies keyId : Nat) : State × NtpPending :=
  let (s, t) := s.ntpStamp rx status
  let (s, ref) := s.ntpReference
  (s, { resp := { kind := 0, li := s.ntpLi, vn := r.version, stratum := if s.ntpLi = 3 then 16 else 1, poll := clampI 4 17 r.poll
                  rootDispersion := 0, refId := refIdOf s.hopSrc, reference := ref, origin := r.transmit, receive := t, transmit := 0
                  fields := s.responseFields r, girth := s.ntpBlock r, cookies := cookies, keyId := keyId }
        girth := s.gNow, rate := s.girthRate, built := s.tb.lc, nts := (ntsOf r).isSome, tries := 0, launch := none, ready := false })

/-- A kiss (R321, R325). -/
def kissOf (kind refId : Nat) (poll : Int) (r : NtpReq) : NtpSent :=
  { kind := kind, li := 3, vn := r.version, stratum := 0, poll := poll, rootDispersion := 0, refId := refId, reference := 0
    origin := r.transmit, receive := 0, transmit := 0, girth := none, cookies := 0, keyId := 0
    fields := if kind = 2 then (match ntsOf r with | some f => [(0x0104, 4 + f.uids.headD 0)] | none => []) else [] }

/-- A kiss is queued: it asks for no stamp. -/
def State.sendKiss (s : State) (r : NtpReq) (m : NtpSent) : State := (s.sendOwn r.port (.kiss m) (s.ntpFrame r m)).1

/-- A time response is queued in queue 7 of the ingress port (R315, R319): as an event frame with its request's receive stamp. -/
def State.queueTime (s : State) (r : NtpReq) (rx status : Nat) (w : NtpPending) : State :=
  (s.sendOwnFrom 3 r.port (.ntp w) (s.ntpFrame r w.resp) rx status).1

/-! ## NTS (R316–R322) -/

/-- A cookie key block is loaded (R318, R322). -/
def State.blockLoaded (s : State) (k : Nat) : Bool :=
  s.ntsKeyId k != 0 && (s.slot (s.ntsKeyEncSlot k)).sstate == 2 && (s.slot (s.ntsKeyDecSlot k)).sstate == 2

/-- The form of R316 but for the number of fields and their positions. -/
def State.ntsFormBut (s : State) (r : NtpReq) (f : NtsFields) : Bool :=
  f.uids.length == 1 && decide (32 ≤ f.uids.headD 0) && decide (f.uids.headD 0 ≤ 256) &&
    f.cookies == [104] && f.placeholders.all (· == 104) && decide (f.placeholders.length ≤ 7) &&
    decide ((s.girthFields r).length ≤ 1) && !f.critical && f.authLast && decide (16 ≤ f.nonce) && decide (f.nonce ≤ 256) && f.encEmpty

/-- A cookie reads, its algorithm is accepted, and the request authenticates (R317, R318). -/
def State.ntsAuth (s : State) (f : NtsFields) : Bool :=
  f.keyId != 0 &&
    (List.range 2).any (fun k => s.ntsKeyId k == f.keyId && (s.slot (s.ntsKeyDecSlot k)).sstate == 2) &&
    f.cookieOk && (f.aead == 15 && bit s.ntsAeads 0 || f.aead == 30 && bit s.ntsAeads 1) && f.authOk &&
    s.blockLoaded s.ntp.current

/-- An NTSN kiss, or the count of one refused (R321). -/
def State.ntsKiss (s : State) (r : NtpReq) : State :=
  match s.ntpCount 0x0E |>.takeKiss with
  | (s, true) => s.sendKiss r (kissOf 2 0x4E54534E r.poll r)
  | (s, false) => s

/-- An NTS request is answered: its response is built with its new cookies and waits in queue 7 for its launch (R319), or a check fails
(R321). -/
def State.ntsAnswer (s : State) (r : NtpReq) (rx status : Nat) (f : NtsFields) : State :=
  if s.ntsAuth f then
    let s := s.countGirth r
    let (s, w) := s.ntpResponse r rx status (1 + f.placeholders.length) (s.ntsKeyId s.ntp.current)
    s.queueTime r rx status w
  else s.ntsKiss r

/-- The cookie keys are missing, so that the engines take every NTS request (R42, R322). -/
def State.ntsNoKeys (s : State) : Bool := !s.blockLoaded 0 && !s.blockLoaded 1

/-- Rows 9 to 12 of R313. -/
def State.ntpServe (s : State) (r : NtpReq) (rx status : Nat) : State :=
  match ntsOf r with
  | none =>
    let s := s.countGirth r
    let (s, w) := s.ntpResponse r rx status 0 0
    s.queueTime r rx status w
  | some f =>
    if !f.uids.isEmpty && !s.ntsEnable then s.ntpCount 0x0B
    else if s.ntsNoKeys || (s.ntsFormBut r f && (f.misplaced || decide (16 < f.total))) then
      ({ s with ntp := { s.ntp with excQueue := s.ntp.excQueue ++ [(r, rx, status)] } } : State).ntpCount 0x0C
    else if !s.ntsFormBut r f then s.ntpCount 0x0B
    else s.ntsAnswer r rx status f

/-- A request refused at row 7: dropped, or answered with a RATE kiss (R313, R325). -/
def State.rateRefused (s : State) (r : NtpReq) : State :=
  let b := s.bucket (s.bucketIndex r.family r.src)
  if s.ntpRateKiss && (ntsOf r).isNone && !b.kissed then
    match s.takeKiss with
    | (s, true) =>
      ((s.setBucket { b with kissed := true }).ntpCount 9).sendKiss r (kissOf 1 0x52415445 (max r.poll s.ntpKissPoll) r)
    | (s, false) => s.ntpCount 8
  else s.ntpCount 8

/-- A request that waits for the fast path (R273). -/
def ntpTerm (r : NtpReq) (t : Term) : Bool := t.service == 2 && t.port == r.port && t.host == some r.host

/-- The fate table (R313) of a request with its receive stamp, with the silent second of R315 behind row 6. -/
def State.ntpFate (s : State) (r : NtpReq) (rx status : Nat) : State :=
  if s.standby then { s with pair := { s.pair with counters := bumpAt 6 s.pair.counters } }
  else if !s.ntpEnable || !bit s.ntpAddrs r.host then s.ntpCount 2
  else if !bit s.ntpPorts r.port then s.ntpCount 3
  else if r.len < 48 || 1024 < r.len || !r.parses then s.ntpCount 4
  else if !((r.version == 3 && bit s.ntpVersions 0) || (r.version == 4 && bit s.ntpVersions 1)) || r.mode != 3 then s.ntpCount 5
  else if r.mac then s.ntpCount 6
  else if !bit status 0 || bit status 2 then s.ntpCount 7
  else if s.ntpLeapMode = 1 && (match s.extend (rx % 281474976710656) status with
      | some t => s.insertedSecond (t / 65536000000000)
      | none => false) then s.ntpGirthCount 3
  else match s.takeToken r with
    | (s, false) => s.rateRefused r
    | (s, true) =>
      match s.ntpCharge r with
      | (s, false) => s.ntpCount 0x0A
      | (s, true) => s.ntpServe r rx status

/-- NTP_REQUEST: the fast path takes the request's frame with its descriptor (R54, R257) and judges it. -/
def opNtpRequest (r : NtpReq) (s : State) : State :=
  match s.takeTerm (fun t => s.coreRuns && ntpTerm r t) with
  | (s, none) => s
  | (s, some t) => s.ntpFate r t.rx (s.atDelivery t.rx t.status)

/-- The engines of work class W2 run (R333, R353). -/
def State.w2Runs (s : State) : Bool := s.engsRun && !bit s.engs.gated 2

/-- The engines answer an exception request within NTS_EXC_RATE (R322). -/
def opNtsException (s : State) : State :=
  match (if s.w2Runs then s.ntp.excQueue else []) with
  | [] => s
  | (r, rx, status) :: t =>
    let s := { s with ntp := { s.ntp with excQueue := t } }
    let n := if s.ntp.excSecond = s.tai then s.ntp.excCount else 0
    if s.ntsExcRate ≤ n then s.ntpCount 0x0D
    else
      let s := { s with ntp := { s.ntp with excSecond := s.tai, excCount := n + 1 } }
      match ntsOf r with
      | some f => if s.ntsNoKeys then s.ntsKiss r else s.ntsAnswer r rx status f
      | none => s

/-- 256 CORE cycles at the nominal period of CORE's current source (R319, R320). -/
def State.launchLead (s : State) : Nat := (if s.group 3 = 2 then 10240 else 256) * nsUnits

/-- Words from the serialiser word boundary `tw` to the first that lies at least 256 CORE cycles ahead and after the end of the frame already
on the wire (R319). -/
def State.launchWords (s : State) (p lane tw : Nat) : Nat :=
  let m := (s.quad (lane / 4)).mode
  let goal := cdiv (max (s.tb.lc + s.launchLead) (s.yport p).busyUntil * 4000) 65536
  cdiv ((goal - tw) * lineRate m) (wordBits m * 4000000000000)

/-- The boundary n words after the word boundary `tw` of a lane, unit 0.25 ps (R257). -/
def State.wordAfter (s : State) (lane tw n : Nat) : Nat :=
  let m := (s.quad (lane / 4)).mode
  tw + cdiv (n * (wordBits m * 4000000000000)) (lineRate m)

/-- The waiting copy of a response, in its place in queue 7, with its launch (R319). -/
def State.setLaunch (s : State) (p : Nat) (c : Copy) (w : NtpPending) : State :=
  s.onQueue (8 * p + 7) (fun q => { q with copies := q.copies.map (fun x => if x.id == c.id && !x.mirror then { x with own := some (.ntp w) } else x) })

/-- A launch instant is fixed for the response at the head of queue 7 (R319): the first word boundary that serves, in whose word the start
marker has its place `mark`, and the transmit stamp that follows from it (R257). With the encryption delivered by then the frame starts
exactly there. -/
def State.ntsFix (s : State) (p lane tw mark : Nat) (delivered : Bool) (c : Copy) (w : NtpPending) : State :=
  let q := s.quad (lane / 4)
  let n := s.launchWords p lane tw
  let bits := stampOffset (stampProfile q.mode q.fec) mark
  let tx := s.txStamp lane (s.wordAfter lane tw (n + bits / wordBits q.mode)) (bits % wordBits q.mode)
  let start := s.edgeTime lane (s.wordAfter lane tw n) 0
  (s.onYPort p (fun y => { y with launch := some (start, start + s.wireTime p c.frame.len) })).setLaunch p c
    { w with launch := some (start, tx), ready := delivered }

/-- NTS_LAUNCH: the head of queue 7, once the event frames that may not be sent have left it (R283, R319). -/
def opNtsLaunch (p lane tw mark : Nat) (delivered : Bool) (s : State) : State :=
  if !s.coreRuns then s
  else
    let s := s.dropHeads p (8 * p + 7) (s.queue (8 * p + 7)).copies.length
    match s.ntsHead p with
    | none => s
    | some (c, w) => if w.launch.isSome then s else s.ntsFix p lane tw mark delivered c w

/-- NTS_RELAUNCH: the launch instant has passed without the response (R320): a new one is fixed, or after three the response is
discarded. -/
def opNtsRelaunch (p lane tw mark : Nat) (delivered : Bool) (s : State) : State :=
  match (if s.coreRuns then s.ntsHead p else none) with
  | none => s
  | some (c, w) =>
    match w.launch with
    | none => s
    | some t =>
      if w.ready || s.tb.lc < t.1 then s
      else
        let s := s.ntpCount 0x0F
        if 3 ≤ w.tries + 1 then
          ((s.takeCopy (8 * p + 7) c).onYPort p (fun y => { y with launch := none })).ntpCount 0x10
        else s.ntsFix p lane tw mark delivered c { w with tries := w.tries + 1 }

/-! ## Keys and the mint ring (R318, R327) -/

/-- Minting moves to the block named (R318). -/
def opNtsKeySwitch (s : State) : State := { s with ntp := { s.ntp with current := s.ntsKeyCurrent } }

/-- NTS_MINT_PRODUCER is written (R327). -/
def opMintProducer (v : Nat) (s : State) : State := { s with ntp := { s.ntp with mintProducer := v } }

/-- An entry of the mint ring is served (R327). -/
def opMintEntry (mflags count aead : Nat) (unwrapOk : Bool) (s : State) : State :=
  if !s.w2Runs || s.ntsMintRingSize = 0 || s.ntp.mintConsumer = s.ntp.mintProducer || !s.dict.pcieUp then s
  else
    let s := s.ntpMs
    let ops := s.ntp.operations + count
    let status :=
      if !(aead = 15 && bit s.ntsAeads 0) && !(aead = 30 && bit s.ntsAeads 1) then 2
      else if count < 1 || 8 < count then 3
      else if bit mflags 0 && (s.ntsMintWrapSlot = 0xFFFF || !unwrapOk) then 4
      else if !s.blockLoaded s.ntp.current then 5
      else if s.ntsCapNow / 1000 < ops then 6
      else 1
    let done := status == 1
    let s := { s with ntp := { s.ntp with
      mintConsumer := bump s.ntp.mintConsumer
      mintStatus := status
      mintWritten := if done then count else 0
      operations := if done then ops else s.ntp.operations } }
    if done then (List.range count).foldl (fun s _ => s.ntpGirthCount 4) s else s

/-! ## The commands -/

/-- NTP_REQUEST (R313). -/
def execNtpRequest (now : Nat) (r : NtpReq) (s : State) : Host.Outcome State Fault Refusal := .next (opNtpRequest r (s.atTime now))

/-- NTS_LAUNCH (R319). -/
def execNtsLaunch (now p lane tw mark : Nat) (delivered : Bool) (s : State) : Host.Outcome State Fault Refusal :=
  .next (opNtsLaunch p lane tw mark delivered (s.atTime now))

/-- NTS_RELAUNCH (R320). -/
def execNtsRelaunch (now p lane tw mark : Nat) (delivered : Bool) (s : State) : Host.Outcome State Fault Refusal :=
  .next (opNtsRelaunch p lane tw mark delivered (s.atTime now))

/-- NTS_EXCEPTION_REQUEST (R322). -/
def execNtsExceptionRequest (now : Nat) (s : State) : Host.Outcome State Fault Refusal := .next (opNtsException (s.atTime now))

/-- BUCKET_SWEEP (R324). -/
def execBucketSweep (now : Nat) (s : State) : Host.Outcome State Fault Refusal := .next (opBucketSweep (s.atTime now))

/-- NTS_KEY_SWITCH (R318). -/
def execNtsKeySwitch (now : Nat) (s : State) : Host.Outcome State Fault Refusal := .next (opNtsKeySwitch (s.atTime now))

/-- NTS_MINT_ENTRY (R327). -/
def execNtsMintEntry (now mflags count aead : Nat) (unwrapOk : Bool) (s : State) : Host.Outcome State Fault Refusal :=
  .next (opMintEntry mflags count aead unwrapOk (s.atTime now))

end Sys2Proof.Machine
end

