-- ==== Sys2Proof/Machine/Governor.lean ====
section
/-!
DEFINITION. The budget governor: headroom, the decision of every millisecond, levels and what they withhold, costs, cold
start and input faults (R352–R363).
-/
set_option Elab.async false
namespace Sys2Proof.Machine

/-! ## The budget (R352) -/

/-- The oven's draw that the part can measure: none with OSC_TYPE 0x01. -/
def State.ovenDraw (s : State) : Nat := if s.oscType = 1 then 0 else s.ovenPower

/-- GOV_HEADROOM for a P_part. -/
def State.headroomOf (s : State) (pPart : Nat) : Int :=
  if s.govSupplyCap = 0 then 0x7FFFFFFF
  else (s.govSupplyCap : Int) - s.govMargin - (pPart + s.ovenDraw + s.govBoardW : Nat)

/-! ## Levels (R353, R354, R358) -/

/-- Work classes a level withholds, bit k for Wk. -/
def withheld (level : Nat) : Nat :=
  if level ≤ 1 then 0 else if level = 2 then 0x20 else if level = 3 then 0x30 else if level ≤ 6 then 0x38 else 0x3C

/-- A scheduled role swap is under way (R358, R465). -/
def State.swapping (s : State) : Bool := s.pair.handoff.any (fun h => h.cause == 3 && h.accepted)

/-- GOV_CLASS_GRANT (R362). -/
def State.classGrant (s : State) : Nat := 63 - withheld s.gov.level

/-- Rows of the classes `gate` stop, and the others go on: a watchdog pauses while its row is gated (R349), and search
engines resume at their stored cells (R191). -/
def State.setGated (s : State) (gate : Nat) : State :=
  let old := s.engs.gated
  let f (e : Nat) (g : Eng) : Eng :=
    if bit gate (engClass e) == bit old (engClass e) then g else { g with kicked := s.tb.lc - g.kicked }
  let s := { s with engs := { s.engs with eng := s.engs.eng.mapIdx f, gated := gate } }
  if bit gate 3 then s else { s with gnss := { s.gnss with engines := s.gnss.engines.map (fun x => { x with paused := false }) } }

/-- The rows that are gated now: a scheduled swap in progress keeps the W4 row running until it ends (R358). -/
def State.regate (s : State) : State :=
  let w := withheld s.gov.level
  s.setGated (if s.swapping && !bit s.engs.gated 4 then setBit w 4 false else w)

/-- Idle shed banks are powered down from level 1 on: which ones are idle is a free value, and what remains holds the cells in
use and at least 24,576 (R286; log entry 57). -/
def State.shedBanks (s : State) : State :=
  if s.gov.level = 0 then { s with yard := { s.yard with banks := 0xFFFF } }
  else
    let (v, s) := s.draw
    let t := { s with yard := { s.yard with banks := v % 65536 } }
    if max 24576 s.yard.sharedUsed ≤ t.sharedPool then t else s

/-- The governor moves to a level (R354, R358). -/
def State.setLevel (s : State) (new : Nat) : State :=
  let old := s.gov.level
  if new = old then s
  else
    let prev := if s.gov.prev.1 = s.ms then s.gov.prev else (s.ms, old)
    let entry := new = 7 && old != 7
    let s := { s with gov := { s.gov with
      level := new, prev := prev, hold := 0, sheds := if old < new then bump s.gov.sheds else s.gov.sheds
      entryAuth := if entry then s.loadAuth else s.gov.entryAuth, entryAll := if entry then s.loadAll else s.gov.entryAll } }
    s.regate.shedBanks.ptpOver

/-- Crypto units kept unparked (R355). -/
def State.unparkedNow (s : State) : Nat :=
  min 16 (cdiv (s.loadAuthMsgs + s.ntsCapacity * s.w2Share s.gov.level / 100) 1250000 + 1)

/-! ## Cold start and inputs (R359, R360) -/

/-- The cold start ends when OVEN_STATUS[4] has held for 10 s, or with GOV_COLD_MAX. -/
def State.coldStep (s : State) : State :=
  let g := s.gov
  let run := if s.tempCond then g.warmRun + 1 else 0
  let ends := g.cold && (decide (10000 ≤ run) || decide (s.govColdMax * 1000 ≤ g.sinceReset + 1))
  { s with gov := { g with warmRun := run, sinceReset := g.sinceReset + 1, cold := g.cold && !ends, hold := if ends then 0 else g.hold } }

/-- An input fault is present (R360). -/
def State.inputBad (s : State) : Bool :=
  decide (2 ≤ s.gov.missing) || (s.govSupplyCap != 0 && s.oscType == 0 && s.oven.sensorFault)

/-- The readings of a millisecond (R360): `ok` is false for one that is missing or out of range, and the last good ones stay. -/
def State.govInput (s : State) (pPart : Nat) (tj : Int) (ok : Bool) : State :=
  let g := s.gov
  let s := { s with gov := { g with missing := if ok then 0 else g.missing + 1, pPart := if ok then pPart else g.pPart, tj := if ok then tj else g.tj } }
  let b := s.inputBad
  let s := { s with gov := { s.gov with inputFault := b, clearRun := if b then 1000 else s.gov.clearRun - 1
                                        headroom := s.headroomOf s.gov.pPart } }
  s.level b 0x0E01

/-- The floor of R356. -/
def State.govFloor (s : State) : Nat :=
  max s.govLevelMin (max (if s.gov.cold then 6 else 0) (if s.gov.inputFault || s.gov.clearRun != 0 then 7 else 0))

/-! ## The decision (R356) -/

/-- cost[L]. -/
def State.cost (s : State) (l : Nat) : Nat := s.gov.cost.getD (l - 1) 0

/-- The level at which enough is shed: from `level`, with `saved` so far. -/
def State.shedTo (s : State) (need : Nat) : Nat → Nat → Nat → Nat
  | 0, level, _ => level
  | k + 1, level, saved => if saved < need && level < 7 then s.shedTo need k (level + 1) (saved + s.cost (level + 1)) else level

/-- What a decision does to the level: the new one, and which branch made it: 1 power, 2 temperature, 3 raise, 0 none. -/
def State.decideLevel (s : State) (settle : Nat) : Nat × Nat :=
  let g := s.gov
  let l := g.level
  if g.headroom < 0 && settle = 0 && l < 7 then (s.shedTo g.headroom.natAbs 7 (l + 1) (s.cost (l + 1)), 1)
  else if s.govTjLimit ≤ g.tj && g.tjWait = 0 && l < 7 then (l + 1, 2)
  else if s.govFloor < l && decide ((s.cost l + s.govRaiseMargin : Nat) ≤ g.headroom) &&
      decide (g.tj < s.govTjLimit - s.govTjHyst) then (if s.govRaiseHold ≤ g.hold + 1 then (l - 1, 3) else (l, 4))
  else (l, 0)

/-- GOV_CAUSE after a decision (R362; log entry 56): what shed last, until the level is raised, and what holds the floor. -/
def State.govCause (s : State) (branch : Nat) : Nat :=
  let old := s.gov.cause
  let p := branch == 1 || (branch != 3 && bit old 0)
  let t := branch == 2 || (branch != 3 && bit old 1)
  ofBits [p, t, s.gov.cold && s.gov.level == 6, s.govLevelMin != 0 && s.gov.level == s.govLevelMin,
    s.gov.inputFault || s.gov.clearRun != 0]

/-- The conditions of R361 are judged. -/
def State.govFaults (s : State) : State :=
  let bad := s.gov.level == 7 && decide (s.gov.headroom < 0)
  let run := if bad then s.gov.deficitRun + 1 else 0
  let s := { s with gov := { s.gov with deficitRun := run } }
  let s := if bad then (if 100 ≤ run then s.raise 0x0E02 else s) else s.clearFault 0x0E02
  s.level (decide ((if Config.gradeE then 11000 else 9500) ≤ s.gov.tj)) 0x0E03

/-- GOV_DECISION (R356): every XO millisecond outside a reset. -/
def opGovDecision (pPart : Nat) (tj : Int) (ok : Bool) (s : State) : State :=
  if s.start.porHeld || s.start.inReset then s
  else
    let s := (s.coldStep).govInput pPart tj ok
    let settle := s.gov.settle - 1
    let (l, branch) := s.decideLevel settle
    let before := (s.gov.level, s.gov.pPart)
    let s := { s with gov := { s.gov with
      settle := if branch = 1 then 5 else settle, tjWait := (if branch = 2 then 100 else s.gov.tjWait) - 1
      hold := if branch = 4 then s.gov.hold + 1 else 0, raised := if branch = 3 then some before else s.gov.raised
      times := upd (· + 1) s.gov.level s.gov.times } }
    let s := s.setLevel (max l s.govFloor)
    let s := { s with gov := { s.gov with cause := s.govCause branch, unparked := s.unparkedNow } }
    s.regate.govFaults

/-- GOV_COST_MEASURE (R357): the measured increase replaces cost[L] when it is larger. -/
def opGovCostMeasure (pPart : Nat) (s : State) : State :=
  match s.gov.raised with
  | none => s
  | some (l, p) =>
    let c := max (s.cost l) (pPart - p)
    { s with gov := { s.gov with raised := none, cost := s.gov.cost.set (l - 1) (min c 65535) } }

/-- GOV_LEVEL_MIN written (R363): a value above the level moves the level at once. -/
def opGovLevelMin (v : Nat) (s : State) : State :=
  let s := s.put 0x8C00 12 v
  if s.gov.level < v then
    let s := s.setLevel v
    { s with gov := { s.gov with cause := s.govCause 0, unparked := s.unparkedNow } }
  else s

/-! ## The commands -/

/-- GOV_DECISION (R356). -/
def execGovDecision (now pPart : Nat) (tj : Int) (ok : Bool) (s : State) : Host.Outcome State Fault Refusal :=
  .next (opGovDecision pPart tj ok (s.atTime now))

/-- GOV_COST_MEASURE (R357). -/
def execGovCostMeasure (now pPart : Nat) (s : State) : Host.Outcome State Fault Refusal :=
  .next (opGovCostMeasure pPart (s.atTime now))

end Sys2Proof.Machine
end

