-- ==== Sys2Proof/Machine/PowerOn.lean ====
section
/-!
DEFINITION. What a power-on reset leaves (R36, R45, R501, R509): the always-on block, the fuses and the flash keep what they
hold, and everything else is as State.reset has it.
-/
set_option Elab.async false
namespace Sys2Proof.Machine

/-- The tamper configuration, which the always-on block holds (R32, R36). -/
def isTamperCfg (k : Nat) : Bool := k / 256 == 0xA500

/-- A power-on reset begins and is held (R36, R501), with the cause that RESET_CAUSE shows after it. -/
def State.por (s : State) (cause : Nat) : State :=
  { State.reset with
    pending := s.pending
    sel := { Select.init with raw := s.sel.raw }
    oven := { Oven.init with warmPin := s.oven.warmPin }
    ntp := { Ntp.init with hashEpoch := s.ntp.hashEpoch + 1 }
    vault := { s.vault with cloak := none, slots := [], jobs := [], erasing := [], keyOp := none, opStatus := 0, exportRole := 0, exportBlob := 0,
                            maskRotations := 0, unsealFails := 0, unsealed := false }
    access := { Access.init with nonces := s.access.nonces, ownerKeys := s.access.ownerKeys, transfer := s.access.transfer,
                                 aseq := s.access.aseq, chain := s.access.chain }
    dict := { Dict.init with store := s.dict.store.filter (fun p => isTamperCfg p.1), saved := s.dict.saved, savedBad := s.dict.savedBad }
    pair := { Pair.init with wireA := s.pair.wireA, wireB := s.pair.wireB, preferred := s.pair.preferred }
    start := { Start.init with state := .powered, cause := cause, porHeld := true, bundleA := s.start.bundleA,
                               bundleBInfo := s.start.bundleBInfo }
    cal := { Cal.init with entries := s.cal.entries, gen := s.cal.gen, rootId := s.cal.rootId }
    freeCount := s.freeCount }

end Sys2Proof.Machine
end

