-- ==== Sys2Proof/Machine/Vault.lean ====
section
/-!
DEFINITION. The key vault beyond crypto jobs: slots, staging, the log of records in flash, unseal, life-cycle transitions,
and the always-on block with its tamper latch and records (R36, R377–R405, R522).
-/
set_option Elab.async false
namespace Sys2Proof.Machine

/-! ## Roots (R388, R389) -/

/-- ROOT_ID of the storage root of the life-cycle state; 0 for none. -/
def State.storageRoot (s : State) : Nat :=
  match s.vault.lc with
  | .blank => 4
  | .maker => 1
  | .owned => 2
  | .field => 3
  | .debug => 4
  | .retired => 0

/-- The slot's class is 0, the latch is set, or the state is RETIRED (R405). -/
def State.keyBarred (s : State) (n : Nat) : Bool := decide (n < 64) || s.vault.latch || s.vault.lc == .retired

/-! ## Cloaking (R386, R387) -/

/-- A permutation key and mask sets drawn from the part's random source: free values (log entry 140). -/
def State.drawCloak (s : State) : State :=
  let (p, s) := s.draw
  let (m0, s) := s.draw
  let (m1, s) := s.draw
  { s with vault := { s.vault with cloak := some ⟨p, m0, m1, false⟩ } }

/-- The set of the other epoch is drawn anew, and the sweep leaves every cell in that epoch. -/
def Cloak.sweep (m : Nat) (c : Cloak) : Cloak :=
  if c.epoch then { c with mask0 := m, epoch := false } else { c with mask1 := m, epoch := true }

/-- A rotation and its sweep (R386). A vault whose cloaking keys are cleared makes no access, so none falls due there. -/
def opMaskRotation (s : State) : State :=
  match s.vault.cloak with
  | none => s
  | some c =>
    let (m, s) := s.draw
    { s with vault := { s.vault with cloak := some (c.sweep m), maskRotations := bump s.vault.maskRotations } }

/-! ## Attributes (R379–R381) -/

/-- SLOT_ATTR as the slot shows it. -/
def Slot.attr (x : Slot) : Nat := lePack [(1, x.use), (1, x.alg), (1, x.role), (1, x.flags)]

/-- A SLOT_ATTR value is an algorithm with a use it accepts, a role, and known flags; 0 empties. -/
def attrOk (v : Nat) : Bool :=
  v == 0 || (algUse (fld v 1 1) (fld v 0 1) && 1 ≤ fld v 2 1 && fld v 2 1 ≤ 7 && fld v 3 1 < 4)

/-- A write that only clears EXPORT of a loaded slot (R381). -/
def Slot.clearsExport (x : Slot) (v : Nat) : Bool := x.sstate == 2 && v == ({ x with flags := setBit x.flags 0 false } : Slot).attr

/-- SLOT_ATTR is refused (0x08, 0x09), or 0 (R381, R405). -/
def State.slotAttrCode (s : State) (n v : Nat) : Nat :=
  if !attrOk v then 0x08
  else if s.keyBarred n then 0x09
  else if (s.slot n).sstate = 2 && !(s.slot n).clearsExport v then 0x09
  else 0

/-- SLOT_ATTR (R381). -/
def opSlotAttr (n v : Nat) (s : State) : State :=
  let x := s.slot n
  if x.sstate = 2 then s.setSlot n { x with flags := setBit x.flags 0 false }
  else if v = 0 then s.dropSlot n
  else s.setSlot n ⟨1, fld v 0 1, fld v 1 1, fld v 2 1, fld v 3 1, 0, 0, none⟩

/-! ## Staging (R391, R392; log entry 58) -/

/-- VAULT_OP_STATUS. -/
def State.opStat (s : State) (v : Nat) : State := { s with vault := { s.vault with opStatus := v } }

/-- A key operation cut short by a tamper alarm (R398). -/
def State.cutKeyOp (s : State) (op slot : Nat) : State :=
  { s with vault := { s.vault with keyOp := some (op, slot), opStatus := 8 } }

/-- A slot that may wrap: LOADED, wrap-only. -/
def State.wraps (s : State) (n : Nat) : Bool := decide (n < 512) && (s.slot n).sstate == 2 && (s.slot n).use == 3 && (s.slot n).alg == 5

/-- The update mode of a slot's class. -/
def State.slotMode (s : State) (n : Nat) : Nat := s.vaultClassMode (n / 64)

/-- KEY_STAGE is refused, or 0: a bad slot number, attributes other than the slot's in mode 1, a barred slot, a shadow pending. -/
def State.stageCode (s : State) (v : Nat) : Nat :=
  let n := fld v 0 2
  let x := s.slot n
  if 512 ≤ n || fld v 11 1 != 0 then 0x08
  else if s.keyBarred n || x.sstate = 0 || x.shadow.isSome then 0x09
  else if s.slotMode n = 1 && !(fld v 8 1 == x.alg && fld v 9 1 == x.use && fld v 10 1 == x.role) then 0x08
  else 0

/-- KEY_STAGE (R391, R392). `outcome`: 0 what it carries is authentic, 1 it does not authenticate, 2 an alarm cuts it. -/
def opKeyStage (v outcome : Nat) (s : State) : State :=
  let n := fld v 0 2
  let x := s.slot n
  let body := fld v 12 172
  if outcome = 2 then s.cutKeyOp 0xF1 n
  else if s.slotMode n = 1 then
    let key := Config.keyOf (body % 2 ^ (8 * algLen x.alg))
    (s.setSlot n { x with shadow := some (Config.kcv key % 4294967296, key, s.tb.lc) }).opStat 2
  else if !(s.wraps (fld v 2 2) && (s.slot (fld v 2 2)).role == x.role && fld body 0 1 == 1 && fld body 1 1 == x.alg &&
      fld body 2 1 == x.use && fld body 3 1 == x.role) then s.opStat 7
  else if outcome != 0 then s.opStat 4
  else
    let key := Config.keyOf (body % 2 ^ (8 * (44 + algLen x.alg)))
    let kcv := Config.kcv key % 4294967296
    if kcv != fld v 4 4 then s.opStat 5
    else (s.setSlot n { x with shadow := some (kcv, key, s.tb.lc) }).opStat 2

/-- A slot's shadow is discarded. -/
def opAbandon (n : Nat) (s : State) : State := (s.setSlot n { s.slot n with shadow := none }).opStat 0

/-- VAULT_STAGE_TIMEOUT has elapsed for a slot (R391). -/
def opStageTimeout (n : Nat) (s : State) : State :=
  match (s.slot n).shadow with
  | some (_, _, t) => if t + secs s.vaultStageTimeout ≤ s.tb.lc then s.setSlot n { s.slot n with shadow := none } else s
  | none => s

/-! ## The vault area in flash (R394) -/

/-- Bytes that a record takes, 16-byte aligned. -/
def recBytes (body : Nat) : Nat := (16 + body + 15) / 16 * 16

/-- VAULT_FLASH_FREE: what a half of 256 KiB has left behind its header. -/
def State.flashFree (s : State) : Nat := 262112 - (s.vault.area.map (·.bytes)).sum

/-- A record is appended. -/
def State.vaultAppend (s : State) (r : VaultRec) : State :=
  { s with vault := { s.vault with area := s.vault.area ++ [{ r with seq := s.vault.nextSeq }], nextSeq := bump s.vault.nextSeq } }

/-- The shadow record of a slot's staged key. -/
def State.shadowRec (s : State) (n key kcv : Nat) : VaultRec :=
  let x := s.slot n
  { kind := 1, rootId := s.storageRoot, slot := n, seq := 0, use := x.use, alg := x.alg, role := x.role, flags := x.flags, kcv := kcv, key := key, ofSeq := 0, bytes := recBytes (44 + algLen x.alg) }

/-- A commit record (2) or an erase record (3). -/
def State.markRec (s : State) (kind n ofSeq kcv : Nat) : VaultRec :=
  { kind := kind, rootId := s.storageRoot, slot := n, seq := 0, use := 0, alg := 0, role := 0, flags := 0, kcv := kcv, key := 0, ofSeq := ofSeq, bytes := recBytes 24 }

/-- The latest commit record of a slot under a root, unless an erase record follows it (R395). -/
def latestCommit (area : List VaultRec) (root n : Nat) : Option VaultRec :=
  match (area.filter (fun r => r.rootId == root && r.slot == n && r.kind != 1)).getLast? with
  | some r => if r.kind = 2 then some r else none
  | none => none

/-- The shadow record that a commit record names. -/
def shadowOf (area : List VaultRec) (c : VaultRec) : Option VaultRec :=
  area.find? (fun r => r.kind == 1 && r.seq == c.ofSeq && r.slot == c.slot)

/-- Compaction (R394): the latest committed records of each loaded persistent slot move to the other half. -/
def State.compact (s : State) : State :=
  let keep := s.vault.slots.filter (fun p => p.2.sstate == 2 && bit p.2.flags 1)
  let recs := keep.flatMap (fun p =>
    match latestCommit s.vault.area s.storageRoot p.1 with
    | some c => (shadowOf s.vault.area c).toList ++ [c]
    | none => [])
  { s with vault := { s.vault with area := recs, gen := s.vault.gen + 1 } }

/-- Room is made when less than 4 KiB is free. -/
def State.makeSpace (s : State) : State := if s.flashFree < 4096 then s.compact else s

/-- The shadow key becomes the slot's key. -/
def State.switchKey (s : State) (n kcv key : Nat) : State :=
  (s.setSlot n { s.slot n with sstate := 2, kcv := kcv, key := key, shadow := none }).opStat 3

/-- KEY_COMMIT is refused, or 0. -/
def State.commitCode (s : State) (n : Nat) : Nat :=
  if 512 ≤ n then 0x08 else if s.keyBarred n || (s.slot n).shadow.isNone then 0x09 else 0

/-- KEY_COMMIT (R394). `outcome`: 0 done; 1 a read-back fails; 2 an alarm before the commit record is issued; 3 one after it. -/
def opKeyCommit (n outcome : Nat) (s : State) : State :=
  match (s.slot n).shadow with
  | none => s
  | some (kcv, key, _) =>
    if !bit (s.slot n).flags 1 then (if 2 ≤ outcome then s.cutKeyOp 0xF2 n else s.switchKey n kcv key)
    else
      let s := s.makeSpace
      let seq := s.vault.nextSeq
      let s := s.vaultAppend (s.shadowRec n key kcv)
      if outcome = 1 then s.opStat 6
      else if outcome = 2 then s.cutKeyOp 0xF2 n
      else
        let s := s.vaultAppend (s.markRec 2 n seq kcv)
        if outcome = 3 then s.cutKeyOp 0xF2 n else s.switchKey n kcv key

/-- KEY_ABANDON, KEY_ERASE and KEY_EXPORT are refused, or 0. -/
def State.keyCode (s : State) (n : Nat) : Nat :=
  if 512 ≤ n then 0x08 else if s.keyBarred n || (s.slot n).sstate = 0 then 0x09 else 0

/-- An operation has ended well whose status the spec does not state: a free value (log entry 58). -/
def State.opFree (s : State) : State :=
  let (v, s) := s.draw
  s.opStat (v % 9)

/-- An erase takes place (R391, R394). `outcome`: 0 done, 1 the erase record fails. -/
def State.eraseNow (s : State) (n outcome : Nat) : State :=
  if bit (s.slot n).flags 1 then
    if outcome = 1 then s.makeSpace.opStat 6
    else ((s.makeSpace.vaultAppend (s.markRec 3 n 0 0)).dropSlot n).opFree
  else (s.dropSlot n).opFree

/-- A job that was accepted on the slot has not completed. -/
def State.slotBusy (s : State) (n : Nat) : Bool := s.vault.jobs.any (fun j => j.slot == n && j.verdict == 0)

/-- KEY_ERASE (R385, R391): at once, or when the slot's accepted jobs have completed. `outcome` 2: an alarm cuts it. -/
def opKeyErase (n outcome : Nat) (s : State) : State :=
  if outcome = 2 then s.cutKeyOp 0xF4 n
  else if s.slotBusy n then
    ({ s with vault := { s.vault with erasing := s.vault.erasing ++ [(n, outcome)] } } : State).opStat 1
  else s.eraseNow n outcome

/-- The erases that no accepted job holds back any longer (R385). -/
def State.erasesDue (s : State) : State :=
  let due := s.vault.erasing.filter (fun e => !s.slotBusy e.1)
  let s := { s with vault := { s.vault with erasing := s.vault.erasing.filter (fun e => s.slotBusy e.1) } }
  due.foldl (fun s e => s.eraseNow e.1 e.2) s

/-- KEY_EXPORT (R384): the blob for the role that asked. -/
def opKeyExport (v outcome : Nat) (role : Nat) (s : State) : State :=
  let n := fld v 0 2
  let w := fld v 2 2
  if outcome = 2 then s.cutKeyOp 0xF3 n
  else if !(s.wraps w && (s.slot n).sstate == 2 && bit (s.slot n).flags 0 && w != n) then s.opStat 7
  else
    let blob := s.blobOf n (s.slot w).key 0
    ({ s with vault := { s.vault with exportRole := role, exportBlob := blob } } : State).opFree

/-! ## Unseal (R389, R395) -/

/-- The records that a transition condemned are gone before any unseal (R390). -/
def State.cleanArea (s : State) : State :=
  let a := if s.vault.eraseDue then [] else if s.vault.dropDebugDue then s.vault.area.filter (·.rootId != 4) else s.vault.area
  { s with vault := { s.vault with area := a, eraseDue := false, dropDebugDue := false } }

/-- One slot is unsealed; `bad` lists the slots whose shadow record fails to unwrap. -/
def State.unsealOne (bad : List Nat) (s : State) (n : Nat) : State :=
  match latestCommit s.vault.area s.storageRoot n with
  | none => s
  | some c =>
    match (if bad.contains n then none else shadowOf s.vault.area c) with
    | some r => s.setSlot n ⟨2, r.use, r.alg, r.role, r.flags, r.kcv, r.key, none⟩
    | none => ({ s with vault := { s.vault with unsealFails := bump s.vault.unsealFails } } : State).raise 0x0F02 n

/-- Unseal at a boot: class 0 keys first, then every slot that a valid commit record names. None with the latch set, or
without a root. -/
def State.unseal (s : State) (bad : List Nat) : State :=
  let s := s.cleanArea
  if s.vault.latch || s.storageRoot = 0 then s
  else
    let k := Config.classZero s.storageRoot
    let s := s.setSlot 0 ⟨2, 3, 5, 0, 0, Config.kcv k % 4294967296, k, none⟩
    let s := (List.range 448).foldl (fun s i => s.unsealOne bad (64 + i)) s
    { s with vault := { s.vault with unsealed := true } }

/-! ## Life-cycle transitions (R390) -/

/-- A role may ask for a transition to this state (R390, R412, R413). -/
def State.lcRole (s : State) (role : Role) (target : Nat) : Bool :=
  let early := s.vault.lc == .blank || s.vault.lc == .maker
  if s.vault.lc == .retired then false
  else if target = 1 || target = 0 then early && role == .maker
  else if target = 2 then (early && role == .maker) || role == .owner
  else if target = 5 then role == .owner || (early && role == .maker)
  else role == .owner

/-- The transition is one of the table's, and its condition holds. -/
def State.lcOk (s : State) (target : Nat) : Bool :=
  match s.vault.lc with
  | .blank => target == 1 || target == 5
  | .maker => (target == 2 && s.access.transfer.isSome) || target == 5
  | .owned => target == 3 || target == 5
  | .field => (target == 4 && decide (s.vault.debugEntries < 64)) || target == 5
  | .debug => target == 3 || target == 5
  | .retired => false

/-- LC_REQUEST's value and moment: 0x08, 0x09 or 0. -/
def State.lcCode (s : State) (v : Nat) : Nat :=
  if 5 < fld v 0 1 || fld v 1 3 != 0 then 0x08 else if s.lcOk (fld v 0 1) then 0 else 0x09

/-- The life-cycle state of a code. -/
def lcOf (n : Nat) : LifeCycle :=
  match n with
  | 0 => .blank
  | 1 => .maker
  | 2 => .owned
  | 3 => .field
  | 4 => .debug
  | _ => .retired

/-- The root that the transition fuses first is fused, or was already (R390). -/
def State.fuseRoot (s : State) (target : Nat) : State :=
  { s with vault := { s.vault with makerRoot := s.vault.makerRoot || target == 1, ownerRoot := s.vault.ownerRoot || target == 2 } }

/-- A completed transition: fuses, what the next boot erases, the audit chain's restart, and a power-on reset
(R390, R422, R509). A store saved in BLANK does not verify under the calibration root of MAKER (R511). -/
def State.lcDone (s : State) (target : Nat) : State :=
  let v := s.vault
  let back := v.lc == .debug && target == 3
  let keys := if target = 2 then s.access.transfer.toList else s.access.ownerKeys
  let s := { s with
    vault := { v with lc := lcOf target, debugEntries := if target = 4 then v.debugEntries + 1 else v.debugEntries
                      eraseDue := target != 4 && !back, dropDebugDue := back }
    access := { s.access with ownerKeys := keys, transfer := none, chain := 0 }
    dict := { s.dict with saved := if target = 2 || target = 5 then none else s.dict.saved
                          savedBad := (s.dict.savedBad || (target = 1 && s.dict.saved.isSome)) && target != 2 && target != 5 } }
  s.por 3

/-- LC_REQUEST (R390). `outcome`: 0 the second bit is burned and read back; 1 the request is abandoned before it, and 2 a
tamper alarm abandons it. -/
def opLcRequest (target outcome : Nat) (s : State) : State :=
  let s := s.fuseRoot target
  if outcome = 0 then s.lcDone target
  else if outcome = 2 then { s with vault := { s.vault with keyOp := some (0, 0xFFFF) } }
  else s

/-! ## Tamper (R396–R401) -/

/-- TAMPER_ENABLE, from the object. -/
def State.tamperEnabled (s : State) (src : Nat) : Bool := bit (s.cfg 0xA500 1 0x01E0) src

/-- MOMENT of an alarm, with the slot and OP of what it aborts (R398, R400). -/
def State.tamperMoment (s : State) : Nat × Nat × Nat :=
  if s.start.sleep then (3, 0xFFFF, 0)
  else match s.vault.keyOp with
    | some (0, _) => (5, 0xFFFF, 0)
    | some (op, n) => (4, n, op)
    | none =>
      if !s.vault.unsealed || s.start.porHeld then (1, 0xFFFF, 0)
      else match s.vault.jobs with
        | j :: _ => (4, j.slot, j.op)
        | [] => (2, 0xFFFF, 0)

/-- The always-on counter is read. -/
def State.aonAt (s : State) (t : Nat) : State := { s with vault := { s.vault with aonTime := max s.vault.aonTime t } }

/-- A tamper record joins the ring of 8. -/
def State.tamperRecord (s : State) (sources moment slot op : Nat) : State :=
  let r : TamperRec := ⟨s.vault.nextTseq, sources, moment, s.vault.lc.code, s.vault.aonTime, slot, op⟩
  { s with vault := { s.vault with records := r :: s.vault.records.take 7, nextTseq := bump s.vault.nextTseq } }

/-- Boot halts after an alarm during start-up (R398): only the dictionary agent runs. -/
def State.tamperHalt (s : State) : State :=
  ({ s with start := { s.start with haltTamper := true, state := .boot, bootDone := false } } : State).revalid

/-- The wipe that an alarm causes (R397), and the end of every session. -/
def State.tamperWipe (s : State) : State :=
  let s := if s.coreRuns then s else s.setGroup 3 2
  ((s.abortJobs.wipeVault).dropSessions).attn 7

/-- An alarm of an enabled source (R397, R398): further ones join the newest record while the latch is set. -/
def State.alarm (s : State) (src : Nat) : State :=
  let s := { s with vault := { s.vault with alarms := setBit s.vault.alarms src true } }
  if s.vault.latch then
    match s.vault.records with
    | r :: t => { s with vault := { s.vault with records := { r with sources := setBit r.sources src true } :: t } }
    | [] => s
  else
    let (m, n, op) := s.tamperMoment
    let s := s.tamperRecord (2 ^ src) m n op
    let s := ({ s with vault := { s.vault with latch := true } } : State).tamperWipe
    if s.start.porHeld || m = 3 then s
    else if m = 1 then (if s.start.inReset then s else s.tamperHalt)
    else s.raise 0x0F01

/-- TAMPER_ALARM (R396, R397): `aon` is the always-on counter. The supply monitor is disarmed while power-on reset is held (R521). -/
def opTamperAlarm (src aon : Nat) (s : State) : State :=
  if 8 ≤ src || !s.tamperEnabled src || (src = 5 && s.start.porHeld) then s else (s.aonAt aon).alarm src

/-- A source leaves its alarm condition (R401). -/
def opTamperRecover (src : Nat) (s : State) : State :=
  { s with vault := { s.vault with alarms := setBit s.vault.alarms src false } }

/-- TAMPER_CLEAR is refused, or 0 (R401): the TSEQ of the newest record, and no enabled source in alarm. -/
def State.tamperClearCode (s : State) (v : Nat) : Nat :=
  match s.vault.records with
  | [] => 0x08
  | r :: _ => if fld v 0 4 != r.tseq then 0x08 else if (List.range 9).any (fun k => s.tamperEnabled k && bit s.vault.alarms k) then 0x09 else 0

/-- TAMPER_CLEAR (R401): the latch is cleared and a power-on reset follows. -/
def opTamperClear (s : State) : State := ({ s with vault := { s.vault with latch := false } } : State).por 7

/-! ## The always-on block (R36, R399, R522) -/

/-- VDD_AON has fallen below 0.720 V: the block moves to VBAT_AON; while the monitor is armed it is a supply alarm too. -/
def opAonChangeover (aon : Nat) (s : State) : State :=
  if s.vault.onBattery then s
  else opTamperAlarm 5 aon { s with vault := { s.vault with onBattery := true } }

/-- VDD_AON has returned. -/
def opAonRestore (s : State) : State := { s with vault := { s.vault with onBattery := false } }

/-- AON reset (R36, R399): both supplies are below their thresholds; records, latch and tamper configuration are lost. -/
def opAonReset (s : State) : State :=
  { s with
    vault := { s.vault with latch := false, alarms := 0, records := [], nextTseq := 1, aonLost := true, aonTime := 0, onBattery := false }
    dict := { s.dict with store := s.dict.store.filter (fun p => !isTamperCfg p.1) } }

/-- The AON-lost flag as a boot reads and clears it (R399): an alarm from OWNED on, only a record before that. -/
def State.readAonLost (s : State) : State :=
  if !s.vault.aonLost then s
  else
    let s := { s with vault := { s.vault with aonLost := false } }
    if s.vault.lc == .blank || s.vault.lc == .maker then s.tamperRecord 0x100 1 0xFFFF 0
    else if s.tamperEnabled 8 then
      let s := s.alarm 8
      { s with vault := { s.vault with alarms := setBit s.vault.alarms 8 false } }
    else s

/-! ## The commands -/

/-- MASK_ROTATION (R386): new masks and a sweep. -/
def execMaskRotation (s : State) : Host.Outcome State Fault Refusal :=
  .next (opMaskRotation s)

/-- VAULT_STAGE_TIMEOUT (R391). -/
def execVaultStageTimeout (now slot : Nat) (s : State) : Host.Outcome State Fault Refusal :=
  .next (opStageTimeout slot (s.atTime now))

/-- TAMPER_ALARM (R397). -/
def execTamperAlarm (now src aon : Nat) (s : State) : Host.Outcome State Fault Refusal := .next (opTamperAlarm src aon (s.atTime now))

/-- TAMPER_SOURCE_RECOVER (R401). -/
def execTamperSourceRecover (now src : Nat) (s : State) : Host.Outcome State Fault Refusal :=
  .next (opTamperRecover src (s.atTime now))

/-- AON_SUPPLY_CHANGEOVER (R522). -/
def execAonSupplyChangeover (now aon : Nat) (s : State) : Host.Outcome State Fault Refusal := .next (opAonChangeover aon (s.atTime now))

/-- AON_SUPPLY_RESTORE (R522). -/
def execAonSupplyRestore (now : Nat) (s : State) : Host.Outcome State Fault Refusal := .next (opAonRestore (s.atTime now))

/-- AON_RESET (R36). -/
def execAonReset (now : Nat) (s : State) : Host.Outcome State Fault Refusal := .next (opAonReset (s.atTime now))

end Sys2Proof.Machine
end

