-- ==== Sys2Proof/Machine/Access.lean ====
section
/-!
DEFINITION. Who may do what: the entries of the dictionary, the rights of each role in each life-cycle state, nonces,
one-shot credentials, sessions and tickets, owner keys, JTAG, and the checks that decide an access before its value is
looked at (R406–R424, R425–R429, R441).
-/
set_option Elab.async false
namespace Sys2Proof.Machine

/-! ## Entries (R425, R428, R441) -/

/-- The row of an entry that a chapter tables. -/
def findObj (idx sub : Nat) : Option ObjDef :=
  objTable.find? (fun d => d.idx ≤ idx && idx < d.idx + d.cnt && d.lo ≤ sub && sub ≤ d.hi)

/-- The index exists (R429, check 2). -/
def indexExists (idx : Nat) : Bool := objTable.any (fun d => d.idx ≤ idx && idx < d.idx + d.cnt)

/-- The highest subindex of an index. -/
def highestSub (idx : Nat) : Nat := maxL ((objTable.filter (fun d => d.idx ≤ idx && idx < d.idx + d.cnt)).map (·.hi))

/-- QUEUE_SCHED of a port's queue 7 is CONST (R287). -/
def constSched (idx sub : Nat) : Bool := decide (0x6B00 ≤ idx) && decide (idx < 0x6C00) && idx % 8 == 7 && sub == 1

/-- An entry: a tabled one (QUEUE_SCHED of queue 7 with the rights of a constant), or the constant at subindex 0x00 that holds the highest subindex (R425). -/
def entryOf (idx sub : Nat) : Option ObjDef :=
  match findObj idx sub with
  | some d => some (if constSched idx sub then { d with rights := 0x5555 } else d)
  | none =>
    if sub = 0 && indexExists idx then some ⟨idx, 1, 0, 0, 5, 1, 0x5555, false, highestSub idx, .any⟩ else none

/-- The default of an entry (R425): the tables' own, and those that depend on the index or the grade. -/
def objDefault (d : ObjDef) (idx sub : Nat) : Nat :=
  let i := idx - d.idx
  if d.idx = 0x1018 then [0x00474C4B, 0x8032, 0xA1, Config.serial % 4294967296].getD (sub - 1) 0
  else if d.idx = 0x1100 && sub = 1 then (if Config.gradeE then 1 else 2)
  else if d.idx = 0x1E00 && sub = 2 then 16 + i
  else if d.idx = 0x2900 && sub = 1 && i = 16 then 320
  else if d.idx = 0x3001 then sub - 1
  else if d.idx = 0x3108 && sub = 11 then i
  else if d.idx = 0x4900 && sub = 2 then i / 4
  else if d.idx = 0x5010 && sub = 5 then (match i with | 0 => 1568259000 | 1 => 1176450000 | _ => 1253175000)
  else if d.idx = 0x6880 && i = 0 then 0xFFFFFFFFFFFFFFFF00010001
  else if d.idx = 0x6B00 && sub = 1 && i % 8 = 7 then 1
  else if d.idx = 0x7000 && sub = 1 then clockIdentityDefault
  else if d.idx = 0x8C00 && sub = 4 then (if Config.gradeE then 10500 else 9000)
  else if d.idx = 0xA500 && sub = 3 then (if Config.gradeE then 60536 else 64536)
  else if d.idx = 0xA500 && sub = 4 then (if Config.gradeE then 12000 else 10500)
  else d.dflt

/-- Rights of a role as tabled: bit 0 read, bit 1 write. -/
def tabled (d : ObjDef) (r : Role) : Nat := if r = .none then 0 else bits d.rights (2 * r.code - 2) 2

/-- Tabled "RO all roles" or "CONST all roles" (R406). -/
def ObjDef.roAll (d : ObjDef) : Bool := d.rights % 16384 == 0x1555

/-- Some role may read it, or write it. -/
def ObjDef.readable (d : ObjDef) : Bool := d.rights &&& 0x1555 != 0
def ObjDef.writable (d : ObjDef) : Bool := d.rights &&& 0x2AAA != 0

/-- A time-affecting value (R415): in its ranges, writable, and not by KEEPER. -/
def ObjDef.timeAffecting (d : ObjDef) (idx : Nat) : Bool :=
  d.writable && !bit d.rights 5 &&
    ((0x2000 ≤ idx && idx < 0x6000) || (0x6400 ≤ idx && idx < 0x6500) || (0x7000 ≤ idx && idx < 0x8000 && idx / 16 != 0x782) ||
      (0xC800 ≤ idx && idx < 0xD000))

/-- A chapter names the object's writes as logged (R108, R126, R151, R179, R208, R229, R253, R268, R288, R310, R328, R350, R362,
R404, R469, R483, R497, R517, R540). -/
def loggedByName (idx sub : Nat) : Bool :=
  (0x2800 ≤ idx && idx < 0x3000) || (0x3900 ≤ idx && idx < 0x3920 && (sub == 2 || sub == 3)) || (0x3100 ≤ idx && idx < 0x3108 && sub == 14) ||
    (0x4000 ≤ idx && idx < 0x6000) || (0x6000 ≤ idx && idx < 0x6008 && sub == 3) ||
    (0x6100 ≤ idx && idx < 0x6120 && (sub == 10 || sub == 12)) || (0x6400 ≤ idx && idx < 0x6800) ||
    (idx == 0x6800 && (sub == 3 || sub == 4)) || (0x6810 ≤ idx && idx < 0x6850) || (0x6B00 ≤ idx && idx < 0x6C00 && (sub == 3 || sub == 5)) ||
    (0x7000 ≤ idx && idx < 0x8800) || (0x8C00 ≤ idx && idx < 0x9000) || (0xA000 ≤ idx && idx < 0xA800) ||
    (0xB000 ≤ idx && !(idx == 0xD010) && !(0xD100 ≤ idx && idx < 0xD110))

/-- Accepted writes are audited (R421). -/
def ObjDef.logged (d : ObjDef) (idx sub : Nat) : Bool := d.timeAffecting idx || loggedByName idx sub

/-- Kept in the configuration store (R441): RW for OWNER, KEEPER or MANAGER, and not writable by HOST. -/
def ObjDef.persisted (d : ObjDef) (idx : Nat) : Bool :=
  !bit d.rights 7 && (bits d.rights 2 2 == 3 || bits d.rights 4 2 == 3 || bits d.rights 12 2 == 3) && !(idx == 0xC800) &&
    !(0xA100 ≤ idx && idx < 0xA300)

/-- Shadowed or committed (R156, R235): the synthesis shadows, and QUAD_MODE and QUAD_FEC. -/
def shadowed (idx sub : Nat) : Bool :=
  (0x4800 ≤ idx && idx < 0x4804 && 1 ≤ sub && sub ≤ 4) || (0x4900 ≤ idx && idx < 0x4910 && 1 ≤ sub && sub ≤ 18) ||
    (0x6000 ≤ idx && idx < 0x6008 && (sub == 1 || sub == 2))

/-! ## Rights (R406, R413, R414) -/

/-- Entries that carry a one-shot credential (R411, R418). -/
def oneShot (idx sub : Nat) : Bool :=
  (idx == 0xA000 && sub == 2) || (idx == 0xA530 && sub == 1) || (idx == 0xA803 && sub == 4) || (idx == 0xC003 && sub == 2) ||
    (idx == 0xA820 && sub == 1)

/-- OWNER_TRANSFER. -/
def isTransfer (idx sub : Nat) : Bool := idx == 0xA803 && sub == 3

/-- Entries that any access may use (R406): OWNER_TRANSFER only in state MAKER, and in RETIRED only those of 0x1000–0x10FF
(log entry 60). -/
def State.openToAll (s : State) (d : ObjDef) (idx sub : Nat) : Bool :=
  d.anyAccess &&
    (if isTransfer idx sub then s.vault.lc == .maker else s.vault.lc != .retired || (0x1000 ≤ idx && idx < 0x1100))

/-- The group of R478 that an object belongs to. -/
def policyGroup (idx sub : Nat) : Option Nat :=
  if idx = 0x2810 && 1 ≤ sub && sub ≤ 3 then some 0
  else if (idx = 0x3000 && 1 ≤ sub && sub ≤ 4) || (0x3100 ≤ idx && idx < 0x3111 && sub == 2) then some 1
  else if (idx = 0x4012 && sub == 1) || (idx = 0x4420 && sub == 11) then some 2
  else if 0x7010 ≤ idx && idx < 0x7014 && (sub == 8 || sub == 9 || sub == 16) then some 3
  else if 0x7300 ≤ idx && idx < 0x7310 && 1 ≤ sub && sub ≤ 8 then some 4
  else if (0x7810 ≤ idx && idx < 0x7812 && 1 ≤ sub && sub ≤ 3) || (idx = 0x7812 && sub == 1) then some 5
  else if idx = 0x7801 && (sub == 3 || sub == 4 || sub == 5 || sub == 7) then some 6
  else if idx = 0xA801 && sub = 3 then some 7
  else none

/-- MANAGER may write the object: its group is open in DOMAIN_POLICY_MASK (R416, R478). -/
def State.policyOpen (s : State) (idx sub : Nat) : Bool :=
  match policyGroup idx sub with
  | some g => bit s.domainPolicyMask g
  | none => false

/-- Entries that are RW only in one mode, in which they are not now (R63, R67, R202, R208). -/
def State.modeBarred (s : State) (idx sub : Nat) : Bool :=
  (idx == 0x2100 && (sub == 1 || sub == 4 || sub == 5) && s.utcOffsetMode != 0) || (idx == 0x5001 && sub == 2 && s.gnPosMode != 0)

/-- Rights of a role before the life-cycle state limits them: as tabled, with what depends on a mode (R375, R428, R478). -/
def State.modeRights (s : State) (d : ObjDef) (idx sub : Nat) (r : Role) : Nat :=
  let t := tabled d r
  let t := if s.modeBarred idx sub then t &&& 1 else t
  if r = .manager then (t &&& 1) + 2 * b2n (s.policyOpen idx sub)
  else if r = .host && 0x8918 ≤ idx && idx < 0x8920 then t ||| 1
  else t

/-- Rights of a role as the life-cycle state limits them (R413, R414). -/
def State.roleRights (s : State) (d : ObjDef) (idx sub : Nat) (r : Role) : Nat :=
  let t := s.modeRights d idx sub r
  let late := if d.roAll || (0xC010 ≤ idx && idx < 0xC030) then t &&& 1 else 0
  match s.vault.lc, r with
  | _, .none => 0
  | .blank, .maker => b2n d.readable + 2 * b2n d.writable
  | .blank, .host => t &&& 1
  | .blank, _ => 0
  | .maker, .maker => t ||| s.modeRights d idx sub .owner
  | .maker, .owner => if isTransfer idx sub || (idx == 0xA000 && sub == 2) then t else 0
  | .maker, .host => t
  | .maker, _ => 0
  | .retired, .peer => 0
  | .retired, .manager => 0
  | .retired, _ => if (idx == 0xA000 && sub == 1) || (0x1000 ≤ idx && idx < 0x1100) then t &&& 1 else 0
  | _, .maker => late
  | .owned, .field => 0
  | _, .field => s.modeRights d idx sub .keeper
  | .debug, .owner => if 0xC800 ≤ idx && idx < 0xD000 then t &&& 1 else t
  | .debug, .peer => 0
  | .debug, .manager => 0
  | _, _ => t

/-- RIGHTS_NOW of a role for an entry (R428). -/
def State.rightsNow (s : State) (d : ObjDef) (idx sub : Nat) (r : Role) : Nat :=
  if s.openToAll d idx sub then b2n d.readable + 2 * b2n d.writable
  else if isTransfer idx sub then 0 else s.roleRights d idx sub r

/-- A role stands for the owning role of a slot (R379, R413): in BLANK and MAKER, MAKER has OWNER's rights; FIELD has KEEPER's. -/
def State.ownsSlot (s : State) (r : Role) (code : Nat) : Bool :=
  r.code == code && code != 0 || (r == .maker && (s.vault.lc == .blank || s.vault.lc == .maker) && code == 2) ||
    (r == .field && (s.vault.lc == .field || s.vault.lc == .debug) && code == 3)

/-- The slot that an access names. -/
def keySlotOf (idx v : Nat) : Nat := if idx = 0xA400 then fld v 0 2 else idx - 0xA100

/-- Rights that depend on the value or on the moment (R384, R390, R404, R409, R495, R517). `write` tells the direction. -/
def State.extraRights (s : State) (r : Role) (session : Option Nat) (write : Bool) (idx sub v : Nat) : Bool :=
  if idx = 0xA000 && sub = 2 then s.lcRole r (fld v 0 1)
  else if 0xA100 ≤ idx && idx < 0xA300 && write then
    if (s.slot (idx - 0xA100)).sstate = 0 then v == 0 || s.ownsSlot r (fld v 2 1) || 7 < fld v 2 1 || fld v 2 1 == 0
    else s.ownsSlot r (s.slot (idx - 0xA100)).role
  else if idx = 0xA400 && sub ≤ 5 then s.ownsSlot r (s.slot (fld v 0 2)).role || 512 ≤ fld v 0 2
  else if idx = 0xA400 && sub = 6 then r.code == s.vault.exportRole || s.vault.exportRole == 0
  else if idx = 0xA800 && sub = 4 then
    !(s.access.sessions.any (·.num == v)) || session == some v || r == .owner
  else if idx = 0xC003 && sub = 1 then !(v == 0xFFF3 && r == .host)
  else if idx = 0xD020 && sub ≤ 3 then r != .host || s.start.haltBundle
  else true

/-! ## Paths and the agent (R398, R430, R492, R505) -/

/-- Boot is halted. -/
def State.bootHalted (s : State) : Bool := s.start.haltBundle || s.start.haltTamper || s.start.haltF3

/-- An agent answers: the dictionary agent, the halted one, or the recovery agent. It needs the engines and the object bus, so it
answers no request while ENG or CORE is gated (R27, R42). -/
def State.agentUp (s : State) : Bool := s.coreRuns && s.engClock && !s.start.porHeld && !s.start.inReset && !s.start.sleep && (s.start.agent || s.bootHalted)

/-- A path carries requests to the agent. -/
def State.pathUp (s : State) (p : Path) : Bool :=
  s.agentUp &&
    match p with
    | .pcie => s.dict.pcieUp
    | .msp => true
    | .canA => !s.bootHalted && ((s.canOf 0).state == 1 || (s.canOf 0).state == 2)
    | .canB => !s.bootHalted && ((s.canOf 1).state == 1 || (s.canOf 1).state == 2)
    | .esxia => !s.bootHalted && s.esxiaEnable
    | .jtag => false
    | .peer => false
    | .firmware => false

/-- Default role of a path (R406). -/
def defaultRole (p : Path) : Role :=
  match p with
  | .pcie => .host
  | .msp => .host
  | .canA => .none
  | .canB => .none
  | .esxia => .none
  | .jtag => .none
  | .peer => .none
  | .firmware => .none

/-- ANON_READ lets a path read without a role (R406). -/
def State.anonOn (s : State) (p : Path) : Bool :=
  match p with
  | .canA => bit s.anonRead 0
  | .canB => bit s.anonRead 1
  | .esxia => bit s.anonRead 2
  | .pcie => false
  | .msp => false
  | .jtag => false
  | .peer => false
  | .firmware => false

/-- What a halted agent serves (R398, R492, R505; log entry 61). -/
def State.haltServes (s : State) (idx sub : Nat) (write : Bool) : Bool :=
  if s.start.haltBundle then
    if write then idx == 0xD020 && sub ≤ 3
    else (idx == 0xA000 && sub == 1) || (idx == 0xD000 && (sub == 1 || sub == 4)) || (0xC000 ≤ idx && idx < 0xC030) || idx == 0xD020
  else
    (idx == 0xA000 && sub == 1) || (0xA500 ≤ idx && idx ≤ 0xA530) || (idx == 0xA800 && sub == 1) ||
      (s.start.haltF3 &&
        ((idx == 0xC000 && sub == 1) || idx == 0xC002 || (idx == 0xC004 && sub == 5) || idx == 0xC020 || (idx == 0xC003 && sub == 2) ||
          (idx == 0xD000 && (sub == 1 || sub == 4))))

/-! ## Nonces and one-shot credentials (R409, R411) -/

/-- What a path holds. -/
def State.pathState (s : State) (p : Path) : PathState := (s.access.paths.find? (·.path == p)).getD (PathState.init p)

/-- What a path holds, changed. -/
def State.onPath (s : State) (p : Path) (f : PathState → PathState) : State :=
  { s with access := { s.access with paths := s.access.paths.map (fun x => if x.path == p then f x else x) } }

/-- The 32 bytes of a nonce. -/
def nonceValue (n : Nat) : Nat := Config.random n % 2 ^ 256

/-- The path's current nonce, while it is not used and not older than 10 s. -/
def State.liveNonce (s : State) (p : Path) : Option Nat :=
  match (s.pathState p).nonce with
  | some (n, t) => if s.tb.lc < t + secs 10 then some n else none
  | none => none

/-- A path's nonce is used up. -/
def State.useNonce (s : State) (p : Path) : State := s.onPath p (fun x => { x with nonce := none })

/-- AUTH_CHALLENGE read on a path (R409). -/
def State.challenge (s : State) (p : Path) : State × Nat :=
  let n := s.access.nonces + 1
  let t := { s with access := { s.access with nonces := n } }
  (t.onPath p (fun x => { x with nonce := some (n, s.tb.lc) }), nonceValue n)

/-! ## Sessions (R409, R410) -/

/-- A session by number. -/
def State.session (s : State) (n : Nat) : Option Session := s.access.sessions.find? (·.num == n)

/-- A session changed. -/
def State.onSession (s : State) (n : Nat) (f : Session → Session) : State :=
  { s with access := { s.access with sessions := s.access.sessions.map (fun x => if x.num = n then f x else x) } }

/-- The session that an access names, if it is open on its path and, on Esxia, comes from its source. -/
def State.accSession (s : State) (a : Acc) : Option Session :=
  match a.session with
  | none => none
  | some n =>
    match s.session n with
    | some x => if x.path == a.path && (a.path != .esxia || x.src == a.src) then some x else none
    | none => none

/-- Bit of TPATHS for a path. -/
def pathBit (p : Path) : Nat := p.code - 1

/-- A ticket is accepted (R410); `sig` tells whether TSIG verifies under the current owner key. -/
def State.ticketOk (s : State) (p : Path) (role t : Nat) (sig : Bool) : Bool :=
  let g := s.gNow
  sig && fld t 0 1 == 1 && fld t 1 1 == role && fld t 3 1 == 0 && fld t 12 4 == 0 && fld t 129 3 == 0 &&
    (fld t 4 4 == 0 || fld t 4 4 == Config.serial % 4294967296) && s.ticketMinId ≤ fld t 8 4 && p.code ≤ 5 &&
    bit (fld t 2 1) (pathBit p) && bits (fld t 2 1) 5 3 == 0 &&
    (role != 5 || s.vault.lc == .field || s.vault.lc == .debug) && s.tb.isSet && g != girthUnknown &&
    decide ((fld t 16 8 * secUnits : Nat) ≤ s.full - (g * 4096 : Nat)) && decide (s.full + (g * 4096 : Nat) ≤ (fld t 24 8 * secUnits : Nat))

/-- The life-cycle state admits a session of a role (R413). -/
def State.admits (s : State) (r : Role) : Bool :=
  match s.vault.lc, r with
  | .blank, .maker => true
  | .blank, _ => false
  | .maker, .maker => true
  | .maker, .owner => true
  | .maker, _ => false
  | .owned, .field => false
  | _, _ => true

/-- AUTH_OPEN carries the path's live nonce (R409). -/
def State.namesNonce (s : State) (p : Path) (v : Nat) : Bool :=
  match s.liveNonce p with
  | some n => nonceValue n == fld v 4 32
  | none => false

/-- AUTH_OPEN is refused with a code, or 0 (R409). The proof and the ticket's signature are the access's own. -/
def State.authOpenCode (s : State) (a : Acc) (v : Nat) : Nat :=
  let code := fld v 0 1
  let r := Role.ofCode code
  if !([1, 2, 3, 5].contains code) || fld v 1 3 != 0 then 0x08
  else if !s.namesNonce a.path v || !a.proof ||
      ((code = 3 || code = 5) && !s.ticketOk a.path code (fld v 229 228) (a.outcome == 0)) then 0x05
  else if !s.admits r then 0x09
  else if 16 ≤ s.access.sessions.length || 4 ≤ (s.access.sessions.filter (·.path == a.path)).length then 0x09
  else 0

/-- The lowest session number that is free. -/
def State.freeSession (s : State) : Nat :=
  ((List.range 16).map (· + 1)).find? (fun n => !s.access.sessions.any (·.num == n)) |>.getD 1

/-- The session that AUTH_OPEN opens. -/
def State.openSession (s : State) (a : Acc) (v : Nat) : State :=
  let n := s.freeSession
  let code := fld v 0 1
  let t := code = 3 || code = 5
  let x : Session := { num := n, role := Role.ofCode code, path := a.path, ticketId := if t then fld v 237 4 else 0, ticketed := t, notAfter := if t then fld v 253 8 else 0, opened := s.tai.toNat, src := a.src, host := a.host, port := a.port, seq := none, busy := false, resp := none, sealFails := 0, lastReq := s.tb.lc, describe := 0, calSel := 0 }
  let (eph, s) := s.draw
  let s := { s with access := { s.access with sessions := s.access.sessions ++ [x] } }
  s.onPath a.path (fun p => { p with reply := some (n, a.src, eph) })

/-- AUTH_OPEN (R409, R543): its verdict, the audit record, and the session. With the code. -/
def State.authOpen (s : State) (a : Acc) (v : Nat) : State × Nat :=
  let c := s.authOpenCode a v
  let r := Role.ofCode (fld v 0 1)
  let tick := if fld v 0 1 = 3 || fld v 0 1 = 5 then fld v 237 4 else 0
  let used := if [1, 2, 3, 5].contains (fld v 0 1) && fld v 1 3 == 0 && s.namesNonce a.path v then s.useNonce a.path else s
  if c != 0 then
    (used.auditEvent { atype := 4, role := r, path := a.path.code, index := 0xA800, sub := 2, result := c, ticket := tick }, c)
  else match used.audit { atype := 3, role := r, path := a.path.code, session := s.freeSession, index := 0xA800, sub := 2, ticket := tick } with
    | some t => (t.openSession a v, 0)
    | none => (used, 0x0A)

/-- AUTH_CLOSE ends the session it names. -/
def opAuthClose (n : Nat) (s : State) : State :=
  match s.session n with
  | some x => s.endSession 1 x
  | none => s

/-- A session has had no request for AUTH_IDLE seconds (R409). -/
def opIdleTimeout (n : Nat) (s : State) : State :=
  match s.session n with
  | some x => if x.lastReq + secs s.authIdle ≤ s.tb.lc then s.endSession 2 x else s
  | none => s

/-- NOT_AFTER of a session's ticket has passed (R409). -/
def opTicketExpire (n : Nat) (s : State) : State :=
  match s.session n with
  | some x => if x.ticketed && (x.notAfter : Int) ≤ s.tai then s.endSession 3 x else s
  | none => s

/-- TICKET_MIN_ID written (R424). -/
def opTicketMinId (v : Nat) (s : State) : State :=
  (s.put 0xA801 3 v).endSessions 4 (fun x => x.ticketed && decide (x.ticketId < v))

/-! ## Owner keys and JTAG (R412, R418) -/

/-- OWNER_TRANSFER registers the hash of the proposed key. -/
def opTransfer (v : Nat) (s : State) : State :=
  { s with access := { s.access with transfer := some (Config.sha384 [v % 2 ^ 776]) } }

/-- OWNER_KEY_ROTATE fuses the next key's hash. -/
def opRotate (v : Nat) (s : State) : State :=
  { s with access := { s.access with ownerKeys := s.access.ownerKeys ++ [Config.sha384 [v % 2 ^ 776]] } }

/-- JTAG_STATE as it reads (R418, R423). -/
def State.jtagState (s : State) : Nat := if s.access.jtag = 0 && s.vault.lc == .debug then 1 else s.access.jtag

/-- JTAG_UNLOCK: boundary scan and engine debug. -/
def opJtagUnlock (s : State) : State := { s with access := { s.access with jtag := 2 } }

/-- A debugger attaches where JTAG offers more than IDCODE and BYPASS; each attach writes an audit record (R418, R543). -/
def opJtagAttach (s : State) : State :=
  if s.jtagState = 0 then s
  else ({ s with access := { s.access with jtag := 3 } } : State).auditEvent { atype := 8, path := 6, value := 3 }

/-- The JTAG reset (R36): the TCK group and the debug logic. -/
def opJtagReset (s : State) : State :=
  { s with access := { s.access with jtag := 0 }, engs := { s.engs with eng := s.engs.eng.map (fun g => { g with halted := false }) } }

/-! ## The checks (R429, checks 1 to 9) -/

/-- An access as it is judged: role, and whether it was made inside a session of R409 or a domain session. -/
structure Who where
  role : Role
  inSession : Bool
deriving DecidableEq, Repr

/-- The role of an access: of its session, of its credential, or of its path. None when it names no session of its own. -/
def State.whoIs (s : State) (a : Acc) (idx sub : Nat) (write : Bool) : Option Who :=
  if write && oneShot idx sub then some ⟨a.role, false⟩
  else match a.session with
    | none => some ⟨defaultRole a.path, false⟩
    | some _ => (s.accSession a).map (fun x => ⟨x.role, true⟩)

/-- A plain Esxia request that R440 allows. -/
def State.esxiaPlainOk (s : State) (d : ObjDef) (idx sub : Nat) (write : Bool) : Bool :=
  if write then idx == 0xA800 && sub == 2
  else (idx == 0xA800 && (sub == 1 || sub == 3)) || (d.roAll && s.anonOn .esxia)

/-- The entry is not offered on the path, or inside an envelope (R392, R409, R432). -/
def State.notOffered (s : State) (a : Acc) (idx sub v : Nat) (write : Bool) : Bool :=
  (idx == 0x1030 && (a.session.isSome || a.env || a.path == .esxia)) ||
    (idx == 0xA800 && sub == 3 && a.session.isSome) ||
    (idx == 0xA400 && sub == 1 && write && s.slotMode (fld v 0 2) == 1 && a.path != .pcie && a.path != .msp)

/-- An access has the right it needs (check 7), a credential apart. -/
def State.hasRight (s : State) (a : Acc) (w : Who) (d : ObjDef) (idx sub v : Nat) (write : Bool) : Bool :=
  let bitNo := if write then 1 else 0
  (bit (s.rightsNow d idx sub w.role) bitNo || (w.role == .none && !write && d.roAll && s.anonOn a.path)) &&
    s.extraRights w.role a.session write idx sub v

/-- The length fits (check 9); a read has none. -/
def lenOk (d : ObjDef) (len : Nat) : Bool := if d.ty = 0x09 || d.idx = 0x1030 then len ≤ d.len else len == d.len

/-- Checks 1 to 9 in order, with the two refusals between checks 3 and 4; 0 when all pass (R429). -/
def State.firstChecks (s : State) (a : Acc) (w : Who) (idx sub v : Nat) (write : Bool) : Nat :=
  if 64 ≤ a.queued then 0x0E
  else if !indexExists idx then 0x01
  else match entryOf idx sub with
    | none => 0x02
    | some d =>
      if a.path == .esxia && a.session.isNone && w.role == .none && !s.esxiaPlainOk d idx sub write then 0x06
      else if s.bootHalted && !s.haltServes idx sub write then 0x09
      else if s.notOffered a idx sub v write then 0x0D
      else if !write && !d.readable then 0x03
      else if write && !d.writable then 0x04
      else if !s.hasRight a w d idx sub v write then 0x05
      else if write && oneShot idx sub && ((s.liveNonce a.path).isNone || !a.proof) then 0x05
      else if write && d.timeAffecting idx && !w.inSession then 0x06
      else if write && !lenOk d a.len then 0x07
      else 0

/-! ## Descriptors (R428) -/

/-- RIGHTS_NOW of all roles. -/
def State.rightsMask (s : State) (d : ObjDef) (idx sub : Nat) : Nat :=
  ([Role.maker, .owner, .keeper, .host, .field, .peer, .manager].map (fun r => s.rightsNow d idx sub r * 4 ^ (r.code - 1))).sum +
    d.rights / 16384 % 2 * 16384

/-- The 32-byte descriptor of the selected entry. -/
def State.descriptor (s : State) (sel : Nat) : Nat :=
  let idx := sel % 65536
  let sub := sel / 65536 % 256
  match entryOf idx sub with
  | none => lePack [(2, 0xFFFF), (1, 0xFF), (29, 0)]
  | some d =>
    let flags := ofBits [d.timeAffecting idx, d.logged idx sub, shadowed idx sub, d.persisted idx]
    lePack [(2, idx), (1, sub), (1, d.ty), (2, d.len), (2, d.rights), (2, s.rightsMask d idx sub), (1, flags), (1, 0),
      (16, if d.readable then objDefault d idx sub else 0), (4, 0)]

/-! ## The commands -/

/-- SESSION_IDLE_TIMEOUT (R409). -/
def execSessionIdleTimeout (now num : Nat) (s : State) : Host.Outcome State Fault Refusal := .next (opIdleTimeout num (s.atTime now))

/-- SESSION_TICKET_EXPIRE (R409). -/
def execSessionTicketExpire (now num : Nat) (s : State) : Host.Outcome State Fault Refusal := .next (opTicketExpire num (s.atTime now))

/-- JTAG_ATTACH (R418). -/
def execJtagAttach (now : Nat) (s : State) : Host.Outcome State Fault Refusal := .next (opJtagAttach (s.atTime now))

/-- JTAG_RESET (R36). -/
def execJtagReset (now : Nat) (s : State) : Host.Outcome State Fault Refusal := .next (opJtagReset (s.atTime now))

end Sys2Proof.Machine
end

