-- ==== Sys2Proof/Machine/Pair.lean ====
section
/-!
DEFINITION. The redundant pair: the halter's lease, claims and releases, the peer's messages, snapshots, planned handoffs, swaps
and diagnostics (R445–R470, R544).
-/
set_option Elab.async false
namespace Sys2Proof.Machine

/-! ## Pairing (R446) -/

/-- A slot that pairing accepts: LOADED, HKDF secret, derive only, ROLE PEER (R446, R470). -/
def State.pairSlotOk (s : State) (n : Nat) : Bool :=
  decide (n < 512) && (s.slot n).sstate == 2 && (s.slot n).alg == 6 && (s.slot n).use == 4 && (s.slot n).role == Role.peer.code

/-- The part's own conditions for joining a pair (R446, R414). -/
def State.mayPair (s : State) : Bool :=
  s.pairEnable && s.pairSlotOk s.pairKeySlot && (s.vault.lc == .owned || s.vault.lc == .field) && s.net.peerActive != 0xFF

/-- A counter of PAIR_COUNTERS. -/
def State.pairCount (s : State) (k : Nat) : State := { s with pair := { s.pair with counters := bumpAt k s.pair.counters } }

/-- The pair session keys are wiped (R446). -/
def State.pairWipe (s : State) : State :=
  { s with pair := { s.pair with keys := false, pseqIn := none, peer := none, snapBuf := [], thetas := [] } }

/-- Gratuitous advertisements for the shared addresses (R453). -/
def State.advertise (s : State) : State :=
  let n := (List.range 64).countP (fun h => bit s.pairSharedAddrs h && fld (s.hostAddr h) 0 1 != 0)
  { s with pair := { s.pair with garps := bumpBy s.pair.garps (3 * n) } }

/-! ## Standby states (R447, R456) -/

/-- The alignment condition over the last 16 exchanges (R456). -/
def State.aligned (s : State) : Bool :=
  let l := s.pair.thetas
  l.length == 16 && decide (l.sum.natAbs * 1000 ≤ 16 * s.handoffAlign * 65536) &&
    decide (3 * s.pair.sigma * 1000 ≤ s.handoffAlign * 65536)

/-- The last snapshot is no older than SNAP_MAX_AGE (R447). -/
def State.snapFresh (s : State) : Bool :=
  match s.pair.snapTime with
  | some t => decide (s.tb.lc ≤ t + millis s.snapMaxAge)
  | none => false

/-- The state of a standby whose peer link is alive (R447; log entry 90). -/
def State.standbyState (s : State) : PState :=
  if !s.pair.keys then s.idlePState
  else if !s.pair.fit then .unfit
  else if s.pair.snapTime.isNone then .syncing
  else if s.aligned && s.snapFresh then .ready
  else .aligning

/-- A standby takes the state that its conditions give. DIAG, a handoff, and a lost peer link end by their own events (R466,
R463, R456). -/
def State.judge (s : State) : State :=
  if !s.pairEnable || s.pair.lease || [PState.diag, .handoff, .isolated, .claiming].contains s.pair.state then s
  else
    let x := s.standbyState
    { s with pair := { s.pair with
        state := x
        readySince := if x == .ready then some (s.pair.readySince.getD s.tb.lc) else none } }

/-- The peer link is heard again (R456): a standby that had lost it is judged anew. -/
def State.heard (s : State) : State :=
  if !s.pair.lease && (s.pair.state == .isolated || s.pair.state == .claiming) && s.pair.keys then
    ({ s with pair := { s.pair with state := .syncing } } : State).judge
  else s

/-! ## Messages (R458) -/

/-- A sealed message is accepted: its tag passes under the session key and its PSEQ is new (R446, R458). -/
def State.peerIn (s : State) (pseq : Nat) (tag : Bool) : State × Bool :=
  if !s.pair.keys || !tag then (s.pairCount 4, false)
  else if s.pair.pseqIn.any (fun p => decide (pseq ≤ p)) then (s, false)
  else ({ s with pair := { s.pair with pseqIn := some pseq } }, true)

/-- HELLO (R446): the keys are derived when every condition holds; equal straps raise 0x1204 (R451). -/
def opHello (serial lc : Nat) (preferred : Bool) (svn : Nat) (hmac : Bool) (s : State) : State :=
  if !s.mayPair || !hmac || serial != s.pairPeerSerial || !(lc == 2 || lc == 3) then s
  else
    let p : Peer := { serial := serial, lc := lc, preferred := preferred, fwSvn := svn, state := 1, fit := true, aligned := false, girth := girthUnknown, epoch := 0, configMatch := false }
    let s := { s with pair := { s.pair with keys := true, pseqIn := none, peer := some p, fullDue := s.pair.lease
                                            thetas := [], silL := s.tb.lc } }
    let s := if s.pair.lease then s
      else if s.pair.state == .diag then s
      else ({ s with pair := { s.pair with state := .syncing } } : State).judge
    s.level (preferred == s.pair.preferred) 0x1204

/-- RENEW (R458): link silence restarts, a standing RELEASE is void, and the peer claim is held (R216, R227). -/
def opRenew (pseq : Nat) (tag : Bool) (c : Claim) (s : State) : State :=
  match s.peerIn pseq tag with
  | (s, false) => s
  | (s, true) =>
    let s := { s with pair := { s.pair with silL := s.tb.lc, release := none } }
    let s := (s.putClaim 17 { c with auth := true, rx := s.tb.lc }).clearFault 0x1205
    s.heard

/-! ## Planned handoffs (R462–R464) -/

/-- LEAP_TAI lies within 60 s of a second (R462). -/
def State.nearLeap (s : State) (th : Nat) : Bool :=
  s.leapPending != 0 && decide (((th : Int) - s.leapTai).natAbs ≤ 60)

/-- The first second boundary at least 2 s ahead, TAI seconds (R463). -/
def State.nextTh (s : State) : Nat := ((s.full + 2 * 65536000000000 + 65535999999999) / 65536000000000).toNat

/-- What each part checks of itself for a handoff at `th` (R462). -/
def State.handoffOwn (s : State) (th : Nat) : Bool :=
  s.pair.configMatch && s.tb.utcValid && !s.switchingNow && !s.nearLeap th

/-- The receiver is READY and fit by its last STATUS, and its configuration matches (R462). -/
def State.peerReady (s : State) : Bool :=
  s.pair.keys && s.pair.peer.any (fun p => p.state == 4 && p.fit && p.configMatch)

/-- The releaser proposes a handoff for a cause of PAIR_LAST_CAUSE, or records that R462 stops it. A scheduled swap and a return
need W4 (R462). -/
def State.propose (s : State) (cause : Nat) : State :=
  let th := s.nextTh
  if !s.pair.lease || s.pair.handoff.any (fun h => h.accepted) then s
  else if s.peerReady && s.handoffOwn th && !((cause == 3 || cause == 4) && bit (withheld s.gov.level) 4) then
    let h : Handoff := { releaser := true, th := th, cause := cause, accepted := false, committed := false, cancelled := false, claimed := false, fullSent := false, pulse := 0 }
    ({ s with pair := { s.pair with handoff := some h } } : State).peerSend 7 [1, th, cause]
  else s.raise 0x120B

/-- HANDOFF propose (R463, step 1): a READY standby whose conditions hold accepts. -/
def opHandoffPropose (pseq : Nat) (tag : Bool) (th cause : Nat) (s : State) : State :=
  match s.peerIn pseq tag with
  | (s, false) => s
  | (s, true) =>
    if s.pair.lease then s
    else if s.judge.pair.state == .ready && s.pair.fit && s.handoffOwn th then
      let h : Handoff := { releaser := false, th := th, cause := cause, accepted := true, committed := false, cancelled := false, claimed := false, fullSent := false, pulse := 0 }
      ({ s with pair := { s.pair with handoff := some h, state := .handoff, readySince := none } } : State).peerSend 7 [2, th, cause]
    else s.raise 0x120B

/-- The handoff of a role changed. -/
def State.onHandoff (s : State) (f : Handoff → Handoff) : State :=
  { s with pair := { s.pair with handoff := s.pair.handoff.map f } }

/-- This part is the releaser, or the receiver, of an accepted handoff. -/
def State.releasing (s : State) : Bool := s.pair.lease && s.pair.handoff.any (fun h => h.releaser && h.accepted)
def State.receiving (s : State) : Bool := s.pair.handoff.any (fun h => !h.releaser)

/-- HANDOFF accept (R463, step 1): both parts read 0x09. -/
def opHandoffAccept (pseq : Nat) (tag : Bool) (s : State) : State :=
  match s.peerIn pseq tag with
  | (s, false) => s
  | (s, true) =>
    if s.pair.lease && s.pair.handoff.any (fun h => h.releaser && !h.accepted) then
      let s := s.onHandoff (fun h => { h with accepted := true })
      ({ s with pair := { s.pair with state := .handoff } } : State).regate
    else s

/-- HANDOFF commit (R463, step 4). -/
def opHandoffCommit (pseq : Nat) (tag : Bool) (s : State) : State :=
  match s.peerIn pseq tag with
  | (s, false) => s
  | (s, true) => if s.receiving then s.onHandoff (fun h => { h with committed := true }) else s

/-- The releaser gives a handoff up: it goes on holding (R463, step 4). -/
def State.cancelOut (s : State) : State :=
  (({ s with pair := { s.pair with handoff := none, state := .active } } : State).pairCount 7).regate

/-- HANDOFF cancel (R463, step 4): the receiver stops its lease at T_h; a releaser goes on holding. -/
def opHandoffCancel (pseq : Nat) (tag : Bool) (s : State) : State :=
  match s.peerIn pseq tag with
  | (s, false) => s
  | (s, true) =>
    if s.releasing then s.cancelOut
    else if s.receiving then s.onHandoff (fun h => { h with cancelled := true })
    else s

/-- HALTER_LEASE and HALTER_GUARD take effect at a claim (R470). -/
def State.takeLease (s : State) : State := s.takeLate (fun k => k == 0xB00002 || k == 0xB00003)

/-- The sanctioned window of a planned handoff has begun, 50 ms before T_h (R450, R463 step 3). -/
def State.sanctioned (s : State) : Bool :=
  s.pair.handoff.any (fun h => h.accepted && decide ((h.th : Int) * 65536000000000 - 3276800000000 ≤ s.full))

/-- The lease timer starts with a claim (R448, R470). -/
def State.startLease (s : State) : State :=
  let s := s.takeLease
  { s with pair := { s.pair with lease := true, leaseT := s.tb.lc, leaseMs := s.halterLease, renewFailed := false, release := none } }

/-- T_h − 50 ms (R463, step 3): the receiver's sanctioned claim; `pass` when both steps of R451 pass. -/
def opReceiverClaim (pass : Bool) (s : State) : State :=
  if s.receiving && s.sanctioned && !s.pair.lease && pass && !s.pairHoldStandby then
    s.startLease.onHandoff (fun h => { h with claimed := true })
  else s

/-- A HANDOFF message of the handoff under way (R458). -/
def State.handoffSend (s : State) (step : Nat) : State :=
  match s.pair.handoff with
  | some h => s.peerSend 7 [step, h.th, h.cause]
  | none => s

/-- T_h − 1 ms (R463, step 4): commit when the receiver has pulsed within a quarter lease, its STATUS shows this part's epoch and
alignment, and no cause of this part's own has ended its lease; otherwise cancel. -/
def opCommitCheck (s : State) : State :=
  if !s.releasing then s
  else
    let ok := s.pair.handoff.any (fun h => h.claimed && h.fullSent && decide (s.tb.lc ≤ h.pulse + millis s.pair.leaseMs / 4)) &&
      s.pair.peer.any (fun p => p.epoch == s.pair.outEpoch && p.aligned)
    if ok then (s.onHandoff (fun h => { h with committed := true })).handoffSend 3
    else (s.handoffSend 4).cancelOut

/-- An output's period, 2⁻¹⁶ ns, rounded up (R453). -/
def State.outPeriod (s : State) (n : Nat) : Nat :=
  let o := s.out n
  if o.mode = 0 then
    let p := s.apll o.apll
    let f := p.plan s.synth.fosc
    if f = 0 then secUnits else cdiv (secUnits * 1000000 * 281474976710656 * p.p * p.q * o.div) f
  else if o.mode = 1 then (if o.rate = 0 then secUnits else cdiv secUnits o.rate)
  else secUnits

/-- The drivers come under the halter's enable: an idle output drives its idle level (R161), and none starts before `t` plus one
of its periods when `gap` (R453). -/
def State.enableOutputs (s : State) (gap : Bool) : State :=
  { s with synth := { s.synth with outs := s.synth.outs.mapIdx (fun n o =>
      { o with highZ := if o.running then o.highZ else o.idle == 1
               notBefore := s.tb.lc + (if gap then s.outPeriod n else 0) }) } }

/-- The part has become the holder (R447, R453, R464): its terms freeze as at a takeover, unless it already follows a reference of its own or
was no standby (log entry 134), its selector leaves the peer, and the shared addresses are advertised. -/
def State.becomeHolder (s : State) (cause : Nat) (gap : Bool) : State :=
  let own := s.sel.current < 17 && !s.switchingNow && !s.pair.following
  let s := if own || s.pair.state == .joining then s else s.freezeGirth .takeover
  let s := s.unfollow
  let s := { s with pair := { s.pair with
    state := .active
    handoff := none
    readySince := none
    fullDue := true
    lastCause := cause
    lastSwap := s.tai
    lastScheduled := cause == 3 } }
  (s.enableOutputs gap).advertise

/-- T_h (R463, steps 5 and 6). -/
def opHandoffExecute (s : State) : State :=
  match s.pair.handoff with
  | none => s
  | some h =>
    if h.releaser then
      if s.pair.lease && h.committed then
        let s := (s.pairCount 1).stopLease 6
        ({ s with pair := { s.pair with
            state := if h.cause == 3 then .diag else s.pair.state
            lastCause := h.cause
            lastSwap := s.tai
            lastScheduled := h.cause == 3 } } : State).regate
      else
        let s := { s with pair := { s.pair with handoff := none, state := if s.pair.lease then .active else s.pair.state } }
        s.regate
    else if !h.claimed then
      let s := { s with pair := { s.pair with handoff := none, state := .syncing } }
      s.judge
    else if h.cancelled then
      ((s.stopLease 7).pairCount 7).judge
    else if h.committed then (s.pairCount 1).becomeHolder h.cause false
    else s

/-- A receiver without commit has seen no pulse of the releaser for HALTER_LEASE after T_h (R463): it starts its outputs. -/
def opNoCommit (s : State) : State :=
  match s.pair.handoff with
  | none => s
  | some h =>
    if !h.releaser && h.claimed && !h.committed && !h.cancelled && s.pair.lease && decide ((h.th : Int) ≤ s.tai) &&
        decide ((h.th : Int) * 65536000000000 + millis s.pair.leaseMs ≤ s.full) && decide (h.pulse + millis s.pair.leaseMs ≤ s.tb.lc) then
      (s.pairCount 1).becomeHolder h.cause true
    else s

/-! ## The lease (R448–R450) -/


/-- The wires' levels as sampled; a wire that stays low is 0x1206 (R468). -/
def State.sampleWires (s : State) (a b : Bool) : State :=
  let s := { s with pair := { s.pair with wireA := a, wireB := b } }
  (s.level (!a) 0x1206 0).level (!b) 0x1206 1

/-- The girth block as a message carries it (R222): GIRTH, NHOPS, GFLAGS, GROWTH and the hops. -/
def State.girthBlock (s : State) : List Nat :=
  let l := s.trace s.gNow
  [s.gNow, l.length, s.gflags l, s.growthField] ++ l.map packHop

/-- The lease restarts, and RENEW is sent: lease remaining, health verdict, TIME_VALID and the girth block (R449, R458). -/
def State.renewed (s : State) : State :=
  let s := { s with pair := { s.pair with leaseT := s.tb.lc, renewFailed := false } }
  s.peerSend 2 ([s.pair.leaseMs, 1, b2n s.girth.timeValid] ++ s.girthBlock)

/-- STATUS of a part that does not hold (R458): PAIR_STATE, PAIR_FIT, θ, σ_θ, GIRTH_NOW and the last applied epoch, with what it asks for: 1 a
full epoch (R460), 4 a handoff back (R467). -/
def State.statusSend (s : State) (ask : Nat) : State :=
  s.peerSend 3 [s.pair.state.code, b2n s.pair.fit, unsigned 8 s.pair.theta, s.pair.sigma, s.gNow, s.pair.snapEpoch, ask]

/-! ## Snapshots as the holder sends them (R459, R461) -/

/-- The configuration digest (R459): every persisted object that does not hold its default, but for the exceptions. -/
def State.configDigest (s : State) : Nat :=
  let keep (p : Nat × Nat) : Bool :=
    let idx := p.1 / 256
    let sub := p.1 % 256
    match entryOf idx sub with
    | none => false
    | some d => d.persisted idx && p.2 != objDefault d idx sub &&
      !((0x1000 ≤ idx && idx < 0x2000) || (0xB000 ≤ idx && idx < 0xB800) || (0xC800 ≤ idx && idx < 0xD000)) &&
      (!(0x6810 ≤ idx && idx < 0x6850) || bit s.pairSharedAddrs (idx - 0x6810))
  Config.sha384 ((s.dict.store.filter keep).flatMap (fun p => [p.1, p.2]))

/-- A grant as a snapshot lists it. -/
def State.snapGrant (s : State) (ended : Bool) (g : Grant) : SnapGrant :=
  ⟨g.inst, g.addr, g.portId, g.mtype, g.logPeriod, (((g.expiry : Int) + s.tb.offset * 65536) / 65536000000000).toNat, (g.seq + 65535) % 65536, ended⟩

/-- Two grants are of one requester and message type. -/
def Grant.same (a b : Grant) : Bool := a.inst == b.inst && a.addr == b.addr && a.portId == b.portId && a.mtype == b.mtype

/-- The grants of an epoch: all, or those added, renewed and ended since the previous one. -/
def State.snapGrants (s : State) (full : Bool) : List SnapGrant :=
  if full then s.ptp.grants.map (s.snapGrant false)
  else (s.ptp.grants.filter (fun g => !s.pair.outGrants.any (fun o => o.same g && o.expiry == g.expiry && o.logPeriod == g.logPeriod))).map (s.snapGrant false) ++
    (s.pair.outGrants.filter (fun o => !s.ptp.grants.any (fun g => o.same g))).map (s.snapGrant true)

/-- The sequenceIds of the messages that this part sends, by port. -/
def State.snapSeqs (s : State) : List (Nat × Nat × Nat) :=
  (List.range 32).flatMap (fun p =>
    let x := s.pport p
    [(p, 0, x.annSeq), (p, 1, x.syncSeq), (p, 2, x.dreqSeq), (p, 3, x.pdSeq)])

/-- The keys of the slots that PAIR_KEY_SLOTS names, LOADED with EXPORT = 1 (R461). -/
def State.snapKeys (s : State) : List SnapKey :=
  ((List.range 16).map (fun j => fld s.pairKeySlots (2 * j) 2)).filterMap (fun n =>
    let x := s.slot n
    if n < 512 && x.sstate == 2 && bit x.flags 0 then some ⟨n, x.alg, x.use, x.role, x.kcv, x.key, true⟩ else none)

/-- A section with its content (R459; log entry 136). -/
def snapSection (stype epoch : Nat) (fields : List (Nat × Nat)) : SnapSection :=
  { stype := stype, epoch := epoch, len := (fields.map (·.1)).sum, content := lePack fields, grants := [], seqs := [], keys := [], config := none }

/-- The sections of an epoch (R459). -/
def State.snapSections (s : State) (epoch : Nat) (full : Bool) : List SnapSection :=
  let g := s.snapGrants full
  [{ snapSection 1 epoch (g.flatMap (fun x => [(1, x.inst), (16, x.addr), (10, x.portId), (1, x.mtype), (1, unsigned 1 x.logPeriod), (8, x.expiry),
       (2, x.seq), (1, b2n x.ended)])) with grants := g },
   { snapSection 2 epoch (s.snapSeqs.flatMap (fun x => [(1, x.1), (1, x.2.1), (2, x.2.2)])) with seqs := s.snapSeqs },
   { snapSection 3 epoch (s.snapKeys.flatMap (fun k => [(2, k.slot), (64, Config.wrap k.key s.pairKeySlot)])) with keys := s.snapKeys },
   { snapSection 4 epoch [(48, s.configDigest)] with config := some s.configDigest }]

/-- The holder sends an epoch: its sections and its trailer (R459). -/
def State.sendEpoch (s : State) (full : Bool) : State :=
  let n := bump s.pair.outEpoch
  let l := s.snapSections n full
  let s := l.foldl (fun s x => s.peerSend 5 [x.stype, x.epoch, x.len]) s
  let s := s.peerSend 6 [n, if full then 1 else 2, s.pair.outEpoch, l.length, (l.map (·.len)).sum, Config.sha384 (l.map (·.content))]
  { s with pair := { s.pair with outEpoch := n, lastFull := if full then n else s.pair.lastFull, fullDue := false
                                 outSections := l, outGrants := s.ptp.grants } }

/-- The releaser's full epoch falls due at T_h − 100 ms (R463, step 2). -/
def State.handoffEpoch (s : State) : State :=
  if s.releasing && s.pair.handoff.any (fun h => !h.fullSent && decide ((h.th : Int) * 65536000000000 - 6553600000000 ≤ s.full)) then
    (s.onHandoff (fun h => { h with fullSent := true })).sendEpoch true
  else s

/-- Writes of the pair's other objects take effect (R470). -/
def State.takePair (s : State) : State := s.takeLate (fun k => (0xB00006 ≤ k && k ≤ 0xB0000B) || (0xB00100 ≤ k && k < 0xB00200))

/-- Objects of the pair whose writes wait: HALTER_LEASE and HALTER_GUARD for the next claim, the others for the next quarter tick (R470). -/
def pairLate (k : Nat) : Bool := k == 0xB00002 || k == 0xB00003 || (0xB00006 ≤ k && k ≤ 0xB0000B) || (0xB00100 ≤ k && k < 0xB00200)

/-- A quarter tick (R449, R458): the holder's renewal with its four samples; the STATUS of a part that does not hold. -/
def opQuarterTick (verdict lowA lowB highA highB : Bool) (s : State) : State :=
  let s := s.takePair
  if !s.pairEnable then s
  else if s.pair.lease then
    if verdict && s.sc0Runs then
      let s := s.sampleWires highA highB
      let s := if lowA && lowB && highA && highB then s.renewed
        else (({ s with pair := { s.pair with renewFailed := true } } : State).pairCount 2).raise 0x1201
      s.handoffEpoch
    else s.handoffEpoch
  else if s.pair.keys then s.judge.statusSend 0
  else s

/-- The lease expires (R448, R449): after a failed renewal that is F2. -/
def opLeaseExpire (s : State) : State :=
  if s.pair.lease then
    let failed := s.pair.renewFailed
    let s := s.stopLease 1
    if failed then s.raise 0x1202 else s
  else s

/-- A wire reads low outside the holder's windows (R450): the lease stops, unless it is the peer's pulse in the sanctioned window of a planned
handoff. -/
def opForeignLow (s : State) : State :=
  if !s.pair.lease then s
  else if s.sanctioned then s.onHandoff (fun h => { h with claimed := true, pulse := s.tb.lc })
  else
    let s := (s.stopLease 4).pairCount 3
    ({ s with pair := { s.pair with lastCause := 7 } } : State).raise 0x1203

/-! ## Claims (R451) -/

/-- A part with PREFERRED low defers by a quarter lease (R451). -/
def State.deferral (s : State) : Nat := if s.pair.preferred then 0 else millis s.halterLease / 4

/-- All three paths have been silent for the time of R451, and equal straps do not forbid a claim on silence. -/
def State.silentClaim (s : State) : Bool :=
  let t := millis (s.halterLease + s.halterGuard) + s.deferral
  decide (s.pair.silA + t ≤ s.tb.lc) && decide (s.pair.silB + t ≤ s.tb.lc) && decide (s.pair.silL + t ≤ s.tb.lc) &&
    !(s.pair.keys && s.pair.peer.any (fun p => p.preferred == s.pair.preferred))

/-- A RELEASE stands, and the deferral has passed (R451). -/
def State.releaseClaim (s : State) : Bool :=
  match s.pair.release with
  | some t => decide (t + s.deferral ≤ s.tb.lc)
  | none => false

/-- A claim from this state is a takeover (R451). -/
def PState.takesOver (p : PState) : Bool :=
  [PState.syncing, .aligning, .ready, .diag, .unfit, .isolated, .claiming].contains p

/-- A claim that passes makes the part the holder (R451): a takeover is counted. -/
def State.takeHalter (s : State) : State :=
  let cause := if s.pair.release.isSome then 2 else if s.pair.state.takesOver then 1 else s.pair.lastCause
  let s := if s.pair.state.takesOver then s.pairCount 0 else s
  s.startLease.becomeHolder cause true

/-- HALTER_CLAIM (R451): `highA` and `highB` are the wires' levels before the claim, `pass` its own checks. -/
def opHalterClaim (highA highB pass : Bool) (s : State) : State :=
  let s := if s.pair.lease then s else s.takeLease
  if !s.pairEnable || s.pair.lease || s.pairHoldStandby || s.receiving then s
  else if !s.releaseClaim && !(s.silentClaim && highA && highB) then s.sampleWires highA highB
  else
    let s := s.sampleWires highA highB
    if pass then s.takeHalter else { s with pair := { s.pair with release := none } }

/-- RELEASE (R544): a holder ignores it. -/
def opRelease (pseq : Nat) (tag : Bool) (s : State) : State :=
  match s.peerIn pseq tag with
  | (s, false) => s
  | (s, true) => if s.pair.lease then s else { s with pair := { s.pair with release := some s.tb.lc } }

/-- A falling edge on a wire at a part that does not hold (R451): its silence restarts; the other wire, silent while this wire and
the link are alive, is 0x1207 (R468). `back` says that the wire has risen again. -/
def opWireFall (w : Nat) (back : Bool) (s : State) : State :=
  if !s.pairEnable || s.pair.lease then s
  else
    let s := { s with pair := if w = 0 then { s.pair with silA := s.tb.lc } else { s.pair with silB := s.tb.lc } }
    let s := if w = 0 then s.sampleWires back s.pair.wireB else s.sampleWires s.pair.wireA back
    let other := if w = 0 then s.pair.silB else s.pair.silA
    (s.clearFault 0x1207 (w % 2)).level (s.silent other && !s.silent s.pair.silL) 0x1207 (1 - w % 2)

/-! ## Giving up (R454) -/

/-- An F2 fault of a subsystem in PAIR_YIELD_MASK is active (R454). -/
def State.yieldFault (s : State) : Bool :=
  s.faults.active.any (fun a => a.2.2 == 2 && bit s.pairYieldMask (a.1 / 256))

/-- A cause of R454 that calls for a planned handoff holds. -/
def State.yieldCause (s : State) : Bool :=
  s.pairHoldStandby || s.tb.coarse != 0 || s.yieldFault ||
    (decide (s.girthLimit < s.gNow) && s.pair.peer.any (fun p => decide (p.girth ≤ s.girthLimit)))

/-- PAIR_YIELD_CHECK (R454): a handoff to a READY peer, or an F0 record. -/
def opYieldCheck (s : State) : State :=
  if s.pair.lease && s.yieldCause && s.pair.handoff.isNone then
    if s.peerReady then s.propose 5 else s.raise 0x120B
  else s

/-! ## Following the peer (R106, R456) -/

/-- σ_θ over the exchanges held (log entry 12). -/
def thetaSigma (l : List Int) : Nat :=
  let n : Nat := l.length
  let q : Int := n * (l.map (fun x => x * x)).sum - l.sum * l.sum
  if n = 0 then 0 else isqrt (q.toNat / (n * n))

/-- One processed measurement, e = −θ (R456) less a φ_b that is still slewed out (R122; log entry 135); ACQUIRE steps as R117 says (log entry
92). -/
def State.followPeer (s : State) (t : Nat) : State :=
  let e := -s.pair.theta - s.servo.phiB
  if s.servo.stepWait then s
  else if s.servo.state == .acquire && s.start.state != .locked &&
      (!s.tb.isSet || decide (s.stepThreshold * nsUnits ≤ e.natAbs)) then
    { s with tb := { s.tb with pendStep := some (e.tdiv 65536) }, servo := { s.servo with stepWait := true, lockRun := 0 } }
  else
    s.processError e t

/-- This part's own extended stamps of the last second (R106): of the marker it sent, on channel 0x1F, and of the one it received, on channel
0x1D, corrected by the active lane's delay constants. -/
def State.ownMarker (s : State) : Option (Int × Int) :=
  match (s.chan 0x1F).lastStamp, (s.chan 0x1D).lastStamp with
  | some t, some r =>
    some (t + s.tb.offset * 65536 + s.calVal (eid 0x0B (2 * s.net.peerActive)),
      r + s.tb.offset * 65536 - s.calVal (eid 0x0B (2 * s.net.peerActive + 1)))
  | _, _ => none

/-- A marker exchange (R106): the peer's extended stamps of its own marker and of this part's, against this part's own stamps on
channels 0x1F and 0x1D, corrected by the active lane's delay constants. -/
def opMarker (pseq : Nat) (tag : Bool) (tPeer rPeer : Int) (s : State) : State :=
  match s.peerIn pseq tag with
  | (s, false) => s
  | (s, true) =>
    match s.ownMarker with
    | some (tOwn, rOwn) =>
      if s.net.peerActive == 0xFF then s
      else
        let a := rOwn - tPeer
        let b := rPeer - tOwn
        let l := newest 16 (rdiv (a - b) 2 :: s.pair.thetas)
        let s := { s with pair := { s.pair with theta := rdiv (a - b) 2, delta := rdiv (a + b) 2, thetas := l, thetaT := some s.tb.lc, sigma := thetaSigma l } }
        let s := if s.servo.suspended || !s.pair.following then s
          else (if s.switchingNow then s.endBuildOut (some (-s.pair.theta)) else s.followPeer s.tb.lc).recalc
        s.judge
    | none => s

/-- The peer link has fallen silent (R456, R468). -/
def opLinkSilence (s : State) : State :=
  if !s.pairEnable then s
  else if s.pair.lease then s.raise 0x1205
  else
    let s := s.leavePeer
    if s.pair.state == .isolated then s.raise 0x1205 else s

/-! ## Snapshots (R459–R461) -/

/-- A snapshot's grant takes its place (R459). -/
def State.applyGrant (s : State) (g : SnapGrant) : State :=
  let rest := s.ptp.grants.filter (fun x => !(x.inst == g.inst && x.addr == g.addr && x.portId == g.portId && x.mtype == g.mtype))
  let e := ((g.expiry : Int) * 65536000000000 - s.tb.offset * 65536).toNat
  let l : List Grant := if g.ended then [] else [⟨g.inst, g.addr, g.portId, g.mtype, g.logPeriod, e, (g.seq + 1) % 65536⟩]
  { s with ptp := { s.ptp with grants := rest ++ l } }

/-- A sequenceId of a port takes its place (R459). -/
def State.applySeq (s : State) (x : Nat × Nat × Nat) : State :=
  s.onPPort x.1 (fun p =>
    if x.2.1 = 0 then { p with annSeq := x.2.2 } else if x.2.1 = 1 then { p with syncSeq := x.2.2 }
    else if x.2.1 = 2 then { p with dreqSeq := x.2.2 } else { p with pdSeq := x.2.2 })

/-- A key blob is unwrapped into its slot, or the mismatch is counted and raised (R461); a slot that holds the key already keeps
it (log entry 94). -/
def State.applyKey (s : State) (k : SnapKey) : State :=
  let x := s.slot k.slot
  if x.sstate == 2 && x.kcv == k.kcv && x.alg == k.alg then s
  else if k.good && x.sstate == 1 && x.alg == k.alg && x.use == k.use && x.role == k.role && !bit x.flags 1 then
    s.setSlot k.slot { x with sstate := 2, kcv := k.kcv, key := k.key }
  else (s.pairCount 5).raise 0x1209 k.slot

/-- One section of a verified epoch is applied (R460). -/
def State.applySection (s : State) (full : Bool) (x : SnapSection) : State :=
  let s := if full && x.stype = 1 then { s with ptp := { s.ptp with grants := [] } } else s
  let s := x.grants.foldl State.applyGrant s
  let s := x.seqs.foldl State.applySeq s
  let s := x.keys.foldl State.applyKey s
  match x.config with
  | some c =>
    let m := c == s.configDigest
    ({ s with pair := { s.pair with configMatch := m } } : State).level (!m) 0x1208
  | none => s

/-- SNAP_SECTION (R460): a standby buffers. -/
def opSnapSection (pseq : Nat) (tag : Bool) (x : SnapSection) (s : State) : State :=
  match s.peerIn pseq tag with
  | (s, false) => s
  | (s, true) => if s.pair.lease then s else { s with pair := { s.pair with snapBuf := s.pair.snapBuf ++ [x] } }

/-- SNAP_TRAILER (R460): the epoch is applied in one step, or discarded; a delta without its base asks for a full epoch. -/
def opSnapTrailer (pseq : Nat) (tag : Bool) (epoch kind base count total digest : Nat) (s : State) : State :=
  match s.peerIn pseq tag with
  | (s, false) => s
  | (s, true) =>
    if s.pair.lease then s
    else
      let l := s.pair.snapBuf.filter (·.epoch == epoch)
      let s := { s with pair := { s.pair with snapBuf := [] } }
      let held := s.pair.snapTime.isSome && base == s.pair.snapEpoch
      if !(l.length == count && (l.map (·.len)).sum == total && Config.sha384 (l.map (·.content)) == digest) then s
      else if kind == 1 || kind == 2 && held then
        let s := l.foldl (fun s x => s.applySection (kind == 1) x) s
        ({ s with pair := { s.pair with snapEpoch := epoch, snapTime := some s.tb.lc } } : State).ptpOver.judge
      else if kind == 2 then s.statusSend 1
      else s

/-- What the pair does at an anchor: both parts send their marker, and the holder its epoch (R106, R459). -/
def State.pairAnchor (s : State) : State :=
  if !s.pairEnable || !s.pair.keys then s
  else
    let s := match s.ownMarker with
      | some (t, r) => s.peerSend 4 [unsigned 12 t, unsigned 12 r]
      | none => s
    if s.pair.lease then
      let full := s.pair.fullDue || decide (s.snapFullPeriod ≤ bump s.pair.outEpoch - s.pair.lastFull)
      s.sendEpoch full
    else s.judge

/-! ## Status, swaps, diagnostics and return (R458, R465–R467) -/

/-- STATUS (R458): what the non-holder reports; it may ask for a full epoch (R460) or for a handoff back (R467). -/
def opPairStatus (pseq : Nat) (tag : Bool) (state : Nat) (fit aligned : Bool) (girth epoch : Nat) (cfg full back : Bool) (s : State) : State :=
  match s.peerIn pseq tag with
  | (s, false) => s
  | (s, true) =>
    let f (p : Peer) : Peer := { p with state := state, fit := fit, aligned := aligned, girth := girth, epoch := epoch, configMatch := cfg }
    let s := { s with pair := { s.pair with
      peer := s.pair.peer.map f
      configMatch := if s.pair.lease then cfg else s.pair.configMatch
      fullDue := s.pair.fullDue || full } }
    let s := if s.pair.lease then s.clearFault 0x1205 else s
    if back && s.pair.lease && s.pair.handoff.isNone then s.propose 4 else s

/-- The quiet window holds a TAI second (R465). -/
def State.inWindow (s : State) (tai : Int) : Bool :=
  decide ((tai - s.utcOffset - s.swapWindowStart) % 86400 < s.swapWindowLen)

/-- A scheduled swap is due (R465). -/
def State.swapOld (s : State) : Bool := s.swapPeriod != 0 && decide (s.pair.lastSwap + 3600 * s.swapPeriod ≤ s.tai)

/-- PAIR_NEXT_SWAP (R465, R469): the planned TAI second, 0 for none. -/
def State.nextSwap (s : State) : Nat :=
  if !s.pair.lease || s.swapPeriod = 0 then 0
  else
    let t := max s.tai (s.pair.lastSwap + 3600 * s.swapPeriod)
    let into := (t - s.utcOffset - s.swapWindowStart) % 86400
    (if into < s.swapWindowLen then t else t + 86400 - into).toNat

/-- SWAP_PROPOSE (R465): one that R462 stops is tried again after 60 s inside the window; while W4 is withheld the swap waits for a decision in the same window (R358). -/
def opSwapPropose (s : State) : State :=
  let late := s.pair.swapTry.all (fun t => decide (t + secs 60 ≤ s.tb.lc))
  if s.pair.lease && s.swapOld && s.inWindow s.tai && s.pair.handoff.isNone && late then
    if bit (withheld s.gov.level) 4 then { s with pair := { s.pair with swapDue := true } }
    else
      let t := ({ s with pair := { s.pair with swapDue := false } } : State).propose 3
      { t with pair := { t.pair with swapTry := if t.pair.handoff.isNone then some t.tb.lc else none } }
  else s

/-- A swap that waited for W4 is recorded when its window ends (R358). -/
def State.swapMissed (s : State) : State :=
  if s.pair.swapDue && !s.inWindow s.tai then ({ s with pair := { s.pair with swapDue := false } } : State).raise 0x0E04 else s

/-- Full diagnostics may be commanded: the part is a standby (R466, R469). -/
def State.diagOk (s : State) : Bool :=
  !s.pair.lease && [PState.syncing, .aligning, .ready, .unfit, .isolated].contains s.pair.state

/-- PAIR_COMMAND 0x3C (R466). -/
def opPairDiag (s : State) : State := { s with pair := { s.pair with state := .diag, readySince := none } }

/-- Full diagnostics end (R466): a failure clears PAIR_FIT. -/
def opDiagDone (result : Nat) (s : State) : State :=
  if s.pair.state == .diag then
    let s := { s with pair := { s.pair with diagResult := result % 256, fit := result % 256 == 0, state := .syncing } }
    let s := if s.pair.keys then s.judge else { s with pair := { s.pair with state := if s.pair.fit then s.idlePState else .unfit } }
    s.level (!s.pair.fit) 0x120A
  else s

/-- PAIR_RETURN (R467): a preferred standby asks for a handoff back through STATUS. -/
def opPairReturn (s : State) : State :=
  let held := match s.pair.readySince with
    | some t => decide (t + secs s.returnHold ≤ s.tb.lc)
    | none => false
  let dwell := !s.pair.lastScheduled || decide (s.pair.lastSwap + s.swapDwell ≤ s.tai)
  if s.pairRevertive && s.pair.preferred && s.pair.state == .ready && s.pair.fit && held && dwell && s.pair.keys then s.statusSend 4 else s

/-! ## Writes of the pair's objects (R454, R470) -/

/-- HELLO (R446, R458): SERIAL_NUMBER, LC_STATE, PREFERRED and FW_SVN. -/
def State.helloSend (s : State) : State :=
  s.peerSend 1 [Config.serial, s.vault.lc.code, b2n s.pair.preferred, s.fwSvn]

/-- Joining starts again on a part that does not hold (R470). -/
def State.rejoin (s : State) : State :=
  if s.pair.lease then s
  else
    let s := if s.pair.following then s.leavePeer else s
    let s := s.pairWipe
    let s := { s with pair := { s.pair with state := s.idlePState, silA := s.tb.lc, silB := s.tb.lc, silL := s.tb.lc, release := none, snapTime := none } }
    if s.mayPair then s.helloSend else s

/-- PAIR_ENABLE takes a value: 0 releases a holder (R544), 1 makes the outputs wait for the halter (R161, R446). -/
def opPairEnable (on : Bool) (s : State) : State :=
  if on == s.pairEnable then s.rejoin
  else if on then ((s.put 0xB000 1 1).haltOutputs.hushPorts).rejoin
  else
    let s := ((s.stopLease 5).put 0xB000 1 0).takePair.takeLease.rejoin
    s.onOuts (fun o => { o with highZ := if o.running then o.highZ else o.idle == 1 })

/-- A write of PAIR_ENABLE = 0 is refused on a holder while the peer is not SINGLE (R470). -/
def State.pairEnableBarred (s : State) (v : Nat) : Bool :=
  v == 0 && s.pair.lease && s.pair.peer.any (fun p => p.state != 0)

/-! ## Peer lanes (R251, R252, R446) -/

/-- A peer lane that is enabled completes bring-up with PCS lock and its CTLE code (R238, R251, R252, R446): with no lane active it becomes the active one, and the part sends HELLO on it. -/
def opPeerLaneUp (p : Nat) (s : State) : State :=
  if 2 ≤ p || !bit s.peerLaneEnable p || (s.peerLane p).state != 4 || !(s.peerLane p).swept then s
  else
    let s := s.onPeer p (fun x => { x with state := 5, upAt := s.tb.lc })
    let s := s.clearFault 0x0904 p
    let s := if s.net.peerActive == 0xFF then { s with net := { s.net with peerActive := p } } else s
    if s.net.peerActive == p && s.pairEnable then
      let s := if s.pair.lease || s.pair.state == .diag then s else { s with pair := { s.pair with state := .joining } }
      s.helloSend
    else s

/-- A peer lane goes down (R252, R446). -/
def opPeerLaneDown (p : Nat) (s : State) : State :=
  if 2 ≤ p then s
  else
    let s := s.beginPeer p
    let s := if s.net.peerActive == p then
        if s.peerUp (1 - p) then s.peerSwitch (1 - p)
        else
          let s := { s with net := { s.net with peerActive := 0xFF } }
          (s.leavePeer).pairWipe
      else s
    s.raise 0x0904 p

/-- The figure of merit has been below LANE_FOM_MIN, or a peer lane's default of it, for 1 s: a retrain (R242, R245, R251, R252). -/
def opFomMin (l : Nat) (s : State) : State :=
  if 32 ≤ l then if missed (s.peerLane (l - 32)).minRun && s.peerUp (l - 32) then opPeerLaneDown (l - 32) s else s
  else if missed (s.lane l).minRun then opRetrain l s
  else s

/-! ## Meanings -/

/-- FOM_MIN_TIMEOUT (R242). -/
def execFomMinTimeout (now l : Nat) (s : State) : Host.Outcome State Fault Refusal := .next (opFomMin l (s.atTime now))


/-- HALTER_QUARTER_TICK (R449). -/
def execHalterQuarterTick (now : Nat) (verdict lowA lowB highA highB : Bool) (s : State) : Host.Outcome State Fault Refusal :=
  .next (opQuarterTick verdict lowA lowB highA highB (s.atTime now))

/-- LEASE_EXPIRE (R448). -/
def execLeaseExpire (now : Nat) (s : State) : Host.Outcome State Fault Refusal := .next (opLeaseExpire (s.atTime now))

/-- FOREIGN_LOW (R450). -/
def execForeignLow (now : Nat) (s : State) : Host.Outcome State Fault Refusal := .next (opForeignLow (s.atTime now))

/-- HALTER_CLAIM (R451). -/
def execHalterClaim (now : Nat) (highA highB pass : Bool) (s : State) : Host.Outcome State Fault Refusal :=
  .next (opHalterClaim highA highB pass (s.atTime now))

/-- PAIR_YIELD_CHECK (R454). -/
def execPairYieldCheck (now : Nat) (s : State) : Host.Outcome State Fault Refusal := .next (opYieldCheck (s.atTime now))

/-- HELLO (R446). -/
def execHello (now serial lc : Nat) (preferred : Bool) (svn : Nat) (hmac : Bool) (s : State) : Host.Outcome State Fault Refusal :=
  .next (opHello serial lc preferred svn hmac (s.atTime now))

/-- RENEW (R458). -/
def execRenew (now pseq : Nat) (tag : Bool) (c : Claim) (s : State) : Host.Outcome State Fault Refusal :=
  .next (opRenew pseq tag c (s.atTime now))

/-- PAIR_STATUS (R458). -/
def execPairStatus (now pseq : Nat) (tag : Bool) (state : Nat) (fit aligned : Bool) (girth epoch : Nat) (cfg full back : Bool) (s : State) : Host.Outcome State Fault Refusal :=
  .next (opPairStatus pseq tag state fit aligned girth epoch cfg full back (s.atTime now))

/-- MARKER (R106). -/
def execMarker (now pseq : Nat) (tag : Bool) (tPeer rPeer : Int) (s : State) : Host.Outcome State Fault Refusal :=
  .next (opMarker pseq tag tPeer rPeer (s.atTime now))

/-- SNAP_SECTION (R460). -/
def execSnapSection (now pseq : Nat) (tag : Bool) (x : SnapSection) (s : State) : Host.Outcome State Fault Refusal :=
  .next (opSnapSection pseq tag x (s.atTime now))

/-- SNAP_TRAILER (R460). -/
def execSnapTrailer (now pseq : Nat) (tag : Bool) (epoch kind base count total digest : Nat) (s : State) : Host.Outcome State Fault Refusal :=
  .next (opSnapTrailer pseq tag epoch kind base count total digest (s.atTime now))

/-- HANDOFF_PROPOSE (R463). -/
def execHandoffPropose (now pseq : Nat) (tag : Bool) (th cause : Nat) (s : State) : Host.Outcome State Fault Refusal :=
  .next (opHandoffPropose pseq tag th cause (s.atTime now))

/-- HANDOFF_ACCEPT (R463). -/
def execHandoffAccept (now pseq : Nat) (tag : Bool) (s : State) : Host.Outcome State Fault Refusal :=
  .next (opHandoffAccept pseq tag (s.atTime now))

/-- HANDOFF_COMMIT (R463). -/
def execHandoffCommit (now pseq : Nat) (tag : Bool) (s : State) : Host.Outcome State Fault Refusal :=
  .next (opHandoffCommit pseq tag (s.atTime now))

/-- HANDOFF_CANCEL (R463). -/
def execHandoffCancel (now pseq : Nat) (tag : Bool) (s : State) : Host.Outcome State Fault Refusal :=
  .next (opHandoffCancel pseq tag (s.atTime now))

/-- HANDOFF_RECEIVER_CLAIM (R463). -/
def execHandoffReceiverClaim (now : Nat) (pass : Bool) (s : State) : Host.Outcome State Fault Refusal :=
  .next (opReceiverClaim pass (s.atTime now))

/-- HANDOFF_COMMIT_CHECK (R463). -/
def execHandoffCommitCheck (now : Nat) (s : State) : Host.Outcome State Fault Refusal := .next (opCommitCheck (s.atTime now))

/-- HANDOFF_EXECUTE (R463). -/
def execHandoffExecute (now : Nat) (s : State) : Host.Outcome State Fault Refusal := .next (opHandoffExecute (s.atTime now))

/-- HANDOFF_NO_COMMIT_TIMEOUT (R463). -/
def execHandoffNoCommitTimeout (now : Nat) (s : State) : Host.Outcome State Fault Refusal := .next (opNoCommit (s.atTime now))

/-- RELEASE (R544); what the part does with it does not depend on the cause byte. -/
def execRelease (now pseq : Nat) (tag : Bool) (_cause : Nat) (s : State) : Host.Outcome State Fault Refusal :=
  .next (opRelease pseq tag (s.atTime now))

/-- SWAP_PROPOSE (R465). -/
def execSwapPropose (now : Nat) (s : State) : Host.Outcome State Fault Refusal := .next (opSwapPropose (s.atTime now))

/-- PAIR_DIAG_DONE (R466). -/
def execPairDiagDone (now result : Nat) (s : State) : Host.Outcome State Fault Refusal := .next (opDiagDone result (s.atTime now))

/-- PAIR_RETURN (R467). -/
def execPairReturn (now : Nat) (s : State) : Host.Outcome State Fault Refusal := .next (opPairReturn (s.atTime now))

/-- PEER_LANE_UP (R446). -/
def execPeerLaneUp (now p : Nat) (s : State) : Host.Outcome State Fault Refusal := .next (opPeerLaneUp p (s.atTime now))

/-- PEER_LANE_DOWN (R446). -/
def execPeerLaneDown (now p : Nat) (s : State) : Host.Outcome State Fault Refusal := .next (opPeerLaneDown p (s.atTime now))

/-- PEER_LINK_SILENCE (R456). -/
def execPeerLinkSilence (now : Nat) (s : State) : Host.Outcome State Fault Refusal := .next (opLinkSilence (s.atTime now))

/-- HALT_WIRE_FALL (R451). -/
def execHaltWireFall (now w : Nat) (back : Bool) (s : State) : Host.Outcome State Fault Refusal :=
  .next (opWireFall w back (s.atTime now))

end Sys2Proof.Machine
end

