-- ==== Sys2Proof/Machine/Domain.lean ====
section
/-!
DEFINITION. The hierarchy domain: joining, QUALITY and STATUS, policy, keys, and the loss of a manager or a worker (R471–R484).
The application of a POLICY stands in Machine/Writes.lean, with the other writes.
-/
set_option Elab.async false
namespace Sys2Proof.Machine

/-! ## Taking part (R471, R482) -/

/-- A slot that a domain accepts: LOADED, HKDF secret, derive only, ROLE MANAGER (R471, R484). -/
def State.domainSlotOk (s : State) (n : Nat) : Bool :=
  decide (n < 512) && (s.slot n).sstate == 2 && (s.slot n).alg == 6 && (s.slot n).use == 4 && (s.slot n).role == Role.manager.code

/-- The part takes part in a domain (R471). -/
def State.mayDomain (s : State) : Bool :=
  (s.domainRole == 1 || s.domainRole == 2) && s.domainId != 0 && s.domainSlotOk s.domainKeySlot &&
    (s.vault.lc == .owned || s.vault.lc == .field) && s.esxiaEnable

/-- The part acts as a manager: not as a standby (R482). -/
def State.managing (s : State) : Bool := s.mayDomain && s.domainRole == 1 && !s.standby

/-- The part acts as a worker. -/
def State.working (s : State) : Bool := s.mayDomain && s.domainRole == 2

/-- DOMAIN_STATE (R483; log entry 96). -/
def State.domainState (s : State) : Nat := if s.managing then 5 else if s.working then s.domain.state else 0

/-- A counter of DOMAIN_COUNTERS. -/
def State.domCount (s : State) (k : Nat) : State := { s with domain := { s.domain with counters := bumpAt k s.domain.counters } }

/-- A message is sent: TYPE, worker and the fields of its content (R474). It is of the timing class (R274), and leaves by the lowest port of
ESXIA_PORTS (log entry 162). -/
def State.domSend (s : State) (ty w : Nat) (v : List Nat) : State :=
  let s := { s with domain := { s.domain with sent := (ty, w, v) :: s.domain.sent.take 15 } }
  match (List.range 32).find? (fun p => bit s.esxiaPorts p) with
  | some p => (s.sendOwn p (.domain ty w v) (udpFrame p 4 s.esxiaUdpPort (36 + 8 * v.length))).1
  | none => s

/-- A request of an Esxia source is within ESXIA_RATE for this second, or is dropped and counted (R440, R474). -/
def State.esxiaAdmit (s : State) (src : Nat) : State × Bool :=
  let l := if s.dict.esxiaSecond == s.tai then s.dict.esxiaRate else []
  let n := (l.lookup src).getD 0
  if s.esxiaRate ≤ n then ({ s with dict := { s.dict with esxiaDrops := bump s.dict.esxiaDrops } }, false)
  else ({ s with dict := { s.dict with esxiaSecond := s.tai, esxiaRate := putKey src (n + 1) l } }, true)

/-- A hierarchy message reaches the part (R440, R471, R474): the oldest Esxia frame that waits leaves the host account (R273). -/
def State.domainArrives (s : State) (src : Nat) : State × Bool :=
  if s.mayDomain && s.engsRun then (s.takeTerm (fun t => t.service == 3)).1.esxiaAdmit src else (s, false)

/-! ## Records of workers -/

/-- The live session of a number. -/
def State.worker (s : State) (w : Nat) : Option Worker := s.domain.workers.find? (fun x => x.num == w && x.state == 2)

/-- The record of a number written. -/
def State.putWorker (s : State) (x : Worker) : State :=
  let rest := s.domain.workers.filter (·.num != x.num)
  { s with domain := { s.domain with workers := rest.filter (·.num < x.num) ++ [x] ++ rest.filter (fun y => x.num < y.num) } }

/-- A sealed message of a worker is accepted: session, tag and DSEQ (R474). -/
def State.fromWorker (s : State) (w dseq : Nat) (tag : Bool) : State × Option Worker :=
  if !s.managing then (s, none)
  else match s.worker w with
    | none => (s.domCount 1, none)
    | some x =>
      if !tag || x.dseqIn.any (fun d => decide (dseq ≤ d)) then (s.domCount 1, none)
      else (s.putWorker { x with dseqIn := some dseq }, some { x with dseqIn := some dseq })

/-- A sealed message of the manager is accepted. -/
def State.fromManager (s : State) (dseq : Nat) (tag : Bool) : State × Bool :=
  if !s.working then (s, false)
  else if !s.domain.session || !tag || s.domain.dseqIn.any (fun d => decide (dseq ≤ d)) then (s.domCount 1, false)
  else ({ s with domain := { s.domain with dseqIn := some dseq } }, true)

/-- A sealed message is sent to a worker, or by a worker (R474). -/
def State.toWorker (s : State) (ty : Nat) (x : Worker) (v : List Nat) : State :=
  (s.putWorker { x with dseqOut := x.dseqOut + 1 }).domSend ty x.num v
def State.toManager (s : State) (ty : Nat) (v : List Nat) : State :=
  ({ s with domain := { s.domain with dseqOut := s.domain.dseqOut + 1 } } : State).domSend ty s.workerNumber v

/-! ## Joining (R472, R473) -/

/-- The fields of JOIN and of JOIN_ACK but the HMAC, with a fresh nonce, which is a free value (R474; log entry 141). -/
def State.joinFields (s : State) : State × List Nat :=
  let (n, s) := s.draw
  (s, [s.domainId, s.workerNumber, s.vault.lc.code, Config.serial, s.clockIdentity, s.fwSvn, s.domain.epoch, n])
def State.ackFields (s : State) (w r : Nat) : State × List Nat :=
  let (n, s) := s.draw
  (s, [s.domainId, w, r, Config.serial, s.clockIdentity, n])

/-- A worker sends JOIN until it is acknowledged (R472); after a final refusal it sends none (R473). -/
def opJoinTx (s : State) : State :=
  if s.working && s.engsRun && !s.domain.session && s.domain.state != 4 then
    let (s, v) := s.joinFields
    s.domSend 0x10 s.workerNumber v
  else s

/-- JOIN_ACK is sent with a result (R473). -/
def State.sendAck (s : State) (w r : Nat) : State :=
  let (s, v) := s.ackFields w r
  s.domSend 0x11 w v

/-- The keys of a session, derived from the domain secret and both nonces: free values (R472; log entry 141). -/
def State.sessionKeys (s : State) : State × (Nat × Nat) :=
  let (m, s) := s.draw
  let (w, s) := s.draw
  (s, (m, w))

/-- JOINs accepted in this second. -/
def State.joinsNow (s : State) : Nat := if s.domain.joinSecond == s.tai then s.domain.joins else 0

/-- RESULT of a JOIN (R473). -/
def State.joinResult (s : State) (domainId w serial lc : Nat) : Nat :=
  if domainId != s.domainId then 0x01
  else if w = 0 || 4095 < w then 0x03
  else if !(lc == 2 || lc == 3) then 0x04
  else if s.domainJoinRate ≤ s.joinsNow then 0x05
  else if (s.worker w).any (fun x => x.serial != serial) then 0x02
  else 0

/-- The entries of the policy in use, in subindex order (R477). -/
def State.policyInUse (s : State) : List Nat := ((List.range 64).map s.domainPolicy).filter (fun v => fld v 0 2 != 0)

/-- POLICY is sent (R477): the epoch, COUNT, and index, subindex, LEN and value of each entry. -/
def State.sendPolicy (s : State) (x : Worker) : State :=
  let l := s.policyInUse
  s.toWorker 0x14 x ([s.domain.epoch, l.length] ++ l.flatMap (fun v => [fld v 0 2, fld v 2 1, fld v 3 1, fld v 4 (fld v 3 1)]))

/-- The slots that DOMAIN_KEY_SLOTS lists (R480). -/
def State.listedSlots (s : State) : List Nat :=
  ((List.range 16).map (fun i => fld s.domainKeySlots (2 * i) 2)).filter (fun n => decide (n < 512))

/-- KEYS is sent (R480): every listed slot that is LOADED with EXPORT, wrapped under the session's wrap key. -/
def State.sendKeys (s : State) (x : Worker) : State :=
  match x.keys with
  | none => s
  | some k =>
    let l := s.listedSlots.filter (fun n => (s.slot n).sstate == 2 && bit (s.slot n).flags 0)
    s.toWorker 0x16 x (l.length :: l.flatMap (fun n => [n, s.blobOf n k.2 0]))

/-- KEYS goes to every joined worker after a change of a listed slot (R480); `old` is the part before it. -/
def State.sendChanged (s old : State) : State :=
  if s.managing && s.engsRun && s.listedSlots.any (fun n => { s.slot n with shadow := none } != { old.slot n with shadow := none }) then
    (s.domain.workers.filter (·.state == 2)).foldl State.sendKeys s
  else s

/-- What a joined worker is sent: POLICY when it holds another epoch, and KEYS (R477, R480). -/
def State.welcome (s : State) (w : Nat) : State :=
  let s := match s.worker w with
    | some x => if x.epoch == s.domain.epoch then s else s.sendPolicy x
    | none => s
  match s.worker w with
  | some x => s.sendKeys x
  | none => s

/-- The record of a worker that has just joined. -/
def Worker.joined (w serial lc epoch : Nat) (k : Nat × Nat) (t : Nat) : Worker :=
  { num := w, serial := serial, lc := lc, epoch := epoch, girth := 0, ql := 0, state := 2, lastStatus := 0, dseqIn := none,
    dseqOut := 0, keys := some k, heard := t }

/-- JOIN (R473). -/
def opJoin (src domainId w serial lc epoch : Nat) (hmac : Bool) (s : State) : State :=
  match s.domainArrives src with
  | (s, false) => s
  | (s, true) =>
    if !s.managing then s
    else if !hmac then s.domCount 1
    else
      let r := s.joinResult domainId w serial lc
      if r != 0 then (s.domCount 0).sendAck w r
      else
        let (s, k) := s.sessionKeys
        let s := { s with domain := { s.domain with joins := s.joinsNow + 1, joinSecond := s.tai } }
        ((s.putWorker (Worker.joined w serial lc epoch k s.tb.lc)).sendAck w 0).welcome w

/-- JOIN_ACK (R472, R473). -/
def opJoinAck (src domainId w serial result : Nat) (hmac : Bool) (s : State) : State :=
  match s.domainArrives src with
  | (s, false) => s
  | (s, true) =>
    if !s.working || s.domain.session || s.domain.state == 4 then s
    else if !hmac then s.domCount 1
    else if w != s.workerNumber || serial = 0 || !(serial == fld s.domainManagerSerials 0 4 || serial == fld s.domainManagerSerials 4 4) then s
    else if result = 0 then
      if domainId != s.domainId then s
      else
        let (s, k) := s.sessionKeys
        let s := { s with domain := { s.domain with session := true, manager := serial, dseqIn := none, dseqOut := 0, state := 2, quality := none, claim := none, keys := some k, heard := s.tb.lc } }
        s.clearFault 0x1303
    else if result = 1 || result = 3 || result = 4 then
      ({ s with domain := { s.domain with state := 4 } } : State).raise 0x1301 result
    else s

/-! ## Quality and status (R474–R476) -/

/-- The manager's session is over for a worker (R481). -/
def State.managerLost (s : State) : State :=
  if s.domain.session then
    let s := s.noteFed
    (({ s with domain := { s.domain with session := false, keys := none, state := 3, quality := none, claim := none } } : State).domCount 3).raise 0x1303
  else s

/-- No QUALITY for DOMAIN_LOSS_TIME (R481). -/
def opManagerLost (s : State) : State := if s.domain.heard + millis s.domainLossTime ≤ s.tb.lc then s.managerLost else s

/-- QUALITY (R475, R476). -/
def opQuality (src dseq : Nat) (tag : Bool) (ql flags epoch : Nat) (c : Claim) (s : State) : State :=
  match s.domainArrives src with
  | (s, false) => s
  | (s, true) =>
    match s.fromManager dseq tag with
    | (s, false) => s
    | (s, true) =>
      let s := { s with domain := { s.domain with quality := some ⟨ql, flags, epoch, s.tb.lc⟩, heard := s.tb.lc } }
      let c := { c with auth := true, rx := s.tb.lc }
      let s := s.noteFed
      if claimOk c then { s with domain := { s.domain with claim := some c } }
      else { s with domain := { s.domain with claim := none }, girth := { s.girth with rejected := bump s.girth.rejected } }

/-- GIRTH of the block in QUALITY (R475). -/
def State.qualityGirth (s : State) : Nat :=
  let ports := (List.range 32).filter (fun p => s.domainPorts = 0 || bit s.domainPorts p)
  s.served [maxL (ports.map s.txGirth)]

/-- Content of QUALITY (R222, R474, R475): QL, QFLAGS, epoch, and the girth block with the manager's own trace. -/
def State.qualityFields (s : State) : List Nat :=
  let l := s.trace s.qualityGirth
  [s.todQl s.girth.ql, ofBits [s.girth.timeValid, s.inHoldover], s.domain.epoch, s.qualityGirth, l.length, s.gflags l, s.growthField] ++
    l.map packHop

/-- The manager sends QUALITY to each worker (R474). -/
def opQualityTx (s : State) : State :=
  if s.managing && s.engsRun then
    (s.domain.workers.filter (·.state == 2)).foldl (fun s x => s.toWorker 0x12 x s.qualityFields) s
  else s

/-- DOMAIN_STATUS (R474, R481): the worker's record is brought up to date. -/
def opDomainStatus (src w dseq : Nat) (tag : Bool) (ql girth epoch : Nat) (s : State) : State :=
  match s.domainArrives src with
  | (s, false) => s
  | (s, true) =>
    match s.fromWorker w dseq tag with
    | (s, none) => s
    | (s, some x) => s.putWorker { x with ql := ql, girth := girth, epoch := epoch, lastStatus := s.tai.toNat, heard := s.tb.lc }

/-- A worker sends STATUS (R474): start-up state, SELECTED_REF, served QL, GIRTH_NOW, epoch. -/
def opStatusTx (s : State) : State :=
  if s.working && s.engsRun && s.domain.session then
    s.toManager 0x13 [s.start.state.code, s.sel.current, s.todQl s.girth.ql, s.gNow, s.domain.epoch]
  else s

/-! ## Policy, keys, and the end of a session (R477, R480, R481, R484) -/

/-- Domain objects whose writes wait for the next anchor (R484). The entries of DOMAIN_POLICY stand with their epoch (log entry 141). -/
def domainKey (k : Nat) : Bool := (0xB80004 ≤ k && k ≤ 0xB80006) || (0xB80009 ≤ k && k ≤ 0xB8000C)

/-- What the domain does at an anchor (R477, R484): the writes that have waited take effect, and after a change of the policy POLICY
goes to every worker that reports another epoch. -/
def State.domainAnchor (s : State) : State :=
  let s := if s.engsRun then s.takeLate domainKey else s
  if s.managing && s.engsRun && s.domain.policyDue then
    let s := { s with domain := { s.domain with policyDue := false } }
    (s.domain.workers.filter (fun x => x.state == 2 && x.epoch != s.domain.epoch)).foldl State.sendPolicy s
  else s

/-- A write to a DOMAIN_POLICY entry (R477). -/
def opPolicyWrite (s : State) : State := { s with domain := { s.domain with epoch := bump s.domain.epoch, policyDue := true } }

/-- POLICY_ACK (R474): a refusal is counted (log entry 95). -/
def opPolicyAck (src w dseq : Nat) (tag : Bool) (code : Nat) (s : State) : State :=
  match s.domainArrives src with
  | (s, false) => s
  | (s, true) =>
    match s.fromWorker w dseq tag with
    | (s, none) => s
    | (s, some _) => if code = 0 then s else s.domCount 4

/-- One entry of KEYS (R480): its result, and the state it leaves. -/
def State.takeKey (s : State) (k : SnapKey) : State × Nat :=
  let x := s.slot k.slot
  let same := x.alg == k.alg && x.use == k.use && x.role == k.role && !bit x.flags 1
  if x.sstate == 1 && same && k.good then (s.setSlot k.slot { x with sstate := 2, kcv := k.kcv, key := k.key }, 0)
  else if x.sstate == 2 && x.kcv == k.kcv then (s, 1)
  else if x.sstate == 2 && same && k.good then (s.setSlot k.slot { x with kcv := k.kcv, key := k.key }, 0)
  else ((s.domCount 2).raise 0x1302 k.slot, 2)

/-- The entries of KEYS in order, with the results newest last. -/
def State.takeKeys (s : State) : List SnapKey → State × List Nat
  | [] => (s, [])
  | k :: t =>
    let (s, r) := s.takeKey k
    let (s, l) := s.takeKeys t
    (s, r :: l)

/-- KEYS (R480), answered with the result of each entry. -/
def opKeys (src dseq : Nat) (tag : Bool) (l : List SnapKey) (s : State) : State :=
  match s.domainArrives src with
  | (s, false) => s
  | (s, true) =>
    match s.fromManager dseq tag with
    | (s, false) => s
    | (s, true) =>
      let (s, r) := s.takeKeys l
      s.toManager 0x17 (l.length :: r)

/-- KEYS_ACK (R474): the results arrive; nothing follows from them. -/
def opKeysAck (src w dseq : Nat) (tag : Bool) (s : State) : State :=
  match s.domainArrives src with
  | (s, false) => s
  | (s, true) => (s.fromWorker w dseq tag).1

/-- LEAVE (R474, R481): the session ends on receipt. -/
def opLeave (src w dseq : Nat) (tag : Bool) (s : State) : State :=
  match s.domainArrives src with
  | (s, false) => s
  | (s, true) =>
    if s.domainRole == 2 then
      match s.fromManager dseq tag with
      | (s, false) => s
      | (s, true) => s.managerLost
    else
      match s.fromWorker w dseq tag with
      | (s, none) => s
      | (s, some x) => { s with domain := { s.domain with workers := s.domain.workers.filter (·.num != x.num) } }

/-- No STATUS from a worker for DOMAIN_LOSS_TIME (R481): its number is freed. -/
def opWorkerLost (w : Nat) (s : State) : State :=
  match s.worker w with
  | some x => if x.heard + millis s.domainLossTime ≤ s.tb.lc then s.putWorker { x with state := 3, keys := none } else s
  | none => s

/-- Every domain session of the part ends with LEAVE, and joining starts again (R484). -/
def State.domainRestart (s : State) : State :=
  let s := if s.mayDomain then (s.domain.workers.filter (·.state == 2)).foldl (fun s x => s.toWorker 0x18 x [0]) s else s
  let s := (if s.mayDomain && s.domain.session then s.toManager 0x18 [0] else s).noteFed
  let s := { s with domain := { s.domain with workers := [], session := false, keys := none, quality := none, claim := none, state := 1 } }
  let s := (s.faults.levels.filter (·.1 == 0x1301)).foldl (fun s p => s.clearFault 0x1301 p.2) s
  s.clearFault 0x1303

/-! ## Meanings -/

/-- CRYPTO_JOB_DONE (R341, R385, R480). -/
def execCryptoJobDone (tag : Nat) (ok : Bool) (s : State) : Host.Outcome State Fault Refusal :=
  .next (((opJobDone tag ok s).erasesDue).sendChanged s)

/-- DOMAIN_JOIN_TX (R472). -/
def execDomainJoinTx (now : Nat) (s : State) : Host.Outcome State Fault Refusal := .next (opJoinTx (s.atTime now))

/-- JOIN (R473). -/
def execJoin (now src domainId w serial lc epoch : Nat) (hmac : Bool) (s : State) : Host.Outcome State Fault Refusal :=
  .next (opJoin src domainId w serial lc epoch hmac (s.atTime now))

/-- JOIN_ACK (R472). -/
def execJoinAck (now src domainId w serial result : Nat) (hmac : Bool) (s : State) : Host.Outcome State Fault Refusal :=
  .next (opJoinAck src domainId w serial result hmac (s.atTime now))

/-- QUALITY (R476). -/
def execQuality (now src dseq : Nat) (tag : Bool) (ql flags epoch : Nat) (c : Claim) (s : State) : Host.Outcome State Fault Refusal :=
  .next (opQuality src dseq tag ql flags epoch c (s.atTime now))

/-- DOMAIN_QUALITY_TX (R474). -/
def execDomainQualityTx (now : Nat) (s : State) : Host.Outcome State Fault Refusal := .next (opQualityTx (s.atTime now))

/-- DOMAIN_STATUS (R481). -/
def execDomainStatus (now src w dseq : Nat) (tag : Bool) (ql girth epoch : Nat) (s : State) : Host.Outcome State Fault Refusal :=
  .next (opDomainStatus src w dseq tag ql girth epoch (s.atTime now))

/-- DOMAIN_STATUS_TX (R474). -/
def execDomainStatusTx (now : Nat) (s : State) : Host.Outcome State Fault Refusal := .next (opStatusTx (s.atTime now))

/-- POLICY_ACK (R474). -/
def execPolicyAck (now src w dseq : Nat) (tag : Bool) (_epoch code _failing : Nat) (s : State) : Host.Outcome State Fault Refusal :=
  .next (opPolicyAck src w dseq tag code (s.atTime now))

/-- KEYS (R480). -/
def execKeys (now src dseq : Nat) (tag : Bool) (l : List SnapKey) (s : State) : Host.Outcome State Fault Refusal :=
  .next (opKeys src dseq tag l (s.atTime now))

/-- KEYS_ACK (R474). -/
def execKeysAck (now src w dseq : Nat) (tag : Bool) (_results : List Nat) (s : State) : Host.Outcome State Fault Refusal :=
  .next (opKeysAck src w dseq tag (s.atTime now))

/-- LEAVE (R481). -/
def execLeave (now src w dseq : Nat) (tag : Bool) (_cause : Nat) (s : State) : Host.Outcome State Fault Refusal :=
  .next (opLeave src w dseq tag (s.atTime now))

/-- DOMAIN_MANAGER_LOST (R481). -/
def execDomainManagerLost (now : Nat) (s : State) : Host.Outcome State Fault Refusal := .next (opManagerLost (s.atTime now))

/-- DOMAIN_WORKER_LOST (R481). -/
def execDomainWorkerLost (now w : Nat) (s : State) : Host.Outcome State Fault Refusal := .next (opWorkerLost w (s.atTime now))

end Sys2Proof.Machine
end

