-- ==== Sys2Proof/Machine/Faults.lean ====
section
/-!
DEFINITION. The fault collector's commands, the handling of an F2, and the movement of records into the log ring
(R485–R497). What a raising does stands in Machine/Ops.lean.
-/
set_option Elab.async false
namespace Sys2Proof.Machine

/-! ## Handling (R489, R490) -/

/-- Codes whose handling ends with a confirmed lock, or with the engine that the loader has restored (R489). -/
def endsElsewhere (code : Nat) : Bool := [0x0001, 0x0002, 0x0003, 0x0004, 0x0006, 0x0007, 0x0D02].contains code

/-- Firmware has stored the record of the current F2: the yield check of R454 is applied, and but for those codes its handling ends and the
next queued F2 is handed over. -/
def opHandlingDone (s : State) : State :=
  match s.faults.handling with
  | none => s
  | some h =>
    let s := if bit s.pairYieldMask (h.1 / 256) then opYieldCheck s else s
    if endsElsewhere h.1 then s else s.endHandling h.1

/-- Handling has exceeded FAULT_HANDLE_MAX (R490). -/
def opHandleTimeout (s : State) : State :=
  match s.faults.handling with
  | some h => if s.faults.handledAt + millis s.faultHandleMax < s.tb.lc then s.raise 0x1601 h.1 else s
  | none => s

/-! ## The log ring (R493, R494) -/

/-- A record of the ring is an audit record. -/
def LogRec.isAudit (r : LogRec) : Bool :=
  match r.body with
  | .audit _ => true
  | .fault _ => false
  | .loss _ => false

/-- The ring has room for one record: it is not full, or its oldest entry may be overwritten. -/
def State.ringRoom (s : State) : Bool :=
  decide (s.log.ring.length < s.evlogSize) || !s.evlogAuditHold ||
    !(match s.log.ring[s.evlogSize - 1]? with
      | some r => r.isAudit && decide ((s.log.producer + 4294967296 - s.evlogConsumer) % 4294967296 ≥ s.evlogSize)
      | none => false)

/-- The oldest staged record moves into the ring. -/
def State.moveOne (s : State) : State :=
  match s.log.staging with
  | [] => s
  | r :: t =>
    if s.ringRoom then
      let a := s.evlogBase + s.log.producer % s.evlogSize * 128
      { s with
        log := { s.log with staging := t, ring := r :: s.log.ring.take (s.evlogSize - 1), producer := bump s.log.producer }
        engs := { s.engs with dram := memWrite s.engs.dram a r.bytes } }
    else s

/-- EVLOG_MOVE (R493): while DRAM is available, the ring has a size and firmware runs, up to `n` records move in LSEQ order. -/
def opEvlogMove (n : Nat) (s : State) : State :=
  if s.dramReady && s.evlogSize != 0 && s.engsRun && s.start.agent then (List.range (min n 256)).foldl (fun s _ => s.moveOne) s else s

/-! ## Acknowledgement (R495) -/

/-- FAULT_ACK names a code that cannot be acknowledged (R495): 0x08, or 0. -/
def ackCode (v : Nat) : Nat :=
  if v = 0xFFFF || v = 0xFFF3 then 0 else if (faultClass v).isNone || isLevel v then 0x08 else 0

/-- An event fault is no longer active. -/
def opAckCode (code : Nat) (s : State) : State :=
  { s with faults := { s.faults with active := s.faults.active.filter (fun a => a.1 != code) } }

/-- Every F1 and F2 event fault is cleared. -/
def opAckAll (s : State) : State :=
  { s with faults := { s.faults with active := s.faults.active.filter (fun a => isLevel a.1 || !(a.2.2 == 1 || a.2.2 == 2)) } }

/-- The F3 latch is cleared. -/
def opAckF3 (s : State) : State := { s with faults := { s.faults with latch := false } }

/-- F3_CLEAR (R492, R495): the latch, and in the halt of R492 a system reset. -/
def opF3Clear (s : State) : State :=
  let s := opAckF3 s
  if s.start.haltF3 then ({ s with start := { s.start with haltF3 := false } } : State).sysReset 9 else s

/-! ## Meanings -/

/-- FAULT_RAISE (R488). -/
def execFaultRaise (now code inst detail : Nat) (s : State) : Host.Outcome State Fault Refusal :=
  .next ((s.atTime now).raise code inst detail)

/-- FAULT_CONDITION_CLEAR (R485). -/
def execFaultConditionClear (now code inst : Nat) (s : State) : Host.Outcome State Fault Refusal :=
  .next ((s.atTime now).clearFault code inst)

/-- FAULT_HANDLING_DONE (R489). -/
def execFaultHandlingDone (now : Nat) (s : State) : Host.Outcome State Fault Refusal := .next (opHandlingDone (s.atTime now))

/-- FAULT_HANDLE_TIMEOUT (R490). -/
def execFaultHandleTimeout (now : Nat) (s : State) : Host.Outcome State Fault Refusal := .next (opHandleTimeout (s.atTime now))

/-- EVLOG_MOVE (R493). -/
def execEvlogMove (now n : Nat) (s : State) : Host.Outcome State Fault Refusal := .next (opEvlogMove n (s.atTime now))

end Sys2Proof.Machine
end

