-- ==== Sys2Proof/Machine/Startup.lean ====
section
/-!
DEFINITION. Start-up, boot after a power-on and a system reset, DRAM, the ends of flash operations and of calibration commits,
and the agent's watchdog (R36, R37, R498–R518, R542). What starts those operations is a write, in Machine/Writes.lean.
-/
set_option Elab.async false
namespace Sys2Proof.Machine

/-! ## Bundles (R504, R505) -/

/-- A bundle is valid and may boot. -/
def State.bundleValid (s : State) (b : Option Bundle) : Bool :=
  match b with
  | some x => x.good && decide (s.fwMinSvn ≤ x.svn)
  | none => false

/-- GEN of a bundle. -/
def bundleGen (b : Option Bundle) : Nat :=
  match b with
  | some x => x.gen
  | none => 0

/-- The valid bundle with the higher GEN is B. -/
def State.preferB (s : State) : Bool :=
  s.bundleValid (s.bundle true) && (!s.bundleValid (s.bundle false) || decide (bundleGen (s.bundle false) < bundleGen (s.bundle true)))

/-- A bundle boots: `fall` tells that the one selected fails before the engines start. Boot halts when none is left. -/
def State.bootBundle (s : State) (fall : Bool) : State :=
  let b := s.preferB
  if s.bundleValid (s.bundle b) && !fall then { s with start := { s.start with bundleB := b } }
  else if s.bundleValid (s.bundle b) && s.bundleValid (s.bundle (!b)) then
    ({ s with start := { s.start with bundleB := !b } } : State).raise 0x1507 (b2n (!b))
  else ({ s with start := { s.start with haltBundle := true } } : State).raise 0x1503

/-! ## Calibration (R513) -/

/-- ROOT_IDs of a calibration table that the life-cycle state accepts; the first is the state's own. -/
def State.calRoots (s : State) : List Nat :=
  match s.vault.lc with
  | .blank => [4]
  | .maker => [1, 4]
  | .owned => [2, 1]
  | .field => [2, 1]
  | .debug => [2, 1]
  | .retired => []

/-- The table is read: `ok` tells that a half verifies. A table under the root of the state before is rewritten. -/
def State.readCal (s : State) (ok : Bool) : State :=
  if ok && s.calRoots.contains s.cal.rootId then
    let own := s.calRoots.headD 0
    { s with cal := { s.cal with unusable := false, rootId := own, gen := if s.cal.rootId = own then s.cal.gen else bump s.cal.gen } }
  else ({ s with cal := { s.cal with unusable := true } } : State).raise 0x1501

/-! ## The collector's return (R490) -/

/-- A waiting raising put in ascending order of code. -/
def insertHeld (h : Nat × Nat × Nat) : List (Nat × Nat × Nat) → List (Nat × Nat × Nat)
  | [] => [h]
  | x :: t => if h.1 < x.1 then h :: x :: t else x :: insertHeld h t

/-- The reset ends: what waited reaches the collector, a level fault only while its condition still holds (`still`). -/
def State.endReset (s : State) (still : List (Nat × Nat)) : State :=
  let held := s.faults.held.filter (fun h => !isLevel h.1 || still.contains (h.1, h.2.1) || h.1 == 0x1501 ||
    (h.1 == 0x1303 && s.domain.state == 3))
  let s := { s with start := { s.start with inReset := false }, faults := { s.faults with held := [], inReset := false } }
  ((held.foldl (fun l h => insertHeld h l) []).foldl (fun s h => s.raise h.1 h.2.1 h.2.2) s).nextF2

/-! ## Engines -/

/-- Firmware engines start; in a halt only the dictionary agent's do (R333, R398, R492). -/
def State.startEngines (s : State) : State :=
  let halted := s.bootHalted
  let start (e : Nat) (g : Eng) : Eng :=
    if s.start.haltBundle || (halted && 4 ≤ e) then { g with status := .inReset }
    else if 24 ≤ e && e < 32 then { g with status := if bit s.tackEngines (e - 24) then .paddock else .off }
    else { g with status := .firmware, kicked := s.tb.lc }
  { s with engs := { s.engs with
      eng := (List.range 36).map (fun e => start e (s.eng e))
      tack := (List.range 8).map (fun j => { s.tackOf j with state := if bit s.tackEngines j && !halted then 1 else 0 }) } }

/-- The agent answers: MSP_RDY rises, and STATE tells that it has returned (R435, R436). -/
def State.agentBack (s : State) : State :=
  { s with start := { s.start with agent := !s.bootHalted }, dict := { s.dict with mspRdy := true, mspReturned := true } }

/-! ## Settings that take effect when the store is applied (R151, R166, R235, R261, R311, R434, R511) -/

/-- CAN controllers that are enabled start with their settings, silent while CAN runs on the safe clock (R24, R434). -/
def State.startCan (s : State) (c : Nat) : State :=
  s.onCan c (fun x =>
    if s.canEnable c then { x with state := if s.group 11 == 1 then 1 else 4, node := s.canNodeId c, nomRate := s.canNomRate c, dataRate := s.canDataRate c } else x)

/-- The configuration store is applied over the tamper configuration; one that fails gives the defaults. -/
def State.applyStore (s : State) : State :=
  let keep := s.dict.store.filter (fun p => isTamperCfg p.1)
  if s.dict.savedBad then
    ({ s with start := { s.start with storeDefaults := true } } : State).raise 0x1506
  else match s.dict.saved with
    | none => { s with start := { s.start with storeDefaults := true } }
    | some (_, l) =>
      let l := l.filter (fun p => indexExists (p.1 / 256) && !isTamperCfg p.1)
      { s with
        dict := { s.dict with store := l.foldl (fun m p => putKey p.1 p.2 m) keep }
        start := { s.start with storeDefaults := false } }

/-- Output APLLs and outputs take their settings, where they are in range. -/
def State.startSynth (s : State) : State :=
  let s := { s with synth := { s.synth with fosc := s.oscNominalHz, slewRate := s.pulseSlewRate } }
  let s := (List.range 4).foldl (fun s a => if planOk s.synth.fosc (s.apllShadow a) then s.loadApll a else s) s
  (List.range 16).foldl (fun s n =>
    let s := (if s.outPlanOk 15 n then s.loadOut n else s).takeSkew n
    s.onOut n (fun o => { o with highZ := !s.halterOn || o.idle == 1 })) s

/-- Everything that starts from its settings at a boot from power-on. -/
def State.startBlocks (s : State) : State :=
  let s := { s with
    tb := { s.tb with utcValid := s.utcOffsetMode == 0 && (s.dict.store.lookup (0x2100 * 256 + 1)).isSome }
    ntp := { s.ntp with current := s.ntsKeyCurrent }
    gov := { s.gov with cold := s.govColdStart }
    start := { s.start with warmMax := s.startupWarmMax }
    dict := { s.dict with mspWidth := s.mspWidth } }
  let s := s.startSynth
  let s := (List.range 8).foldl (fun s q => if fecOk (s.quadMode q) (s.quadFec q) then opQuadApply q s else s) s
  let s := (List.range 2).foldl (fun s p => if bit s.peerLaneEnable p then s.beginPeer p else s) s
  let s := (List.range 32).foldl (fun s c => s.fixRate c) s
  let s := (List.range 4).foldl (fun s k => opPtpReconfig k s) s
  (List.range 2).foldl State.startCan s

/-- References restart: ABSENT with ENABLE 1, else DISABLED (R542); the pins are latched afresh (R90). -/
def State.startRefs (s : State) : State :=
  { s with
    refs := (List.range 17).map (fun n => { s.ref n with state := if s.refEnable n then .absent else .disabled })
    sel := { s.sel with debouncing := true } }

/-- The baseband restarts with GN_ENABLE at 1 (R198, R207). -/
def State.startGnss (s : State) : State := if s.gnEnable && s.gnss.clock then s.gnStart true else s

/-- Boot is complete (R500, R502): BOOT is left, except under the lock latch or in a halt; WARMING ends at once while WARM_FLAG is up
(log entry 100). -/
def State.bootComplete (s : State) : State :=
  let s := { s with start := { s.start with bootDone := true } }
  if s.start.lockLatch then s
  else
    let s := ({ s with start := { s.start with state := .warming, times := s.start.times.set 1 s.ms } } : State).revalid
    if s.oven.warm then s.leaveWarming else s

/-! ## Power-on (R36, R501, R502) -/

/-- PORESET_N is driven low, or power is applied (`powerUp`); a wake from sleep reads as one (R508). -/
def opPoresetLow (powerUp : Bool) (s : State) : State :=
  if s.start.porHeld then s else s.por (if powerUp then 1 else if s.start.sleep then 8 else 2)

/-- The pair's wires count as silent from here, and the pair is in the state of a part without a lease. -/
def State.pairStart (s : State) : State :=
  { s with pair := { s.pair with silA := s.tb.lc, silB := s.tb.lc, silL := s.tb.lc, state := s.idlePState } }

/-- A boot from power-on that no halt has stopped: unsealing, the store, the engines, and every block from its settings. -/
def State.porStart (s : State) (bad : List Nat) (still : List (Nat × Nat)) : State :=
  ((((s.unseal bad).applyStore).startEngines.startBlocks.startRefs.startGnss.pairStart).agentBack.bootComplete).endReset still

/-- Boot from a power-on reset once its bundle has been selected (R502). -/
def State.porBoot (s : State) (calOk : Bool) (bad : List Nat) : State :=
  if s.start.haltBundle then (s.startEngines.agentBack).endReset []
  else
    let s := s.readCal calOk
    let s := if Config.dramMiB = 0 then s.raise 0x1401 else s
    let still := if Config.dramMiB = 0 then [(0x1401, noInst)] else []
    if s.vault.latch then ((s.tamperHalt).startEngines.agentBack).endReset still else s.porStart bad still

/-- A power-on reset is released: the engines are still in reset, and state is BOOT (R499, R501). -/
def State.porRelease (s : State) : State :=
  ({ s with start := { s.start with porHeld := false, state := .boot, inReset := true,
                                    times := [0, 0xFFFFFFFF, 0xFFFFFFFF, 0xFFFFFFFF]
                                    dramStatus := if Config.dramMiB = 0 then 0 else 1 } } : State).revalid

/-- The release of a power-on reset, to the end of boot (R502); State.reset stands right after the release. The selected
bundle fails or not, the calibration table verifies or not, and the slots whose unseal fails. -/
def opPorRelease (fall calOk : Bool) (bad : List Nat) (s : State) : State :=
  if !(s.start.porHeld || (s.start.state == .boot && !s.start.bootDone && !s.start.inReset && !s.bootHalted)) then s
  else (((s.porRelease).drawCloak.readAonLost).bootBundle fall).porBoot calOk bad

/-! ## The engines' return (R37, R492, R510, R542) -/

/-- The learned terms are gone with the engines' memories; they are fitted again at the next anchor (R134, R542; log entry 98). -/
def State.forgetTerms (s : State) : State :=
  ({ s with ho := { s.ho with learned := none, frozen := false, refitDue := true } } : State).useTerms

/-- The servo resumes: in HOLDOVER under the lock latch, else in FREE. Windows that began before this give no estimate (R100). -/
def State.resumeServo (s : State) : State :=
  let s := { s with servo := { s.servo with suspended := false }, tiu := s.tiu.map (fun (c : Tiu) => { c with quiet := s.tb.lc }) }
  if s.start.lockLatch then (s.forgetTerms).enterHoldover
  else
    let s := s.forgetTerms.thawGirth
    { s with servo := { s.servo with state := .free }, sel := { s.sel with state := 0 } }

/-- F3 resets within 600 s have reached FAULT_F3_LIMIT (R492). -/
def State.f3LimitHit (s : State) : Bool :=
  s.start.cause == 5 && decide (s.faultF3Limit ≤ s.f3Count)

/-- SYSTEM_RESET_ENGINES_RETURN: boot after a system reset, and the engines' return. -/
def opEnginesReturn (fall calOk : Bool) (bad : List Nat) (still : List (Nat × Nat)) (s : State) : State :=
  if !s.start.inReset then s
  else
    let s := s.drawCloak.bootBundle fall
    if s.start.haltBundle then (s.startEngines.agentBack).endReset still
    else
      let s := s.readCal calOk
      if s.f3LimitHit then
        let s := ({ s with start := { s.start with haltF3 := true } } : State).raise 0x1602
        (s.startEngines.agentBack).endReset still
      else if s.vault.latch then ((s.tamperHalt).startEngines.agentBack).endReset still
      else
        let s := (s.unseal bad).startEngines
        let s := { s with ntp := { s.ntp with current := s.ntsKeyCurrent } }
        let s := (List.range 4).foldl (fun s k => opPtpReconfig k s) s
        let s := (List.range 2).foldl State.startCan s
        let s := (s.startRefs.resumeServo).startGnss
        let s := { s with pair := { s.pair with silA := s.tb.lc, silB := s.tb.lc, silL := s.tb.lc } }
        (s.agentBack.bootComplete).endReset still

/-! ## WARMING, the watchdog and DRAM (R36, R500, R507, R509, R510) -/

/-- STARTUP_WARM_MAX has elapsed in WARMING (R500). -/
def opWarmMax (s : State) : State :=
  if s.start.state == .warming && decide (s.start.times.getD 1 0 + 1000 * s.start.warmMax ≤ s.ms) then (s.leaveWarming).raise 0x1504 else s

/-- The dictionary agent's watchdog expires: F3 0x1101, whose system reset reads as the watchdog's (R36, R517). -/
def opAgentWatchdog (s : State) : State :=
  if !s.agentUp then s
  else
    let t := s.raise 0x1101
    if t.start.inReset then { t with start := { t.start with cause := 6 } } else t

/-- DRAM training ends (R507, R510): the history ring is zeroed and the wipe of the paddock region begins, or it has failed
twice. -/
def opDramTrained (ok : Bool) (s : State) : State :=
  if s.start.dramStatus != 1 then s
  else if ok then
    let s := { s with start := { s.start with dramStatus := 2, dramSize := Config.dramMiB, ringZeroDue := false
                                              paddockWipe := s.paddockSize != 0 },
                      ho := { s.ho with ring := [], ringPut := 0 }
                      engs := { s.engs with dram := memWipe s.engs.dram 0 1382400 } }
    (s.clearFault 0x1401).tackRelease
  else ((({ s with start := { s.start with dramStatus := 3 } } : State).raise 0x1505).raise 0x1401).tackHold

/-- The wipe of the paddock region completes (R510). -/
def opPaddockWiped (s : State) : State :=
  if s.start.paddockWipe && s.start.dramStatus = 2 then
    ({ s with start := { s.start with paddockWipe := false } } : State).wipePaddock
  else s

/-! ## Flash (R506) -/

/-- The bundle that is not running, replaced. -/
def State.putIdle (s : State) (b : Option Bundle) : State :=
  if s.start.bundleB then { s with start := { s.start with bundleA := b } } else { s with start := { s.start with bundleBInfo := b } }

/-- The erase of the idle bundle ends. -/
def opFwErased (ok : Bool) (s : State) : State :=
  if s.start.fwState != 1 then s
  else if ok then { s with start := { s.start with fwState := 2, fwErased := true } }
  else { s with start := { s.start with fwState := 6 } }

/-- The verification of the new bundle ends (R506): 0 its header is programmed, 1 it fails, 2 the flash fails. -/
def opFwCommitted (outcome : Nat) (s : State) : State :=
  if s.start.fwState != 3 then s
  else
    let p := s.start.fwPending
    let s := { s with start := { s.start with fwPending := none, fwErased := false, fwState := if outcome = 0 then 4 else if outcome = 1 then 5 else 6 } }
    if outcome = 0 then s.putIdle p else s

/-! ## Calibration commits (R514, R515) -/

/-- CAL_COMMIT_DONE: the table written becomes active, or the commit fails with its class. -/
def opCalDone (ok : Bool) (s : State) : State :=
  match s.cal.commit with
  | none => s
  | some (l, cls) =>
    let s := { s with cal := { s.cal with commit := none } }
    if ok then { s with cal := { s.cal with entries := l, gen := bump s.cal.gen, raises := [] } } else s.raise 0x1502 cls

/-- The staging buffer is discarded 600 s after its last chunk. -/
def opCalStagingTimeout (s : State) : State :=
  if s.cal.stagingTime + secs 600 ≤ s.tb.lc then { s with cal := { s.cal with staging := [] } } else s

/-! ## The commands -/

/-- SYSTEM_RESET_ENGINES_RETURN (R542). -/
def execSystemResetEnginesReturn (now : Nat) (fall calOk : Bool) (bad : List Nat) (still : List (Nat × Nat)) (s : State) :
    Host.Outcome State Fault Refusal := .next (opEnginesReturn fall calOk bad still (s.atTime now)).revalid

/-- PORESET_N_LOW (R501). -/
def execPoresetNLow (powerUp : Bool) (s : State) : Host.Outcome State Fault Refusal := .next (opPoresetLow powerUp s)

/-- POWER_ON_RESET_RELEASE (R502). -/
def execPowerOnResetRelease (now : Nat) (fall calOk : Bool) (bad : List Nat) (s : State) : Host.Outcome State Fault Refusal :=
  .next (opPorRelease fall calOk bad (s.atTime now)).revalid

/-- DRAM_TRAINING_DONE (R507). -/
def execDramTrainingDone (now : Nat) (ok : Bool) (s : State) : Host.Outcome State Fault Refusal := .next (opDramTrained ok (s.atTime now))

/-- DQS_TRACKING (R507): tracking stalls no access and changes nothing that can be read. -/
def execDqsTracking (now : Nat) (s : State) : Host.Outcome State Fault Refusal := .next (s.atTime now)

/-- PADDOCK_WIPE_DONE (R510). -/
def execPaddockWipeDone (now : Nat) (s : State) : Host.Outcome State Fault Refusal := .next (opPaddockWiped (s.atTime now))

/-- STARTUP_WARM_MAX_EXPIRE (R500). -/
def execStartupWarmMaxExpire (now : Nat) (s : State) : Host.Outcome State Fault Refusal := .next (opWarmMax (s.atTime now))

/-- AGENT_WATCHDOG_EXPIRE (R36). -/
def execAgentWatchdogExpire (now : Nat) (s : State) : Host.Outcome State Fault Refusal := .next (opAgentWatchdog (s.atTime now))

/-- FW_ERASE_DONE (R506). -/
def execFwEraseDone (now : Nat) (ok : Bool) (s : State) : Host.Outcome State Fault Refusal := .next (opFwErased ok (s.atTime now))

/-- FW_COMMIT_DONE (R506). -/
def execFwCommitDone (now outcome : Nat) (s : State) : Host.Outcome State Fault Refusal := .next (opFwCommitted outcome (s.atTime now))

/-- CAL_COMMIT_DONE (R514). -/
def execCalCommitDone (now : Nat) (ok : Bool) (s : State) : Host.Outcome State Fault Refusal := .next (opCalDone ok (s.atTime now))

/-- CAL_STAGING_TIMEOUT (R515). -/
def execCalStagingTimeout (now : Nat) (s : State) : Host.Outcome State Fault Refusal := .next (opCalStagingTimeout (s.atTime now))

end Sys2Proof.Machine
end

