-- ==== Sys2Proof/Machine/Readout.lean ====
section
/-!
DEFINITION. What every readable entry of the dictionary answers (R425, R427), and a read as the agent decides it (R429), with
the reads that have an effect of their own.
-/
set_option Elab.async false
namespace Sys2Proof.Machine

/-! ## Values, by chapter

Each function answers for the computed entries of its index range; an entry that a write stores is answered from the store. -/

/-- Element `sub` − 1 of a list. -/
def nth (l : List Nat) (sub : Nat) : Nat := l.getD (sub - 1) 0

/-- 0x1000–0x1FFF (R3, R423, R443). -/
def State.readPaths (s : State) (idx sub : Nat) : Nat :=
  let c := idx - 0x1E00
  if idx < 0x1E02 then nth [0, 0, 0, 0, 0, 0, (s.canOf c).state, (s.canOf c).busOff, (s.canOf c).nmtIgnored] sub
  else if idx = 0x1E10 then nth [0, s.dict.mspBusyDrops, s.dict.mspChkErrors] sub
  else if idx = 0x1E20 then
    nth [lePack [(2, s.dict.pcieLastError.1), (1, s.dict.pcieLastError.2.1), (1, s.dict.pcieLastError.2.2)], s.dict.apertureRefused] sub
  else if idx = 0x1E21 then s.dict.dmaStatus
  else if idx = 0x1E30 then s.dict.esxiaDrops
  else nth [s.attnCause, 0, 0, s.dict.queuePeak] sub

/-- 0x2000–0x2FFF (R67, R229). -/
def State.readTime (s : State) (idx sub : Nat) : Nat :=
  if idx = 0x2000 then lePack [(12, time96 s.full), (6, s.tb.lc), (4, s.gNow)]
  else if idx = 0x2020 then leNat (s.tb.ring.getD (sub - 1) Anchor.init).bytes
  else if idx = 0x2030 then s.coarsePeriodNow
  else if idx = 0x2100 then b2n s.tb.utcValid
  else if idx = 0x2800 then nth [s.gNow, s.girthTerms, s.girthRate] sub
  else if idx = 0x2801 then nth [s.girthTrace, s.girth.rejected] sub
  else s.refClaim (idx - 0x2A00)

/-- STATE's codes (R80). -/
def qstateCode : QState → Nat
  | .disabled => 0
  | .absent => 1
  | .soaking => 2
  | .qualified => 3
  | .suspect => 4
  | .disqualified => 5

/-- 0x3000–0x3FFF (R91, R107). -/
def State.readRefs (s : State) (idx sub : Nat) : Nat :=
  if idx = 0x3002 then
    nth [s.sel.current, s.sel.state, s.sel.source, s.sel.count, s.sel.latched + 16 * s.sel.raw] sub
  else if idx < 0x3800 then
    let n := idx - 0x3200
    let r := s.ref n
    nth [qstateCode r.state, s.qlRx n, s.qlEff n, unsigned 8 r.freqOffset, unsigned 8 r.freqTrend, unsigned 8 r.phaseOffset, r.soakLeft, r.cause] sub
  else if idx = 0x3800 then s.rateSum
  else
    let c := s.chan (idx - 0x3A00)
    nth [unsigned 8 c.freq, unsigned 8 c.freqGate, c.sigma, c.resid, c.stamps, c.overflow, c.deadTime, c.estStatus] sub

/-- 0x4000–0x47FF (R126, R151). -/
def State.readServo (s : State) (idx sub : Nat) : Nat :=
  if idx = 0x4000 then
    nth [s.servo.state.code, unsigned 8 (uToFemto s.uNow), unsigned 8 (uToFemto s.servo.i), unsigned 8 s.servo.e,
      unsigned 8 s.accrue.servo.phiB, s.servo.bw, unsigned 8 s.servo.ySteer] sub
  else if idx = 0x4410 then
    let o := s.oven
    nth [unsigned 4 o.temp, o.duty, s.ovenPower, unsigned 4 o.ambient, b2n o.warm, unsigned 8 o.slope,
      ofBits [o.duty != 0, o.duty == s.ovenDutyMax, o.sensorFault, o.overTemp, s.tempCond, s.slopeCond]] sub
  else if idx = 0x4430 then
    let h := s.ho
    nth [b2n s.hoValid, unsigned 8 (rdiv h.u0 1000), unsigned 4 h.a, unsigned 4 h.kT, lePack [(4, (rdiv h.su0 1000).toNat), (4, h.sa), (4, h.skT)],
      unsigned 8 (uToFemto h.uh), if h.frozen then (s.tb.lc - h.entry) / secUnits else 0, s.hNow,
      h.ring.countP HistEntry.learnable, 0] sub
  else if sub = 5 then unsigned 8 s.atomic.adj else s.atomic.state

/-- 0x4800–0x4FFF (R179). -/
def State.readSynth (s : State) (idx sub : Nat) : Nat :=
  if idx < 0x4820 then
    let p := s.apll (idx - 0x4810)
    nth [p.lock, apllFreq s.synth.fosc p, p.loss] sub
  else if idx = 0x4840 then s.commitStatus
  else
    let n := idx - 0x4A00
    nth [s.outState n, unsigned 8 (s.out n).alignErr, s.outGirth n, s.outFreq n, (s.out n).starts] sub

/-- The tracking channel that an entry of 0x5100 names; an idle one reads signal 0xFF. -/
def State.trackOf (s : State) (ch : Nat) : Track := (s.gnss.tracks.lookup ch).getD ⟨0xFF, 0, 0, 0, 0, 0, 0, 0, 0, none⟩

/-- 0x5000–0x5FFF (R208). -/
def State.readGnss (s : State) (idx sub : Nat) : Nat :=
  let g := s.gnss
  if idx = 0x5001 then (if sub = 2 then s.shownPosition else g.surveyLeft)
  else if idx = 0x5002 then s.osnmaStatus
  else if idx = 0x5003 then s.acqActive
  else if idx < 0x5100 then
    let f := s.gif (idx - 0x5020)
    nth [f.status, f.jam, f.agc, f.sfm, ofBits (f.notches.map Option.isSome),
      lePack (f.notches.map (fun x => (4, match x with | some y => unsigned 4 y.1 | none => 0)))] sub
  else if idx < 0x5300 then
    let t := s.trackOf (idx - 0x5100)
    nth [0, 0, t.sig, t.svid, t.state, t.cn0, unsigned 4 t.doppler] sub
  else
    nth [g.solStatus, unsigned 8 g.timeOffset, g.timeSigma, g.svUsed, g.svExcluded, g.residRms, lePack (g.isb.map (fun x => (8, unsigned 8 x))),
      lePack ((List.range 3).map (fun k => (8, unsigned 8 ((s.isbCast k).getD 0)))), g.isbFlags, b2n g.verified, g.droppedEpochs, g.navErrors] sub

/-- 0x6000–0x67FF (R253, R268). -/
def State.readLanes (s : State) (idx sub : Nat) : Nat :=
  if idx < 0x6100 then (s.quad (idx - 0x6000)).state
  else if idx < 0x6300 then
    let l := idx - 0x6200
    let x := s.lane l
    nth [x.state, x.fom, x.ctle, lePack ((s.laneDfe l).map (fun d => (1, unsigned 1 d))), s.lpiState l, b2n (s.timingPort l), x.linkDowns,
      x.retrains, x.fecCorr, x.fecUncorr, x.rxDrop, x.trainFails,
      lePack [(1, unsigned 1 x.fir.1), (1, unsigned 1 x.fir.2.1), (1, unsigned 1 x.fir.2.2)], x.lpiUnexpected] sub
  else if idx = 0x6300 then nth [0, 0, s.net.peerActive, s.net.peerSwitches] sub
  else if idx < 0x6500 then nth [(s.peerLane (idx - 0x6301)).state, (s.peerLane (idx - 0x6301)).fom] sub
  else
    let l := idx - 0x6500
    let x := s.lane l
    let q := s.quad (l / 4)
    let ls := s.portLanes l
    nth [x.stampState, stampProfile q.mode q.fec, lePack (ls.map (fun k => (8, unsigned 8 (s.txDelay k)))),
      lePack (ls.map (fun k => (8, unsigned 8 (s.rxDelay k)))), s.txUnc l, s.rxUnc l,
      lePack (ls.flatMap (fun k => [(2, (s.lane k).aRx), (2, (s.lane k).aTx)])), x.ctleChanges, x.stampsDropped, x.staleDiscards,
      lePack [(8, unsigned 8 x.calE), (4, x.calSigma), (1, x.calStatus)]] sub

/-- Cells in use in the shed (R276, R277). -/
def State.cellsUsed (s : State) : Nat :=
  s.yard.timingUsed + s.yard.hostUsed + s.yard.sharedUsed + (s.yard.queues.map (·.minUsed)).sum

/-- 0x6800–0x6FFF (R287). -/
def State.readYard (s : State) (idx sub : Nat) : Nat :=
  let s := s.settleTails
  let y := s.yard
  if idx = 0x6801 then
    nth [98304 - s.cellsUsed, y.sharedUsed, y.timingUsed, y.banks, y.hostDrops, y.hostUnhandled] sub
  else if idx < 0x6D00 then
    let q := s.queue (idx - 0x6C00)
    nth [q.depth, q.tailDrops, q.ecnMarks, q.txFrames] sub
  else if idx < 0x6E00 then
    let p := s.yport (idx - 0x6D00)
    nth [p.fwd, p.fcsErr, p.rxTrunc, p.txStomp, p.partialDrop, p.downDrops, p.flushed, p.blockDrops, p.eventBlocked, p.vlanDrops,
      p.ctrlDrops, p.ctFrames] sub
  else if sub = 7 then y.mirrorDrops.getD (idx - 0x6E00) 0 else y.mirrorSuspended.getD (idx - 0x6E00) 0

/-- A PTP dataset as PTP_PARENT_DS lists it. -/
def packDs (d : PtpDs) : Nat :=
  lePack [(8, d.gm), (1, d.cls), (1, d.acc), (2, d.var), (1, d.prio1), (1, d.prio2), (2, d.steps)]

/-- 0x7000–0x77FF (R310). -/
def State.readPtp (s : State) (idx sub : Nat) : Nat :=
  let s := s.decideDue
  if idx = 0x7001 then
    nth [s.authCap / 16, s.msgCap / 16, cdiv s.loadAuth 16, cdiv s.loadAll 16, s.ptp.grants.length, s.ptp.refused, s.ptp.v1Drops,
      s.ptp.mgmtDrops] sub
  else if idx < 0x7200 then
    let k := s.inst (idx - 0x7020)
    nth [k.clientPort, k.parent, packDs k.parentDs, unsigned 8 k.offset, unsigned 8 k.meanDelay, k.servedClass, k.servedAcc] sub
  else
    let p := s.pport (idx - 0x7200)
    nth [p.state, unsigned 8 p.peerDelay, p.authFail, p.authMissing, p.replay, p.dreqDrops, p.tcFrames, p.tcDegraded] sub

/-- 0x7800–0x7FFF (R328). -/
def State.readNtp (s : State) (idx sub : Nat) : Nat :=
  if idx = 0x7802 then nth [0, 0, s.ntpCapNow, s.ntsCapNow] sub
  else if idx = 0x7820 then s.ntp.mintConsumer
  else if idx = 0x7880 then nth s.ntp.counters sub
  else nth s.ntp.girthCounters sub

/-- 0x8000–0x8BFF (R350, R375). -/
def State.readEngines (s : State) (idx sub : Nat) : Nat :=
  if idx = 0x8000 then s.fwSvn
  else if idx = 0x8011 then nth [s.engs.doorbell.headD 0, s.engs.doorbell.length] sub
  else if idx < 0x8030 then
    let j := idx - 0x8020
    let t := s.tackOf j
    nth [0, s.tackState j, t.loadStatus, 0, 0, t.faults, lePack [(1, t.cause), (3, 0), (4, t.trapPc)]] sub
  else if idx < 0x8100 then
    if sub = 2 then s.engs.tapDrops.getD (idx - 0x8030) 0 else s.engs.tapSuspended.getD (idx - 0x8030) 0
  else if idx < 0x8800 then
    let e := idx - 0x8100
    nth [s.engState e, Config.fwVersion e, (s.eng e).resets, (s.eng e).lastCause] sub
  else if idx = 0x8801 then nth [s.dump.producer, 0, s.dump.lost, s.dump.suspended] sub
  else
    match s.dump.read with
    | some r => leNat r.2
    | none => 0

/-- 0x8C00–0x8FFF (R362). -/
def State.readGov (s : State) (idx sub : Nat) : Nat :=
  let g := s.gov
  if idx = 0x8C10 then
    nth [g.level, s.classGrant, s.w2Share g.level, g.pPart, unsigned 4 g.headroom, unsigned 2 g.tj, g.unparked, g.cause, g.sheds] sub
  else if idx = 0x8C11 then nth g.cost sub
  else nth g.times sub / 1000

/-- A tamper record's 32 bytes (R400). -/
def TamperRec.pack (r : TamperRec) : Nat :=
  lePack [(4, r.tseq), (2, r.sources), (1, r.moment), (1, r.lc), (8, r.aonTime), (2, r.slot), (1, r.op), (13, 0)]

/-- 0xA000–0xA7FF (R381, R404). -/
def State.readVault (s : State) (idx sub : Nat) : Nat :=
  let v := s.vault
  if idx = 0xA000 then nth [v.lc.code, 0, v.debugEntries] sub
  else if idx < 0xA300 then (s.slot (idx - 0xA100)).attr
  else if idx = 0xA400 then nth [0, 0, 0, 0, 0, v.exportBlob, v.opStatus] sub
  else if idx = 0xA410 then nth [v.maskRotations, v.unsealFails, s.flashFree] sub
  else if idx < 0xA500 then
    let x := s.slot (idx - 0xA300)
    lePack [(1, x.sstate), (1, b2n x.shadow.isSome), (2, 0), (4, x.kcv)]
  else if idx = 0xA510 then v.alarms + 0x8000 * b2n v.latch
  else match v.records[sub - 1]? with
    | some r => r.pack
    | none => 0

/-- An open session as AUTH_SESSIONS lists it; entry n − 1 is session n (log entry 62). -/
def Session.pack (x : Session) : Nat :=
  lePack [(1, x.role.code), (1, x.path.code), (2, 0), (4, if x.ticketed then x.ticketId else 0), (8, x.opened)]

/-- 0xA800–0xAFFF (R423). -/
def State.readRoles (s : State) (a : Acc) (idx sub : Nat) : Nat :=
  let x := s.access
  if idx = 0xA800 then
    if sub = 3 then
      match (s.pathState a.path).reply with
      | some (n, _, body) => lePack [(1, n), (3, 0), (193, body)]
      | none => 0
    else lePack ((List.range 16).map (fun n => (16, match s.session (n + 1) with | some y => y.pack | none => 0)))
  else if idx = 0xA802 then Config.deviceIdPub s.vault.lc.code x.ownerKeys.length
  else if idx = 0xA803 then
    nth [lePack ((List.range 4).map (fun k => (48, x.ownerKeys.getD k 0))), if x.ownerKeys.isEmpty then 0xFF else x.ownerKeys.length - 1] sub
  else if idx = 0xA820 then s.jtagState
  else
    nth [x.aseq, x.chain, match x.headSigned with
      | some (q, c, n) => lePack [(4, q), (16, c), (96, Config.sha384 [q, c, nonceValue n, Config.serial])]
      | none => 0] sub

/-- 0xB000–0xB7FF (R469). -/
def State.readPair (s : State) (idx sub : Nat) : Nat :=
  let p := s.pair
  if idx = 0xB101 then nth p.counters sub
  else
    let other := match p.peer with | some q => some q.preferred | none => none
    nth [p.state.code,
      ofBits [p.lease, p.wireA, p.wireB, !s.silent p.silL, p.preferred, other == some true, other == some p.preferred],
      unsigned 8 p.theta, p.sigma, unsigned 8 p.delta, p.ownChoice, p.snapEpoch,
      (match p.snapTime with | some t => (s.tb.lc - t) / millis 1 | none => 0), b2n p.configMatch, b2n p.fit, p.diagResult, s.nextSwap, p.lastCause] sub

/-- A worker's record as DOMAIN_WORKER lists it. -/
def Worker.pack (w : Worker) : Nat :=
  lePack [(1, w.state), (1, w.lc), (2, 0), (4, w.serial), (4, w.epoch), (4, w.girth), (1, w.ql), (3, 0), (8, w.lastStatus)]

/-- 0xB800–0xBFFF (R483). -/
def State.readDomain (s : State) (idx sub : Nat) : Nat :=
  if idx = 0xB900 then nth [s.domainState, s.domain.epoch, s.domain.workers.countP (fun w => w.state == 2)] sub
  else if idx = 0xB901 then nth s.domain.counters sub
  else match s.domain.workers.find? (fun x => x.num == (idx - 0xBA00) * 255 + sub - 1) with
    | some w => w.pack
    | none => 0

/-- The newest 16 entries of the log, staged ones first, newest first (R497). -/
def State.newestLog (s : State) : List LogRec := newest 16 (s.log.staging.reverse ++ s.log.ring)

/-- 0xC000–0xC7FF (R497). -/
def State.readFaults (s : State) (idx sub : Nat) : Nat :=
  let f := s.faults
  if idx = 0xC000 then s.faultLevel
  else if idx = 0xC001 then nth [match f.handling with | some h => h.1 | none => 0, f.queue.length] sub
  else if idx = 0xC002 then lePack ((newest 32 f.active).map (fun x => (2, x.1)))
  else if idx = 0xC004 then nth [f.f0, f.f1, f.f2, f.f3, s.f3Count] sub
  else if idx = 0xC011 then nth [s.log.producer, 0, s.log.lost, s.log.staging.length] sub
  else match s.newestLog[sub - 1]? with
    | some r => leNat r.bytes
    | none => 0

/-- CAL_SELECT of a path or a session (R514). -/
def State.calSel (s : State) (a : Acc) : Nat :=
  match s.accSession a with
  | some x => x.calSel
  | none => (s.pathState a.path).calSel

/-- DICT_DESCRIBE_ADDR's selection of a path or a session (R428). -/
def State.described (s : State) (a : Acc) : Nat :=
  match s.accSession a with
  | some x => x.describe
  | none => (s.pathState a.path).describe

/-- CAL_STATUS. -/
def State.calStatus (s : State) : Nat :=
  if s.cal.unusable then 2 else if s.cal.commit.isSome then 3 else if s.cal.entries.any (·.owner) then 1 else 0

/-- CLOCK_GROUP_STATUS (R22, R23). One code stands for the several clocks of LRX, LTX, PEER and OUT: running while one of them runs.
MSP and TCK run while a transaction comes over MSP, and while a debugger is attached (DESIGN CHOICE, log entry 112). -/
def State.groupStatus (s : State) (a : Acc) (g : Nat) : Nat :=
  if g = 7 then b2n (s.net.lanes.any (fun x => 2 ≤ x.state))
  else if g = 8 then b2n (s.net.quads.any (fun q => q.state == 2))
  else if g = 12 then b2n (a.path == .msp)
  else if g = 13 then b2n (s.net.peers.any (fun x => 2 ≤ x.state))
  else if g = 14 then b2n (s.synth.aplls.any (fun x => x.lock == 1))
  else if g = 15 then b2n (s.access.jtag != 0)
  else s.group g

/-- 0xC800–0xD7FF (R23, R517). -/
def State.readStart (s : State) (a : Acc) (idx sub : Nat) : Nat :=
  let t := s.start
  if idx = 0xC800 then
    let e := s.calSel a
    nth [e, lePack [(8, unsigned 8 (s.calVal e)), (4, s.calUnc e), (1, b2n (s.cal.entries.any (fun x => x.eid == e && x.owner)))],
      s.calStatus, s.cal.entries.countP (·.owner)] sub
  else if idx = 0xD000 then
    nth [t.state.code, lePack (t.times.map (fun x => (4, x))), 0,
      ofBits [t.bundleB, t.haltBundle, t.haltTamper, t.haltF3, s.cal.unusable, t.storeDefaults]] sub
  else if idx = 0xD010 then t.cause
  else if idx = 0xD020 then t.fwState
  else if idx = 0xD030 then nth [t.dramStatus, t.dramSize] sub
  else s.groupStatus a sub

/-- A computed entry's value. -/
def State.computed (s : State) (a : Acc) (idx sub : Nat) : Nat :=
  if idx < 0x2000 then
    if idx = 0x1010 then s.descriptor (s.described a)
    else if idx = 0x1030 then
      match (s.pathState a.path).resp with
      | some r => r.2
      | none => 0
    else s.readPaths idx sub
  else if idx < 0x3000 then s.readTime idx sub
  else if idx < 0x4000 then s.readRefs idx sub
  else if idx < 0x4800 then s.readServo idx sub
  else if idx < 0x5000 then s.readSynth idx sub
  else if idx < 0x6000 then s.readGnss idx sub
  else if idx < 0x6800 then s.readLanes idx sub
  else if idx < 0x7000 then s.readYard idx sub
  else if idx < 0x7800 then s.readPtp idx sub
  else if idx < 0x8000 then s.readNtp idx sub
  else if idx < 0x8C00 then s.readEngines idx sub
  else if idx < 0xA000 then s.readGov idx sub
  else if idx < 0xA800 then s.readVault idx sub
  else if idx < 0xB000 then s.readRoles a idx sub
  else if idx < 0xB800 then s.readPair idx sub
  else if idx < 0xC000 then s.readDomain idx sub
  else if idx < 0xC800 then s.readFaults idx sub
  else s.readStart a idx sub

/-- Writable entries that are not answered from the store: slot attributes, the calibration entry of a selection, and GN_POSITION, which
shows the position in use. -/
def computedRw (idx sub : Nat) : Bool := (0xA100 ≤ idx && idx < 0xA300) || idx == 0xC800 || (idx == 0x5001 && sub == 2)

/-- The value of an entry (R427): CONST entries from the tables, written ones from the store, the others computed. -/
def State.readValue (s : State) (a : Acc) (d : ObjDef) (idx sub : Nat) : Nat :=
  if bit d.rights 14 then objDefault d idx sub
  else if d.writable && !computedRw idx sub then s.cfg idx sub (objDefault d idx sub)
  else s.computed a idx sub % 2 ^ (8 * d.len)

/-! ## A read (R429) -/

/-- A request reaches the agent: the queue's peak, and the session it is made in counts it (R409, R443). -/
def State.arrive (s : State) (a : Acc) : State :=
  let s := s.atTime a.now
  let s := { s with dict := { s.dict with queuePeak := max s.dict.queuePeak (min 64 (a.queued + 1)) } }
  match s.accSession a with
  | some x => s.onSession x.num (fun x => { x with lastReq := s.tb.lc })
  | none => s

/-- A read of AUDIT_HEAD (R422) uses the path's nonce up; without a live one it is refused. -/
def State.auditHead (s : State) (p : Path) : State × Nat :=
  match s.liveNonce p with
  | none => (s, 0x09)
  | some n => (({ s with access := { s.access with headSigned := some (s.access.aseq, s.access.chain, n) } } : State).useNonce p, 0)

/-- A read that has passed the checks: the state after it, its code and its value. -/
def State.doRead (s : State) (a : Acc) (d : ObjDef) (idx sub : Nat) : State × Nat × Nat :=
  if idx = 0xA800 && sub = 1 then
    let (s, v) := s.challenge a.path
    (s, 0, v)
  else if idx = 0xA800 && sub = 3 && a.path == .esxia && (match (s.pathState a.path).reply with | some r => r.2.1 != a.src | none => false) then
    (s, 0x05, 0)
  else if idx = 0xA830 && sub = 3 then
    match s.auditHead a.path with
    | (s, 0) => (s, 0, s.readValue a d idx sub)
    | (s, c) => (s, c, 0)
  else if idx = 0x8011 && sub = 1 then
    let (v, s) := s.doorbellRead
    (s, 0, v)
  else if 0x8900 ≤ idx && idx < 0x8924 then
    let s := opPcRead (idx - 0x8900) s
    (s, 0, s.readValue a d idx sub)
  else (s, 0, s.readValue a d idx sub)

/-- An access as a read (R429): the state after it, its code and its value. -/
def State.accessRead (s : State) (a : Acc) (idx sub : Nat) : State × Nat × Nat :=
  let s := s.arrive a
  match s.whoIs a idx sub false with
  | none => (s, 0x0B, 0)
  | some w =>
    match s.firstChecks a w idx sub 0 false with
    | 0 =>
      match entryOf idx sub with
      | some d => s.doRead a d idx sub
      | none => (s, 0x02, 0)
    | c => (s, c, 0)

/-- A read command on a path that carries it: what the path answers is kept. On a path that is down nothing happens. -/
def State.runRead (s : State) (a : Acc) (idx sub : Nat) : State :=
  if !s.pathUp a.path then s.atTime a.now
  else
    let (s, c, v) := s.accessRead a idx sub
    s.onPath a.path (fun p => { p with code := c, value := v })

end Sys2Proof.Machine
end

