-- ==== Sys2Proof/Machine/Checks.lean ====
section
/-!
DEFINITION. What a write is refused for once checks 1 to 9 have passed: its value (check 10, code 0x08) and the state of the
part (check 11, code 0x09), chapter by chapter (R429). A refusal that a rule states without naming which of the two it is
takes the code that R429's own division gives it; log entry 63 lists them.
-/
set_option Elab.async false
namespace Sys2Proof.Machine

/-! ## Values (R429, check 10) -/

/-- Bytes `lo` … of a value are the given number of bytes, each at most `hi`. -/
def bytesUpTo (n hi v : Nat) : Bool := (List.range n).all (fun i => decide (fld v i 1 ≤ hi))

/-- An address family of HOST_ADDR, with its 3 reserved bytes (R287). -/
def familyOk (v : Nat) : Bool := [0, 4, 6].contains (fld v 0 1) && fld v 1 3 == 0

/-- Taps of the transmit FIR (R237). -/
def firOk (v : Nat) : Bool := firIn (firOf v)

/-- CH_GATE (R101): whole gates in a second, or whole seconds. -/
def gateOk (v : Nat) : Bool :=
  decide (10 ≤ v) && decide (v ≤ 1000000) && (if v < 1000 then 1000 % v == 0 else v % 1000 == 0)

/-- A power of 2 between two bounds. -/
def powerOf2 (lo hi v : Nat) : Bool := decide (lo ≤ v) && decide (v ≤ hi) && v == 2 ^ v.log2

/-- The accepted range of a table row. -/
def rangeOk (d : ObjDef) (v : Nat) : Bool :=
  match d.range with
  | .any => true
  | .nat lo hi => decide (lo ≤ v) && decide (v ≤ hi)
  | .int lo hi => decide (lo ≤ signed d.len v) && decide (signed d.len v ≤ hi)
  | .pow2 lo hi => v == 0 || powerOf2 lo hi v
  | .mult k => v % k == 0
  | .oneOf l => l.contains v
  | .natOr lo hi x => v == x || (decide (lo ≤ v) && decide (v ≤ hi))
  | .zeroOr lo hi => v == 0 || (decide (lo ≤ v) && decide (v ≤ hi))
  | .gate => gateOk v
  | .fir => firOk v
  | .family => familyOk v
  | .families => (List.range 4).all (fun i => familyOk (fld v (20 * i) 20))
  | .tap => decide (fld v 0 1 ≤ 6)
  | .tjLimit => decide (signed d.len v ≤ if Config.gradeE then 11000 else 9500)
  | .bytesTo n hi => bytesUpTo n hi v
  | .osnmaKey => v == 0 || fld v 0 1 == 1 || fld v 0 1 == 2
  | .low x m => v % m == x

/-- The first code of a list that is not 0. -/
def firstCode : List Nat → Nat
  | [] => 0
  | c :: t => if c = 0 then firstCode t else c

/-- A code if a condition holds. -/
def code (c : Nat) (b : Bool) : Nat := if b then c else 0

/-! ## Access paths (R433–R441) -/

/-- A CAN bit rate that the 80 MHz clock realises within 0.5 % with a whole number of clocks per bit (R434). -/
def canRateOk (r : Nat) : Bool :=
  let near (n : Nat) : Bool :=
    0 < n && decide ((((80000000 : Int) - (n * r : Nat)).natAbs) * 200 ≤ n * r)
  near (80000000 / r) || near (80000000 / r + 1)

/-- Size in bytes of a DMA source (R439). -/
def State.dmaSize (s : State) (src : Nat) : Nat :=
  if src = 1 then s.pcDumpSize * 64 else if src = 2 then s.evlogSize * 128 else 1382400

/-- DMA_REQ's value: known source, reserved bytes 0, a length in whole 64 bytes up to 16 MiB, an aligned host address, a range
inside the source. -/
def State.dmaOk (s : State) (v : Nat) : Bool :=
  let src := fld v 0 1
  let off := fld v 4 8
  let len := fld v 12 4
  decide (1 ≤ src) && decide (src ≤ 3) && fld v 1 3 == 0 && len % 64 == 0 && decide (len ≤ 16777216) && fld v 16 8 % 64 == 0 &&
    decide (off + len ≤ s.dmaSize src)

/-- 0x1000–0x1FFF. -/
def State.refusePaths (s : State) (idx sub v : Nat) : Nat :=
  if idx = 0x1010 && sub = 3 then firstCode [code 8 (v != 0x5A), code 9 (s.vault.lc == .debug || s.dict.saving.isSome)]
  else if idx < 0x1E10 && (sub = 3 || sub = 4) && 0x1E00 ≤ idx then code 8 (!canRateOk v)
  else if idx = 0x1E21 then firstCode [code 8 (!s.dmaOk v), code 9 (s.dict.dma.isSome || s.start.dramStatus != 2)]
  else 0

/-! ## Timing (R47, R72, R95, R151, R541) -/

/-- Bindings of the input pins (R72): one pin for each ToD receiver, and each PPS half named by exactly one frequency half. -/
def State.bindingsOk (s : State) : Bool :=
  let pins := List.range 8
  decide (pins.countP (fun n => s.inBind n == 2) ≤ 1) && decide (pins.countP (fun n => s.inBind n == 3) ≤ 1) &&
    pins.all (fun n => s.inBind n != 5 || pins.countP (fun m => s.inBind m == 4 && s.inPair m == n) == 1)

/-- The pin's reference, or its pair reference, is selected or the target of a switch (R541). -/
def State.pinSelected (s : State) (n : Nat) : Bool := s.sel.current == n || (s.inBind n == 4 && s.sel.current == s.inPair n)

/-- The rates of R95 would break a limit with a channel's own CH_DIV or CH_ENABLE written. -/
def State.rateBroken (s : State) (idx sub v : Nat) : Bool :=
  let t := s.put idx sub v
  let t := if idx = 0x3800 || sub != 2 then t else t.onChan (idx - 0x3900) (fun x => { x with forcedN := 0 })
  !t.ratesOk

/-- 0x2000–0x47FF. -/
def State.refuseTiming (s : State) (idx sub v : Nat) : Nat :=
  if idx = 0x2001 then okTimeSet v s
  else if 0x3100 ≤ idx && idx < 0x3108 && (sub = 11 || sub = 12) then code 8 (!(s.put idx sub v).bindingsOk)
  else if 0x3108 ≤ idx && idx < 0x310C && (sub = 1 || sub = 11) then
    let l := if sub = 11 then v else s.seLane (idx - 0x3100)
    if sub = 1 && v = 0 then 0 else code (if sub = 1 then 9 else 8) (decide (4 ≤ (s.quad (l / 4)).mode) && l % 4 != 0)
  else if 0x3100 ≤ idx && idx < 0x3108 && sub = 14 then code 9 (s.pinSelected (idx - 0x3100))
  else if idx = 0x3800 && sub = 1 then code 8 (s.rateBroken idx sub v)
  else if 0x3900 ≤ idx && idx < 0x3920 && sub ≤ 3 then
    firstCode [code 8 (sub != 3 && s.rateBroken idx sub v), code 9 (idx == 0x391C && s.gnEnable)]
  else if idx = 0x4010 && sub = 3 then code 8 (decide (s.servoBwTrack < v))
  else if idx = 0x4400 && sub = 1 then code 8 (v == 0 && s.ovenHeaterW == 0)
  else 0

/-! ## Outputs, GNSS, lanes, shed (R157, R158, R174, R185, R193, R235, R247, R263, R276, R288) -/

/-- A ToD transmitter's delay and rate leave its sentence inside 100 ms to 900 ms (R174). -/
def todFits (delay baud : Nat) : Bool := decide (100 ≤ delay) && decide (delay * baud + 650000 ≤ 900 * baud)

/-- A shadow that a commit waits to take (R158). -/
def State.shadowHeld (s : State) (idx : Nat) : Bool :=
  match s.synth.pending with
  | some (mask, outs, _) => (idx < 0x4804 && bit mask (idx - 0x4800)) || (0x4900 ≤ idx && bit outs (idx - 0x4900))
  | none => false

/-- 0x4800–0x5FFF. -/
def State.refuseOutputs (s : State) (idx sub v : Nat) : Nat :=
  if idx = 0x4840 && sub = 1 then s.okCommit v
  else if shadowed idx sub then code 9 (s.shadowHeld idx)
  else if 0x4841 ≤ idx && idx < 0x4843 && sub = 4 then code 8 (!todFits (s.todTxDelay (idx - 0x4841)) v)
  else if 0x4841 ≤ idx && idx < 0x4843 && sub = 5 then code 8 (!todFits v (s.todTxBaud (idx - 0x4841)))
  else if 0x5100 ≤ idx && idx < 0x5200 && sub = 2 then code 8 (decide (v ≤ s.trkSpacing (idx - 0x5100)))
  else if idx = 0x5000 && sub = 4 then code 8 (s.rateBroken idx sub v)
  else if idx = 0x5000 && sub = 3 then code 8 (!(List.range 3).all (fun k => (s.put idx sub v).lobesOk k))
  else if 0x5010 ≤ idx && idx < 0x5013 && (sub = 2 || sub = 5) then code 8 (!(s.put idx sub v).lobesOk (idx - 0x5010))
  else 0

/-- The shared pool with a value written would be too small (R276). -/
def State.poolShort (s : State) (idx sub v : Nat) : Bool :=
  decide ((s.put idx sub v).sharedPool < 24576)

/-- The shared pool with a value written would be smaller than what it holds (R288). -/
def State.poolUsed (s : State) (idx sub v : Nat) : Bool := decide ((s.put idx sub v).sharedPool < s.yard.sharedUsed)

/-- 0x6000–0x6FFF. A reserved byte of MIRROR_FLOW is 0 (R9). A write that would shrink an account, its own or the shared pool, below what it
holds is refused (R288). -/
def State.refuseLanes (s : State) (idx sub v : Nat) : Nat :=
  let s := s.settleTails
  if 0x6000 ≤ idx && idx < 0x6008 && sub = 4 then s.okQuadApply (idx - 0x6000)
  else if 0x6100 ≤ idx && idx < 0x6120 && sub = 9 then code 8 (decide (s.laneFomWarn (idx - 0x6100) ≤ v))
  else if 0x6100 ≤ idx && idx < 0x6120 && sub = 10 then code 9 (v == 1 && s.timingPort (idx - 0x6100))
  else if 0x6400 ≤ idx && idx < 0x6420 && sub = 3 then code 9 ((s.lane (idx - 0x6400)).stampState != 2)
  else if idx = 0x6800 && sub = 3 then firstCode [code 8 (s.poolShort idx sub v), code 9 (decide (v < s.yard.timingUsed) || s.poolUsed idx sub v)]
  else if idx = 0x6800 && sub = 4 then firstCode [code 8 (s.poolShort idx sub v), code 9 (decide (v < s.yard.hostUsed) || s.poolUsed idx sub v)]
  else if 0x6B00 ≤ idx && idx < 0x6C00 && sub = 3 then
    firstCode [code 8 (s.poolShort idx sub v), code 9 (decide (v < (s.queue (idx - 0x6B00)).minUsed) || s.poolUsed idx sub v)]
  else if 0x6E00 ≤ idx && idx < 0x6E04 && sub = 5 then code 8 (fld v 5 1 != 0)
  else 0

/-! ## PTP and NTP (R290, R291, R307, R311, R331) -/

/-- A slot holds a key of an algorithm with a use attribute. -/
def State.slotHolds (s : State) (n alg use : Nat) : Bool :=
  decide (n < 512) && (s.slot n).sstate == 2 && (s.slot n).alg == alg && (s.slot n).use == use

/-- A slot serves an SA (R309): of the SA's algorithm, or of any of the three while the SA has none. -/
def State.saSlotOk (s : State) (i n use : Nat) : Bool :=
  match s.saAlg i with
  | 1 => s.slotHolds n 3 use
  | 2 => s.slotHolds n 1 use
  | 3 => s.slotHolds n 2 use
  | _ => s.slotHolds n 1 use || s.slotHolds n 2 use || s.slotHolds n 3 use

/-- A message interval lies in a profile's range (R290), which its standard gives (log entry 163): PTP_LOG_ANNOUNCE, PTP_LOG_SYNC and
PTP_LOG_DELAY_REQ, log2 seconds. -/
def intervalOk (profile sub : Nat) (v : Int) : Bool :=
  let within (lo hi : Int) : Bool := decide (lo ≤ v) && decide (v ≤ hi)
  match profile with
  | 2 => if sub = 0x0A then v == -3 else v == -4
  | 3 => if sub = 0x0A then within (-3) 0 else within (-7) 0
  | 4 => v == 0
  | _ => if sub = 0x0A then within 0 4 else if sub = 0x0B then within (-1) 1 else within 0 5

/-- A domain lies in a profile's range (R290). -/
def domainOk (profile v : Nat) : Bool :=
  if profile ≤ 1 then decide (v ≤ 127)
  else if profile = 2 then decide (24 ≤ v) && decide (v ≤ 43)
  else if profile = 3 then decide (44 ≤ v) && decide (v ≤ 63)
  else v == 254

/-- A profile runs over a transport (R290). -/
def transportOk (profile v : Nat) : Bool := if profile ≤ 1 then true else if profile = 3 then v != 0 else v == 0

/-- 0x7000–0x7FFF. -/
def State.refuseServices (s : State) (idx sub v : Nat) : Nat :=
  let k := idx - 0x7010
  if 0x7010 ≤ idx && idx < 0x7014 then
    if sub = 1 then code 9 (v == 1 && (s.ptpAuthPolicy k == 1 || s.ptpAuthPolicy k == 2) && s.saAlg (s.ptpSaSend k) == 0)
    else if sub = 3 then code 8 (!domainOk (s.ptpProfile k) v)
    else if sub = 5 then code 8 ((List.range 4).any (fun j => j != k && v &&& s.ptpPorts j != 0))
    else if sub = 6 then code 8 (!transportOk (s.ptpProfile k) v)
    else if 0x0A ≤ sub && sub ≤ 0x0C then code 8 (!intervalOk (s.ptpProfile k) sub (signed 1 v))
    else 0
  else if 0x7300 ≤ idx && idx < 0x7310 && sub = 3 then code 8 (!s.saSlotOk (idx - 0x7300) v 1)
  else if 0x7300 ≤ idx && idx < 0x7310 && sub = 4 then code 8 (!s.saSlotOk (idx - 0x7300) v 2)
  else if 0x7810 ≤ idx && idx < 0x7812 then
    let b := idx - 0x7810
    if sub = 1 then code 8 (v != 0 && v == s.ntsKeyId (1 - b))
    else firstCode [code 8 (!s.slotHolds v 4 (sub - 1)), code 9 (s.ntp.current == b)]
  else if idx = 0x7820 && (sub = 1 || sub = 2) then code 9 (s.ntp.mintConsumer != s.ntp.mintProducer)
  else 0

/-! ## Engines, counters, governor (R345, R351, R363, R374, R376) -/

/-- Two regions of DRAM meet. -/
def overlap (a n b m : Nat) : Bool := n != 0 && m != 0 && decide (a < b + m) && decide (b < a + n)

/-- A region of DRAM meets the reserved lowest 2 MiB (R130). -/
def inReserved (a n : Nat) : Bool := overlap a n 0 2097152

/-- The regions of DRAM that writes place, with their bytes. -/
def State.paddockRange (s : State) : Nat × Nat := (s.paddockBase, s.paddockSize * 1048576)
def State.dumpRange (s : State) : Nat × Nat := (s.pcDumpBase, s.pcDumpSize * 64)
def State.logRange (s : State) : Nat × Nat := (s.evlogBase, s.evlogSize * 128)

/-- Two of these regions meet. -/
def meet (x y : Nat × Nat) : Bool := overlap x.1 x.2 y.1 y.2

/-- The engine is in the paddock. -/
def State.tackNamed (s : State) (e : Nat) : Bool := decide (24 ≤ e) && decide (e < 32) && bit s.tackEngines (e - 24)

/-- Samples of Gelusk engines are accepted (R374). -/
def State.sampleOk (s : State) (w : Who) : Bool := s.vault.lc == .debug || (s.vault.lc == .maker && w.role == .maker)

/-- 0x8000–0x8FFF. -/
def State.refuseEngines (s : State) (w : Who) (idx sub v : Nat) : Nat :=
  if idx = 0x8000 then code 8 (decide (v < s.fwMinSvn) || decide (s.fwSvn < v))
  else if idx = 0x8010 && (sub = 3 || sub = 4) then
    let t := s.put idx sub v
    firstCode [code 8 (inReserved t.paddockRange.1 t.paddockRange.2 || meet t.paddockRange s.logRange || meet t.paddockRange s.dumpRange),
      code 9 ((List.range 8).any (fun j => [2, 3, 4].contains (s.tackState j)))]
  else if idx = 0x8010 && sub = 6 then code 8 (!s.slotHolds v 8 2)
  else if idx = 0x8010 && sub = 7 then code 8 (decide (v < s.tackMinSvn))
  else if 0x8020 ≤ idx && idx < 0x8028 && sub = 1 then
    firstCode [code 8 (decide (v < s.paddockRange.1) || decide (s.paddockRange.1 + s.paddockRange.2 < v + 256)),
      code 9 (!s.tackLoadOk (idx - 0x8020) v)]
  else if idx = 0x8800 && (sub = 1 || sub = 2) then
    let t := s.put idx sub v
    firstCode [code 8 (inReserved t.dumpRange.1 t.dumpRange.2 || meet t.dumpRange s.paddockRange),
      code 9 (s.pcDumpSize != 0 && s.dump.producer != s.pcDumpConsumer)]
  else if idx = 0x8800 && sub = 5 then
    code 9 ((List.range 36).any (fun e => bit v e && !s.tackNamed e) && !s.sampleOk w)
  else if 0x8810 ≤ idx && idx < 0x8834 then
    let e := idx - 0x8810
    if sub = 1 then
      firstCode [code 8 (!(List.range 8).all (fun i => decide (fld v (2 * i) 2 < 512 ∧ fld v (2 * i) 1 ≤ 0x18))), code 9 (s.tackNamed e)]
    else firstCode [code 8 (bits v 24 7 != 0 || decide (0x18 < fld v 4 1)), code 9 (s.tackNamed e || (v != 0 && !s.sampleOk w))]
  else if idx = 0x8C00 && sub = 8 then code 8 (decide (v < s.govW2Min))
  else if idx = 0x8C00 && sub = 9 then code 8 (decide (s.govW2Reduced < v))
  else 0

/-! ## Vault and access (R381, R390, R391, R396, R401, R409, R412, R424) -/

/-- An owner transfer's or a rotation's own conditions. A token that fails is a credential that fails (R412). -/
def State.refuseOwner (s : State) (a : Acc) (sub v : Nat) : Nat :=
  if sub = 3 then code 5 (!a.proof)
  else firstCode [code 8 (fld v 97 3 != 0), code 9 (decide (4 ≤ s.access.ownerKeys.length))]

/-- 0xA000–0xAFFF. AUTH_OPEN has its own verdict. -/
def State.refuseVault (s : State) (a : Acc) (idx sub v : Nat) : Nat :=
  if idx = 0xA000 && sub = 2 then s.lcCode v
  else if 0xA100 ≤ idx && idx < 0xA300 then s.slotAttrCode (idx - 0xA100) v
  else if idx = 0xA400 then
    if sub = 1 then s.stageCode v else if sub = 2 then s.commitCode (fld v 0 2) else s.keyCode (fld v 0 2)
  else if idx = 0xA500 && sub = 1 then
    code 9 (!(s.vault.lc == .blank || s.vault.lc == .maker || s.vault.lc == .debug) &&
      [5, 7, 8].any (fun k => bit s.tamperEnable k && !bit v k))
  else if idx = 0xA530 then s.tamperClearCode v
  else if idx = 0xA800 && sub = 4 then code 8 (!(s.access.sessions.any (fun x => x.num == v)))
  else if idx = 0xA801 && sub = 3 then code 8 (decide (v < s.ticketMinId))
  else if idx = 0xA803 then s.refuseOwner a sub v
  else 0

/-! ## Pair, domain, faults, start-up (R446, R452, R463, R466, R470, R484, R495, R498, R506, R508, R514, R515) -/

/-- The guard of R452 covers the lease. -/
def guardOk (lease guard : Nat) : Bool := decide (lease + 16 ≤ 16 * guard)

/-- 0xB000–0xBFFF. -/
def State.refusePair (s : State) (idx sub v : Nat) : Nat :=
  if idx = 0xB000 then
    if sub = 1 then code 9 (s.pairEnableBarred v)
    else if sub = 2 then code 8 (!guardOk v s.halterGuard)
    else if sub = 3 then code 8 (!guardOk s.halterLease v)
    else if sub = 4 then code 8 (v != 0xFFFF && !s.pairSlotOk v)
    else if sub = 9 then code 9 (v == 1 && s.pair.lease && !s.peerReady)
    else 0
  else if idx = 0xB002 then code 9 (if v = 0x5A then !s.pair.lease else !s.diagOk)
  else if idx = 0xB800 && sub = 3 then code 8 (v != 0xFFFF && !s.domainSlotOk v)
  else 0

/-- Entries of the calibration table (R512). -/
def calEntry (e : Nat) : Bool :=
  let key := e % 16777216
  match e / 16777216 with
  | 1 => key / 256 < 32 && key % 256 < 10
  | 2 => key / 256 < 32 && key % 256 < 10
  | 3 => key < 32
  | 4 => key < 32
  | 5 => key / 256 < 32 && key % 256 < 32
  | 6 => key < 8
  | 7 => key < 3
  | 8 => key < 3
  | 9 => key < 10
  | 10 => key < 16
  | 11 => key < 4
  | _ => false

/-- A key operation or a flash commit runs (R508). -/
def State.flashBusy (s : State) : Bool :=
  !s.vault.jobs.isEmpty || s.vault.keyOp.isSome || s.cal.commit.isSome || s.dict.saving.isSome || s.start.fwState == 3

/-- A firmware write would break the order of R506. -/
def State.fwBarred (s : State) (sub : Nat) : Bool := s.start.fwState == 1 || s.start.fwState == 3 || (sub != 1 && !s.start.fwErased)

/-- The per-unit file is loaded whole (R515). -/
def State.fileLoaded (s : State) : Bool :=
  let l := s.cal.staging
  let reach : Nat := (List.range (l.length + 1)).foldl (fun e _ => l.foldl (fun e p => if p.1 ≤ e then max e (p.1 + p.2) else e) e) 0
  decide (28512 ≤ reach)

/-- 0xC000–0xDFFF. The per-unit file's signature, serial number and entry set are the access's own outcome (R515). -/
def State.refuseStart (s : State) (a : Acc) (idx sub v : Nat) : Nat :=
  let calBusy := s.cal.commit.isSome || s.cal.unusable
  if idx = 0xC003 && sub = 1 then ackCode v
  else if idx = 0xC003 then code 8 (fld v 2 2 != 0)
  else if idx = 0xC010 && (sub = 1 || sub = 2) then
    let t := s.put idx sub v
    firstCode [code 8 (inReserved t.logRange.1 t.logRange.2 || meet t.logRange s.paddockRange || meet t.logRange s.dumpRange),
      code 9 (s.log.producer != s.evlogConsumer)]
  else if idx = 0xC800 && sub = 1 then code 8 (!calEntry (v % 2147483648))
  else if idx = 0xC800 then
    let cls := s.calSel a / 16777216
    firstCode [code 8 (decide (1 < fld v 12 1) || ((cls == 4 || cls == 5) && fld v 8 4 != 0)), code 9 (calBusy || !calEntry (s.calSel a))]
  else if idx = 0xC801 && sub = 1 then
    code 8 (fld v 4 2 == 0 || decide (1000 < fld v 4 2) || fld v 6 2 != 0 || decide (28512 < fld v 0 4 + fld v 4 2))
  else if idx = 0xC801 then firstCode [code 9 calBusy, code 9 (!s.fileLoaded || a.outcome != 0)]
  else if idx = 0xD010 then 0
  else if idx = 0xD011 then code 9 (s.contends || s.flashBusy)
  else if idx = 0xD020 then
    let bad := sub == 2 && (decide (fld v 0 4 < 256) || decide (fld v 4 2 < 8) || decide (1000 < fld v 4 2) || fld v 4 2 % 8 != 0 ||
      fld v 6 2 != 0 || decide (16777216 < fld v 0 4 + fld v 4 2))
    firstCode [code 8 bad, code 9 (s.fwBarred sub)]
  else if idx = 0xD102 then code 9 (!okPllRelock s)
  else 0

/-- Checks 10 and 11 (R429): 0 when both pass. -/
def State.writeRefusal (s : State) (a : Acc) (w : Who) (d : ObjDef) (idx sub v : Nat) : Nat :=
  let s := s.stored
  if !rangeOk d v then 0x08
  else if idx < 0x2000 then s.refusePaths idx sub v
  else if idx < 0x4800 then s.refuseTiming idx sub v
  else if idx < 0x6000 then s.refuseOutputs idx sub v
  else if idx < 0x7000 then s.refuseLanes idx sub v
  else if idx < 0x8000 then s.refuseServices idx sub v
  else if idx < 0xA000 then s.refuseEngines w idx sub v
  else if idx < 0xB000 then s.refuseVault a idx sub v
  else if idx < 0xC000 then s.refusePair idx sub v
  else s.refuseStart a idx sub v

end Sys2Proof.Machine
end

