-- ==== Sys2Proof/Machine/Effects.lean ====
section
/-!
DEFINITION. What an accepted write does, chapter by chapter, and a write as the agent decides it: the checks of R429, the audit
record of R421, and then the effect (R430).
-/
set_option Elab.async false
namespace Sys2Proof.Machine

/-! ## Access paths (R428, R434, R436, R439, R441, R444) -/

/-- A selection is kept for the session or the path that wrote it. -/
def State.select (s : State) (a : Acc) (f : Session → Session) (g : PathState → PathState) : State :=
  match s.accSession a with
  | some x => s.onSession x.num f
  | none => s.onPath a.path g

/-- What a save writes: each persisted object as it stands (R441). -/
def State.toSave (s : State) : List (Nat × Nat) :=
  s.dict.store.filter (fun p =>
    match entryOf (p.1 / 256) (p.1 % 256) with
    | some d => d.persisted (p.1 / 256)
    | none => false)

/-- CAN_ENABLE takes a value: the controller starts with the settings as written, or stops and loses its sessions (R434). -/
def opCanEnable (c v : Nat) (s : State) : State :=
  let s := s.put (0x1E00 + c) 1 v
  if v = 1 then s.startCan c
  else (s.onCan c (fun x => { x with state := 0, transfer := false })).endSessions 6 (fun x => x.path == Path.can c)

/-- ATTN_ACK: the latched bits named are cleared; bits 1 and 2 follow their conditions (R436). -/
def opAttnAck (v : Nat) (s : State) : State :=
  let keep := (List.range 8).filter (fun b => bit s.dict.attn b && !(bit v b && b != 1 && b != 2))
  { s with dict := { s.dict with attn := (keep.map (2 ^ ·)).sum } }

/-- DMA_REQ starts a copy; without a link it is aborted at once (R439). -/
def opDmaReq (v : Nat) (s : State) : State :=
  if s.dict.pcieUp then
    { s with dict := { s.dict with dma := some (fld v 0 1, fld v 4 8, fld v 12 4, fld v 16 8), dmaStatus := 1 } }
  else { s with dict := { s.dict with dmaStatus := 3 } }

/-- A write to an Esxia path object; the sessions whose path it removes end (R444). -/
def opEsxiaPath (sub v : Nat) (s : State) : State :=
  let t := s.put 0x1E30 sub v
  let moved := t.esxiaUdpPort != s.esxiaUdpPort
  t.endSessions 6 (fun x => x.path == .esxia && (!t.esxiaEnable || moved || !bit t.esxiaAddrs x.host || !bit t.esxiaPorts x.port))

/-- 0x1000–0x1FFF. -/
def State.writePaths (s : State) (a : Acc) (idx sub v : Nat) : State :=
  if idx = 0x1010 && sub = 1 then s.select a (fun x => { x with describe := v }) (fun p => { p with describe := v })
  else if idx = 0x1010 then { s with dict := { s.dict with saving := some s.toSave } }
  else if idx < 0x1E10 && sub = 1 then opCanEnable (idx - 0x1E00) v s
  else if idx = 0x1E21 then opDmaReq v s
  else if idx = 0x1E30 && sub ≤ 4 then opEsxiaPath sub v s
  else if idx = 0x1E40 && sub = 3 then opAttnAck v s
  else if idx = 0x1E40 then s.irqEdge (s.put idx sub v)
  else s.put idx sub v

/-! ## Time base, girth, references, TIU, servo (R47, R64, R68, R92, R108, R142, R230, R541) -/

/-- UTC_OFFSET_MODE takes a value: a change makes UTC_OFFSET_VALID 0 at once (R64). -/
def opUtcMode (v : Nat) (s : State) : State :=
  let t := s.put 0x2100 3 v
  if v = s.utcOffsetMode then t else { t with tb := { t.tb with utcValid := false } }

/-- CH_DIV, CH_EDGE or CH_ENABLE takes a value (R108); a prescaler that the part has forced stays unless CH_DIV is written. -/
def opChannelWrite (c sub v : Nat) (s : State) : State :=
  (opTiuReconfig c (s.put (0x3900 + c) sub v)).onChan c (fun x => { x with forcedN := if sub = 2 then 0 else x.forcedN })

/-- IN_ELEC takes a value: it acts at the next anchor (R541). -/
def opInElec (n v : Nat) (s : State) : State :=
  let t := s.put (0x3100 + n) 14 v
  { t with sel := { t.sel with elecDue := t.sel.elecDue.filter (· != n) ++ [n] } }

/-- At an anchor, the pins whose IN_ELEC was written change: channel and soak restart (R541). -/
def State.takeElec (s : State) : State :=
  let t := s.sel.elecDue.foldl (fun s n =>
    let s := opTiuReconfig n s
    let m := if s.inBind n = 4 then s.inPair n else n
    let r := (s.ref m).state
    if 8 ≤ m || r == .absent || r == .disabled then s
    else (s.moveRef m .soaking).onRef m (fun x => { x with soakLeft := s.soakTime m, clearRun := 0 })) s
  { t with sel := { t.sel with elecDue := [] } }

/-- An object of R91 that R92 holds back until the next selector tick: all but IN_ELEC. -/
def refKey (k : Nat) : Bool := 0x300000 ≤ k && k < 0x311100 && !(0x310000 ≤ k && k < 0x310800 && k % 256 == 14)

/-- What the selector tick makes of an object of R91 that has been written (R82, R92, R95); `old` is the part before the tick took it.
SOAK_TIME and IN_BIND act only where the value is another one. -/
def State.refEffect (old : State) (s : State) (k : Nat) : State :=
  let n := k / 256 - 0x3100
  let sub := k % 256
  if k < 0x310000 then s
  else if sub = 1 then (opRefEnable n s).wakeTiming
  else if sub = 8 then (if old.soakTime n = s.soakTime n then s else opSoakRestart n s)
  else if n < 8 && sub = 11 then (if old.inBind n = s.inBind n then s else opRebind n s)
  else if n < 8 && sub = 13 then s.fixRate n
  else if 8 ≤ n && n < 12 && sub = 11 then (s.fixRate n).wakeTiming
  else if n = 16 && sub = 11 then s.gnQl
  else s

/-- Writes of the references' objects take effect (R92). -/
def State.takeRefs (s : State) : State :=
  ((s.dict.held.filter (fun x => refKey x.1)).map (·.1)).foldl s.refEffect (s.takeLate refKey)

/-- The selector tick with the writes that have waited for it (R86, R92), while the servo cores have a clock (R27). -/
def opSelect (s : State) : State := if s.servo.suspended || !s.engsRun then s else opSelectorTick s.takeRefs

/-- Objects whose writes wait: those of the girth's terms for the next anchor (R230), CH_GATE for the window's end (R108), the servo's for the next processed measurement (R127), HO_WINDOW,
HO_GUARD and HO_LEARN for the next anchor (R135), the oven's for the next loop step, the atomic ones for the next steering second
(R152). -/
def lateTiming (k : Nat) : Bool :=
  k == 0x281002 || k == 0x281003 || (0x290000 ≤ k && k < 0x291100) || (0x390000 ≤ k && k < 0x392000 && k % 256 == 4) ||
     (0x401000 ≤ k && k < 0x401300) || (0x440000 ≤ k && k < 0x440300 && k != 0x440002) ||
    (0x442001 ≤ k && k ≤ 0x442003) || (0x442007 ≤ k && k ≤ 0x442008) || k == 0x44200A ||
    (0x444001 ≤ k && k ≤ 0x444004)

/-- ATOMIC_RELAY_TX and ATOMIC_RELAY_STATUS wait for the next steering second (R152). -/
def State.askRelay (s : State) (sub v : Nat) : State :=
  if sub = 7 then { s with atomic := { s.atomic with relayTx := some v } } else { s with atomic := { s.atomic with relayStatus := some v } }

/-- 0x2000–0x47FF. -/
def State.writeTiming (s : State) (idx sub v : Nat) : State :=
  if idx = 0x2001 then opTimeSet (v / 281474976710656) s
  else if idx = 0x2030 then
    let t := s.put idx sub v
    if t.tb.coarse = 0 then t else t.coarseRebase t.tb.coarse
  else if idx = 0x2100 && sub = 1 then
    let t := s.put idx sub v
    { t with tb := { t.tb with utcValid := true } }
  else if idx = 0x2100 && sub = 3 then opUtcMode v s
  else if idx = 0x2810 && sub = 1 then (s.put idx sub v).revalid
  else if 0x3100 ≤ idx && idx < 0x3108 && sub = 14 then opInElec (idx - 0x3100) v s
  else if refKey (idx * 256 + sub) then s.putLate idx sub v
  else if 0x3900 ≤ idx && idx < 0x3920 && sub ≤ 3 then opChannelWrite (idx - 0x3900) sub v s
  else if idx = 0x4440 && (sub = 7 || sub = 8) then s.askRelay sub v
  else if lateTiming (idx * 256 + sub) then s.putLate idx sub v
  else s.put idx sub v

/-! ## Outputs, GNSS, lanes, yard (R157, R209, R254, R263, R288) -/

/-- 0x4800–0x5FFF. What waits for an epoch (R209) waits while the baseband runs; otherwise it acts at once (log entry 127). -/
def State.writeOutputs (s : State) (idx sub v : Nat) : State :=
  if idx = 0x4840 && sub = 1 then opCommit v s
  else if idx = 0x5000 && sub = 1 then opGnEnable (s.put idx sub v)
  else if idx = 0x5001 && sub = 6 then opSurveyRestart s
  else if gnKey (idx * 256 + sub) then
    let t := s.putLate idx sub v
    if t.gnRuns then t else t.takeGnss
  else s.put idx sub v

/-- LANE_ENABLE takes a value (R253, R254). -/
def opLaneEnable (l v : Nat) (s : State) : State :=
  let t := s.put (0x6100 + l) 1 v
  if v = 0 then opLaneDisable l t
  else (t.portLanes (t.portOf l)).foldl (fun s k => if (s.lane k).state = 0 && s.portEnabled (s.portOf k) then s.beginLane k else s) t

/-- PEER_LANE_ENABLE takes a value: a lane that it no longer names goes down, and one that it names begins its bring-up. -/
def opPeerEnable (v : Nat) (s : State) : State :=
  let t := s.put 0x6300 1 v
  (List.range 2).foldl (fun s p =>
    let on := bit v p
    if on then if (s.peerLane p).state = 0 then s.beginPeer p else s
    else if (s.peerLane p).state = 0 then s
    else (opPeerLaneDown p s).onPeer p (fun x => { x with state := 0 })) t

/-- 0x6000–0x6FFF. -/
def State.writeLanes (s : State) (idx sub v : Nat) : State :=
  let t := s.put idx sub v
  if 0x6000 ≤ idx && idx < 0x6008 && sub = 4 then opQuadApply (idx - 0x6000) s
  else if 0x6100 ≤ idx && idx < 0x6120 then
    let l := idx - 0x6100
    if sub = 1 then opLaneEnable l v s
    else if sub = 6 then opCtleMode l t
    else if sub = 10 then (if v = 0 then t.onLane l (fun x => { x with txSleep := false }) else t)
    else if sub = 13 then opRetrain l s
    else t
  else if idx = 0x6300 && sub = 1 then opPeerEnable v s
  else if idx = 0x6300 && sub = 2 then opPeerRevert 0 t
  else if 0x6400 ≤ idx && idx < 0x6420 && sub = 2 then (t.portLanes (idx - 0x6400)).foldl State.markCtle t
  else if 0x6400 ≤ idx && idx < 0x6420 && sub = 3 then opCalLoop (idx - 0x6400) s
  else t

/-! ## PTP, NTP, engines, counters, governor (R311, R324, R327, R345, R351, R363, R373, R376) -/

/-- A write of an object of R310 (R311): those of the exceptions act at once, the others at the next state decision of their instance;
where no enabled instance has the port or the object, at once (log entry 139). -/
def State.writePtp (s : State) (idx sub v : Nat) : State :=
  let t := s.put idx sub v
  if idx = 0x7000 && (sub = 2 || sub = 3) then t.ptpOver
  else if 0x7010 ≤ idx && idx < 0x7014 then
    if [2, 3, 5, 6].contains sub then opPtpReconfig (idx - 0x7010) t else s.ptpWrite (idx - 0x7010) idx sub v
  else if 0x7100 ≤ idx && idx < 0x7120 then
    match s.instOfPort (idx - 0x7100) with
    | some k => s.ptpWrite k idx sub v
    | none => t.wakeTiming
  else match (List.range 4).filter s.ptpEnable with
    | [] => t
    | l => l.foldl (fun s k => s.ptpWrite k idx sub v) s

/-- 0x7000–0x7FFF. A lane may become a timing port lane (R248). -/
def State.writeServices (s : State) (idx sub v : Nat) : State :=
  let t := s.put idx sub v
  if idx < 0x7800 then s.writePtp idx sub v
  else if idx = 0x7800 then t.wakeTiming
  else if idx = 0x7801 && (sub = 1 || sub = 2) then opHashRekey t
  else if idx = 0x7801 && sub = 8 then opHashRekey s
  else if idx = 0x7820 && sub = 3 then opMintProducer v s
  else t

/-- The dump ring starts again, empty (R376). -/
def State.restartDump (s : State) : State :=
  let t := s.put 0x8801 2 0
  { t with dump := { t.dump with producer := 0, lossDue := 0 } }

/-- 0x8000–0x8FFF. -/
def State.writeEngines (s : State) (idx sub v : Nat) : State :=
  let t := s.put idx sub v
  if idx = 0x8010 && sub = 1 then opPaddockEnable v s
  else if idx = 0x8010 && sub = 2 then opTackEngines v s
  else if 0x8020 ≤ idx && idx < 0x8028 && sub = 1 then opTackLoad (idx - 0x8020) v s
  else if 0x8020 ≤ idx && idx < 0x8028 && sub = 5 then opTackStop (idx - 0x8020) s
  else if dumpKey (idx * 256 + sub) then if s.pcDumpSize = 0 then t else s.putLate idx sub v
  else if idx = 0x8800 && sub ≤ 2 then t.restartDump
  else if idx = 0x8801 then s.irqEdge t
  else if 0x8810 ≤ idx && idx < 0x8834 then
    let e := idx - 0x8810
    { t with dump := { t.dump with due := t.dump.due.filter (· != e) ++ [e] } }
  else if idx = 0x8C00 && sub = 12 then opGovLevelMin v s
  else t

/-! ## Vault, access, pair, domain (R381–R401, R409–R418, R454, R463, R466, R470, R477, R484) -/

/-- 0xA000–0xAFFF. AUTH_OPEN has its own verdict. -/
def State.writeVault (s : State) (a : Acc) (w : Who) (idx sub v : Nat) : State :=
  if idx = 0xA000 && sub = 2 then opLcRequest (fld v 0 1) a.outcome s
  else if 0xA100 ≤ idx && idx < 0xA300 then (opSlotAttr (idx - 0xA100) v s).sendChanged s
  else if idx = 0xA400 then
    let n := fld v 0 2
    match sub with
    | 1 => opKeyStage v a.outcome s
    | 2 => (opKeyCommit n a.outcome s).sendChanged s
    | 3 => opAbandon n s
    | 4 => (opKeyErase n a.outcome s).sendChanged s
    | _ => opKeyExport v a.outcome w.role.code s
  else if idx = 0xA530 then opTamperClear s
  else if idx = 0xA800 then opAuthClose v s
  else if idx = 0xA801 && sub = 3 then opTicketMinId v s
  else if idx = 0xA803 && sub = 3 then opTransfer v s
  else if idx = 0xA803 then opRotate v s
  else if idx = 0xA820 then opJtagUnlock s
  else s.put idx sub v

/-- 0xB000–0xBFFF. -/
def State.writePair (s : State) (idx sub v : Nat) : State :=
  let t := s.put idx sub v
  if idx = 0xB000 && sub = 1 then opPairEnable (v == 1) s
  else if idx = 0xB000 && (sub = 4 || sub = 5) then t.rejoin
  else if idx = 0xB000 && sub = 9 then (if v = 1 && s.pair.lease then (s.putLate idx sub v).propose 5 else if s.pairEnable then s.putLate idx sub v else t)
  else if s.pairEnable && pairLate (idx * 256 + sub) then s.putLate idx sub v
  else if idx = 0xB002 then (if v = 0x5A then s.propose 6 else opPairDiag s)
  else if idx = 0xB800 && [1, 2, 3, 7].contains sub then s.domainRestart.put idx sub v
  else if domainKey (idx * 256 + sub) then s.putLate idx sub v
  else if 0xBB00 ≤ idx && idx < 0xBB40 then opPolicyWrite t
  else t

/-! ## Faults, calibration, start-up (R495, R498, R506, R508, R514, R515) -/

/-- FAULT_ACK. -/
def opFaultAck (v : Nat) (s : State) : State := if v = 0xFFFF then opAckAll s else if v = 0xFFF3 then opAckF3 s else opAckCode v s

/-- The log ring starts again, empty (R498). -/
def State.restartLog (s : State) : State :=
  let t := s.put 0xC011 2 0
  { t with log := { t.log with producer := 0, ring := [] } }

/-- CAL_VALUE: the entry is replaced by a table commit, and a raise of UNC acts at once (R514). -/
def opCalValue (e : Nat) (v : Nat) (s : State) : State :=
  let x : CalEntry := ⟨e, signed 8 (fld v 0 8), fld v 8 4, true⟩
  let up := s.calUnc e < x.unc
  let s := if up then s.raiseUnc e x.unc else s
  { s with cal := { s.cal with
    commit := some (putEntry x s.cal.entries, e / 16777216)
    raises := if up then putKey e x.unc s.cal.raises else s.cal.raises } }

/-- CAL_RELOAD_CHUNK (R515). -/
def opCalChunk (v : Nat) (s : State) : State :=
  { s with cal := { s.cal with staging := s.cal.staging ++ [(fld v 0 4, fld v 4 2)], stagingTime := s.tb.lc } }

/-- CAL_RELOAD_COMMIT: the whole table, factory entries only; an entry whose UNC rises has it at once (R514, R515). -/
def opCalReload (s : State) : State :=
  let up := s.cal.entries.filter (fun x => x.unc < factoryUncOf x.eid)
  let s := up.foldl (fun s x => s.raiseUnc x.eid (factoryUncOf x.eid)) s
  { s with cal := { s.cal with
    commit := some ([], noInst), raises := up.foldl (fun l x => putKey x.eid (factoryUncOf x.eid) l) s.cal.raises } }

/-- SLEEP_ENTER: outputs, sessions, DRAM, and every group but AON and XO (R508). -/
def opSleep (s : State) : State :=
  let s := (s.dropSessions).onOuts (fun o => { o with running := false, highZ := true })
  { s with clk := { s.clk with groups := s.clk.groups.take 2 ++ List.replicate 13 3 }
           start := { s.start with sleep := true } }

/-- FW_ERASE, FW_CHUNK and FW_COMMIT (R506). The header gives the SVN and GEN of the bundle that its verification would make
(R504). -/
def State.writeFirmware (s : State) (sub v : Nat) : State :=
  if sub = 1 then
    let t := s.putIdle none
    { t with start := { t.start with fwState := 1, fwErased := false } }
  else if sub = 2 then { s with start := { s.start with fwState := 2 } }
  else { s with start := { s.start with fwState := 3, fwPending := some ⟨true, fld v 8 4, fld v 12 4⟩ } }

/-- 0xC000–0xDFFF. -/
def State.writeStart (s : State) (a : Acc) (idx sub v : Nat) : State :=
  let t := s.put idx sub v
  if idx = 0xC003 then (if sub = 1 then opFaultAck v s else opF3Clear s)
  else if idx = 0xC010 && sub ≤ 2 then t.restartLog
  else if faultKey (idx * 256 + sub) then s.putLate idx sub v
  else if idx = 0xC800 && sub = 1 then
    let e := v % 2147483648
    s.select a (fun x => { x with calSel := e }) (fun p => { p with calSel := e })
  else if idx = 0xC800 then opCalValue (s.calSel a) v s
  else if idx = 0xC801 then (if sub = 1 then opCalChunk v s else opCalReload s)
  else if idx = 0xD010 then s.sysReset 4
  else if idx = 0xD011 then opSleep s
  else if idx = 0xD020 then s.writeFirmware sub v
  else if idx = 0xD102 then opPllRelock v s
  else t

/-- The effect of an accepted write (R430): stored, and whatever its chapter makes of it. -/
def State.applyWrite (s : State) (a : Acc) (w : Who) (idx sub v : Nat) : State :=
  if idx < 0x2000 then s.writePaths a idx sub v
  else if idx < 0x4800 then s.writeTiming idx sub v
  else if idx < 0x6000 then s.writeOutputs idx sub v
  else if idx < 0x7000 then s.writeLanes idx sub v
  else if idx < 0x8000 then s.writeServices idx sub v
  else if idx < 0xA000 then s.writeEngines idx sub v
  else if idx < 0xB000 then s.writeVault a w idx sub v
  else if idx < 0xC000 then s.writePair idx sub v
  else s.writeStart a idx sub v

/-! ## A write as the agent decides it (R420, R421, R429, R543) -/

/-- ATYPE of an accepted write. -/
def auditType (idx sub : Nat) : Nat :=
  if idx = 0xA000 && sub = 2 then 6 else if idx = 0xA400 then 7 else if idx = 0xA530 then 9 else 1

/-- AVALUE: key objects show slot and KCV, calibration entries old and new VALUE. -/
def State.auditVal (s : State) (a : Acc) (d : ObjDef) (idx sub v : Nat) : Nat :=
  if idx = 0xA400 then lePack [(2, fld v 0 2), (2, 0), (4, (s.slot (fld v 0 2)).kcv)]
  else if idx = 0xC800 && sub = 2 then lePack [(8, unsigned 8 (s.calVal (s.calSel a))), (8, fld v 0 8)]
  else auditValue d.len v

/-- The audit record of a write. -/
def State.auditOf (s : State) (a : Acc) (w : Who) (atype idx sub result value : Nat) : AuditIn :=
  { atype := atype, role := w.role, path := a.path.code, session := a.session.getD 0xFF, index := idx, sub := sub, result := result,
    ticket := match s.accSession a with | some x => x.ticketId | none => 0, value := value }

/-- A refused write is audited unless it came without a role (R421). -/
def State.refuseWrite (s : State) (a : Acc) (w : Who) (idx sub v c : Nat) : State × Nat :=
  let value := match entryOf idx sub with | some d => s.auditVal a d idx sub v | none => auditValue a.len v
  (if w.role == .none then s else s.auditEvent (s.auditOf a w 2 idx sub c value), c)

/-- An accepted write: audited where it must be, and then applied (R421, R430). -/
def State.acceptWrite (s : State) (a : Acc) (w : Who) (d : ObjDef) (idx sub v : Nat) : State × Nat :=
  if d.logged idx sub then
    match s.audit (s.auditOf a w (auditType idx sub) idx sub 0 (s.auditVal a d idx sub v)) with
    | some t => (t.applyWrite a w idx sub v, 0)
    | none =>
      let (t, c) := s.refuseWrite a w idx sub v 0x0A
      (t.raise 0x1001 idx, c)
  else (s.applyWrite a w idx sub v, 0)

/-- A write whose checks 1 to 9 have passed. -/
def State.lateWrite (s : State) (a : Acc) (w : Who) (d : ObjDef) (idx sub v : Nat) : State × Nat :=
  if idx = 0xA800 && sub = 2 then s.authOpen a v
  else
    match s.writeRefusal a w d idx sub v with
    | 0 => s.acceptWrite a w d idx sub v
    | c => s.refuseWrite a w idx sub v c

/-- A write under a role (R429): a one-shot credential uses its nonce up once it has been verified, whatever the verdict
(R411). With the code. -/
def State.writeAs (s : State) (a : Acc) (w : Who) (idx sub v : Nat) : State × Nat :=
  match s.firstChecks a w idx sub v true with
  | 0 =>
    let s := if oneShot idx sub then s.useNonce a.path else s
    match entryOf idx sub with
    | some d => s.lateWrite a w d idx sub v
    | none => (s, 0x02)
  | c =>
    let s := if oneShot idx sub && c == 0x05 then s.useNonce a.path else s
    s.refuseWrite a w idx sub v c

/-- An access as a write (R429): the state after it, and its code. -/
def State.accessWrite (s : State) (a : Acc) (idx sub v : Nat) : State × Nat :=
  let s := s.arrive a
  match s.whoIs a idx sub true with
  | none => (s, 0x0B)
  | some w => s.writeAs a w idx sub (v % 2 ^ (8 * a.len))

end Sys2Proof.Machine
end

