-- ==== Sys2Proof/Machine/Dictionary.lean ====
section
/-!
DEFINITION. The access paths: envelopes and mailboxes, CAN FD, the management serial port, the PCIe window and its DMA, Esxia,
and the end of a save of the configuration store (R430–R444).
-/
set_option Elab.async false
namespace Sys2Proof.Machine

/-! ## Envelopes (R431, R432) -/

/-- Bytes of an entry's value as it is sent: a VSTRING's own length, else LENGTH. -/
def sentLen (d : ObjDef) (v : Nat) : Nat := if d.ty = 0x09 then (v.log2 / 8 + 1) else d.len

/-- Bytes that a read of an entry answers with. -/
def readLen (idx sub v : Nat) : Nat :=
  match entryOf idx sub with
  | some d => sentLen d v
  | none => 0

/-- Widths of the fields of a RECORD or an ARRAY up to its last field of several bytes (R426; log entry 123). -/
def recordWidths (idx sub : Nat) : List Nat :=
  let octets (n : Nat) := List.replicate n 1
  match idx with
  | 0x1010 => if sub = 1 then [2] else [2, 1, 1, 2, 2, 2]
  | 0x1E20 => [2]
  | 0x1E21 => octets 4 ++ [8, 4, 8]
  | 0x2000 => [12, 6, 4]
  | 0x2020 => [4, 2, 6, 12, 8]
  | 0x2800 => List.replicate 5 4
  | 0x2801 => octets 4 ++ (List.replicate 8 (octets 8 ++ [4, 1, 1, 1, 1])).flatten
  | 0x4430 => List.replicate 3 4
  | 0x5001 => List.replicate 3 8
  | 0x5300 => List.replicate 3 8
  | 0xA400 => if sub = 1 then [2, 2, 4] else [2, 2]
  | 0xA520 => [4, 2, 1, 1, 8, 2]
  | 0xA530 => [4]
  | 0xA800 => if sub = 5 then (List.replicate 16 [1, 1, 2, 4, 8]).flatten else []
  | 0xA830 => [4]
  | 0xB000 => List.replicate 16 2
  | 0xB800 => if sub = 5 then [4, 4] else if sub = 11 then List.replicate 16 2 else []
  | 0xC002 => List.replicate 32 2
  | 0xC003 => [2]
  | 0xC020 => [4, 1, 1, 2, 4, 4]
  | 0xC800 => [8, 4]
  | 0xC801 => [4, 2]
  | 0xD000 => List.replicate 4 4
  | 0xD020 => [4, 2]
  | _ =>
    if 0x5010 ≤ idx && idx < 0x5023 then List.replicate 8 4
    else if 0x6500 ≤ idx && idx < 0x6520 then if sub = 7 then List.replicate 8 2 else if sub = 11 then [8, 4] else List.replicate 4 8
    else if 0x6810 ≤ idx && idx < 0x6850 then octets 20 ++ [2]
    else if 0x6880 ≤ idx && idx < 0x68C0 then [2, 2, 4, 4]
    else if 0x6900 ≤ idx && idx < 0x6A00 then octets 6 ++ [2, 4]
    else if 0x6E00 ≤ idx && idx < 0x6E04 then [2, 2, 1, 1, 2]
    else if 0x7020 ≤ idx && idx < 0x7024 then octets 10 ++ [2, 1, 1, 2]
    else if 0x8020 ≤ idx && idx < 0x8028 then octets 4 ++ [4]
    else if 0x8810 ≤ idx && idx < 0x8834 then if sub = 1 then List.replicate 8 2 else [4]
    else if 0x8900 ≤ idx && idx < 0x8924 then [1, 1, 2, 4, 8] ++ List.replicate 8 4 ++ octets 4 ++ [4, 4, 4]
    else if 0xA300 ≤ idx && idx < 0xA500 then octets 4 ++ [4]
    else if 0xBA00 ≤ idx && idx < 0xBA11 then [1, 1, 2, 4, 4, 4, 1, 1, 1, 1, 8]
    else if 0xBB00 ≤ idx && idx < 0xBB40 then [2]
    else []

/-- Widths of the fields of an entry's value; OCTETS and VSTRING are bytes in order (R426). -/
def fieldWidths (idx sub : Nat) : List Nat :=
  match entryOf idx sub with
  | some d => if d.ty = 0x43 || d.ty = 0x44 then recordWidths idx sub else if d.ty = 0x09 || d.ty = 0x0A then [] else [d.len]
  | none => []

/-- A value with the bytes of each field in the opposite order. -/
def swapFields : List Nat → Nat → Nat
  | [], v => v
  | w :: t, v => revBytes w v + 256 ^ w * swapFields t (v / 256 ^ w)

/-- A value as it stands in a body on a path: big-endian on Esxia, little-endian on the others (R10, R440). -/
def onWire (p : Path) (widths : List Nat) (v : Nat) : Nat := if p == .esxia then swapFields widths v else v

/-- Widths of the fields that the answer to a request carries: those of the entry, or of its descriptor (R428). -/
def answerWidths (e : Envelope) : List Nat := if e.op = 3 then recordWidths 0x1010 2 else fieldWidths e.idx e.sub

/-- A request as its value reaches the agent. -/
def takenOn (p : Path) (e : Envelope) : Envelope := { e with value := onWire p (fieldWidths e.idx e.sub) e.value }

/-- A response body on a path: STATUS, a reserved byte, LEN and VALUE. -/
def responseBody (p : Path) (widths : List Nat) (status len v : Nat) : Nat :=
  lePack [(1, status), (1, 0), (2, onWire p [2] len), (len, onWire p widths v)]

/-- A request body executed under an access (R429, R431): the state, the status, and length and value of the answer. A
reserved OP is a transfer error. -/
def State.execBody (s : State) (a : Acc) (e : Envelope) : State × Nat × Nat × Nat :=
  match e.op with
  | 1 =>
    let (s, c, v) := s.accessRead a e.idx e.sub
    if c = 0 then (s, 0, readLen e.idx e.sub v, v) else (s, c, 0, 0)
  | 2 =>
    let (s, c) := s.accessWrite { a with len := e.len } e.idx e.sub e.value
    (s, c, 0, 0)
  | 3 => (s.arrive a, 0, 32, s.descriptor (e.idx + 65536 * e.sub))
  | _ => (s.arrive a, 0x0C, 0, 0)

/-- The mailbox of a path shows a response: attention bit 4, and for PCIe vector 2 (R436, R437). -/
def State.mailReady (s : State) (p : Path) : State :=
  let s := s.attn 4
  if p == .pcie then
    { s with dict := { s.dict with mbReady := true, msix := (s.dict.msix.1, s.dict.msix.2.1, bump s.dict.msix.2.2) } }
  else s

/-- A seal error counts against the session that the envelope names; the eighth in a row ends it (R432). -/
def State.sealError (s : State) (a : Acc) (n : Nat) : State :=
  match s.session n with
  | some x =>
    if x.path == a.path && x.src == a.src then
      if 7 ≤ x.sealFails then s.endSession 5 x else s.onSession n (fun x => { x with sealFails := x.sealFails + 1 })
    else s
  | none => s

/-- A response to session n, or to a plain envelope, is shown on the path, and announced unless it is still awaited. -/
def State.keepResponse (s : State) (p : Path) (n : Nat) (r : Nat × Nat) (slow : Bool) : State :=
  let s := s.onPath p (fun x => { x with resp := some r, respOf := n })
  if slow then s else s.mailReady p

/-- A response of the path's plain envelopes, or of a session on it, is awaited. -/
def State.awaited (s : State) (p : Path) : Bool := (s.pathState p).busy || s.access.sessions.any (fun x => x.path == p && x.busy)

/-- A session of a path has its response. -/
def Session.settle (p : Path) (x : Session) : Session := { x with busy := x.busy && x.path != p }

/-- A sealed envelope (R432): its code, and its response when it has one. `slow`: the response is still awaited when the next
envelope comes. -/
def State.sealedIn (s : State) (a : Acc) (e : Envelope) (slow : Bool) : State × Nat × Option (Nat × Nat) :=
  match s.session e.session with
  | none => (s, 0x0B, none)
  | some x =>
    if !e.tagOk || e.dir != 1 || x.path != a.path || (a.path == .esxia && x.src != a.src) ||
        (match x.seq with | some q => decide (e.seq < q) | none => false) then (s.sealError a e.session, 0x0B, none)
    else if x.seq == some e.seq then (s.onSession e.session (fun x => { x with sealFails := 0 }), 0, x.resp)
    else if x.busy then (s.onSession e.session (fun x => { x with sealFails := 0 }), 0x09, none)
    else
      let s := s.onSession e.session (fun x => { x with seq := some e.seq, sealFails := 0, busy := slow })
      let (s, c, len, v) := s.execBody { a with session := some e.session, env := false } (takenOn a.path e)
      let r := (c, responseBody a.path (answerWidths e) c len v)
      (s.onSession e.session (fun x => { x with resp := some r }), 0, if (s.session e.session).isSome then some r else none)

/-- A plain envelope (R431, R432): the path stands for the session. -/
def State.plainIn (s : State) (a : Acc) (e : Envelope) (slow : Bool) : State × Nat × Option (Nat × Nat) :=
  let p := s.pathState a.path
  if e.dir != 1 || a.path == .esxia || (match p.seq with | some q => decide (e.seq < q) | none => false) then (s, 0x0B, none)
  else if p.seq == some e.seq then (s, 0, p.resp)
  else if p.busy then (s, 0x09, none)
  else
    let s := s.onPath a.path (fun x => { x with seq := some e.seq, busy := slow })
    let (s, c, len, v) := s.execBody { a with session := none, env := true } e
    (s, 0, some (c, responseBody a.path (answerWidths e) c len v))

/-- An envelope judged under R432: session 0 is the plain one. -/
def State.judgeIn (s : State) (a : Acc) (e : Envelope) (slow : Bool) : State × Nat × Option (Nat × Nat) :=
  if e.session = 0 then s.plainIn a e slow else s.sealedIn a e slow

/-- An envelope judged under R432, with its response kept for SEAL_RESP. -/
def State.envelopeIn (s : State) (a : Acc) (e : Envelope) (slow : Bool) : State × Nat :=
  let (s, c, r) := s.judgeIn a e slow
  match r with
  | some r => (s.keepResponse a.path e.session r slow, c)
  | none => (s, c)

/-- SEAL_REQ written on a path (R429, R432). -/
def State.sealReq (s : State) (a : Acc) (e : Envelope) (slow : Bool) : State × Nat :=
  let s := s.arrive a
  match s.firstChecks a ⟨defaultRole a.path, false⟩ 0x1030 1 0 true with
  | 0 => s.envelopeIn a e slow
  | c => s.refuseWrite a ⟨defaultRole a.path, false⟩ 0x1030 1 0 c

/-- An envelope as its bytes spell it (R431); a sealed body stands as it decrypts, with `tag` the verdict of its tag. -/
def envelopeOf (v : Nat) (tag : Bool) : Envelope :=
  { session := fld v 0 1, dir := fld v 1 1, seq := fld v 4 8, tagOk := tag, op := fld v 12 1, idx := fld v 14 2, sub := fld v 16 1, len := fld v 18 2, value := fld v 20 (fld v 18 2) }

/-- A write on a path: SEAL_REQ takes an envelope, and everything else is decided under R429. -/
def State.pathWrite (s : State) (a : Acc) (idx sub v : Nat) : State × Nat :=
  if idx = 0x1030 && sub = 1 then s.sealReq a (envelopeOf v a.proof) false else s.accessWrite a idx sub v

/-- SEAL_RESP read on a path: it waits up to 100 ms, and then answers 0x0E (R432). `ready`: an awaited response comes in time. -/
def State.sealResp (s : State) (a : Acc) (ready : Bool) : State × Nat × Nat :=
  if (s.pathState a.path).resp.isNone || (s.awaited a.path && !ready) then (s.arrive a, 0x0E, 0)
  else if s.awaited a.path then
    let s := (s.onPath a.path (fun x => { x with busy := false })).mailReady a.path
    let s := { s with access := { s.access with sessions := s.access.sessions.map (Session.settle a.path) } }
    s.accessRead a 0x1030 2
  else s.accessRead a 0x1030 2

/-- A write command on a path that carries it: what the path answers is kept, and a refusal of a posted PCIe write besides
(R438). On a path that is down nothing happens. -/
def State.runWrite (s : State) (a : Acc) (idx sub v : Nat) : State :=
  if !s.pathUp a.path then s.atTime a.now
  else
    let (s, c) := s.pathWrite a idx sub v
    let s := s.onPath a.path (fun p => { p with code := c, value := 0 })
    if a.path == .pcie && a.session.isNone && !a.env && c != 0 then { s with dict := { s.dict with pcieLastError := (idx, sub, c) } }
    else s

/-- SEAL_REQ as a command. -/
def opSealReq (a : Acc) (e : Envelope) (slow : Bool) (s : State) : State :=
  if !s.pathUp a.path then s.atTime a.now
  else
    let (s, c) := s.sealReq a e slow
    s.onPath a.path (fun p => { p with code := c, value := 0 })

/-- SEAL_RESP as a command. -/
def opSealResp (a : Acc) (ready : Bool) (s : State) : State :=
  if !s.pathUp a.path then s.atTime a.now
  else
    let (s, c, v) := s.sealResp a ready
    s.onPath a.path (fun p => { p with code := c, value := v })

/-- MB_SUBMIT (R437): `len` bytes of the BAR2 mailbox hold an envelope. A length that no envelope has is a transfer error. -/
def opMbSubmit (a : Acc) (e : Envelope) (len : Nat) (slow : Bool) (s : State) : State :=
  let a := { a with path := .pcie, session := none, env := false }
  if !s.pathUp .pcie then s.atTime a.now
  else if len < 20 || 1072 < len then { (s.arrive a) with dict := { (s.arrive a).dict with mbCode := 0x0C, mbReady := false } }
  else
    let s := { s with dict := { s.dict with mbReady := false, mbEnvelope := some e } }
    let (s, c) := s.sealReq { a with len := len } e slow
    { s with dict := { s.dict with mbCode := c } }

/-! ## CAN FD (R433, R434) -/

/-- CiA 301 abort code of an access error (R429). -/
def abortCode (c : Nat) : Nat :=
  match c with
  | 0x00 => 0
  | 0x01 => 0x06020000
  | 0x02 => 0x06090011
  | 0x03 => 0x06010001
  | 0x04 => 0x06010002
  | 0x05 => 0x06010000
  | 0x07 => 0x06070010
  | 0x08 => 0x06090030
  | 0x09 => 0x08000022
  | 0x0E => 0x08000021
  | _ => 0x08000020

/-- The controller is on its bus. -/
def State.canOn (s : State) (c : Nat) : Bool := (s.canOf c).state == 1 || (s.canOf c).state == 2

/-- The SDO server answers: the abort code, or 0 for an answer that is none. -/
def State.canAnswer (s : State) (c ab : Nat) (running : Bool) : State :=
  s.onCan c (fun x => { x with sent := some (0x580 + x.node, ab), transfer := running })

/-- CAN_SDO_TRANSFER: `stage` 0 an initiate, 1 the transfer is complete, 2 a bad CRC in block transfer (R433). A request that no
agent takes is not answered. -/
def opCanSdo (c stage : Nat) (write : Bool) (a : Acc) (idx sub v : Nat) (s : State) : State :=
  let a := { a with path := Path.can c }
  let s := s.atTime a.now
  if !s.canOn c then s
  else if stage = 0 then
    if (s.canOf c).transfer then s.canAnswer c 0x08000022 true else s.onCan c (fun x => { x with transfer := true })
  else if !(s.canOf c).transfer then s
  else if stage != 1 then s.canAnswer c 0x05040004 false
  else if !s.pathUp a.path then s.onCan c (fun x => { x with transfer := false })
  else if write then
    let (s, r) := s.pathWrite a idx sub v
    (s.onPath a.path (fun p => { p with code := r, value := 0 })).canAnswer c (abortCode r) false
  else
    let (s, r, x) := if idx = 0x1030 && sub = 2 then s.sealResp a true else s.accessRead a idx sub
    (s.onPath a.path (fun p => { p with code := r, value := x })).canAnswer c (abortCode r) false

/-- CAN_SDO_TIMEOUT: the client's next frame has not come (R433). -/
def opCanTimeout (c : Nat) (s : State) : State := if s.canOn c && (s.canOf c).transfer then s.canAnswer c 0x05040000 false else s

/-- CAN_NMT_RX (R433). -/
def opCanNmt (c : Nat) (s : State) : State := if s.canOn c then s.onCan c (fun x => { x with nmtIgnored := bump x.nmtIgnored }) else s

/-- CAN_HEARTBEAT_TX (R433). -/
def opCanHeartbeat (c : Nat) (s : State) : State :=
  if s.canOn c && s.canHeartbeat c != 0 then
    let b := if [StartState.locked, .acquiring, .warming].contains s.start.state then 0x05 else 0x7F
    s.onCan c (fun x => { x with sent := some (0x700 + x.node, b) })
  else s

/-- CAN_BUS_OFF (R434). -/
def opCanBusOff (c : Nat) (s : State) : State :=
  if s.canOn c then
    (s.onCan c (fun x => { x with state := 3, busOff := bump x.busOff, transfer := false })).endSessions 6 (fun x => x.path == Path.can c)
  else s

/-- CAN_BUS_OFF_RECOVERY (R434); on the safe clock the controller is silent (R24). -/
def opCanRecovery (c : Nat) (s : State) : State :=
  if (s.canOf c).state = 3 then s.onCan c (fun x => { x with state := if s.group 11 == 1 then 1 else 4 }) else s

/-! ## Management serial port (R435, R436) -/

/-- A transaction begins: the width as last written is in force, and an awaited result may have become ready (R435, R444). -/
def State.mspBegin (s : State) (ready : Bool) : State :=
  { s with dict := { s.dict with mspWidth := s.mspWidth, mspRdy := s.dict.mspRdy || (ready && s.dict.mspResult.isSome) } }

/-- A transaction with a wrong CHK or a partial byte (R435). -/
def State.mspBad (s : State) : State := { s with dict := { s.dict with mspChkErrors := bump s.dict.mspChkErrors } }

/-- The XOR of bytes. -/
def xorBytes (l : List Nat) : Nat := l.foldl Nat.xor 0

/-- What the part sends, with its CHK. -/
def State.mspSend (s : State) (l : List Nat) : State := { s with dict := { s.dict with mspSent := l ++ [xorBytes l] } }

/-- The result of a WRITE or READ: code, length, value; MSP_RDY stays low while it is awaited. -/
def State.mspAnswer (s : State) (r : Nat × Nat × Nat) (slow : Bool) : State :=
  let s := { s with dict := { s.dict with mspResult := some r, mspRdy := !slow } }
  s.onPath .msp (fun p => { p with code := r.1, value := r.2.2 })

/-- MSP_WRITE. `ok`: CHK is right and no byte is partial; `ready`, `slow`: the result before has become, and this one is not
yet, ready. -/
def opMspWrite (a : Acc) (idx sub v : Nat) (ok ready slow : Bool) (s : State) : State :=
  let a := { a with path := .msp }
  let s := (s.atTime a.now).mspBegin ready
  if !s.dict.mspRdy then { s with dict := { s.dict with mspBusyDrops := bump s.dict.mspBusyDrops } }
  else if !ok then s.mspBad
  else if !s.pathUp .msp then s
  else
    let (s, c) := s.pathWrite a idx sub v
    s.mspAnswer (c, 0, 0) slow

/-- MSP_READ. -/
def opMspRead (a : Acc) (idx sub : Nat) (ok ready slow : Bool) (s : State) : State :=
  let a := { a with path := .msp }
  let s := (s.atTime a.now).mspBegin ready
  if !s.dict.mspRdy then { s with dict := { s.dict with mspBusyDrops := bump s.dict.mspBusyDrops } }
  else if !ok then s.mspBad
  else if !s.pathUp .msp then s
  else
    let (s, c, v) := if idx = 0x1030 && sub = 2 then s.sealResp a true else s.accessRead a idx sub
    s.mspAnswer (if c = 0 then (0, readLen idx sub v, v) else (c, 0, 0)) slow

/-- MSP_FETCH. -/
def opMspFetch (ok ready : Bool) (s : State) : State :=
  let s := s.mspBegin ready
  if !ok then s.mspBad
  else
    let r := match (if s.dict.mspRdy then s.dict.mspResult else none) with
      | some r => r
      | none => (0x0E, 0, 0)
    s.mspSend ((leBytes (3 + r.2.1) (lePack [(1, r.1), (2, r.2.1), (r.2.1, r.2.2)])).map (·.toNat))

/-- MSP_STATE. -/
def opMspState (ok ready : Bool) (s : State) : State :=
  let s := s.mspBegin ready
  if !ok then s.mspBad
  else
    let b := ofBits [s.dict.mspRdy && s.dict.mspResult.isSome, s.irq, s.dict.mspReturned]
    { (s.mspSend [b]) with dict := { (s.mspSend [b]).dict with mspReturned := false } }

/-! ## PCIe (R437–R439) -/

/-- All ones of a width in bytes. -/
def allOnes (w : Nat) : Nat := 2 ^ (8 * w) - 1

/-- LENGTH for a BAR0 access of a width: TS48 is accessed as 8 bytes (R438). -/
def barLen (idx sub w : Nat) : Nat :=
  match entryOf idx sub with
  | some d => if d.ty = 0x41 && w = 8 then 6 else w
  | none => w

/-- The width is the entry's own. -/
def barWidthOk (idx sub w : Nat) : Bool :=
  match entryOf idx sub with
  | some d => decide (d.len ≤ 8) && barLen idx sub w == d.len
  | none => false

/-- A refused or failed read completes with all ones. -/
def State.barFail (s : State) (c w : Nat) : State :=
  let s := { s with dict := { s.dict with pcieData := allOnes w } }
  s.onPath .pcie (fun p => { p with code := c, value := allOnes w })

/-- BAR0_READ at an offset, with a width (R438). `late`: the result is not ready within 5 ms. -/
def opBarRead (a : Acc) (off w : Nat) (late : Bool) (s : State) : State :=
  let a := { a with path := .pcie, session := none, env := false }
  let idx := off / 2048
  let sub := off % 2048 / 8
  let s := s.atTime a.now
  if !s.dict.pcieUp then s
  else if !s.agentUp then s.barFail 0x0E w
  else if indexExists idx && off % 8 != 0 then s.barFail 0x02 w
  else
    match s.firstChecks a ⟨.host, false⟩ idx sub 0 false with
    | 0 =>
      if !barWidthOk idx sub w then (s.arrive a).barFail 0x07 w
      else
        let (s, c, v) := s.accessRead a idx sub
        if late then s.barFail 0x0E w
        else if c != 0 then s.barFail c w
        else
          let s := { s with dict := { s.dict with pcieData := v } }
          s.onPath .pcie (fun p => { p with code := 0, value := v })
    | c => (s.arrive a).barFail c w

/-- BAR0_WRITE at an offset, with a width (R438). -/
def opBarWrite (a : Acc) (off w v : Nat) (s : State) : State :=
  let idx := off / 2048
  let sub := off % 2048 / 8
  let a := { a with path := .pcie, session := none, env := false, len := barLen idx sub w }
  let s := s.atTime a.now
  if !s.pathUp .pcie then s
  else if indexExists idx && off % 8 != 0 then
    let (s, c) := (s.arrive a).refuseWrite a ⟨.host, false⟩ idx sub v 0x02
    { s with dict := { s.dict with pcieLastError := (idx, sub, c) } }
  else if findObj idx sub = none || barWidthOk idx sub w then s.runWrite a idx sub v
  else s.runWrite { a with len := 0 } idx sub v

/-- BAR4_ACCESS (R437, R438, R509): the paddock region of DRAM. -/
def opBar4 (write : Bool) (off len v : Nat) (s : State) : State :=
  if !s.dict.pcieUp then s
  else if !s.tackHostAccess || s.paddockSize * 1048576 < off + len then
    { s with dict := { s.dict with apertureRefused := bump s.dict.apertureRefused
                                   pcieData := if write then s.dict.pcieData else allOnes len } }
  else if s.start.paddockWipe || s.start.dramStatus != 2 then
    if write then s else { s with dict := { s.dict with pcieData := allOnes len } }
  else
    let at_ := s.paddockBase + off
    if write then { s with engs := { s.engs with dram := memWrite s.engs.dram at_ (leBytes len v) } }
    else { s with dict := { s.dict with pcieData := leNat (memRead s.engs.dram at_ len) } }

/-- DMA_DONE (R439). -/
def opDmaDone (s : State) : State :=
  if s.dict.dma.isSome then
    ({ s with dict := { s.dict with dma := none, dmaStatus := 2, msix := (s.dict.msix.1, bump s.dict.msix.2.1, s.dict.msix.2.2) } } : State).attn 3
  else s

/-- PCIE_LINK_UP (R22). -/
def opPcieUp (s : State) : State :=
  if s.start.porHeld then s
  else ({ s with dict := { s.dict with pcieUp := true } } : State).setGroup 10 1 |>.clearFault 0x000A

/-- PCIE_LINK_DOWN (R22, R409, R439). -/
def opPcieDown (s : State) : State :=
  let d := s.dict
  let s := { s with dict := { d with pcieUp := false, dmaStatus := if d.dma.isSome then 3 else d.dmaStatus, dma := none } }
  ((s.setGroup 10 0).endSessions 6 (fun x => x.path == .pcie)).raise 0x000A

/-! ## Esxia (R440) -/

/-- A message counts as dropped. -/
def State.esxiaDrop (s : State) : State := { s with dict := { s.dict with esxiaDrops := bump s.dict.esxiaDrops } }

/-- A message reaches the part on its Esxia path, well formed and within its source's rate: its frame leaves the host account (R273). -/
def State.esxiaIn (s : State) (a : Acc) (ok : Bool) : State × Bool :=
  if !s.pathUp .esxia || !s.engsRun || !bit s.esxiaAddrs a.host || !bit s.esxiaPorts a.port then (s, false)
  else
    let s := (s.takeTerm (fun t => t.service == 3 && t.port == a.port && t.host == some a.host)).1
    if !ok then (s.esxiaDrop, false) else s.esxiaAdmit a.src

/-- A response to the source with the client's TAG is queued in queue 7 of the port that the request came to (R274, R275, R440): its body's
LEN stands big-endian behind STATUS and a reserved byte (R431). -/
def State.esxiaReply (s : State) (a : Acc) (tag status v : Nat) : State :=
  let len := 8 + 4 + fld v 2 1 * 256 + fld v 3 1
  let s := (s.sendOwn a.port (.esxia a.src tag status v) (udpFrame a.port (fld (s.hostAddr a.host) 0 1) 0 len)).1
  s.onPath .esxia (fun p => { p with code := status, value := v })

/-- ESXIA_PLAIN_REQUEST. `ok`: MAGIC, VER and TYPE are right. -/
def opEsxiaPlain (a : Acc) (tag : Nat) (e : Envelope) (ok : Bool) (s : State) : State :=
  let a := { a with path := .esxia, session := none, env := false }
  match (s.atTime a.now).esxiaIn a ok with
  | (s, false) => s
  | (s, true) =>
    let (s, c, len, v) := s.execBody a (takenOn .esxia e)
    s.esxiaReply a tag c (responseBody .esxia (answerWidths e) c len v)

/-- ESXIA_SEALED_REQUEST: a repeated SEQ gets the stored response. A request that ends its own session has no response, unless
it ends it by taking its path away (R432, R444). -/
def opEsxiaSealed (a : Acc) (tag : Nat) (e : Envelope) (ok : Bool) (s : State) : State :=
  let a := { a with path := .esxia, session := none, env := false }
  match (s.atTime a.now).esxiaIn a ok with
  | (s, false) => s
  | (s, true) =>
    match s.sealedIn a e false with
    | (s, 0, some r) => s.esxiaReply a tag r.1 r.2
    | (s, 0, none) => if e.op = 2 && e.idx = 0x1E30 then s.esxiaReply a tag 0 (responseBody .esxia [] 0 0 0) else s
    | (s, c, _) => s.esxiaReply a tag c (responseBody .esxia [] c 0 0)

/-! ## The configuration store (R441) -/

/-- DICT_STORE_DONE: the half written becomes the store, or the save has failed and the store before stands. -/
def opStoreDone (ok : Bool) (s : State) : State :=
  match s.dict.saving with
  | none => s
  | some l =>
    let g := match s.dict.saved with | some p => p.1 + 1 | none => 1
    if ok then { s with dict := { s.dict with saving := none, saved := some (g, l), savedBad := false } }
    else { s with dict := { s.dict with saving := none } }

/-! ## The commands -/

/-- SEAL_REQ (R432). -/
def execSealReq (a : Acc) (e : Envelope) (slow : Bool) (s : State) : Host.Outcome State Fault Refusal := .next (opSealReq a e slow s)

/-- SEAL_RESP (R432). -/
def execSealResp (a : Acc) (ready : Bool) (s : State) : Host.Outcome State Fault Refusal := .next (opSealResp a ready s)

/-- MB_SUBMIT (R437). -/
def execMbSubmit (a : Acc) (e : Envelope) (len : Nat) (slow : Bool) (s : State) : Host.Outcome State Fault Refusal :=
  .next (opMbSubmit a e len slow s)

/-- CAN_SDO_TRANSFER (R433). -/
def execCanSdoTransfer (c stage : Nat) (write : Bool) (a : Acc) (idx sub v : Nat) (s : State) : Host.Outcome State Fault Refusal :=
  .next (opCanSdo c stage write a idx sub v s)

/-- CAN_SDO_TIMEOUT (R433). -/
def execCanSdoTimeout (now c : Nat) (s : State) : Host.Outcome State Fault Refusal := .next (opCanTimeout c (s.atTime now))

/-- CAN_NMT_RX (R433). -/
def execCanNmtRx (now c : Nat) (s : State) : Host.Outcome State Fault Refusal := .next (opCanNmt c (s.atTime now))

/-- CAN_HEARTBEAT_TX (R433). -/
def execCanHeartbeatTx (now c : Nat) (s : State) : Host.Outcome State Fault Refusal := .next (opCanHeartbeat c (s.atTime now))

/-- CAN_BUS_OFF (R434). -/
def execCanBusOff (now c : Nat) (s : State) : Host.Outcome State Fault Refusal := .next (opCanBusOff c (s.atTime now))

/-- CAN_BUS_OFF_RECOVERY (R434). -/
def execCanBusOffRecovery (now c : Nat) (s : State) : Host.Outcome State Fault Refusal := .next (opCanRecovery c (s.atTime now))

/-- MSP_WRITE (R435). -/
def execMspWrite (a : Acc) (idx sub v : Nat) (ok ready slow : Bool) (s : State) : Host.Outcome State Fault Refusal :=
  .next (opMspWrite a idx sub v ok ready slow s)

/-- MSP_READ (R435). -/
def execMspRead (a : Acc) (idx sub : Nat) (ok ready slow : Bool) (s : State) : Host.Outcome State Fault Refusal :=
  .next (opMspRead a idx sub ok ready slow s)

/-- MSP_FETCH (R435). -/
def execMspFetch (now : Nat) (ok ready : Bool) (s : State) : Host.Outcome State Fault Refusal := .next (opMspFetch ok ready (s.atTime now))

/-- MSP_STATE (R435). -/
def execMspState (now : Nat) (ok ready : Bool) (s : State) : Host.Outcome State Fault Refusal := .next (opMspState ok ready (s.atTime now))

/-- BAR0_READ (R438). -/
def execBar0Read (a : Acc) (off w : Nat) (late : Bool) (s : State) : Host.Outcome State Fault Refusal := .next (opBarRead a off w late s)

/-- BAR0_WRITE (R438). -/
def execBar0Write (a : Acc) (off w v : Nat) (s : State) : Host.Outcome State Fault Refusal := .next (opBarWrite a off w v s)

/-- BAR4_ACCESS (R438). -/
def execBar4Access (now : Nat) (write : Bool) (off len v : Nat) (s : State) : Host.Outcome State Fault Refusal :=
  .next (opBar4 write off len v (s.atTime now))

/-- DMA_DONE (R439). -/
def execDmaDone (now : Nat) (s : State) : Host.Outcome State Fault Refusal := .next (opDmaDone (s.atTime now))

/-- PCIE_LINK_UP (R22). -/
def execPcieLinkUp (now : Nat) (s : State) : Host.Outcome State Fault Refusal := .next (opPcieUp (s.atTime now))

/-- PCIE_LINK_DOWN (R409). -/
def execPcieLinkDown (now : Nat) (s : State) : Host.Outcome State Fault Refusal := .next (opPcieDown (s.atTime now))

/-- ESXIA_PLAIN_REQUEST (R440). -/
def execEsxiaPlainRequest (a : Acc) (tag : Nat) (e : Envelope) (ok : Bool) (s : State) : Host.Outcome State Fault Refusal :=
  .next (opEsxiaPlain a tag e ok s)

/-- ESXIA_SEALED_REQUEST (R440). -/
def execEsxiaSealedRequest (a : Acc) (tag : Nat) (e : Envelope) (ok : Bool) (s : State) : Host.Outcome State Fault Refusal :=
  .next (opEsxiaSealed a tag e ok s)

/-- DICT_STORE_DONE (R441). -/
def execDictStoreDone (now : Nat) (ok : Bool) (s : State) : Host.Outcome State Fault Refusal := .next (opStoreDone ok (s.atTime now))

end Sys2Proof.Machine
end

