-- ==== Sys2Proof/Machine/Writes.lean ====
section
/-!
DEFINITION. The commands that are one write or one read of an object with a row of its own, each over the shared access of
Machine/Dictionary.lean, and the POLICY that a worker applies as one request (R429, R479).
-/
set_option Elab.async false
namespace Sys2Proof.Machine

/-! ## POLICY (R479) -/

/-- One entry of a POLICY: index, subindex, length, value. -/
abbrev PolicyEntry := Nat × Nat × Nat × Nat

/-- The access that an entry is judged as: role MANAGER on path Esxia, inside the domain session (R416, R479). -/
def policyAcc (src now : Nat) (x : PolicyEntry) : Acc :=
  { path := .esxia, session := none, env := false, src := src, host := 0, port := 0, len := x.2.2.1, queued := 0, now := now, role := .manager, proof := false, outcome := 0 }

/-- MANAGER, in a session. -/
def policyWho : Who := ⟨.manager, true⟩

/-- Checks 2 to 11 on an entry. -/
def State.policyCode (s : State) (src now : Nat) (x : PolicyEntry) : Nat :=
  let a := policyAcc src now x
  match s.firstChecks a policyWho x.1 x.2.1 x.2.2.2 true with
  | 0 =>
    match entryOf x.1 x.2.1 with
    | some d => s.writeRefusal a policyWho d x.1 x.2.1 x.2.2.2
    | none => 0x02
  | c => c

/-- An entry audited and applied. -/
def State.policyApply (src now : Nat) (s : State) (x : PolicyEntry) : State :=
  match entryOf x.1 x.2.1 with
  | some d => (s.acceptWrite (policyAcc src now x) policyWho d x.1 x.2.1 x.2.2.2).1
  | none => s

/-- Every entry is judged first; the first failure, with its place, leaves them all unapplied (R479). -/
def State.takePolicy (s : State) (src now epoch : Nat) (l : List PolicyEntry) : State :=
  match (l.zip (List.range l.length)).find? (fun p => s.policyCode src now p.1 != 0) with
  | some (x, i) => (s.domCount 4).toManager 0x15 [epoch, s.policyCode src now x, i]
  | none =>
    let s := l.foldl (State.policyApply src now) s
    ({ s with domain := { s.domain with epoch := epoch } } : State).toManager 0x15 [epoch, 0, 0xFF]

/-- POLICY reaches a worker (R474, R479); COUNT is 1 to 64. -/
def opPolicy (src dseq : Nat) (tag : Bool) (epoch : Nat) (l : List PolicyEntry) (s : State) : State :=
  match s.domainArrives src with
  | (s, false) => s
  | (s, true) =>
    match s.fromManager dseq tag with
    | (s, false) => s
    | (s, true) => if l.isEmpty || 64 < l.length || !s.agentUp || s.bootHalted then s else s.takePolicy src s.tb.lc epoch l

/-- POLICY (R479). -/
def execPolicy (now src dseq : Nat) (tag : Bool) (epoch : Nat) (l : List (Nat × Nat × Nat × Nat)) (s : State) :
    Host.Outcome State Fault Refusal := .next (opPolicy src dseq tag epoch l (s.atTime now))

/-! ## One write or one read -/

/-- SELECTOR_TICK (R86). -/
def execSelectorTick (now : Nat) (s : State) : Host.Outcome State Fault Refusal := .next (opSelect (s.atTime now))

/-- TIME_SET (R47). -/
def execTimeSet (a : Acc) (v : Nat) (s : State) : Host.Outcome State Fault Refusal := .next (s.runWrite a 0x2001 1 v)

/-- SYS_RESET (R39). -/
def execSysReset (a : Acc) (s : State) : Host.Outcome State Fault Refusal := .next (s.runWrite a 0xD010 1 0x5A)

/-- PLL_RELOCK_CPLL (R29). -/
def execPllRelockCpll (a : Acc) (s : State) : Host.Outcome State Fault Refusal := .next (s.runWrite a 0xD102 1 0x01)

/-- PLL_RELOCK_EPLL (R29). -/
def execPllRelockEpll (a : Acc) (s : State) : Host.Outcome State Fault Refusal := .next (s.runWrite a 0xD102 1 0x02)

/-- UTC_OFFSET_MODE_WRITE (R64). -/
def execUtcOffsetModeWrite (a : Acc) (v : Nat) (s : State) : Host.Outcome State Fault Refusal := .next (s.runWrite a 0x2100 3 v)

/-- SOAK_TIME_WRITE (R92). -/
def execSoakTimeWrite (a : Acc) (n v : Nat) (s : State) : Host.Outcome State Fault Refusal := .next (s.runWrite a (0x3100 + n) 8 v)

/-- IN_ELEC_WRITE (R541). -/
def execInElecWrite (a : Acc) (n v : Nat) (s : State) : Host.Outcome State Fault Refusal := .next (s.runWrite a (0x3100 + n) 14 v)

/-- TIU_CHANNEL_RECONFIG (R108). -/
def execTiuChannelReconfig (a : Acc) (c sub v : Nat) (s : State) : Host.Outcome State Fault Refusal := .next (s.runWrite a (0x3900 + c) sub v)

/-- ATOMIC_RELAY_TX (R142). -/
def execAtomicRelayTx (a : Acc) (v : Nat) (s : State) : Host.Outcome State Fault Refusal := .next (s.runWrite a 0x4440 7 v)

/-- ATOMIC_RELAY_STATUS (R142). -/
def execAtomicRelayStatus (a : Acc) (v : Nat) (s : State) : Host.Outcome State Fault Refusal := .next (s.runWrite a 0x4440 8 v)

/-- SYNTH_COMMIT (R157). -/
def execSynthCommit (a : Acc) (mask : Nat) (s : State) : Host.Outcome State Fault Refusal := .next (s.runWrite a 0x4840 1 mask)

/-- GIF_CONFIG_WRITE (R209). -/
def execGifConfigWrite (a : Acc) (k sub v : Nat) (s : State) : Host.Outcome State Fault Refusal := .next (s.runWrite a (0x5010 + k) sub v)

/-- GN_ENABLE_WRITE (R198). -/
def execGnEnableWrite (a : Acc) (v : Nat) (s : State) : Host.Outcome State Fault Refusal := .next (s.runWrite a 0x5000 1 v)

/-- GN_SURVEY_RESTART (R202). -/
def execGnSurveyRestart (a : Acc) (s : State) : Host.Outcome State Fault Refusal := .next (s.runWrite a 0x5001 6 0x5A)

/-- GIRTH_LIMIT_WRITE (R230). -/
def execGirthLimitWrite (a : Acc) (v : Nat) (s : State) : Host.Outcome State Fault Refusal := .next (s.runWrite a 0x2810 1 v)

/-- QUAD_APPLY (R235). -/
def execQuadApply (a : Acc) (q : Nat) (s : State) : Host.Outcome State Fault Refusal := .next (s.runWrite a (0x6000 + q) 4 0x5A)

/-- LANE_RETRAIN (R245). -/
def execLaneRetrain (a : Acc) (l : Nat) (s : State) : Host.Outcome State Fault Refusal := .next (s.runWrite a (0x6100 + l) 13 0x5A)

/-- LANE_DISABLE (R253). -/
def execLaneDisable (a : Acc) (l : Nat) (s : State) : Host.Outcome State Fault Refusal := .next (s.runWrite a (0x6100 + l) 1 0)

/-- PEER_PREFER_WRITE (R254). -/
def execPeerPreferWrite (a : Acc) (v : Nat) (s : State) : Host.Outcome State Fault Refusal := .next (s.runWrite a 0x6300 2 v)

/-- PORT_CAL_LOOP (R263). -/
def execPortCalLoop (a : Acc) (p : Nat) (s : State) : Host.Outcome State Fault Refusal := .next (s.runWrite a (0x6400 + p) 3 0x5A)

/-- NTP_HASH_REKEY (R324). -/
def execNtpHashRekey (a : Acc) (s : State) : Host.Outcome State Fault Refusal := .next (s.runWrite a 0x7801 8 0x5A)

/-- NTP_PREFIX_WRITE (R331). -/
def execNtpPrefixWrite (a : Acc) (sub v : Nat) (s : State) : Host.Outcome State Fault Refusal := .next (s.runWrite a 0x7801 sub v)

/-- NTS_MINT_PRODUCER (R327). -/
def execNtsMintProducer (a : Acc) (v : Nat) (s : State) : Host.Outcome State Fault Refusal := .next (s.runWrite a 0x7820 3 v)

/-- TACK_LOAD (R345). -/
def execTackLoad (a : Acc) (j addr : Nat) (s : State) : Host.Outcome State Fault Refusal := .next (s.runWrite a (0x8020 + j) 1 addr)

/-- TACK_STOP (R350). -/
def execTackStop (a : Acc) (j : Nat) (s : State) : Host.Outcome State Fault Refusal := .next (s.runWrite a (0x8020 + j) 5 0x5A)

/-- PADDOCK_ENABLE_WRITE (R351). -/
def execPaddockEnableWrite (a : Acc) (v : Nat) (s : State) : Host.Outcome State Fault Refusal := .next (s.runWrite a 0x8010 1 v)

/-- TACK_ENGINES_WRITE (R351). -/
def execTackEnginesWrite (a : Acc) (v : Nat) (s : State) : Host.Outcome State Fault Refusal := .next (s.runWrite a 0x8010 2 v)

/-- GOV_LEVEL_MIN_WRITE (R363). -/
def execGovLevelMinWrite (a : Acc) (v : Nat) (s : State) : Host.Outcome State Fault Refusal := .next (s.runWrite a 0x8C00 12 v)

/-- LC_TO_MAKER (R390). -/
def execLcToMaker (a : Acc) (cred : Nat) (s : State) : Host.Outcome State Fault Refusal := .next (s.runWrite a 0xA000 2 (lePack [(1, 1), (3, 0), (96, cred)]))

/-- LC_TO_OWNED (R390). -/
def execLcToOwned (a : Acc) (cred : Nat) (s : State) : Host.Outcome State Fault Refusal := .next (s.runWrite a 0xA000 2 (lePack [(1, 2), (3, 0), (96, cred)]))

/-- LC_TO_FIELD (R390). -/
def execLcToField (a : Acc) (cred : Nat) (s : State) : Host.Outcome State Fault Refusal := .next (s.runWrite a 0xA000 2 (lePack [(1, 3), (3, 0), (96, cred)]))

/-- LC_TO_DEBUG (R390). -/
def execLcToDebug (a : Acc) (cred : Nat) (s : State) : Host.Outcome State Fault Refusal := .next (s.runWrite a 0xA000 2 (lePack [(1, 4), (3, 0), (96, cred)]))

/-- LC_TO_RETIRED (R390). -/
def execLcToRetired (a : Acc) (cred : Nat) (s : State) : Host.Outcome State Fault Refusal := .next (s.runWrite a 0xA000 2 (lePack [(1, 5), (3, 0), (96, cred)]))

/-- SLOT_ATTR_WRITE (R381). -/
def execSlotAttrWrite (a : Acc) (n v : Nat) (s : State) : Host.Outcome State Fault Refusal := .next (s.runWrite a (0xA100 + n) 1 v)

/-- KEY_STAGE (R391). -/
def execKeyStage (a : Acc) (v : Nat) (s : State) : Host.Outcome State Fault Refusal := .next (s.runWrite a 0xA400 1 v)

/-- KEY_COMMIT (R394). -/
def execKeyCommit (a : Acc) (n : Nat) (s : State) : Host.Outcome State Fault Refusal := .next (s.runWrite a 0xA400 2 n)

/-- KEY_ABANDON (R391). -/
def execKeyAbandon (a : Acc) (n : Nat) (s : State) : Host.Outcome State Fault Refusal := .next (s.runWrite a 0xA400 3 n)

/-- KEY_ERASE (R391). -/
def execKeyErase (a : Acc) (n : Nat) (s : State) : Host.Outcome State Fault Refusal := .next (s.runWrite a 0xA400 4 n)

/-- KEY_EXPORT (R384). -/
def execKeyExport (a : Acc) (n w : Nat) (s : State) : Host.Outcome State Fault Refusal := .next (s.runWrite a 0xA400 5 (lePack [(2, n), (2, w)]))

/-- TAMPER_CLEAR (R401). -/
def execTamperClear (a : Acc) (tseq cred : Nat) (s : State) : Host.Outcome State Fault Refusal := .next (s.runWrite a 0xA530 1 (lePack [(4, tseq), (96, cred)]))

/-- AUTH_OPEN (R409). -/
def execAuthOpen (a : Acc) (v : Nat) (s : State) : Host.Outcome State Fault Refusal := .next (s.runWrite a 0xA800 2 v)

/-- AUTH_CLOSE (R409). -/
def execAuthClose (a : Acc) (n : Nat) (s : State) : Host.Outcome State Fault Refusal := .next (s.runWrite a 0xA800 4 n)

/-- TICKET_MIN_ID_WRITE (R424). -/
def execTicketMinIdWrite (a : Acc) (v : Nat) (s : State) : Host.Outcome State Fault Refusal := .next (s.runWrite a 0xA801 3 v)

/-- OWNER_TRANSFER (R412). -/
def execOwnerTransfer (a : Acc) (v : Nat) (s : State) : Host.Outcome State Fault Refusal := .next (s.runWrite a 0xA803 3 v)

/-- OWNER_KEY_ROTATE (R412). -/
def execOwnerKeyRotate (a : Acc) (v : Nat) (s : State) : Host.Outcome State Fault Refusal := .next (s.runWrite a 0xA803 4 v)

/-- JTAG_UNLOCK (R418). -/
def execJtagUnlock (a : Acc) (v : Nat) (s : State) : Host.Outcome State Fault Refusal := .next (s.runWrite a 0xA820 1 v)

/-- DICT_WRITE (R429). -/
def execDictWrite (a : Acc) (idx sub v : Nat) (s : State) : Host.Outcome State Fault Refusal := .next (s.runWrite a idx sub v)

/-- DICT_DESCRIBE_ADDR (R428). -/
def execDictDescribeAddr (a : Acc) (idx sub : Nat) (s : State) : Host.Outcome State Fault Refusal := .next (s.runWrite a 0x1010 1 (lePack [(2, idx), (1, sub)]))

/-- DICT_STORE (R441). -/
def execDictStore (a : Acc) (s : State) : Host.Outcome State Fault Refusal := .next (s.runWrite a 0x1010 3 0x5A)

/-- CAN_ENABLE_WRITE (R434). -/
def execCanEnableWrite (a : Acc) (c v : Nat) (s : State) : Host.Outcome State Fault Refusal := .next (s.runWrite a (0x1E00 + c) 1 v)

/-- ATTN_ACK (R436). -/
def execAttnAck (a : Acc) (v : Nat) (s : State) : Host.Outcome State Fault Refusal := .next (s.runWrite a 0x1E40 3 v)

/-- DMA_REQ (R439). -/
def execDmaReq (a : Acc) (src off len host : Nat) (s : State) : Host.Outcome State Fault Refusal := .next (s.runWrite a 0x1E21 1 (lePack [(1, src), (3, 0), (8, off), (4, len), (8, host)]))

/-- ESXIA_PATH_WRITE (R444). -/
def execEsxiaPathWrite (a : Acc) (sub v : Nat) (s : State) : Host.Outcome State Fault Refusal := .next (s.runWrite a 0x1E30 sub v)

/-- PAIR_HOLD_STANDBY_WRITE (R454). -/
def execPairHoldStandbyWrite (a : Acc) (v : Nat) (s : State) : Host.Outcome State Fault Refusal := .next (s.runWrite a 0xB000 9 v)

/-- PAIR_ENABLE_WRITE (R470). -/
def execPairEnableWrite (a : Acc) (sub v : Nat) (s : State) : Host.Outcome State Fault Refusal := .next (s.runWrite a 0xB000 sub v)

/-- PAIR_COMMAND_HANDOFF (R469). -/
def execPairCommandHandoff (a : Acc) (s : State) : Host.Outcome State Fault Refusal := .next (s.runWrite a 0xB002 1 0x5A)

/-- PAIR_COMMAND_DIAG (R466). -/
def execPairCommandDiag (a : Acc) (s : State) : Host.Outcome State Fault Refusal := .next (s.runWrite a 0xB002 1 0x3C)

/-- DOMAIN_POLICY_WRITE (R477). -/
def execDomainPolicyWrite (a : Acc) (i v : Nat) (s : State) : Host.Outcome State Fault Refusal := .next (s.runWrite a (0xBB00 + i) 1 v)

/-- DOMAIN_CONFIG_WRITE (R484). -/
def execDomainConfigWrite (a : Acc) (sub v : Nat) (s : State) : Host.Outcome State Fault Refusal := .next (s.runWrite a 0xB800 sub v)

/-- FAULT_ACK_CODE (R495). -/
def execFaultAckCode (a : Acc) (code : Nat) (s : State) : Host.Outcome State Fault Refusal := .next (s.runWrite a 0xC003 1 code)

/-- FAULT_ACK_ALL (R495). -/
def execFaultAckAll (a : Acc) (s : State) : Host.Outcome State Fault Refusal := .next (s.runWrite a 0xC003 1 0xFFFF)

/-- FAULT_ACK_F3 (R495). -/
def execFaultAckF3 (a : Acc) (s : State) : Host.Outcome State Fault Refusal := .next (s.runWrite a 0xC003 1 0xFFF3)

/-- F3_CLEAR (R492). -/
def execF3Clear (a : Acc) (cred : Nat) (s : State) : Host.Outcome State Fault Refusal := .next (s.runWrite a 0xC003 2 (lePack [(2, 0xFFF3), (2, 0), (96, cred)]))

/-- SLEEP_ENTER (R508). -/
def execSleepEnter (a : Acc) (s : State) : Host.Outcome State Fault Refusal := .next (s.runWrite a 0xD011 1 0x5A)

/-- FW_ERASE (R506). -/
def execFwErase (a : Acc) (s : State) : Host.Outcome State Fault Refusal := .next (s.runWrite a 0xD020 1 0x5A)

/-- FW_CHUNK (R506). -/
def execFwChunk (a : Acc) (off len data : Nat) (s : State) : Host.Outcome State Fault Refusal := .next (s.runWrite a 0xD020 2 (lePack [(4, off), (2, len), (2, 0), (1000, data)]))

/-- FW_COMMIT (R506). -/
def execFwCommit (a : Acc) (v : Nat) (s : State) : Host.Outcome State Fault Refusal := .next (s.runWrite a 0xD020 3 v)

/-- CAL_SELECT (R514). -/
def execCalSelect (a : Acc) (e : Nat) (s : State) : Host.Outcome State Fault Refusal := .next (s.runWrite a 0xC800 1 e)

/-- CAL_VALUE (R514). -/
def execCalValue (a : Acc) (value : Int) (unc source : Nat) (s : State) : Host.Outcome State Fault Refusal := .next (s.runWrite a 0xC800 2 (lePack [(8, unsigned 8 value), (4, unc), (1, source)]))

/-- CAL_RELOAD_CHUNK (R515). -/
def execCalReloadChunk (a : Acc) (off len data : Nat) (s : State) : Host.Outcome State Fault Refusal := .next (s.runWrite a 0xC801 1 (lePack [(4, off), (2, len), (2, 0), (1000, data)]))

/-- CAL_RELOAD_COMMIT (R515). -/
def execCalReloadCommit (a : Acc) (s : State) : Host.Outcome State Fault Refusal := .next (s.runWrite a 0xC801 2 0x5A)

/-- TACK_DOORBELL_READ (R347). -/
def execTackDoorbellRead (a : Acc) (s : State) : Host.Outcome State Fault Refusal := .next (s.runRead a 0x8011 1)

/-- PC_READ (R375). -/
def execPcRead (a : Acc) (e : Nat) (s : State) : Host.Outcome State Fault Refusal := .next (s.runRead a (0x8900 + e) 1)

/-- AUTH_CHALLENGE (R409). -/
def execAuthChallenge (a : Acc) (s : State) : Host.Outcome State Fault Refusal := .next (s.runRead a 0xA800 1)

/-- AUDIT_HEAD (R422). -/
def execAuditHead (a : Acc) (s : State) : Host.Outcome State Fault Refusal := .next (s.runRead a 0xA830 3)

end Sys2Proof.Machine
end

