-- ==== Sys2Proof/Machine/Anchor.lean ====
section
/-!
DEFINITION. The anchor: what the part does in the TB cycle in which the seconds field increments, and with the anchor's
delivery to the engines (R50).
-/
set_option Elab.async false
namespace Sys2Proof.Machine

/-- LOCKED is entered (R499, R500): the lock latch is set. -/
def State.enterLocked (s : State) : State :=
  ({ s with start := { s.start with state := .locked, lockLatch := true, times := s.start.times.set 3 s.ms } } : State).revalid

/-- Entry to LOCKED at an anchor (R499, R500): from ACQUIRING in TRACK; under the lock latch from BOOT, once it is complete and
SC2 has written the girth register. -/
def State.lockAnchor (s : State) : State :=
  if s.start.state == .acquiring && s.servo.state == .track then s.enterLocked
  else if s.start.state == .boot && s.start.bootDone && s.start.lockLatch && !s.start.inReset && s.girth.written then s.enterLocked
  else s

/-- The cycle of the boundary (R46, R47, R50, R65): the step due, what the outputs' targets make of it and the servo's state once it has
cancelled a slew (R110, R116), the leap record, and the anchor latched. -/
def State.cross (s : State) : State :=
  let (s, step) := s.takeStep
  let s := match step with
    | some ns => (s.stepTargets ns).settle
    | none => s
  let (s, change) := s.leap
  s.latch step change

/-- What the engines do with an anchor delivered to them (R50, R101–R104, R114–R119, R128, R212, R226). -/
def State.deliverAnchor (s : State) (x : AnchorDue) : State :=
  let s := ((s.flushCoalesced).tap 2 0 false x.record.bytes).anchorEvents
  let s := (List.range 32).foldl (State.estimate1s x.start x.stop) s
  let s := s.closeSecond x s.sc0Runs
  let s := (s.modelAnchor.servoAnchor).warmSecond
  ((s.spanCheck.girthAnchor).ptpAnchor).lockAnchor

/-- What the dictionary agent and the pair and domain links do at an anchor (R106, R373, R459, R465, R477). -/
def State.linkAnchor (s : State) : State := (s.anchorCounters.pairAnchor.swapMissed).domainAnchor

/-- The anchors that wait are delivered, oldest first, while the engines' clock runs; none is ever dropped (R50). -/
def State.serveAnchors (s : State) : State :=
  if s.engsRun then
    s.tb.waiting.foldl (fun s x => (s.deliverAnchor x).linkAnchor) { s with tb := { s.tb with waiting := [] } }
  else s

/-- The second that the newest anchor closes, and the anchor's place in the count of those since WARM_FLAG first rose (R115, R133). -/
def State.anchorDue (s : State) (prev : Nat) : State × AnchorDue :=
  let (s, area) := s.takeArea
  ({ s with ho := { s.ho with anchorsWarm := s.ho.anchorsWarm.map (· + 1) } }, ⟨prev, s.tb.lc, area, s.anchor⟩)

/-- The anchor of the next second boundary. While engines do not run the time base latches it all the same (R37). -/
def opAnchor (s : State) : State :=
  if s.start.porHeld || s.start.sleep then s
  else
    let s := s.atTime s.boundary
    let prev := s.lastAnchor
    let s := ((s.cross).takeElec.synthAnchor) |> opNtsKeySwitch
    let (s, x) := s.anchorDue prev
    let s := s.growAnchor
    if s.start.inReset then (s.closeSecond x false).girthAnchor.lockAnchor
    else ({ s with tb := { s.tb with waiting := s.tb.waiting ++ [x] } } : State).serveAnchors

/-- ANCHOR_LATCH (R50, R51). The count alone decides the cycle; the operand is not read (log entry 36). -/
def execAnchorLatch (_past : Nat) (s : State) : Host.Outcome State Fault Refusal := .next (opAnchor s)

/-- LOCK_CONFIRMED (R27). Engines whose clock returns take the stamp records and the anchors that have waited (R50, R99). -/
def execLockConfirmed (now loop : Nat) (s : State) : Host.Outcome State Fault Refusal :=
  .next (opLockConfirmed loop (s.atTime now)).drain.serveAnchors

end Sys2Proof.Machine
end

