-- ==== Sys2Proof/Machine/EngineAlu.lean ====
section
/-!
DEFINITION. The integer instructions of the engines: register and immediate arithmetic, loads, stores, atomics, branches and
jumps (R336–R338). A command names the engine e and the fields of the word at its program counter (log entry 50).
-/
set_option Elab.async false
namespace Sys2Proof.Machine

/-! ## Arithmetic on registers (R336, R338) -/

/-- Signed quotient (R336): all ones for a divisor of 0, the dividend for the most negative value by −1. -/
def divS (w a b : Nat) : Nat :=
  if b = 0 then 2 ^ w - 1
  else if a = 2 ^ (w - 1) && b = 2 ^ w - 1 then a
  else ofSigned w ((toSigned w a).tdiv (toSigned w b))

/-- Signed remainder (R336): the dividend for a divisor of 0, 0 for the most negative value by −1. -/
def remS (w a b : Nat) : Nat :=
  if b = 0 then a
  else if a = 2 ^ (w - 1) && b = 2 ^ w - 1 then 0
  else ofSigned w ((toSigned w a).tmod (toSigned w b))

/-- An instruction of opcode 0x01: gd takes a value of ga and gb, both words of width w. -/
def opAlu (e d a b fn : Nat) (f : Nat → Nat → Nat → Nat) (s : State) : State :=
  let word := wordR 1 d a b fn
  opIns e word (fun s => (s.advance e word []).setReg e d (f (engWidth e) (s.reg e a) (s.reg e b))) s

/-- An instruction of format K: gd takes a value of ga and the immediate. -/
def opAluK (op e d a imm : Nat) (f : Nat → Nat → Nat) (s : State) : State :=
  let word := wordK op d a imm
  opIns e word (fun s => (s.advance e word []).setReg e d (f (engWidth e) (s.reg e a))) s

/-- A shift by imm[5:0]: imm[5] = 1 on a time engine is ILLEGAL (R338). -/
def opShiftK (op e d a imm : Nat) (f : Nat → Nat → Nat → Nat) (s : State) : State :=
  let word := wordK op d a imm
  if !isSc e && bit imm 5 then opIns e word (fun s => s.trapIns e word 1) s
  else opAluK op e d a imm (fun w x => f w x (imm % 64)) s

/-- ADD (R338): gd := ga + gb. -/
def execAdd (e d a b : Nat) (s : State) : Host.Outcome State Fault Refusal :=
  .next (opAlu e d a b 0x000 (fun _ a b => a + b) s)

/-- SUB (R338): gd := ga − gb. -/
def execSub (e d a b : Nat) (s : State) : Host.Outcome State Fault Refusal :=
  .next (opAlu e d a b 0x001 (fun w a b => 2 ^ w + a - b) s)

/-- AND (R338): gd := ga AND gb. -/
def execAnd (e d a b : Nat) (s : State) : Host.Outcome State Fault Refusal :=
  .next (opAlu e d a b 0x002 (fun _ a b => a &&& b) s)

/-- IOR (R338): gd := ga OR gb. -/
def execIor (e d a b : Nat) (s : State) : Host.Outcome State Fault Refusal :=
  .next (opAlu e d a b 0x003 (fun _ a b => a ||| b) s)

/-- XOR (R338): gd := ga XOR gb. -/
def execXor (e d a b : Nat) (s : State) : Host.Outcome State Fault Refusal :=
  .next (opAlu e d a b 0x004 (fun _ a b => a ^^^ b) s)

/-- LSL (R338): left shift of ga by gb[4:0] or gb[5:0]. -/
def execLsl (e d a b : Nat) (s : State) : Host.Outcome State Fault Refusal :=
  .next (opAlu e d a b 0x005 (fun w a b => a * 2 ^ (b % w)) s)

/-- LSR (R338): logical right shift. -/
def execLsr (e d a b : Nat) (s : State) : Host.Outcome State Fault Refusal :=
  .next (opAlu e d a b 0x006 (fun w a b => a / 2 ^ (b % w)) s)

/-- ASR (R338): arithmetic right shift. -/
def execAsr (e d a b : Nat) (s : State) : Host.Outcome State Fault Refusal :=
  .next (opAlu e d a b 0x007 (fun w a b => ofSigned w (toSigned w a / 2 ^ (b % w))) s)

/-- LTS (R338): signed compare. -/
def execLts (e d a b : Nat) (s : State) : Host.Outcome State Fault Refusal :=
  .next (opAlu e d a b 0x008 (fun w a b => b2n (decide (toSigned w a < toSigned w b))) s)

/-- LTU (R338): unsigned compare. -/
def execLtu (e d a b : Nat) (s : State) : Host.Outcome State Fault Refusal :=
  .next (opAlu e d a b 0x009 (fun _ a b => b2n (decide (a < b))) s)

/-- MUL (R338): low word of ga × gb. -/
def execMul (e d a b : Nat) (s : State) : Host.Outcome State Fault Refusal :=
  .next (opAlu e d a b 0x00A (fun _ a b => a * b) s)

/-- MULHS (R338): signed high word. -/
def execMulhs (e d a b : Nat) (s : State) : Host.Outcome State Fault Refusal :=
  .next (opAlu e d a b 0x00B (fun w a b => ofSigned w (toSigned w a * toSigned w b / 2 ^ w)) s)

/-- MULHU (R338): unsigned high word. -/
def execMulhu (e d a b : Nat) (s : State) : Host.Outcome State Fault Refusal :=
  .next (opAlu e d a b 0x00C (fun w a b => a * b / 2 ^ w) s)

/-- DIVS (R336): signed quotient. -/
def execDivs (e d a b : Nat) (s : State) : Host.Outcome State Fault Refusal :=
  .next (opAlu e d a b 0x00D (fun w a b => divS w a b) s)

/-- DIVU (R336): unsigned quotient; all ones for a divisor of 0. -/
def execDivu (e d a b : Nat) (s : State) : Host.Outcome State Fault Refusal :=
  .next (opAlu e d a b 0x00E (fun w a b => if b = 0 then 2 ^ w - 1 else a / b) s)

/-- REMS (R336): signed remainder. -/
def execRems (e d a b : Nat) (s : State) : Host.Outcome State Fault Refusal :=
  .next (opAlu e d a b 0x00F (fun w a b => remS w a b) s)

/-- REMU (R336): unsigned remainder; the dividend for a divisor of 0. -/
def execRemu (e d a b : Nat) (s : State) : Host.Outcome State Fault Refusal :=
  .next (opAlu e d a b 0x010 (fun _ a b => if b = 0 then a else a % b) s)

/-- LZC (R338): leading zeros of ga. -/
def execLzc (e d a : Nat) (s : State) : Host.Outcome State Fault Refusal :=
  .next (opAlu e d a 0 0x011 (fun w a _ => w - bitLen a) s)

/-- ONES (R338): set bits of ga. -/
def execOnes (e d a : Nat) (s : State) : Host.Outcome State Fault Refusal :=
  .next (opAlu e d a 0 0x012 (fun w a _ => popcount w a) s)

/-- ADDK (R338): gd := ga + imm. -/
def execAddk (e d a imm : Nat) (s : State) : Host.Outcome State Fault Refusal :=
  .next (opAluK 0x02 e d a imm (fun _ x => x + immS e imm) s)

/-- ANDK (R338): AND with the zero-extended immediate. -/
def execAndk (e d a imm : Nat) (s : State) : Host.Outcome State Fault Refusal :=
  .next (opAluK 0x03 e d a imm (fun _ x => x &&& imm % 65536) s)

/-- IORK (R338): OR with the zero-extended immediate. -/
def execIork (e d a imm : Nat) (s : State) : Host.Outcome State Fault Refusal :=
  .next (opAluK 0x04 e d a imm (fun _ x => x ||| imm % 65536) s)

/-- XORK (R338): XOR with the zero-extended immediate. -/
def execXork (e d a imm : Nat) (s : State) : Host.Outcome State Fault Refusal :=
  .next (opAluK 0x05 e d a imm (fun _ x => x ^^^ imm % 65536) s)

/-- LTSK (R338): signed compare with the immediate. -/
def execLtsk (e d a imm : Nat) (s : State) : Host.Outcome State Fault Refusal :=
  .next (opAluK 0x06 e d a imm (fun w x => b2n (decide (toSigned w x < toSigned 16 imm))) s)

/-- LTUK (R338): unsigned compare with the immediate. -/
def execLtuk (e d a imm : Nat) (s : State) : Host.Outcome State Fault Refusal :=
  .next (opAluK 0x07 e d a imm (fun _ x => b2n (decide (x < immS e imm))) s)

/-- KHI (R338): gd := sext(imm × 2¹⁶); a non-zero a field traps ILLEGAL. -/
def execKhi (e d a imm : Nat) (s : State) : Host.Outcome State Fault Refusal :=
  .next (if a % 32 = 0 then opAluK 8 e d a imm (fun w _ => ofSigned w (toSigned 32 (imm % 65536 * 65536))) s
    else opIns e (wordK 8 d a imm) (fun s => s.trapIns e (wordK 8 d a imm) 1) s)

/-- LSLK (R338): left shift by imm[5:0]. -/
def execLslk (e d a imm : Nat) (s : State) : Host.Outcome State Fault Refusal :=
  .next (opShiftK 0x09 e d a imm (fun _ x k => x * 2 ^ k) s)

/-- LSRK (R338): logical right shift by imm[5:0]. -/
def execLsrk (e d a imm : Nat) (s : State) : Host.Outcome State Fault Refusal :=
  .next (opShiftK 0x0A e d a imm (fun _ x k => x / 2 ^ k) s)

/-- ASRK (R338): arithmetic right shift by imm[5:0]. -/
def execAsrk (e d a imm : Nat) (s : State) : Host.Outcome State Fault Refusal :=
  .next (opShiftK 0x0B e d a imm (fun w x k => ofSigned w (toSigned w x / 2 ^ k)) s)

/-! ## Loads, stores and atomics (R335, R336, R338) -/

/-- Effective address of a load or store. -/
def State.effAddr (s : State) (e a imm : Nat) : Nat := (s.reg e a + immS e imm) % 2 ^ engWidth e

/-- A load of `n` bytes: gd takes `f` of the bytes as a number. -/
def opLoad (op e d a imm n : Nat) (f : Nat → Nat) (s : State) : State :=
  let word := wordK op d a imm
  opIns e word (fun s =>
    match s.reach e (s.effAddr e a imm) n (·.r) with
    | none => s.trapIns e word 2
    | some l => (s.advance e word (accessEvent l false)).setReg e d (f (leNat (s.readLoc e l n)))) s

/-- A load as a command: a device register behind it stops the model. -/
def loadOutcome (op e d a imm n : Nat) (f : Nat → Nat) (s : State) : Host.Outcome State Fault Refusal :=
  if s.engRuns e && s.pcOk e && s.reach e (s.effAddr e a imm) n (·.r) == some .device then .fault .deviceWindow
  else .next (opLoad op e d a imm n f s)

/-- A load that a time engine does not have. -/
def loadSc (op e d a imm n : Nat) (f : Nat → Nat) (s : State) : Host.Outcome State Fault Refusal :=
  if isSc e then loadOutcome op e d a imm n f s
  else .next (opIns e (wordK op d a imm) (fun s => s.trapIns e (wordK op d a imm) 1) s)

/-- A store of the low `n` bytes of gb. -/
def opStore (op e b a imm n v : Nat) (s : State) : State :=
  let word := wordS op b a imm
  opIns e word (fun s =>
    match s.reach e (s.effAddr e a imm) n (·.w) with
    | none => s.trapIns e word 2
    | some l => (s.advance e word (accessEvent l true)).writeLoc e l (leBytes n v)) s

/-- A store as a command. -/
def storeOutcome (op e b a imm n v : Nat) (s : State) : Host.Outcome State Fault Refusal :=
  if s.engRuns e && s.pcOk e && s.reach e (s.effAddr e a imm) n (·.w) == some .device then .fault .deviceWindow
  else .next (opStore op e b a imm n v s)

/-- A store that a time engine does not have. -/
def storeSc (op e b a imm n v : Nat) (s : State) : Host.Outcome State Fault Refusal :=
  if isSc e then storeOutcome op e b a imm n v s
  else .next (opIns e (wordS op b a imm) (fun s => s.trapIns e (wordS op b a imm) 1) s)

/-- An atomic on a word of register width in shared engine SRAM or DRAM (R338). -/
def opAtomic (e d a b fn : Nat) (f : Nat → Nat → Nat) (s : State) : State :=
  let word := wordR 0x1C d a b fn
  let n := engWidth e / 8
  let go (l : Loc) (s : State) : State :=
    let t := leNat (s.readLoc e l n)
    let v := f (s.reg e b) t % 2 ^ engWidth e
    ((s.advance e word ((0x0D, 1) :: accessEvent l false)).writeLoc e l (leBytes n v)).setReg e d t
  opIns e word (fun s =>
    match s.reach e (s.reg e a) n (fun x => x.r && x.w) with
    | some (.sram o) => go (.sram o) s
    | some (.dram x) => go (.dram x) s
    | some (.dmem _) => s.trapIns e word 2
    | some (.window _) => s.trapIns e word 2
    | some .device => s.trapIns e word 2
    | none => s.trapIns e word 2) s

/-- LD8S (R338): loads a sign-extended byte. -/
def execLd8s (e d a imm : Nat) (s : State) : Host.Outcome State Fault Refusal :=
  loadOutcome 0x10 e d a imm 1 (fun v => ofSigned (engWidth e) (toSigned 8 v)) s

/-- LD8U (R338): loads a zero-extended byte. -/
def execLd8u (e d a imm : Nat) (s : State) : Host.Outcome State Fault Refusal :=
  loadOutcome 0x11 e d a imm 1 (fun v => v) s

/-- LD16S (R338): loads a sign-extended halfword. -/
def execLd16s (e d a imm : Nat) (s : State) : Host.Outcome State Fault Refusal :=
  loadOutcome 0x12 e d a imm 2 (fun v => ofSigned (engWidth e) (toSigned 16 v)) s

/-- LD16U (R338): loads a zero-extended halfword. -/
def execLd16u (e d a imm : Nat) (s : State) : Host.Outcome State Fault Refusal :=
  loadOutcome 0x13 e d a imm 2 (fun v => v) s

/-- LD32S (R336): loads a word, sign-extended on a servo core. -/
def execLd32s (e d a imm : Nat) (s : State) : Host.Outcome State Fault Refusal :=
  loadOutcome 0x14 e d a imm 4 (fun v => ofSigned (engWidth e) (toSigned 32 v)) s

/-- LD32U (R338): loads a zero-extended word; servo core only. -/
def execLd32u (e d a imm : Nat) (s : State) : Host.Outcome State Fault Refusal :=
  loadSc 0x15 e d a imm 4 (fun v => v) s

/-- LD64 (R338): loads a 64-bit word; servo core only. -/
def execLd64 (e d a imm : Nat) (s : State) : Host.Outcome State Fault Refusal :=
  loadSc 0x16 e d a imm 8 (fun v => v) s

/-- ST8 (R338): stores a byte of gb. -/
def execSt8 (e b a imm : Nat) (s : State) : Host.Outcome State Fault Refusal :=
  storeOutcome 0x18 e b a imm 1 (s.reg e b) s

/-- ST16 (R338): stores a halfword of gb. -/
def execSt16 (e b a imm : Nat) (s : State) : Host.Outcome State Fault Refusal :=
  storeOutcome 0x19 e b a imm 2 (s.reg e b) s

/-- ST32 (R338): stores a word of gb. -/
def execSt32 (e b a imm : Nat) (s : State) : Host.Outcome State Fault Refusal :=
  storeOutcome 0x1A e b a imm 4 (s.reg e b) s

/-- ST64 (R338): stores a 64-bit word; servo core only of gb. -/
def execSt64 (e b a imm : Nat) (s : State) : Host.Outcome State Fault Refusal :=
  storeSc 0x1B e b a imm 8 (s.reg e b) s

/-- ATSWAP (R338): exchanges gb with memory; gd takes the old value. -/
def execAtswap (e d a b : Nat) (s : State) : Host.Outcome State Fault Refusal :=
  .next (opAtomic e d a b 0 (fun b _ => b) s)

/-- ATADD (R338): adds gb to memory; gd takes the old value. -/
def execAtadd (e d a b : Nat) (s : State) : Host.Outcome State Fault Refusal :=
  .next (opAtomic e d a b 1 (fun b t => b + t) s)

/-- ATAND (R338): ANDs gb into memory; gd takes the old value. -/
def execAtand (e d a b : Nat) (s : State) : Host.Outcome State Fault Refusal :=
  .next (opAtomic e d a b 2 (fun b t => b &&& t) s)

/-- ATIOR (R338): ORs gb into memory; gd takes the old value. -/
def execAtior (e d a b : Nat) (s : State) : Host.Outcome State Fault Refusal :=
  .next (opAtomic e d a b 3 (fun b t => b ||| t) s)

/-- ORDER (R338): accesses are already in order in this model. -/
def execOrder (e : Nat) (s : State) : Host.Outcome State Fault Refusal :=
  .next (opIns e (wordR 0x1D 0 0 0 0) (fun s => s.advance e (wordR 0x1D 0 0 0 0) []) s)

/-! ## Branches and jumps (R337, R338) -/

/-- Target of a branch or jump: its own address plus 4 × sext(off). -/
def State.target (s : State) (e bits_ off : Nat) : Nat := ofSigned (engWidth e) (((s.eng e).pc : Int) + 4 * toSigned bits_ off)

/-- A branch on two registers. -/
def opBranch (op e a b off : Nat) (f : Nat → Nat → Nat → Bool) (s : State) : State :=
  let word := wordB op a b off
  opIns e word (fun s =>
    if f (engWidth e) (s.reg e a) (s.reg e b) then s.done e word [(6, 1)] (s.target e 16 off) else s.advance e word [(7, 1)]) s

/-- BREQ (R338): branch if equal. -/
def execBreq (e a b off : Nat) (s : State) : Host.Outcome State Fault Refusal :=
  .next (opBranch 0x20 e a b off (fun _ a b => a == b) s)

/-- BRNE (R338): branch if different. -/
def execBrne (e a b off : Nat) (s : State) : Host.Outcome State Fault Refusal :=
  .next (opBranch 0x21 e a b off (fun _ a b => a != b) s)

/-- BRLTS (R338): branch if ga < gb, signed. -/
def execBrlts (e a b off : Nat) (s : State) : Host.Outcome State Fault Refusal :=
  .next (opBranch 0x22 e a b off (fun w a b => decide (toSigned w a < toSigned w b)) s)

/-- BRGES (R338): branch if ga ≥ gb, signed. -/
def execBrges (e a b off : Nat) (s : State) : Host.Outcome State Fault Refusal :=
  .next (opBranch 0x23 e a b off (fun w a b => decide (toSigned w b ≤ toSigned w a)) s)

/-- BRLTU (R338): branch if ga < gb, unsigned. -/
def execBrltu (e a b off : Nat) (s : State) : Host.Outcome State Fault Refusal :=
  .next (opBranch 0x24 e a b off (fun _ a b => decide (a < b)) s)

/-- BRGEU (R338): branch if ga ≥ gb, unsigned. -/
def execBrgeu (e a b off : Nat) (s : State) : Host.Outcome State Fault Refusal :=
  .next (opBranch 0x25 e a b off (fun _ a b => decide (b ≤ a)) s)

/-- GO (R338): jump. -/
def execGo (e off : Nat) (s : State) : Host.Outcome State Fault Refusal :=
  .next (opIns e (wordJ 0x26 off) (fun s => s.done e (wordJ 0x26 off) [(6, 1)] (s.target e 26 off)) s)

/-- CALL (R338): g30 := pc + 4; jump. -/
def execCall (e off : Nat) (s : State) : Host.Outcome State Fault Refusal :=
  .next (opIns e (wordJ 0x27 off) (fun s =>
    (s.done e (wordJ 0x27 off) [(6, 1)] (s.target e 26 off)).setReg e 30 ((s.eng e).pc + 4)) s)

/-- GOR (R338): gd := pc + 4; pc := ga + sext(imm) with bits [1:0] cleared. -/
def execGor (e d a imm : Nat) (s : State) : Host.Outcome State Fault Refusal :=
  .next (opIns e (wordK 0x28 d a imm) (fun s =>
    (s.done e (wordK 0x28 d a imm) [(6, 1)] (s.effAddr e a imm / 4 * 4)).setReg e d ((s.eng e).pc + 4)) s)

end Sys2Proof.Machine
end

