-- ==== Sys2Proof/Machine/EngineFp.lean ====
section
/-!
DEFINITION. The floating-point instructions of the servo cores (R336, R338): they round to nearest-even, never trap, and
accumulate FPSTAT.
-/
set_option Elab.async false
namespace Sys2Proof.Machine

/-- An operation on fa and fb with its result in fd; a time engine traps ILLEGAL. -/
def opFp (e d a b fn : Nat) (f : Nat → Nat → Nat → Nat × Nat) (s : State) : State :=
  let word := wordR 0x30 d a b fn
  opInsSc e word (fun s =>
    let (v, s') := s.draw
    let r := f v (s.freg e a) (s.freg e b)
    ((s'.advance e word []).setFreg e d r.1).stick e r.2) s

/-- An operation on fa and fb with its result in gd. -/
def opFpG (e d a b fn : Nat) (f : Nat → Nat → Nat → Nat × Nat) (s : State) : State :=
  let word := wordR 0x30 d a b fn
  opInsSc e word (fun s =>
    let (v, s') := s.draw
    let r := f v (s.freg e a) (s.freg e b)
    ((s'.advance e word []).setReg e d r.1).stick e r.2) s

/-- An operation on ga with its result in fd. -/
def opGFp (e d a fn : Nat) (f : Nat → Nat × Nat) (s : State) : State :=
  let word := wordR 0x30 d a 0 fn
  opInsSc e word (fun s =>
    let r := f (s.reg e a)
    ((s.advance e word []).setFreg e d r.1).stick e r.2) s

/-- DADD (R338): addition. -/
def execDadd (e d a b : Nat) (s : State) : Host.Outcome State Fault Refusal := .next (opFp e d a b 0 fadd s)

/-- DSUB (R338): subtraction. -/
def execDsub (e d a b : Nat) (s : State) : Host.Outcome State Fault Refusal := .next (opFp e d a b 1 fsub s)

/-- DMUL (R338): multiplication. -/
def execDmul (e d a b : Nat) (s : State) : Host.Outcome State Fault Refusal := .next (opFp e d a b 2 fmul s)

/-- DDIV (R338): division. -/
def execDdiv (e d a b : Nat) (s : State) : Host.Outcome State Fault Refusal := .next (opFp e d a b 3 fdiv s)

/-- DMIN (R338): minimum. -/
def execDmin (e d a b : Nat) (s : State) : Host.Outcome State Fault Refusal := .next (opFp e d a b 5 fmin s)

/-- DMAX (R338): maximum. -/
def execDmax (e d a b : Nat) (s : State) : Host.Outcome State Fault Refusal := .next (opFp e d a b 6 fmax s)

/-- DSQRT (R338): square root. -/
def execDsqrt (e d a : Nat) (s : State) : Host.Outcome State Fault Refusal := .next (opFp e d a 0 4 (fun v x _ => fsqrt v x) s)

/-- DNEG (R338): negation. -/
def execDneg (e d a : Nat) (s : State) : Host.Outcome State Fault Refusal := .next (opFp e d a 0 7 (fun _ x _ => (fneg x, 0)) s)

/-- DABS (R338): absolute value. -/
def execDabs (e d a : Nat) (s : State) : Host.Outcome State Fault Refusal := .next (opFp e d a 0 8 (fun _ x _ => (x % 2 ^ 63, 0)) s)

/-- DCEQ (R338): gd := 1 if fa equals fb, else 0. -/
def execDceq (e d a b : Nat) (s : State) : Host.Outcome State Fault Refusal := .next (opFpG e d a b 9 (fun _ x y => feq x y) s)

/-- DCLT (R338): gd := 1 if fa < fb, else 0. -/
def execDclt (e d a b : Nat) (s : State) : Host.Outcome State Fault Refusal := .next (opFpG e d a b 10 (fun _ x y => flt x y) s)

/-- DCLE (R338): gd := 1 if fa ≤ fb, else 0. -/
def execDcle (e d a b : Nat) (s : State) : Host.Outcome State Fault Refusal := .next (opFpG e d a b 11 (fun _ x y => fle x y) s)

/-- DTOI (R338): gd := fa as I64. -/
def execDtoi (e d a : Nat) (s : State) : Host.Outcome State Fault Refusal := .next (opFpG e d a 0 12 (fun v x _ => ftoi v x) s)

/-- ITOD (R338): fd := ga as binary64. -/
def execItod (e d a : Nat) (s : State) : Host.Outcome State Fault Refusal := .next (opGFp e d a 13 (fun x => itof (toSigned 64 x)) s)

/-- DTOG (R338): bit copy from fa to gd. -/
def execDtog (e d a : Nat) (s : State) : Host.Outcome State Fault Refusal := .next (opFpG e d a 0 14 (fun _ x _ => (x, 0)) s)

/-- GTOD (R338): bit copy from ga to fd. -/
def execGtod (e d a : Nat) (s : State) : Host.Outcome State Fault Refusal := .next (opGFp e d a 15 (fun x => (x, 0)) s)

/-- A floating-point load. -/
def opFload (e d a imm : Nat) (s : State) : State :=
  let word := wordK 0x31 d a imm
  opInsSc e word (fun s =>
    match s.reach e (s.effAddr e a imm) 8 (·.r) with
    | none => s.trapIns e word 2
    | some l => (s.advance e word (accessEvent l false)).setFreg e d (leNat (s.readLoc e l 8))) s

/-- DLD (R338). -/
def execDld (e d a imm : Nat) (s : State) : Host.Outcome State Fault Refusal :=
  if isSc e && s.engRuns e && s.pcOk e && s.reach e (s.effAddr e a imm) 8 (·.r) == some .device then .fault .deviceWindow
  else .next (opFload e d a imm s)

/-- DST (R338). -/
def execDst (e b a imm : Nat) (s : State) : Host.Outcome State Fault Refusal := storeSc 0x32 e b a imm 8 (s.freg e b) s

end Sys2Proof.Machine
end

