-- ==== Sys2Proof/Machine/Dispatch.lean ====
section
/-!
DEFINITION. The meaning of each command, one arm per constructor of Instr.
-/
namespace Sys2Proof.Machine

/-- The effect of a command on everything but the queue. -/
def exec (i : Instr) (s : State) : Host.Outcome State Fault Refusal :=
  match i with
  | .clockLossOfLock now loop => Sys2Proof.Machine.execClockLossOfLock now loop s
  | .tbApllLossOfLock now oscToo => Sys2Proof.Machine.execTbApllLossOfLock now oscToo s
  | .xoStop now => Sys2Proof.Machine.execXoStop now s
  | .lockConfirmed now loop => Sys2Proof.Machine.execLockConfirmed now loop s
  | .pllRelockCpll a => Sys2Proof.Machine.execPllRelockCpll a s
  | .pllRelockEpll a => Sys2Proof.Machine.execPllRelockEpll a s
  | .sysReset a => Sys2Proof.Machine.execSysReset a s
  | .systemResetEnginesReturn now fall calOk bad still => Sys2Proof.Machine.execSystemResetEnginesReturn now fall calOk bad still s
  | .poresetNLow powerUp => Sys2Proof.Machine.execPoresetNLow powerUp s
  | .powerOnResetRelease now fall calOk bad => Sys2Proof.Machine.execPowerOnResetRelease now fall calOk bad s
  | .dramTrainingDone now ok => Sys2Proof.Machine.execDramTrainingDone now ok s
  | .dqsTracking now => Sys2Proof.Machine.execDqsTracking now s
  | .paddockWipeDone now => Sys2Proof.Machine.execPaddockWipeDone now s
  | .startupWarmMaxExpire now => Sys2Proof.Machine.execStartupWarmMaxExpire now s
  | .anchorLatch past => Sys2Proof.Machine.execAnchorLatch past s
  | .timeSet a v => Sys2Proof.Machine.execTimeSet a v s
  | .utcOffsetModeWrite a v => Sys2Proof.Machine.execUtcOffsetModeWrite a v s
  | .selectorTick now => Sys2Proof.Machine.execSelectorTick now s
  | .refEvaluation now => Sys2Proof.Machine.execRefEvaluation now s
  | .refLossOfSignal now n => Sys2Proof.Machine.execRefLossOfSignal now n s
  | .todSentenceRx now k since own tai leap off ql girth flags => Sys2Proof.Machine.execTodSentenceRx now k since own tai leap off ql girth flags s
  | .todSentenceTimeout k => Sys2Proof.Machine.execTodSentenceTimeout k s
  | .esmcPduRx lane ssm essm => Sys2Proof.Machine.execEsmcPduRx lane ssm essm s
  | .esmcRxTimeout k => Sys2Proof.Machine.execEsmcRxTimeout k s
  | .forcePinChange pins => Sys2Proof.Machine.execForcePinChange pins s
  | .forcePinLatch now => Sys2Proof.Machine.execForcePinLatch now s
  | .soakTimeWrite a n v => Sys2Proof.Machine.execSoakTimeWrite a n v s
  | .tiuEdge now c bin => Sys2Proof.Machine.execTiuEdge now c bin s
  | .tiuGateEstimate now c => Sys2Proof.Machine.execTiuGateEstimate now c s
  | .tiuChannelReconfig a c sub v => Sys2Proof.Machine.execTiuChannelReconfig a c sub v s
  | .servoMeasurement now n p status t => Sys2Proof.Machine.execServoMeasurement now n p status t s
  | .buildOutTimeout now => Sys2Proof.Machine.execBuildOutTimeout now s
  | .accumControl now u => Sys2Proof.Machine.execAccumControl now u s
  | .accumSlew now amount rate => Sys2Proof.Machine.execAccumSlew now amount rate s
  | .accumStep ns => Sys2Proof.Machine.execAccumStep ns s
  | .slewComplete now => Sys2Proof.Machine.execSlewComplete now s
  | .freqRampEnd now => Sys2Proof.Machine.execFreqRampEnd now s
  | .servoRestart now => Sys2Proof.Machine.execServoRestart now s
  | .slopeLimitTimeout now => Sys2Proof.Machine.execSlopeLimitTimeout now s
  | .hoLearnFit => Sys2Proof.Machine.execHoLearnFit s
  | .ovenSample code pin => Sys2Proof.Machine.execOvenSample code pin s
  | .ovenLoopStep => Sys2Proof.Machine.execOvenLoopStep s
  | .warmFlagRise now => Sys2Proof.Machine.execWarmFlagRise now s
  | .warmFlagFall now => Sys2Proof.Machine.execWarmFlagFall now s
  | .atomicSteerSend => Sys2Proof.Machine.execAtomicSteerSend s
  | .atomicReplyRx ok seq st => Sys2Proof.Machine.execAtomicReplyRx ok seq st s
  | .atomicSilentTimeout => Sys2Proof.Machine.execAtomicSilentTimeout s
  | .atomicRelayTx a v => Sys2Proof.Machine.execAtomicRelayTx a v s
  | .atomicRelayStatus a v => Sys2Proof.Machine.execAtomicRelayStatus a v s
  | .synthCommit a mask => Sys2Proof.Machine.execSynthCommit a mask s
  | .synthCommitApply now => Sys2Proof.Machine.execSynthCommitApply now s
  | .outputApllLoss now a => Sys2Proof.Machine.execOutputApllLoss now a s
  | .outputStart now n => Sys2Proof.Machine.execOutputStart now n s
  | .outputStop now n => Sys2Proof.Machine.execOutputStop now n s
  | .outputAlignCheck now n => Sys2Proof.Machine.execOutputAlignCheck now n s
  | .loopbackTimeout n => Sys2Proof.Machine.execLoopbackTimeout n s
  | .todSentenceTx now u => Sys2Proof.Machine.execTodSentenceTx now u s
  | .gifAlign k => Sys2Proof.Machine.execGifAlign k s
  | .gifLost k => Sys2Proof.Machine.execGifLost k s
  | .gifConfigWrite a k sub v => Sys2Proof.Machine.execGifConfigWrite a k sub v s
  | .notchUpdate k lines full => Sys2Proof.Machine.execNotchUpdate k lines full s
  | .jamIndUpdate k power flat => Sys2Proof.Machine.execJamIndUpdate k power flat s
  | .acqStatistic now e stat => Sys2Proof.Machine.execAcqStatistic now e stat s
  | .pullInTimeout ch => Sys2Proof.Machine.execPullInTimeout ch s
  | .trackChannelLost now ch => Sys2Proof.Machine.execTrackChannelLost now ch s
  | .gnssEpoch now bin obs => Sys2Proof.Machine.execGnssEpoch now bin obs s
  | .gnssMeasRecord now sol => Sys2Proof.Machine.execGnssMeasRecord now sol s
  | .navBitRecord now ch u => Sys2Proof.Machine.execNavBitRecord now ch u s
  | .gnEnableWrite a v => Sys2Proof.Machine.execGnEnableWrite a v s
  | .gnSurveyRestart a => Sys2Proof.Machine.execGnSurveyRestart a s
  | .surveyComplete => Sys2Proof.Machine.execSurveyComplete s
  | .gnPosCheck => Sys2Proof.Machine.execGnPosCheck s
  | .girthTermTimeout now k => Sys2Proof.Machine.execGirthTermTimeout now k s
  | .girthLimitWrite a v => Sys2Proof.Machine.execGirthLimitWrite a v s
  | .quadApply a q => Sys2Proof.Machine.execQuadApply a q s
  | .qrefLoss now q => Sys2Proof.Machine.execQrefLoss now q s
  | .linkBringUp now l stage scans pre main post => Sys2Proof.Machine.execLinkBringUp now l stage scans pre main post s
  | .trainingTimeout now l => Sys2Proof.Machine.execTrainingTimeout now l s
  | .linkUp now l => Sys2Proof.Machine.execLinkUp now l s
  | .linkLoss now l => Sys2Proof.Machine.execLinkLoss now l s
  | .blockLockLossTimeout now l => Sys2Proof.Machine.execBlockLockLossTimeout now l s
  | .laneRetrain a l => Sys2Proof.Machine.execLaneRetrain a l s
  | .laneDisable a l => Sys2Proof.Machine.execLaneDisable a l s
  | .eyeScan l v w => Sys2Proof.Machine.execEyeScan l v w s
  | .fomWarnTimeout now l => Sys2Proof.Machine.execFomWarnTimeout now l s
  | .fomMinTimeout now l => Sys2Proof.Machine.execFomMinTimeout now l s
  | .ctleAdapt now l vlo wlo vhi whi => Sys2Proof.Machine.execCtleAdapt now l vlo wlo vhi whi s
  | .lpiTxSleep l => Sys2Proof.Machine.execLpiTxSleep l s
  | .lpiRxSignal now l asleep => Sys2Proof.Machine.execLpiRxSignal now l asleep s
  | .esmcTx now l => Sys2Proof.Machine.execEsmcTx now l s
  | .esmcEventTx now l => Sys2Proof.Machine.execEsmcEventTx now l s
  | .peerLaneSwitch now => Sys2Proof.Machine.execPeerLaneSwitch now s
  | .peerLaneRevert now => Sys2Proof.Machine.execPeerLaneRevert now s
  | .peerPreferWrite a v => Sys2Proof.Machine.execPeerPreferWrite a v s
  | .interpCal now l => Sys2Proof.Machine.execInterpCal now l s
  | .alignMeasure l arx atx => Sys2Proof.Machine.execAlignMeasure l arx atx s
  | .alignDecide now p => Sys2Proof.Machine.execAlignDecide now p s
  | .portCalLoop a p => Sys2Proof.Machine.execPortCalLoop a p s
  | .portCalLoopDone p => Sys2Proof.Machine.execPortCalLoopDone p s
  | .frameIngress now f => Sys2Proof.Machine.execFrameIngress now f s
  | .egressSelect now p lane tw mark lost => Sys2Proof.Machine.execEgressSelect now p lane tw mark lost s
  | .downHoldExpire now p => Sys2Proof.Machine.execDownHoldExpire now p s
  | .blockTimeExpire now p => Sys2Proof.Machine.execBlockTimeExpire now p s
  | .fdbAgeOut now mac vid => Sys2Proof.Machine.execFdbAgeOut now mac vid s
  | .hostProtocolRequest now h => Sys2Proof.Machine.execHostProtocolRequest now h s
  | .ptpAnnounceRx now k p m ds => Sys2Proof.Machine.execPtpAnnounceRx now k p m ds s
  | .announceTimeout now p => Sys2Proof.Machine.execAnnounceTimeout now p s
  | .ptpStateDecision now k => Sys2Proof.Machine.execPtpStateDecision now k s
  | .ptpSyncRx now k p m => Sys2Proof.Machine.execPtpSyncRx now k p m s
  | .ptpFollowUpRx now k p m => Sys2Proof.Machine.execPtpFollowUpRx now k p m s
  | .ptpDelayReqRx now k p m => Sys2Proof.Machine.execPtpDelayReqRx now k p m s
  | .ptpDelayRespRx now k p m => Sys2Proof.Machine.execPtpDelayRespRx now k p m s
  | .ptpPdelayReqRx now p m => Sys2Proof.Machine.execPtpPdelayReqRx now p m s
  | .ptpPdelayRespRx now p m followUp => Sys2Proof.Machine.execPtpPdelayRespRx now p m followUp s
  | .ptpMgmtRx version => Sys2Proof.Machine.execPtpMgmtRx version s
  | .ptpSyncTx now k p addr => Sys2Proof.Machine.execPtpSyncTx now k p addr s
  | .ptpAnnounceTx now k p addr => Sys2Proof.Machine.execPtpAnnounceTx now k p addr s
  | .ptpDelayReqTx now k p => Sys2Proof.Machine.execPtpDelayReqTx now k p s
  | .requestUnicastTransmission now k p addr portId mtype logPeriod duration m => Sys2Proof.Machine.execRequestUnicastTransmission now k p addr portId mtype logPeriod duration m s
  | .cancelUnicastTransmission now k p addr portId mtype m => Sys2Proof.Machine.execCancelUnicastTransmission now k p addr portId mtype m s
  | .grantUnicastTransmissionRx now k p addr mtype duration m => Sys2Proof.Machine.execGrantUnicastTransmissionRx now k p addr mtype duration m s
  | .grantExpire now k addr portId mtype => Sys2Proof.Machine.execGrantExpire now k addr portId mtype s
  | .grantRenewTx now k addr mtype => Sys2Proof.Machine.execGrantRenewTx now k addr mtype s
  | .delayRespReservationRelease now k addr portId => Sys2Proof.Machine.execDelayRespReservationRelease now k addr portId s
  | .saKeySwitch now k => Sys2Proof.Machine.execSaKeySwitch now k s
  | .ptpInstanceReconfig now k => Sys2Proof.Machine.execPtpInstanceReconfig now k s
  | .ntpRequest now r => Sys2Proof.Machine.execNtpRequest now r s
  | .ntsLaunch now p lane tw mark delivered => Sys2Proof.Machine.execNtsLaunch now p lane tw mark delivered s
  | .ntsRelaunch now p lane tw mark delivered => Sys2Proof.Machine.execNtsRelaunch now p lane tw mark delivered s
  | .ntsExceptionRequest now => Sys2Proof.Machine.execNtsExceptionRequest now s
  | .ntpHashRekey a => Sys2Proof.Machine.execNtpHashRekey a s
  | .ntpPrefixWrite a sub v => Sys2Proof.Machine.execNtpPrefixWrite a sub v s
  | .bucketSweep now => Sys2Proof.Machine.execBucketSweep now s
  | .ntsKeySwitch now => Sys2Proof.Machine.execNtsKeySwitch now s
  | .ntsMintProducer a v => Sys2Proof.Machine.execNtsMintProducer a v s
  | .ntsMintEntry now mflags count aead unwrapOk => Sys2Proof.Machine.execNtsMintEntry now mflags count aead unwrapOk s
  | .add e d a b => Sys2Proof.Machine.execAdd e d a b s
  | .sub e d a b => Sys2Proof.Machine.execSub e d a b s
  | .and e d a b => Sys2Proof.Machine.execAnd e d a b s
  | .ior e d a b => Sys2Proof.Machine.execIor e d a b s
  | .xor e d a b => Sys2Proof.Machine.execXor e d a b s
  | .lsl e d a b => Sys2Proof.Machine.execLsl e d a b s
  | .lsr e d a b => Sys2Proof.Machine.execLsr e d a b s
  | .asr e d a b => Sys2Proof.Machine.execAsr e d a b s
  | .lts e d a b => Sys2Proof.Machine.execLts e d a b s
  | .ltu e d a b => Sys2Proof.Machine.execLtu e d a b s
  | .mul e d a b => Sys2Proof.Machine.execMul e d a b s
  | .mulhs e d a b => Sys2Proof.Machine.execMulhs e d a b s
  | .mulhu e d a b => Sys2Proof.Machine.execMulhu e d a b s
  | .divs e d a b => Sys2Proof.Machine.execDivs e d a b s
  | .divu e d a b => Sys2Proof.Machine.execDivu e d a b s
  | .rems e d a b => Sys2Proof.Machine.execRems e d a b s
  | .remu e d a b => Sys2Proof.Machine.execRemu e d a b s
  | .lzc e d a => Sys2Proof.Machine.execLzc e d a s
  | .ones e d a => Sys2Proof.Machine.execOnes e d a s
  | .addk e d a imm => Sys2Proof.Machine.execAddk e d a imm s
  | .andk e d a imm => Sys2Proof.Machine.execAndk e d a imm s
  | .iork e d a imm => Sys2Proof.Machine.execIork e d a imm s
  | .xork e d a imm => Sys2Proof.Machine.execXork e d a imm s
  | .ltsk e d a imm => Sys2Proof.Machine.execLtsk e d a imm s
  | .ltuk e d a imm => Sys2Proof.Machine.execLtuk e d a imm s
  | .khi e d a imm => Sys2Proof.Machine.execKhi e d a imm s
  | .lslk e d a imm => Sys2Proof.Machine.execLslk e d a imm s
  | .lsrk e d a imm => Sys2Proof.Machine.execLsrk e d a imm s
  | .asrk e d a imm => Sys2Proof.Machine.execAsrk e d a imm s
  | .ld8s e d a imm => Sys2Proof.Machine.execLd8s e d a imm s
  | .ld8u e d a imm => Sys2Proof.Machine.execLd8u e d a imm s
  | .ld16s e d a imm => Sys2Proof.Machine.execLd16s e d a imm s
  | .ld16u e d a imm => Sys2Proof.Machine.execLd16u e d a imm s
  | .ld32s e d a imm => Sys2Proof.Machine.execLd32s e d a imm s
  | .ld32u e d a imm => Sys2Proof.Machine.execLd32u e d a imm s
  | .ld64 e d a imm => Sys2Proof.Machine.execLd64 e d a imm s
  | .st8 e b a imm => Sys2Proof.Machine.execSt8 e b a imm s
  | .st16 e b a imm => Sys2Proof.Machine.execSt16 e b a imm s
  | .st32 e b a imm => Sys2Proof.Machine.execSt32 e b a imm s
  | .st64 e b a imm => Sys2Proof.Machine.execSt64 e b a imm s
  | .atswap e d a b => Sys2Proof.Machine.execAtswap e d a b s
  | .atadd e d a b => Sys2Proof.Machine.execAtadd e d a b s
  | .atand e d a b => Sys2Proof.Machine.execAtand e d a b s
  | .atior e d a b => Sys2Proof.Machine.execAtior e d a b s
  | .order e => Sys2Proof.Machine.execOrder e s
  | .breq e a b off => Sys2Proof.Machine.execBreq e a b off s
  | .brne e a b off => Sys2Proof.Machine.execBrne e a b off s
  | .brlts e a b off => Sys2Proof.Machine.execBrlts e a b off s
  | .brges e a b off => Sys2Proof.Machine.execBrges e a b off s
  | .brltu e a b off => Sys2Proof.Machine.execBrltu e a b off s
  | .brgeu e a b off => Sys2Proof.Machine.execBrgeu e a b off s
  | .go e off => Sys2Proof.Machine.execGo e off s
  | .call e off => Sys2Proof.Machine.execCall e off s
  | .gor e d a imm => Sys2Proof.Machine.execGor e d a imm s
  | .dadd e d a b => Sys2Proof.Machine.execDadd e d a b s
  | .dsub e d a b => Sys2Proof.Machine.execDsub e d a b s
  | .dmul e d a b => Sys2Proof.Machine.execDmul e d a b s
  | .ddiv e d a b => Sys2Proof.Machine.execDdiv e d a b s
  | .dsqrt e d a => Sys2Proof.Machine.execDsqrt e d a s
  | .dmin e d a b => Sys2Proof.Machine.execDmin e d a b s
  | .dmax e d a b => Sys2Proof.Machine.execDmax e d a b s
  | .dneg e d a => Sys2Proof.Machine.execDneg e d a s
  | .dabs e d a => Sys2Proof.Machine.execDabs e d a s
  | .dceq e d a b => Sys2Proof.Machine.execDceq e d a b s
  | .dclt e d a b => Sys2Proof.Machine.execDclt e d a b s
  | .dcle e d a b => Sys2Proof.Machine.execDcle e d a b s
  | .dtoi e d a => Sys2Proof.Machine.execDtoi e d a s
  | .itod e d a => Sys2Proof.Machine.execItod e d a s
  | .dtog e d a => Sys2Proof.Machine.execDtog e d a s
  | .gtod e d a => Sys2Proof.Machine.execGtod e d a s
  | .dld e d a imm => Sys2Proof.Machine.execDld e d a imm s
  | .dst e b a imm => Sys2Proof.Machine.execDst e b a imm s
  | .tnow now e d => Sys2Proof.Machine.execTnow now e d s
  | .tseq e d => Sys2Proof.Machine.execTseq e d s
  | .text e d a b => Sys2Proof.Machine.execText e d a b s
  | .twait now e a => Sys2Proof.Machine.execTwait now e a s
  | .twaitResume now e => Sys2Proof.Machine.execTwaitResume now e s
  | .gadd e d a b => Sys2Proof.Machine.execGadd e d a b s
  | .gmax e d a b => Sys2Proof.Machine.execGmax e d a b s
  | .qpop e d a b => Sys2Proof.Machine.execQpop e d a b s
  | .qpush e d a b => Sys2Proof.Machine.execQpush e d a b s
  | .qstat e d a => Sys2Proof.Machine.execQstat e d a s
  | .qwait now e a b => Sys2Proof.Machine.execQwait now e a b s
  | .qwaitResume now e => Sys2Proof.Machine.execQwaitResume now e s
  | .csub e d a => Sys2Proof.Machine.execCsub e d a s
  | .cryptoJobDone tag ok => Sys2Proof.Machine.execCryptoJobDone tag ok s
  | .cwait e d a => Sys2Proof.Machine.execCwait e d a s
  | .crand e d => Sys2Proof.Machine.execCrand e d s
  | .rdc e d imm => Sys2Proof.Machine.execRdc e d imm s
  | .wrc now e a imm => Sys2Proof.Machine.execWrc now e a imm s
  | .idle e => Sys2Proof.Machine.execIdle e s
  | .idleWake e => Sys2Proof.Machine.execIdleWake e s
  | .stop e => Sys2Proof.Machine.execStop e s
  | .tret e => Sys2Proof.Machine.execTret e s
  | .dbg e => Sys2Proof.Machine.execDbg e s
  | .engineTrap now e cause recovers => Sys2Proof.Machine.execEngineTrap now e cause recovers s
  | .engineWatchdogExpire now e recovers => Sys2Proof.Machine.execEngineWatchdogExpire now e recovers s
  | .engineRestore now e => Sys2Proof.Machine.execEngineRestore now e s
  | .tackLoad a j addr => Sys2Proof.Machine.execTackLoad a j addr s
  | .tackLoadDone now j hashOk sigOk => Sys2Proof.Machine.execTackLoadDone now j hashOk sigOk s
  | .tackStop a j => Sys2Proof.Machine.execTackStop a j s
  | .paddockEnableWrite a v => Sys2Proof.Machine.execPaddockEnableWrite a v s
  | .tackEnginesWrite a v => Sys2Proof.Machine.execTackEnginesWrite a v s
  | .tackDoorbellRead a => Sys2Proof.Machine.execTackDoorbellRead a s
  | .govDecision now pPart tj ok => Sys2Proof.Machine.execGovDecision now pPart tj ok s
  | .govCostMeasure now pPart => Sys2Proof.Machine.execGovCostMeasure now pPart s
  | .govLevelMinWrite a v => Sys2Proof.Machine.execGovLevelMinWrite a v s
  | .pcDump now => Sys2Proof.Machine.execPcDump now s
  | .pcRead a e => Sys2Proof.Machine.execPcRead a e s
  | .instructionSample now e pc word latency stall trapped => Sys2Proof.Machine.execInstructionSample now e pc word latency stall trapped s
  | .maskRotation => Sys2Proof.Machine.execMaskRotation s
  | .lcToMaker a cred => Sys2Proof.Machine.execLcToMaker a cred s
  | .lcToOwned a cred => Sys2Proof.Machine.execLcToOwned a cred s
  | .lcToField a cred => Sys2Proof.Machine.execLcToField a cred s
  | .lcToDebug a cred => Sys2Proof.Machine.execLcToDebug a cred s
  | .lcToRetired a cred => Sys2Proof.Machine.execLcToRetired a cred s
  | .slotAttrWrite a n v => Sys2Proof.Machine.execSlotAttrWrite a n v s
  | .keyStage a v => Sys2Proof.Machine.execKeyStage a v s
  | .keyCommit a n => Sys2Proof.Machine.execKeyCommit a n s
  | .keyAbandon a n => Sys2Proof.Machine.execKeyAbandon a n s
  | .vaultStageTimeout now slot => Sys2Proof.Machine.execVaultStageTimeout now slot s
  | .keyErase a n => Sys2Proof.Machine.execKeyErase a n s
  | .keyExport a n w => Sys2Proof.Machine.execKeyExport a n w s
  | .tamperAlarm now src aon => Sys2Proof.Machine.execTamperAlarm now src aon s
  | .tamperClear a tseq cred => Sys2Proof.Machine.execTamperClear a tseq cred s
  | .aonSupplyChangeover now aon => Sys2Proof.Machine.execAonSupplyChangeover now aon s
  | .aonReset now => Sys2Proof.Machine.execAonReset now s
  | .authChallenge a => Sys2Proof.Machine.execAuthChallenge a s
  | .authOpen a v => Sys2Proof.Machine.execAuthOpen a v s
  | .authClose a n => Sys2Proof.Machine.execAuthClose a n s
  | .sessionIdleTimeout now num => Sys2Proof.Machine.execSessionIdleTimeout now num s
  | .sessionTicketExpire now num => Sys2Proof.Machine.execSessionTicketExpire now num s
  | .ticketMinIdWrite a v => Sys2Proof.Machine.execTicketMinIdWrite a v s
  | .ownerTransfer a v => Sys2Proof.Machine.execOwnerTransfer a v s
  | .ownerKeyRotate a v => Sys2Proof.Machine.execOwnerKeyRotate a v s
  | .jtagUnlock a v => Sys2Proof.Machine.execJtagUnlock a v s
  | .jtagAttach now => Sys2Proof.Machine.execJtagAttach now s
  | .jtagReset now => Sys2Proof.Machine.execJtagReset now s
  | .auditHead a => Sys2Proof.Machine.execAuditHead a s
  | .dictWrite a idx sub v => Sys2Proof.Machine.execDictWrite a idx sub v s
  | .dictDescribeAddr a idx sub => Sys2Proof.Machine.execDictDescribeAddr a idx sub s
  | .dictStore a => Sys2Proof.Machine.execDictStore a s
  | .sealReq a e slow => Sys2Proof.Machine.execSealReq a e slow s
  | .sealResp a ready => Sys2Proof.Machine.execSealResp a ready s
  | .mbSubmit a e len slow => Sys2Proof.Machine.execMbSubmit a e len slow s
  | .canSdoTransfer c stage write a idx sub v => Sys2Proof.Machine.execCanSdoTransfer c stage write a idx sub v s
  | .canSdoTimeout now c => Sys2Proof.Machine.execCanSdoTimeout now c s
  | .canNmtRx now c => Sys2Proof.Machine.execCanNmtRx now c s
  | .canHeartbeatTx now c => Sys2Proof.Machine.execCanHeartbeatTx now c s
  | .canBusOff now c => Sys2Proof.Machine.execCanBusOff now c s
  | .canBusOffRecovery now c => Sys2Proof.Machine.execCanBusOffRecovery now c s
  | .canEnableWrite a c v => Sys2Proof.Machine.execCanEnableWrite a c v s
  | .mspWrite a idx sub v ok ready slow => Sys2Proof.Machine.execMspWrite a idx sub v ok ready slow s
  | .mspRead a idx sub ok ready slow => Sys2Proof.Machine.execMspRead a idx sub ok ready slow s
  | .mspFetch now ok ready => Sys2Proof.Machine.execMspFetch now ok ready s
  | .mspState now ok ready => Sys2Proof.Machine.execMspState now ok ready s
  | .attnAck a v => Sys2Proof.Machine.execAttnAck a v s
  | .bar0Read a off w late => Sys2Proof.Machine.execBar0Read a off w late s
  | .bar0Write a off w v => Sys2Proof.Machine.execBar0Write a off w v s
  | .bar4Access now write off len v => Sys2Proof.Machine.execBar4Access now write off len v s
  | .dmaReq a src off len host => Sys2Proof.Machine.execDmaReq a src off len host s
  | .dmaDone now => Sys2Proof.Machine.execDmaDone now s
  | .esxiaPlainRequest a tag e ok => Sys2Proof.Machine.execEsxiaPlainRequest a tag e ok s
  | .esxiaSealedRequest a tag e ok => Sys2Proof.Machine.execEsxiaSealedRequest a tag e ok s
  | .esxiaPathWrite a sub v => Sys2Proof.Machine.execEsxiaPathWrite a sub v s
  | .agentWatchdogExpire now => Sys2Proof.Machine.execAgentWatchdogExpire now s
  | .halterQuarterTick now verdict lowA lowB highA highB => Sys2Proof.Machine.execHalterQuarterTick now verdict lowA lowB highA highB s
  | .leaseExpire now => Sys2Proof.Machine.execLeaseExpire now s
  | .foreignLow now => Sys2Proof.Machine.execForeignLow now s
  | .halterClaim now highA highB pass => Sys2Proof.Machine.execHalterClaim now highA highB pass s
  | .pairYieldCheck now => Sys2Proof.Machine.execPairYieldCheck now s
  | .hello now serial lc preferred svn hmac => Sys2Proof.Machine.execHello now serial lc preferred svn hmac s
  | .renew now pseq tag c => Sys2Proof.Machine.execRenew now pseq tag c s
  | .pairStatus now pseq tag state fit aligned girth epoch cfg full back => Sys2Proof.Machine.execPairStatus now pseq tag state fit aligned girth epoch cfg full back s
  | .marker now pseq tag tPeer rPeer => Sys2Proof.Machine.execMarker now pseq tag tPeer rPeer s
  | .snapSection now pseq tag x => Sys2Proof.Machine.execSnapSection now pseq tag x s
  | .snapTrailer now pseq tag epoch kind base count total digest => Sys2Proof.Machine.execSnapTrailer now pseq tag epoch kind base count total digest s
  | .handoffPropose now pseq tag th cause => Sys2Proof.Machine.execHandoffPropose now pseq tag th cause s
  | .handoffAccept now pseq tag => Sys2Proof.Machine.execHandoffAccept now pseq tag s
  | .handoffCommit now pseq tag => Sys2Proof.Machine.execHandoffCommit now pseq tag s
  | .handoffCancel now pseq tag => Sys2Proof.Machine.execHandoffCancel now pseq tag s
  | .handoffReceiverClaim now pass => Sys2Proof.Machine.execHandoffReceiverClaim now pass s
  | .handoffCommitCheck now => Sys2Proof.Machine.execHandoffCommitCheck now s
  | .handoffExecute now => Sys2Proof.Machine.execHandoffExecute now s
  | .handoffNoCommitTimeout now => Sys2Proof.Machine.execHandoffNoCommitTimeout now s
  | .release now pseq tag cause => Sys2Proof.Machine.execRelease now pseq tag cause s
  | .swapPropose now => Sys2Proof.Machine.execSwapPropose now s
  | .pairCommandHandoff a => Sys2Proof.Machine.execPairCommandHandoff a s
  | .pairCommandDiag a => Sys2Proof.Machine.execPairCommandDiag a s
  | .pairDiagDone now result => Sys2Proof.Machine.execPairDiagDone now result s
  | .pairReturn now => Sys2Proof.Machine.execPairReturn now s
  | .pairHoldStandbyWrite a v => Sys2Proof.Machine.execPairHoldStandbyWrite a v s
  | .pairEnableWrite a sub v => Sys2Proof.Machine.execPairEnableWrite a sub v s
  | .domainJoinTx now => Sys2Proof.Machine.execDomainJoinTx now s
  | .join now src domainId w serial lc epoch hmac => Sys2Proof.Machine.execJoin now src domainId w serial lc epoch hmac s
  | .joinAck now src domainId w serial result hmac => Sys2Proof.Machine.execJoinAck now src domainId w serial result hmac s
  | .quality now src dseq tag ql flags epoch c => Sys2Proof.Machine.execQuality now src dseq tag ql flags epoch c s
  | .domainQualityTx now => Sys2Proof.Machine.execDomainQualityTx now s
  | .domainStatus now src w dseq tag ql girth epoch => Sys2Proof.Machine.execDomainStatus now src w dseq tag ql girth epoch s
  | .domainStatusTx now => Sys2Proof.Machine.execDomainStatusTx now s
  | .policy now src dseq tag epoch l => Sys2Proof.Machine.execPolicy now src dseq tag epoch l s
  | .policyAck now src w dseq tag epoch code failing => Sys2Proof.Machine.execPolicyAck now src w dseq tag epoch code failing s
  | .keys now src dseq tag l => Sys2Proof.Machine.execKeys now src dseq tag l s
  | .keysAck now src w dseq tag results => Sys2Proof.Machine.execKeysAck now src w dseq tag results s
  | .leave now src w dseq tag cause => Sys2Proof.Machine.execLeave now src w dseq tag cause s
  | .domainManagerLost now => Sys2Proof.Machine.execDomainManagerLost now s
  | .domainWorkerLost now w => Sys2Proof.Machine.execDomainWorkerLost now w s
  | .domainPolicyWrite a k v => Sys2Proof.Machine.execDomainPolicyWrite a k v s
  | .domainConfigWrite a sub v => Sys2Proof.Machine.execDomainConfigWrite a sub v s
  | .faultRaise now code inst detail => Sys2Proof.Machine.execFaultRaise now code inst detail s
  | .faultConditionClear now code inst => Sys2Proof.Machine.execFaultConditionClear now code inst s
  | .faultHandlingDone now => Sys2Proof.Machine.execFaultHandlingDone now s
  | .faultHandleTimeout now => Sys2Proof.Machine.execFaultHandleTimeout now s
  | .evlogMove now n => Sys2Proof.Machine.execEvlogMove now n s
  | .faultAckCode a code => Sys2Proof.Machine.execFaultAckCode a code s
  | .faultAckAll a => Sys2Proof.Machine.execFaultAckAll a s
  | .faultAckF3 a => Sys2Proof.Machine.execFaultAckF3 a s
  | .f3Clear a cred => Sys2Proof.Machine.execF3Clear a cred s
  | .sleepEnter a => Sys2Proof.Machine.execSleepEnter a s
  | .fwErase a => Sys2Proof.Machine.execFwErase a s
  | .fwEraseDone now ok => Sys2Proof.Machine.execFwEraseDone now ok s
  | .fwChunk a off len data => Sys2Proof.Machine.execFwChunk a off len data s
  | .fwCommit a v => Sys2Proof.Machine.execFwCommit a v s
  | .calSelect a e => Sys2Proof.Machine.execCalSelect a e s
  | .calValue a value unc source => Sys2Proof.Machine.execCalValue a value unc source s
  | .calCommitDone now ok => Sys2Proof.Machine.execCalCommitDone now ok s
  | .calReloadChunk a off len data => Sys2Proof.Machine.execCalReloadChunk a off len data s
  | .calReloadCommit a => Sys2Proof.Machine.execCalReloadCommit a s
  | .calStagingTimeout now => Sys2Proof.Machine.execCalStagingTimeout now s
  | .inElecWrite a n v => Sys2Proof.Machine.execInElecWrite a n v s
  | .localOscLoss now => Sys2Proof.Machine.execLocalOscLoss now s
  | .gnssClockLoss now => Sys2Proof.Machine.execGnssClockLoss now s
  | .gnssClockReturn now => Sys2Proof.Machine.execGnssClockReturn now s
  | .pcieLinkDown now => Sys2Proof.Machine.execPcieLinkDown now s
  | .pcieLinkUp now => Sys2Proof.Machine.execPcieLinkUp now s
  | .qrefReturn now q => Sys2Proof.Machine.execQrefReturn now q s
  | .peerLaneDown now p => Sys2Proof.Machine.execPeerLaneDown now p s
  | .peerLaneUp now p => Sys2Proof.Machine.execPeerLaneUp now p s
  | .peerLinkSilence now => Sys2Proof.Machine.execPeerLinkSilence now s
  | .haltWireFall now w back => Sys2Proof.Machine.execHaltWireFall now w back s
  | .ptpPdelayReqTx now p => Sys2Proof.Machine.execPtpPdelayReqTx now p s
  | .ptpQualificationTimeout now p => Sys2Proof.Machine.execPtpQualificationTimeout now p s
  | .dictStoreDone now ok => Sys2Proof.Machine.execDictStoreDone now ok s
  | .fwCommitDone now outcome => Sys2Proof.Machine.execFwCommitDone now outcome s
  | .aonSupplyRestore now => Sys2Proof.Machine.execAonSupplyRestore now s
  | .tamperSourceRecover now src => Sys2Proof.Machine.execTamperSourceRecover now src s

end Sys2Proof.Machine
end

