-- ==== Sys2Proof/Safety.lean ====
section
/-!
DEFINITION. What counts as a safe run: no step stops, and what the block promises of every state that a step leaves.
-/
set_option Elab.async false
namespace Sys2Proof

/-- The step from `s` does not stop. -/
def Safety.Runs (s : Machine.State) : Prop := ∃ t, Machine.step s = .next t

/-- TIME_VALID is asserted only in start-up state LOCKED, and never in life-cycle state DEBUG (R18, R414). -/
abbrev Safety.TimeValidSound (s : Machine.State) : Prop :=
  s.girth.timeValid = true → s.start.state = .locked ∧ s.vault.lc ≠ .debug

/-- An engine's register files have their 32 registers each, its protection table its eight regions, and its local memories are in
their canonical form (R332, R334, R336, R343). -/
structure Safety.EngOk (g : Machine.Eng) : Prop where
  regs : g.regs.length = 32
  fregs : g.fregs.length = 32
  prot : g.prot.length = 8
  imem : Machine.memWf g.imem = true
  dmem : Machine.memWf g.dmem = true
  windows : Machine.memWf g.windows = true

/-- 36 engines with sound memories, eight TACK arrays, and the shared memories in their canonical form (R332, R334). -/
structure Safety.EnginesOk (e : Machine.Engines) : Prop where
  count : e.eng.length = 36
  each : ∀ g ∈ e.eng, Safety.EngOk g
  tack : e.tack.length = 8
  sram : Machine.memWf e.sram = true
  dram : Machine.memWf e.dram = true

/-- The invariant of the block: every bank has the units that the spec gives it, every memory is in its canonical form, the girth
register holds 32 bits, and TIME_VALID is sound. -/
structure Safety.Inv (s : Machine.State) : Prop where
  refs : s.refs.length = 17
  tiu : s.tiu.length = 32
  ring : s.tb.ring.length = 16
  aplls : s.synth.aplls.length = 4
  outs : s.synth.outs.length = 16
  gifs : s.gnss.gifs.length = 3
  quads : s.net.quads.length = 8
  lanes : s.net.lanes.length = 32
  yports : s.yard.ports.length = 32
  queues : s.yard.queues.length = 256
  pports : s.ptp.ports.length = 32
  insts : s.ptp.insts.length = 4
  claims : s.girth.claims.length = 18
  engs : Safety.EnginesOk s.engs
  girth : s.girth.now ≤ girthUnknown
  sound : Safety.TimeValidSound s

/-! ## What an instruction leaves (R334–R338) -/

/-- Engine `e` executes the instruction at its program counter: it runs, and its program counter lies in executable memory. -/
abbrev Safety.Executes (s : Machine.State) (e : Nat) : Prop := s.engRuns e = true ∧ s.pcOk e = true

/-- The next instruction's address. -/
def Safety.nextPc (s : Machine.State) (e : Nat) : Nat := ((s.eng e).pc + 4) % 2 ^ Machine.engWidth e

/-- From `s` to `t` nothing has changed but the model's count of free values and, of engine `e`, the general registers, the program
counter and the event counters. -/
def Safety.OnlyInt (s t : Machine.State) (e : Nat) : Prop :=
  t = ({ s with freeCount := t.freeCount } : Machine.State).onEng e (fun g =>
    { g with regs := (t.eng e).regs, pc := (t.eng e).pc, pmc := (t.eng e).pmc })

/-- As `OnlyInt`, and beside it the floating-point registers and FPSTAT of engine `e` may have changed. -/
def Safety.OnlyFloat (s t : Machine.State) (e : Nat) : Prop :=
  t = ({ s with freeCount := t.freeCount } : Machine.State).onEng e (fun g =>
    { g with regs := (t.eng e).regs, fregs := (t.eng e).fregs, fpstat := (t.eng e).fpstat, pc := (t.eng e).pc, pmc := (t.eng e).pmc })

/-- As `OnlyInt`, and beside it the memories that engine `e` can write may have changed. -/
def Safety.OnlyMem (s t : Machine.State) (e : Nat) : Prop :=
  t = ({ s with freeCount := t.freeCount, engs := { s.engs with sram := t.engs.sram, dram := t.engs.dram } } : Machine.State).onEng e
    (fun g => { g with regs := (t.eng e).regs, dmem := (t.eng e).dmem, windows := (t.eng e).windows, pc := (t.eng e).pc,
                       pmc := (t.eng e).pmc })

/-- From `s` to `t` nothing has changed but the model's count of free values and, of engine `e`, its stall with the events it
waits for, and the event counters. -/
def Safety.OnlyStall (s t : Machine.State) (e : Nat) : Prop :=
  t = ({ s with freeCount := t.freeCount } : Machine.State).onEng e (fun g =>
    { g with stall := (t.eng e).stall, events := (t.eng e).events, pmc := (t.eng e).pmc })

/-- Every general register of engine `e` is as it was, but that gd holds `v`; g0 stays 0. -/
def Safety.Writes (s t : Machine.State) (e d v : Nat) : Prop :=
  ∀ r, t.reg e r = if r % 32 = d % 32 ∧ d % 32 ≠ 0 then v else s.reg e r

/-- The instruction completes: gd takes `v`, the next instruction is at `pc`, and nothing else changes. -/
def Safety.IntResult (s : Machine.State) (e d v pc : Nat) (o : Host.Outcome Machine.State Machine.Fault Machine.Refusal) : Prop :=
  ∃ t, o = .next t ∧ Safety.OnlyInt s t e ∧ Safety.Writes s t e d v ∧ (t.eng e).pc = pc

/-- The instruction completes: fd takes `v`, FPSTAT accumulates `flags`, the next instruction follows, and nothing else changes. -/
def Safety.FloatResult (s : Machine.State) (e d v flags : Nat) (o : Host.Outcome Machine.State Machine.Fault Machine.Refusal) : Prop :=
  ∃ t, o = .next t ∧ Safety.OnlyFloat s t e ∧ (∀ r, t.reg e r = s.reg e r) ∧
    (∀ r, t.freg e r = if r % 32 = d % 32 then v else s.freg e r) ∧
    (t.eng e).fpstat = (s.eng e).fpstat ||| flags ∧ (t.eng e).pc = Safety.nextPc s e

/-- The instruction completes: gd takes `v`, FPSTAT accumulates `flags`, the next instruction follows, and nothing else changes. -/
def Safety.FloatToInt (s : Machine.State) (e d v flags : Nat) (o : Host.Outcome Machine.State Machine.Fault Machine.Refusal) : Prop :=
  ∃ t, o = .next t ∧ Safety.OnlyFloat s t e ∧ Safety.Writes s t e d v ∧ (∀ r, t.freg e r = s.freg e r) ∧
    (t.eng e).fpstat = (s.eng e).fpstat ||| flags ∧ (t.eng e).pc = Safety.nextPc s e

/-- One byte of the memories of R334, as engine `k` reaches it; the device window holds none. -/
def Safety.byteAt (s : Machine.State) (k : Nat) (q : Machine.Loc) : Byte :=
  match q with
  | .dmem o => Machine.memGet (s.eng k).dmem o
  | .window o => Machine.memGet (s.eng k).windows o
  | .sram o => Machine.memGet s.engs.sram o
  | .dram x => Machine.memGet s.engs.dram x
  | .device => 0#8

/-- The number of a byte within `n` bytes from `x`; none when it lies outside them. -/
def Safety.within (x n y : Nat) : Option Nat := if x ≤ y ∧ y < x + n then some (y - x) else none

/-- The byte `q` as engine `k` reaches it is one of the `n` bytes that engine `e` stores from place `l`: which one. -/
def Safety.storedByte (e : Nat) (l : Machine.Loc) (n k : Nat) (q : Machine.Loc) : Option Nat :=
  match l, q with
  | .dmem x, .dmem y => if k = e then Safety.within x n y else none
  | .window x, .window y => if k = e then Safety.within x n y else none
  | .sram x, .sram y => Safety.within x n y
  | .dram x, .dram y => Safety.within x n y
  | _, _ => none

/-- Every byte of every memory is as it was, but that the `n` bytes which engine `e` stores from place `l` hold those of `v`,
least significant first. -/
def Safety.Stores (s t : Machine.State) (e : Nat) (l : Machine.Loc) (n v : Nat) : Prop :=
  ∀ k q, k < 36 → Safety.byteAt t k q = match Safety.storedByte e l n k q with
    | some i => BitVec.ofNat 8 (v / 256 ^ i)
    | none => Safety.byteAt s k q

/-- As `OnlyInt` without the general registers, and beside it the trap registers of engine `e` and its stall may have changed. -/
def Safety.OnlyTrap (s t : Machine.State) (e : Nat) : Prop :=
  t = ({ s with freeCount := t.freeCount } : Machine.State).onEng e (fun g =>
    { g with cause := (t.eng e).cause, trapPc := (t.eng e).trapPc, stall := (t.eng e).stall, pc := (t.eng e).pc,
             lastCause := (t.eng e).lastCause, pmc := (t.eng e).pmc })

/-- Engine `e` enters its trap handler: CAUSE and TRAPPC hold the cause and the trapping instruction's address, the next instruction
is at TRAPBASE, and nothing else changes (R342). -/
def Safety.Enters (s : Machine.State) (e cause : Nat) (o : Host.Outcome Machine.State Machine.Fault Machine.Refusal) : Prop :=
  ∃ t, o = .next t ∧ Safety.OnlyTrap s t e ∧ (t.eng e).cause = cause ∧ (t.eng e).trapPc = (s.eng e).pc ∧
    (t.eng e).pc = (s.eng e).trapBase ∧ (t.eng e).lastCause = cause ∧ (t.eng e).stall = .none

/-- The instructions of an engine that carry no moment (R338–R343). -/
def Safety.engineInstrs (e d a b imm : Nat) : List Instr :=
  [.add e d a b, .sub e d a b, .and e d a b, .ior e d a b, .xor e d a b, .lsl e d a b, .lsr e d a b, .asr e d a b, .lts e d a b,
   .ltu e d a b, .mul e d a b, .mulhs e d a b, .mulhu e d a b, .divs e d a b, .divu e d a b, .rems e d a b, .remu e d a b, .lzc e d a,
   .ones e d a, .addk e d a imm, .andk e d a imm, .iork e d a imm, .xork e d a imm, .ltsk e d a imm, .ltuk e d a imm, .khi e d a imm,
   .lslk e d a imm, .lsrk e d a imm, .asrk e d a imm, .ld8s e d a imm, .ld8u e d a imm, .ld16s e d a imm, .ld16u e d a imm,
   .ld32s e d a imm, .ld32u e d a imm, .ld64 e d a imm, .st8 e b a imm, .st16 e b a imm, .st32 e b a imm, .st64 e b a imm,
   .atswap e d a b, .atadd e d a b, .atand e d a b, .atior e d a b, .order e, .breq e a b imm, .brne e a b imm, .brlts e a b imm,
   .brges e a b imm, .brltu e a b imm, .brgeu e a b imm, .go e imm, .call e imm, .gor e d a imm] ++
  [.dadd e d a b, .dsub e d a b, .dmul e d a b, .ddiv e d a b, .dsqrt e d a, .dmin e d a b, .dmax e d a b, .dneg e d a, .dabs e d a,
   .dceq e d a b, .dclt e d a b, .dcle e d a b, .dtoi e d a, .itod e d a, .dtog e d a, .gtod e d a, .dld e d a imm, .dst e b a imm,
   .tseq e d, .text e d a b, .gadd e d a b, .gmax e d a b, .qpop e d a b, .qpush e d a b, .qstat e d a, .csub e d a, .cwait e d a,
   .crand e d, .rdc e d imm, .idle e, .stop e, .tret e, .dbg e]

/-- The memory accesses of an engine: the only commands that can stop the block (R334, R338, R339). -/
def Safety.accesses (e x a y : Nat) : List Instr :=
  [.ld8s e x a y, .ld8u e x a y, .ld16s e x a y, .ld16u e x a y, .ld32s e x a y, .ld32u e x a y, .ld64 e x a y, .st8 e x a y,
   .st16 e x a y, .st32 e x a y, .st64 e x a y, .dld e x a y, .dst e x a y, .text e x a y]

/-! ## Accesses that are accepted (R429, R430) -/

/-- The state in which checks 10 and 11 and the effect of a write find the block: the request has arrived, and a one-shot credential
has used its nonce up (R411). -/
def Safety.judged (s : Machine.State) (a : Acc) (idx sub : Nat) : Machine.State :=
  if Machine.oneShot idx sub then (s.arrive a).useNonce a.path else s.arrive a

/-- A write of `v` by the requester `w` passes every check of R429, and its audit record, where it must have one, is stored; its effect
finds the state `t`. -/
def Safety.Accepts (s : Machine.State) (a : Acc) (idx sub v : Nat) (w : Machine.Who) (t : Machine.State) : Prop :=
  s.pathUp a.path = true ∧ v < 2 ^ (8 * a.len) ∧ (s.arrive a).whoIs a idx sub true = some w ∧
    (s.arrive a).firstChecks a w idx sub v true = 0 ∧
    ∃ d, Machine.entryOf idx sub = some d ∧ (Safety.judged s a idx sub).writeRefusal a w d idx sub v = 0 ∧
      (if d.logged idx sub then
        (Safety.judged s a idx sub).audit ((Safety.judged s a idx sub).auditOf a w (Machine.auditType idx sub) idx sub 0
          ((Safety.judged s a idx sub).auditVal a d idx sub v)) = some t
       else t = Safety.judged s a idx sub)

/-- A read by the requester `w` of the entry `d` passes every check of R429. -/
def Safety.MayRead (s : Machine.State) (a : Acc) (idx sub : Nat) (d : Machine.ObjDef) : Prop :=
  s.pathUp a.path = true ∧ Machine.entryOf idx sub = some d ∧
    ∃ w, (s.arrive a).whoIs a idx sub false = some w ∧ (s.arrive a).firstChecks a w idx sub 0 false = 0

/-- The path answers with a code and a value. -/
def Safety.answers (t : Machine.State) (p : Path) (code value : Nat) : Machine.State :=
  t.onPath p (fun x => { x with code := code, value := value })

/-- A command that writes has the effect `f` of an accepted write, which the path answers with code 0. -/
def Safety.WriteDoes (s : Machine.State) (a : Acc) (idx sub v : Nat) (f : Machine.State → Machine.State)
    (o : Host.Outcome Machine.State Machine.Fault Machine.Refusal) : Prop :=
  ∀ w t, Safety.Accepts s a idx sub v w t → o = .next (Safety.answers (f t) a.path 0 0)

end Sys2Proof
end

