-- ==== Sys2Proof/Certificates/Slice0/Obligations.lean ====
section
/-!
DEFINITION. The statements for the provers: what the block does with each command, what every command leaves as it was, and what every
step keeps.
-/
set_option Elab.async false
open Sys2Proof Sys2Proof.Machine


/-! ## The block (the queue, its invariant, what stops it) -/

/-- A step takes the command at the front of the queue and carries it out on the state with the rest of the queue. -/
def Obligations.StepRunsFrontCommand : Prop :=
  ∀ (s : State) (c : Instr) (rest : List Instr), s.pending = c :: rest → step s = exec c { s with pending := rest }

/-- With an empty queue the block idles, and no word spells a command (the model's choices: log entries 4 and 105). -/
def Obligations.StepIdles : Prop :=
  (∀ s : State, s.pending = [] → step s = .next s) ∧ ∀ (s : State) (n w : Nat), decodeTableWord n w = none ∧ s.withFetchWord n w = s

/-- Commands are served first in, first out: `n` steps that all answer a next state take the first `n` commands from the queue, and
leave the others in their order. -/
def Obligations.CommandsServedInOrder : Prop :=
  ∀ (n : Nat) (f : Nat → State), (∀ k < n, step (f k) = .next (f (k + 1))) → (f n).pending = (f 0).pending.drop n

/-- Every step keeps the invariant of the block: every bank has the units that the spec gives it, every engine its registers, every
memory is in its canonical form, the girth register holds 32 bits, and TIME_VALID is asserted only in start-up state LOCKED (R18). -/
def Obligations.InvariantKept : Prop := ∀ s t : State, Safety.Inv s → step s = .next t → Safety.Inv t

/-- The invariant holds of the state after reset. -/
def Obligations.InvariantAtReset : Prop := Safety.Inv State.reset

/-- Every command but the fourteen memory accesses of an engine answers a next state, from every state and with every operand; the
queue is as it was and the invariant holds of it. No command is refused, and only an access that leads to the device window, whose
contents no rule gives, stops the block: a load, a store or TEXT of an engine that executes, with a fault of that name (R334; the
model's choice, log entry 9). -/
def Obligations.OnlyDeviceWindowStops : Prop :=
  (∀ (c : Instr) (s : State), (∀ e x a y, c ∉ Safety.accesses e x a y) →
    ∃ t, exec c s = .next t ∧ t.pending = s.pending ∧ (Safety.Inv s → Safety.Inv t)) ∧
  (∀ (s : State) (e x a y : Nat), ∀ c ∈ Safety.accesses e x a y,
    (∃ t, exec c s = .next t ∧ t.pending = s.pending ∧ (Safety.Inv s → Safety.Inv t)) ∨ exec c s = .fault .deviceWindow) ∧
  ∀ (s : State) (e x a y : Nat), Safety.Executes s e → s.reach e (s.effAddr e a y) 4 (·.r) = some .device →
    exec (.ld32s e x a y) s = .fault .deviceWindow

/-- R2: what STEPPING and DEVICE_GRADE report. -/
def Obligations.SteppingAndGrade : Prop :=
  ∀ (s : State) (a : Acc) (d e : ObjDef), entryOf 0x1100 2 = some d → entryOf 0x1100 1 = some e →
    d.len = 1 ∧ s.readValue a d 0x1100 2 = 0xA1 ∧ s.readValue a e 0x1100 1 = if Config.gradeE then 1 else 2

/-- R39: SYS_RESET is a U8 that OWNER, KEEPER and HOST may write and nobody may read; every value but 0x5A is refused; and an
accepted 0x5A starts a system reset. -/
def Obligations.SystemResetCommand : Prop :=
  (∃ d, entryOf 0xD010 1 = some d ∧ d.ty = 5 ∧ d.len = 1 ∧ d.readable = false ∧
    (∀ r, bit (tabled d r) 1 = [Role.owner, .keeper, .host].contains r) ∧
    ∀ (s : State) (a : Acc) (w : Who) (v : Nat), v ≠ 0x5A → s.writeRefusal a w d 0xD010 1 v ≠ 0) ∧
  ∀ (s : State) (a : Acc), Safety.WriteDoes s a 0xD010 1 0x5A (fun t => t.sysReset 4) (exec (.sysReset a) s)

/-- R58: through entry to the coarse count, a change of its source, and exit from it, full time minus long count stays as it is, no step
is taken or left pending, and no anchor is written. -/
def Obligations.CoarseCountKeepsFullTime : Prop :=
  ∀ (s t : State) (now : Nat) (b : Bool),
    ∀ c ∈ [.tbApllLossOfLock now b, .localOscLoss now, .xoStop now, .lockConfirmed now 4], exec c s = .next t →
      t.full - t.tb.lc = s.full - s.tb.lc ∧ t.tb.ring = s.tb.ring ∧ t.tb.nextAseq = s.tb.nextAseq ∧ t.tb.pendSet = s.tb.pendSet ∧
      t.tb.pendStep = s.tb.pendStep
/-! ## The engines: arithmetic (R334, R336, R337, R338) -/

/-- R336, R338: what each register instruction of an engine that executes it leaves in gd, over words of the register width; the next
instruction follows, and nothing else changes. -/
def Obligations.EngineRegisterArithmetic : Prop :=
  ∀ (s : State) (e d a b : Nat), Safety.Inv s → Safety.Executes s e →
    let w := engWidth e
    let x := BitVec.ofNat w (s.reg e a)
    let y := BitVec.ofNat w (s.reg e b)
    let k := s.reg e b % w
    let gives (v : BitVec w) (i : Instr) : Prop := Safety.IntResult s e d v.toNat (Safety.nextPc s e) (exec i s)
    gives (x + y) (.add e d a b) ∧ gives (x - y) (.sub e d a b) ∧ gives (x &&& y) (.and e d a b) ∧
    gives (x ||| y) (.ior e d a b) ∧ gives (x ^^^ y) (.xor e d a b) ∧ gives (x <<< k) (.lsl e d a b) ∧
    gives (x >>> k) (.lsr e d a b) ∧ gives (x.sshiftRight k) (.asr e d a b) ∧
    gives (if x.slt y then 1 else 0) (.lts e d a b) ∧ gives (if x.ult y then 1 else 0) (.ltu e d a b) ∧
    gives (x * y) (.mul e d a b) ∧ gives (BitVec.ofInt w (x.toInt * y.toInt / 2 ^ w)) (.mulhs e d a b) ∧
    gives (BitVec.ofNat w (x.toNat * y.toNat / 2 ^ w)) (.mulhu e d a b) ∧
    gives (if y = 0 then BitVec.allOnes w else x.sdiv y) (.divs e d a b) ∧
    gives (if y = 0 then BitVec.allOnes w else x / y) (.divu e d a b) ∧
    gives (x.srem y) (.rems e d a b) ∧ gives (x % y) (.remu e d a b) ∧
    gives (BitVec.ofNat w (w - Nat.size x.toNat)) (.lzc e d a) ∧
    gives (BitVec.ofNat w ((List.range w).countP x.getLsbD)) (.ones e d a)

/-- R337, R338: what each immediate instruction leaves in gd: the 16-bit immediate sign-extended or zero-extended to the register
width; KHI's a field is 0, and a shift's amount is below the register width. -/
def Obligations.EngineImmediateArithmetic : Prop :=
  ∀ (s : State) (e d a imm : Nat), Safety.Inv s → Safety.Executes s e →
    let w := engWidth e
    let x := BitVec.ofNat w (s.reg e a)
    let i := (BitVec.ofNat 16 imm).signExtend w
    let z := (BitVec.ofNat 16 imm).zeroExtend w
    let k := imm % 64
    let gives (v : BitVec w) (i : Instr) : Prop := Safety.IntResult s e d v.toNat (Safety.nextPc s e) (exec i s)
    gives (x + i) (.addk e d a imm) ∧ gives (x &&& z) (.andk e d a imm) ∧ gives (x ||| z) (.iork e d a imm) ∧
    gives (x ^^^ z) (.xork e d a imm) ∧ gives (if x.slt i then 1 else 0) (.ltsk e d a imm) ∧
    gives (if x.ult i then 1 else 0) (.ltuk e d a imm) ∧
    (a % 32 = 0 → gives ((BitVec.ofNat 32 (imm % 65536 * 65536)).signExtend w) (.khi e d a imm)) ∧
    (k < w → gives (x <<< k) (.lslk e d a imm) ∧ gives (x >>> k) (.lsrk e d a imm) ∧ gives (x.sshiftRight k) (.asrk e d a imm))

/-- R336, R338: a load of `n` bytes whose aligned address leads to a place that the engine may read, other than the device window,
leaves the bytes there, extended, in its destination register, and changes nothing else. Only a servo core has the last three. -/
def Obligations.EngineLoads : Prop :=
  ∀ (s : State) (e d a imm : Nat) (l : Loc), Safety.Inv s → Safety.Executes s e →
    let w := engWidth e
    let addr := (BitVec.ofNat w (s.reg e a) + (BitVec.ofNat 16 imm).signExtend w).toNat
    let got (n : Nat) : Nat := leNat (s.readLoc e l n)
    let reads (n : Nat) : Prop := s.reach e addr n (·.r) = some l ∧ l ≠ .device
    let gives (v : BitVec w) (i : Instr) : Prop := Safety.IntResult s e d v.toNat (Safety.nextPc s e) (exec i s)
    (reads 1 → gives ((BitVec.ofNat 8 (got 1)).signExtend w) (.ld8s e d a imm) ∧
      gives ((BitVec.ofNat 8 (got 1)).zeroExtend w) (.ld8u e d a imm)) ∧
    (reads 2 → gives ((BitVec.ofNat 16 (got 2)).signExtend w) (.ld16s e d a imm) ∧
      gives ((BitVec.ofNat 16 (got 2)).zeroExtend w) (.ld16u e d a imm)) ∧
    (reads 4 → gives ((BitVec.ofNat 32 (got 4)).signExtend w) (.ld32s e d a imm)) ∧
    (isSc e = true → reads 4 → gives ((BitVec.ofNat 32 (got 4)).zeroExtend w) (.ld32u e d a imm)) ∧
    (isSc e = true → reads 8 → gives ((BitVec.ofNat 64 (got 8)).zeroExtend w) (.ld64 e d a imm)) ∧
    (isSc e = true → reads 8 → Safety.FloatResult s e d (BitVec.ofNat 64 (got 8)).toNat 0 (exec (.dld e d a imm) s))

/-- R336, R338: a store of `n` bytes whose aligned address leads to a place that the engine may write, other than the device window,
puts the low bytes of its source there, least significant first, and leaves every other byte of every memory, every register and
everything else as it was. Only a servo core has the last two. -/
def Obligations.EngineStores : Prop :=
  ∀ (s : State) (e b a imm : Nat) (l : Loc), Safety.Inv s → Safety.Executes s e →
    let w := engWidth e
    let addr := (BitVec.ofNat w (s.reg e a) + (BitVec.ofNat 16 imm).signExtend w).toNat
    let reaches (n : Nat) : Prop := s.reach e addr n (·.w) = some l ∧ l ≠ .device
    let puts (n v : Nat) (i : Instr) : Prop := ∃ t, exec i s = .next t ∧ Safety.OnlyMem s t e ∧ Safety.Stores s t e l n v ∧
      (∀ r, t.reg e r = s.reg e r) ∧ (t.eng e).pc = Safety.nextPc s e
    (reaches 1 → puts 1 (s.reg e b) (.st8 e b a imm)) ∧ (reaches 2 → puts 2 (s.reg e b) (.st16 e b a imm)) ∧
    (reaches 4 → puts 4 (s.reg e b) (.st32 e b a imm)) ∧
    (isSc e = true → reaches 8 → puts 8 (s.reg e b) (.st64 e b a imm)) ∧
    (isSc e = true → reaches 8 → puts 8 (s.freg e b) (.dst e b a imm))

/-- R338: an atomic on an aligned word of shared engine SRAM or DRAM that the engine may read and write leaves the old word in gd and
the new one in memory, and nothing else is changed; ORDER only goes on. -/
def Obligations.EngineAtomicsAndOrder : Prop :=
  ∀ (s : State) (e d a b : Nat) (l : Loc), Safety.Inv s → Safety.Executes s e →
    let w := engWidth e
    let old := leNat (s.readLoc e l (w / 8))
    let y := s.reg e b
    let shared : Prop := s.reach e (s.reg e a) (w / 8) (fun x => x.r && x.w) = some l ∧
      ((∃ o, l = .sram o) ∨ ∃ x, l = .dram x)
    let swaps (v : Nat) (i : Instr) : Prop := ∃ t, exec i s = .next t ∧ Safety.OnlyMem s t e ∧ Safety.Stores s t e l (w / 8) v ∧
      Safety.Writes s t e d old ∧ (t.eng e).pc = Safety.nextPc s e
    (shared → swaps y (.atswap e d a b) ∧ swaps ((y + old) % 2 ^ w) (.atadd e d a b) ∧ swaps (y &&& old) (.atand e d a b) ∧
      swaps (y ||| old) (.atior e d a b)) ∧
    Safety.IntResult s e 0 0 (Safety.nextPc s e) (exec (.order e) s)

/-- R337, R338: where each branch and jump goes, what CALL and GOR leave in their registers, and that nothing else changes. -/
def Obligations.EngineBranchesAndJumps : Prop :=
  ∀ (s : State) (e d a b off : Nat), Safety.Inv s → Safety.Executes s e →
    let w := engWidth e
    let x := BitVec.ofNat w (s.reg e a)
    let y := BitVec.ofNat w (s.reg e b)
    let pc : Int := (s.eng e).pc
    let near := (BitVec.ofInt w (pc + 4 * (BitVec.ofNat 16 off).toInt)).toNat
    let far := (BitVec.ofInt w (pc + 4 * (BitVec.ofNat 26 off).toInt)).toNat
    let goes (c : Bool) (i : Instr) : Prop :=
      Safety.IntResult s e 0 0 (if c then near else Safety.nextPc s e) (exec i s)
    goes (x == y) (.breq e a b off) ∧ goes (x != y) (.brne e a b off) ∧ goes (x.slt y) (.brlts e a b off) ∧
    goes (!x.slt y) (.brges e a b off) ∧ goes (x.ult y) (.brltu e a b off) ∧ goes (!x.ult y) (.brgeu e a b off) ∧
    Safety.IntResult s e 0 0 far (exec (.go e off) s) ∧
    Safety.IntResult s e 30 (Safety.nextPc s e) far (exec (.call e off) s) ∧
    Safety.IntResult s e d (Safety.nextPc s e)
      ((x + (BitVec.ofNat 16 off).signExtend w).toNat / 4 * 4) (exec (.gor e d a off) s)

/-! ## The engines: floating point, time, waits, queues, crypto and control (R336, R338–R343) -/

/-- R336, R338: what each floating-point operation of a servo core leaves in fd, with the flags that FPSTAT accumulates: values are those
of the rounded operations of Machine/Flags.lean, and what IEEE 754 leaves open is a free value; no operation traps, and nothing else changes. -/
def Obligations.EngineFloatArithmetic : Prop :=
  ∀ (s : State) (e d a b : Nat), Safety.Inv s → Safety.Executes s e → isSc e = true →
    let x := s.freg e a
    let y := s.freg e b
    let free := Config.freeValue s.freeCount
    let gives (r : Nat × Nat) (i : Instr) : Prop := Safety.FloatResult s e d (r.1 % 2 ^ 64) r.2 (exec i s)
    gives (fadd free x y) (.dadd e d a b) ∧ gives (fsub free x y) (.dsub e d a b) ∧ gives (fmul free x y) (.dmul e d a b) ∧
    gives (fdiv free x y) (.ddiv e d a b) ∧ gives (fsqrt free x) (.dsqrt e d a) ∧ gives (fmin free x y) (.dmin e d a b) ∧
    gives (fmax free x y) (.dmax e d a b) ∧ gives (x ^^^ 2 ^ 63, 0) (.dneg e d a) ∧ gives (x % 2 ^ 63, 0) (.dabs e d a) ∧
    gives (itof (BitVec.ofNat 64 (s.reg e a)).toInt) (.itod e d a) ∧ gives (s.reg e a, 0) (.gtod e d a)

/-- R336, R338: what each comparison and conversion from a floating-point register of a servo core leaves in gd, with the flags that
FPSTAT accumulates; a comparison with a NaN gives 0. -/
def Obligations.EngineFloatCompareAndConvert : Prop :=
  ∀ (s : State) (e d a b : Nat), Safety.Inv s → Safety.Executes s e → isSc e = true →
    let x := s.freg e a
    let y := s.freg e b
    let less (p q : Nat) : Bool := fvalLt (fdecode p) (fdecode q)
    let nan := isNan x || isNan y
    let gives (v flags : Nat) (i : Instr) : Prop := Safety.FloatToInt s e d v flags (exec i s)
    gives (if !nan && !less x y && !less y x then 1 else 0) (if isSnan x || isSnan y then 16 else 0) (.dceq e d a b) ∧
    gives (if !nan && less x y then 1 else 0) (if nan then 16 else 0) (.dclt e d a b) ∧
    gives (if !nan && !less y x then 1 else 0) (if nan then 16 else 0) (.dcle e d a b) ∧
    gives ((ftoi (Config.freeValue s.freeCount) x).1 % 2 ^ 64) (ftoi (Config.freeValue s.freeCount) x).2 (.dtoi e d a) ∧
    gives x 0 (.dtog e d a)

/-- R339: the time that TNOW reads at its moment (on a time engine into the pair gd, g(d+1)), the number of the newest anchor, and the
saturating sum and the maximum of two girths. -/
def Obligations.EngineTimeAndGirth : Prop :=
  ∀ (s : State) (now e d a b : Nat), Safety.Inv s →
    let u := s.atTime now
    let x := s.reg e a % 2 ^ 32
    let y := s.reg e b % 2 ^ 32
    (Safety.Executes u e → isSc e = true →
      Safety.IntResult u e d (u.nsc * 65536 + u.tb.lc % 65536) (Safety.nextPc u e) (exec (.tnow now e d) s)) ∧
    (Safety.Executes u e → isSc e = false → d % 2 = 0 →
      ∃ t, exec (.tnow now e d) s = .next t ∧ Safety.OnlyInt u t e ∧ (t.eng e).pc = Safety.nextPc u e ∧
        ∀ r, t.reg e r = if r % 32 = d % 32 ∧ d % 32 ≠ 0 then u.nsc else if r % 32 = (d + 1) % 32 then u.tb.lc % 65536 else u.reg e r) ∧
    (Safety.Executes s e → Safety.IntResult s e d (s.aseqNow % 2 ^ engWidth e) (Safety.nextPc s e) (exec (.tseq e d) s) ∧
      Safety.IntResult s e d (min 0xFFFFFFFF (x + y)) (Safety.nextPc s e) (exec (.gadd e d a b) s) ∧
      Safety.IntResult s e d (max x y) (Safety.nextPc s e) (exec (.gmax e d a b) s))

/-- R52, R339: TEXT extends the stamp record at ga and writes its TIME96 at gb with gd 0, or leaves gd 1 and writes nothing where the
stamp is stale. -/
def Obligations.EngineTextExtendsStamp : Prop :=
  ∀ (s : State) (e d a b : Nat) (x y : Loc), Safety.Inv s → Safety.Executes s e → s.textLocs e a b = some (x, y) →
    x ≠ .device → y ≠ .device →
    let v := leNat (s.readLoc e x 8)
    match s.extend (fld v 0 6) (fld v 6 1) with
    | some full => ∃ t, exec (.text e d a b) s = .next t ∧ Safety.OnlyMem s t e ∧ Safety.Stores s t e y 12 (time96 full) ∧
        Safety.Writes s t e d 0 ∧ (t.eng e).pc = Safety.nextPc s e
    | none => Safety.IntResult s e d 1 (Safety.nextPc s e) (exec (.text e d a b) s)

/-- R339, R340, R341, R342: an engine that waits keeps its registers and its program counter and shows what it waits for; what it
waits for lets it go on behind its instruction; and a wait that is over already only goes on. -/
def Obligations.EngineWaits : Prop :=
  ∀ (s : State) (now e d a : Nat), Safety.Inv s →
    let u := s.atTime now
    let waits (v : State) (w : Stall) (o : Host.Outcome State Fault Refusal) : Prop :=
      ∃ t, o = .next t ∧ Safety.OnlyStall v t e ∧ (t.eng e).stall = w
    let goesOn (v : State) : State := v.onEng e (fun g => { g with stall := .none, pc := g.pc + 4 })
    (Safety.Executes u e → if u.reached (u.reg e a % 2 ^ 32) then Safety.IntResult u e 0 0 (Safety.nextPc u e) (exec (.twait now e a) s)
      else waits u (.twait (u.reg e a % 2 ^ 32)) (exec (.twait now e a) s)) ∧
    (∀ x, (u.eng e).stall = .twait x → exec (.twaitResume now e) s = .next (if u.reached x && !u.engGated e then goesOn u else u)) ∧
    (∀ k dl, (u.eng e).stall = .qwait k dl → exec (.qwaitResume now e) s =
      .next (if (!(u.qRecs k).isEmpty || dl.any u.reached) && !u.engGated e then goesOn u else u)) ∧
    (Safety.Executes s e → (s.eng e).program = false → ∀ x ∈ s.engs.done, s.engs.done.find? (fun x => x.2.1 == s.reg e a % 65536) = some x →
      Safety.IntResult { s with engs := { s.engs with done := s.engs.done.erase x } } e d (x.2.2 % 2 ^ engWidth e) (Safety.nextPc s e)
        (exec (.cwait e d a) s)) ∧
    (Safety.Executes s e → (s.eng e).program = false → s.engs.done.find? (fun x => x.2.1 == s.reg e a % 65536) = none →
      waits s (.cwait d (s.reg e a % 65536)) (exec (.cwait e d a) s)) ∧
    (Safety.Executes s e → ∃ t, exec (.idle e) s = .next t ∧ Safety.OnlyStall s t e ∧ (t.eng e).stall = .idle ∧ (t.eng e).events = 0) ∧
    ((s.eng e).stall = .idle → exec (.idleWake e) s = .next (if (s.eng e).events != 0 && !s.engGated e then
      s.onEng e (fun g => { g with stall := .none, pc := g.pc + 4, events := 0 }) else s))

/-- R340: QWAIT goes on at once when its queue holds a record or its deadline has come, and waits otherwise; QSTAT counts the records;
QPOP of an empty queue leaves 0, and otherwise takes the oldest record to the address in gb and leaves its length, with bit 31 as
the mark of earlier drops. -/
def Obligations.EngineQueueReads : Prop :=
  ∀ (s : State) (now e d a b : Nat), Safety.Inv s →
    let u := s.atTime now
    let q := s.reg e a % 256
    let dl (v : State) : Option Nat := if b % 32 = 0 then none else some (v.reg e b % 2 ^ 32)
    (Safety.Executes u e → u.qOk e (u.reg e a % 256) = true →
      if !(u.qRecs (u.reg e a % 256)).isEmpty || (dl u).any u.reached then
        Safety.IntResult u e 0 0 (Safety.nextPc u e) (exec (.qwait now e a b) s)
      else ∃ t, exec (.qwait now e a b) s = .next t ∧ Safety.OnlyStall u t e ∧ (t.eng e).stall = .qwait (u.reg e a % 256) (dl u)) ∧
    (Safety.Executes s e → s.qOk e q = true →
      Safety.IntResult s e d ((s.qRecs q).length % 2 ^ engWidth e) (Safety.nextPc s e) (exec (.qstat e d a) s) ∧
      (s.qRecs q = [] → Safety.IntResult s e d 0 (Safety.nextPc s e) (exec (.qpop e d a b) s)) ∧
      ∀ r mark rest l, s.qRecs q = (r, mark) :: rest → s.popLoc e (s.reg e b) r.length = some l →
        ∃ t, exec (.qpop e d a b) s = .next t ∧ t.qRecs q = rest ∧ (∀ k, k ≠ q → t.qRecs k = s.qRecs k) ∧
          Safety.OnlyMem { s with engs := { s.engs with queues := t.engs.queues, doorbell := t.engs.doorbell } } t e ∧
          Safety.Stores s t e l r.length (leNat r) ∧ Safety.Writes s t e d (r.length % 2 ^ 24 + (if mark then 2 ^ 31 else 0)) ∧ (t.eng e).pc = Safety.nextPc s e)

/-- R340, R347: QPUSH of a queue that is not full puts gb behind its records and leaves 0; of a full one it leaves 1 and the records
stay. -/
def Obligations.EngineQueuePush : Prop :=
  ∀ (s : State) (e d a b : Nat), Safety.Inv s → Safety.Executes s e →
    let q := s.reg e a % 256
    let depth := if q = 0xC8 then 64 else if q < 0xC0 then Config.queueDepth q else 256
    let len := if q = 0xC8 then 4 else engWidth e / 8
    s.qOk e q = true →
    (((s.qRecs q).length < depth → ∃ t mark, exec (.qpush e d a b) s = .next t ∧
      t.qRecs q = s.qRecs q ++ [(leBytes len (s.reg e b), mark)] ∧ (∀ k, k ≠ q → t.qRecs k = s.qRecs k) ∧
      t = { s with freeCount := t.freeCount, dict := t.dict, engs := { s.engs with
        eng := t.engs.eng, queues := t.engs.queues, doorbell := t.engs.doorbell } } ∧
      Safety.Writes s t e d 0 ∧ (t.eng e).pc = Safety.nextPc s e) ∧
    (depth ≤ (s.qRecs q).length → Safety.IntResult s e d 1 (Safety.nextPc s e) (exec (.qpush e d a b) s)))

/-- R341, R384: CSUB of a descriptor in DMEM submits its job under a tag, which gd takes, or leaves 0xFFFF where the submission queue is full;
CRAND takes a value of the random source, which is free; an accepted job whose source can be read writes its result at DST, fills its target
slot, or finds what it checks not authentic, and leaves its queue; and its status goes to the CWAIT that waits for it, or waits for one. -/
def Obligations.EngineCrypto : Prop :=
  ∀ (s : State) (e d a tag : Nat) (ok : Bool) (b : List Byte), Safety.Inv s →
    (Safety.Executes s e → (s.eng e).program = false →
      (∀ o, s.locate e (s.reg e a) 32 (·.r) = some (.dmem o) → s.vault.jobs.length < Config.jobQueueDepth →
        ∃ t j, exec (.csub e d a) s = .next t ∧ t.vault = { s.vault with jobs := s.vault.jobs ++ [j] } ∧
          (let v := leNat (memRead (s.eng e).dmem o 32)
           j.engine = e ∧ j.tag = Config.jobTag s.freeCount % 0xFFFF ∧ j.op = fld v 0 1 ∧ j.slot = fld v 2 2 ∧ j.aadLen = fld v 4 4 ∧
           j.srcLen = fld v 8 4 ∧ j.src = fld v 16 8 ∧ j.dst = fld v 24 8 ∧ j.key = s.slot j.slot) ∧
          Safety.OnlyInt { s with vault := t.vault } t e ∧ Safety.Writes s t e d (Config.jobTag s.freeCount % 0xFFFF) ∧
          (t.eng e).pc = Safety.nextPc s e) ∧
      (∀ o, s.locate e (s.reg e a) 32 (·.r) = some (.dmem o) → Config.jobQueueDepth ≤ s.vault.jobs.length →
        Safety.IntResult s e d 0xFFFF (Safety.nextPc s e) (exec (.csub e d a) s)) ∧
      Safety.IntResult s e d (Config.freeValue s.freeCount % 2 ^ engWidth e) (Safety.nextPc s e) (exec (.crand e d) s)) ∧
    (∀ j, s.coreRuns = true → s.vault.jobs.find? (·.tag == tag) = some j → s.vault.jobs.find? (·.slot == j.slot) = some j →
      (s.eng j.engine).stall = .none → j.verdict ≠ 0 → ∃ t : State, exec (.cryptoJobDone tag ok) s = .next (t.erasesDue.sendChanged s) ∧
        t = { s with vault := { s.vault with jobs := s.vault.jobs.erase j }, engs := t.engs } ∧
        t.engs.done = s.engs.done ++ [(j.engine, tag, j.verdict)]) ∧
    (∀ j, s.coreRuns = true → s.vault.jobs.find? (·.tag == tag) = some j → s.vault.jobs.find? (·.slot == j.slot) = some j → j.verdict = 0 →
      let ends (w : State) (status : Nat) : State := (((({ w with vault := { w.vault with jobs := w.vault.jobs.erase j } } : State).onEng
        j.engine (Eng.event 2)).wakeCwait j.engine tag status).erasesDue).sendChanged s
      let out (op : Nat) := leBytes (jobOutLen j) (Config.cipher op j.key.key (leNat b))
      let checks := (j.op = 2 ∨ j.op = 4 ∨ j.op = 6 ∨ j.op = 9) ∧ ok = false
      (s.vault.latch = true → exec (.cryptoJobDone tag ok) s = .next (ends s 3)) ∧
      (s.vault.latch = false →
        (j.op = 8 → ∀ l, s.locate j.engine j.dst (44 + algLen (s.slot j.other).alg) (·.w) = some l → exec (.cryptoJobDone tag ok) s = .next (ends
          (s.writeLoc j.engine l (leBytes (44 + algLen (s.slot j.other).alg) (s.blobOf j.other j.key.key 0))) 0)) ∧
        (j.op ≠ 8 → s.jobBytes j.engine j.src j.srcLen = none → exec (.cryptoJobDone tag ok) s = .next (ends s 4)) ∧
        (j.op ≠ 8 → s.jobBytes j.engine j.src j.srcLen = some b →
          (checks → exec (.cryptoJobDone tag ok) s = .next (ends s 1)) ∧
          (¬ checks → j.op = 9 → exec (.cryptoJobDone tag ok) s =
            .next (ends (s.loadSlot j.other (Config.keyOf (leNat b)) (bit (fld (leNat b) 4 1) 0)) 0)) ∧
          (j.op = 10 → exec (.cryptoJobDone tag ok) s =
            .next (ends (s.loadSlot j.other (Config.keyOf (Config.cipher 10 j.key.key (leNat b))) (bit j.key.flags 0)) 0)) ∧
          (¬ checks → j.op ≠ 9 → j.op ≠ 10 →
            (jobOutLen j = 0 → exec (.cryptoJobDone tag ok) s = .next (ends s 0)) ∧
            (jobOutLen j ≠ 0 → ∀ l, s.locate j.engine j.dst (jobOutLen j) (·.w) = some l →
              exec (.cryptoJobDone tag ok) s = .next (ends (s.writeLoc j.engine l (out j.op)) 0)) ∧
            (jobOutLen j ≠ 0 → s.locate j.engine j.dst (jobOutLen j) (·.w) = none → exec (.cryptoJobDone tag ok) s = .next (ends s 4)))))) ∧
    ((s.eng e).stall = .none → s.wakeCwait e tag a = { s with engs := { s.engs with done := s.engs.done ++ [(e, tag, a)] } }) ∧
    ((s.eng e).stall = .cwait d tag → s.wakeCwait e tag 0 = (s.onEng e (fun g => { g with stall := .none, pc := g.pc + 4 })).setReg e d 0) ∧
    (s.coreRuns = false ∨ s.vault.jobs.find? (·.tag == tag) = none →
      exec (.cryptoJobDone tag ok) s = .next (s.erasesDue.sendChanged s)) ∧
    (s.vault.erasing = [] → s.erasesDue = s) ∧ (s.managing = false → ∀ t : State, t.domain = s.domain → t.dict = s.dict → t.sendChanged s = t)

/-- R332, R342, R349: an engine that does not run (reset, halted, stalled, gated, or with no program) executes no instruction: each
of them leaves every state as it is. -/
def Obligations.StoppedEngineExecutesNothing : Prop :=
  ∀ (s : State) (e d a b imm now : Nat),
    (s.engRuns e = false → ∀ i ∈ Safety.engineInstrs e d a b imm, exec i s = .next s) ∧
    ((s.atTime now).engRuns e = false →
      ∀ i ∈ [.tnow now e d, .twait now e a, .qwait now e a b, .wrc now e a imm], exec i s = .next (s.atTime now))

/-- R335, R338, R341, R342: what takes an engine into its trap handler, and what the handler finds: STOP and DBG on an engine outside the
paddock; a program counter outside executable memory; a servo core's instruction on a time engine; a monitor-only instruction in
program mode; a load off its alignment or outside the map; ENGINE_TRAP where firmware recovers; and TRET returns to TRAPPC. -/
def Obligations.EngineTraps : Prop :=
  ∀ (s : State) (now e d a b imm c : Nat), Safety.Inv s → s.inPaddock e = false →
    (s.engRuns e = true → s.pcOk e = false → ∀ i ∈ Safety.engineInstrs e d a b imm, Safety.Enters s e 2 (exec i s)) ∧
    (Safety.Executes s e →
      Safety.Enters s e 5 (exec (.stop e) s) ∧ Safety.Enters s e 6 (exec (.dbg e) s) ∧
      Safety.IntResult s e 0 0 ((s.eng e).trapPc % 2 ^ engWidth e) (exec (.tret e) s) ∧
      (isSc e = false → ∀ i ∈ [.dadd e d a b, .dsqrt e d a, .dceq e d a b, .dtoi e d a, .itod e d a, .dld e d a imm, .dst e b a imm],
        Safety.Enters s e 1 (exec i s)) ∧
      ((s.eng e).program = true → ∀ i ∈ [.csub e d a, .cwait e d a, .crand e d], Safety.Enters s e 3 (exec i s)) ∧
      (s.effAddr e a imm % 2 ≠ 0 → Safety.Enters s e 2 (exec (.ld16u e d a imm) s) ∧ Safety.Enters s e 2 (exec (.st16 e b a imm) s)) ∧
      (s.locate e (s.effAddr e a imm) 1 (·.r) = none → Safety.Enters s e 2 (exec (.ld8u e d a imm) s)) ∧
      ∀ n, s.csrCause e (imm % 65536) false = n → n ≠ 0 → Safety.Enters s e n (exec (.rdc e d imm) s)) ∧
    (let u := s.atTime now
     u.engLive e = true → 0 < c → c ≤ 6 → Safety.Enters u e c (exec (.engineTrap now e c true) s))

/-- R342, R343, R350: STOP ends a tack program cleanly: its engine enters state 5 and keeps cause and address, and DBG halts it for the
debugger in life-cycle state DEBUG. -/
def Obligations.TackProgramStops : Prop :=
  ∀ (s : State) (e : Nat), Safety.Inv s → Safety.Executes s e → s.inPaddock e = true → 24 ≤ e → e < 32 →
    (∃ t, exec (.stop e) s = .next t ∧ (t.tackOf (e - 24)).state = 5 ∧ (t.tackOf (e - 24)).cause = 5 ∧
      (t.tackOf (e - 24)).trapPc = (s.eng e).pc ∧ t.engRuns e = false) ∧
    (s.vault.lc = .debug → ∃ t, exec (.dbg e) s = .next t ∧ (t.eng e).halted = true ∧ (t.eng e).cause = 6 ∧ (t.eng e).trapPc = (s.eng e).pc ∧
      t.engRuns e = false)

/-- R343, R364, R365, R368: what RDC reads from each control register of an engine in monitor mode, and what WRC writes to each; a read
of PMCYC on a time engine latches the high half, a chained pair is read low half first, and PMOVF is cleared before what the
instruction itself counts. -/
def Obligations.EngineControlRegisters : Prop :=
  ∀ (s : State) (now e d a : Nat), Safety.Inv s →
    let g := s.eng e
    let reads (n v : Nat) : Prop := Safety.IntResult s e d (v % 2 ^ engWidth e) (Safety.nextPc s e) (exec (.rdc e d n) s)
    (Safety.Executes s e → g.program = false →
      reads 0 e ∧ reads 1 0 ∧ reads 2 g.trapPc ∧ reads 3 g.cause ∧ reads 4 g.trapBase ∧ (isSc e = false → reads 5 g.dwin) ∧
      (isSc e = true → reads 6 g.fpstat) ∧ reads 8 g.evmask ∧
      (∀ i < 8, reads (0x10 + 2 * i) (g.prot.getD i Region.init).base ∧ reads (0x11 + 2 * i) (g.prot.getD i Region.init).limit) ∧
      reads 0x100 (if isSc e then g.pmc.cyc else g.pmc.cyc % 2 ^ 32) ∧ reads 0x101 g.pmc.cycH ∧
      (∀ i < 8, reads (0x110 + i) (g.pmc.sel.getD i 0)) ∧ (∀ i < 4, reads (0x108 + 2 * i) (g.pmc.count.getD (2 * i) 0) ∧
        reads (0x109 + 2 * i) ((g.pmc.shadow.getD i none).getD (g.pmc.count.getD (2 * i + 1) 0))) ∧ reads 0x118 g.pmc.ctl ∧ reads 0x119 g.pmc.ovf ∧ reads 0x11A g.pmc.smpCtl ∧ reads 0x11B g.pmc.smpSel) ∧
    (let u := s.atTime now
     let v := u.reg e a
     let writes (n : Nat) (f : Eng → Eng) : Prop := ∃ p k, exec (.wrc now e a n) s =
       .next (({ u with freeCount := k } : State).onEng e (fun g => f { g with pmc := p, pc := Safety.nextPc u e }))
     Safety.Executes u e → (u.eng e).program = false →
       writes 2 (fun g => { g with trapPc := v }) ∧ writes 3 (fun g => { g with cause := v % 256 }) ∧
       writes 4 (fun g => { g with trapBase := v }) ∧ (isSc e = false → writes 5 (fun g => { g with dwin := v / 2 ^ 20 * 2 ^ 20 })) ∧
       (isSc e = true → writes 6 (fun g => { g with fpstat := v % 32 })) ∧ writes 7 (fun g => { g with kicked := u.tb.lc }) ∧
       writes 8 (fun g => { g with evmask := v % 8 }) ∧
       (∀ i < 8, writes (0x10 + 2 * i) (fun g => { g with prot := upd (fun x => { x with base := v }) i g.prot }) ∧
         writes (0x11 + 2 * i) (fun g => { g with prot := upd (fun x => { x with limit := v }) i g.prot })) ∧
       (∀ i < 8, writes (0x108 + i) (fun g => { g with pmc := { g.pmc with count := g.pmc.count.set i (v % 2 ^ 32) } })) ∧
       writes 0x100 (fun g => { g with pmc := { g.pmc with cyc := if isSc e then v else g.pmc.cyc / 2 ^ 32 * 2 ^ 32 + v % 2 ^ 32 } }) ∧
       (∀ i < 8, writes (0x110 + i) (fun g => { g with pmc := { g.pmc with
         sel := g.pmc.sel.set i ((if v % 256 ≤ 0x18 then v % 256 else 0) + (if i % 2 = 1 ∧ bit v 8 = true then 256 else 0)) } })) ∧
       writes 0x118 (fun g => { g with pmc := { g.pmc with
         ctl := ofBits [bit v 0, bit v 1, false, bit v 3], cyc := if bit v 2 then 0 else g.pmc.cyc
         count := if bit v 2 then List.replicate 8 0 else g.pmc.count } }) ∧
       exec (.wrc now e a 0x119) s = .next ((u.onEng e (fun g => { g with pmc := { g.pmc with
         ovf := (List.range 8).foldl (fun o i => if bit v i then setBit o i false else o) g.pmc.ovf } })).advance e (wordK 0x3C 0 a 0x119) []) ∧
       writes 0x11A (fun g => { g with pmc := { g.pmc with smpCtl := v % 2 ^ 24 + (if bit v 31 then 2 ^ 31 else 0) } }) ∧
       writes 0x11B (fun g => { g with pmc := { g.pmc with smpSel := if v % 256 ≤ 0x18 then v % 256 else 0 } }))

/-- R342, R345, R348, R349, R350: a watchdog that has run out traps its engine, and firmware that recovers enters its handler; the loader
puts the image of a reset Gelusk engine back; a verified tack image starts in program mode at its entry point, and one that fails leaves
its reason and state 7. -/
def Obligations.EngineRecovery : Prop :=
  ∀ (s : State) (now e j : Nat) (h k : Bool), Safety.Inv s →
    let u := s.atTime now
    (u.engLive e = true → (u.eng e).status = .firmware → Safety.Enters u e 4 (exec (.engineWatchdogExpire now e true) s)) ∧
    (e < 24 ∨ (32 ≤ e ∧ e < 36) → (u.eng e).status = .inReset → u.start.inReset = false → u.start.porHeld = false → u.faults.handling = none →
      exec (.engineRestore now e) s = .next (u.onEng e (fun g => { g with status := .firmware, kicked := u.tb.lc }))) ∧
    (j < 8 → (u.tackOf j).state = 2 → u.tackVerdict (u.tackOf j).image h k = 1 → ∃ t, exec (.tackLoadDone now j h k) s = .next t ∧
      (t.eng (24 + j)).status = .paddock ∧ (t.eng (24 + j)).program = true ∧ (t.eng (24 + j)).pc = u.imageField (u.tackOf j).image 12 4 ∧
      (t.eng (24 + j)).dwin = u.paddockBase ∧ (t.tackOf j).state = 3 ∧ (t.tackOf j).loadStatus = 1 ∧ ∀ n, n ≠ 24 + j → t.eng n = u.eng n) ∧
    (j < 8 → (u.tackOf j).state = 2 → u.tackVerdict (u.tackOf j).image h k ≠ 1 → ∃ v : State,
      exec (.tackLoadDone now j h k) s = .next (v.raise 0x0D03 j) ∧ (v.eng (24 + j)).imem = [] ∧ (v.eng (24 + j)).dmem = [] ∧
      (v.eng (24 + j)).status = .paddock ∧ (v.tackOf j).state = 7 ∧ (v.tackOf j).loadStatus = u.tackVerdict (u.tackOf j).image h k ∧
      ∀ n, n ≠ 24 + j → v.eng n = u.eng n)

/-- R369, R371, R372: an instruction that the sample counter has armed joins the engine's FIFO of 16, or is counted as dropped; and PC_DUMP
waits for PC_DUMP_PERIOD, takes the writes that waited for it, counts what it withholds while work class W4 is gated, and otherwise puts one record for every engine of
PC_DUMP_MASK into the ring. -/
def Obligations.SamplesAndDump : Prop :=
  ∀ (s : State) (now e pc word lat st : Nat) (tr : Bool),
    let u := s.atTime now
    let p := (u.eng e).pmc
    (u.engLive e = true → bit p.smpCtl 31 = true → p.fifo.length < 16 → ∃ x : Sample,
      exec (.instructionSample now e pc word lat st tr) s = .next (u.onEng e (fun g =>
        { g with pmc := { g.pmc with fifo := g.pmc.fifo ++ [x], armed := false, smpCount := 0 } })) ∧
      x.pc = pc ∧ x.word = word ∧ x.latency = min 65535 lat ∧ x.trapped = tr ∧ x.nsc = u.nsc ∧ x.aseq = u.aseqNow ∧ x.cycle = p.cyc) ∧
    (u.engLive e = true → bit p.smpCtl 31 = true → 16 ≤ p.fifo.length →
      exec (.instructionSample now e pc word lat st tr) s = .next (u.onEng e (fun g =>
        { g with pmc := { g.pmc with dropped := g.pmc.dropped + 1, armed := false, smpCount := 0 } }))) ∧
    (u.engLive e = false ∨ bit p.smpCtl 31 = false → exec (.instructionSample now e pc word lat st tr) s = .next u) ∧
    (u.pcDumpSize = 0 ∨ u.ms < u.dump.lastDump + u.pcDumpPeriod → exec (.pcDump now) s = .next u) ∧
    (u.pcDumpSize ≠ 0 → u.dump.lastDump + u.pcDumpPeriod ≤ u.ms →
      let t := u.takeLate dumpKey
      (t.start.dramStatus ≠ 2 → exec (.pcDump now) s = .next { t with dump := { t.dump with lastDump := t.ms } }) ∧
      (t.start.dramStatus = 2 → bit t.engs.gated 4 = true → exec (.pcDump now) s =
        .next { t with dump := { t.dump with lastDump := t.ms, suspended := bumpBy t.dump.suspended (popcount 36 t.pcDumpMask) } }) ∧
      (t.start.dramStatus = 2 → bit t.engs.gated 4 = false → bitList 36 t.pcDumpMask = [e] → t.pcSampleMask = 0 → t.dump.lossDue = 0 →
        t.dumpUsed < t.pcDumpSize → ∃ v,
        exec (.pcDump now) s = .next v ∧ v.dump = { t.dump with lastDump := t.ms, producer := bump t.dump.producer, seq := bump t.dump.seq } ∧
          v.engs = { t.engs with dram := memWrite t.engs.dram (t.pcDumpBase + 64 * (t.dump.producer % t.pcDumpSize)) (t.snapshotRec t.dump.seq e) }))

/-- R29, R47, R64, R92, R108, R142, R230, R541: what an accepted write of the timing chapters does. TIME_SET waits for the next whole
second, or the one after it where fewer than 10 ms are left; a change of UTC_OFFSET_MODE takes UTC_OFFSET_VALID away; a write of SOAK_TIME
waits for the selector, where one that changes it restarts the soak; IN_ELEC waits for the anchor; a TIU channel starts again with nothing
captured; GIRTH_LIMIT judges TIME_VALID again; what is relayed to an atomic source waits for the steering second, which drops it outside
protocol 2; and a relock puts its PLL out of lock. -/
def Obligations.TimingWrites : Prop :=
  ∀ (s : State) (a : Acc) (n v sub : Nat),
    let does (idx sub v : Nat) (f : State → State) (i : Instr) : Prop := Safety.WriteDoes s a idx sub v f (exec i s)
    does 0x2001 1 v (fun t =>
      let sec := v / 2 ^ 48
      let close := 65536000000000 - t.full % 65536000000000 < 655360000000
      { t with tb := { t.tb with pendSet := some (if close then (sec + 1, 1) else (sec, 0)) } }) (.timeSet a v) ∧
    does 0x2100 3 v (fun t =>
      let u := t.put 0x2100 3 v
      if v = t.utcOffsetMode then u else { u with tb := { u.tb with utcValid := false } }) (.utcOffsetModeWrite a v) ∧
    (n < 17 → does (0x3100 + n) 8 v (fun t => t.putLate (0x3100 + n) 8 v) (.soakTimeWrite a n v) ∧
      ∀ old t : State, old.refEffect t ((0x3100 + n) * 256 + 8) = if old.soakTime n = t.soakTime n then t else
        t.onRef n (fun r => { r with soakLeft := if r.state = .soaking then t.soakTime n else r.soakLeft })) ∧
    (n < 8 → does (0x3100 + n) 14 v (fun t =>
      let u := t.put (0x3100 + n) 14 v
      { u with sel := { u.sel with elecDue := u.sel.elecDue.filter (· != n) ++ [n] } }) (.inElecWrite a n v)) ∧
    (n < 32 → sub ≤ 3 → does (0x3900 + n) sub v (fun t => (t.put (0x3900 + n) sub v).onChan n (fun x =>
      { x with edge := 0, ext := 0, window := [], fifo := [], quiet := t.tb.lc, lastStamp := none, gapDue := false, glitchDue := false,
               estStatus := x.estStatus / 4 * 4, forcedN := if sub = 2 then 0 else (t.chan n).forcedN })) (.tiuChannelReconfig a n sub v)) ∧
    does 0x2810 1 v (fun t => (t.put 0x2810 1 v).revalid) (.girthLimitWrite a v) ∧
    does 0x4440 7 v (fun t => { t with atomic := { t.atomic with relayTx := some v } }) (.atomicRelayTx a v) ∧
    does 0x4440 8 v (fun t => { t with atomic := { t.atomic with relayStatus := some v } }) (.atomicRelayStatus a v) ∧
    (∀ t : State, (t.takeRelay.atomic.relayTx = none ∧ t.takeRelay.atomic.relayStatus = none) ∧
      (t.atomicProto ≠ 2 → t.takeRelay = { t with atomic := { t.atomic with relayTx := none, relayStatus := none } }) ∧
      (t.atomicProto = 2 → t.atomic.relayTx = some v → t.takeRelay.atomic.sent = (leBytes 64 v).map (·.toNat)) ∧
      (t.atomicProto = 2 → t.atomic.relayStatus = some v → t.takeRelay.atomic.state = v ∧ t.takeRelay.atomic.lastStatus = t.tb.lc)) ∧
    does 0xD102 1 1 (fun t =>
      (({ t with clk := { t.clk with relockC := true } } : State).underrun).setGroup 3 (if t.gateOnRelock then 3 else 2)) (.pllRelockCpll a) ∧
    does 0xD102 1 2 (fun t =>
      ({ t with clk := { t.clk with relockE := true } } : State).setGroup 4 (if t.gateOnRelock then 3 else 2)) (.pllRelockEpll a)

/-- R157, R198, R202, R209, R235, R245, R253, R254, R263, R324, R327, R331: what an accepted write of the output, receiver, lane and
NTP chapters does. SYNTH_COMMIT waits for an anchor at least 10 ms away; a GIF write idles the channels of its input; GN_ENABLE starts
or stops the receiver; a survey restart drops the position; QUAD_APPLY puts every port of the quad out of its link before the new mode, in which its enabled lanes begin anew;
a retrain and a lane that is disabled take the whole port; a peer lane that is preferred takes over where its link is up; a calibration
loop begins; and a new NTP prefix or rekey empties the hash table. -/
def Obligations.OutputLaneAndServiceWrites : Prop :=
  ∀ (s : State) (a : Acc) (n v sub : Nat),
    let does (idx sub v : Nat) (f : State → State) (i : Instr) : Prop := Safety.WriteDoes s a idx sub v f (exec i s)
    let rekeyed (t : State) : State := { t with ntp := { t.ntp with buckets := [], hashEpoch := t.ntp.hashEpoch + 1 } }
    does 0x4840 1 v (fun t =>
      let close := 65536000000000 - t.full % 65536000000000 < 655360000000
      { t with synth := { t.synth with pending := some (v, ofBits ((List.range 16).map (t.included v)),
        if close then bump t.tb.nextAseq else t.tb.nextAseq) } }) (.synthCommit a v) ∧
    (n < 3 → 2 ≤ sub → sub ≤ 6 → does (0x5010 + n) sub v (fun t =>
      let u := t.putLate (0x5010 + n) sub v
      if u.gnRuns then u else u.takeGnss) (.gifConfigWrite a n sub v)) ∧
    does 0x5000 1 v (fun t => let u := t.put 0x5000 1 v; if u.gnEnable then u.gnStart false else opLossOfSignal 16 u.gnStop) (.gnEnableWrite a v) ∧
    does 0x5001 6 0x5A (fun t =>
      { t with gnss := { t.gnss with position := none, surveySum := (0, 0, 0), surveyCount := 0, surveyTime := 0, surveyLeft := t.gnSurveyTime, posMismatch := 0 } })
      (.gnSurveyRestart a) ∧
    (n < 8 → does (0x6000 + n) 4 0x5A (fun t =>
      let m := t.quadMode n
      let u := (t.quadPorts n).foldl (fun u p => u.portReset p (if m = 0 then 0 else 1)) t
      let off := (u.quad n).mode = 0
      let u := u.onQuad n (fun x => { x with mode := m, fec := u.quadFec n, state := if m = 0 then 0 else if x.refLost || x.state = 3 then 3 else 1 })
      let u := if off && m != 0 && (u.quad n).refLost then u.raise 0x0009 n else u
      let u := (u.quadPorts n).foldl (fun u p => (u.portLanes p).foldl
        (if u.portEnabled p then State.beginLane else fun u l => u.onLane l (fun x => { x with state := 0 })) u) u
      [8, 9, 10, 11].foldl (fun u k => if u.seLane k / 4 = n then u.fixRate k else u) u.wakeTiming) (.quadApply a n)) ∧
    (n < 32 → does (0x6100 + n) 13 0x5A (fun t =>
      let p := t.portOf n
      if t.linkUp p then
        (((t.portLanes p).foldl (fun u l => u.onLane l (fun x => { x with retrains := bump x.retrains })) t).downLanes p 1).holdPort p
      else t) (.laneRetrain a n)) ∧
    (n < 32 → does (0x6100 + n) 1 0 (fun t => let u := t.put (0x6100 + n) 1 0; u.portReset (u.portOf n) 0) (.laneDisable a n)) ∧
    does 0x6300 2 v (fun t =>
      let u := t.put 0x6300 2 v
      if u.net.peerActive < 2 ∧ u.net.peerActive ≠ u.peerPrefer ∧ u.peerUp u.peerPrefer = true then u.peerSwitch u.peerPrefer else u) (.peerPreferWrite a v) ∧
    (n < 32 → does (0x6400 + n) 3 0x5A (fun t => t.onLane n (fun x =>
      { x with calStatus := 1, calSent := 0, calNext := t.tb.lc, calTx := [], calGot := 0, calSum := 0, calSq := 0 })) (.portCalLoop a n)) ∧
    does 0x7801 8 0x5A rekeyed (.ntpHashRekey a) ∧
    (sub = 1 ∨ sub = 2 → does 0x7801 sub v (fun t => rekeyed (t.put 0x7801 sub v)) (.ntpPrefixWrite a sub v)) ∧
    does 0x7820 3 v (fun t => { t with ntp := { t.ntp with mintProducer := v } }) (.ntsMintProducer a v)

/-- R345, R347, R350, R351, R363, R375: what an accepted write of the engine chapters does, and what the reads that change something
do. TACK_LOAD resets the engine and begins the load, and is ignored where the region or the array does not admit it; TACK_STOP puts a
loaded array back to state 1; PADDOCK_ENABLE and TACK_ENGINES take the programs off what they turn off; a raise of GOV_LEVEL_MIN moves
the level at once; the doorbell gives its oldest entry; PC_READ takes a snapshot of its engine. -/
def Obligations.EngineWrites : Prop :=
  ∀ (s : State) (a : Acc) (n v : Nat),
    let does (idx sub v : Nat) (f : State → State) (i : Instr) : Prop := Safety.WriteDoes s a idx sub v f (exec i s)
    (n < 8 →
      does (0x8020 + n) 1 v (fun t =>
        if t.tackLoadOk n v then
          (t.onEng (24 + n) (Eng.reset .inReset 0)).onTack n (fun x => { x with state := 2, loadStatus := 0, image := v })
        else t) (.tackLoad a n v) ∧
      does (0x8020 + n) 5 0x5A (fun t =>
        if (t.tackOf n).state = 0 then t
        else (t.onEng (24 + n) (Eng.reset .paddock (t.eng (24 + n)).lastCause)).onTack n (fun x => { x with state := 1 })) (.tackStop a n)) ∧
    does 0x8010 1 v (fun t =>
      let u := t.put 0x8010 1 v
      let u := if v = 0 then (List.range 8).foldl (fun u j => u.tackLeave j 1) u else u
      if u.start.dramStatus ≠ 2 then u
      else if v = 0 then u.wipePaddock
      else { u with start := { u.start with paddockWipe := u.paddockSize != 0 } }) (.paddockEnableWrite a v) ∧
    does 0x8010 2 v (fun t => (List.range 8).foldl (fun u j =>
      if bit t.tackEngines j = bit v j then u
      else if bit v j then (u.onEng (24 + j) (fun g => { g with status := .paddock })).onTack j (fun x => { x with state := 1 })
      else u.tackLeave j 0) (t.put 0x8010 2 v)) (.tackEnginesWrite a v) ∧
    does 0x8C00 12 v (fun t =>
      let u := t.put 0x8C00 12 v
      if v ≤ u.gov.level then u
      else
        let u := u.setLevel v
        { u with gov := { u.gov with cause := u.govCause 0, unparked := u.unparkedNow } }) (.govLevelMinWrite a v) ∧
    (let u := s.arrive a
     (∀ d, Safety.MayRead s a 0x8011 1 d → exec (.tackDoorbellRead a) s =
       .next (Safety.answers { u with engs := { u.engs with doorbell := u.engs.doorbell.tail } } a.path 0 (u.engs.doorbell.headD 0))) ∧
     (∀ d, n < 36 → Safety.MayRead s a (0x8900 + n) 1 d →
       let k := { u with freeCount := u.freeCount + 1 }
       let record := k.snapshotRec (Config.freeValue u.freeCount) n
       exec (.pcRead a n) s = .next (Safety.answers { k with dump := { k.dump with read := some (n, record) } } a.path 0
         (leNat record % 2 ^ (8 * d.len)))))

/-- R377, R381, R383, R384, R390, R391, R394, R401: what an accepted write of the vault does. A life-cycle transition puts its fuse, and
once it is done the part goes through a power-on reset into the new state with its slots empty and its audit chain at 0; a slot is
defined, undefined or closed to export; a key is staged in clear in mode 1, switched to active by a commit, abandoned, or erased; an
export that its wrapping slot does not admit ends with status 7; and a cleared tamper latch resets the part. -/
def Obligations.VaultWrites : Prop :=
  ∀ (s : State) (a : Acc) (n v c w : Nat),
    let does (idx sub v : Nat) (f : State → State) (i : Instr) : Prop := Safety.WriteDoes s a idx sub v f (exec i s)
    (∀ p ∈ [(1, Instr.lcToMaker a c), (2, .lcToOwned a c), (3, .lcToField a c), (4, .lcToDebug a c), (5, .lcToRetired a c)],
      does 0xA000 2 (lePack [(1, p.1), (3, 0), (96, c)]) (fun t =>
        let u := { t with vault := { t.vault with makerRoot := t.vault.makerRoot || p.1 == 1, ownerRoot := t.vault.ownerRoot || p.1 == 2 } }
        if a.outcome = 0 then u.lcDone p.1
        else if a.outcome = 2 then { u with vault := { u.vault with keyOp := some (0, 0xFFFF) } } else u) p.2) ∧
    (∀ (t : State) (k : Nat), let u := t.lcDone k
      u.vault.lc = lcOf k ∧ u.vault.slots = [] ∧ u.access.chain = 0 ∧ u.access.transfer = none ∧ u.access.sessions = [] ∧
        u.start.porHeld = true ∧ u.start.cause = 3 ∧ u.pending = t.pending ∧ (k = 2 → u.access.ownerKeys = t.access.transfer.toList)) ∧
    (n < 512 → does (0xA100 + n) 1 v (fun t =>
      (if (t.slot n).sstate = 2 then t.setSlot n { t.slot n with flags := setBit (t.slot n).flags 0 false }
      else if v = 0 then t.dropSlot n
      else t.setSlot n ⟨1, v % 256, v / 256 % 256, v / 65536 % 256, v / 16777216 % 256, 0, 0, none⟩).sendChanged t) (.slotAttrWrite a n v)) ∧
    does 0xA400 1 v (opKeyStage v a.outcome) (.keyStage a v) ∧
    (∀ t : State, a.outcome ≠ 2 → t.slotMode (v % 65536) = 1 →
      let key := Config.keyOf (fld v 12 172 % 2 ^ (8 * algLen (t.slot (v % 65536)).alg))
      opKeyStage v a.outcome t =
        (t.setSlot (v % 65536) { t.slot (v % 65536) with shadow := some (Config.kcv key % 2 ^ 32, key, t.tb.lc) }).opStat 2) ∧
    (n < 65536 →
      does 0xA400 2 n (fun t => (opKeyCommit n a.outcome t).sendChanged t) (.keyCommit a n) ∧
      (∀ (t : State) (kcv key at_ : Nat), a.outcome = 0 → (t.slot n).shadow = some (kcv, key, at_) →
        let u := opKeyCommit n a.outcome t
        u.slot n = { t.slot n with sstate := 2, kcv := kcv, key := key, shadow := none } ∧ u.vault.opStatus = 3) ∧
      does 0xA400 3 n (fun t => (t.setSlot n { t.slot n with shadow := none }).opStat 0) (.keyAbandon a n) ∧
      does 0xA400 4 n (fun t => (
        if a.outcome = 2 then t.cutKeyOp 0xF4 n
        else if t.vault.jobs.any (fun j => j.slot == n && j.verdict == 0) then
          ({ t with vault := { t.vault with erasing := t.vault.erasing ++ [(n, a.outcome)] } } : State).opStat 1
        else if bit (t.slot n).flags 1 = false then (t.dropSlot n).opFree
        else if a.outcome = 1 then t.makeSpace.opStat 6
        else ((t.makeSpace.vaultAppend (t.markRec 3 n 0 0)).dropSlot n).opFree).sendChanged t) (.keyErase a n) ∧
      (w < 65536 → ∀ q t, Safety.Accepts s a 0xA400 5 (lePack [(2, n), (2, w)]) q t → exec (.keyExport a n w) s =
        .next (Safety.answers (
          if a.outcome = 2 then t.cutKeyOp 0xF3 n
          else if t.wraps w && (t.slot n).sstate == 2 && bit (t.slot n).flags 0 && w != n then
            ({ t with vault := { t.vault with exportRole := q.role.code, exportBlob := t.blobOf n (t.slot w).key 0 } } : State).opFree
          else t.opStat 7) a.path 0 0))) ∧
    does 0xA530 1 (lePack [(4, n), (96, c)]) (fun t => ({ t with vault := { t.vault with latch := false } } : State).por 7) (.tamperClear a n c)

/-- R387, R409, R411, R412, R418, R422, R424: what an accepted access of the session objects does. A challenge draws a nonce that the path
holds for 10 s; AUTH_OPEN has verdicts of its own and, where it has none against it, opens a session of the path; AUTH_CLOSE ends the
session; a raise of TICKET_MIN_ID ends the ticketed sessions below it; a transfer and a rotation keep the digest of the new key;
JTAG_UNLOCK unlocks the port; and AUDIT_HEAD signs the head of the chain under the nonce, which it uses up. -/
def Obligations.SessionAccesses : Prop :=
  ∀ (s : State) (a : Acc) (n v : Nat),
    let does (idx sub v : Nat) (f : State → State) (i : Instr) : Prop := Safety.WriteDoes s a idx sub v f (exec i s)
    let u := s.arrive a
    (∀ d, Safety.MayRead s a 0xA800 1 d →
      let k := u.access.nonces + 1
      exec (.authChallenge a) s = .next (Safety.answers
        (({ u with access := { u.access with nonces := k } } : State).onPath a.path (fun x => { x with nonce := some (k, u.tb.lc) }))
        a.path 0 (nonceValue k))) ∧
    (∀ w, s.pathUp a.path = true → v < 2 ^ (8 * a.len) → a.session = none → u.whoIs a 0xA800 2 true = some w →
      u.firstChecks a w 0xA800 2 v true = 0 → fld v 1 3 = 0 → u.namesNonce a.path v = true →
      (u.authOpenCode a v = 0 → ∀ t, (u.useNonce a.path).audit { atype := 3, role := Role.ofCode (fld v 0 1), path := a.path.code, session := u.freeSession, index := 0xA800, sub := 2, ticket := if fld v 0 1 = 3 ∨ fld v 0 1 = 5 then fld v 237 4 else 0 } = some t →
        exec (.authOpen a v) s = .next (Safety.answers (t.openSession a v) a.path 0 0)) ∧
      (∀ (t : State), (t.openSession a v).access.sessions.length = t.access.sessions.length + 1 ∧
        (t.openSession a v).access.sessions.take t.access.sessions.length = t.access.sessions)) ∧
    does 0xA800 4 n (fun t => match t.session n with | some x => t.endSession 1 x | none => t) (.authClose a n) ∧
    does 0xA801 3 v (fun t => (t.put 0xA801 3 v).endSessions 4 (fun x => x.ticketed && decide (x.ticketId < v))) (.ticketMinIdWrite a v) ∧
    (∀ (t : State) (x : Session), ∀ y ∈ (t.endSession n x).access.sessions, y ∈ t.access.sessions ∧ y.num ≠ x.num) ∧
    does 0xA803 3 v (fun t => { t with access := { t.access with transfer := some (Config.sha384 [v % 2 ^ 776]) } }) (.ownerTransfer a v) ∧
    does 0xA803 4 v (fun t =>
      { t with access := { t.access with ownerKeys := t.access.ownerKeys ++ [Config.sha384 [v % 2 ^ 776]] } }) (.ownerKeyRotate a v) ∧
    does 0xA820 1 v (fun t => { t with access := { t.access with jtag := 2 } }) (.jtagUnlock a v) ∧
    (∀ d k, Safety.MayRead s a 0xA830 3 d → u.liveNonce a.path = some k →
      let t := ({ u with access := { u.access with headSigned := some (u.access.aseq, u.access.chain, k) } } : State).useNonce a.path
      exec (.auditHead a) s = .next (Safety.answers t a.path 0 (t.readValue a d 0xA830 3)))

/-- R428, R434, R436, R439, R441, R444: what an accepted write of the access paths does. A description is selected for the session or the
path; a store takes every persisted object as it stands; a CAN controller starts with its settings or stops; ATTN_ACK clears the named
bits but the two that follow their conditions; a copy starts, or is aborted without a link; and a change of the Esxia path ends the sessions
that it cuts off. -/
def Obligations.PathWrites : Prop :=
  ∀ (s : State) (a : Acc) (n v sub b off len host : Nat),
    let does (idx sub v : Nat) (f : State → State) (i : Instr) : Prop := Safety.WriteDoes s a idx sub v f (exec i s)
    (n < 65536 → sub < 256 → does 0x1010 1 (n + 65536 * sub) (fun t => match t.accSession a with
      | some x => t.onSession x.num (fun y => { y with describe := n + 65536 * sub })
      | none => t.onPath a.path (fun p => { p with describe := n + 65536 * sub })) (.dictDescribeAddr a n sub)) ∧
    does 0x1010 3 0x5A (fun t => { t with dict := { t.dict with saving := some t.toSave } }) (.dictStore a) ∧
    (n < 2 →
      does (0x1E00 + n) 1 1 (fun t => (t.put (0x1E00 + n) 1 1).startCan n) (.canEnableWrite a n 1) ∧
      does (0x1E00 + n) 1 0 (fun t => ((t.put (0x1E00 + n) 1 0).onCan n (fun x => { x with state := 0, transfer := false })).endSessions 6
        (fun x => x.path == Path.can n)) (.canEnableWrite a n 0)) ∧
    (∃ f : State → State, does 0x1E40 3 v f (.attnAck a v) ∧ ∀ t, f t = { t with dict := { t.dict with attn := (f t).dict.attn } } ∧
      (b < 8 → bit (f t).dict.attn b = (bit t.dict.attn b && (!bit v b || b == 1 || b == 2)))) ∧
    (b < 256 → off < 2 ^ 64 → len < 2 ^ 32 → host < 2 ^ 64 →
      does 0x1E21 1 (lePack [(1, b), (3, 0), (8, off), (4, len), (8, host)]) (fun t =>
        if t.dict.pcieUp then { t with dict := { t.dict with dma := some (b, off, len, host), dmaStatus := 1 } }
        else { t with dict := { t.dict with dmaStatus := 3 } }) (.dmaReq a b off len host)) ∧
    (1 ≤ sub → sub ≤ 4 → does 0x1E30 sub v (fun t =>
      let u := t.put 0x1E30 sub v
      u.endSessions 6 (fun x => x.path == .esxia &&
        (!u.esxiaEnable || u.esxiaUdpPort != t.esxiaUdpPort || !bit u.esxiaAddrs x.host || !bit u.esxiaPorts x.port))) (.esxiaPathWrite a sub v))

/-- R127, R135, R152, R429, R430, R411, R438: a plain object holds what an accepted write gives it, and it is in force at once unless its
chapter holds it back, when everything in force stays and the value waits; and a write that fails one of the checks 1 to 9 leaves
the block as the request found it, but for the audit record of a requester with a role, the nonce that a false credential uses up, the
code that the path answers, and the last error of a posted PCIe write. -/
def Obligations.WritesAreStoredOrRefused : Prop :=
  ∀ (s : State) (a : Acc) (idx sub v : Nat),
    ((0x3120 ≤ idx ∧ idx < 0x3900) ∨ (0x4000 ≤ idx ∧ idx < 0x4440) →
      ∀ w t, Safety.Accepts s a idx sub v w t →
        let late := lateTiming (idx * 256 + sub)
        ∃ u, exec (.dictWrite a idx sub v) s = .next u ∧ (∀ d, u.cfg idx sub d = v) ∧ (u.pathState a.path).code = 0 ∧
        (∀ j k d, j * 256 + k ≠ idx * 256 + sub → u.cfg j k d = t.cfg j k d ∧ u.live j k d = t.live j k d) ∧
        (late = true → (∀ d, u.live idx sub d = t.live idx sub d ∧ (u.takeLate (· == idx * 256 + sub)).live idx sub d = v) ∧
          u = { t with dict := { t.dict with store := u.dict.store, held := u.dict.held }, access := u.access }) ∧
        (late = false → u = { t with dict := { t.dict with store := u.dict.store }, access := u.access })) ∧
    (∀ w c, idx ≠ 0x1030 → s.pathUp a.path = true → v < 2 ^ (8 * a.len) → (s.arrive a).whoIs a idx sub true = some w →
      (s.arrive a).firstChecks a w idx sub v true = c → c ≠ 0 →
      let x := if oneShot idx sub && c == 5 then (s.arrive a).useNonce a.path else s.arrive a
      let value := match entryOf idx sub with | some d => x.auditVal a d idx sub v | none => auditValue a.len v
      let y := Safety.answers (if w.role = .none then x else x.auditEvent (x.auditOf a w 2 idx sub c value)) a.path c 0
      exec (.dictWrite a idx sub v) s = .next
        (if a.path = .pcie ∧ a.session = none ∧ a.env = false then { y with dict := { y.dict with pcieLastError := (idx, sub, c) } } else y))

/-- R454, R463, R466, R469, R470, R477, R484: what an accepted write of the pair and domain objects does. PAIR_ENABLE halts the outputs and
silences the ports before the part joins its pair, and gives the lease up when it is turned off; a handoff is proposed; PAIR_COMMAND's
diagnosis takes the part out of READY; a policy entry raises the epoch and is due to the workers; and a domain object that shapes the
domain restarts it, with no worker and no session left. -/
def Obligations.PairAndDomainWrites : Prop :=
  ∀ (s : State) (a : Acc) (n v sub : Nat),
    let does (idx sub v : Nat) (f : State → State) (i : Instr) : Prop := Safety.WriteDoes s a idx sub v f (exec i s)
    does 0xB000 1 1 (fun t => if t.pairEnable then t.rejoin else ((t.put 0xB000 1 1).haltOutputs.hushPorts).rejoin) (.pairEnableWrite a 1 1) ∧
    does 0xB000 1 0 (fun t =>
      if t.pairEnable then ((((t.stopLease 5).put 0xB000 1 0).takePair).takeLease.rejoin).onOuts (fun o => { o with highZ := if o.running then o.highZ else o.idle == 1 })
      else t.rejoin) (.pairEnableWrite a 1 0) ∧
    (sub = 4 ∨ sub = 5 → does 0xB000 sub v (fun t => (t.put 0xB000 sub v).rejoin) (.pairEnableWrite a sub v)) ∧
    does 0xB000 9 v (fun t =>
      if v = 1 ∧ t.pair.lease = true then (t.putLate 0xB000 9 v).propose 5
      else if t.pairEnable then t.putLate 0xB000 9 v else t.put 0xB000 9 v) (.pairHoldStandbyWrite a v) ∧
    does 0xB002 1 0x5A (fun t => t.propose 6) (.pairCommandHandoff a) ∧
    (∀ (t : State) (c : Nat), t.pair.lease = true → t.pair.handoff = none → t.peerReady = true → t.handoffOwn t.nextTh = true → c = 5 ∨ c = 6 →
      t.propose c = ({ t with pair := { t.pair with handoff := some { releaser := true, th := t.nextTh, cause := c, accepted := false, committed := false, cancelled := false, claimed := false, fullSent := false, pulse := 0 } } } : State).peerSend 7 [1, t.nextTh, c]) ∧
    does 0xB002 1 0x3C (fun t => { t with pair := { t.pair with state := .diag, readySince := none } }) (.pairCommandDiag a) ∧
    (n < 64 → does (0xBB00 + n) 1 v (fun t =>
      let u := t.put (0xBB00 + n) 1 v
      { u with domain := { u.domain with epoch := bump u.domain.epoch, policyDue := true } }) (.domainPolicyWrite a n v)) ∧
    (sub ∈ [1, 2, 3, 7] → does 0xB800 sub v (fun t => t.domainRestart.put 0xB800 sub v) (.domainConfigWrite a sub v) ∧
      ∀ t : State, t.domainRestart.tb = t.tb) ∧
    (sub = 8 → does 0xB800 sub v (fun t => t.put 0xB800 sub v) (.domainConfigWrite a sub v)) ∧
    (sub ∈ [4, 5, 6, 9, 10, 11, 12] → does 0xB800 sub v (fun t => t.putLate 0xB800 sub v) (.domainConfigWrite a sub v))

/-- R492, R495, R506, R508, R514, R515: what an accepted write of the fault, start-up and calibration objects does. An acknowledgement
takes the code, every event fault, or the F3 latch away; F3_CLEAR ends a boot halt by a system reset; SLEEP_ENTER halts every
output and gates every group but the first two; the firmware steps keep to the idle slot; and a calibration value or reload is
committed, with an uncertainty that rises in force at once. -/
def Obligations.FaultStartAndCalWrites : Prop :=
  ∀ (s : State) (a : Acc) (n v off len data c : Nat) (x : Int),
    let does (idx sub v : Nat) (f : State → State) (i : Instr) : Prop := Safety.WriteDoes s a idx sub v f (exec i s)
    (n ≠ 0xFFFF → n ≠ 0xFFF3 → does 0xC003 1 n (fun t =>
      { t with faults := { t.faults with active := t.faults.active.filter (fun y => y.1 != n) } }) (.faultAckCode a n)) ∧
    does 0xC003 1 0xFFFF (fun t => { t with faults := { t.faults with
      active := t.faults.active.filter (fun y => isLevel y.1 || !(y.2.2 == 1 || y.2.2 == 2)) } }) (.faultAckAll a) ∧
    does 0xC003 1 0xFFF3 (fun t => { t with faults := { t.faults with latch := false } }) (.faultAckF3 a) ∧
    does 0xC003 2 (lePack [(2, 0xFFF3), (2, 0), (96, c)]) (fun t =>
      let u := { t with faults := { t.faults with latch := false } }
      if t.start.haltF3 then ({ u with start := { u.start with haltF3 := false } } : State).sysReset 9 else u) (.f3Clear a c) ∧
    does 0xD011 1 0x5A (fun t =>
      let u := t.dropSessions.onOuts (fun o => { o with running := false, highZ := true })
      { u with clk := { u.clk with groups := u.clk.groups.take 2 ++ List.replicate 13 3 }, start := { u.start with sleep := true } }) (.sleepEnter a) ∧
    does 0xD020 1 0x5A (fun t =>
      { t with start := { t.start with fwState := 1, fwErased := false, bundleA := if t.start.bundleB then none else t.start.bundleA, bundleBInfo := if t.start.bundleB then t.start.bundleBInfo else none } }) (.fwErase a) ∧
    does 0xD020 2 (lePack [(4, off), (2, len), (2, 0), (1000, data)]) (fun t => { t with start := { t.start with fwState := 2 } }) (.fwChunk a off len data) ∧
    does 0xD020 3 v (fun t => { t with start := { t.start with fwState := 3, fwPending := some ⟨true, fld v 8 4, fld v 12 4⟩ } }) (.fwCommit a v) ∧
    does 0xC800 1 n (fun t => match t.accSession a with
      | some y => t.onSession y.num (fun z => { z with calSel := n % 2 ^ 31 })
      | none => t.onPath a.path (fun p => { p with calSel := n % 2 ^ 31 })) (.calSelect a n) ∧
    (-2 ^ 63 ≤ x → x < 2 ^ 63 → n < 2 ^ 32 → c < 256 → does 0xC800 2 (lePack [(8, unsigned 8 x), (4, n), (1, c)]) (fun t =>
      let e := t.calSel a
      { (if t.calUnc e < n then t.raiseUnc e n else t) with cal := { t.cal with
        commit := some (putEntry ⟨e, x, n, true⟩ t.cal.entries, e / 2 ^ 24)
        raises := if t.calUnc e < n then putKey e n t.cal.raises else t.cal.raises } }) (.calValue a x n c)) ∧
    (off < 2 ^ 32 → len < 65536 → does 0xC801 1 (lePack [(4, off), (2, len), (2, 0), (1000, data)]) (fun t =>
      { t with cal := { t.cal with staging := t.cal.staging ++ [(off, len)], stagingTime := t.tb.lc } }) (.calReloadChunk a off len data)) ∧
    does 0xC801 2 0x5A (fun t =>
      let up := t.cal.entries.filter (fun y => decide (y.unc < factoryUncOf y.eid))
      { up.foldl (fun z y => z.raiseUnc y.eid (factoryUncOf y.eid)) t with cal := { t.cal with
        commit := some ([], noInst), raises := up.foldl (fun l y => putKey y.eid (factoryUncOf y.eid) l) t.cal.raises } })
      (.calReloadCommit a)

/-- R24–R27, R57: what the clock monitor's events do. A PLL that loses lock puts its group on the safe clock and raises its fault, and its
confirmed lock ends both; the time-base APLL's loss begins a coarse count of the oscillator, or of the safe clock where the oscillator
is lost too, and its lock ends the count; a stopped XO goes to the backup oscillator with the lease given up; a receiver PLL
locks its quad. -/
def Obligations.ClockEvents : Prop :=
  ∀ (s : State) (now loop : Nat) (osc : Bool),
    let u := s.atTime now
    (loop < 4 → u.group (loopGroup loop) = 1 →
      let v := u.setGroup (loopGroup loop) 2
      exec (.clockLossOfLock now loop) s = .next ((if loop = 0 then v.underrun else if loop = 3 then v.canSilent true else v).raise (loop + 1))) ∧
    (4 ≤ loop ∨ u.group (loopGroup loop) ≠ 1 → exec (.clockLossOfLock now loop) s = .next u) ∧
    (u.tb.coarse ≠ 0 → exec (.tbApllLossOfLock now osc) s = .next u) ∧
    (u.tb.coarse ≠ 1 → exec (.localOscLoss now) s = .next u) ∧
    (u.clk.xoBackup = true → exec (.xoStop now) s = .next u) ∧
    (u.tb.coarse = 0 → ∃ v : State, exec (.tbApllLossOfLock now osc) s = .next (v.raise 6) ∧ v.clk.oscLost = osc ∧
      v.tb.coarse = (if osc then 2 else 1) ∧ v.tb.coarseTc = u.coarsePeriod v.tb.coarse ∧ v.tb.coarseG0 = u.gNow ∧
      v.tb.coarseAcc = 0 ∧ v.tb.lc = u.tb.lc ∧ v.full = u.full) ∧
    (u.tb.coarse = 1 → ∃ v : State, exec (.localOscLoss now) s = .next v ∧ v.clk.oscLost = true ∧ v.tb.coarse = 2 ∧
      v.tb.coarseTc = u.coarsePeriod 2 ∧ v.tb.coarseG0 = u.tb.coarseG0 ∧ v.full = u.full) ∧
    (u.clk.xoBackup = false → exec (.xoStop now) s =
      .next (((let v := ({ u with clk := { u.clk with xoBackup := true } } : State).setGroup 2 5
        if u.tb.coarse = 2 then v.enterCoarse 2 else v).stopLease 3).revalid.raise 5)) ∧
    (loop < 4 → u.group (loopGroup loop) = 2 ∨ u.group (loopGroup loop) = 3 →
      let v := u.setGroup (loopGroup loop) 1
      let v := if loop = 3 then v.canSilent false else v
      exec (.lockConfirmed now loop) s = .next ((({ v with clk := { v.clk with relockC := v.clk.relockC && loop != 0, relockE := v.clk.relockE && loop != 1 } } :
        State).clearFault (loop + 1)).endHandling (loop + 1)).drain.serveAnchors) ∧
    (u.tb.coarse ≠ 0 → ∃ v : State, exec (.lockConfirmed now 4) s = .next ((v.clearFault 6).endHandling 6).drain.serveAnchors ∧ v.tb.coarse = 0 ∧
      v.tb.returnDue = true ∧ v.tb.coarseFloor = true ∧ v.tb.coarseLeft = u.lockCount ∧ v.clk.oscLost = false ∧ v.full = u.full) ∧
    (5 ≤ loop → loop < 9 → (u.apll (loop - 5)).lock = 2 ∨ (u.apll (loop - 5)).lock = 3 → ∃ v : State,
      exec (.lockConfirmed now loop) s = .next ((v.clearFault 7 (loop - 5)).endHandling 7).drain.serveAnchors ∧
      v = { u with synth := v.synth } ∧ v.synth = { u.synth with aplls := v.synth.aplls, relocking := setBit u.synth.relocking (loop - 5) false } ∧
      (loop - 5 < u.synth.aplls.length → v.apll (loop - 5) = { u.apll (loop - 5) with lock := 1 })) ∧
    (9 ≤ loop → (u.quad (loop - 9)).state = 1 ∨ ((u.quad (loop - 9)).state = 3 ∧ (u.quad (loop - 9)).refLost = false) →
      exec (.lockConfirmed now loop) s = .next (u.onQuad (loop - 9) (fun q => { q with state := 2 })).drain.serveAnchors) ∧
    (∀ v : State, v.engsRun = false → v.drain.serveAnchors = v)

/-- R46, R47, R50, R51: at the second boundary the pending step is taken, that of TIME_SET before the servo's, and the anchor is latched
into its place of the ring with the long count, the full time after the step, and the step; while the part is held in reset or sleeps, none
is. -/
def Obligations.AnchorIsLatched : Prop :=
  ∀ (s : State) (past : Nat),
    (s.start.porHeld = true ∨ s.start.sleep = true → exec (.anchorLatch past) s = .next s) ∧
    (s.start.porHeld = false → s.start.sleep = false →
      let u := s.atTime s.boundary
      ∃ (v : State) (a : Anchor) (change : Bool),
        exec (.anchorLatch past) s = .next (
          let w := (opNtsKeySwitch v.takeElec.synthAnchor).anchorDue u.lastAnchor
          if w.1.start.inReset then ((w.1.closeSecond w.2 false).girthAnchor).lockAnchor
          else ({ w.1 with tb := { w.1.tb with waiting := w.1.tb.waiting ++ [w.2] } } : State).serveAnchors) ∧
        v.tb.ring = u.tb.ring.set (u.tb.nextAseq % 16) a ∧ v.tb.nextAseq = bump u.tb.nextAseq ∧ v.tb.lc = u.tb.lc ∧
        a.aseq = u.tb.nextAseq ∧ a.nsc = u.shown u.tb.lc % 2 ^ 48 ∧ a.full = u.shown u.tb.lc + v.tb.offset * 65536 ∧
        (u.tb.coarse = 0 → u.shown u.tb.lc = u.tb.lc ∧ a.full = v.full) ∧ v.full = u.full + a.stepNs * 65536 ∧
        (a.flags = ofBits [true, (u.tb.pendSet.any (fun p => p.2 == 0)) || u.tb.pendStep.isSome, u.tb.coarse == 1, u.tb.coarse == 2, u.tb.returnDue, change]) ∧
        (∀ sec, u.tb.pendSet = some (sec, 0) → a.stepNs = sec * 1000000000 - u.full / 65536 ∧ v.full / 65536 = sec * 1000000000 ∧ v.tb.pendSet = none ∧
          v.tb.pendStep = none ∧ v.tb.isSet = true ∧ v.tb.setByWrite = true ∧ v.tb.stepRef = 0xFE) ∧
        ((∀ sec, u.tb.pendSet ≠ some (sec, 0)) → a.stepNs = u.tb.pendStep.getD 0 ∧ v.tb.pendStep = none ∧
          (u.tb.pendStep.isSome = true → v.tb.isSet = true ∧ v.tb.setByWrite = false ∧ v.tb.stepRef = u.sel.current)))

/-- R70, R85–R88, R92, R456: the selector takes the writes that have waited for it, leaves the selection alone while a switch runs, and
everything while the servo is suspended or the servo cores have no clock, keeps a choice that stands, goes to holdover when nothing is eligible, and otherwise begins a switch; a standby whose
peer is measured follows the peer; and what it chooses by itself is eligible, has a priority, and no other such reference has a smaller
key. -/
def Obligations.SelectorChoosesTheBest : Prop :=
  ∀ (s : State) (now t src : Nat),
    let u := s.atTime now
    let r := u.takeRefs
    (u.servo.suspended = true ∨ u.engsRun = false → exec (.selectorTick now) s = .next u) ∧
    (u.servo.suspended = false → u.engsRun = true → r.switchingNow = true ∨ r.servo.suspended = true → exec (.selectorTick now) s = .next r) ∧
    (u.servo.suspended = false → u.engsRun = true → r.switchingNow = false → r.servo.suspended = false → r.selectRef = (t, src) →
      (r.pair.following = true → exec (.selectorTick now) s = .next { r with pair := { r.pair with ownChoice := t } }) ∧
      (r.pair.following = false → r.thetaReady = true → exec (.selectorTick now) s =
        .next ({ r with pair := { r.pair with ownChoice := t } } : State).startFollow) ∧
      (r.pair.following = false → r.thetaReady = false → t = r.sel.current → t ≠ 0xFF ∨ r.sel.state ≠ 1 → exec (.selectorTick now) s =
        .next { r with sel := { r.sel with source := src } }) ∧
      (r.pair.following = false → r.thetaReady = false → t = 0xFF → r.sel.current ≠ 0xFF ∨ r.sel.state = 1 → exec (.selectorTick now) s =
        .next ((({ r with sel := { r.sel with current := 0xFF, source := src, count := bump r.sel.count } } : State).enterHoldover).raise 0x0203 0xFF
          (switchDetail 3 r.sel.current 0xFF 0))) ∧
      (r.pair.following = false → r.thetaReady = false → t ≠ r.sel.current → t ≠ 0xFF → exec (.selectorTick now) s = .next (r.startSwitch t src))) ∧
    (∀ v : State, v.selectRef = (t, 0) → v.refRevertive = true → t ≠ 0xFF →
      t < 17 ∧ v.eligible t = true ∧ v.refPriority t ≠ 0 ∧ ∀ n < 17, v.eligible n = true → v.refPriority n ≠ 0 → v.key t ≤ v.key n)

/-- R73–R76, R78, R81, R82, R88–R90, R121: what the events of a reference do. Loss of signal makes it ABSENT, with nothing of its past
kept, and its pair with it where it is a frequency half; a switch to it goes on without it, and the control value of a selected one is held; a ToD sentence outside its window is only counted, and one inside it tells the quality level
and is held to the count; sentences or PDUs that stay away make the quality level DNU; a PDU gives its level to the references of its
port; the forced pins act once they have held; a build-out ends after 1 s, on the target's last measurement or without one; every second each
reference that is enabled is evaluated while the time base is disciplined, and a cause disqualifies it; and without a clock for the servo cores
nothing is evaluated. -/
def Obligations.ReferenceEvents : Prop :=
  ∀ (s : State) (now n k since ql flags girth leap ssm pins : Nat) (own : Bool) (tai : Option Nat) (off : Int) (essm : Option Nat),
    let u := s.atTime now
    let lost (r : Ref) : Ref := { r with
      present := false, lastMeas := none, phases := [], estimates := [], misses := 0, windowFaults := [], cause := 0, seconds := false,
      todMismatch := false, lastEdge := none, gateRun := 0 }
    let lose (m : Nat) (v : State) : State :=
      let w := (v.moveRef m .absent).onRef m lost
      if (v.ref m).state = .disabled then v.onRef m lost
      else if w.sel.current ≠ m then w
      else if w.switchingNow then ({ w with sel := { w.sel with targetLost := true } } : State).rampTo w.ho.uh false false
      else w.accrue.holdU
    (17 ≤ n → exec (.refLossOfSignal now n) s = .next u) ∧
    (n < 17 → (u.isHalf n = false ∨ 8 ≤ u.inPair n → exec (.refLossOfSignal now n) s = .next (lose n u)) ∧
      (u.isHalf n = true → u.inPair n < 8 → exec (.refLossOfSignal now n) s = .next (lose (u.inPair n) (lose n u)))) ∧
    (since < 100 ∨ 900 < since → exec (.todSentenceRx now k since own tai leap off ql girth flags) s =
      .next { u with tod := upd (fun x => { x with discarded := bump x.discarded }) k u.tod }) ∧
    (100 ≤ since → since ≤ 900 → u.todPin k = none → exec (.todSentenceRx now k since own tai leap off ql girth flags) s = .next u) ∧
    (100 ≤ since → since ≤ 900 → u.todPin k = some n →
      let next := (u.full + ((1000 - since : Nat) : Int) * 65536000000 + 32768000000000) / 65536000000000
      let v := ({ u with tod := upd (fun x => { x with lastSecond := tai }) k u.tod } : State).onRef n (fun r => { r with
        qlRx := if own then (if qlKnown ql then ql else 0xF) else 0xE
        seconds := tai.isSome
        todMismatch := match tai with
          | some x => u.tb.isSet && (x : Int) != next
          | none => false })
      let w : State := { v with girth := { v.girth with claims := v.girth.claims.set n (some ⟨girth, 0, [], false, v.tb.lc⟩) } }
      (own = false → exec (.todSentenceRx now k since own tai leap off ql girth flags) s = .next v) ∧
      (own = true → u.sel.current ≠ n → exec (.todSentenceRx now k since own tai leap off ql girth flags) s = .next w) ∧
      (own = true → u.sel.current = n → exec (.todSentenceRx now k since own tai leap off ql girth flags) s =
        .next (w.learnAnnounced off leap (bit flags 2)))) ∧
    (s.todPin k = none → exec (.todSentenceTimeout k) s = .next s) ∧
    (s.todPin k = some n →
      let v := s.onRef n (fun r => { r with seconds := false, todMismatch := false })
      ((v.ref n).state ≠ .disabled → (v.ref n).state ≠ .absent →
        exec (.todSentenceTimeout k) s = .next (v.onRef n (fun r => { r with qlRx := 0xF }))) ∧
      ((v.ref n).state = .disabled ∨ (v.ref n).state = .absent → exec (.todSentenceTimeout k) s = .next v)) ∧
    (k < 4 → (s.ref (8 + k)).state ≠ .disabled → (s.ref (8 + k)).state ≠ .absent → exec (.esmcRxTimeout k) s = .next (s.onRef (8 + k) (fun r => { r with qlRx := 0xF }))) ∧
    (4 ≤ k ∨ (s.ref (8 + k)).state = .disabled ∨ (s.ref (8 + k)).state = .absent → exec (.esmcRxTimeout k) s = .next s) ∧
    (∃ t : State, exec (.esmcPduRx n ssm essm) s = .next t ∧ t = { s with refs := t.refs } ∧ (s.refs.length = 17 → ∀ i < 17,
      t.ref i = if 8 ≤ i ∧ i < 12 ∧ s.portOf (s.seLane i) = s.portOf n then { s.ref i with qlRx := qlOfEsmc ssm essm } else s.ref i)) ∧
    exec (.forcePinChange pins) s = .next { s with sel := { s.sel with raw := pins % 16, debouncing := true } } ∧
    (u.sel.debouncing = true → exec (.forcePinLatch now) s = .next (({ u with sel := { u.sel with latched := u.sel.raw, debouncing := false } } : State).raise 0x0204)) ∧
    (u.sel.debouncing = false → exec (.forcePinLatch now) s = .next u) ∧
    (u.sel.switching = none ∨ u.servo.suspended = true ∨ u.engsRun = false → exec (.buildOutTimeout now) s = .next u) ∧
    (∀ m t0, u.sel.switching = some (m, t0) → u.servo.suspended = false → u.engsRun = true →
      (u.tb.lc < t0 + secUnits → exec (.buildOutTimeout now) s = .next u) ∧
      (t0 + secUnits ≤ u.tb.lc →
        (u.sel.targetLost = true → exec (.buildOutTimeout now) s = .next ((u.endBuildOut none).runSelector true)) ∧
        (u.sel.targetLost = false → u.pair.following = true → exec (.buildOutTimeout now) s = .next (u.endBuildOut (some (-u.pair.theta)))) ∧
        (u.sel.targetLost = false → u.pair.following = false → u.classF u.sel.current = false → ∀ l p, (u.ref u.sel.current).lastMeas = some (l, p) →
          exec (.buildOutTimeout now) s = .next (u.endBuildOut (some p))) ∧
        (u.sel.targetLost = false → u.pair.following = false → u.classF u.sel.current = false → (u.ref u.sel.current).lastMeas = none →
          exec (.buildOutTimeout now) s = .next ((u.endBuildOut none).runSelector true)))) ∧
    (u.engsRun = false → exec (.refEvaluation now) s = .next u) ∧
    (u.engsRun = true →
     let v := (List.range 17).foldl State.evalRef u
     let m := v.sel.current
     let w : State := { v with ho := { v.ho with sigmaF := if v.ho.classF.isSome && !v.switchingNow then (v.ref m).sigmas else v.ho.sigmaF } }
     (12 ≤ m ∨ v.classF m = false ∨ v.refFreq m = none → exec (.refEvaluation now) s = .next v) ∧
     (m < 12 → v.classF m = true → (v.refFreq m).isSome = true →
       (v.sel.switching = none ∨ v.sel.targetLost = true ∨ v.servo.suspended = true → exec (.refEvaluation now) s = .next w) ∧
       ∀ o t0, v.sel.switching = some (o, t0) → v.sel.targetLost = false → v.servo.suspended = false → t0 < (w.refSpan m).2 →
         exec (.refEvaluation now) s = .next (w.endBuildOut (some 0)))) ∧
    (∀ v : State, v.refEnable n = false ∨ v.group 5 ≠ 1 → v.evalRef n = v) ∧
    (∀ v : State, n < v.refs.length → v.refEnable n = true → v.group 5 = 1 → (v.ref n).present = false →
      let w := v.onRef n (fun r => { r with cause := v.causes n })
      ((v.ref n).state = .absent → v.evalRef n = w.onRef n (fun r => { r with gateRun := 0 })) ∧
      ((v.ref n).state = .disabled → v.evalRef n = w.moveRef n .absent) ∧
      ((v.ref n).state = .qualified → v.causes n ≠ 0 → v.evalRef n = w.moveRef n .disqualified) ∧
      ((v.ref n).state = .qualified → v.causes n = 0 → v.evalRef n = w) ∧
      ((v.ref n).state = .disqualified → v.evalRef n = w.onRef n (fun r => { r with gateRun := 0 })))

/-- R81, R96–R103: an edge of a channel that is enabled is counted, and stamped with a record that joins the channel's FIFO while the
engines do not run, and goes to them while they do; within 4 ns of the last one, or with 64 records waiting, it is counted as lost, and a
system reset lets none be stored; an edge shows that the signal of its reference is present, that of a pair with both its halves and that of a recovered clock while its link is up,
and a PPS edge outside its window is a fault; and
the gate estimate closes its window once that has ended. -/
def Obligations.TiuStamps : Prop :=
  ∀ (s : State) (now c bin : Nat),
    let u := s.atTime now
    let x := u.chan c
    let t := u.edgeStamp c bin (max u.tb.lc now)
    let seen (w : State) : State := if c < 12 then w.refEdge c t else w
    let record : TiuRec := ⟨t, u.stampStatus (max u.tb.lc now) false, x.gapDue, x.glitchDue, x.edge⟩
    (32 ≤ c ∨ u.chEnable c = false → exec (.tiuEdge now c bin) s = .next u) ∧
    (c < 32 → u.chEnable c = true → u.tiu.length = 32 →
      ((∃ l, x.lastStamp = some l ∧ t < l + 4 * nsUnits) → exec (.tiuEdge now c bin) s =
        .next (seen (u.onChan c (fun y => { y with edge := bump y.edge, deadTime := bump y.deadTime, glitchDue := true })))) ∧
      ((∀ l, x.lastStamp = some l → l + 4 * nsUnits ≤ t) →
        (u.start.inReset = true → exec (.tiuEdge now c bin) s =
          .next (seen (u.onChan c (fun y => { y with edge := bump y.edge, lastStamp := some t })))) ∧
        (u.start.inReset = false → 64 ≤ x.fifo.length → exec (.tiuEdge now c bin) s =
          .next (seen (u.onChan c (fun y => { y with edge := bump y.edge, lastStamp := some t, overflow := bump y.overflow, gapDue := true })))) ∧
        (u.start.inReset = false → x.fifo.length < 64 → exec (.tiuEdge now c bin) s = .next (seen (u.onChan c (fun y =>
          { y with edge := bump y.edge, lastStamp := some t, fifo := y.fifo ++ [record], gapDue := false, glitchDue := false })).drain)))) ∧
    (∀ v : State, (v.engsRun = false → v.drain = v) ∧
      (∀ r l, (v.chan c).fifo = r :: l → v.arbOne c = State.deliver c (v.onChan c (fun y => { y with fifo := l })) r)) ∧
    (∀ v : State, c < 12 →
      (v.isPps c = false → c < 8 ∨ (v.lane (v.seLane c)).state = 5 → v.refEdge c t = v.onRef c (fun r => { r with present := true })) ∧
      (v.isPps c = false → 8 ≤ c → (v.lane (v.seLane c)).state ≠ 5 → v.refEdge c t = v) ∧
      (v.isPps c = true →
        let whole := match v.freqHalf c with
          | some k => (v.ref k).present
          | none => true
        ((v.ref c).lastEdge = none → v.refEdge c t = v.onRef c (fun r => { r with present := whole, lastEdge := some t })) ∧
        ∀ l, (v.ref c).lastEdge = some l →
          (l + secs 2 + 65536000 < t → v.refEdge c t = (opLossOfSignal c v).onRef c (fun r => { r with present := whole, lastEdge := some t })) ∧
          (t ≤ l + secs 2 + 65536000 → inPpsWindow l t = true → v.refEdge c t = v.onRef c (fun r => { r with present := whole, lastEdge := some t })) ∧
          (t ≤ l + secs 2 + 65536000 → inPpsWindow l t = false → v.refEdge c t = v.onRef c (fun r => { r with windowFaults := newest 3 (t :: r.windowFaults) })))) ∧
    (u.gateEnd c = none → exec (.tiuGateEstimate now c) s = .next u) ∧
    (∀ stop seq, u.gateEnd c = some (stop, seq) →
      let e := regress u c (x.window.filter (fun r => decide (x.gateStart < r.stamp) && decide (r.stamp ≤ stop)))
      let ok := e.valid && decide (x.quiet ≤ x.gateStart)
      exec (.tiuGateEstimate now c) s = .next ((u.onChan c (fun y =>
        { y with freqGate := if ok then e.y else y.freqGate, gateStart := stop, gateSeq := seq, estStatus := setBit y.estStatus 1 ok })).takeLate
          (· == (0x3900 + c) * 256 + 4)))

/-- R109, R110, R120–R122, R125: the accumulator's commands touch only the servo and the accumulator. A control holds u within
CONTROL_RANGE and ends a ramp; a slew replaces the one in progress; a step waits for the boundary; a slew that completes takes its
remainder, with what it had used, out of φ_b; a ramp that has ended leaves u at its goal, and the phase that it added in φ_b; a servo that
restarts ramps to the held value or builds out again; and more than 600 s at the slope limit raise a fault. -/
def Obligations.AccumulatorCommands : Prop :=
  ∀ (s : State) (now rate : Nat) (v : Int),
    let w := s.atTime now
    let z := w.accrue
    (z = { w with servo := z.servo, accum := z.accum } ∧ z.servo.ramp = w.servo.ramp ∧ z.accum.u = w.accum.u ∧ z.accum.slewing = w.accum.slewing) ∧
    (∃ t, exec (.accumControl now v) s = .next t ∧ t = { w with servo := t.servo, accum := t.accum } ∧ t.servo.u = t.accum.u ∧
      t.servo.ramp = none ∧ t.accum.u = clampI (-w.range) w.range v ∧ -w.range ≤ t.accum.u ∧ t.accum.u ≤ w.range) ∧
    (∃ t, exec (.accumSlew now v rate) s = .next t ∧ t = { w with servo := t.servo, accum := t.accum } ∧ t.accum.slewLeft = v ∧
      t.accum.slewRate = rate ∧ t.accum.slewing = (v != 0) ∧ t.accum.u = w.accum.u) ∧
    exec (.accumStep v) s = .next { s with tb := { s.tb with pendStep := some v }, servo := { s.servo with stepKind := .plain } } ∧
    (w.accum.slewing = false → exec (.slewComplete now) s = .next z) ∧
    (w.accum.slewing = true → ∃ t : State, exec (.slewComplete now) s = .next t.settle ∧ t = { z with servo := t.servo, accum := t.accum } ∧
      t.accum.slewLeft = 0 ∧ t.accum.slewing = false ∧ t.servo.phiB = z.servo.phiB - z.accum.slewLeft ∧
      z.servo.phiB - z.accum.slewLeft = w.servo.phiB - w.accum.slewLeft) ∧
    (w.servo.ramp = none → exec (.freqRampEnd now) s = .next z) ∧
    (∀ r, w.servo.ramp = some r →
      (w.tb.lc < r.start + r.time → exec (.freqRampEnd now) s = .next z) ∧
      (r.start + r.time ≤ w.tb.lc →
        let a : State := { z with servo := { z.servo with ramp := none } }
        let b : State := { a with servo := { a.servo with phiB := a.servo.phiB + r.gain } }
        a.uNow = w.accum.u ∧
        (r.phase = false → exec (.freqRampEnd now) s = .next a) ∧
        (r.phase = true → r.align = false ∨ w.servo.stepWait = true → exec (.freqRampEnd now) s = .next b) ∧
        (r.phase = true → r.align = true → w.servo.stepWait = false →
          (w.accum.slewing = true → exec (.freqRampEnd now) s =
            .next { b with accum := { b.accum with slewLeft := b.accum.slewLeft + r.gain } }) ∧
          (w.accum.slewing = false → exec (.freqRampEnd now) s = .next b.alignSlew.settle)))) ∧
    (w.servo.suspended = false ∨ w.sc0Runs = false → exec (.servoRestart now) s = .next w) ∧
    (w.servo.suspended = true → w.sc0Runs = true → ∃ t, exec (.servoRestart now) s = .next t ∧ t = { w with servo := t.servo, accum := t.accum, sel := t.sel } ∧
      t.servo.suspended = false ∧ t.servo.i = w.uNow ∧ t.servo.lastT = none ∧
      (w.sel.current = 0xFF → w.pair.following = false → t.sel = w.sel ∧ t.servo.state = .holdover ∧ t.accum.u = clampI (-w.range) w.range w.ho.uh ∧
        t.servo.ramp = some ⟨w.uNow - t.accum.u, w.tb.lc, w.freqSlopeLimit, false, false⟩) ∧
      (w.sel.current ≠ 0xFF ∨ w.pair.following = true → t.servo.state = .buildOut ∧ t.accum.u = w.uNow ∧ t.servo.ramp = none ∧
        t.sel = { w.sel with switching := some (if w.switchingNow then w.leftRef else w.sel.current, w.tb.lc), state := 3 })) ∧
    (∀ t, w.servo.slopeSince = some t → (secs 600 < w.tb.lc - t → exec (.slopeLimitTimeout now) s = .next (w.raise 0x0401)) ∧
      (w.tb.lc - t ≤ secs 600 → exec (.slopeLimitTimeout now) s = .next w)) ∧
    (w.servo.slopeSince = none → exec (.slopeLimitTimeout now) s = .next w)

/-- R79, R81, R111–R113, R117, R121, R124, R210–R214: a measurement of a class T reference moves the loop only while the reference is
selected, and ends a build-out of it; one whose stamp is invalid, or that lies outside its window, is discarded, and one that jumps
disqualifies its reference; the girth is the sum of its five terms, unknown while one of them is; and a term whose input stays away
becomes unknown, unless the terms are frozen, and the girth with it while the servo cores write it. -/
def Obligations.MeasurementsAndGirth : Prop :=
  ∀ (s : State) (now n k status t : Nat) (p : Int),
    let u := s.atTime now
    (17 ≤ n ∨ u.engsRun = false ∨ u.classF n = true ∨ bit status 0 = false ∨ bit status 1 = true ∨ bit status 2 = true ∨ u.outOfWindow n t = true →
      exec (.servoMeasurement now n p status t) s = .next u.recalc) ∧
    (n < 17 → u.engsRun = true → u.classF n = false → bit status 0 = true → bit status 1 = false → bit status 2 = false → u.outOfWindow n t = false →
      (u.jumps n (p - u.stepsAfter t * 65536) t = true →
        let v := u.onRef n (fun r => { r with cause := setBit r.cause 1 true, phases := [(t, p - u.stepsAfter t * 65536)] })
        exec (.servoMeasurement now n p status t) s =
          .next (if (v.ref n).state.usable || (v.ref n).state == .soaking then v.moveRef n .disqualified else v).recalc) ∧
      (u.jumps n (p - u.stepsAfter t * 65536) t = false →
        let v := u.onRef n (fun r => { r with cause := setBit r.cause 1 false })
        let w := v.onRef n (fun r => { r with phaseOffset := p, lastMeas := some (t, p), phases := newest 128 ((t, p) :: r.phases), present := true })
        (u.stepsAfter t ≠ 0 → exec (.servoMeasurement now n p status t) s = .next v.recalc) ∧
        (u.stepsAfter t = 0 →
          (u.sel.current ≠ n ∨ u.servo.suspended = true ∨ u.pair.following = true → exec (.servoMeasurement now n p status t) s = .next w.recalc) ∧
          (u.sel.current = n → u.servo.suspended = false → u.pair.following = false →
            (u.switchingNow = true → u.sel.targetLost = true → exec (.servoMeasurement now n p status t) s = .next w.recalc) ∧
            (u.switchingNow = true → u.sel.targetLost = false → exec (.servoMeasurement now n p status t) s = .next (w.endBuildOut (some p)).recalc) ∧
            (u.switchingNow = false → (w.ref n).state.usable = true → exec (.servoMeasurement now n p status t) s = .next (w.followMeasure n p t).recalc) ∧
            (u.switchingNow = false → (w.ref n).state.usable = false → exec (.servoMeasurement now n p status t) s = .next w.recalc))))) ∧
    (∀ v : State, v.girthSum ≤ girthUnknown ∧
      (v.girth.b < girthUnknown → v.girth.m < girthUnknown → v.girth.sTerm < girthUnknown → v.girth.h < girthUnknown → v.girth.a < girthUnknown →
        v.girthSum = min girthUnknown (v.girth.b + v.girth.m + v.girth.sTerm + v.girth.h + v.girth.a)) ∧
      (girthUnknown ≤ v.girth.b ∨ girthUnknown ≤ v.girth.m ∨ girthUnknown ≤ v.girth.sTerm ∨ girthUnknown ≤ v.girth.h ∨ girthUnknown ≤ v.girth.a →
        v.girthSum = girthUnknown)) ∧
    (5 ≤ k ∨ u.girth.freeze ≠ .none → exec (.girthTermTimeout now k) s = .next u) ∧
    (k < 5 → u.girth.freeze = .none → u.pair.following = false ∨ (k ≠ 1 ∧ k ≠ 2) → ∃ v, exec (.girthTermTimeout now k) s = .next v ∧
      (u.girthRuns = true → v.girth.now = girthUnknown ∧ v.girth.written = true ∧ v.girth.growFrom = none) ∧
      (u.girthRuns = false → v.girth.now = u.girth.now ∧ v.girth.written = u.girth.written ∧ v.girth.growFrom = u.girth.growFrom) ∧ v.girth.lapsed = putKey k u.tb.lc u.girth.lapsed ∧ (k ≠ 0 → v.girth.b = u.girth.b) ∧ (k ≠ 1 → v.girth.m = u.girth.m) ∧
      (k ≠ 2 → v.girth.sTerm = u.girth.sTerm) ∧ (k ≠ 3 → v.girth.h = u.girth.h) ∧ (k ≠ 4 → v.girth.a = u.girth.a))

/-- R133, R135: the fit of the holdover model runs once every 3,600 anchors of the warm flag, with the DRAM available, the servo cores
clocked and at least 21,600 learnable entries, and then takes the fitted terms into use where the model is not frozen; otherwise the model stays as it is. -/
def Obligations.HoldoverLearning : Prop :=
  ∀ s : State,
    let l := s.ho.ring.filter (fun e => e.learnable && decide (s.ageOf e.aseq < s.hoLearnSpan))
    let due := (∃ k, s.ho.anchorsWarm = some k ∧ 0 < k ∧ k % 3600 = 0) ∧ s.engsRun = true ∧ s.dramReady = true ∧ 21600 ≤ l.length
    (¬ due → exec .hoLearnFit s = .next s) ∧
    (due → ∃ t, exec .hoLearnFit s = .next t ∧ t = { s with ho := t.ho } ∧ t.ho.learned = some (s.fitTerms l) ∧
      (s.ho.frozen = true → t.ho = { s.ho with learned := t.ho.learned }))

/-- R142–R150: what the oven's and the atomic pair's events do. A code outside the thermistor's range is a sensor fault, which heats no
more and ends the warm flag outside a reset, and 100 good ones end it; the loop's duty lies within its range and is 0 on a fault; the warm flag rises when
temperature and slope have held for 60 s, and falls on a sensor fault or after 10 s away; and the steering sentence is sent, answered, or
missed. -/
def Obligations.OvenAndAtomic : Prop :=
  ∀ (s : State) (now code seq st : Nat) (pin ok : Bool),
    let u := s.atTime now
    let n := ({ s with oven := { s.oven with warmPin := pin } } : State).noteWarm
    let o := s.takeOven
    let a := s.takeAtomic.takeRelay
    (∃ c f : Option Nat, n = { s with oven := { s.oven with
      warmPin := pin, warm := s.oven.warm && (s.start.inReset || s.oscType != 0 || !s.oven.sensorFault), condSince := c, awaySince := f } }) ∧
    (s.oscType ≠ 0 → exec (.ovenSample code pin) s = .next n) ∧
    (s.oscType = 0 → code < 256 ∨ 65280 < code → exec (.ovenSample code pin) s = .next ((({ n with
      oven := { n.oven with sensorFault := true, goodRun := 0, duty := 0 }, ho := { n.ho with faultGap := true } } : State).noteWarm).raise 0x0501)) ∧
    (s.oscType = 0 → 256 ≤ code → code ≤ 65280 →
      let v : State := { n with oven := { n.oven with sampleSum := n.oven.sampleSum + n.thermTemp code, samples := n.oven.samples + 1, goodRun := n.oven.goodRun + 1 } }
      (s.oven.sensorFault = false ∨ s.oven.goodRun < 99 → exec (.ovenSample code pin) s = .next v) ∧
      (s.oven.sensorFault = true → 99 ≤ s.oven.goodRun → exec (.ovenSample code pin) s =
        .next (({ v with oven := { v.oven with sensorFault := false } } : State).clearFault 0x0501))) ∧
    (o.oscType ≠ 0 → ∃ v : State, exec .ovenLoopStep s = .next v ∧ v = { o with oven := v.oven, ho := v.ho } ∧ v.oven.ambient = o.ambientEst ∧ v.oven.duty = 0 ∧
      v.oven.samples = 0 ∧ v.oven.warm = o.oven.warm) ∧
    (o.oscType = 0 → o.oven.samples = 0 → exec .ovenLoopStep s = .next ({ o with oven := { o.oven with ambient := o.ambientEst } } : State).noteWarm) ∧
    (o.oscType = 0 → o.oven.samples ≠ 0 → ∃ (v : State) (hot : Bool), exec .ovenLoopStep s = .next (v.level hot 0x0502) ∧
      v = { o with oven := v.oven, ho := v.ho } ∧ v.oven.temp = rdiv o.oven.sampleSum o.oven.samples ∧ v.oven.samples = 0 ∧ v.oven.overTemp = hot ∧
      (o.ovenTempMax * 10 ≤ v.oven.temp → hot = true) ∧ (o.oven.sensorFault = true ∨ hot = true → v.oven.duty = 0) ∧ v.oven.duty ≤ o.ovenDutyMax) ∧
    (∀ t, u.oven.condSince = some t → t + secs 60 ≤ u.tb.lc → u.oven.warm = false → u.tempCond = true → u.slopeCond = true →
      ∃ v : State, exec (.warmFlagRise now) s = .next v ∧ v.oven = { u.oven with warm := true } ∧
        v.ho = { u.ho with anchorsWarm := some (u.ho.anchorsWarm.getD 0), everValid := u.ho.everValid || decide (u.hoWindow ≤ 2 * u.ho.winCount) } ∧ (u.start.state = .warming → v.start.state = .acquiring) ∧ (u.start.state ≠ .warming → v.start = u.start)) ∧
    (u.oven.condSince = none ∨ u.oven.warm = true ∨ u.tempCond = false ∨ u.slopeCond = false → exec (.warmFlagRise now) s = .next u) ∧
    (u.oven.warm = true → u.start.inReset = false → (u.oscType = 0 ∧ u.oven.sensorFault = true) ∨ (u.awayCond = true ∧ ∃ t, u.oven.awaySince = some t ∧ t + secs 10 ≤ u.tb.lc) →
      exec (.warmFlagFall now) s = .next { u with oven := { u.oven with warm := false } }) ∧
    (u.oven.warm = false ∨ u.start.inReset = true ∨ ((u.oscType ≠ 0 ∨ u.oven.sensorFault = false) ∧ u.awayCond = false) → exec (.warmFlagFall now) s = .next u) ∧
    (let adj := a.atomic.adj + match a.atomicPin with
       | some n => if a.steers n then a.steerDelta n else 0
       | none => 0
     (a.atomicProto = 0 → exec .atomicSteerSend s = .next ({ a with atomic := { a.atomic with adj := adj } } : State).atomicMute) ∧
     (a.atomicProto = 1 → exec .atomicSteerSend s = .next
       { a with atomic := { a.atomic with adj := adj, sent := steerSentence a.atomic.seq adj, seq := (a.atomic.seq + 1) % 256 } }) ∧
     (a.atomicProto ≠ 0 → a.atomicProto ≠ 1 → exec .atomicSteerSend s = .next { a with atomic := { a.atomic with adj := adj } })) ∧
    (s.atomicProto ≠ 1 → exec (.atomicReplyRx ok seq st) s = .next s) ∧
    (s.atomicProto = 1 → ok = true → seq = (s.atomic.seq + 255) % 256 → st = 76 ∨ st = 85 ∨ st = 87 → exec (.atomicReplyRx ok seq st) s =
      .next (s.atomicStatus (if st = 76 then 3 else if st = 85 then 2 else 1))) ∧
    (s.atomicProto = 1 → ok = false ∨ seq ≠ (s.atomic.seq + 255) % 256 ∨ (st ≠ 76 ∧ st ≠ 85 ∧ st ≠ 87) → exec (.atomicReplyRx ok seq st) s =
      .next { s with atomic := { s.atomic with discarded := bump s.atomic.discarded } }) ∧
    exec .atomicSilentTimeout s = .next (s.setAtomic 0)

/-- R157–R163, R170, R174, R175: what the outputs do. A commit that is due loads every APLL of its mask and every output that it included;
an APLL that loses lock holds the girth of the outputs that run on and stops the others; an output starts at its start point when nothing
keeps it back, with its start counted, and stops at the end of its high phase; a loopback that stays away makes the position from which it was
placed its error, and an error within the limit leaves an output where it is; and a ToD sentence names the next edge of its source. -/
def Obligations.OutputCommands : Prop :=
  ∀ (s : State) (now n mask outs due : Nat),
    let u := s.atTime now
    (u.synth.pending = none → exec (.synthCommitApply now) s = .next u) ∧
    (u.synth.pending = some (mask, outs, due) →
      (2 ^ 31 ≤ (u.aseqNow + 2 ^ 32 - due) % 2 ^ 32 → exec (.synthCommitApply now) s = .next u) ∧
      ((u.aseqNow + 2 ^ 32 - due) % 2 ^ 32 < 2 ^ 31 → exec (.synthCommitApply now) s =
        .next ((bitList 16 outs).foldl State.loadOut ((bitList 4 mask).foldl State.loadApll { u with synth := { u.synth with pending := none } })))) ∧
    (∀ v : State, n < v.synth.aplls.length → (v.apllShadow n ≠ v.apll n ∨ (v.apll n).lock = 0) →
      ((v.loadApll n).apll n) = { v.apllShadow n with
        lock := if (v.apllShadow n).lock = 3 then 3 else 2, pull := Config.freeValue v.freeCount } ∧ bit (v.loadApll n).synth.relocking n = true) ∧
    (4 ≤ n ∨ (u.apll n).lock = 0 → exec (.outputApllLoss now n) s = .next u) ∧
    (n < 4 → (u.apll n).lock ≠ 0 →
      let v := ({ u with freeCount := u.freeCount + 1 } : State).onApll n (fun p => { p with lock := 3, loss := bump p.loss, pull := Config.freeValue u.freeCount })
      exec (.outputApllLoss now n) s = .next (((v.stopAll (fun o => o.apll = n && o.holdOnRelock)).onOuts (fun o =>
        if o.apll = n && o.running && !o.holdOnRelock then { o with girthHeld := true } else o)).raise 0x0007 n)) ∧
    (u.mayStart n = true → u.startPoint n = true → exec (.outputStart now n) s = .next ((u.onOut n (fun o =>
      { o with running := true, highZ := false, starts := bump o.starts, placed := 0, move := 0, heldTo := 0,
               highTo := 0, origin := u.tb.lc, frame := none, nextFrame := none })).putFrame n)) ∧
    (u.mayStart n = false ∨ u.startPoint n = false → exec (.outputStart now n) s = .next u) ∧
    ((u.out n).running = true → (u.outStop n).isSome = true ∨ (u.out n).committing = true → u.outHigh n = false ∨ (u.apll (u.out n).apll).lock = 3 →
      exec (.outputStop now n) s = .next (u.onOut n (fun o => { o with
        running := false, committing := false, frame := none, nextFrame := none, stream := none, move := 0, heldTo := 0, highTo := 0,
        highZ := !u.halterOn || o.idle == 1 }))) ∧
    ((u.out n).running = false ∨ (u.outStop n = none ∧ (u.out n).committing = false) ∨ (u.outHigh n = true ∧ (u.apll (u.out n).apll).lock ≠ 3) →
      exec (.outputStop now n) s = .next u) ∧
    ((u.out n).running = false ∨ u.targeted n = false → exec (.outputAlignCheck now n) s = .next u) ∧
    ((u.out n).running = true → u.targeted n = true →
      let m := u.settleMove n
      let done (v : State) : State := if v.misaligned n then v.correct n (v.out n).alignErr else
        v.onOut n (fun o => { o with girthHeld := o.girthHeld && v.inRelock n })
      (∀ e sd, u.loopStats n = some (e, sd) → exec (.outputAlignCheck now n) s =
        .next (done (m.onOut n (fun o => { o with alignErr := e, sigma := sd, loopDead := false })))) ∧
      (u.loopStats n = none → exec (.outputAlignCheck now n) s =
        .next (done (if (m.out n).loopDead then m.onOut n (fun o => { o with alignErr := m.wrapP n o.placed }) else m)))) ∧
    exec (.loopbackTimeout n) s = .next (s.onOut n (fun o => { o with loopDead := true, alignErr := s.wrapP n (s.placedAt n s.tb.lc) })) ∧
    (∀ (v : State) (p : Output → Bool), v.synth.outs.length = 16 → n < 16 →
      (p (v.out n) = true → (v.out n).running = true → ((v.stopAll p).out n).committing = true ∧ ((v.stopAll p).out n).running = true) ∧
      (p (v.out n) = false → (v.stopAll p).out n = v.out n)) ∧
    (let x := u.synth.tod.getD n TodTx.init
     (x.enable = true → u.start.inReset = false → u.synth.policy = false → u.todSourceOk x.source = true → u.todMoment x = true → exec (.todSentenceTx now n) s =
       .next { u with synth := { u.synth with
         tod := upd (fun y => { y with sent := some (u.todSentence n), line := (u.todSentence n).line, lastQl := (u.todSentence n).ql }) n u.synth.tod } }) ∧
     (x.enable = false ∨ u.start.inReset = true ∨ u.synth.policy = true ∨ u.todSourceOk x.source = false ∨ u.todMoment x = false →
       exec (.todSentenceTx now n) s = .next u) ∧
     (u.todSentence n).tai = u.nextEdge x.source ∧ (16 ≤ x.source → u.nextEdge x.source = (u.full / 65536000000000 + 1).toNat))

/-- R184–R191, R194, R207: what the events of the GNSS inputs, search engines and channels do. An input is aligned or lost; its
notches follow its mode; a jamming indicator at the threshold makes the received quality level DNU; an engine without a target takes one and, with
one, tests its cell; an engine whose work class is withheld pauses; a signal that is not pulled in or is lost idles its channel; and without the
clock the receiver stops, and GN0 with it. -/
def Obligations.GnssFrontEnd : Prop :=
  ∀ (s : State) (now k e stat flat : Nat) (power : Int) (lines : List (Int × Nat)) (full : List Nat),
    let u := s.atTime now
    exec (.gifAlign k) s = .next (s.onGif k (fun g => { g with status := setBit (setBit g.status 0 true) 1 true, slip := s.gifSlip k })) ∧
    (bit (s.gif k).status 0 = true → exec (.gifLost k) s = .next (({ (s.onGif k (fun g => { g with status := setBit g.status 0 false })) with
      gnss := { (s.onGif k (fun g => { g with status := setBit g.status 0 false })).gnss with ifLoss := true } } : State).raise 0x0801 k)) ∧
    (bit (s.gif k).status 0 = false → exec (.gifLost k) s = .next s) ∧
    (k < s.gnss.gifs.length →
      let seen := if s.gifInvert k then lines.map (fun y => (-y.1, y.2)) else lines
      let strong := seen.filter (fun y => decide (s.notchDetect k ≤ y.2))
      ∃ t : State, exec (.notchUpdate k lines full) s = .next t ∧ t = { s with gnss := { s.gnss with gifs := t.gnss.gifs, notchMoved := t.gnss.notchMoved } } ∧
        (t.gif k).notches = (if s.notchMode k = 1 then strong.foldl addNotch (keepNotches strong (s.gif k).notches)
          else if s.notchMode k = 2 then s.fixedNotches k else List.replicate 8 none)) ∧
    (k < s.gnss.gifs.length → s.refs.length = 17 → ∃ t : State, exec (.jamIndUpdate k power flat) s = .next t ∧
      t = { s with refs := t.refs, gnss := { s.gnss with gifs := t.gnss.gifs, jamDnu := t.gnss.jamDnu } } ∧
      (t.gif k).jam = s.jamValue k (power - s.agcQuiet k).toNat flat ∧ (∀ n, n ≠ 16 → t.ref n = s.ref n) ∧
      (s.gifEnable k = true → s.gnJamThreshold ≤ s.jamValue k (power - s.agcQuiet k).toNat flat → t.gnss.jamDnu = true ∧ (t.ref 16).qlRx = 0xF)) ∧
    (let x := u.gnss.engines.getD e Search.init
     (u.gnRuns = false ∨ 4 ≤ e ∨ x.paused = true ∨ x.waiting = true → exec (.acqStatistic now e stat) s = .next u) ∧
     (u.gnRuns = true → e < 4 → x.paused = false → x.waiting = false →
       (bit u.engs.gated 3 = true → x.target = none → exec (.acqStatistic now e stat) s = .next (u.pauseEngine e)) ∧
       (bit u.engs.gated 3 = true → x.target ≠ none → exec (.acqStatistic now e stat) s = .next ((u.statistic e stat).pauseEngine e)) ∧
       (bit u.engs.gated 3 = false →
         (x.target = none → u.ageTargets.nextTarget = none → exec (.acqStatistic now e stat) s = .next u.ageTargets) ∧
         (x.target = none → ∀ t, u.ageTargets.nextTarget = some t → exec (.acqStatistic now e stat) s =
           .next (u.ageTargets.setSearch e { Search.init with target := some (t.sig, t.svid), grid := u.ageTargets.gridOf t })) ∧
         ∀ t, x.target = some t →
           (x.verifying = false → x.grid.threshold ≤ stat → exec (.acqStatistic now e stat) s =
             .next (u.setSearch e { x with verifying := true, retests := 4, hits := 0 })) ∧
           (x.verifying = false → stat < x.grid.threshold → exec (.acqStatistic now e stat) s = .next (u.nextCell e x t)) ∧
           (x.verifying = true →
             let y := { x with retests := x.retests - 1, hits := x.hits + b2n (decide (x.grid.threshold ≤ stat)) }
             exec (.acqStatistic now e stat) s = .next (if 0 < y.retests then u.setSearch e y else if 3 ≤ y.hits then u.handOver e y t else u.nextCell e y t))))) ∧
    (∀ t, s.track k = some t → t.state = 1 → exec (.pullInTimeout k) s = .next (s.idleTrack k false)) ∧
    ((∀ t, s.track k = some t → t.state ≠ 1) → exec (.pullInTimeout k) s = .next s) ∧
    ((u.track k).isSome = true → exec (.trackChannelLost now k) s = .next ((u.idleTrack k true).raise 0x0802 k)) ∧
    (u.track k = none → exec (.trackChannelLost now k) s = .next u) ∧
    (u.group 6 = 0 → exec (.gnssClockLoss now) s = .next u) ∧
    (u.group 6 ≠ 0 →
      let v := (u.setGroup 6 0).gnStop
      exec (.gnssClockLoss now) s = .next ((opLossOfSignal 16 { v with gnss := { v.gnss with clock := false, solStatus := 0, verified := false } }).raise 0x0008)) ∧
    (u.group 6 = 1 → exec (.gnssClockReturn now) s = .next u) ∧
    (u.group 6 ≠ 1 →
      let v := u.setGroup 6 1
      let v := { v with gnss := { v.gnss with clock := true } }
      exec (.gnssClockReturn now) s = .next ((if v.gnEnable then v.gnStart true else v).clearFault 0x0008))

/-- R193–R206: what the epochs, records, navigation data and position checks of the receiver do. An epoch queues a record with its number,
which a TIU stamp on channel 0x1C bears too, and drops the oldest when the queue is full, whose epoch then has no solution; the record and the stamp make a solution, which measures reference 16
when it is valid; a unit that fails its check is counted and nothing else; the survey's mean is held; and a second whose position is too far from the held one
is counted. -/
def Obligations.GnssSolution : Prop :=
  ∀ (s : State) (now bin ch n : Nat) (obs : List TrkObs) (unit : NavUnit) (sol : Option GnSol) (x y z : Int),
    let u := s.atTime now
    (u.gnRuns = false → exec (.gnssEpoch now bin obs) s = .next u) ∧
    (u.gnRuns = true →
      let w := u.epochBoundary obs
      ∃ (v : State) (b : List Byte) (r : EpochRec), exec (.gnssEpoch now bin obs) s = .next (
          let y := ((v.tap 3 0 false b).tiuEdge now 28 bin).afterEpoch
          if Config.gnssQueueDepth ≤ w.gnss.epochs.length then y.countEpoch false else y) ∧
        v = { w with gnss := v.gnss } ∧
        v.gnss.epochs = (if Config.gnssQueueDepth ≤ w.gnss.epochs.length then w.gnss.epochs.drop 1 else w.gnss.epochs) ++ [r] ∧ r.seq = w.gnss.epochSeq ∧
        v.gnss.epochSeq = bump w.gnss.epochSeq ∧ v.gnss.ifLoss = false ∧ v.gnss.notchMoved = false ∧
        v.gnss.epochDropped = decide (Config.gnssQueueDepth ≤ w.gnss.epochs.length)) ∧
    (u.gnss.epochs = [] ∨ u.engsRun = false → exec (.gnssMeasRecord now sol) s = .next u) ∧
    (∀ e rest, u.gnss.epochs = e :: rest → u.engsRun = true →
      let w : State := { u with gnss := { u.gnss with epochs := rest } }
      ((w.chan 28).window.find? (·.edge % 4294967296 == e.seq) = none → exec (.gnssMeasRecord now sol) s = .next
        (({ w with gnss := { w.gnss with droppedEpochs := bump w.gnss.droppedEpochs, solStatus := 9, verified := false } } : State).gnQl.countEpoch false)) ∧
      (∀ r, (w.chan 28).window.find? (·.edge % 4294967296 == e.seq) = some r →
        let x := sol.getD ⟨[], (0, 0, 0)⟩
        let q := w.solve e x
        let edge := w.extend (r.stamp % 2 ^ 48) r.status
        let code := w.solCode (stampGood r.status && edge.isSome) q
        let t := w.takeSol code q
        let t : State := { t with gnss := { t.gnss with dynPos := if t.heldPosition.isSome then t.dynamicPos e x else none } }
        (code = 0 ∨ 3 < code → exec (.gnssMeasRecord now sol) s = .next (t.countEpoch false)) ∧
        (1 ≤ code → code ≤ 3 →
          let t := t.countEpoch true
          let off := q.tai - edge.getD 0
          exec (.gnssMeasRecord now sol) s = .next (opMeasure 16 off r.status r.stamp
            (({ t with gnss := { t.gnss with timeOffset := off } } : State).surveyEpoch q.pos)).recalc))) ∧
    (u.track ch = none ∨ 16 ≤ ch ∨ u.gnRuns = false → exec (.navBitRecord now ch unit) s = .next u) ∧
    (∀ t, u.track ch = some t → (t.sig = 9 → exec (.navBitRecord now ch unit) s = .next u) ∧ (ch < 16 → u.gnRuns = true → t.sig ≠ 9 →
      let a := u.onSv t.sig t.svid (fun d => { d with navAt := some u.tai })
      let v := a.tap 4 0 false (a.navBytes ch t.sig t.svid unit)
      (bit unit.nflags 4 = true → exec (.navBitRecord now ch unit) s = .next a) ∧
      (bit unit.nflags 4 = false → bit unit.nflags 1 = false → exec (.navBitRecord now ch unit) s = .next { v with gnss := { v.gnss with navErrors := bump v.gnss.navErrors } }) ∧
      (bit unit.nflags 4 = false → bit unit.nflags 1 = true → ∃ b : State,
        exec (.navBitRecord now ch unit) s = .next (match unit.leap with | some l => (b.osnmaStep t.sig t.svid unit.osnma).gnLeap t.sig l | none => b.osnmaStep t.sig t.svid unit.osnma) ∧
        b = { v with gnss := b.gnss } ∧ (unit.elev = none → unit.bcast = none → b = v.onSv t.sig t.svid (fun d => d.takeEph v.tai unit))))) ∧
    (s.gnPosMode = 1 → s.gnss.position = none → s.gnss.surveyLeft = 0 → n = s.gnss.surveyCount → 0 < n → s.gnss.surveySum = (x, y, z) →
      exec .surveyComplete s = .next { s with gnss := { s.gnss with position := some (rdiv x n, rdiv y n, rdiv z n) } }) ∧
    (s.gnPosMode ≠ 1 ∨ s.gnss.position ≠ none ∨ s.gnss.surveyLeft ≠ 0 ∨ s.gnss.surveyCount = 0 → exec .surveyComplete s = .next s) ∧
    (s.heldPosition = none ∨ s.gnss.dynPos = none → exec .gnPosCheck s = .next { s with gnss := { s.gnss with dynPos := none, posMismatch := 0 } }) ∧
    (∀ a b c, s.heldPosition = some (a, b, c) → s.gnss.dynPos = some (x, y, z) → ∃ far : Bool, exec .gnPosCheck s =
      .next { s with gnss := { s.gnss with dynPos := none, posMismatch := if far then s.gnss.posMismatch + 1 else 0 } } ∧
      (far = true ↔ ((s.gnPosTol : Nat) : Int) ^ 2 < (x - a) ^ 2 + (y - b) ^ 2 + (z - c) ^ 2))

/-- R234, R242, R243, R245, R252, R283: what the events of the quads, ports and peer lanes do. A reference clock that is lost puts every port of its
quad down and raises its fault, which its return clears, and leaves a powered-down quad so; a bring-up runs through its stages, never back, while its
port is enabled and its quad locked, keeps the CTLE code of the best of its 32 scans, takes the partner's taps while it trains, and starts
again on every lane of the port when training fails, and a peer lane's runs likewise without training; a link is up once every lane
of its port is complete, aligns and blocks, opens after its block time, holds when it is lost, with every lane of its port counted, and is flushed when
the hold has expired; and the other peer lane takes over where it is up, and gives the preferred one its place back 10 s after that has
come up. An event that finds its condition unmet changes nothing. -/
def Obligations.LinkEvents : Prop :=
  ∀ (s : State) (now l stage p : Nat) (scans : List (Nat × Nat)) (f g h : Int),
    let u := s.atTime now
    let k := u.portOf l
    let x := u.lane l
    let y := u.peerLane (l - 32)
    let ready := u.portEnabled k = true ∧ (u.quad (k / 4)).state = 2 ∧ u.linkUp k = false
    let score := fun c : Nat × Nat => figureOfMerit c.1 c.2
    (∀ c ∈ scans, score c ≤ score (scans.getD (bestCode scans) (0, 0))) ∧
    (p < 8 → (u.quad p).mode ≠ 0 → exec (.qrefLoss now p) s = .next
      ((((u.quadPorts p).foldl (fun v k => (v.downLanes k 1).holdPort k) u).onQuad p (fun x => { x with state := 3, refLost := true })).raise 0x0009 p)) ∧
    (p < 8 → (u.quad p).mode = 0 → exec (.qrefLoss now p) s = .next (u.onQuad p (fun x => { x with state := 0, refLost := true }))) ∧
    (8 ≤ p → exec (.qrefLoss now p) s = .next ((u.quadPorts p).foldl (fun v k => (v.downLanes k 1).holdPort k) u)) ∧
    ((u.quad p).refLost = true → exec (.qrefReturn now p) s = .next ((u.onQuad p (fun x => { x with refLost := false })).clearFault 0x0009 p)) ∧
    ((u.quad p).refLost = false → exec (.qrefReturn now p) s = .next u) ∧
    (l < 32 →
      (¬ ready → exec (.linkBringUp now l stage scans f g h) s = .next u) ∧
      (ready → exec (.linkBringUp now l 1 scans f g h) s = .next (u.beginLane l)) ∧
      (ready → stage ≠ 1 →
        let st := stageOf x.state stage (u.trains l)
        let sweeps := 2 ≤ st ∧ scans.length = 32 ∧ x.ctleMode ≠ 2
        (sweeps → exec (.linkBringUp now l stage scans f g h) s = .next (u.onLane l (fun z =>
          { z with state := st, swept := true, ctle := bestCode scans, fir := if st = 3 ∧ firIn (f, g, h) = true then (f, g, h) else z.fir }))) ∧
        (¬ sweeps → exec (.linkBringUp now l stage scans f g h) s = .next (u.onLane l (fun z =>
          { z with state := st, fir := if st = 3 ∧ firIn (f, g, h) = true then (f, g, h) else z.fir })))) ∧
      (u.portEnabled k = true → (u.quad (k / 4)).state = 2 → u.laneReady l = true →
        let v := u.onLane l (fun z => { z with done := true })
        ((v.portLanes k).all (fun i => (v.lane i).done) = true → exec (.linkUp now l) s =
          .next (((((v.portLanes k).foldl State.upLane v).onLane k (fun z => { z with stampState := 1 })).setFwd k 2).ptpLink k)) ∧
        ((v.portLanes k).all (fun i => (v.lane i).done) = false → exec (.linkUp now l) s = .next v))) ∧
    (32 ≤ l ∨ u.portEnabled k = false ∨ (u.quad (k / 4)).state ≠ 2 ∨ u.laneReady l = false → exec (.linkUp now l) s = .next u) ∧
    (32 ≤ l →
      let peer := bit u.peerLaneEnable (l - 32) = true ∧ y.state ≠ 5
      (¬ peer → exec (.linkBringUp now l stage scans f g h) s = .next u) ∧
      (peer → exec (.linkBringUp now l 1 scans f g h) s = .next (u.beginPeer (l - 32))) ∧
      (peer → stage ≠ 1 →
        let st := stageOf y.state stage false
        (2 ≤ st → scans.length = 32 → exec (.linkBringUp now l stage scans f g h) s =
          .next (u.onPeer (l - 32) (fun z => { z with state := st, swept := true, ctle := bestCode scans }))) ∧
        (st < 2 ∨ scans.length ≠ 32 → exec (.linkBringUp now l stage scans f g h) s = .next (u.onPeer (l - 32) (fun z => { z with state := st }))))) ∧
    (∀ old trains, old ≤ stageOf old stage trains ∧ (stageOf old stage trains = stage ∨ stageOf old stage trains = old) ∧
      (stageOf old 3 false = old) ∧ (1 ≤ old → old ≤ stage → stage < 5 → stage ≠ 3 ∨ trains = true → stageOf old stage trains = stage)) ∧
    (let trainFails := x.state ≠ 0 ∧ x.state ≠ 5 ∧ (x.train = 2 ∨ u.trains l = true)
     (trainFails → exec (.trainingTimeout now l) s =
       .next (((u.portLanes k).foldl State.beginLane u).onLane l (fun z => { z with trainFails := bump z.trainFails }))) ∧
     (¬ trainFails → exec (.trainingTimeout now l) s = .next u)) ∧
    (u.linkUp k = true →
      let v := (((u.portLanes k).foldl (fun v i => v.onLane i (fun x => { x with retrains := bump x.retrains })) u).downLanes k 1).holdPort k
      exec (.linkLoss now l) s = .next v ∧ exec (.blockLockLossTimeout now l) s = .next v) ∧
    (u.linkUp k = false → exec (.linkLoss now l) s = .next u ∧ exec (.blockLockLossTimeout now l) s = .next u) ∧
    (let open' := (u.yport p).fwd = 2 ∧ u.linkUp p = true ∧ (u.yport p).since + millis (u.portBlockTime p) ≤ u.tb.lc
     (open' → exec (.blockTimeExpire now p) s = .next ((u.setFwd p 3).ptpLink p)) ∧ (¬ open' → exec (.blockTimeExpire now p) s = .next u)) ∧
    (let gone := (u.yport p).fwd = 1 ∧ u.linkUp p = false ∧ (u.yport p).since + 1000 * nsUnits * u.portDownHold p < u.tb.lc
     (gone → exec (.downHoldExpire now p) s = .next ((u.setFwd p 0).flushPort p)) ∧ (¬ gone → exec (.downHoldExpire now p) s = .next u)) ∧
    (let other := u.net.peerActive < 2 ∧ u.peerUp (1 - u.net.peerActive) = true
     (other → exec (.peerLaneSwitch now) s = .next (u.peerSwitch (1 - u.net.peerActive))) ∧ (¬ other → exec (.peerLaneSwitch now) s = .next u)) ∧
    (let back := u.net.peerActive < 2 ∧ u.net.peerActive ≠ u.peerPrefer ∧ u.peerUp u.peerPrefer = true ∧ (u.peerLane u.peerPrefer).upAt + secs 10 ≤ u.tb.lc
     (back → exec (.peerLaneRevert now) s = .next (u.peerSwitch u.peerPrefer)) ∧ (¬ back → exec (.peerLaneRevert now) s = .next u))

/-- R238–R242, R246–R250: what the scans and signals of a lane do. A scan of an awake lane that is up gives the figure of merit, which is at most 1023,
and counts it against both thresholds, as one of a peer lane does; a figure that was below its warning for 1 s is reported once, and one below its minimum retrains
the port or takes the peer lane down; the CTLE moves one code toward a neighbour whose 1 ms scan scores at least 16 more; a lane sleeps only where sleep is
permitted, nothing waits and its idle time has passed, and a timing port's lane whose partner sleeps is counted, reported once and loses its references, and
holds its taps; and an ESMC PDU that bears the quality level joins its port's queue, unless it is an event and nothing has changed, and is counted once it has been
sent. -/
def Obligations.LaneSignals : Prop :=
  ∀ (s : State) (now l v w vlo wlo vhi whi tx st ins : Nat) (q : Nat) (e asleep : Bool),
    let u := s.atTime now
    let lo := figureOfMerit vlo wlo
    let hi := figureOfMerit vhi whi
    let x := u.lane l
    let pl := u.peerLane (l - 32)
    let fom := figureOfMerit v w
    (fom ≤ 1023 ∧ (200000 ≤ v → 1000000 ≤ w → fom = 1023)) ∧
    (l < 32 → s.net.lanes.length = 32 → (s.lane l).state = 5 → (s.lane l).rxSleep = false → ∃ t : State, exec (.eyeScan l v w) s = .next t ∧ (t.lane l).fom = fom ∧
      (t.laneDfe l).length = 12 ∧ (t.lane l).lowRun = (if fom < s.laneFomWarn l then (s.lane l).lowRun + 1 else 0) ∧
      (t.lane l).minRun = (if fom < s.laneFomMin l then (s.lane l).minRun + 1 else 0) ∧ ((s.lane l).warnArmed = true → (t.lane l).warnArmed = true) ∧
      (∀ k, k ≠ l → t.lane k = s.lane k) ∧ t = { s with net := { s.net with lanes := t.net.lanes } }) ∧
    (l < 32 → (s.lane l).state ≠ 5 ∨ (s.lane l).rxSleep = true → exec (.eyeScan l v w) s = .next s) ∧
    (32 ≤ l → s.peerUp (l - 32) = false → exec (.eyeScan l v w) s = .next s) ∧
    (32 ≤ l → l - 32 < s.net.peers.length → s.peerUp (l - 32) = true → ∃ t : State, exec (.eyeScan l v w) s = .next t ∧ (t.peerLane (l - 32)).fom = fom ∧
      (t.peerLane (l - 32)).lowRun = (if fom < 200 then (s.peerLane (l - 32)).lowRun + 1 else 0) ∧
      (t.peerLane (l - 32)).minRun = (if fom < 32 then (s.peerLane (l - 32)).minRun + 1 else 0) ∧
      t = { s with net := { s.net with peers := t.net.peers } }) ∧
    (l < 32 →
      (100 ≤ x.lowRun → x.warnArmed = true → exec (.fomWarnTimeout now l) s = .next ((u.onLane l (fun y => { y with warnArmed := false })).raise 0x0902 l)) ∧
      (x.lowRun < 100 ∨ x.warnArmed = false → exec (.fomWarnTimeout now l) s = .next u) ∧
      (100 ≤ x.minRun → exec (.fomMinTimeout now l) s = .next (opRetrain l u)) ∧
      (x.minRun < 100 → exec (.fomMinTimeout now l) s = .next u)) ∧
    (32 ≤ l →
      (100 ≤ pl.lowRun → pl.warnArmed = true → exec (.fomWarnTimeout now l) s =
        .next ((u.onPeer (l - 32) (fun y => { y with warnArmed := false })).raise 0x0902 l)) ∧
      (pl.lowRun < 100 ∨ pl.warnArmed = false → exec (.fomWarnTimeout now l) s = .next u) ∧
      (100 ≤ pl.minRun → pl.state = 5 → exec (.fomMinTimeout now l) s = .next (opPeerLaneDown (l - 32) u)) ∧
      (pl.minRun < 100 ∨ pl.state ≠ 5 → exec (.fomMinTimeout now l) s = .next u)) ∧
    (let adapts := x.ctleMode = 1 ∧ x.state = 5 ∧ x.rxSleep = false
     let up := x.ctle < 31 ∧ x.fom + 16 ≤ hi
     let down := 0 < x.ctle ∧ x.fom + 16 ≤ lo
     let moved := fun code => u.onLane l (fun y => { y with ctle := code, ctleChanges := y.ctleChanges + 1, ctleAt := some u.tb.lc })
     let counted := fun t : State => if t.portCtleUncMax (t.portOf l) < 3 * (t.lane l).ctleChanges then t.onLane l (fun y => { y with ctleOver := true }) else t
     (adapts → up → ¬ down ∨ lo ≤ hi → exec (.ctleAdapt now l vlo wlo vhi whi) s = .next (counted (moved (x.ctle + 1)))) ∧
     (adapts → down → ¬ up ∨ hi < lo → exec (.ctleAdapt now l vlo wlo vhi whi) s = .next (counted (moved (x.ctle - 1)))) ∧
     (¬ adapts ∨ (¬ up ∧ ¬ down) → exec (.ctleAdapt now l vlo wlo vhi whi) s = .next u)) ∧
    (let rests := s.sleepPermitted l = true ∧ (s.lane l).state = 5 ∧ (∀ q < 8, (s.queue (8 * s.portOf l + q)).copies = []) ∧
       max (s.yport (s.portOf l)).busyUntil ((s.yport (s.portOf l)).emptyAt + s.lpiIdle l) ≤ s.tb.lc
     (rests → exec (.lpiTxSleep l) s = .next (s.onLane l (fun y => { y with txSleep := true }))) ∧ (¬ rests → exec (.lpiTxSleep l) s = .next s)) ∧
    (x.state ≠ 5 → exec (.lpiRxSignal now l asleep) s = .next u) ∧
    (x.state = 5 → exec (.lpiRxSignal now l false) s = .next (u.onLane l (fun y => { y with rxSleep := false }))) ∧
    (x.state = 5 → u.timingPort l = false →
      exec (.lpiRxSignal now l true) s = .next ((u.holdTaps l).onLane l (fun y => { y with rxSleep := true }))) ∧
    (l < u.net.lanes.length → x.state = 5 → u.timingPort l = true →
      let w := (u.holdTaps l).onLane l (fun y => { y with rxSleep := true, lpiUnexpected := bump y.lpiUnexpected, lpiRaised := true })
      exec (.lpiRxSignal now l true) s = .next ((if x.lpiRaised then w else w.raise 0x0903 l).seLost l)) ∧
    (u.engsRun = true → u.esmcTxEnable l = true → u.isPort l = true → ∀ c ∈ [(Instr.esmcTx now l, false), (.esmcEventTx now l, true)],
      (c.2 = true → u.esmcQl l = x.esmcQl → exec c.1 s = .next u) ∧
      (c.2 = false ∨ u.esmcQl l ≠ x.esmcQl → exec c.1 s =
        .next (u.sendOwnFrom 2 l (.esmc (u.esmcQl l) c.2) { blankFrame l 64 with etherType := 0x8809, esmc := true } 0 0).1)) ∧
    (s.ownSent l tx st ins (.esmc q e) = s.onLane l (fun y => { y with esmcQl := q, esmcSent := bump y.esmcSent, esmcPdu := some (ssmOf q, essmOf q, e) })) ∧
    (u.engsRun = false ∨ u.esmcTxEnable l = false ∨ u.isPort l = false → exec (.esmcTx now l) s = .next u ∧ exec (.esmcEventTx now l) s = .next u)

/-- R257, R258, R263, R265, R266, R269–R271, R273, R277, R279, R280, R283: what the stamp units and the yard do. An alignment that the last five measurements
agree on makes a port's stamps valid, and one that they do not agree on raises its fault, not before 100 ms of link; while a loop
measurement runs its frames leave, one a millisecond, and come back stamped, and once all have left, a deviation of at most 10 ps puts half the
mean's excess into both entries of the port, and a larger one or none that came back is a failure; a frame on an open port of its VLAN is taken with the
stamp of its bit, and any other is counted and dropped for the first reason that applies; a queue takes no more than its maximum; queue 7
sends first; a learned address ages out; and a request to a host address is answered while the engines run, at most 1,000 times
in a second. -/
def Obligations.PortsAndYard : Prop :=
  ∀ (s w : State) (now p l arx atx h mac vid tw mark cells a : Nat) (f : Frame) (c : Copy) (t : Term) (timing mirror lost : Bool),
    let u := s.atTime now
    let v := u.onLane f.lane (fun x => { x with fecCorr := bumpBy x.fecCorr f.fecCorr, fecUncorr := bumpBy x.fecUncorr f.fecUncorr })
    exec (.interpCal now l) s = .next ((u.onLane l (fun x => { x with spanCal := some u.tb.lc, spanFault := false })).clearFault 0x0701 l) ∧
    ((s.lane l).state = 5 → exec (.alignMeasure l arx atx) s = .next (s.onLane l (fun x => { x with aligns := newest 10 ((arx, atx) :: x.aligns) }))) ∧
    ((s.lane l).state ≠ 5 → exec (.alignMeasure l arx atx) s = .next s) ∧
    ((u.lane p).stampState = 1 ∨ (u.lane p).stampState = 3 → (u.lane p).upAt + millis 100 ≤ u.tb.lc →
      ((∀ k ∈ u.portLanes p, (u.lane k).agrees = true) → exec (.alignDecide now p) s = .next
        (((((u.portLanes p).foldl (fun w k => w.onLane k (fun x => { x with aRx := ((newest 5 x.aligns).head?.map (·.1)).getD 0, aTx := ((newest 5 x.aligns).map (·.2)).sum / 5 })) u).onLane
          p (fun x => { x with stampState := 2 })).clearFault 0x0702 p).ptpLink p)) ∧
      ((∃ k ∈ u.portLanes p, (u.lane k).agrees = false) →
        ((u.lane p).stampState = 1 → exec (.alignDecide now p) s = .next (((u.onLane p (fun x => { x with stampState := 3 })).raise 0x0702 p).ptpLink p)) ∧
        ((u.lane p).stampState = 3 → exec (.alignDecide now p) s = .next u))) ∧
    ((u.lane p).stampState ≠ 1 ∧ (u.lane p).stampState ≠ 3 ∨ u.tb.lc < (u.lane p).upAt + millis 100 → exec (.alignDecide now p) s = .next u) ∧
    (let x := s.lane p
     let n := x.calGot
     let excess := x.calSum - n * s.portCalLoopDelay p
     let root := rootRatio (n * x.calSq - (x.calSum * x.calSum).toNat) (n * n)
     let small := 1000000 * (n * x.calSq - (x.calSum * x.calSum).toNat) ≤ (10 * 65536) ^ 2 * n ^ 2
     let ended := fun status => s.onLane p (fun y => { y with calE := rdiv x.calSum n - s.portCalLoopDelay p, calSigma := root, calStatus := status })
     (x.calStatus = 1 → 4096 ≤ x.calSent → 0 < n →
       (small → exec (.portCalLoopDone p) s = .next (((ended 2).putCalValue (eid 3 p) (rdiv excess (2 * n))).putCalValue (eid 4 p) (rdiv excess (2 * n)))) ∧
       (¬ small → exec (.portCalLoopDone p) s = .next (ended 3))) ∧
     (x.calStatus = 1 → 4096 ≤ x.calSent → n = 0 → exec (.portCalLoopDone p) s = .next
       (s.draw.2.draw.2.onLane p (fun y => { y with calE := s.draw.1, calSigma := s.draw.2.draw.1, calStatus := 3 }))) ∧
     (x.calStatus ≠ 1 ∨ x.calSent < 4096 → exec (.portCalLoopDone p) s = .next s)) ∧
    (u.isPort f.port = false ∨ u.linkUp f.port = false → exec (.frameIngress now f) s = .next u) ∧
    (u.isPort f.port = true → u.linkUp f.port = true →
      (f.overflow = true ∨ u.coreRuns = false → exec (.frameIngress now f) s = .next (v.onLane f.port (fun x => { x with rxDrop := bump x.rxDrop }))) ∧
      (f.overflow = false → u.coreRuns = true →
        let pos := v.stampBit f.lane f.mark
        let w := if f.stampLost then v.onLane f.port (fun x => { x with stampsDropped := bump x.stampsDropped }) else v
        let bad := f.fcsOk = false ∨ f.truncated = true
        ((w.lane f.port).calStatus = 1 →
          (f.cal = none → exec (.frameIngress now f) s = .next (w.onLane f.port (fun x => { x with calDropped := bump x.calDropped }))) ∧
          (∀ n, f.cal = some n →
            ((w.lane f.port).calTx.lookup n = none → exec (.frameIngress now f) s = .next w) ∧
            (∀ sent, (w.lane f.port).calTx.lookup n = some sent →
              let d := (w.rxPrime f.lane f.tw pos : Int) - sent
              (bad ∨ f.stampLost = true → exec (.frameIngress now f) s =
                .next (w.onLane f.port (fun x => { x with calTx := x.calTx.filter (·.1 != n) }))) ∧
              (¬ bad → f.stampLost = false → exec (.frameIngress now f) s = .next (w.onLane f.port (fun x =>
                { x with calTx := x.calTx.filter (·.1 != n), calGot := x.calGot + 1, calSum := x.calSum + d, calSq := x.calSq + (d * d).toNat })))))) ∧
        ((w.lane f.port).calStatus ≠ 1 →
          let w := w.settleTails
          let rx := w.rxStamp f.lane f.tw pos
          let st := w.rxStatus f.port f.lane (w.edgeTime f.lane f.tw pos) f.len f.stampLost
          let st := if f.truncated then setBit st 0 false else st
          let z := if f.truncated then w.onYPort f.port (fun y => { y with rxTrunc := bump y.rxTrunc })
            else if f.fcsOk then w else w.onYPort f.port (fun y => { y with fcsErr := bump y.fcsErr })
          let shut := z.onYPort f.port (fun y => { y with blockDrops := bump y.blockDrops })
          (f.esmc = false → (z.yport f.port).fwd ≠ 3 →
            (f.pause = false → exec (.frameIngress now f) s = .next shut) ∧
            (f.pause = true → exec (.frameIngress now f) s = .next (shut.onYPort f.port (fun y => { y with ctrlDrops := bump y.ctrlDrops })))) ∧
          (f.esmc = true ∨ (z.yport f.port).fwd = 3 → f.pause = true →
            exec (.frameIngress now f) s = .next (z.onYPort f.port (fun y => { y with ctrlDrops := bump y.ctrlDrops }))) ∧
          (f.pause = false → f.esmc = true →
            (bad → exec (.frameIngress now f) s = .next z) ∧ (¬ bad → exec (.frameIngress now f) s = .next (z.mirrorRx (z.vidOf f) rx st f))) ∧
          (f.pause = false → f.esmc = false → (z.yport f.port).fwd = 3 →
            (z.vlanMember (z.vidOf f) f.port = false →
              exec (.frameIngress now f) s = .next (z.onYPort f.port (fun y => { y with vlanDrops := bump y.vlanDrops }))) ∧
            (z.vlanMember (z.vidOf f) f.port = true → exec (.frameIngress now f) s = .next (z.frameIn f (z.vidOf f) rx st)))))) ∧
    (u.account p cells timing mirror = some a → (u.queue p).depth + cells ≤ u.queueMax p) ∧
    (let u := s.ptpTime now
     (u.coreRuns = true → u.isPort p = true → u.linkUp p = true → 2 ≤ (u.yport p).fwd → (u.yport p).busyUntil ≤ u.tb.lc →
       let z := u.settleTails
       (u.calDue p = true → u.launchBars p 64 = false → ∃ x : State, exec (.egressSelect now p l tw mark lost) s = .next x ∧
         (p < u.net.lanes.length → (x.lane p).calSent = (u.lane p).calSent + 1 ∧ (x.lane p).calNext = (u.lane p).calNext + millis 1 ∧
           (lost = false → (x.lane p).calTx.head? = some ((u.lane p).calSent, (u.txPrime l tw (u.stampBit l mark) : Int)))) ∧
         x = { u with net := { u.net with lanes := x.net.lanes }, yard := { u.yard with ports := x.yard.ports } }) ∧
       (u.calDue p = false → (∀ q < 8, ∀ x ∈ (z.queue (8 * p + q)).copies, x.ct = false ∧ x.event = false) →
         ((z.joined (8 * p + 7)).head? = some c → z.ntsHead p = none →
           (c.launched.isSome = true ∨ z.launchBars p c.frame.len = false →
             exec (.egressSelect now p l tw mark lost) s = .next (z.send p (8 * p + 7) l tw (u.stampBit l mark) lost c)) ∧
           (c.launched.isSome = false → z.launchBars p c.frame.len = true → exec (.egressSelect now p l tw mark lost) s = .next z)) ∧
         ((∀ q < 8, z.joined (8 * p + q) = []) → exec (.egressSelect now p l tw mark lost) s = .next z))) ∧
     (u.coreRuns = false ∨ u.isPort p = false ∨ u.linkUp p = false ∨ (u.yport p).fwd < 2 ∨ u.tb.lc < (u.yport p).busyUntil →
       exec (.egressSelect now p l tw mark lost) s = .next u)) ∧
    (u.coreRuns = true → exec (.fdbAgeOut now mac vid) s = .next
      { u with yard := { u.yard with fdb := u.yard.fdb.filter (fun e => !(e.mac == mac && e.vid == vid && decide (e.seen + secs u.yardMacAge ≤ u.tb.lc))) } }) ∧
    (u.coreRuns = false → exec (.fdbAgeOut now mac vid) s = .next u) ∧
    (let asks := fun t : Term => t.service == 4 && (t.host == some h || t.host.isNone)
     (u.engsRun = false ∨ (∀ t ∈ u.yard.terminated, asks t = false) → exec (.hostProtocolRequest now h) s = .next u) ∧
     (u.engsRun = true → u.takeTerm asks = (w, some t) →
       let rate := if w.yard.hostSecond = w.tai then w.yard.hostRate else []
       let n := (rate.lookup h).getD 0
       (t.host = none → exec (.hostProtocolRequest now h) s = .next w) ∧
       (t.host ≠ none → n < 1000 → exec (.hostProtocolRequest now h) s = .next
         (({ w with yard := { w.yard with hostSecond := w.tai, hostRate := putKey h (n + 1) rate } } : State).sendOwn t.port (.reply h)
           { t.frame with fcsOk := true, lane := t.port }).1) ∧
       (t.host ≠ none → 1000 ≤ n → exec (.hostProtocolRequest now h) s = .next
         { w with yard := { w.yard with hostSecond := w.tai, hostRate := rate, hostDrops := bump w.yard.hostDrops } })))

/-- R257, R289, R292–R301, R304, R306, R307: what a PTP message does. A message that no frame brought, or that is not judged good, goes no further; an
Announce enters the foreign list, and the parent's renews its dataset; a Sync of the parent, whole or with its Follow_Up, gives t2 − origin − correction, with the
stamp of its frame; a Delay_Resp to the port's own request gives half of the round trip; a Delay_Req is answered with its receive time where a
grant covers it, or the millisecond has room for it, and dropped and counted elsewhere; a peer-delay exchange gives half of its round trip less the turnaround; a Sync,
Announce, Delay_Req, Pdelay_Req or answer joins its port's queue with its own sequenceId; and as it leaves it gets its transmit stamp. A
message that is not the port's to take or send changes nothing. -/
def Obligations.PtpMessages : Prop :=
  ∀ (s t v z : State) (now k p a mt dur portId tx st ins : Nat) (lg x y w ns frac : Int) (m : PtpMsg) (ds : PtpDs) (c : Taken) (q rx r : Nat),
    let u := s.ptpTime now
    let client (t : State) := (t.pport p).state = 8 ∨ (t.pport p).state = 9
    let t2 (t : State) := t.extend (c.rx % 2 ^ 48) c.status
    (∀ e ∈ [(Instr.ptpAnnounceRx now k p m ds, 0xB), (.ptpSyncRx now k p m, 0), (.ptpFollowUpRx now k p m, 8), (.ptpDelayReqRx now k p m, 1),
        (.ptpDelayRespRx now k p m, 9), (.requestUnicastTransmission now k p a portId mt lg dur m, 0xC), (.cancelUnicastTransmission now k p a portId mt m, 0xC),
        (.grantUnicastTransmissionRx now k p a mt dur m, 0xC)],
      ((u.ptpIn k p e.2 m).2 = none → exec e.1 s = .next (u.ptpIn k p e.2 m).1) ∧
      (u.engsRun = false ∨ (∀ f ∈ u.yard.terminated, (ptpTerm p e.2 f && u.instTerm k f) = false) → u.ptpIn k p e.2 m = (u, none)) ∧
      (u.engsRun = true → u.ptpEnable k = true → u.ptpActive p = true → u.ptpAuthPolicy k = 0 → m.girth = none →
        ∀ f, u.yard.terminated.find? (fun f => ptpTerm p e.2 f && u.instTerm k f) = some f →
          u.ptpIn k p e.2 m = ({ u with yard := { u.yard with hostUsed := u.yard.hostUsed - f.cells, terminated := u.yard.terminated.erase f } },
            some ⟨false, f.rx, u.atDelivery f.rx f.status⟩))) ∧
    (∀ f, (u.pdelayIn p 2 m = (t, none) → exec (.ptpPdelayReqRx now p m) s = .next t) ∧
      (u.pdelayIn p (if f then 0xA else 3) m = (t, none) → exec (.ptpPdelayRespRx now p m f) s = .next t)) ∧
    (u.ptpIn k p 0xB m = (t, some c) → ds.gm = t.clockId → exec (.ptpAnnounceRx now k p m ds) s = .next t) ∧
    (u.ptpIn k p 0xB m = (t, some c) → ds.gm ≠ t.clockId → ∃ f : Foreign, f.sender = m.sender ∧ f.addr = m.addr ∧
      f.ds = ds ∧ f.heard.head? = some t.tb.lc ∧
      (let g := t.onPPort p (fun g => { g with foreign := f :: (g.foreign.filter (fun g => g.sender != m.sender)).take 31 })
       let g := g.onPPort p (fun h => { h with timedOut := h.timedOut && (g.portBest k p).isNone })
       let g := if g.portBest k p != t.portBest k p then g.onInst k (fun g => { g with due := true }) else g
       ((g.inst k).parent ≠ m.sender → exec (.ptpAnnounceRx now k p m ds) s = .next g) ∧
       ((g.inst k).parent = m.sender →
         let h := (((g.onInst k (fun x => { x with parentDs := ds })).onRef (12 + k) (fun r => { r with qlRx := qlOfClass ds.cls ds.acc })).ptpClaim k m c.auth)
         exec (.ptpAnnounceRx now k p m ds) s = .next (if h.sel.current = 12 + k then h.learnAnnounced m.utcOffset m.leap m.utcValid else h)))) ∧
    (u.instOfPort p = none → exec (.announceTimeout now p) s = .next u) ∧
    (u.instOfPort p = some k →
      let limit := u.ptpAnnounceTimeout k * logTime (u.ptpLogAnnounce k)
      let g := u.onPPort p (fun g => { g with foreign := g.foreign.filter (fun f => decide (u.tb.lc < f.heard.headD 0 + limit)) })
      exec (.announceTimeout now p) s = .next ((g.onPPort p (fun h =>
        { h with timedOut := (g.portBest k p).isNone && (h.state != 4 || decide (h.listenAt + limit ≤ u.tb.lc)) })).onInst k (fun g => { g with due := true }))) ∧
    (u.ptpIn k p 0 m = (t, some c) → ¬ client t ∨ (t.inst k).parent ≠ m.sender → exec (.ptpSyncRx now k p m) s = .next t) ∧
    (u.ptpIn k p 0 m = (t, some c) → client t → (t.inst k).parent = m.sender →
      (stampGood c.status = false ∨ t2 t = none → exec (.ptpSyncRx now k p m) s = .next (t.onPPort p (fun g => { g with validRun := 0 }))) ∧
      (stampGood c.status = true → t2 t = some x →
        exec (.ptpSyncRx now k p m) s = .next (if m.twoStep then t.onPPort p (fun g => { g with sync := some (m.seq, x, m.correction, c.rx, c.status) })
          else t.takeM k p (x - m.origin - m.correction) x c.rx c.status))) ∧
    (u.ptpIn k p 8 m = (t, some c) → ¬ client t ∨ (t.inst k).parent ≠ m.sender → exec (.ptpFollowUpRx now k p m) s = .next t) ∧
    (u.ptpIn k p 8 m = (t, some c) → client t → (t.inst k).parent = m.sender →
      ((∀ g, (t.pport p).sync = some g → g.1 ≠ m.seq) → exec (.ptpFollowUpRx now k p m) s = .next t) ∧
      ((t.pport p).sync = some (m.seq, x, y, rx, r) →
        exec (.ptpFollowUpRx now k p m) s = .next ((t.onPPort p (fun g => { g with sync := none })).takeM k p (x - m.origin - (y + m.correction)) x rx r))) ∧
    (u.ptpIn k p 9 m = (t, some c) → ¬ client t ∨ (t.inst k).parent ≠ m.sender ∨ m.target ≠ t.portIdentity p → exec (.ptpDelayRespRx now k p m) s = .next t) ∧
    (u.ptpIn k p 9 m = (t, some c) → client t → (t.inst k).parent = m.sender → m.target = t.portIdentity p →
      ((∀ g, (t.pport p).dreq = some g → g.1 ≠ m.seq) ∨ (t.inst k).lastM = none → exec (.ptpDelayRespRx now k p m) s = .next t) ∧
      ((t.pport p).dreq = some (m.seq, x) → (t.inst k).lastM = some y →
        (let w := t.onPPort p (fun g => { g with dreq := none })
         let l := newest 16 (rdiv (y + (m.origin - x - m.correction)) 2 :: (w.inst k).delays)
         exec (.ptpDelayRespRx now k p m) s = .next (w.onInst k (fun g => { g with delays := l, meanDelay := rdiv l.sum l.length }))))) ∧
    (u.ptpIn k p 1 m = (t, some c) →
      let used := if t.ptp.mcastMs.1 = t.ms then t.ptp.mcastMs.2 else 0
      let room := (t.negotiates k = true ∧ t.ptp.grants.any (fun g => g.inst == k && g.addr == m.addr && g.portId == m.sender && g.mtype == 9 && decide (t.tb.lc < g.expiry)) = true) ∨
        (t.negotiates k = false ∧ used + 2 ≤ t.freePerMs k)
      let takes := room ∧ (t.pport p).state = 6 ∧ t.peerDelay k = false
      (¬ takes ∨ t2 t = none → exec (.ptpDelayReqRx now k p m) s = .next (t.onPPort p (fun g => { g with dreqDrops := bump g.dreqDrops }))) ∧
      (takes → t2 t = some x →
        let v := if t.negotiates k then t else { t with ptp := { t.ptp with mcastMs := (t.ms, used + 2) } }
        exec (.ptpDelayReqRx now k p m) s = .next (v.queueGeneral p ⟨9, m.seq, x / 65536, m.correction - x % 65536, m.sender, none⟩))) ∧
    (u.pdelayIn p 2 m = (t, some c) →
      (t2 t = none → exec (.ptpPdelayReqRx now p m) s = .next t) ∧
      (t2 t = some x → ∃ two : Bool, (two = true ↔ ∃ j, t.instOfPort p = some j ∧ t.ptpTwoStep j = true) ∧
        exec (.ptpPdelayReqRx now p m) s = .next (t.sendOwn p (.pdelayResp m.seq x m.correction m.sender two) (t.ptpFrame p 3 (ptpBody 3) none)).1)) ∧
    (∀ f, u.pdelayIn p (if f then 0xA else 3) m = (t, some c) →
      (t.pdelayPort p = false ∨ m.target ≠ t.portIdentity p ∨ (∀ g, (t.pport p).pdreq = some g → g.1 ≠ m.seq) → exec (.ptpPdelayRespRx now p m f) s = .next t) ∧
      (t.pdelayPort p = true → m.target = t.portIdentity p → (t.pport p).pdreq = some (m.seq, x) →
        (f = true → (t.pport p).pdresp = some (m.seq, y, w) → exec (.ptpPdelayRespRx now p m f) s = .next
          (t.onPPort p (fun g => { g with peerDelay := rdiv (y - x - (m.origin + m.correction - w)) 2, pdreq := none, pdresp := none }))) ∧
        (f = true → (∀ g, (t.pport p).pdresp = some g → g.1 ≠ m.seq) → exec (.ptpPdelayRespRx now p m f) s = .next t) ∧
        (f = false → stampGood c.status = false ∨ t2 t = none → exec (.ptpPdelayRespRx now p m f) s = .next
          (t.onPPort p (fun g => { g with pdreq := none, pdresp := none }))) ∧
        (f = false → stampGood c.status = true → t2 t = some y → exec (.ptpPdelayRespRx now p m f) s = .next
          (if m.twoStep then t.onPPort p (fun g => { g with pdresp := some (m.seq, y, m.origin - m.correction) })
           else t.onPPort p (fun g => { g with peerDelay := rdiv (y - x - m.correction) 2, pdreq := none }))))) ∧
    (let hit := fun f : Term => s.engsRun && f.service == 1 && (a != 2 || f.frame.mtype == 0xD)
     ((∀ f ∈ s.yard.terminated, hit f = false) → exec (.ptpMgmtRx a) s = .next s) ∧
     (∀ f, s.takeTerm hit = (t, some f) →
       (a = 2 → exec (.ptpMgmtRx a) s = .next { t with ptp := { t.ptp with mgmtDrops := bump t.ptp.mgmtDrops } }) ∧
       (a ≠ 2 → exec (.ptpMgmtRx a) s = .next { t with ptp := { t.ptp with v1Drops := bump t.ptp.v1Drops } }))) ∧
    (let sends := u.ptpEnable k = true ∧ (u.pport p).state = 6
     (¬ sends ∨ u.sendsTo k a 0 = false → exec (.ptpSyncTx now k p a) s = .next u) ∧
     (sends → u.sendsTo k a 0 = true → u.nextSeq k p a 0 = (v, q) →
       exec (.ptpSyncTx now k p a) s = .next
         (v.sendOwn p (.sync k q (v.ptpTwoStep k)) (v.ptpFrame p 0 (ptpBody 0) (if v.ptpTwoStep k then none else v.tlvGirth p 1))).1) ∧
     (¬ sends ∨ u.ptpRole k = 2 ∨ u.sendsTo k a 0xB = false → exec (.ptpAnnounceTx now k p a) s = .next u) ∧
     (sends → u.ptpRole k ≠ 2 → u.sendsTo k a 0xB = true → u.nextSeq k p a 0xB = (v, q) →
       let d := v.servedDs k
       let body := lePack [(8, d.gm), (1, d.cls), (1, accuracyOf (v.served [v.txGirth p]) (v.todQl v.girth.ql)), (2, d.var), (1, d.prio1), (1, d.prio2),
         (2, d.steps), (1, timeSource v.hopSrc), (1, v.announceFlags), (2, (v.utcOffset % 65536).toNat)]
       exec (.ptpAnnounceTx now k p a) s = .next (v.queueGeneral p ⟨0xB, q, body, 0, 0, v.tlvGirth p 0⟩))) ∧
    (u.ptpEnable k = false ∨ u.peerDelay k = true ∨ ¬ client u → exec (.ptpDelayReqTx now k p) s = .next u) ∧
    (u.ptpEnable k = true → u.peerDelay k = false → client u →
      let q := (u.pport p).dreqSeq
      let v := u.onPPort p (fun g => { g with dreqSeq := (q + 1) % 65536, dreq := none })
      exec (.ptpDelayReqTx now k p) s = .next (v.sendOwn p (.delayReq k q) (v.ptpFrame p 1 (ptpBody 1) none)).1) ∧
    (u.pdelayPort p = false → exec (.ptpPdelayReqTx now p) s = .next u) ∧
    (u.pdelayPort p = true →
      let q := (u.pport p).pdSeq
      let v := u.onPPort p (fun g => { g with pdSeq := (q + 1) % 65536, pdreq := none, pdresp := none })
      exec (.ptpPdelayReqTx now p) s = .next (v.sendOwn p (.pdelayReq q) (v.ptpFrame p 2 (ptpBody 2) none)).1) ∧
    (let sentAt := s.extend (tx % 2 ^ 48) st
     let good := if stampGood st then sentAt else none
     s.ownSent p tx st ins (.delayReq k q) = (s.onPPort p (fun g => { g with dreq := good.map (fun i => (q, i)) })).ptpSent p ⟨1, q, 0, 0, 0, none⟩ ∧
     s.ownSent p tx st ins (.pdelayReq q) = (s.onPPort p (fun g => { g with pdreq := good.map (fun i => (q, i)), pdresp := none })).ptpSent p ⟨2, q, 0, 0, 0, none⟩ ∧
     (s.splitTime sentAt = (z, ns, frac) →
       s.ownSent p tx st ins (.sync k q true) = (z.ptpSent p ⟨0, q, 0, 0, 0, none⟩).queueGeneral p ⟨8, q, ns, frac, 0, z.tlvGirth p 1⟩ ∧
       s.ownSent p tx st ins (.pdelayResp q x y r true) =
         (z.ptpSent p ⟨3, q, x / 65536, -(x % 65536), r, none⟩).queueGeneral p ⟨0xA, q, ns, frac + y, r, none⟩) ∧
     (s.splitTime (s.extend (tx % 2 ^ 48) ins) = (z, ns, frac) →
       s.ownSent p tx st ins (.sync k q false) = z.ptpSent p ⟨0, q, ns, frac, 0, z.tlvGirth p 1⟩ ∧
       s.ownSent p tx st ins (.pdelayResp q x y r false) = z.ptpSent p ⟨3, q, 0, ns * 65536 + frac - x + y, r, none⟩))

/-- R293, R296, R304, R305, R309, R311–R327, R356, R357: what decides how much the time services take on. A unicast request within the capacity is
granted for at most the maximum duration, a renewal at once and a new grant when its millisecond is over, a Sync grant with its Delay_Resp reservation, and
one beyond it answered with 0; a grant that has run out is dropped; an
NTP request meets its fate in the table's order, and none is served beyond its bucket's tokens; an NTS response that has missed its launch three times is lost; a
mint entry is served or refused with the first status that applies; and the governor, every millisecond outside a reset, sheds on a negative headroom, raises one
level at most and never goes below its floor. A command that finds nothing to do changes nothing. -/
def Obligations.TimeServiceCapacity : Prop :=
  ∀ (s t v z : State) (now k p a lane tw mark portId mt dur i rx st ins : Nat) (lg tj : Int) (m : PtpMsg) (tk : Taken) (ok delivered : Bool) (r : NtpReq)
    (g : Grant) (gr : GrantReq) (f : ClientGrant) (fr : Term) (c : Copy) (w : NtpPending) (l : List (NtpReq × Nat × Nat)) (e : NtsFields),
    let u := s.ptpTime now
    ((∀ x ∈ (s.atTime now).ptp.batch, (s.atTime now).ms ≤ x.ms) → u = s.atTime now) ∧
    ((s.atTime now).ptp.batch = [gr] → gr.ms < (s.atTime now).ms →
      u = ({ s.atTime now with ptp := { (s.atTime now).ptp with batch := [] } } : State).decideGrant (millis (gr.ms + 1)) gr) ∧
    (u.ptpIn k p 0xC m = (t, some tk) → t.negotiates k = false → exec (.requestUnicastTransmission now k p a portId mt lg dur m) s = .next t ∧
      exec (.cancelUnicastTransmission now k p a portId mt m) s = .next t) ∧
    (u.ptpIn k p 0xC m = (t, some tk) → t.negotiates k = true →
      let x : GrantReq := ⟨t.ms, k, p, a, portId, mt, lg, dur⟩
      (t.grantOf k a portId mt ≠ none → exec (.requestUnicastTransmission now k p a portId mt lg dur m) s = .next (t.decideGrant t.tb.lc x)) ∧
      (t.grantOf k a portId mt = none → exec (.requestUnicastTransmission now k p a portId mt lg dur m) s =
        .next { t with ptp := { t.ptp with batch := t.ptp.batch ++ [x] } }) ∧
      exec (.cancelUnicastTransmission now k p a portId mt m) s = .next (((t.dropGrant k a portId mt).negotiate k p a 7 mt 0 0).ptpOver)) ∧
    (let x : GrantReq := ⟨i, k, p, a, portId, mt, lg, dur⟩
     let given := periodOk mt lg = true ∧ 10 ≤ dur ∧ t.grantOk x = true
     (t.ptpEnable k = false ∨ t.negotiates k = false → t.decideGrant now x = t) ∧
     (t.ptpEnable k = true → t.negotiates k = true →
       (¬ given → t.decideGrant now x = ({ t with ptp := { t.ptp with refused := bump t.ptp.refused } } : State).negotiate k p a 5 mt lg 0) ∧
       (given → v = (if mt = 9 then (t.dropGrant k a portId mt).dropReservation k a portId else t.dropGrant k a portId mt) →
         t.decideGrant now x = ((({ v with ptp := { v.ptp with
           grants := v.ptp.grants ++ [(⟨k, a, portId, mt, lg, now + secs (min dur t.ptpGrantMaxDuration), ((t.grantOf k a portId mt).map (·.seq)).getD 0⟩ : Grant)],
           reservations := if mt = 0 && !v.peerDelay k && (v.grantOf k a portId 9).isNone then
             v.ptp.reservations ++ [(⟨k, a, portId, 2 * logRate lg, now + secs 10⟩ : Reservation)] else v.ptp.reservations } } : State).negotiate
             k p a 5 mt lg (min dur t.ptpGrantMaxDuration)).ptpOver)))) ∧
    (t.standby = true → t.grantOk gr = false) ∧
    (u.ptpIn k p 0xC m = (t, some tk) → exec (.grantUnicastTransmissionRx now k p a mt dur m) s = .next { t with ptp := { t.ptp with
      upstream := t.ptp.upstream.map (fun x => if x.inst == k && x.addr == a && x.mtype == mt then { x with duration := dur, since := t.tb.lc } else x) } }) ∧
    (u.grantOf k a portId mt = none → exec (.grantExpire now k a portId mt) s = .next u) ∧
    (u.grantOf k a portId mt = some g → (g.expiry ≤ u.tb.lc → exec (.grantExpire now k a portId mt) s = .next ((u.dropGrant k a portId mt).ptpOver)) ∧
      (u.tb.lc < g.expiry → exec (.grantExpire now k a portId mt) s = .next u)) ∧
    (u.ptp.upstream.find? (fun x => x.inst == k && x.addr == a && x.mtype == mt) = none → exec (.grantRenewTx now k a mt) s = .next u) ∧
    (u.ptp.upstream.find? (fun x => x.inst == k && x.addr == a && x.mtype == mt) = some f →
      (f.duration ≠ 0 → f.since + secs f.duration / 2 ≤ u.tb.lc → (u.upstreamPort k a = none → exec (.grantRenewTx now k a mt) s = .next u) ∧
        (∀ q, u.upstreamPort k a = some q → exec (.grantRenewTx now k a mt) s = .next (u.negotiate k q a 4 mt (u.askLog k mt) u.ptpGrantMaxDuration))) ∧
      (f.duration = 0 ∨ u.tb.lc < f.since + secs f.duration / 2 → exec (.grantRenewTx now k a mt) s = .next u)) ∧
    exec (.delayRespReservationRelease now k a portId) s = .next (({ u with ptp := { u.ptp with reservations := u.ptp.reservations.filter (fun x =>
      !(x.inst == k && x.addr == a && x.portId == portId && decide (x.until_ ≤ u.tb.lc))) } } : State).ptpOver) ∧
    (i < 16 → u.saSwitchTai i ≠ 0 → (u.saSwitchTai i : Int) ≤ u.tai → v = u.takeLate (fun key => key / 256 == 0x7300 + i) → exec (.saKeySwitch now i) s = .next
      ((((v.put (0x7300 + i) 2 (v.saNextKeyId i)).put (0x7300 + i) 3 (v.saNextSendSlot i)).put (0x7300 + i) 4 (v.saNextVerifySlot i)).put (0x7300 + i) 8 0)) ∧
    (16 ≤ i ∨ u.saSwitchTai i = 0 ∨ u.tai < u.saSwitchTai i → exec (.saKeySwitch now i) s = .next u) ∧
    (4 ≤ k → exec (.ptpInstanceReconfig now k) s = .next u) ∧
    (k < 4 → exec (.ptpInstanceReconfig now k) s = .next (({ u with ptp := { u.ptp with grants := u.ptp.grants.filter (·.inst != k), reservations := u.ptp.reservations.filter (·.inst != k) } } : State).ptpRestart k)) ∧
    (let x := ({ t with ptp := { t.ptp with upstream := t.ptp.upstream.filter (·.inst != k) } } :
        State).onInst k (fun y => { PtpInst.init with servedClass := y.servedClass, servedAcc := y.servedAcc, due := true })
     t.ptpRestart k = (((List.range 32).foldl (fun y j => match y.instOfPort j with
        | none => if (y.pport j).state = 3 then y else y.onPPort j (fun z => { z with state := 3, foreign := [], validRun := 0 })
        | some h => if h = k || (y.pport j).state = 3 then
            y.onPPort j (fun z => { z with state := 1, foreign := [], validRun := 0, sync := none, dreq := none, timedOut := false }) else y)
        (opLossOfSignal (12 + k) x)).wakeTiming).ptpOver) ∧
    ((u.pport p).state = 5 → exec (.ptpQualificationTimeout now p) s = .next ((u.onPPort p (fun x => { x with state := 6 })).ptpOver)) ∧
    ((u.pport p).state ≠ 5 → exec (.ptpQualificationTimeout now p) s = .next u) ∧
    (let early := 0 < (u.inst k).decidedAt ∧ u.tb.lc < (u.inst k).decidedAt + millis 1
     let x := (u.takeLate (u.ptpKey k)).wakeTiming
     let due := (u.inst k).due = true ∨ u.localDs k ≠ (u.inst k).local_
     (u.engsRun = false ∨ 4 ≤ k ∨ ¬ due ∨ early → exec (.ptpStateDecision now k) s = .next u) ∧
     (u.engsRun = true → k < 4 → due → ¬ early →
       (x.ptpEnable k ≠ u.ptpEnable k → exec (.ptpStateDecision now k) s = .next (x.ptpRestart k)) ∧
       (x.ptpEnable k = false → u.ptpEnable k = false →
         exec (.ptpStateDecision now k) s = .next (x.onInst k (fun y => { y with due := false, local_ := x.localDs k }))) ∧
       (x.ptpEnable k = true → u.ptpEnable k = true →
         let y := (x.memberPorts k).foldl (fun y j => if (y.pport j).state = 1 then y.initPort j else y)
           ((x.onInst k (fun y => { y with due := false, decidedAt := x.tb.lc })).decidePorts k)
         exec (.ptpStateDecision now k) s = .next ((y.onInst k (fun z => { z with local_ := y.localDs k })).ptpOver)))) ∧
    (let u := s.atTime now
     let hit := fun x : Term => u.coreRuns && ntpTerm r x
     ((∀ x ∈ u.yard.terminated, hit x = false) → exec (.ntpRequest now r) s = .next u) ∧
     (∀ q, u.takeTerm hit = (q, some fr) →
      let st := q.atDelivery fr.rx fr.status
      (q.standby = true → exec (.ntpRequest now r) s = .next { q with pair := { q.pair with counters := bumpAt 6 q.pair.counters } }) ∧
      (q.standby = false →
        (q.ntpEnable = false ∨ bit q.ntpAddrs r.host = false → exec (.ntpRequest now r) s = .next (q.ntpCount 2)) ∧
        (q.ntpEnable = true → bit q.ntpAddrs r.host = true →
          (bit q.ntpPorts r.port = false → exec (.ntpRequest now r) s = .next (q.ntpCount 3)) ∧
          (bit q.ntpPorts r.port = true →
            (r.len < 48 ∨ 1024 < r.len ∨ r.parses = false → exec (.ntpRequest now r) s = .next (q.ntpCount 4)) ∧
            (48 ≤ r.len → r.len ≤ 1024 → r.parses = true →
              let known := (r.version = 3 ∧ bit q.ntpVersions 0 = true) ∨ (r.version = 4 ∧ bit q.ntpVersions 1 = true)
              (¬ known ∨ r.mode ≠ 3 → exec (.ntpRequest now r) s = .next (q.ntpCount 5)) ∧
              (known → r.mode = 3 → (r.mac = true → exec (.ntpRequest now r) s = .next (q.ntpCount 6)) ∧
                (r.mac = false → (bit st 0 = false ∨ bit st 2 = true → exec (.ntpRequest now r) s = .next (q.ntpCount 7)) ∧
                  (bit st 0 = true → bit st 2 = false →
                    let silent := q.ntpLeapMode = 1 ∧ ∃ x, q.extend (fr.rx % 2 ^ 48) st = some x ∧ q.insertedSecond (x / 65536000000000) = true
                    (silent → exec (.ntpRequest now r) s = .next (q.ntpGirthCount 3)) ∧
                    (¬ silent →
                      (q.takeToken r = (t, false) → exec (.ntpRequest now r) s = .next (t.rateRefused r)) ∧
                      (q.takeToken r = (t, true) → t.ntpCharge r = (v, false) → exec (.ntpRequest now r) s = .next (v.ntpCount 0x0A)) ∧
                      (q.takeToken r = (t, true) → t.ntpCharge r = (v, true) →
                        (ntsOf r = none → (v.countGirth r).ntpResponse r fr.rx st 0 0 = (z, w) →
                          exec (.ntpRequest now r) s = .next (z.queueTime r fr.rx st w)) ∧
                        (ntsOf r = some e →
                          (e.uids ≠ [] → v.ntsEnable = false → exec (.ntpRequest now r) s = .next (v.ntpCount 0x0B)) ∧
                          (e.uids = [] ∨ v.ntsEnable = true →
                            let exception := v.ntsNoKeys = true ∨ (v.ntsFormBut r e = true ∧ (e.misplaced = true ∨ 16 < e.total))
                            (exception → exec (.ntpRequest now r) s = .next
                              (({ v with ntp := { v.ntp with excQueue := v.ntp.excQueue ++ [(r, fr.rx, st)] } } : State).ntpCount 0x0C)) ∧
                            (¬ exception → v.ntsFormBut r e = false → exec (.ntpRequest now r) s = .next (v.ntpCount 0x0B)) ∧
                            (¬ exception → v.ntsFormBut r e = true → exec (.ntpRequest now r) s = .next (v.ntsAnswer r fr.rx st e))))))))))))))) ∧
    (s.ntpStamp rx ins = (z, i) →
      let grown := z.ntpGirth p w.girth w.rate w.built rx
      let left : NtpSent := { w.resp with transmit := i, rootDispersion := rootDispersion grown, girth := w.resp.girth.map (fun b => withGirth b grown) }
      s.ownSent p rx st ins (.ntp w) = ({ z with ntp := { z.ntp with lastSent := some left } } : State).ntpCount 1) ∧
    (let u := s.atTime now
     let x := u.dropHeads p (8 * p + 7) (u.queue (8 * p + 7)).copies.length
     (u.coreRuns = false → exec (.ntsLaunch now p lane tw mark delivered) s = .next u) ∧
     (u.coreRuns = true →
       (x.ntsHead p = none → exec (.ntsLaunch now p lane tw mark delivered) s = .next x) ∧
       (x.ntsHead p = some (c, w) → w.launch.isSome = true → exec (.ntsLaunch now p lane tw mark delivered) s = .next x) ∧
       (x.ntsHead p = some (c, w) → w.launch = none → exec (.ntsLaunch now p lane tw mark delivered) s = .next (x.ntsFix p lane tw mark delivered c w))) ∧
     (u.coreRuns = false ∨ u.ntsHead p = none → exec (.ntsRelaunch now p lane tw mark delivered) s = .next u) ∧
     (u.coreRuns = true → u.ntsHead p = some (c, w) →
       (w.launch = none → exec (.ntsRelaunch now p lane tw mark delivered) s = .next u) ∧
       (∀ q, w.launch = some q →
         (w.ready = true ∨ u.tb.lc < q.1 → exec (.ntsRelaunch now p lane tw mark delivered) s = .next u) ∧
         (w.ready = false → q.1 ≤ u.tb.lc → v = u.ntpCount 0x0F →
           (2 ≤ w.tries → exec (.ntsRelaunch now p lane tw mark delivered) s = .next
             (((v.takeCopy (8 * p + 7) c).onYPort p (fun y => { y with launch := none })).ntpCount 0x10)) ∧
           (w.tries < 2 → exec (.ntsRelaunch now p lane tw mark delivered) s = .next (v.ntsFix p lane tw mark delivered c { w with tries := w.tries + 1 })))))) ∧
    let u := s.atTime now
    (u.w2Runs = false ∨ u.ntp.excQueue = [] → exec (.ntsExceptionRequest now) s = .next u) ∧
    (u.w2Runs = true → u.ntp.excQueue = (r, rx, st) :: l → (let c := if u.ntp.excSecond = u.tai then u.ntp.excCount else 0
      (u.ntsExcRate ≤ c → exec (.ntsExceptionRequest now) s = .next (({ u with ntp := { u.ntp with excQueue := l } } : State).ntpCount 0x0D)) ∧
      (c < u.ntsExcRate → v = { u with ntp := { u.ntp with excQueue := l, excSecond := u.tai, excCount := c + 1 } } →
        (ntsOf r = none → exec (.ntsExceptionRequest now) s = .next v) ∧
        (ntsOf r = some e → exec (.ntsExceptionRequest now) s = .next (if v.ntsNoKeys then v.ntsKiss r else v.ntsAnswer r rx st e))))) ∧
    exec (.bucketSweep now) s = .next { u with ntp := { u.ntp with buckets := (u.ntp.buckets.map u.refill).filter (fun x => !u.bucketFull x) } } ∧
    exec (.ntsKeySwitch now) s = .next { u with ntp := { u.ntp with current := u.ntsKeyCurrent } } ∧
    (let serves := u.w2Runs = true ∧ u.ntsMintRingSize ≠ 0 ∧ u.ntp.mintConsumer ≠ u.ntp.mintProducer ∧ u.dict.pcieUp = true
     let aead := (a = 15 ∧ bit u.ntsAeads 0 = true) ∨ (a = 30 ∧ bit u.ntsAeads 1 = true)
     let unwraps := bit i 0 = false ∨ (u.ntsMintWrapSlot ≠ 0xFFFF ∧ ok = true)
     let said (c : Nat) : State := { u.ntpMs with ntp := { u.ntpMs.ntp with mintConsumer := bump u.ntp.mintConsumer, mintStatus := c, mintWritten := 0 } }
     (¬ serves → exec (.ntsMintEntry now i k a ok) s = .next u) ∧
     (serves →
       (¬ aead → exec (.ntsMintEntry now i k a ok) s = .next (said 2)) ∧
       (aead → k < 1 ∨ 8 < k → exec (.ntsMintEntry now i k a ok) s = .next (said 3)) ∧
       (aead → 1 ≤ k → k ≤ 8 → ¬ unwraps → exec (.ntsMintEntry now i k a ok) s = .next (said 4)) ∧
       (aead → 1 ≤ k → k ≤ 8 → unwraps →
         (u.blockLoaded u.ntp.current = false → exec (.ntsMintEntry now i k a ok) s = .next (said 5)) ∧
         (u.blockLoaded u.ntp.current = true → u.ntsCapNow / 1000 < u.ntpMs.ntp.operations + k → exec (.ntsMintEntry now i k a ok) s = .next (said 6)) ∧
         (u.blockLoaded u.ntp.current = true → u.ntpMs.ntp.operations + k ≤ u.ntsCapNow / 1000 → exec (.ntsMintEntry now i k a ok) s = .next
           ((List.range k).foldl (fun x _ => x.ntpGirthCount 4)
             { u.ntpMs with ntp := { u.ntpMs.ntp with mintConsumer := bump u.ntp.mintConsumer, mintStatus := 1, mintWritten := k, operations := u.ntpMs.ntp.operations + k } }))))) ∧
    (u.start.porHeld = true ∨ u.start.inReset = true → exec (.govDecision now i tj ok) s = .next u) ∧
    (u.start.porHeld = false → u.start.inReset = false → t = u.coldStep.govInput i tj ok →
      let c := (t.decideLevel (t.gov.settle - 1)).2
      let x := { t with gov := { t.gov with settle := if c = 1 then 5 else t.gov.settle - 1, tjWait := (if c = 2 then 100 else t.gov.tjWait) - 1, hold := if c = 4 then t.gov.hold + 1 else 0, raised := if c = 3 then some (t.gov.level, t.gov.pPart) else t.gov.raised, times := upd (· + 1) t.gov.level t.gov.times } }
      let y := x.setLevel (max (t.decideLevel (t.gov.settle - 1)).1 x.govFloor)
      exec (.govDecision now i tj ok) s = .next (({ y with gov := { y.gov with cause := y.govCause c, unparked := y.unparkedNow } } : State).regate.govFaults)) ∧
    (u.gov.headroom < 0 → u.gov.level < 7 → u.gov.level < (u.decideLevel 0).1 ∧ (u.decideLevel 0).1 ≤ 7 ∧ (u.decideLevel 0).2 = 1) ∧
    (u.gov.level ≤ 7 → u.gov.level ≤ (u.decideLevel i).1 + 1) ∧
    (u.gov.raised = some (k, a) → exec (.govCostMeasure now i) s = .next
      { u with gov := { u.gov with raised := none, cost := u.gov.cost.set (k - 1) (min (max (u.cost k) (i - a)) 65535) } }) ∧
    (u.gov.raised = none → exec (.govCostMeasure now i) s = .next u)

/-- R386, R391, R398, R401–R415: what the vault and the access paths do of themselves. A mask rotation draws the other epoch's masks anew, in a vault whose cloaking
keys stand; a staged shadow lapses; a tamper source that is enabled sets its alarm, and adds to the newest record while the latch is set or makes one, latches and
wipes, and then halts the boot that it interrupts or raises its fault; a source that recovers clears only its alarm bit; a reset of the always-on domain
forgets its records and latch; an idle session and one whose ticket has run out end, each with its cause; and JTAG attaches once it is unlocked, and its
reset locks it again and lets every halted engine go on. -/
def Obligations.VaultAndAccessEvents : Prop :=
  ∀ (s v y : State) (now n src aon p q t m op : Nat) (x : Session) (r : TamperRec) (l : List TamperRec) (c : Cloak),
    let u := s.atTime now
    let w : State := { u.aonAt aon with vault := { (u.aonAt aon).vault with alarms := setBit (u.aonAt aon).vault.alarms src true } }
    (s.vault.cloak = none → exec .maskRotation s = .next s) ∧
    (s.vault.cloak = some c → ∃ d : Cloak, exec .maskRotation s =
      .next { s with freeCount := s.freeCount + 1, vault := { s.vault with cloak := some d, maskRotations := bump s.vault.maskRotations } } ∧
      d.perm = c.perm ∧ d.epoch = !c.epoch ∧ (if c.epoch then d.mask1 = c.mask1 else d.mask0 = c.mask0)) ∧
    ((u.slot n).shadow = none → exec (.vaultStageTimeout now n) s = .next u) ∧
    ((u.slot n).shadow = some (p, q, t) → (t + secs u.vaultStageTimeout ≤ u.tb.lc → exec (.vaultStageTimeout now n) s = .next (u.setSlot n { u.slot n with shadow := none })) ∧
      (u.tb.lc < t + secs u.vaultStageTimeout → exec (.vaultStageTimeout now n) s = .next u)) ∧
    (8 ≤ src ∨ u.tamperEnabled src = false ∨ (src = 5 ∧ u.start.porHeld = true) → exec (.tamperAlarm now src aon) s = .next u) ∧
    (src < 8 → u.tamperEnabled src = true → (src = 5 → u.start.porHeld = false) →
      (w.vault.latch = true →
        (w.vault.records = r :: l → exec (.tamperAlarm now src aon) s = .next
          { w with vault := { w.vault with records := { r with sources := setBit r.sources src true } :: l } }) ∧
        (w.vault.records = [] → exec (.tamperAlarm now src aon) s = .next w)) ∧
      (w.vault.latch = false → w.tamperMoment = (m, q, op) → v = w.tamperRecord (2 ^ src) m q op → y = ({ v with vault := { v.vault with latch := true } } : State).tamperWipe →
        (y.start.porHeld = true ∨ m = 3 → exec (.tamperAlarm now src aon) s = .next y) ∧
        (y.start.porHeld = false → m = 1 → exec (.tamperAlarm now src aon) s = .next (if y.start.inReset then y else y.tamperHalt)) ∧
        (y.start.porHeld = false → m ≠ 3 → m ≠ 1 → exec (.tamperAlarm now src aon) s = .next (y.raise 0x0F01)))) ∧
    (v.tamperMoment.1 = 3 ↔ v.start.sleep = true) ∧
    (v.start.sleep = false → v.vault.keyOp = none → v.vault.unsealed = true → v.start.porHeld = false → v.vault.jobs = [] → v.tamperMoment = (2, 0xFFFF, 0)) ∧
    exec (.tamperSourceRecover now src) s = .next { u with vault := { u.vault with alarms := setBit u.vault.alarms src false } } ∧
    (u.vault.onBattery = true → exec (.aonSupplyChangeover now aon) s = .next u) ∧
    (u.vault.onBattery = false → v = { u with vault := { u.vault with onBattery := true } } →
      (u.tamperEnabled 5 = false ∨ u.start.porHeld = true → exec (.aonSupplyChangeover now aon) s = .next v) ∧
      (u.tamperEnabled 5 = true → u.start.porHeld = false → exec (.aonSupplyChangeover now aon) s = .next ((v.aonAt aon).alarm 5))) ∧
    exec (.aonSupplyRestore now) s = .next { u with vault := { u.vault with onBattery := false } } ∧
    exec (.aonReset now) s = .next { u with
      vault := { u.vault with latch := false, alarms := 0, records := [], nextTseq := 1, aonLost := true, aonTime := 0, onBattery := false }
      dict := { u.dict with store := u.dict.store.filter (fun y => !isTamperCfg y.1) } } ∧
    (u.session n = some x →
      (x.lastReq + secs u.authIdle ≤ u.tb.lc → exec (.sessionIdleTimeout now n) s = .next (u.endSession 2 x)) ∧
      (u.tb.lc < x.lastReq + secs u.authIdle → exec (.sessionIdleTimeout now n) s = .next u) ∧
      (x.ticketed = true → (x.notAfter : Int) ≤ u.tai → exec (.sessionTicketExpire now n) s = .next (u.endSession 3 x)) ∧
      (x.ticketed = false ∨ u.tai < x.notAfter → exec (.sessionTicketExpire now n) s = .next u)) ∧
    (u.session n = none → exec (.sessionIdleTimeout now n) s = .next u ∧ exec (.sessionTicketExpire now n) s = .next u) ∧
    (u.jtagState = 0 → exec (.jtagAttach now) s = .next u) ∧
    (u.jtagState ≠ 0 → exec (.jtagAttach now) s = .next (({ u with access := { u.access with jtag := 3 } } : State).auditEvent { atype := 8, path := 6, value := 3 })) ∧
    exec (.jtagReset now) s = .next { u with access := { u.access with jtag := 0 }, engs := { u.engs with eng := u.engs.eng.map (fun g => { g with halted := false }) } }

/-- R429–R444: what the access paths do. An envelope that repeats its sequence number is answered again and not executed, and one of the wrong direction is
refused; the CAN server takes one transfer at a time and answers an abort code, and its controller comes back from bus-off silent on the safe clock; the management
port drops what comes while a result is awaited and counts a bad check byte; a PCIe access of a width that is not the entry's is refused with all ones; the aperture
reads and writes the paddock alone; an Esxia request is answered in the order of bytes of its path; and a save that succeeds is one generation newer. A path
that is down carries nothing. -/
def Obligations.AccessPaths : Prop :=
  ∀ (s t v : State) (a b : Acc) (e : Envelope) (slow ready ok late wr : Bool) (now c idx sub x k len tag off w stage : Nat) (l : List (Nat × Nat)) (r : Nat × Nat),
    let u := s.atTime now
    let ua := s.atTime a.now
    let m := ua.mspBegin ready
    let mp := { a with path := Path.msp }
    let host := { a with path := Path.pcie, session := none, env := false }
    let esx := { a with path := Path.esxia, session := none, env := false }
    (s.pathUp a.path = false → exec (.sealReq a e slow) s = .next ua ∧ exec (.sealResp a ready) s = .next ua) ∧
    (s.pathUp a.path = true →
      ((s.arrive a).firstChecks a ⟨defaultRole a.path, false⟩ 0x1030 1 0 true = 0 → (s.arrive a).envelopeIn a e slow = (t, c) →
        exec (.sealReq a e slow) s = .next (t.onPath a.path (fun p => { p with code := c, value := 0 }))) ∧
      ((s.arrive a).firstChecks a ⟨defaultRole a.path, false⟩ 0x1030 1 0 true = k → k ≠ 0 → (s.arrive a).refuseWrite a ⟨defaultRole a.path, false⟩ 0x1030 1 0 k = (t, c) →
        exec (.sealReq a e slow) s = .next (t.onPath a.path (fun p => { p with code := c, value := 0 }))) ∧
      (s.sealResp a ready = (t, c, x) → exec (.sealResp a ready) s = .next (t.onPath a.path (fun p => { p with code := c, value := x })))) ∧
    (e.session = 0 → e.dir ≠ 1 → t.envelopeIn a e slow = (t, 0x0B)) ∧
    (e.session = 0 → e.dir = 1 → a.path ≠ Path.esxia → (t.pathState a.path).seq = some e.seq → t.judgeIn a e slow = (t, 0, (t.pathState a.path).resp)) ∧
    (s.pathUp .pcie = false → exec (.mbSubmit a e len slow) s = .next ua) ∧
    (s.pathUp .pcie = true → (len < 20 ∨ 1072 < len → exec (.mbSubmit a e len slow) s = .next
        { s.arrive host with dict := { (s.arrive host).dict with mbCode := 0x0C, mbReady := false } }) ∧
      (20 ≤ len → len ≤ 1072 → ({ s with dict := { s.dict with mbReady := false, mbEnvelope := some e } } : State).sealReq { host with len := len } e slow = (t, c) →
        exec (.mbSubmit a e len slow) s = .next { t with dict := { t.dict with mbCode := c } })) ∧
    (ua.canOn c = false → exec (.canSdoTransfer c stage wr a idx sub x) s = .next ua) ∧
    (ua.canOn c = true → b = { a with path := Path.can c } →
      ((ua.canOf c).transfer = true → exec (.canSdoTransfer c 0 wr a idx sub x) s = .next (ua.canAnswer c 0x08000022 true) ∧
        (1 < stage → exec (.canSdoTransfer c stage wr a idx sub x) s = .next (ua.canAnswer c 0x05040004 false)) ∧
        (ua.pathUp (Path.can c) = false → exec (.canSdoTransfer c 1 wr a idx sub x) s = .next (ua.onCan c (fun y => { y with transfer := false }))) ∧
        (ua.pathUp (Path.can c) = true → ua.pathWrite b idx sub x = (t, k) → exec (.canSdoTransfer c 1 true a idx sub x) s = .next
          ((t.onPath (Path.can c) (fun p => { p with code := k, value := 0 })).canAnswer c (abortCode k) false)) ∧
        (ua.pathUp (Path.can c) = true → (if idx = 0x1030 ∧ sub = 2 then ua.sealResp b true else ua.accessRead b idx sub) = (t, k, w) →
          exec (.canSdoTransfer c 1 false a idx sub x) s = .next ((t.onPath (Path.can c) (fun p => { p with code := k, value := w })).canAnswer c (abortCode k) false))) ∧
      ((ua.canOf c).transfer = false → exec (.canSdoTransfer c 0 wr a idx sub x) s = .next (ua.onCan c (fun y => { y with transfer := true })) ∧
        (stage ≠ 0 → exec (.canSdoTransfer c stage wr a idx sub x) s = .next ua))) ∧
    (u.canOn c = true →
      ((u.canOf c).transfer = true → exec (.canSdoTimeout now c) s = .next (u.canAnswer c 0x05040000 false)) ∧
      ((u.canOf c).transfer = false → exec (.canSdoTimeout now c) s = .next u) ∧
      exec (.canNmtRx now c) s = .next (u.onCan c (fun y => { y with nmtIgnored := bump y.nmtIgnored })) ∧
      (u.canHeartbeat c ≠ 0 → exec (.canHeartbeatTx now c) s = .next (u.onCan c (fun y => { y with sent := some (0x700 + y.node, if u.start.state = .locked ∨ u.start.state = .acquiring ∨ u.start.state = .warming then 0x05 else 0x7F) }))) ∧
      (u.canHeartbeat c = 0 → exec (.canHeartbeatTx now c) s = .next u) ∧
      exec (.canBusOff now c) s = .next ((u.onCan c (fun y => { y with state := 3, busOff := bump y.busOff, transfer := false })).endSessions 6 (fun y => y.path == Path.can c))) ∧
    (u.canOn c = false → ∀ i ∈ [Instr.canSdoTimeout now c, .canNmtRx now c, .canHeartbeatTx now c, .canBusOff now c], exec i s = .next u) ∧
    ((u.canOf c).state = 3 → exec (.canBusOffRecovery now c) s = .next (u.onCan c (fun y => { y with state := if u.group 11 = 1 then 1 else 4 }))) ∧
    ((u.canOf c).state ≠ 3 → exec (.canBusOffRecovery now c) s = .next u) ∧
    (m.dict.mspRdy = false → ∀ i ∈ [Instr.mspWrite a idx sub x ok ready slow, .mspRead a idx sub ok ready slow], exec i s = .next { m with dict := { m.dict with mspBusyDrops := bump m.dict.mspBusyDrops } }) ∧
    (m.dict.mspRdy = true →
      (∀ i ∈ [Instr.mspWrite a idx sub x false ready slow, .mspRead a idx sub false ready slow], exec i s = .next { m with dict := { m.dict with mspChkErrors := bump m.dict.mspChkErrors } }) ∧
      (m.pathUp .msp = false → exec (.mspWrite a idx sub x true ready slow) s = .next m ∧ exec (.mspRead a idx sub true ready slow) s = .next m) ∧
      (m.pathUp .msp = true → m.pathWrite mp idx sub x = (t, c) → exec (.mspWrite a idx sub x true ready slow) s = .next (t.mspAnswer (c, 0, 0) slow)) ∧
      (m.pathUp .msp = true → (if idx = 0x1030 ∧ sub = 2 then m.sealResp mp true else m.accessRead mp idx sub) = (t, c, x) → exec (.mspRead a idx sub true ready slow) s = .next
        (t.mspAnswer (if c = 0 then (0, readLen idx sub x, x) else (c, 0, 0)) slow))) ∧
    (v = u.mspBegin ready → (v.dict.mspRdy = false ∨ v.dict.mspResult = none → exec (.mspFetch now true ready) s = .next (v.mspSend [0x0E, 0, 0])) ∧
      (v.dict.mspRdy = true → v.dict.mspResult = some (c, len, x) → exec (.mspFetch now true ready) s = .next
        (v.mspSend ((leBytes (3 + len) (lePack [(1, c), (2, len), (len, x)])).map (·.toNat)))) ∧
      exec (.mspFetch now false ready) s = .next v.mspBad ∧ exec (.mspState now false ready) s = .next v.mspBad ∧
      exec (.mspState now true ready) s = .next (let y := v.mspSend [ofBits [v.dict.mspRdy && v.dict.mspResult.isSome, v.irq, v.dict.mspReturned]]
        { y with dict := { y.dict with mspReturned := false } })) ∧
    (ua.dict.pcieUp = false → exec (.bar0Read a off w late) s = .next ua) ∧
    (ua.dict.pcieUp = true → idx = off / 2048 → sub = off % 2048 / 8 →
      (ua.agentUp = false → exec (.bar0Read a off w late) s = .next (ua.barFail 0x0E w)) ∧
      (ua.agentUp = true → indexExists idx = true → off % 8 ≠ 0 → exec (.bar0Read a off w late) s = .next (ua.barFail 0x02 w)) ∧
      (ua.agentUp = true → indexExists idx = false ∨ off % 8 = 0 →
        (ua.firstChecks host ⟨.host, false⟩ idx sub 0 false = k → k ≠ 0 → exec (.bar0Read a off w late) s = .next ((ua.arrive host).barFail k w)) ∧
        (ua.firstChecks host ⟨.host, false⟩ idx sub 0 false = 0 →
          (barWidthOk idx sub w = false → exec (.bar0Read a off w late) s = .next ((ua.arrive host).barFail 0x07 w)) ∧
          (barWidthOk idx sub w = true → ua.accessRead host idx sub = (t, k, x) →
            (exec (.bar0Read a off w true) s = .next (t.barFail 0x0E w)) ∧
            (k ≠ 0 → exec (.bar0Read a off w false) s = .next (t.barFail k w)) ∧
            (k = 0 → exec (.bar0Read a off w false) s = .next
              (({ t with dict := { t.dict with pcieData := x } } : State).onPath .pcie (fun p => { p with code := 0, value := x }))))))) ∧
    (ua.pathUp .pcie = false → exec (.bar0Write a off w x) s = .next ua) ∧
    (ua.pathUp .pcie = true → idx = off / 2048 → sub = off % 2048 / 8 → b = { host with len := barLen idx sub w } →
      (indexExists idx = true → off % 8 ≠ 0 → (ua.arrive b).refuseWrite b ⟨.host, false⟩ idx sub x 0x02 = (t, c) →
        exec (.bar0Write a off w x) s = .next { t with dict := { t.dict with pcieLastError := (idx, sub, c) } }) ∧
      (indexExists idx = false ∨ off % 8 = 0 →
        (findObj idx sub = none ∨ barWidthOk idx sub w = true → exec (.bar0Write a off w x) s = .next (ua.runWrite b idx sub x)) ∧
        (findObj idx sub ≠ none → barWidthOk idx sub w = false → exec (.bar0Write a off w x) s = .next (ua.runWrite { b with len := 0 } idx sub x)))) ∧
    (u.dict.pcieUp = false → exec (.bar4Access now wr off len x) s = .next u) ∧
    (u.dict.pcieUp = true → u.tackHostAccess = false ∨ u.paddockSize * 1048576 < off + len → exec (.bar4Access now wr off len x) s = .next
      { u with dict := { u.dict with apertureRefused := bump u.dict.apertureRefused, pcieData := if wr then u.dict.pcieData else allOnes len } }) ∧
    (u.dict.pcieUp = true → u.tackHostAccess = true → off + len ≤ u.paddockSize * 1048576 →
      (u.start.paddockWipe = true ∨ u.start.dramStatus ≠ 2 → exec (.bar4Access now true off len x) s = .next u ∧
        exec (.bar4Access now false off len x) s = .next { u with dict := { u.dict with pcieData := allOnes len } }) ∧
      (u.start.paddockWipe = false → u.start.dramStatus = 2 →
        exec (.bar4Access now true off len x) s = .next { u with engs := { u.engs with dram := memWrite u.engs.dram (u.paddockBase + off) (leBytes len x) } } ∧
        exec (.bar4Access now false off len x) s = .next { u with dict := { u.dict with pcieData := leNat (memRead u.engs.dram (u.paddockBase + off) len) } })) ∧
    (u.dict.dma = none → exec (.dmaDone now) s = .next u) ∧
    (u.dict.dma ≠ none → exec (.dmaDone now) s = .next (({ u with dict := { u.dict with dma := none, dmaStatus := 2, msix := (u.dict.msix.1, bump u.dict.msix.2.1, u.dict.msix.2.2) } } : State).attn 3)) ∧
    (u.start.porHeld = true → exec (.pcieLinkUp now) s = .next u) ∧
    (u.start.porHeld = false → exec (.pcieLinkUp now) s = .next ((({ u with dict := { u.dict with pcieUp := true } } : State).setGroup 10 1).clearFault 0x000A)) ∧
    exec (.pcieLinkDown now) s = .next (((({ u with dict := { u.dict with pcieUp := false, dmaStatus := if u.dict.dma.isSome then 3 else u.dict.dmaStatus, dma := none } } :
      State).setGroup 10 0).endSessions 6 (fun y => y.path == .pcie)).raise 0x000A) ∧
    (ua.esxiaIn esx ok = (t, false) → exec (.esxiaPlainRequest a tag e ok) s = .next t ∧ exec (.esxiaSealedRequest a tag e ok) s = .next t) ∧
    (ua.esxiaIn esx ok = (t, true) →
      (t.execBody esx (takenOn .esxia e) = (v, c, len, x) → exec (.esxiaPlainRequest a tag e ok) s = .next (v.esxiaReply esx tag c (responseBody .esxia (answerWidths e) c len x))) ∧
      (t.sealedIn esx e false = (v, 0, some r) → exec (.esxiaSealedRequest a tag e ok) s = .next (v.esxiaReply esx tag r.1 r.2)) ∧
      (t.sealedIn esx e false = (v, 0, none) → exec (.esxiaSealedRequest a tag e ok) s = .next
        (if e.op = 2 ∧ e.idx = 0x1E30 then v.esxiaReply esx tag 0 (responseBody .esxia [] 0 0 0) else v)) ∧
      (∀ o, t.sealedIn esx e false = (v, c, o) → c ≠ 0 → exec (.esxiaSealedRequest a tag e ok) s = .next (v.esxiaReply esx tag c (responseBody .esxia [] c 0 0)))) ∧
    (u.dict.saving = none → exec (.dictStoreDone now ok) s = .next u) ∧
    (u.dict.saving = some l → exec (.dictStoreDone now false) s = .next { u with dict := { u.dict with saving := none } } ∧
      exec (.dictStoreDone now true) s = .next { u with dict := { u.dict with saving := none, savedBad := false, saved := some (match u.dict.saved with | some y => (y.1 + 1, l) | none => (1, l)) } })

/-- R446, R448–R454, R456, R458–R468, R470, R544: what the redundant pair does. A sealed message is taken once, and one whose tag fails is counted; a holder renews
on four good samples and gives its lease up when it expires or a foreign low is seen; a standby claims after a release or a silence on all paths, and becomes
the holder only then; a handoff runs from proposal to T_h, and the receiver that was not cancelled holds after it; a section is buffered and an epoch applied
only where its count, length and digest agree; and a peer lane that is lost hands over or ends the pair's keys. A command that finds its condition unmet
changes nothing. -/
def Obligations.PairEvents : Prop :=
  ∀ (s t v : State) (now pseq th cause n w epoch kind base count total digest girth : Nat) (fl back high pass x y pref fit al cfg full : Bool) (i j a b : Int) (c : Claim) (sec : SnapSection) (h : Handoff),
    let u := s.atTime now
    (∀ e ∈ [Instr.renew now pseq x c, .pairStatus now pseq x n fit al girth epoch cfg full back, .marker now pseq x i j, .snapSection now pseq x sec, .snapTrailer now pseq x epoch kind base count total digest,
        .handoffPropose now pseq x th cause, .handoffAccept now pseq x, .handoffCommit now pseq x, .handoffCancel now pseq x, .release now pseq x cause],
      u.peerIn pseq x = (t, false) → exec e s = .next t) ∧
    (u.pair.keys = false ∨ x = false → u.peerIn pseq x = (u.pairCount 4, false)) ∧
    (u.pair.keys = true → (∃ q, u.pair.pseqIn = some q ∧ pseq ≤ q) → u.peerIn pseq true = (u, false)) ∧
    (u.pair.keys = true → (∀ q, u.pair.pseqIn = some q → q < pseq) → u.peerIn pseq true = ({ u with pair := { u.pair with pseqIn := some pseq } }, true)) ∧
    (let p := u.takePair
     (p.pairEnable = false → exec (.halterQuarterTick now pass fl back high y) s = .next p) ∧
     (p.pairEnable = true → p.pair.lease = true →
       (pass = false ∨ p.sc0Runs = false → exec (.halterQuarterTick now pass fl back high y) s = .next p.handoffEpoch) ∧
       (pass = true → p.sc0Runs = true → v = p.sampleWires high y → exec (.halterQuarterTick now pass fl back high y) s =
         .next (State.handoffEpoch (if fl && back && high && y then v.renewed
           else (({ v with pair := { v.pair with renewFailed := true } } : State).pairCount 2).raise 0x1201)))) ∧
     (p.pairEnable = true → p.pair.lease = false → exec (.halterQuarterTick now pass fl back high y) s = .next (if p.pair.keys then p.judge.statusSend 0 else p))) ∧
    (u.pair.lease = true →
      exec (.leaseExpire now) s = .next (if u.pair.renewFailed then (u.stopLease 1).raise 0x1202 else u.stopLease 1) ∧
      (u.sanctioned = true → exec (.foreignLow now) s = .next (u.onHandoff (fun h => { h with claimed := true, pulse := u.tb.lc }))) ∧
      (u.sanctioned = false → v = (u.stopLease 4).pairCount 3 → exec (.foreignLow now) s = .next (({ v with pair := { v.pair with lastCause := 7 } } : State).raise 0x1203)) ∧
      (u.yieldCause = true → u.pair.handoff = none → exec (.pairYieldCheck now) s = .next (if u.peerReady then u.propose 5 else u.raise 0x120B)) ∧
      (u.yieldCause = false ∨ u.pair.handoff ≠ none → exec (.pairYieldCheck now) s = .next u) ∧
      (let due := u.swapOld = true ∧ u.inWindow u.tai = true ∧ u.pair.handoff = none ∧ ∀ z, u.pair.swapTry = some z → z + secs 60 ≤ u.tb.lc
       (due → bit (withheld u.gov.level) 4 = true → exec (.swapPropose now) s = .next { u with pair := { u.pair with swapDue := true } }) ∧
       (due → bit (withheld u.gov.level) 4 = false → v = ({ u with pair := { u.pair with swapDue := false } } : State).propose 3 → exec (.swapPropose now) s =
         .next { v with pair := { v.pair with swapTry := if v.pair.handoff.isNone then some v.tb.lc else none } }) ∧
       (¬ due → exec (.swapPropose now) s = .next u))) ∧
    (u.pair.lease = false → exec (.leaseExpire now) s = .next u ∧ exec (.foreignLow now) s = .next u ∧ exec (.pairYieldCheck now) s = .next u ∧ exec (.swapPropose now) s = .next u) ∧
    (u.pair.lease = true → exec (.halterClaim now high y pass) s = .next u) ∧
    (u.pair.lease = false → let q := u.takeLease
      let bars := q.pairEnable = false ∨ q.pair.lease = true ∨ q.pairHoldStandby = true ∨ q.receiving = true
      let open' := q.releaseClaim = true ∨ (q.silentClaim = true ∧ high = true ∧ y = true)
      (bars → exec (.halterClaim now high y pass) s = .next q) ∧
      (¬ bars → ¬ open' → exec (.halterClaim now high y pass) s = .next (q.sampleWires high y)) ∧
      (¬ bars → open' → v = q.sampleWires high y → exec (.halterClaim now high y pass) s = .next (if pass then v.takeHalter else { v with pair := { v.pair with release := none } }))) ∧
    (u.pairEnable = false ∨ u.pair.lease = true → exec (.haltWireFall now w back) s = .next u) ∧
    (u.pairEnable = true → u.pair.lease = false → (let d := ({ u with pair := { u.pair with silA := u.tb.lc } } : State).sampleWires back u.pair.wireB
      let f := ({ u with pair := { u.pair with silB := u.tb.lc } } : State).sampleWires u.pair.wireA back
      exec (.haltWireFall now 0 back) s = .next ((d.clearFault 0x1207 0).level (d.silent d.pair.silB && !d.silent d.pair.silL) 0x1207 1) ∧
      exec (.haltWireFall now 1 back) s = .next ((f.clearFault 0x1207 1).level (f.silent f.pair.silA && !f.silent f.pair.silL) 0x1207 0))) ∧
    (u.mayPair = false ∨ x = false ∨ n ≠ u.pairPeerSerial ∨ (w ≠ 2 ∧ w ≠ 3) → exec (.hello now n w pref base x) s = .next u) ∧
    (u.mayPair = true → w = 2 ∨ w = 3 →
      let p : Peer := ⟨u.pairPeerSerial, w, pref, base, 1, true, false, girthUnknown, 0, false⟩
      v = { u with pair := { u.pair with keys := true, pseqIn := none, peer := some p, fullDue := u.pair.lease, thetas := [], silL := u.tb.lc } } →
      exec (.hello now u.pairPeerSerial w pref base true) s = .next
        ((if v.pair.lease ∨ v.pair.state = .diag then v else ({ v with pair := { v.pair with state := .syncing } } : State).judge).level (pref == u.pair.preferred) 0x1204)) ∧
    (u.peerIn pseq x = (t, true) →
      (v = ({ t with pair := { t.pair with silL := t.tb.lc, release := none } } : State) → exec (.renew now pseq x c) s = .next ((v.putClaim 17 { c with auth := true, rx := v.tb.lc }).clearFault 0x1205).heard) ∧
      (v = { t with pair := { t.pair with
          peer := t.pair.peer.map (fun p => { p with state := n, fit := fit, aligned := al, girth := girth, epoch := epoch, configMatch := cfg }),
          configMatch := if t.pair.lease then cfg else t.pair.configMatch, fullDue := t.pair.fullDue || full } } →
        (t.pair.lease = false → exec (.pairStatus now pseq x n fit al girth epoch cfg full back) s = .next v) ∧
        (t.pair.lease = true → exec (.pairStatus now pseq x n fit al girth epoch cfg full back) s = .next
          (if back ∧ (v.clearFault 0x1205).pair.handoff = none then (v.clearFault 0x1205).propose 4 else v.clearFault 0x1205))) ∧
      (t.ownMarker = none ∨ t.net.peerActive = 0xFF → exec (.marker now pseq x i j) s = .next t) ∧
      (t.ownMarker = some (a, b) → t.net.peerActive ≠ 0xFF →
        let l := newest 16 (rdiv ((b - i) - (j - a)) 2 :: t.pair.thetas)
        v = { t with pair := { t.pair with theta := rdiv ((b - i) - (j - a)) 2, delta := rdiv ((b - i) + (j - a)) 2, thetas := l, thetaT := some t.tb.lc, sigma := thetaSigma l } } →
        (v.servo.suspended = true ∨ v.pair.following = false → exec (.marker now pseq x i j) s = .next v.judge) ∧
        (v.servo.suspended = false → v.pair.following = true → exec (.marker now pseq x i j) s =
          .next (if v.switchingNow then v.endBuildOut (some (-v.pair.theta)) else v.followPeer v.tb.lc).recalc.judge)) ∧
      (t.pair.lease = false → exec (.snapSection now pseq x sec) s = .next { t with pair := { t.pair with snapBuf := t.pair.snapBuf ++ [sec] } }) ∧
      (t.pair.lease = true → exec (.snapSection now pseq x sec) s = .next t ∧ exec (.snapTrailer now pseq x epoch kind base count total digest) s = .next t ∧ exec (.release now pseq x cause) s = .next t) ∧
      (t.pair.lease = false → (let l := t.pair.snapBuf.filter (·.epoch == epoch)
        let d : State := { t with pair := { t.pair with snapBuf := [] } }
        let whole := l.length = count ∧ (l.map (·.len)).sum = total ∧ Config.sha384 (l.map (·.content)) = digest
        let held := t.pair.snapTime ≠ none ∧ base = t.pair.snapEpoch
        (¬ whole → exec (.snapTrailer now pseq x epoch kind base count total digest) s = .next d) ∧
        (whole → kind = 1 ∨ (kind = 2 ∧ held) → v = l.foldl (fun z k => z.applySection (kind == 1) k) d →
          exec (.snapTrailer now pseq x epoch kind base count total digest) s = .next (({ v with pair := { v.pair with snapEpoch := epoch, snapTime := some v.tb.lc } } : State).ptpOver.judge)) ∧
        (whole → kind = 2 → ¬ held → exec (.snapTrailer now pseq x epoch kind base count total digest) s = .next (d.statusSend 1)) ∧
        (whole → kind ≠ 1 → kind ≠ 2 → exec (.snapTrailer now pseq x epoch kind base count total digest) s = .next d))) ∧
      (t.pair.lease = false → exec (.release now pseq x cause) s = .next { t with pair := { t.pair with release := some t.tb.lc } }) ∧
      (t.pair.lease = true → exec (.handoffPropose now pseq x th cause) s = .next t) ∧
      (t.pair.lease = false →
        let fits := t.judge.pair.state = .ready ∧ t.pair.fit = true ∧ t.handoffOwn th = true
        (fits → exec (.handoffPropose now pseq x th cause) s = .next
          (({ t with pair := { t.pair with handoff := some ⟨false, th, cause, true, false, false, false, false, 0⟩, state := .handoff, readySince := none } } : State).peerSend 7 [2, th, cause])) ∧
        (¬ fits → exec (.handoffPropose now pseq x th cause) s = .next (t.raise 0x120B))) ∧
      (t.pair.lease = true → t.pair.handoff = some h → h.releaser = true → h.accepted = false → v = t.onHandoff (fun h => { h with accepted := true }) →
        exec (.handoffAccept now pseq x) s = .next (({ v with pair := { v.pair with state := .handoff } } : State).regate)) ∧
      (t.pair.lease = false ∨ (∀ h, t.pair.handoff = some h → h.releaser = false ∨ h.accepted = true) → exec (.handoffAccept now pseq x) s = .next t) ∧
      exec (.handoffCommit now pseq x) s = .next (if t.receiving then t.onHandoff (fun h => { h with committed := true }) else t) ∧
      exec (.handoffCancel now pseq x) s = .next (if t.releasing then t.cancelOut else if t.receiving then t.onHandoff (fun h => { h with cancelled := true }) else t)) ∧
    (let opens := u.receiving = true ∧ u.sanctioned = true ∧ u.pair.lease = false ∧ pass = true ∧ u.pairHoldStandby = false
     (opens → exec (.handoffReceiverClaim now pass) s = .next (u.startLease.onHandoff (fun h => { h with claimed := true }))) ∧
     (¬ opens → exec (.handoffReceiverClaim now pass) s = .next u)) ∧
    (u.releasing = false → exec (.handoffCommitCheck now) s = .next u) ∧
    (u.releasing = true → u.pair.handoff = some h →
      let good := h.claimed = true ∧ h.fullSent = true ∧ u.tb.lc ≤ h.pulse + millis u.pair.leaseMs / 4 ∧ u.pair.peer.any (fun p => p.epoch == u.pair.outEpoch && p.aligned) = true
      (good → exec (.handoffCommitCheck now) s = .next ((u.onHandoff (fun h => { h with committed := true })).peerSend 7 [3, h.th, h.cause])) ∧
      (¬ good → exec (.handoffCommitCheck now) s = .next (u.peerSend 7 [4, h.th, h.cause]).cancelOut)) ∧
    (u.pair.handoff = some h →
      (h.releaser = true → exec (.handoffNoCommitTimeout now) s = .next u ∧
        (u.pair.lease = true → h.committed = true →
          v = (u.pairCount 1).stopLease 6 →
          exec (.handoffExecute now) s = .next (({ v with pair := { v.pair with state := if h.cause = 3 then .diag else v.pair.state, lastCause := h.cause, lastSwap := v.tai, lastScheduled := decide (h.cause = 3) } } : State).regate)) ∧
        (u.pair.lease = false ∨ h.committed = false → exec (.handoffExecute now) s = .next
          ({ u with pair := { u.pair with handoff := none, state := if u.pair.lease then .active else u.pair.state } } : State).regate)) ∧
      (h.releaser = false →
        (h.claimed = false → exec (.handoffExecute now) s = .next ({ u with pair := { u.pair with handoff := none, state := .syncing } } : State).judge) ∧
        (h.claimed = true → h.cancelled = true → exec (.handoffExecute now) s = .next ((u.stopLease 7).pairCount 7).judge) ∧
        (h.claimed = true → h.cancelled = false → exec (.handoffExecute now) s = .next (if h.committed then (u.pairCount 1).becomeHolder h.cause false else u)) ∧
        (let late := h.claimed = true ∧ h.committed = false ∧ h.cancelled = false ∧ u.pair.lease = true ∧ (h.th : Int) ≤ u.tai ∧
           (h.th : Int) * 65536000000000 + millis u.pair.leaseMs ≤ u.full ∧ h.pulse + millis u.pair.leaseMs ≤ u.tb.lc
         (late → exec (.handoffNoCommitTimeout now) s = .next ((u.pairCount 1).becomeHolder h.cause true)) ∧
         (¬ late → exec (.handoffNoCommitTimeout now) s = .next u)))) ∧
    (u.pair.handoff = none → exec (.handoffExecute now) s = .next u ∧ exec (.handoffNoCommitTimeout now) s = .next u) ∧
    (u.pair.state = .diag → v = { u with pair := { u.pair with diagResult := n % 256, fit := n % 256 == 0, state := .syncing } } →
      t = (if v.pair.keys then v.judge else { v with pair := { v.pair with state := if v.pair.fit then v.idlePState else .unfit } }) →
      exec (.pairDiagDone now n) s = .next (t.level (!t.pair.fit) 0x120A)) ∧
    (u.pair.state ≠ .diag → exec (.pairDiagDone now n) s = .next u) ∧
    (let asks := u.pairRevertive = true ∧ u.pair.preferred = true ∧ u.pair.state = .ready ∧ u.pair.fit = true ∧ (∃ z, u.pair.readySince = some z ∧ z + secs u.returnHold ≤ u.tb.lc) ∧
       (u.pair.lastScheduled = false ∨ u.pair.lastSwap + u.swapDwell ≤ u.tai) ∧ u.pair.keys = true
     (asks → exec (.pairReturn now) s = .next (u.statusSend 4)) ∧ (¬ asks → exec (.pairReturn now) s = .next u)) ∧
    (w < 2 → v = u.beginPeer w →
      (u.net.peerActive ≠ w → exec (.peerLaneDown now w) s = .next (v.raise 0x0904 w)) ∧
      (u.net.peerActive = w → v.peerUp (1 - w) = true → exec (.peerLaneDown now w) s = .next ((v.peerSwitch (1 - w)).raise 0x0904 w)) ∧
      (u.net.peerActive = w → v.peerUp (1 - w) = false → exec (.peerLaneDown now w) s = .next ((({ v with net := { v.net with peerActive := 0xFF } } : State).leavePeer.pairWipe).raise 0x0904 w))) ∧
    (w < 2 → bit u.peerLaneEnable w = true → (u.peerLane w).state = 4 → (u.peerLane w).swept = true →
      v = (u.onPeer w (fun q => { q with state := 5, upAt := u.tb.lc })).clearFault 0x0904 w →
      t = (if v.net.peerActive = 0xFF then { v with net := { v.net with peerActive := w } } else v) →
      (t.net.peerActive ≠ w ∨ t.pairEnable = false → exec (.peerLaneUp now w) s = .next t) ∧
      (t.net.peerActive = w → t.pairEnable = true → exec (.peerLaneUp now w) s = .next
        (if t.pair.lease ∨ t.pair.state = .diag then t else { t with pair := { t.pair with state := .joining } }).helloSend)) ∧
    (2 ≤ w ∨ bit u.peerLaneEnable w = false ∨ (u.peerLane w).state ≠ 4 ∨ (u.peerLane w).swept = false → exec (.peerLaneUp now w) s = .next u) ∧
    (2 ≤ w → exec (.peerLaneDown now w) s = .next u) ∧
    (u.beginPeer w = u.onPeer w (fun q => { q with state := 1, fom := 0, swept := false, fir := (0, 63, 0), dfe := u.peerDfe w, fomRun := 0, lowRun := 0, minRun := 0 })) ∧
    (u.pairEnable = false → exec (.peerLinkSilence now) s = .next u) ∧
    (u.pairEnable = true → u.pair.lease = true → exec (.peerLinkSilence now) s = .next (u.raise 0x1205)) ∧
    (u.pairEnable = true → u.pair.lease = false → exec (.peerLinkSilence now) s = .next (if u.leavePeer.pair.state = .isolated then u.leavePeer.raise 0x1205 else u.leavePeer))

/-- R440, R471–R484: what a domain does. A part outside a domain takes no hierarchy message, and a source beyond its rate is dropped; a worker sends JOIN until
it has a session or a final refusal; a manager answers a JOIN with its result, or takes the worker in, acknowledges and welcomes it; a sealed message with an old
number or a bad tag is counted and dropped; QUALITY becomes the claim where the claim is fit; a policy is applied whole or, with the place of its first failure
reported, not at all; keys are answered entry by entry; and a session that is lost or left ends, with its fault at the worker. -/
def Obligations.DomainEvents : Prop :=
  ∀ (s t v z : State) (now src id w serial lc epoch dseq ql flags girth code n i : Nat) (b : Bool) (c : Claim) (x : Worker) (l : List SnapKey) (rs f : List Nat) (k : Nat × Nat)
    (es : List (Nat × Nat × Nat × Nat)) (pe : Nat × Nat × Nat × Nat),
    let u := s.atTime now
    (∀ e ∈ [Instr.join now src id w serial lc epoch b, .joinAck now src id w serial n b, .quality now src dseq b ql flags epoch c, .policy now src dseq b epoch es,
        .domainStatus now src w dseq b ql girth epoch, .policyAck now src w dseq b epoch code n, .keys now src dseq b l, .keysAck now src w dseq b rs, .leave now src w dseq b n],
      u.domainArrives src = (t, false) → exec e s = .next t) ∧
    (u.mayDomain = false ∨ u.engsRun = false → u.domainArrives src = (u, false) ∧ exec (.domainJoinTx now) s = .next u ∧ exec (.domainQualityTx now) s = .next u ∧
      exec (.domainStatusTx now) s = .next u) ∧
    (u.mayDomain = true → u.engsRun = true → u.domainArrives src = (u.takeTerm (fun m => m.service == 3)).1.esxiaAdmit src) ∧
    (u.working = true → u.engsRun = true →
      (u.domain.session = false → u.domain.state ≠ 4 → u.joinFields = (t, f) → exec (.domainJoinTx now) s = .next (t.domSend 0x10 t.workerNumber f)) ∧
      (u.domain.session = false → u.domain.state = 4 → exec (.domainJoinTx now) s = .next u) ∧
      (u.domain.session = false → exec (.domainStatusTx now) s = .next u) ∧
      (u.domain.session = true → exec (.domainJoinTx now) s = .next u ∧ exec (.domainStatusTx now) s = .next (u.toManager 0x13
        [u.start.state.code, u.sel.current, u.todQl u.girth.ql, u.gNow, u.domain.epoch]))) ∧
    (u.working = false → exec (.domainJoinTx now) s = .next u ∧ exec (.domainStatusTx now) s = .next u) ∧
    (u.managing = false → exec (.domainQualityTx now) s = .next u) ∧
    (u.managing = true → u.engsRun = true → exec (.domainQualityTx now) s = .next ((u.domain.workers.filter (·.state == 2)).foldl (fun y z => y.toWorker 0x12 z y.qualityFields) u)) ∧
    (u.domainArrives src = (t, true) → t.managing = false → exec (.join now src id w serial lc epoch b) s = .next t) ∧
    (u.domainArrives src = (t, true) → t.managing = true →
      (exec (.join now src id w serial lc epoch false) s = .next (t.domCount 1)) ∧
      (t.joinResult id w serial lc ≠ 0 → exec (.join now src id w serial lc epoch true) s = .next ((t.domCount 0).sendAck w (t.joinResult id w serial lc))) ∧
      (t.joinResult id w serial lc = 0 → t.sessionKeys = (v, k) → exec (.join now src id w serial lc epoch true) s = .next
        (((({ v with domain := { v.domain with joins := v.joinsNow + 1, joinSecond := v.tai } } : State).putWorker
          ⟨w, serial, lc, epoch, 0, 0, 2, 0, none, 0, some k, v.tb.lc⟩).sendAck w 0).welcome w))) ∧
    (t.ackFields w n = (v, f) → t.sendAck w n = v.domSend 0x11 w f ∧ f.take 3 = [t.domainId, w, n]) ∧
    (id ≠ t.domainId → t.joinResult id w serial lc = 1) ∧
    (id = t.domainId → (w = 0 ∨ 4095 < w → t.joinResult id w serial lc = 3) ∧
      (1 ≤ w → w ≤ 4095 → (lc ≠ 2 → lc ≠ 3 → t.joinResult id w serial lc = 4) ∧
        (lc = 2 ∨ lc = 3 → (t.domainJoinRate ≤ t.joinsNow → t.joinResult id w serial lc = 5) ∧
          (t.joinsNow < t.domainJoinRate → (t.worker w = some x → x.serial ≠ serial → t.joinResult id w serial lc = 2) ∧
            (t.worker w = none ∨ (∃ y, t.worker w = some y ∧ y.serial = serial) → t.joinResult id w serial lc = 0))))) ∧
    (t.managing = true → (t.worker w = none → t.fromWorker w dseq b = (t.domCount 1, none)) ∧
      (t.worker w = some x → b = false ∨ (∃ d, x.dseqIn = some d ∧ dseq ≤ d) → t.fromWorker w dseq b = (t.domCount 1, none)) ∧
      (t.worker w = some x → (∀ d, x.dseqIn = some d → d < dseq) → t.fromWorker w dseq true = (t.putWorker { x with dseqIn := some dseq }, some { x with dseqIn := some dseq }))) ∧
    (t.managing = false → t.fromWorker w dseq b = (t, none)) ∧
    (t.working = false → t.fromManager dseq b = (t, false)) ∧
    (t.working = true → (t.domain.session = false ∨ b = false ∨ (∃ d, t.domain.dseqIn = some d ∧ dseq ≤ d) → t.fromManager dseq b = (t.domCount 1, false)) ∧
      (t.domain.session = true → (∀ d, t.domain.dseqIn = some d → d < dseq) →
        t.fromManager dseq true = ({ t with domain := { t.domain with dseqIn := some dseq } }, true))) ∧
    (u.domainArrives src = (t, true) → t.working = false ∨ t.domain.session = true ∨ t.domain.state = 4 → exec (.joinAck now src id w serial n b) s = .next t) ∧
    (u.domainArrives src = (t, true) → t.working = true → t.domain.session = false → t.domain.state ≠ 4 →
      exec (.joinAck now src id w serial n false) s = .next (t.domCount 1) ∧
      (let mine := w = t.workerNumber ∧ serial ≠ 0 ∧ (serial = fld t.domainManagerSerials 0 4 ∨ serial = fld t.domainManagerSerials 4 4)
       (¬ mine → exec (.joinAck now src id w serial n true) s = .next t) ∧
       (mine →
         (id ≠ t.domainId → exec (.joinAck now src id w serial 0 true) s = .next t) ∧
         (id = t.domainId → t.sessionKeys = (v, k) → exec (.joinAck now src id w serial 0 true) s = .next (({ v with domain := { v.domain with
           session := true, manager := serial, dseqIn := none, dseqOut := 0, state := 2, quality := none, claim := none, keys := some k, heard := v.tb.lc } } : State).clearFault 0x1303)) ∧
         (∀ r ∈ [1, 3, 4], exec (.joinAck now src id w serial r true) s = .next (({ t with domain := { t.domain with state := 4 } } : State).raise 0x1301 r)) ∧
         (n = 2 ∨ 5 ≤ n → exec (.joinAck now src id w serial n true) s = .next t)))) ∧
    (u.domainArrives src = (t, true) → t.fromManager dseq b = (v, false) → exec (.quality now src dseq b ql flags epoch c) s = .next v ∧
      exec (.policy now src dseq b epoch es) s = .next v ∧ exec (.keys now src dseq b l) s = .next v ∧ (t.domainRole = 2 → exec (.leave now src w dseq b n) s = .next v)) ∧
    (u.domainArrives src = (t, true) → t.fromManager dseq b = (v, true) →
      (({ v with domain := { v.domain with quality := some ⟨ql, flags, epoch, v.tb.lc⟩, heard := v.tb.lc } } : State).noteFed = z →
        (claimOk { c with auth := true, rx := v.tb.lc } = true → exec (.quality now src dseq b ql flags epoch c) s = .next
          { z with domain := { z.domain with claim := some { c with auth := true, rx := v.tb.lc } } }) ∧
        (claimOk { c with auth := true, rx := v.tb.lc } = false → exec (.quality now src dseq b ql flags epoch c) s = .next
          { z with domain := { z.domain with claim := none }, girth := { z.girth with rejected := bump z.girth.rejected } })) ∧
      (es = [] ∨ 64 < es.length ∨ v.agentUp = false ∨ v.bootHalted = true → exec (.policy now src dseq b epoch es) s = .next v) ∧
      (es ≠ [] → es.length ≤ 64 → v.agentUp = true → v.bootHalted = false →
        ((es.zip (List.range es.length)).find? (fun p => v.policyCode src v.tb.lc p.1 != 0) = some (pe, i) →
          exec (.policy now src dseq b epoch es) s = .next ((v.domCount 4).toManager 0x15 [epoch, v.policyCode src v.tb.lc pe, i])) ∧
        ((es.zip (List.range es.length)).find? (fun p => v.policyCode src v.tb.lc p.1 != 0) = none → z = es.foldl (State.policyApply src v.tb.lc) v →
          exec (.policy now src dseq b epoch es) s = .next (({ z with domain := { z.domain with epoch := epoch } } : State).toManager 0x15 [epoch, 0, 0xFF]))) ∧
      exec (.keys now src dseq b l) s = .next ((v.takeKeys l).1.toManager 0x17 (l.length :: (v.takeKeys l).2)) ∧
      (t.domainRole = 2 → exec (.leave now src w dseq b n) s = .next v.managerLost)) ∧
    (v.takeKeys l).2.length = l.length ∧
    (v.domain.session = true → v.managerLost =
      ((({ v.noteFed with domain := { v.noteFed.domain with session := false, keys := none, state := 3, quality := none, claim := none } } : State).domCount 3).raise 0x1303)) ∧
    (v.domain.session = false → v.managerLost = v) ∧
    (u.domainArrives src = (t, true) → t.fromWorker w dseq b = (v, none) →
      (∀ e ∈ [Instr.domainStatus now src w dseq b ql girth epoch, .policyAck now src w dseq b epoch code n, .keysAck now src w dseq b rs], exec e s = .next v) ∧
      (t.domainRole ≠ 2 → exec (.leave now src w dseq b n) s = .next v)) ∧
    (u.domainArrives src = (t, true) → t.fromWorker w dseq b = (v, some x) →
      exec (.domainStatus now src w dseq b ql girth epoch) s = .next (v.putWorker { x with ql := ql, girth := girth, epoch := epoch, lastStatus := v.tai.toNat, heard := v.tb.lc }) ∧
      exec (.policyAck now src w dseq b epoch code n) s = .next (if code = 0 then v else v.domCount 4) ∧ exec (.keysAck now src w dseq b rs) s = .next v ∧
      (t.domainRole ≠ 2 → exec (.leave now src w dseq b n) s = .next { v with domain := { v.domain with workers := v.domain.workers.filter (·.num != x.num) } })) ∧
    (u.domain.heard + millis u.domainLossTime ≤ u.tb.lc → exec (.domainManagerLost now) s = .next u.managerLost) ∧
    (u.tb.lc < u.domain.heard + millis u.domainLossTime → exec (.domainManagerLost now) s = .next u) ∧
    (u.worker w = some x → (x.heard + millis u.domainLossTime ≤ u.tb.lc → exec (.domainWorkerLost now w) s = .next (u.putWorker { x with state := 3, keys := none })) ∧
      (u.tb.lc < x.heard + millis u.domainLossTime → exec (.domainWorkerLost now w) s = .next u)) ∧
    (u.worker w = none → exec (.domainWorkerLost now w) s = .next u)

/-- R36, R386, R485, R488–R494, R499–R516, R542: faults, start-up and flash. A code of no class and a raising under a held power-on reset do nothing; during a reset a
fault waits, and an F3 is recorded and latched; a level fault that is active is not raised again; handling ends with firmware's word, but for the codes that a
lock or the loader ends, and is watched; a power-on reset leaves POWERED, without key slots and with the fuses, the tables and the audit chain as they were; boot
falls back once, or halts; a new bundle stands in the idle half only when it verifies; and a commit that fails leaves the calibration as it was. -/
def Obligations.FaultsAndStartup : Prop :=
  ∀ (s t v : State) (now code inst detail n cls : Nat) (b fall calOk : Bool) (bad : List Nat) (still : List (Nat × Nat)) (l : List CalEntry),
    let u := s.atTime now
    (faultClass code = none ∨ u.start.porHeld = true → exec (.faultRaise now code inst detail) s = .next u) ∧
    (faultClass code = some cls → u.start.porHeld = false →
      (u.start.inReset = true → cls = 3 → v = u.record code 3 0 inst 0 0 detail → exec (.faultRaise now code inst detail) s = .next { v with faults := { v.faults with latch := true } }) ∧
      (u.start.inReset = true → cls ≠ 3 →
        let waits := isLevel code = true ∧ ∃ h ∈ u.faults.held, h.1 = code ∧ h.2.1 = inst
        (waits → exec (.faultRaise now code inst detail) s = .next u) ∧
        (¬ waits → exec (.faultRaise now code inst detail) s = .next { u with faults := { u.faults with held := u.faults.held ++ [(code, inst, detail)] } })) ∧
      (u.start.inReset = false → isLevel code = true → (code, inst) ∈ u.faults.levels → exec (.faultRaise now code inst detail) s = .next u) ∧
      (u.start.inReset = false → isLevel code = false ∨ (code, inst) ∉ u.faults.levels → exec (.faultRaise now code inst detail) s = .next (u.collect code cls inst detail))) ∧
    (u.start.inReset = true → exec (.faultConditionClear now code inst) s = .next
      { u with faults := { u.faults with held := u.faults.held.filter (fun h => !(h.1 == code && h.2.1 == inst)) } }) ∧
    (u.start.inReset = false → (code, inst) ∉ u.faults.levels → exec (.faultConditionClear now code inst) s = .next u) ∧
    (u.start.inReset = false → (code, inst) ∈ u.faults.levels → exec (.faultConditionClear now code inst) s = .next
      (({ u with faults := { u.faults with levels := u.faults.levels.filter (· != (code, inst)), active := u.faults.active.filter (fun a => !(a.1 == code && a.2.1 == inst)) } } :
        State).record code ((faultClass code).getD 0) 1 inst 0 0 0)) ∧
    (u.faults.handling = none → exec (.faultHandlingDone now) s = .next u ∧ exec (.faultHandleTimeout now) s = .next u) ∧
    (u.faults.handling.map (·.1) = some code →
      (u.faults.handledAt + millis u.faultHandleMax < u.tb.lc → exec (.faultHandleTimeout now) s = .next (u.raise 0x1601 code)) ∧
      (u.tb.lc ≤ u.faults.handledAt + millis u.faultHandleMax → exec (.faultHandleTimeout now) s = .next u) ∧
      (v = (if bit u.pairYieldMask (code / 256) then opYieldCheck u else u) →
        exec (.faultHandlingDone now) s = .next (if code ∈ [0x0001, 0x0002, 0x0003, 0x0004, 0x0006, 0x0007, 0x0D02] then v else v.endHandling code))) ∧
    (let moves := u.dramReady = true ∧ u.evlogSize ≠ 0 ∧ u.engsRun = true ∧ u.start.agent = true
     (¬ moves → exec (.evlogMove now n) s = .next u) ∧
     (moves → exec (.evlogMove now 0) s = .next u ∧ (n < 256 → exec (.evlogMove now n) s = .next v → exec (.evlogMove now (n + 1)) s = .next v.moveOne))) ∧
    (s.start.porHeld = true → exec (.poresetNLow b) s = .next s) ∧
    (s.start.porHeld = false → ∃ r, exec (.poresetNLow b) s = .next r ∧ r.start.state = .powered ∧ r.start.porHeld = true ∧ r.start.cause = (if b then 1 else if s.start.sleep then 8 else 2) ∧
      r.vault.slots = [] ∧ r.vault.unsealed = false ∧ r.vault.cloak = none ∧ r.vault.lc = s.vault.lc ∧ r.vault.records = s.vault.records ∧ r.cal.entries = s.cal.entries ∧
      r.access.chain = s.access.chain ∧ r.access.aseq = s.access.aseq ∧ r.access.sessions = [] ∧ r.start.bundleA = s.start.bundleA ∧ r.dict.saved = s.dict.saved ∧
      r.engs = State.reset.engs ∧ r.tb = State.reset.tb ∧ r.pending = s.pending) ∧
    (let fresh := u.start.porHeld = true ∨ (u.start.state = .boot ∧ u.start.bootDone = false ∧ u.start.inReset = false ∧ u.bootHalted = false)
     (fresh → exec (.powerOnResetRelease now fall calOk bad) s = .next (((u.porRelease.drawCloak.readAonLost).bootBundle fall).porBoot calOk bad).revalid) ∧
     (¬ fresh → exec (.powerOnResetRelease now fall calOk bad) s = .next u.revalid)) ∧
    (∃ c, t.drawCloak = { t with freeCount := t.freeCount + 3, vault := { t.vault with cloak := some c } } ∧ c.epoch = false) ∧
    (t.start.haltBundle = true → t.porBoot calOk bad = (t.startEngines.agentBack).endReset []) ∧
    (t.start.haltBundle = false → v = (if Config.dramMiB = 0 then (t.readCal calOk).raise 0x1401 else t.readCal calOk) →
      let alive := if Config.dramMiB = 0 then [(0x1401, noInst)] else []
      t.porBoot calOk bad = if v.vault.latch then ((v.tamperHalt).startEngines.agentBack).endReset alive else v.porStart bad alive) ∧
    (t.bundleValid (t.bundle t.preferB) = true → t.bootBundle false = { t with start := { t.start with bundleB := t.preferB } }) ∧
    (t.bundleValid (t.bundle t.preferB) = true →
      (t.bundleValid (t.bundle (!t.preferB)) = true → t.bootBundle true = ({ t with start := { t.start with bundleB := !t.preferB } } : State).raise 0x1507 (b2n (!t.preferB))) ∧
      (t.bundleValid (t.bundle (!t.preferB)) = false → t.bootBundle true = ({ t with start := { t.start with haltBundle := true } } : State).raise 0x1503)) ∧
    (t.bundleValid (t.bundle t.preferB) = false → t.bootBundle fall = ({ t with start := { t.start with haltBundle := true } } : State).raise 0x1503) ∧
    (u.start.inReset = false → exec (.systemResetEnginesReturn now fall calOk bad still) s = .next u.revalid) ∧
    (u.start.inReset = true → u.drawCloak.bootBundle fall = t →
      (t.start.haltBundle = true → exec (.systemResetEnginesReturn now fall calOk bad still) s = .next ((t.startEngines.agentBack).endReset still).revalid) ∧
      (t.start.haltBundle = false → t.readCal calOk = v → v.f3LimitHit = true → exec (.systemResetEnginesReturn now fall calOk bad still) s = .next
        ((((({ v with start := { v.start with haltF3 := true } } : State).raise 0x1602).startEngines.agentBack).endReset still)).revalid) ∧
      (t.start.haltBundle = false → t.readCal calOk = v → v.f3LimitHit = false → v.vault.latch = true → exec (.systemResetEnginesReturn now fall calOk bad still) s = .next
        (((v.tamperHalt).startEngines.agentBack).endReset still).revalid) ∧
      (t.start.haltBundle = false → t.readCal calOk = v → v.f3LimitHit = false → v.vault.latch = false →
        let a := (v.unseal bad).startEngines
        let d := (List.range 2).foldl State.startCan ((List.range 4).foldl (fun y k => opPtpReconfig k y) { a with ntp := { a.ntp with current := a.ntsKeyCurrent } })
        let e := (d.startRefs.resumeServo).startGnss
        exec (.systemResetEnginesReturn now fall calOk bad still) s = .next
          ((({ e with pair := { e.pair with silA := e.tb.lc, silB := e.tb.lc, silL := e.tb.lc } } : State).agentBack.bootComplete).endReset still).revalid)) ∧
    (u.start.dramStatus ≠ 1 → exec (.dramTrainingDone now b) s = .next u) ∧
    (u.start.dramStatus = 1 → exec (.dramTrainingDone now true) s = .next (({ u with start := { u.start with dramStatus := 2, dramSize := Config.dramMiB, ringZeroDue := false, paddockWipe := u.paddockSize != 0 }, ho := { u.ho with ring := [], ringPut := 0 }, engs := { u.engs with dram := memWipe u.engs.dram 0 1382400 } } : State).clearFault 0x1401).tackRelease ∧
      exec (.dramTrainingDone now false) s = .next (((({ u with start := { u.start with dramStatus := 3 } } : State).raise 0x1505).raise 0x1401).tackHold)) ∧
    exec (.dqsTracking now) s = .next u ∧
    (u.start.paddockWipe = true → u.start.dramStatus = 2 → exec (.paddockWipeDone now) s = .next ({ u with start := { u.start with paddockWipe := false } } : State).wipePaddock) ∧
    (u.start.paddockWipe = false ∨ u.start.dramStatus ≠ 2 → exec (.paddockWipeDone now) s = .next u) ∧
    (let late := u.start.state = .warming ∧ u.start.times.getD 1 0 + 1000 * u.start.warmMax ≤ u.ms
     (late → exec (.startupWarmMaxExpire now) s = .next (u.leaveWarming.raise 0x1504)) ∧ (¬ late → exec (.startupWarmMaxExpire now) s = .next u)) ∧
    (u.agentUp = false → exec (.agentWatchdogExpire now) s = .next u) ∧
    (u.agentUp = true → u.raise 0x1101 = t → exec (.agentWatchdogExpire now) s = .next (if t.start.inReset then { t with start := { t.start with cause := 6 } } else t)) ∧
    (u.start.fwState = 1 → exec (.fwEraseDone now true) s = .next { u with start := { u.start with fwState := 2, fwErased := true } } ∧
      exec (.fwEraseDone now false) s = .next { u with start := { u.start with fwState := 6 } }) ∧
    (u.start.fwState ≠ 1 → exec (.fwEraseDone now b) s = .next u) ∧
    (u.start.fwState = 3 →
      exec (.fwCommitDone now 0) s = .next (({ u with start := { u.start with fwPending := none, fwErased := false, fwState := 4 } } : State).putIdle u.start.fwPending) ∧
      exec (.fwCommitDone now 1) s = .next { u with start := { u.start with fwPending := none, fwErased := false, fwState := 5 } } ∧
      (2 ≤ n → exec (.fwCommitDone now n) s = .next { u with start := { u.start with fwPending := none, fwErased := false, fwState := 6 } })) ∧
    (u.start.fwState ≠ 3 → exec (.fwCommitDone now n) s = .next u) ∧
    (u.cal.commit = none → exec (.calCommitDone now b) s = .next u) ∧
    (u.cal.commit = some (l, n) → exec (.calCommitDone now true) s = .next { u with cal := { u.cal with commit := none, entries := l, gen := bump u.cal.gen, raises := [] } } ∧
      exec (.calCommitDone now false) s = .next (({ u with cal := { u.cal with commit := none } } : State).raise 0x1502 n)) ∧
    (u.cal.stagingTime + secs 600 ≤ u.tb.lc → exec (.calStagingTimeout now) s = .next { u with cal := { u.cal with staging := [] } }) ∧
    (u.tb.lc < u.cal.stagingTime + secs 600 → exec (.calStagingTimeout now) s = .next u)
end

