-- ==== Sys2Proof/Laws/Memory.lean ====
section
/-!
SUPPORT. Lists and byte memories: what changing one entry leaves, and that every memory operation keeps the canonical form.
-/
set_option Elab.async false
namespace Sys2Proof.Machine

/-! ## Lists -/

@[simp] theorem upd_length {α : Type} (f : α → α) (n : Nat) (l : List α) : (upd f n l).length = l.length := by
  induction l generalizing n with
  | nil => cases n <;> rfl
  | cons a t ih => cases n <;> simp [upd, ih]

theorem getElem_upd {α : Type} (f : α → α) (n m : Nat) (l : List α) (h : m < l.length) :
    (upd f n l)[m]'(by simpa using h) = if m = n then f l[m] else l[m] := by
  induction l generalizing n m with
  | nil => simp at h
  | cons a t ih =>
    cases n with
    | zero => cases m <;> simp [upd]
    | succ n =>
      cases m with
      | zero => simp [upd]
      | succ m => simpa [upd] using ih n m (by simpa using h)

theorem getD_upd_ne {α : Type} (f : α → α) (n m : Nat) (l : List α) (d : α) (h : m ≠ n) :
    (upd f n l).getD m d = l.getD m d := by
  induction l generalizing n m with
  | nil => cases n <;> rfl
  | cons a t ih =>
    cases n with
    | zero => cases m with
      | zero => exact absurd rfl h
      | succ m => simp [upd]
    | succ n => cases m with
      | zero => simp [upd]
      | succ m => simpa [upd] using ih n m (by omega)

theorem getD_upd_eq {α : Type} (f : α → α) (n : Nat) (l : List α) (d : α) (h : n < l.length) :
    (upd f n l).getD n d = f (l.getD n d) := by
  induction l generalizing n with
  | nil => simp at h
  | cons a t ih =>
    cases n with
    | zero => simp [upd]
    | succ n => simpa [upd] using ih n (by simpa using h)

theorem mem_upd {α : Type} {f : α → α} {P : α → Prop} (hf : ∀ a, P a → P (f a)) (n : Nat) (l : List α) (h : ∀ a ∈ l, P a) :
    ∀ a ∈ upd f n l, P a := by
  induction l generalizing n with
  | nil => cases n <;> simp [upd]
  | cons b t ih =>
    have hb := h b (by simp)
    have ht : ∀ a ∈ t, P a := fun a ha => h a (by simp [ha])
    cases n with
    | zero =>
      intro a ha
      rcases List.mem_cons.mp (by simpa [upd] using ha) with rfl | ha
      · exact hf b hb
      · exact ht a ha
    | succ n =>
      intro a ha
      rcases List.mem_cons.mp (by simpa [upd] using ha) with rfl | ha
      · exact hb
      · exact ih n ht a ha

/-! ## Memories -/

/-- The canonical form in the terms that its lemmas use: addresses strictly rise, and no byte is 0. -/
def MemOk (m : List Host.Cell) : Prop := m.Pairwise (fun c d => c.1 < d.1) ∧ ∀ c ∈ m, c.2 ≠ 0#8

theorem memWf_iff (m : List Host.Cell) : memWf m = true ↔ MemOk m := by
  induction m with
  | nil => simp [memWf, MemOk]
  | cons c t ih =>
    cases t with
    | nil => simp [memWf, MemOk]
    | cons d t =>
      simp only [memWf, Bool.and_eq_true, decide_eq_true_eq, bne_iff_ne, ih, MemOk, List.pairwise_cons]
      constructor
      · rintro ⟨⟨hc, hcd⟩, ⟨hd, ht⟩, hz⟩
        refine ⟨⟨?_, hd, ht⟩, ?_⟩
        · intro x hx
          rcases List.mem_cons.mp hx with rfl | hx
          · exact hcd
          · exact Nat.lt_trans hcd (hd x hx)
        · intro x hx
          rcases List.mem_cons.mp hx with rfl | hx
          · exact hc
          · exact hz x hx
      · rintro ⟨⟨h1, hd, ht⟩, hz⟩
        exact ⟨⟨hz c (by simp), h1 d (by simp)⟩, ⟨hd, ht⟩, fun x hx => hz x (List.mem_cons_of_mem _ hx)⟩

theorem MemOk.filter {m : List Host.Cell} (p : Host.Cell → Bool) (h : MemOk m) : MemOk (m.filter p) :=
  ⟨h.1.filter p, fun c hc => h.2 c (List.mem_filter.mp hc).1⟩

theorem mem_putKey {α : Type} (k : Nat) (v : α) (l : List (Nat × α)) :
    ∀ c ∈ putKey k v l, c = (k, v) ∨ c ∈ l := by
  induction l with
  | nil => simp [putKey]
  | cons p t ih =>
    obtain ⟨j, w⟩ := p
    intro c hc
    simp only [putKey] at hc
    split at hc
    · rcases List.mem_cons.mp hc with h | h
      · exact .inl h
      · exact .inr h
    · split at hc
      · rcases List.mem_cons.mp hc with h | h
        · exact .inl h
        · exact .inr (List.mem_cons_of_mem _ h)
      · rcases List.mem_cons.mp hc with h | h
        · exact .inr (by simp [h])
        · rcases ih c h with h | h
          · exact .inl h
          · exact .inr (List.mem_cons_of_mem _ h)

theorem pairwise_putKey {α : Type} (k : Nat) (v : α) (l : List (Nat × α)) (h : l.Pairwise (fun c d => c.1 < d.1)) :
    (putKey k v l).Pairwise (fun c d => c.1 < d.1) := by
  induction l with
  | nil => simp [putKey]
  | cons p t ih =>
    obtain ⟨j, w⟩ := p
    obtain ⟨hj, ht⟩ := List.pairwise_cons.mp h
    simp only [putKey]
    split
    · rename_i hk
      refine List.pairwise_cons.mpr ⟨?_, h⟩
      intro c hc
      rcases List.mem_cons.mp hc with rfl | hc
      · exact hk
      · exact Nat.lt_trans hk (hj c hc)
    · split
      · rename_i hk
        subst hk
        exact List.pairwise_cons.mpr ⟨hj, ht⟩
      · rename_i hk hne
        refine List.pairwise_cons.mpr ⟨?_, ih ht⟩
        intro c hc
        rcases mem_putKey k v t c hc with rfl | hc
        · have h1 : ¬ k < j := hk
          have h2 : ¬ k = j := hne
          show j < k
          omega
        · exact hj c hc

theorem MemOk.set {m : List Host.Cell} (h : MemOk m) (a : Nat) (v : Byte) : MemOk (memSet m a v) := by
  simp only [memSet]
  split
  · exact h.filter _
  · rename_i hv
    refine ⟨pairwise_putKey a v m h.1, ?_⟩
    intro c hc
    rcases mem_putKey a v m c hc with rfl | hc
    · exact hv
    · exact h.2 c hc

theorem MemOk.write {m : List Host.Cell} (h : MemOk m) (a : Nat) (l : List Byte) : MemOk (memWrite m a l) := by
  induction l generalizing m a with
  | nil => exact h
  | cons b t ih => exact ih (h.set a b) (a + 1)

theorem MemOk.wipe {m : List Host.Cell} (h : MemOk m) (a n : Nat) : MemOk (memWipe m a n) := h.filter _

theorem MemOk.nil : MemOk [] := ⟨List.Pairwise.nil, by simp⟩

/-! ## Read after write -/

theorem lookup_cons_if {α : Type} (i j : Nat) (w : α) (l : List (Nat × α)) :
    ((i, w) :: l).lookup j = if j = i then some w else l.lookup j := by
  by_cases h : j = i
  · subst h; simp
  · have hb : (j == i) = false := by simp [h]
    simp [List.lookup, hb, h]

theorem lookup_putKey {α : Type} (k j : Nat) (v : α) (l : List (Nat × α)) (h : l.Pairwise (fun c d => c.1 < d.1)) :
    (putKey k v l).lookup j = if j = k then some v else l.lookup j := by
  induction l with
  | nil => simp only [putKey, lookup_cons_if]
  | cons p t ih =>
    obtain ⟨i, w⟩ := p
    obtain ⟨hi, ht⟩ := List.pairwise_cons.mp h
    simp only [putKey]
    split
    · simp only [lookup_cons_if]
    · split
      · rename_i hk
        subst hk
        simp only [lookup_cons_if]
        split <;> rfl
      · rename_i hk hne
        simp only [lookup_cons_if, ih ht]
        by_cases hj : j = i
        · subst hj
          have : ¬ j = k := fun e => hne e.symm
          simp [this]
        · simp [hj]

theorem lookup_delKey {α : Type} (k j : Nat) (l : List (Nat × α)) :
    (delKey k l).lookup j = if j = k then none else l.lookup j := by
  induction l with
  | nil => simp [delKey, List.lookup]
  | cons p t ih =>
    obtain ⟨i, w⟩ := p
    simp only [delKey] at ih
    simp only [delKey, List.filter_cons]
    by_cases hik : i = k
    · subst hik
      simp only [bne_self_eq_false, Bool.false_eq_true, if_false, ih, lookup_cons_if]
      split <;> rfl
    · have hb : (i != k) = true := by simp [hik]
      simp only [hb, if_true, lookup_cons_if, ih]
      by_cases hj : j = i
      · subst hj; simp [hik]
      · simp [hj]

/-- A byte reads as it was last written, and a write changes no other byte. -/
theorem memGet_memSet {m : List Host.Cell} (h : MemOk m) (a x : Nat) (v : Byte) :
    memGet (memSet m a v) x = if x = a then v else memGet m x := by
  simp only [memGet, memSet]
  split
  · rename_i hv
    rw [lookup_delKey]
    by_cases hx : x = a <;> simp [hx, hv]
  · rw [lookup_putKey _ _ _ _ h.1]
    by_cases hx : x = a <;> simp [hx]

/-- A write of several bytes leaves every byte outside its range as it was. -/
theorem memGet_memWrite_ne {m : List Host.Cell} (h : MemOk m) (a x : Nat) (l : List Byte) (hx : x < a ∨ a + l.length ≤ x) :
    memGet (memWrite m a l) x = memGet m x := by
  induction l generalizing m a with
  | nil => rfl
  | cons b t ih =>
    simp only [List.length_cons] at hx
    rw [memWrite, ih (h.set a b) (a + 1) (by omega), memGet_memSet h]
    have : x ≠ a := by omega
    simp [this]

/-- The bytes written read back. -/
theorem memGet_memWrite {m : List Host.Cell} (h : MemOk m) (a i : Nat) (l : List Byte) (hi : i < l.length) :
    memGet (memWrite m a l) (a + i) = l[i] := by
  induction l generalizing m a i with
  | nil => simp at hi
  | cons b t ih =>
    cases i with
    | zero =>
      rw [memWrite, memGet_memWrite_ne (h.set a b) (a + 1) (a + 0) t (by omega), memGet_memSet h]
      simp
    | succ i =>
      have := ih (h.set a b) (a + 1) i (by simpa using hi)
      rw [memWrite]
      simpa [Nat.add_assoc, Nat.add_comm 1] using this

end Sys2Proof.Machine
end

