-- ==== Sys2Proof/Laws/State.lean ====
section
/-!
SUPPORT. What each named update of the state does to each of its fields: one lemma per field per update, so that no later proof
unfolds a record update.
-/
set_option Elab.async false
namespace Sys2Proof.Machine

/-! ## onRef -/

@[simp] theorem State.onRef_pending (s : State) (n : Nat) (f : Ref → Ref) : (s.onRef n f).pending = s.pending := rfl
@[simp] theorem State.onRef_clk (s : State) (n : Nat) (f : Ref → Ref) : (s.onRef n f).clk = s.clk := rfl
@[simp] theorem State.onRef_tb (s : State) (n : Nat) (f : Ref → Ref) : (s.onRef n f).tb = s.tb := rfl
@[simp] theorem State.onRef_refs (s : State) (n : Nat) (f : Ref → Ref) : (s.onRef n f).refs = upd f n s.refs := rfl
@[simp] theorem State.onRef_sel (s : State) (n : Nat) (f : Ref → Ref) : (s.onRef n f).sel = s.sel := rfl
@[simp] theorem State.onRef_tod (s : State) (n : Nat) (f : Ref → Ref) : (s.onRef n f).tod = s.tod := rfl
@[simp] theorem State.onRef_tiu (s : State) (n : Nat) (f : Ref → Ref) : (s.onRef n f).tiu = s.tiu := rfl
@[simp] theorem State.onRef_servo (s : State) (n : Nat) (f : Ref → Ref) : (s.onRef n f).servo = s.servo := rfl
@[simp] theorem State.onRef_accum (s : State) (n : Nat) (f : Ref → Ref) : (s.onRef n f).accum = s.accum := rfl
@[simp] theorem State.onRef_ho (s : State) (n : Nat) (f : Ref → Ref) : (s.onRef n f).ho = s.ho := rfl
@[simp] theorem State.onRef_oven (s : State) (n : Nat) (f : Ref → Ref) : (s.onRef n f).oven = s.oven := rfl
@[simp] theorem State.onRef_atomic (s : State) (n : Nat) (f : Ref → Ref) : (s.onRef n f).atomic = s.atomic := rfl
@[simp] theorem State.onRef_synth (s : State) (n : Nat) (f : Ref → Ref) : (s.onRef n f).synth = s.synth := rfl
@[simp] theorem State.onRef_gnss (s : State) (n : Nat) (f : Ref → Ref) : (s.onRef n f).gnss = s.gnss := rfl
@[simp] theorem State.onRef_girth (s : State) (n : Nat) (f : Ref → Ref) : (s.onRef n f).girth = s.girth := rfl
@[simp] theorem State.onRef_net (s : State) (n : Nat) (f : Ref → Ref) : (s.onRef n f).net = s.net := rfl
@[simp] theorem State.onRef_yard (s : State) (n : Nat) (f : Ref → Ref) : (s.onRef n f).yard = s.yard := rfl
@[simp] theorem State.onRef_ptp (s : State) (n : Nat) (f : Ref → Ref) : (s.onRef n f).ptp = s.ptp := rfl
@[simp] theorem State.onRef_ntp (s : State) (n : Nat) (f : Ref → Ref) : (s.onRef n f).ntp = s.ntp := rfl
@[simp] theorem State.onRef_engs (s : State) (n : Nat) (f : Ref → Ref) : (s.onRef n f).engs = s.engs := rfl
@[simp] theorem State.onRef_dump (s : State) (n : Nat) (f : Ref → Ref) : (s.onRef n f).dump = s.dump := rfl
@[simp] theorem State.onRef_gov (s : State) (n : Nat) (f : Ref → Ref) : (s.onRef n f).gov = s.gov := rfl
@[simp] theorem State.onRef_vault (s : State) (n : Nat) (f : Ref → Ref) : (s.onRef n f).vault = s.vault := rfl
@[simp] theorem State.onRef_access (s : State) (n : Nat) (f : Ref → Ref) : (s.onRef n f).access = s.access := rfl
@[simp] theorem State.onRef_dict (s : State) (n : Nat) (f : Ref → Ref) : (s.onRef n f).dict = s.dict := rfl
@[simp] theorem State.onRef_pair (s : State) (n : Nat) (f : Ref → Ref) : (s.onRef n f).pair = s.pair := rfl
@[simp] theorem State.onRef_domain (s : State) (n : Nat) (f : Ref → Ref) : (s.onRef n f).domain = s.domain := rfl
@[simp] theorem State.onRef_log (s : State) (n : Nat) (f : Ref → Ref) : (s.onRef n f).log = s.log := rfl
@[simp] theorem State.onRef_faults (s : State) (n : Nat) (f : Ref → Ref) : (s.onRef n f).faults = s.faults := rfl
@[simp] theorem State.onRef_start (s : State) (n : Nat) (f : Ref → Ref) : (s.onRef n f).start = s.start := rfl
@[simp] theorem State.onRef_cal (s : State) (n : Nat) (f : Ref → Ref) : (s.onRef n f).cal = s.cal := rfl
@[simp] theorem State.onRef_freeCount (s : State) (n : Nat) (f : Ref → Ref) : (s.onRef n f).freeCount = s.freeCount := rfl

/-! ## onChan -/

@[simp] theorem State.onChan_pending (s : State) (c : Nat) (f : Tiu → Tiu) : (s.onChan c f).pending = s.pending := rfl
@[simp] theorem State.onChan_clk (s : State) (c : Nat) (f : Tiu → Tiu) : (s.onChan c f).clk = s.clk := rfl
@[simp] theorem State.onChan_tb (s : State) (c : Nat) (f : Tiu → Tiu) : (s.onChan c f).tb = s.tb := rfl
@[simp] theorem State.onChan_refs (s : State) (c : Nat) (f : Tiu → Tiu) : (s.onChan c f).refs = s.refs := rfl
@[simp] theorem State.onChan_sel (s : State) (c : Nat) (f : Tiu → Tiu) : (s.onChan c f).sel = s.sel := rfl
@[simp] theorem State.onChan_tod (s : State) (c : Nat) (f : Tiu → Tiu) : (s.onChan c f).tod = s.tod := rfl
@[simp] theorem State.onChan_tiu (s : State) (c : Nat) (f : Tiu → Tiu) : (s.onChan c f).tiu = upd f c s.tiu := rfl
@[simp] theorem State.onChan_servo (s : State) (c : Nat) (f : Tiu → Tiu) : (s.onChan c f).servo = s.servo := rfl
@[simp] theorem State.onChan_accum (s : State) (c : Nat) (f : Tiu → Tiu) : (s.onChan c f).accum = s.accum := rfl
@[simp] theorem State.onChan_ho (s : State) (c : Nat) (f : Tiu → Tiu) : (s.onChan c f).ho = s.ho := rfl
@[simp] theorem State.onChan_oven (s : State) (c : Nat) (f : Tiu → Tiu) : (s.onChan c f).oven = s.oven := rfl
@[simp] theorem State.onChan_atomic (s : State) (c : Nat) (f : Tiu → Tiu) : (s.onChan c f).atomic = s.atomic := rfl
@[simp] theorem State.onChan_synth (s : State) (c : Nat) (f : Tiu → Tiu) : (s.onChan c f).synth = s.synth := rfl
@[simp] theorem State.onChan_gnss (s : State) (c : Nat) (f : Tiu → Tiu) : (s.onChan c f).gnss = s.gnss := rfl
@[simp] theorem State.onChan_girth (s : State) (c : Nat) (f : Tiu → Tiu) : (s.onChan c f).girth = s.girth := rfl
@[simp] theorem State.onChan_net (s : State) (c : Nat) (f : Tiu → Tiu) : (s.onChan c f).net = s.net := rfl
@[simp] theorem State.onChan_yard (s : State) (c : Nat) (f : Tiu → Tiu) : (s.onChan c f).yard = s.yard := rfl
@[simp] theorem State.onChan_ptp (s : State) (c : Nat) (f : Tiu → Tiu) : (s.onChan c f).ptp = s.ptp := rfl
@[simp] theorem State.onChan_ntp (s : State) (c : Nat) (f : Tiu → Tiu) : (s.onChan c f).ntp = s.ntp := rfl
@[simp] theorem State.onChan_engs (s : State) (c : Nat) (f : Tiu → Tiu) : (s.onChan c f).engs = s.engs := rfl
@[simp] theorem State.onChan_dump (s : State) (c : Nat) (f : Tiu → Tiu) : (s.onChan c f).dump = s.dump := rfl
@[simp] theorem State.onChan_gov (s : State) (c : Nat) (f : Tiu → Tiu) : (s.onChan c f).gov = s.gov := rfl
@[simp] theorem State.onChan_vault (s : State) (c : Nat) (f : Tiu → Tiu) : (s.onChan c f).vault = s.vault := rfl
@[simp] theorem State.onChan_access (s : State) (c : Nat) (f : Tiu → Tiu) : (s.onChan c f).access = s.access := rfl
@[simp] theorem State.onChan_dict (s : State) (c : Nat) (f : Tiu → Tiu) : (s.onChan c f).dict = s.dict := rfl
@[simp] theorem State.onChan_pair (s : State) (c : Nat) (f : Tiu → Tiu) : (s.onChan c f).pair = s.pair := rfl
@[simp] theorem State.onChan_domain (s : State) (c : Nat) (f : Tiu → Tiu) : (s.onChan c f).domain = s.domain := rfl
@[simp] theorem State.onChan_log (s : State) (c : Nat) (f : Tiu → Tiu) : (s.onChan c f).log = s.log := rfl
@[simp] theorem State.onChan_faults (s : State) (c : Nat) (f : Tiu → Tiu) : (s.onChan c f).faults = s.faults := rfl
@[simp] theorem State.onChan_start (s : State) (c : Nat) (f : Tiu → Tiu) : (s.onChan c f).start = s.start := rfl
@[simp] theorem State.onChan_cal (s : State) (c : Nat) (f : Tiu → Tiu) : (s.onChan c f).cal = s.cal := rfl
@[simp] theorem State.onChan_freeCount (s : State) (c : Nat) (f : Tiu → Tiu) : (s.onChan c f).freeCount = s.freeCount := rfl

/-! ## onApll -/

@[simp] theorem State.onApll_pending (s : State) (a : Nat) (f : Apll → Apll) : (s.onApll a f).pending = s.pending := rfl
@[simp] theorem State.onApll_clk (s : State) (a : Nat) (f : Apll → Apll) : (s.onApll a f).clk = s.clk := rfl
@[simp] theorem State.onApll_tb (s : State) (a : Nat) (f : Apll → Apll) : (s.onApll a f).tb = s.tb := rfl
@[simp] theorem State.onApll_refs (s : State) (a : Nat) (f : Apll → Apll) : (s.onApll a f).refs = s.refs := rfl
@[simp] theorem State.onApll_sel (s : State) (a : Nat) (f : Apll → Apll) : (s.onApll a f).sel = s.sel := rfl
@[simp] theorem State.onApll_tod (s : State) (a : Nat) (f : Apll → Apll) : (s.onApll a f).tod = s.tod := rfl
@[simp] theorem State.onApll_tiu (s : State) (a : Nat) (f : Apll → Apll) : (s.onApll a f).tiu = s.tiu := rfl
@[simp] theorem State.onApll_servo (s : State) (a : Nat) (f : Apll → Apll) : (s.onApll a f).servo = s.servo := rfl
@[simp] theorem State.onApll_accum (s : State) (a : Nat) (f : Apll → Apll) : (s.onApll a f).accum = s.accum := rfl
@[simp] theorem State.onApll_ho (s : State) (a : Nat) (f : Apll → Apll) : (s.onApll a f).ho = s.ho := rfl
@[simp] theorem State.onApll_oven (s : State) (a : Nat) (f : Apll → Apll) : (s.onApll a f).oven = s.oven := rfl
@[simp] theorem State.onApll_atomic (s : State) (a : Nat) (f : Apll → Apll) : (s.onApll a f).atomic = s.atomic := rfl
@[simp] theorem State.onApll_synth (s : State) (a : Nat) (f : Apll → Apll) : (s.onApll a f).synth = { s.synth with aplls := upd f a s.synth.aplls } := rfl
@[simp] theorem State.onApll_gnss (s : State) (a : Nat) (f : Apll → Apll) : (s.onApll a f).gnss = s.gnss := rfl
@[simp] theorem State.onApll_girth (s : State) (a : Nat) (f : Apll → Apll) : (s.onApll a f).girth = s.girth := rfl
@[simp] theorem State.onApll_net (s : State) (a : Nat) (f : Apll → Apll) : (s.onApll a f).net = s.net := rfl
@[simp] theorem State.onApll_yard (s : State) (a : Nat) (f : Apll → Apll) : (s.onApll a f).yard = s.yard := rfl
@[simp] theorem State.onApll_ptp (s : State) (a : Nat) (f : Apll → Apll) : (s.onApll a f).ptp = s.ptp := rfl
@[simp] theorem State.onApll_ntp (s : State) (a : Nat) (f : Apll → Apll) : (s.onApll a f).ntp = s.ntp := rfl
@[simp] theorem State.onApll_engs (s : State) (a : Nat) (f : Apll → Apll) : (s.onApll a f).engs = s.engs := rfl
@[simp] theorem State.onApll_dump (s : State) (a : Nat) (f : Apll → Apll) : (s.onApll a f).dump = s.dump := rfl
@[simp] theorem State.onApll_gov (s : State) (a : Nat) (f : Apll → Apll) : (s.onApll a f).gov = s.gov := rfl
@[simp] theorem State.onApll_vault (s : State) (a : Nat) (f : Apll → Apll) : (s.onApll a f).vault = s.vault := rfl
@[simp] theorem State.onApll_access (s : State) (a : Nat) (f : Apll → Apll) : (s.onApll a f).access = s.access := rfl
@[simp] theorem State.onApll_dict (s : State) (a : Nat) (f : Apll → Apll) : (s.onApll a f).dict = s.dict := rfl
@[simp] theorem State.onApll_pair (s : State) (a : Nat) (f : Apll → Apll) : (s.onApll a f).pair = s.pair := rfl
@[simp] theorem State.onApll_domain (s : State) (a : Nat) (f : Apll → Apll) : (s.onApll a f).domain = s.domain := rfl
@[simp] theorem State.onApll_log (s : State) (a : Nat) (f : Apll → Apll) : (s.onApll a f).log = s.log := rfl
@[simp] theorem State.onApll_faults (s : State) (a : Nat) (f : Apll → Apll) : (s.onApll a f).faults = s.faults := rfl
@[simp] theorem State.onApll_start (s : State) (a : Nat) (f : Apll → Apll) : (s.onApll a f).start = s.start := rfl
@[simp] theorem State.onApll_cal (s : State) (a : Nat) (f : Apll → Apll) : (s.onApll a f).cal = s.cal := rfl
@[simp] theorem State.onApll_freeCount (s : State) (a : Nat) (f : Apll → Apll) : (s.onApll a f).freeCount = s.freeCount := rfl

/-! ## onOut -/

@[simp] theorem State.onOut_pending (s : State) (n : Nat) (f : Output → Output) : (s.onOut n f).pending = s.pending := rfl
@[simp] theorem State.onOut_clk (s : State) (n : Nat) (f : Output → Output) : (s.onOut n f).clk = s.clk := rfl
@[simp] theorem State.onOut_tb (s : State) (n : Nat) (f : Output → Output) : (s.onOut n f).tb = s.tb := rfl
@[simp] theorem State.onOut_refs (s : State) (n : Nat) (f : Output → Output) : (s.onOut n f).refs = s.refs := rfl
@[simp] theorem State.onOut_sel (s : State) (n : Nat) (f : Output → Output) : (s.onOut n f).sel = s.sel := rfl
@[simp] theorem State.onOut_tod (s : State) (n : Nat) (f : Output → Output) : (s.onOut n f).tod = s.tod := rfl
@[simp] theorem State.onOut_tiu (s : State) (n : Nat) (f : Output → Output) : (s.onOut n f).tiu = s.tiu := rfl
@[simp] theorem State.onOut_servo (s : State) (n : Nat) (f : Output → Output) : (s.onOut n f).servo = s.servo := rfl
@[simp] theorem State.onOut_accum (s : State) (n : Nat) (f : Output → Output) : (s.onOut n f).accum = s.accum := rfl
@[simp] theorem State.onOut_ho (s : State) (n : Nat) (f : Output → Output) : (s.onOut n f).ho = s.ho := rfl
@[simp] theorem State.onOut_oven (s : State) (n : Nat) (f : Output → Output) : (s.onOut n f).oven = s.oven := rfl
@[simp] theorem State.onOut_atomic (s : State) (n : Nat) (f : Output → Output) : (s.onOut n f).atomic = s.atomic := rfl
@[simp] theorem State.onOut_synth (s : State) (n : Nat) (f : Output → Output) : (s.onOut n f).synth = { s.synth with outs := upd f n s.synth.outs } := rfl
@[simp] theorem State.onOut_gnss (s : State) (n : Nat) (f : Output → Output) : (s.onOut n f).gnss = s.gnss := rfl
@[simp] theorem State.onOut_girth (s : State) (n : Nat) (f : Output → Output) : (s.onOut n f).girth = s.girth := rfl
@[simp] theorem State.onOut_net (s : State) (n : Nat) (f : Output → Output) : (s.onOut n f).net = s.net := rfl
@[simp] theorem State.onOut_yard (s : State) (n : Nat) (f : Output → Output) : (s.onOut n f).yard = s.yard := rfl
@[simp] theorem State.onOut_ptp (s : State) (n : Nat) (f : Output → Output) : (s.onOut n f).ptp = s.ptp := rfl
@[simp] theorem State.onOut_ntp (s : State) (n : Nat) (f : Output → Output) : (s.onOut n f).ntp = s.ntp := rfl
@[simp] theorem State.onOut_engs (s : State) (n : Nat) (f : Output → Output) : (s.onOut n f).engs = s.engs := rfl
@[simp] theorem State.onOut_dump (s : State) (n : Nat) (f : Output → Output) : (s.onOut n f).dump = s.dump := rfl
@[simp] theorem State.onOut_gov (s : State) (n : Nat) (f : Output → Output) : (s.onOut n f).gov = s.gov := rfl
@[simp] theorem State.onOut_vault (s : State) (n : Nat) (f : Output → Output) : (s.onOut n f).vault = s.vault := rfl
@[simp] theorem State.onOut_access (s : State) (n : Nat) (f : Output → Output) : (s.onOut n f).access = s.access := rfl
@[simp] theorem State.onOut_dict (s : State) (n : Nat) (f : Output → Output) : (s.onOut n f).dict = s.dict := rfl
@[simp] theorem State.onOut_pair (s : State) (n : Nat) (f : Output → Output) : (s.onOut n f).pair = s.pair := rfl
@[simp] theorem State.onOut_domain (s : State) (n : Nat) (f : Output → Output) : (s.onOut n f).domain = s.domain := rfl
@[simp] theorem State.onOut_log (s : State) (n : Nat) (f : Output → Output) : (s.onOut n f).log = s.log := rfl
@[simp] theorem State.onOut_faults (s : State) (n : Nat) (f : Output → Output) : (s.onOut n f).faults = s.faults := rfl
@[simp] theorem State.onOut_start (s : State) (n : Nat) (f : Output → Output) : (s.onOut n f).start = s.start := rfl
@[simp] theorem State.onOut_cal (s : State) (n : Nat) (f : Output → Output) : (s.onOut n f).cal = s.cal := rfl
@[simp] theorem State.onOut_freeCount (s : State) (n : Nat) (f : Output → Output) : (s.onOut n f).freeCount = s.freeCount := rfl

/-! ## onOuts -/

@[simp] theorem State.onOuts_pending (s : State) (f : Output → Output) : (s.onOuts f).pending = s.pending := rfl
@[simp] theorem State.onOuts_clk (s : State) (f : Output → Output) : (s.onOuts f).clk = s.clk := rfl
@[simp] theorem State.onOuts_tb (s : State) (f : Output → Output) : (s.onOuts f).tb = s.tb := rfl
@[simp] theorem State.onOuts_refs (s : State) (f : Output → Output) : (s.onOuts f).refs = s.refs := rfl
@[simp] theorem State.onOuts_sel (s : State) (f : Output → Output) : (s.onOuts f).sel = s.sel := rfl
@[simp] theorem State.onOuts_tod (s : State) (f : Output → Output) : (s.onOuts f).tod = s.tod := rfl
@[simp] theorem State.onOuts_tiu (s : State) (f : Output → Output) : (s.onOuts f).tiu = s.tiu := rfl
@[simp] theorem State.onOuts_servo (s : State) (f : Output → Output) : (s.onOuts f).servo = s.servo := rfl
@[simp] theorem State.onOuts_accum (s : State) (f : Output → Output) : (s.onOuts f).accum = s.accum := rfl
@[simp] theorem State.onOuts_ho (s : State) (f : Output → Output) : (s.onOuts f).ho = s.ho := rfl
@[simp] theorem State.onOuts_oven (s : State) (f : Output → Output) : (s.onOuts f).oven = s.oven := rfl
@[simp] theorem State.onOuts_atomic (s : State) (f : Output → Output) : (s.onOuts f).atomic = s.atomic := rfl
@[simp] theorem State.onOuts_synth (s : State) (f : Output → Output) : (s.onOuts f).synth = { s.synth with outs := s.synth.outs.map f } := rfl
@[simp] theorem State.onOuts_gnss (s : State) (f : Output → Output) : (s.onOuts f).gnss = s.gnss := rfl
@[simp] theorem State.onOuts_girth (s : State) (f : Output → Output) : (s.onOuts f).girth = s.girth := rfl
@[simp] theorem State.onOuts_net (s : State) (f : Output → Output) : (s.onOuts f).net = s.net := rfl
@[simp] theorem State.onOuts_yard (s : State) (f : Output → Output) : (s.onOuts f).yard = s.yard := rfl
@[simp] theorem State.onOuts_ptp (s : State) (f : Output → Output) : (s.onOuts f).ptp = s.ptp := rfl
@[simp] theorem State.onOuts_ntp (s : State) (f : Output → Output) : (s.onOuts f).ntp = s.ntp := rfl
@[simp] theorem State.onOuts_engs (s : State) (f : Output → Output) : (s.onOuts f).engs = s.engs := rfl
@[simp] theorem State.onOuts_dump (s : State) (f : Output → Output) : (s.onOuts f).dump = s.dump := rfl
@[simp] theorem State.onOuts_gov (s : State) (f : Output → Output) : (s.onOuts f).gov = s.gov := rfl
@[simp] theorem State.onOuts_vault (s : State) (f : Output → Output) : (s.onOuts f).vault = s.vault := rfl
@[simp] theorem State.onOuts_access (s : State) (f : Output → Output) : (s.onOuts f).access = s.access := rfl
@[simp] theorem State.onOuts_dict (s : State) (f : Output → Output) : (s.onOuts f).dict = s.dict := rfl
@[simp] theorem State.onOuts_pair (s : State) (f : Output → Output) : (s.onOuts f).pair = s.pair := rfl
@[simp] theorem State.onOuts_domain (s : State) (f : Output → Output) : (s.onOuts f).domain = s.domain := rfl
@[simp] theorem State.onOuts_log (s : State) (f : Output → Output) : (s.onOuts f).log = s.log := rfl
@[simp] theorem State.onOuts_faults (s : State) (f : Output → Output) : (s.onOuts f).faults = s.faults := rfl
@[simp] theorem State.onOuts_start (s : State) (f : Output → Output) : (s.onOuts f).start = s.start := rfl
@[simp] theorem State.onOuts_cal (s : State) (f : Output → Output) : (s.onOuts f).cal = s.cal := rfl
@[simp] theorem State.onOuts_freeCount (s : State) (f : Output → Output) : (s.onOuts f).freeCount = s.freeCount := rfl

/-! ## onGif -/

@[simp] theorem State.onGif_pending (s : State) (k : Nat) (f : Gif → Gif) : (s.onGif k f).pending = s.pending := rfl
@[simp] theorem State.onGif_clk (s : State) (k : Nat) (f : Gif → Gif) : (s.onGif k f).clk = s.clk := rfl
@[simp] theorem State.onGif_tb (s : State) (k : Nat) (f : Gif → Gif) : (s.onGif k f).tb = s.tb := rfl
@[simp] theorem State.onGif_refs (s : State) (k : Nat) (f : Gif → Gif) : (s.onGif k f).refs = s.refs := rfl
@[simp] theorem State.onGif_sel (s : State) (k : Nat) (f : Gif → Gif) : (s.onGif k f).sel = s.sel := rfl
@[simp] theorem State.onGif_tod (s : State) (k : Nat) (f : Gif → Gif) : (s.onGif k f).tod = s.tod := rfl
@[simp] theorem State.onGif_tiu (s : State) (k : Nat) (f : Gif → Gif) : (s.onGif k f).tiu = s.tiu := rfl
@[simp] theorem State.onGif_servo (s : State) (k : Nat) (f : Gif → Gif) : (s.onGif k f).servo = s.servo := rfl
@[simp] theorem State.onGif_accum (s : State) (k : Nat) (f : Gif → Gif) : (s.onGif k f).accum = s.accum := rfl
@[simp] theorem State.onGif_ho (s : State) (k : Nat) (f : Gif → Gif) : (s.onGif k f).ho = s.ho := rfl
@[simp] theorem State.onGif_oven (s : State) (k : Nat) (f : Gif → Gif) : (s.onGif k f).oven = s.oven := rfl
@[simp] theorem State.onGif_atomic (s : State) (k : Nat) (f : Gif → Gif) : (s.onGif k f).atomic = s.atomic := rfl
@[simp] theorem State.onGif_synth (s : State) (k : Nat) (f : Gif → Gif) : (s.onGif k f).synth = s.synth := rfl
@[simp] theorem State.onGif_gnss (s : State) (k : Nat) (f : Gif → Gif) : (s.onGif k f).gnss = { s.gnss with gifs := upd f k s.gnss.gifs } := rfl
@[simp] theorem State.onGif_girth (s : State) (k : Nat) (f : Gif → Gif) : (s.onGif k f).girth = s.girth := rfl
@[simp] theorem State.onGif_net (s : State) (k : Nat) (f : Gif → Gif) : (s.onGif k f).net = s.net := rfl
@[simp] theorem State.onGif_yard (s : State) (k : Nat) (f : Gif → Gif) : (s.onGif k f).yard = s.yard := rfl
@[simp] theorem State.onGif_ptp (s : State) (k : Nat) (f : Gif → Gif) : (s.onGif k f).ptp = s.ptp := rfl
@[simp] theorem State.onGif_ntp (s : State) (k : Nat) (f : Gif → Gif) : (s.onGif k f).ntp = s.ntp := rfl
@[simp] theorem State.onGif_engs (s : State) (k : Nat) (f : Gif → Gif) : (s.onGif k f).engs = s.engs := rfl
@[simp] theorem State.onGif_dump (s : State) (k : Nat) (f : Gif → Gif) : (s.onGif k f).dump = s.dump := rfl
@[simp] theorem State.onGif_gov (s : State) (k : Nat) (f : Gif → Gif) : (s.onGif k f).gov = s.gov := rfl
@[simp] theorem State.onGif_vault (s : State) (k : Nat) (f : Gif → Gif) : (s.onGif k f).vault = s.vault := rfl
@[simp] theorem State.onGif_access (s : State) (k : Nat) (f : Gif → Gif) : (s.onGif k f).access = s.access := rfl
@[simp] theorem State.onGif_dict (s : State) (k : Nat) (f : Gif → Gif) : (s.onGif k f).dict = s.dict := rfl
@[simp] theorem State.onGif_pair (s : State) (k : Nat) (f : Gif → Gif) : (s.onGif k f).pair = s.pair := rfl
@[simp] theorem State.onGif_domain (s : State) (k : Nat) (f : Gif → Gif) : (s.onGif k f).domain = s.domain := rfl
@[simp] theorem State.onGif_log (s : State) (k : Nat) (f : Gif → Gif) : (s.onGif k f).log = s.log := rfl
@[simp] theorem State.onGif_faults (s : State) (k : Nat) (f : Gif → Gif) : (s.onGif k f).faults = s.faults := rfl
@[simp] theorem State.onGif_start (s : State) (k : Nat) (f : Gif → Gif) : (s.onGif k f).start = s.start := rfl
@[simp] theorem State.onGif_cal (s : State) (k : Nat) (f : Gif → Gif) : (s.onGif k f).cal = s.cal := rfl
@[simp] theorem State.onGif_freeCount (s : State) (k : Nat) (f : Gif → Gif) : (s.onGif k f).freeCount = s.freeCount := rfl

/-! ## onQuad -/

@[simp] theorem State.onQuad_pending (s : State) (q : Nat) (f : Quad → Quad) : (s.onQuad q f).pending = s.pending := rfl
@[simp] theorem State.onQuad_clk (s : State) (q : Nat) (f : Quad → Quad) : (s.onQuad q f).clk = s.clk := rfl
@[simp] theorem State.onQuad_tb (s : State) (q : Nat) (f : Quad → Quad) : (s.onQuad q f).tb = s.tb := rfl
@[simp] theorem State.onQuad_refs (s : State) (q : Nat) (f : Quad → Quad) : (s.onQuad q f).refs = s.refs := rfl
@[simp] theorem State.onQuad_sel (s : State) (q : Nat) (f : Quad → Quad) : (s.onQuad q f).sel = s.sel := rfl
@[simp] theorem State.onQuad_tod (s : State) (q : Nat) (f : Quad → Quad) : (s.onQuad q f).tod = s.tod := rfl
@[simp] theorem State.onQuad_tiu (s : State) (q : Nat) (f : Quad → Quad) : (s.onQuad q f).tiu = s.tiu := rfl
@[simp] theorem State.onQuad_servo (s : State) (q : Nat) (f : Quad → Quad) : (s.onQuad q f).servo = s.servo := rfl
@[simp] theorem State.onQuad_accum (s : State) (q : Nat) (f : Quad → Quad) : (s.onQuad q f).accum = s.accum := rfl
@[simp] theorem State.onQuad_ho (s : State) (q : Nat) (f : Quad → Quad) : (s.onQuad q f).ho = s.ho := rfl
@[simp] theorem State.onQuad_oven (s : State) (q : Nat) (f : Quad → Quad) : (s.onQuad q f).oven = s.oven := rfl
@[simp] theorem State.onQuad_atomic (s : State) (q : Nat) (f : Quad → Quad) : (s.onQuad q f).atomic = s.atomic := rfl
@[simp] theorem State.onQuad_synth (s : State) (q : Nat) (f : Quad → Quad) : (s.onQuad q f).synth = s.synth := rfl
@[simp] theorem State.onQuad_gnss (s : State) (q : Nat) (f : Quad → Quad) : (s.onQuad q f).gnss = s.gnss := rfl
@[simp] theorem State.onQuad_girth (s : State) (q : Nat) (f : Quad → Quad) : (s.onQuad q f).girth = s.girth := rfl
@[simp] theorem State.onQuad_net (s : State) (q : Nat) (f : Quad → Quad) : (s.onQuad q f).net = { s.net with quads := upd f q s.net.quads } := rfl
@[simp] theorem State.onQuad_yard (s : State) (q : Nat) (f : Quad → Quad) : (s.onQuad q f).yard = s.yard := rfl
@[simp] theorem State.onQuad_ptp (s : State) (q : Nat) (f : Quad → Quad) : (s.onQuad q f).ptp = s.ptp := rfl
@[simp] theorem State.onQuad_ntp (s : State) (q : Nat) (f : Quad → Quad) : (s.onQuad q f).ntp = s.ntp := rfl
@[simp] theorem State.onQuad_engs (s : State) (q : Nat) (f : Quad → Quad) : (s.onQuad q f).engs = s.engs := rfl
@[simp] theorem State.onQuad_dump (s : State) (q : Nat) (f : Quad → Quad) : (s.onQuad q f).dump = s.dump := rfl
@[simp] theorem State.onQuad_gov (s : State) (q : Nat) (f : Quad → Quad) : (s.onQuad q f).gov = s.gov := rfl
@[simp] theorem State.onQuad_vault (s : State) (q : Nat) (f : Quad → Quad) : (s.onQuad q f).vault = s.vault := rfl
@[simp] theorem State.onQuad_access (s : State) (q : Nat) (f : Quad → Quad) : (s.onQuad q f).access = s.access := rfl
@[simp] theorem State.onQuad_dict (s : State) (q : Nat) (f : Quad → Quad) : (s.onQuad q f).dict = s.dict := rfl
@[simp] theorem State.onQuad_pair (s : State) (q : Nat) (f : Quad → Quad) : (s.onQuad q f).pair = s.pair := rfl
@[simp] theorem State.onQuad_domain (s : State) (q : Nat) (f : Quad → Quad) : (s.onQuad q f).domain = s.domain := rfl
@[simp] theorem State.onQuad_log (s : State) (q : Nat) (f : Quad → Quad) : (s.onQuad q f).log = s.log := rfl
@[simp] theorem State.onQuad_faults (s : State) (q : Nat) (f : Quad → Quad) : (s.onQuad q f).faults = s.faults := rfl
@[simp] theorem State.onQuad_start (s : State) (q : Nat) (f : Quad → Quad) : (s.onQuad q f).start = s.start := rfl
@[simp] theorem State.onQuad_cal (s : State) (q : Nat) (f : Quad → Quad) : (s.onQuad q f).cal = s.cal := rfl
@[simp] theorem State.onQuad_freeCount (s : State) (q : Nat) (f : Quad → Quad) : (s.onQuad q f).freeCount = s.freeCount := rfl

/-! ## onLane -/

@[simp] theorem State.onLane_pending (s : State) (l : Nat) (f : Lane → Lane) : (s.onLane l f).pending = s.pending := rfl
@[simp] theorem State.onLane_clk (s : State) (l : Nat) (f : Lane → Lane) : (s.onLane l f).clk = s.clk := rfl
@[simp] theorem State.onLane_tb (s : State) (l : Nat) (f : Lane → Lane) : (s.onLane l f).tb = s.tb := rfl
@[simp] theorem State.onLane_refs (s : State) (l : Nat) (f : Lane → Lane) : (s.onLane l f).refs = s.refs := rfl
@[simp] theorem State.onLane_sel (s : State) (l : Nat) (f : Lane → Lane) : (s.onLane l f).sel = s.sel := rfl
@[simp] theorem State.onLane_tod (s : State) (l : Nat) (f : Lane → Lane) : (s.onLane l f).tod = s.tod := rfl
@[simp] theorem State.onLane_tiu (s : State) (l : Nat) (f : Lane → Lane) : (s.onLane l f).tiu = s.tiu := rfl
@[simp] theorem State.onLane_servo (s : State) (l : Nat) (f : Lane → Lane) : (s.onLane l f).servo = s.servo := rfl
@[simp] theorem State.onLane_accum (s : State) (l : Nat) (f : Lane → Lane) : (s.onLane l f).accum = s.accum := rfl
@[simp] theorem State.onLane_ho (s : State) (l : Nat) (f : Lane → Lane) : (s.onLane l f).ho = s.ho := rfl
@[simp] theorem State.onLane_oven (s : State) (l : Nat) (f : Lane → Lane) : (s.onLane l f).oven = s.oven := rfl
@[simp] theorem State.onLane_atomic (s : State) (l : Nat) (f : Lane → Lane) : (s.onLane l f).atomic = s.atomic := rfl
@[simp] theorem State.onLane_synth (s : State) (l : Nat) (f : Lane → Lane) : (s.onLane l f).synth = s.synth := rfl
@[simp] theorem State.onLane_gnss (s : State) (l : Nat) (f : Lane → Lane) : (s.onLane l f).gnss = s.gnss := rfl
@[simp] theorem State.onLane_girth (s : State) (l : Nat) (f : Lane → Lane) : (s.onLane l f).girth = s.girth := rfl
@[simp] theorem State.onLane_net (s : State) (l : Nat) (f : Lane → Lane) : (s.onLane l f).net = { s.net with lanes := upd f l s.net.lanes } := rfl
@[simp] theorem State.onLane_yard (s : State) (l : Nat) (f : Lane → Lane) : (s.onLane l f).yard = s.yard := rfl
@[simp] theorem State.onLane_ptp (s : State) (l : Nat) (f : Lane → Lane) : (s.onLane l f).ptp = s.ptp := rfl
@[simp] theorem State.onLane_ntp (s : State) (l : Nat) (f : Lane → Lane) : (s.onLane l f).ntp = s.ntp := rfl
@[simp] theorem State.onLane_engs (s : State) (l : Nat) (f : Lane → Lane) : (s.onLane l f).engs = s.engs := rfl
@[simp] theorem State.onLane_dump (s : State) (l : Nat) (f : Lane → Lane) : (s.onLane l f).dump = s.dump := rfl
@[simp] theorem State.onLane_gov (s : State) (l : Nat) (f : Lane → Lane) : (s.onLane l f).gov = s.gov := rfl
@[simp] theorem State.onLane_vault (s : State) (l : Nat) (f : Lane → Lane) : (s.onLane l f).vault = s.vault := rfl
@[simp] theorem State.onLane_access (s : State) (l : Nat) (f : Lane → Lane) : (s.onLane l f).access = s.access := rfl
@[simp] theorem State.onLane_dict (s : State) (l : Nat) (f : Lane → Lane) : (s.onLane l f).dict = s.dict := rfl
@[simp] theorem State.onLane_pair (s : State) (l : Nat) (f : Lane → Lane) : (s.onLane l f).pair = s.pair := rfl
@[simp] theorem State.onLane_domain (s : State) (l : Nat) (f : Lane → Lane) : (s.onLane l f).domain = s.domain := rfl
@[simp] theorem State.onLane_log (s : State) (l : Nat) (f : Lane → Lane) : (s.onLane l f).log = s.log := rfl
@[simp] theorem State.onLane_faults (s : State) (l : Nat) (f : Lane → Lane) : (s.onLane l f).faults = s.faults := rfl
@[simp] theorem State.onLane_start (s : State) (l : Nat) (f : Lane → Lane) : (s.onLane l f).start = s.start := rfl
@[simp] theorem State.onLane_cal (s : State) (l : Nat) (f : Lane → Lane) : (s.onLane l f).cal = s.cal := rfl
@[simp] theorem State.onLane_freeCount (s : State) (l : Nat) (f : Lane → Lane) : (s.onLane l f).freeCount = s.freeCount := rfl

/-! ## onYPort -/

@[simp] theorem State.onYPort_pending (s : State) (p : Nat) (f : YPort → YPort) : (s.onYPort p f).pending = s.pending := rfl
@[simp] theorem State.onYPort_clk (s : State) (p : Nat) (f : YPort → YPort) : (s.onYPort p f).clk = s.clk := rfl
@[simp] theorem State.onYPort_tb (s : State) (p : Nat) (f : YPort → YPort) : (s.onYPort p f).tb = s.tb := rfl
@[simp] theorem State.onYPort_refs (s : State) (p : Nat) (f : YPort → YPort) : (s.onYPort p f).refs = s.refs := rfl
@[simp] theorem State.onYPort_sel (s : State) (p : Nat) (f : YPort → YPort) : (s.onYPort p f).sel = s.sel := rfl
@[simp] theorem State.onYPort_tod (s : State) (p : Nat) (f : YPort → YPort) : (s.onYPort p f).tod = s.tod := rfl
@[simp] theorem State.onYPort_tiu (s : State) (p : Nat) (f : YPort → YPort) : (s.onYPort p f).tiu = s.tiu := rfl
@[simp] theorem State.onYPort_servo (s : State) (p : Nat) (f : YPort → YPort) : (s.onYPort p f).servo = s.servo := rfl
@[simp] theorem State.onYPort_accum (s : State) (p : Nat) (f : YPort → YPort) : (s.onYPort p f).accum = s.accum := rfl
@[simp] theorem State.onYPort_ho (s : State) (p : Nat) (f : YPort → YPort) : (s.onYPort p f).ho = s.ho := rfl
@[simp] theorem State.onYPort_oven (s : State) (p : Nat) (f : YPort → YPort) : (s.onYPort p f).oven = s.oven := rfl
@[simp] theorem State.onYPort_atomic (s : State) (p : Nat) (f : YPort → YPort) : (s.onYPort p f).atomic = s.atomic := rfl
@[simp] theorem State.onYPort_synth (s : State) (p : Nat) (f : YPort → YPort) : (s.onYPort p f).synth = s.synth := rfl
@[simp] theorem State.onYPort_gnss (s : State) (p : Nat) (f : YPort → YPort) : (s.onYPort p f).gnss = s.gnss := rfl
@[simp] theorem State.onYPort_girth (s : State) (p : Nat) (f : YPort → YPort) : (s.onYPort p f).girth = s.girth := rfl
@[simp] theorem State.onYPort_net (s : State) (p : Nat) (f : YPort → YPort) : (s.onYPort p f).net = s.net := rfl
@[simp] theorem State.onYPort_yard (s : State) (p : Nat) (f : YPort → YPort) : (s.onYPort p f).yard = { s.yard with ports := upd f p s.yard.ports } := rfl
@[simp] theorem State.onYPort_ptp (s : State) (p : Nat) (f : YPort → YPort) : (s.onYPort p f).ptp = s.ptp := rfl
@[simp] theorem State.onYPort_ntp (s : State) (p : Nat) (f : YPort → YPort) : (s.onYPort p f).ntp = s.ntp := rfl
@[simp] theorem State.onYPort_engs (s : State) (p : Nat) (f : YPort → YPort) : (s.onYPort p f).engs = s.engs := rfl
@[simp] theorem State.onYPort_dump (s : State) (p : Nat) (f : YPort → YPort) : (s.onYPort p f).dump = s.dump := rfl
@[simp] theorem State.onYPort_gov (s : State) (p : Nat) (f : YPort → YPort) : (s.onYPort p f).gov = s.gov := rfl
@[simp] theorem State.onYPort_vault (s : State) (p : Nat) (f : YPort → YPort) : (s.onYPort p f).vault = s.vault := rfl
@[simp] theorem State.onYPort_access (s : State) (p : Nat) (f : YPort → YPort) : (s.onYPort p f).access = s.access := rfl
@[simp] theorem State.onYPort_dict (s : State) (p : Nat) (f : YPort → YPort) : (s.onYPort p f).dict = s.dict := rfl
@[simp] theorem State.onYPort_pair (s : State) (p : Nat) (f : YPort → YPort) : (s.onYPort p f).pair = s.pair := rfl
@[simp] theorem State.onYPort_domain (s : State) (p : Nat) (f : YPort → YPort) : (s.onYPort p f).domain = s.domain := rfl
@[simp] theorem State.onYPort_log (s : State) (p : Nat) (f : YPort → YPort) : (s.onYPort p f).log = s.log := rfl
@[simp] theorem State.onYPort_faults (s : State) (p : Nat) (f : YPort → YPort) : (s.onYPort p f).faults = s.faults := rfl
@[simp] theorem State.onYPort_start (s : State) (p : Nat) (f : YPort → YPort) : (s.onYPort p f).start = s.start := rfl
@[simp] theorem State.onYPort_cal (s : State) (p : Nat) (f : YPort → YPort) : (s.onYPort p f).cal = s.cal := rfl
@[simp] theorem State.onYPort_freeCount (s : State) (p : Nat) (f : YPort → YPort) : (s.onYPort p f).freeCount = s.freeCount := rfl

/-! ## onQueue -/

@[simp] theorem State.onQueue_pending (s : State) (i : Nat) (f : Queue → Queue) : (s.onQueue i f).pending = s.pending := rfl
@[simp] theorem State.onQueue_clk (s : State) (i : Nat) (f : Queue → Queue) : (s.onQueue i f).clk = s.clk := rfl
@[simp] theorem State.onQueue_tb (s : State) (i : Nat) (f : Queue → Queue) : (s.onQueue i f).tb = s.tb := rfl
@[simp] theorem State.onQueue_refs (s : State) (i : Nat) (f : Queue → Queue) : (s.onQueue i f).refs = s.refs := rfl
@[simp] theorem State.onQueue_sel (s : State) (i : Nat) (f : Queue → Queue) : (s.onQueue i f).sel = s.sel := rfl
@[simp] theorem State.onQueue_tod (s : State) (i : Nat) (f : Queue → Queue) : (s.onQueue i f).tod = s.tod := rfl
@[simp] theorem State.onQueue_tiu (s : State) (i : Nat) (f : Queue → Queue) : (s.onQueue i f).tiu = s.tiu := rfl
@[simp] theorem State.onQueue_servo (s : State) (i : Nat) (f : Queue → Queue) : (s.onQueue i f).servo = s.servo := rfl
@[simp] theorem State.onQueue_accum (s : State) (i : Nat) (f : Queue → Queue) : (s.onQueue i f).accum = s.accum := rfl
@[simp] theorem State.onQueue_ho (s : State) (i : Nat) (f : Queue → Queue) : (s.onQueue i f).ho = s.ho := rfl
@[simp] theorem State.onQueue_oven (s : State) (i : Nat) (f : Queue → Queue) : (s.onQueue i f).oven = s.oven := rfl
@[simp] theorem State.onQueue_atomic (s : State) (i : Nat) (f : Queue → Queue) : (s.onQueue i f).atomic = s.atomic := rfl
@[simp] theorem State.onQueue_synth (s : State) (i : Nat) (f : Queue → Queue) : (s.onQueue i f).synth = s.synth := rfl
@[simp] theorem State.onQueue_gnss (s : State) (i : Nat) (f : Queue → Queue) : (s.onQueue i f).gnss = s.gnss := rfl
@[simp] theorem State.onQueue_girth (s : State) (i : Nat) (f : Queue → Queue) : (s.onQueue i f).girth = s.girth := rfl
@[simp] theorem State.onQueue_net (s : State) (i : Nat) (f : Queue → Queue) : (s.onQueue i f).net = s.net := rfl
@[simp] theorem State.onQueue_yard (s : State) (i : Nat) (f : Queue → Queue) : (s.onQueue i f).yard = { s.yard with queues := upd f i s.yard.queues } := rfl
@[simp] theorem State.onQueue_ptp (s : State) (i : Nat) (f : Queue → Queue) : (s.onQueue i f).ptp = s.ptp := rfl
@[simp] theorem State.onQueue_ntp (s : State) (i : Nat) (f : Queue → Queue) : (s.onQueue i f).ntp = s.ntp := rfl
@[simp] theorem State.onQueue_engs (s : State) (i : Nat) (f : Queue → Queue) : (s.onQueue i f).engs = s.engs := rfl
@[simp] theorem State.onQueue_dump (s : State) (i : Nat) (f : Queue → Queue) : (s.onQueue i f).dump = s.dump := rfl
@[simp] theorem State.onQueue_gov (s : State) (i : Nat) (f : Queue → Queue) : (s.onQueue i f).gov = s.gov := rfl
@[simp] theorem State.onQueue_vault (s : State) (i : Nat) (f : Queue → Queue) : (s.onQueue i f).vault = s.vault := rfl
@[simp] theorem State.onQueue_access (s : State) (i : Nat) (f : Queue → Queue) : (s.onQueue i f).access = s.access := rfl
@[simp] theorem State.onQueue_dict (s : State) (i : Nat) (f : Queue → Queue) : (s.onQueue i f).dict = s.dict := rfl
@[simp] theorem State.onQueue_pair (s : State) (i : Nat) (f : Queue → Queue) : (s.onQueue i f).pair = s.pair := rfl
@[simp] theorem State.onQueue_domain (s : State) (i : Nat) (f : Queue → Queue) : (s.onQueue i f).domain = s.domain := rfl
@[simp] theorem State.onQueue_log (s : State) (i : Nat) (f : Queue → Queue) : (s.onQueue i f).log = s.log := rfl
@[simp] theorem State.onQueue_faults (s : State) (i : Nat) (f : Queue → Queue) : (s.onQueue i f).faults = s.faults := rfl
@[simp] theorem State.onQueue_start (s : State) (i : Nat) (f : Queue → Queue) : (s.onQueue i f).start = s.start := rfl
@[simp] theorem State.onQueue_cal (s : State) (i : Nat) (f : Queue → Queue) : (s.onQueue i f).cal = s.cal := rfl
@[simp] theorem State.onQueue_freeCount (s : State) (i : Nat) (f : Queue → Queue) : (s.onQueue i f).freeCount = s.freeCount := rfl

/-! ## onPPort -/

@[simp] theorem State.onPPort_pending (s : State) (p : Nat) (f : PtpPort → PtpPort) : (s.onPPort p f).pending = s.pending := rfl
@[simp] theorem State.onPPort_clk (s : State) (p : Nat) (f : PtpPort → PtpPort) : (s.onPPort p f).clk = s.clk := rfl
@[simp] theorem State.onPPort_tb (s : State) (p : Nat) (f : PtpPort → PtpPort) : (s.onPPort p f).tb = s.tb := rfl
@[simp] theorem State.onPPort_refs (s : State) (p : Nat) (f : PtpPort → PtpPort) : (s.onPPort p f).refs = s.refs := rfl
@[simp] theorem State.onPPort_sel (s : State) (p : Nat) (f : PtpPort → PtpPort) : (s.onPPort p f).sel = s.sel := rfl
@[simp] theorem State.onPPort_tod (s : State) (p : Nat) (f : PtpPort → PtpPort) : (s.onPPort p f).tod = s.tod := rfl
@[simp] theorem State.onPPort_tiu (s : State) (p : Nat) (f : PtpPort → PtpPort) : (s.onPPort p f).tiu = s.tiu := rfl
@[simp] theorem State.onPPort_servo (s : State) (p : Nat) (f : PtpPort → PtpPort) : (s.onPPort p f).servo = s.servo := rfl
@[simp] theorem State.onPPort_accum (s : State) (p : Nat) (f : PtpPort → PtpPort) : (s.onPPort p f).accum = s.accum := rfl
@[simp] theorem State.onPPort_ho (s : State) (p : Nat) (f : PtpPort → PtpPort) : (s.onPPort p f).ho = s.ho := rfl
@[simp] theorem State.onPPort_oven (s : State) (p : Nat) (f : PtpPort → PtpPort) : (s.onPPort p f).oven = s.oven := rfl
@[simp] theorem State.onPPort_atomic (s : State) (p : Nat) (f : PtpPort → PtpPort) : (s.onPPort p f).atomic = s.atomic := rfl
@[simp] theorem State.onPPort_synth (s : State) (p : Nat) (f : PtpPort → PtpPort) : (s.onPPort p f).synth = s.synth := rfl
@[simp] theorem State.onPPort_gnss (s : State) (p : Nat) (f : PtpPort → PtpPort) : (s.onPPort p f).gnss = s.gnss := rfl
@[simp] theorem State.onPPort_girth (s : State) (p : Nat) (f : PtpPort → PtpPort) : (s.onPPort p f).girth = s.girth := rfl
@[simp] theorem State.onPPort_net (s : State) (p : Nat) (f : PtpPort → PtpPort) : (s.onPPort p f).net = s.net := rfl
@[simp] theorem State.onPPort_yard (s : State) (p : Nat) (f : PtpPort → PtpPort) : (s.onPPort p f).yard = s.yard := rfl
@[simp] theorem State.onPPort_ptp (s : State) (p : Nat) (f : PtpPort → PtpPort) : (s.onPPort p f).ptp = { s.ptp with ports := upd f p s.ptp.ports } := rfl
@[simp] theorem State.onPPort_ntp (s : State) (p : Nat) (f : PtpPort → PtpPort) : (s.onPPort p f).ntp = s.ntp := rfl
@[simp] theorem State.onPPort_engs (s : State) (p : Nat) (f : PtpPort → PtpPort) : (s.onPPort p f).engs = s.engs := rfl
@[simp] theorem State.onPPort_dump (s : State) (p : Nat) (f : PtpPort → PtpPort) : (s.onPPort p f).dump = s.dump := rfl
@[simp] theorem State.onPPort_gov (s : State) (p : Nat) (f : PtpPort → PtpPort) : (s.onPPort p f).gov = s.gov := rfl
@[simp] theorem State.onPPort_vault (s : State) (p : Nat) (f : PtpPort → PtpPort) : (s.onPPort p f).vault = s.vault := rfl
@[simp] theorem State.onPPort_access (s : State) (p : Nat) (f : PtpPort → PtpPort) : (s.onPPort p f).access = s.access := rfl
@[simp] theorem State.onPPort_dict (s : State) (p : Nat) (f : PtpPort → PtpPort) : (s.onPPort p f).dict = s.dict := rfl
@[simp] theorem State.onPPort_pair (s : State) (p : Nat) (f : PtpPort → PtpPort) : (s.onPPort p f).pair = s.pair := rfl
@[simp] theorem State.onPPort_domain (s : State) (p : Nat) (f : PtpPort → PtpPort) : (s.onPPort p f).domain = s.domain := rfl
@[simp] theorem State.onPPort_log (s : State) (p : Nat) (f : PtpPort → PtpPort) : (s.onPPort p f).log = s.log := rfl
@[simp] theorem State.onPPort_faults (s : State) (p : Nat) (f : PtpPort → PtpPort) : (s.onPPort p f).faults = s.faults := rfl
@[simp] theorem State.onPPort_start (s : State) (p : Nat) (f : PtpPort → PtpPort) : (s.onPPort p f).start = s.start := rfl
@[simp] theorem State.onPPort_cal (s : State) (p : Nat) (f : PtpPort → PtpPort) : (s.onPPort p f).cal = s.cal := rfl
@[simp] theorem State.onPPort_freeCount (s : State) (p : Nat) (f : PtpPort → PtpPort) : (s.onPPort p f).freeCount = s.freeCount := rfl

/-! ## onInst -/

@[simp] theorem State.onInst_pending (s : State) (k : Nat) (f : PtpInst → PtpInst) : (s.onInst k f).pending = s.pending := rfl
@[simp] theorem State.onInst_clk (s : State) (k : Nat) (f : PtpInst → PtpInst) : (s.onInst k f).clk = s.clk := rfl
@[simp] theorem State.onInst_tb (s : State) (k : Nat) (f : PtpInst → PtpInst) : (s.onInst k f).tb = s.tb := rfl
@[simp] theorem State.onInst_refs (s : State) (k : Nat) (f : PtpInst → PtpInst) : (s.onInst k f).refs = s.refs := rfl
@[simp] theorem State.onInst_sel (s : State) (k : Nat) (f : PtpInst → PtpInst) : (s.onInst k f).sel = s.sel := rfl
@[simp] theorem State.onInst_tod (s : State) (k : Nat) (f : PtpInst → PtpInst) : (s.onInst k f).tod = s.tod := rfl
@[simp] theorem State.onInst_tiu (s : State) (k : Nat) (f : PtpInst → PtpInst) : (s.onInst k f).tiu = s.tiu := rfl
@[simp] theorem State.onInst_servo (s : State) (k : Nat) (f : PtpInst → PtpInst) : (s.onInst k f).servo = s.servo := rfl
@[simp] theorem State.onInst_accum (s : State) (k : Nat) (f : PtpInst → PtpInst) : (s.onInst k f).accum = s.accum := rfl
@[simp] theorem State.onInst_ho (s : State) (k : Nat) (f : PtpInst → PtpInst) : (s.onInst k f).ho = s.ho := rfl
@[simp] theorem State.onInst_oven (s : State) (k : Nat) (f : PtpInst → PtpInst) : (s.onInst k f).oven = s.oven := rfl
@[simp] theorem State.onInst_atomic (s : State) (k : Nat) (f : PtpInst → PtpInst) : (s.onInst k f).atomic = s.atomic := rfl
@[simp] theorem State.onInst_synth (s : State) (k : Nat) (f : PtpInst → PtpInst) : (s.onInst k f).synth = s.synth := rfl
@[simp] theorem State.onInst_gnss (s : State) (k : Nat) (f : PtpInst → PtpInst) : (s.onInst k f).gnss = s.gnss := rfl
@[simp] theorem State.onInst_girth (s : State) (k : Nat) (f : PtpInst → PtpInst) : (s.onInst k f).girth = s.girth := rfl
@[simp] theorem State.onInst_net (s : State) (k : Nat) (f : PtpInst → PtpInst) : (s.onInst k f).net = s.net := rfl
@[simp] theorem State.onInst_yard (s : State) (k : Nat) (f : PtpInst → PtpInst) : (s.onInst k f).yard = s.yard := rfl
@[simp] theorem State.onInst_ptp (s : State) (k : Nat) (f : PtpInst → PtpInst) : (s.onInst k f).ptp = { s.ptp with insts := upd f k s.ptp.insts } := rfl
@[simp] theorem State.onInst_ntp (s : State) (k : Nat) (f : PtpInst → PtpInst) : (s.onInst k f).ntp = s.ntp := rfl
@[simp] theorem State.onInst_engs (s : State) (k : Nat) (f : PtpInst → PtpInst) : (s.onInst k f).engs = s.engs := rfl
@[simp] theorem State.onInst_dump (s : State) (k : Nat) (f : PtpInst → PtpInst) : (s.onInst k f).dump = s.dump := rfl
@[simp] theorem State.onInst_gov (s : State) (k : Nat) (f : PtpInst → PtpInst) : (s.onInst k f).gov = s.gov := rfl
@[simp] theorem State.onInst_vault (s : State) (k : Nat) (f : PtpInst → PtpInst) : (s.onInst k f).vault = s.vault := rfl
@[simp] theorem State.onInst_access (s : State) (k : Nat) (f : PtpInst → PtpInst) : (s.onInst k f).access = s.access := rfl
@[simp] theorem State.onInst_dict (s : State) (k : Nat) (f : PtpInst → PtpInst) : (s.onInst k f).dict = s.dict := rfl
@[simp] theorem State.onInst_pair (s : State) (k : Nat) (f : PtpInst → PtpInst) : (s.onInst k f).pair = s.pair := rfl
@[simp] theorem State.onInst_domain (s : State) (k : Nat) (f : PtpInst → PtpInst) : (s.onInst k f).domain = s.domain := rfl
@[simp] theorem State.onInst_log (s : State) (k : Nat) (f : PtpInst → PtpInst) : (s.onInst k f).log = s.log := rfl
@[simp] theorem State.onInst_faults (s : State) (k : Nat) (f : PtpInst → PtpInst) : (s.onInst k f).faults = s.faults := rfl
@[simp] theorem State.onInst_start (s : State) (k : Nat) (f : PtpInst → PtpInst) : (s.onInst k f).start = s.start := rfl
@[simp] theorem State.onInst_cal (s : State) (k : Nat) (f : PtpInst → PtpInst) : (s.onInst k f).cal = s.cal := rfl
@[simp] theorem State.onInst_freeCount (s : State) (k : Nat) (f : PtpInst → PtpInst) : (s.onInst k f).freeCount = s.freeCount := rfl

/-! ## onEng -/

@[simp] theorem State.onEng_pending (s : State) (e : Nat) (f : Eng → Eng) : (s.onEng e f).pending = s.pending := rfl
@[simp] theorem State.onEng_clk (s : State) (e : Nat) (f : Eng → Eng) : (s.onEng e f).clk = s.clk := rfl
@[simp] theorem State.onEng_tb (s : State) (e : Nat) (f : Eng → Eng) : (s.onEng e f).tb = s.tb := rfl
@[simp] theorem State.onEng_refs (s : State) (e : Nat) (f : Eng → Eng) : (s.onEng e f).refs = s.refs := rfl
@[simp] theorem State.onEng_sel (s : State) (e : Nat) (f : Eng → Eng) : (s.onEng e f).sel = s.sel := rfl
@[simp] theorem State.onEng_tod (s : State) (e : Nat) (f : Eng → Eng) : (s.onEng e f).tod = s.tod := rfl
@[simp] theorem State.onEng_tiu (s : State) (e : Nat) (f : Eng → Eng) : (s.onEng e f).tiu = s.tiu := rfl
@[simp] theorem State.onEng_servo (s : State) (e : Nat) (f : Eng → Eng) : (s.onEng e f).servo = s.servo := rfl
@[simp] theorem State.onEng_accum (s : State) (e : Nat) (f : Eng → Eng) : (s.onEng e f).accum = s.accum := rfl
@[simp] theorem State.onEng_ho (s : State) (e : Nat) (f : Eng → Eng) : (s.onEng e f).ho = s.ho := rfl
@[simp] theorem State.onEng_oven (s : State) (e : Nat) (f : Eng → Eng) : (s.onEng e f).oven = s.oven := rfl
@[simp] theorem State.onEng_atomic (s : State) (e : Nat) (f : Eng → Eng) : (s.onEng e f).atomic = s.atomic := rfl
@[simp] theorem State.onEng_synth (s : State) (e : Nat) (f : Eng → Eng) : (s.onEng e f).synth = s.synth := rfl
@[simp] theorem State.onEng_gnss (s : State) (e : Nat) (f : Eng → Eng) : (s.onEng e f).gnss = s.gnss := rfl
@[simp] theorem State.onEng_girth (s : State) (e : Nat) (f : Eng → Eng) : (s.onEng e f).girth = s.girth := rfl
@[simp] theorem State.onEng_net (s : State) (e : Nat) (f : Eng → Eng) : (s.onEng e f).net = s.net := rfl
@[simp] theorem State.onEng_yard (s : State) (e : Nat) (f : Eng → Eng) : (s.onEng e f).yard = s.yard := rfl
@[simp] theorem State.onEng_ptp (s : State) (e : Nat) (f : Eng → Eng) : (s.onEng e f).ptp = s.ptp := rfl
@[simp] theorem State.onEng_ntp (s : State) (e : Nat) (f : Eng → Eng) : (s.onEng e f).ntp = s.ntp := rfl
@[simp] theorem State.onEng_engs (s : State) (e : Nat) (f : Eng → Eng) : (s.onEng e f).engs = { s.engs with eng := upd f e s.engs.eng } := rfl
@[simp] theorem State.onEng_dump (s : State) (e : Nat) (f : Eng → Eng) : (s.onEng e f).dump = s.dump := rfl
@[simp] theorem State.onEng_gov (s : State) (e : Nat) (f : Eng → Eng) : (s.onEng e f).gov = s.gov := rfl
@[simp] theorem State.onEng_vault (s : State) (e : Nat) (f : Eng → Eng) : (s.onEng e f).vault = s.vault := rfl
@[simp] theorem State.onEng_access (s : State) (e : Nat) (f : Eng → Eng) : (s.onEng e f).access = s.access := rfl
@[simp] theorem State.onEng_dict (s : State) (e : Nat) (f : Eng → Eng) : (s.onEng e f).dict = s.dict := rfl
@[simp] theorem State.onEng_pair (s : State) (e : Nat) (f : Eng → Eng) : (s.onEng e f).pair = s.pair := rfl
@[simp] theorem State.onEng_domain (s : State) (e : Nat) (f : Eng → Eng) : (s.onEng e f).domain = s.domain := rfl
@[simp] theorem State.onEng_log (s : State) (e : Nat) (f : Eng → Eng) : (s.onEng e f).log = s.log := rfl
@[simp] theorem State.onEng_faults (s : State) (e : Nat) (f : Eng → Eng) : (s.onEng e f).faults = s.faults := rfl
@[simp] theorem State.onEng_start (s : State) (e : Nat) (f : Eng → Eng) : (s.onEng e f).start = s.start := rfl
@[simp] theorem State.onEng_cal (s : State) (e : Nat) (f : Eng → Eng) : (s.onEng e f).cal = s.cal := rfl
@[simp] theorem State.onEng_freeCount (s : State) (e : Nat) (f : Eng → Eng) : (s.onEng e f).freeCount = s.freeCount := rfl

/-! ## onTack -/

@[simp] theorem State.onTack_pending (s : State) (j : Nat) (f : Tack → Tack) : (s.onTack j f).pending = s.pending := rfl
@[simp] theorem State.onTack_clk (s : State) (j : Nat) (f : Tack → Tack) : (s.onTack j f).clk = s.clk := rfl
@[simp] theorem State.onTack_tb (s : State) (j : Nat) (f : Tack → Tack) : (s.onTack j f).tb = s.tb := rfl
@[simp] theorem State.onTack_refs (s : State) (j : Nat) (f : Tack → Tack) : (s.onTack j f).refs = s.refs := rfl
@[simp] theorem State.onTack_sel (s : State) (j : Nat) (f : Tack → Tack) : (s.onTack j f).sel = s.sel := rfl
@[simp] theorem State.onTack_tod (s : State) (j : Nat) (f : Tack → Tack) : (s.onTack j f).tod = s.tod := rfl
@[simp] theorem State.onTack_tiu (s : State) (j : Nat) (f : Tack → Tack) : (s.onTack j f).tiu = s.tiu := rfl
@[simp] theorem State.onTack_servo (s : State) (j : Nat) (f : Tack → Tack) : (s.onTack j f).servo = s.servo := rfl
@[simp] theorem State.onTack_accum (s : State) (j : Nat) (f : Tack → Tack) : (s.onTack j f).accum = s.accum := rfl
@[simp] theorem State.onTack_ho (s : State) (j : Nat) (f : Tack → Tack) : (s.onTack j f).ho = s.ho := rfl
@[simp] theorem State.onTack_oven (s : State) (j : Nat) (f : Tack → Tack) : (s.onTack j f).oven = s.oven := rfl
@[simp] theorem State.onTack_atomic (s : State) (j : Nat) (f : Tack → Tack) : (s.onTack j f).atomic = s.atomic := rfl
@[simp] theorem State.onTack_synth (s : State) (j : Nat) (f : Tack → Tack) : (s.onTack j f).synth = s.synth := rfl
@[simp] theorem State.onTack_gnss (s : State) (j : Nat) (f : Tack → Tack) : (s.onTack j f).gnss = s.gnss := rfl
@[simp] theorem State.onTack_girth (s : State) (j : Nat) (f : Tack → Tack) : (s.onTack j f).girth = s.girth := rfl
@[simp] theorem State.onTack_net (s : State) (j : Nat) (f : Tack → Tack) : (s.onTack j f).net = s.net := rfl
@[simp] theorem State.onTack_yard (s : State) (j : Nat) (f : Tack → Tack) : (s.onTack j f).yard = s.yard := rfl
@[simp] theorem State.onTack_ptp (s : State) (j : Nat) (f : Tack → Tack) : (s.onTack j f).ptp = s.ptp := rfl
@[simp] theorem State.onTack_ntp (s : State) (j : Nat) (f : Tack → Tack) : (s.onTack j f).ntp = s.ntp := rfl
@[simp] theorem State.onTack_engs (s : State) (j : Nat) (f : Tack → Tack) : (s.onTack j f).engs = { s.engs with tack := upd f j s.engs.tack } := rfl
@[simp] theorem State.onTack_dump (s : State) (j : Nat) (f : Tack → Tack) : (s.onTack j f).dump = s.dump := rfl
@[simp] theorem State.onTack_gov (s : State) (j : Nat) (f : Tack → Tack) : (s.onTack j f).gov = s.gov := rfl
@[simp] theorem State.onTack_vault (s : State) (j : Nat) (f : Tack → Tack) : (s.onTack j f).vault = s.vault := rfl
@[simp] theorem State.onTack_access (s : State) (j : Nat) (f : Tack → Tack) : (s.onTack j f).access = s.access := rfl
@[simp] theorem State.onTack_dict (s : State) (j : Nat) (f : Tack → Tack) : (s.onTack j f).dict = s.dict := rfl
@[simp] theorem State.onTack_pair (s : State) (j : Nat) (f : Tack → Tack) : (s.onTack j f).pair = s.pair := rfl
@[simp] theorem State.onTack_domain (s : State) (j : Nat) (f : Tack → Tack) : (s.onTack j f).domain = s.domain := rfl
@[simp] theorem State.onTack_log (s : State) (j : Nat) (f : Tack → Tack) : (s.onTack j f).log = s.log := rfl
@[simp] theorem State.onTack_faults (s : State) (j : Nat) (f : Tack → Tack) : (s.onTack j f).faults = s.faults := rfl
@[simp] theorem State.onTack_start (s : State) (j : Nat) (f : Tack → Tack) : (s.onTack j f).start = s.start := rfl
@[simp] theorem State.onTack_cal (s : State) (j : Nat) (f : Tack → Tack) : (s.onTack j f).cal = s.cal := rfl
@[simp] theorem State.onTack_freeCount (s : State) (j : Nat) (f : Tack → Tack) : (s.onTack j f).freeCount = s.freeCount := rfl

/-! ## onCan -/

@[simp] theorem State.onCan_pending (s : State) (c : Nat) (f : Can → Can) : (s.onCan c f).pending = s.pending := rfl
@[simp] theorem State.onCan_clk (s : State) (c : Nat) (f : Can → Can) : (s.onCan c f).clk = s.clk := rfl
@[simp] theorem State.onCan_tb (s : State) (c : Nat) (f : Can → Can) : (s.onCan c f).tb = s.tb := rfl
@[simp] theorem State.onCan_refs (s : State) (c : Nat) (f : Can → Can) : (s.onCan c f).refs = s.refs := rfl
@[simp] theorem State.onCan_sel (s : State) (c : Nat) (f : Can → Can) : (s.onCan c f).sel = s.sel := rfl
@[simp] theorem State.onCan_tod (s : State) (c : Nat) (f : Can → Can) : (s.onCan c f).tod = s.tod := rfl
@[simp] theorem State.onCan_tiu (s : State) (c : Nat) (f : Can → Can) : (s.onCan c f).tiu = s.tiu := rfl
@[simp] theorem State.onCan_servo (s : State) (c : Nat) (f : Can → Can) : (s.onCan c f).servo = s.servo := rfl
@[simp] theorem State.onCan_accum (s : State) (c : Nat) (f : Can → Can) : (s.onCan c f).accum = s.accum := rfl
@[simp] theorem State.onCan_ho (s : State) (c : Nat) (f : Can → Can) : (s.onCan c f).ho = s.ho := rfl
@[simp] theorem State.onCan_oven (s : State) (c : Nat) (f : Can → Can) : (s.onCan c f).oven = s.oven := rfl
@[simp] theorem State.onCan_atomic (s : State) (c : Nat) (f : Can → Can) : (s.onCan c f).atomic = s.atomic := rfl
@[simp] theorem State.onCan_synth (s : State) (c : Nat) (f : Can → Can) : (s.onCan c f).synth = s.synth := rfl
@[simp] theorem State.onCan_gnss (s : State) (c : Nat) (f : Can → Can) : (s.onCan c f).gnss = s.gnss := rfl
@[simp] theorem State.onCan_girth (s : State) (c : Nat) (f : Can → Can) : (s.onCan c f).girth = s.girth := rfl
@[simp] theorem State.onCan_net (s : State) (c : Nat) (f : Can → Can) : (s.onCan c f).net = s.net := rfl
@[simp] theorem State.onCan_yard (s : State) (c : Nat) (f : Can → Can) : (s.onCan c f).yard = s.yard := rfl
@[simp] theorem State.onCan_ptp (s : State) (c : Nat) (f : Can → Can) : (s.onCan c f).ptp = s.ptp := rfl
@[simp] theorem State.onCan_ntp (s : State) (c : Nat) (f : Can → Can) : (s.onCan c f).ntp = s.ntp := rfl
@[simp] theorem State.onCan_engs (s : State) (c : Nat) (f : Can → Can) : (s.onCan c f).engs = s.engs := rfl
@[simp] theorem State.onCan_dump (s : State) (c : Nat) (f : Can → Can) : (s.onCan c f).dump = s.dump := rfl
@[simp] theorem State.onCan_gov (s : State) (c : Nat) (f : Can → Can) : (s.onCan c f).gov = s.gov := rfl
@[simp] theorem State.onCan_vault (s : State) (c : Nat) (f : Can → Can) : (s.onCan c f).vault = s.vault := rfl
@[simp] theorem State.onCan_access (s : State) (c : Nat) (f : Can → Can) : (s.onCan c f).access = s.access := rfl
@[simp] theorem State.onCan_dict (s : State) (c : Nat) (f : Can → Can) : (s.onCan c f).dict = { s.dict with can := upd f c s.dict.can } := rfl
@[simp] theorem State.onCan_pair (s : State) (c : Nat) (f : Can → Can) : (s.onCan c f).pair = s.pair := rfl
@[simp] theorem State.onCan_domain (s : State) (c : Nat) (f : Can → Can) : (s.onCan c f).domain = s.domain := rfl
@[simp] theorem State.onCan_log (s : State) (c : Nat) (f : Can → Can) : (s.onCan c f).log = s.log := rfl
@[simp] theorem State.onCan_faults (s : State) (c : Nat) (f : Can → Can) : (s.onCan c f).faults = s.faults := rfl
@[simp] theorem State.onCan_start (s : State) (c : Nat) (f : Can → Can) : (s.onCan c f).start = s.start := rfl
@[simp] theorem State.onCan_cal (s : State) (c : Nat) (f : Can → Can) : (s.onCan c f).cal = s.cal := rfl
@[simp] theorem State.onCan_freeCount (s : State) (c : Nat) (f : Can → Can) : (s.onCan c f).freeCount = s.freeCount := rfl

/-! ## setGroup -/

@[simp] theorem State.setGroup_pending (s : State) (g v : Nat) : (s.setGroup g v).pending = s.pending := rfl
@[simp] theorem State.setGroup_clk (s : State) (g v : Nat) : (s.setGroup g v).clk = { s.clk with groups := s.clk.groups.set (g - 1) v } := rfl
@[simp] theorem State.setGroup_tb (s : State) (g v : Nat) : (s.setGroup g v).tb = s.tb := rfl
@[simp] theorem State.setGroup_refs (s : State) (g v : Nat) : (s.setGroup g v).refs = s.refs := rfl
@[simp] theorem State.setGroup_sel (s : State) (g v : Nat) : (s.setGroup g v).sel = s.sel := rfl
@[simp] theorem State.setGroup_tod (s : State) (g v : Nat) : (s.setGroup g v).tod = s.tod := rfl
@[simp] theorem State.setGroup_tiu (s : State) (g v : Nat) : (s.setGroup g v).tiu = s.tiu := rfl
@[simp] theorem State.setGroup_servo (s : State) (g v : Nat) : (s.setGroup g v).servo = s.servo := rfl
@[simp] theorem State.setGroup_accum (s : State) (g v : Nat) : (s.setGroup g v).accum = s.accum := rfl
@[simp] theorem State.setGroup_ho (s : State) (g v : Nat) : (s.setGroup g v).ho = s.ho := rfl
@[simp] theorem State.setGroup_oven (s : State) (g v : Nat) : (s.setGroup g v).oven = s.oven := rfl
@[simp] theorem State.setGroup_atomic (s : State) (g v : Nat) : (s.setGroup g v).atomic = s.atomic := rfl
@[simp] theorem State.setGroup_synth (s : State) (g v : Nat) : (s.setGroup g v).synth = s.synth := rfl
@[simp] theorem State.setGroup_gnss (s : State) (g v : Nat) : (s.setGroup g v).gnss = s.gnss := rfl
@[simp] theorem State.setGroup_girth (s : State) (g v : Nat) : (s.setGroup g v).girth = s.girth := rfl
@[simp] theorem State.setGroup_net (s : State) (g v : Nat) : (s.setGroup g v).net = s.net := rfl
@[simp] theorem State.setGroup_yard (s : State) (g v : Nat) : (s.setGroup g v).yard = s.yard := rfl
@[simp] theorem State.setGroup_ptp (s : State) (g v : Nat) : (s.setGroup g v).ptp = s.ptp := rfl
@[simp] theorem State.setGroup_ntp (s : State) (g v : Nat) : (s.setGroup g v).ntp = s.ntp := rfl
@[simp] theorem State.setGroup_engs (s : State) (g v : Nat) : (s.setGroup g v).engs = s.engs := rfl
@[simp] theorem State.setGroup_dump (s : State) (g v : Nat) : (s.setGroup g v).dump = s.dump := rfl
@[simp] theorem State.setGroup_gov (s : State) (g v : Nat) : (s.setGroup g v).gov = s.gov := rfl
@[simp] theorem State.setGroup_vault (s : State) (g v : Nat) : (s.setGroup g v).vault = s.vault := rfl
@[simp] theorem State.setGroup_access (s : State) (g v : Nat) : (s.setGroup g v).access = s.access := rfl
@[simp] theorem State.setGroup_dict (s : State) (g v : Nat) : (s.setGroup g v).dict = s.dict := rfl
@[simp] theorem State.setGroup_pair (s : State) (g v : Nat) : (s.setGroup g v).pair = s.pair := rfl
@[simp] theorem State.setGroup_domain (s : State) (g v : Nat) : (s.setGroup g v).domain = s.domain := rfl
@[simp] theorem State.setGroup_log (s : State) (g v : Nat) : (s.setGroup g v).log = s.log := rfl
@[simp] theorem State.setGroup_faults (s : State) (g v : Nat) : (s.setGroup g v).faults = s.faults := rfl
@[simp] theorem State.setGroup_start (s : State) (g v : Nat) : (s.setGroup g v).start = s.start := rfl
@[simp] theorem State.setGroup_cal (s : State) (g v : Nat) : (s.setGroup g v).cal = s.cal := rfl
@[simp] theorem State.setGroup_freeCount (s : State) (g v : Nat) : (s.setGroup g v).freeCount = s.freeCount := rfl

/-! ## setSlot -/

@[simp] theorem State.setSlot_pending (s : State) (n : Nat) (v : Slot) : (s.setSlot n v).pending = s.pending := rfl
@[simp] theorem State.setSlot_clk (s : State) (n : Nat) (v : Slot) : (s.setSlot n v).clk = s.clk := rfl
@[simp] theorem State.setSlot_tb (s : State) (n : Nat) (v : Slot) : (s.setSlot n v).tb = s.tb := rfl
@[simp] theorem State.setSlot_refs (s : State) (n : Nat) (v : Slot) : (s.setSlot n v).refs = s.refs := rfl
@[simp] theorem State.setSlot_sel (s : State) (n : Nat) (v : Slot) : (s.setSlot n v).sel = s.sel := rfl
@[simp] theorem State.setSlot_tod (s : State) (n : Nat) (v : Slot) : (s.setSlot n v).tod = s.tod := rfl
@[simp] theorem State.setSlot_tiu (s : State) (n : Nat) (v : Slot) : (s.setSlot n v).tiu = s.tiu := rfl
@[simp] theorem State.setSlot_servo (s : State) (n : Nat) (v : Slot) : (s.setSlot n v).servo = s.servo := rfl
@[simp] theorem State.setSlot_accum (s : State) (n : Nat) (v : Slot) : (s.setSlot n v).accum = s.accum := rfl
@[simp] theorem State.setSlot_ho (s : State) (n : Nat) (v : Slot) : (s.setSlot n v).ho = s.ho := rfl
@[simp] theorem State.setSlot_oven (s : State) (n : Nat) (v : Slot) : (s.setSlot n v).oven = s.oven := rfl
@[simp] theorem State.setSlot_atomic (s : State) (n : Nat) (v : Slot) : (s.setSlot n v).atomic = s.atomic := rfl
@[simp] theorem State.setSlot_synth (s : State) (n : Nat) (v : Slot) : (s.setSlot n v).synth = s.synth := rfl
@[simp] theorem State.setSlot_gnss (s : State) (n : Nat) (v : Slot) : (s.setSlot n v).gnss = s.gnss := rfl
@[simp] theorem State.setSlot_girth (s : State) (n : Nat) (v : Slot) : (s.setSlot n v).girth = s.girth := rfl
@[simp] theorem State.setSlot_net (s : State) (n : Nat) (v : Slot) : (s.setSlot n v).net = s.net := rfl
@[simp] theorem State.setSlot_yard (s : State) (n : Nat) (v : Slot) : (s.setSlot n v).yard = s.yard := rfl
@[simp] theorem State.setSlot_ptp (s : State) (n : Nat) (v : Slot) : (s.setSlot n v).ptp = s.ptp := rfl
@[simp] theorem State.setSlot_ntp (s : State) (n : Nat) (v : Slot) : (s.setSlot n v).ntp = s.ntp := rfl
@[simp] theorem State.setSlot_engs (s : State) (n : Nat) (v : Slot) : (s.setSlot n v).engs = s.engs := rfl
@[simp] theorem State.setSlot_dump (s : State) (n : Nat) (v : Slot) : (s.setSlot n v).dump = s.dump := rfl
@[simp] theorem State.setSlot_gov (s : State) (n : Nat) (v : Slot) : (s.setSlot n v).gov = s.gov := rfl
@[simp] theorem State.setSlot_vault (s : State) (n : Nat) (v : Slot) : (s.setSlot n v).vault = { s.vault with slots := putKey n v s.vault.slots } := rfl
@[simp] theorem State.setSlot_access (s : State) (n : Nat) (v : Slot) : (s.setSlot n v).access = s.access := rfl
@[simp] theorem State.setSlot_dict (s : State) (n : Nat) (v : Slot) : (s.setSlot n v).dict = s.dict := rfl
@[simp] theorem State.setSlot_pair (s : State) (n : Nat) (v : Slot) : (s.setSlot n v).pair = s.pair := rfl
@[simp] theorem State.setSlot_domain (s : State) (n : Nat) (v : Slot) : (s.setSlot n v).domain = s.domain := rfl
@[simp] theorem State.setSlot_log (s : State) (n : Nat) (v : Slot) : (s.setSlot n v).log = s.log := rfl
@[simp] theorem State.setSlot_faults (s : State) (n : Nat) (v : Slot) : (s.setSlot n v).faults = s.faults := rfl
@[simp] theorem State.setSlot_start (s : State) (n : Nat) (v : Slot) : (s.setSlot n v).start = s.start := rfl
@[simp] theorem State.setSlot_cal (s : State) (n : Nat) (v : Slot) : (s.setSlot n v).cal = s.cal := rfl
@[simp] theorem State.setSlot_freeCount (s : State) (n : Nat) (v : Slot) : (s.setSlot n v).freeCount = s.freeCount := rfl

/-! ## dropSlot -/

@[simp] theorem State.dropSlot_pending (s : State) (n : Nat) : (s.dropSlot n).pending = s.pending := rfl
@[simp] theorem State.dropSlot_clk (s : State) (n : Nat) : (s.dropSlot n).clk = s.clk := rfl
@[simp] theorem State.dropSlot_tb (s : State) (n : Nat) : (s.dropSlot n).tb = s.tb := rfl
@[simp] theorem State.dropSlot_refs (s : State) (n : Nat) : (s.dropSlot n).refs = s.refs := rfl
@[simp] theorem State.dropSlot_sel (s : State) (n : Nat) : (s.dropSlot n).sel = s.sel := rfl
@[simp] theorem State.dropSlot_tod (s : State) (n : Nat) : (s.dropSlot n).tod = s.tod := rfl
@[simp] theorem State.dropSlot_tiu (s : State) (n : Nat) : (s.dropSlot n).tiu = s.tiu := rfl
@[simp] theorem State.dropSlot_servo (s : State) (n : Nat) : (s.dropSlot n).servo = s.servo := rfl
@[simp] theorem State.dropSlot_accum (s : State) (n : Nat) : (s.dropSlot n).accum = s.accum := rfl
@[simp] theorem State.dropSlot_ho (s : State) (n : Nat) : (s.dropSlot n).ho = s.ho := rfl
@[simp] theorem State.dropSlot_oven (s : State) (n : Nat) : (s.dropSlot n).oven = s.oven := rfl
@[simp] theorem State.dropSlot_atomic (s : State) (n : Nat) : (s.dropSlot n).atomic = s.atomic := rfl
@[simp] theorem State.dropSlot_synth (s : State) (n : Nat) : (s.dropSlot n).synth = s.synth := rfl
@[simp] theorem State.dropSlot_gnss (s : State) (n : Nat) : (s.dropSlot n).gnss = s.gnss := rfl
@[simp] theorem State.dropSlot_girth (s : State) (n : Nat) : (s.dropSlot n).girth = s.girth := rfl
@[simp] theorem State.dropSlot_net (s : State) (n : Nat) : (s.dropSlot n).net = s.net := rfl
@[simp] theorem State.dropSlot_yard (s : State) (n : Nat) : (s.dropSlot n).yard = s.yard := rfl
@[simp] theorem State.dropSlot_ptp (s : State) (n : Nat) : (s.dropSlot n).ptp = s.ptp := rfl
@[simp] theorem State.dropSlot_ntp (s : State) (n : Nat) : (s.dropSlot n).ntp = s.ntp := rfl
@[simp] theorem State.dropSlot_engs (s : State) (n : Nat) : (s.dropSlot n).engs = s.engs := rfl
@[simp] theorem State.dropSlot_dump (s : State) (n : Nat) : (s.dropSlot n).dump = s.dump := rfl
@[simp] theorem State.dropSlot_gov (s : State) (n : Nat) : (s.dropSlot n).gov = s.gov := rfl
@[simp] theorem State.dropSlot_vault (s : State) (n : Nat) : (s.dropSlot n).vault = { s.vault with slots := delKey n s.vault.slots } := rfl
@[simp] theorem State.dropSlot_access (s : State) (n : Nat) : (s.dropSlot n).access = s.access := rfl
@[simp] theorem State.dropSlot_dict (s : State) (n : Nat) : (s.dropSlot n).dict = s.dict := rfl
@[simp] theorem State.dropSlot_pair (s : State) (n : Nat) : (s.dropSlot n).pair = s.pair := rfl
@[simp] theorem State.dropSlot_domain (s : State) (n : Nat) : (s.dropSlot n).domain = s.domain := rfl
@[simp] theorem State.dropSlot_log (s : State) (n : Nat) : (s.dropSlot n).log = s.log := rfl
@[simp] theorem State.dropSlot_faults (s : State) (n : Nat) : (s.dropSlot n).faults = s.faults := rfl
@[simp] theorem State.dropSlot_start (s : State) (n : Nat) : (s.dropSlot n).start = s.start := rfl
@[simp] theorem State.dropSlot_cal (s : State) (n : Nat) : (s.dropSlot n).cal = s.cal := rfl
@[simp] theorem State.dropSlot_freeCount (s : State) (n : Nat) : (s.dropSlot n).freeCount = s.freeCount := rfl

/-! ## put -/

@[simp] theorem State.put_pending (s : State) (idx sub v : Nat) : (s.put idx sub v).pending = s.pending := rfl
@[simp] theorem State.put_clk (s : State) (idx sub v : Nat) : (s.put idx sub v).clk = s.clk := rfl
@[simp] theorem State.put_tb (s : State) (idx sub v : Nat) : (s.put idx sub v).tb = s.tb := rfl
@[simp] theorem State.put_refs (s : State) (idx sub v : Nat) : (s.put idx sub v).refs = s.refs := rfl
@[simp] theorem State.put_sel (s : State) (idx sub v : Nat) : (s.put idx sub v).sel = s.sel := rfl
@[simp] theorem State.put_tod (s : State) (idx sub v : Nat) : (s.put idx sub v).tod = s.tod := rfl
@[simp] theorem State.put_tiu (s : State) (idx sub v : Nat) : (s.put idx sub v).tiu = s.tiu := rfl
@[simp] theorem State.put_servo (s : State) (idx sub v : Nat) : (s.put idx sub v).servo = s.servo := rfl
@[simp] theorem State.put_accum (s : State) (idx sub v : Nat) : (s.put idx sub v).accum = s.accum := rfl
@[simp] theorem State.put_ho (s : State) (idx sub v : Nat) : (s.put idx sub v).ho = s.ho := rfl
@[simp] theorem State.put_oven (s : State) (idx sub v : Nat) : (s.put idx sub v).oven = s.oven := rfl
@[simp] theorem State.put_atomic (s : State) (idx sub v : Nat) : (s.put idx sub v).atomic = s.atomic := rfl
@[simp] theorem State.put_synth (s : State) (idx sub v : Nat) : (s.put idx sub v).synth = s.synth := rfl
@[simp] theorem State.put_gnss (s : State) (idx sub v : Nat) : (s.put idx sub v).gnss = s.gnss := rfl
@[simp] theorem State.put_girth (s : State) (idx sub v : Nat) : (s.put idx sub v).girth = s.girth := rfl
@[simp] theorem State.put_net (s : State) (idx sub v : Nat) : (s.put idx sub v).net = s.net := rfl
@[simp] theorem State.put_yard (s : State) (idx sub v : Nat) : (s.put idx sub v).yard = s.yard := rfl
@[simp] theorem State.put_ptp (s : State) (idx sub v : Nat) : (s.put idx sub v).ptp = s.ptp := rfl
@[simp] theorem State.put_ntp (s : State) (idx sub v : Nat) : (s.put idx sub v).ntp = s.ntp := rfl
@[simp] theorem State.put_engs (s : State) (idx sub v : Nat) : (s.put idx sub v).engs = s.engs := rfl
@[simp] theorem State.put_dump (s : State) (idx sub v : Nat) : (s.put idx sub v).dump = s.dump := rfl
@[simp] theorem State.put_gov (s : State) (idx sub v : Nat) : (s.put idx sub v).gov = s.gov := rfl
@[simp] theorem State.put_vault (s : State) (idx sub v : Nat) : (s.put idx sub v).vault = s.vault := rfl
@[simp] theorem State.put_access (s : State) (idx sub v : Nat) : (s.put idx sub v).access = s.access := rfl
@[simp] theorem State.put_dict (s : State) (idx sub v : Nat) : (s.put idx sub v).dict = { s.dict with store := putKey (idx * 256 + sub) v s.dict.store } := rfl
@[simp] theorem State.put_pair (s : State) (idx sub v : Nat) : (s.put idx sub v).pair = s.pair := rfl
@[simp] theorem State.put_domain (s : State) (idx sub v : Nat) : (s.put idx sub v).domain = s.domain := rfl
@[simp] theorem State.put_log (s : State) (idx sub v : Nat) : (s.put idx sub v).log = s.log := rfl
@[simp] theorem State.put_faults (s : State) (idx sub v : Nat) : (s.put idx sub v).faults = s.faults := rfl
@[simp] theorem State.put_start (s : State) (idx sub v : Nat) : (s.put idx sub v).start = s.start := rfl
@[simp] theorem State.put_cal (s : State) (idx sub v : Nat) : (s.put idx sub v).cal = s.cal := rfl
@[simp] theorem State.put_freeCount (s : State) (idx sub v : Nat) : (s.put idx sub v).freeCount = s.freeCount := rfl

/-! ## takeLate -/

@[simp] theorem State.takeLate_pending (s : State) (p : Nat → Bool) : (s.takeLate p).pending = s.pending := rfl
@[simp] theorem State.takeLate_clk (s : State) (p : Nat → Bool) : (s.takeLate p).clk = s.clk := rfl
@[simp] theorem State.takeLate_tb (s : State) (p : Nat → Bool) : (s.takeLate p).tb = s.tb := rfl
@[simp] theorem State.takeLate_refs (s : State) (p : Nat → Bool) : (s.takeLate p).refs = s.refs := rfl
@[simp] theorem State.takeLate_sel (s : State) (p : Nat → Bool) : (s.takeLate p).sel = s.sel := rfl
@[simp] theorem State.takeLate_tod (s : State) (p : Nat → Bool) : (s.takeLate p).tod = s.tod := rfl
@[simp] theorem State.takeLate_tiu (s : State) (p : Nat → Bool) : (s.takeLate p).tiu = s.tiu := rfl
@[simp] theorem State.takeLate_servo (s : State) (p : Nat → Bool) : (s.takeLate p).servo = s.servo := rfl
@[simp] theorem State.takeLate_accum (s : State) (p : Nat → Bool) : (s.takeLate p).accum = s.accum := rfl
@[simp] theorem State.takeLate_ho (s : State) (p : Nat → Bool) : (s.takeLate p).ho = s.ho := rfl
@[simp] theorem State.takeLate_oven (s : State) (p : Nat → Bool) : (s.takeLate p).oven = s.oven := rfl
@[simp] theorem State.takeLate_atomic (s : State) (p : Nat → Bool) : (s.takeLate p).atomic = s.atomic := rfl
@[simp] theorem State.takeLate_synth (s : State) (p : Nat → Bool) : (s.takeLate p).synth = s.synth := rfl
@[simp] theorem State.takeLate_gnss (s : State) (p : Nat → Bool) : (s.takeLate p).gnss = s.gnss := rfl
@[simp] theorem State.takeLate_girth (s : State) (p : Nat → Bool) : (s.takeLate p).girth = s.girth := rfl
@[simp] theorem State.takeLate_net (s : State) (p : Nat → Bool) : (s.takeLate p).net = s.net := rfl
@[simp] theorem State.takeLate_yard (s : State) (p : Nat → Bool) : (s.takeLate p).yard = s.yard := rfl
@[simp] theorem State.takeLate_ptp (s : State) (p : Nat → Bool) : (s.takeLate p).ptp = s.ptp := rfl
@[simp] theorem State.takeLate_ntp (s : State) (p : Nat → Bool) : (s.takeLate p).ntp = s.ntp := rfl
@[simp] theorem State.takeLate_engs (s : State) (p : Nat → Bool) : (s.takeLate p).engs = s.engs := rfl
@[simp] theorem State.takeLate_dump (s : State) (p : Nat → Bool) : (s.takeLate p).dump = s.dump := rfl
@[simp] theorem State.takeLate_gov (s : State) (p : Nat → Bool) : (s.takeLate p).gov = s.gov := rfl
@[simp] theorem State.takeLate_vault (s : State) (p : Nat → Bool) : (s.takeLate p).vault = s.vault := rfl
@[simp] theorem State.takeLate_access (s : State) (p : Nat → Bool) : (s.takeLate p).access = s.access := rfl
@[simp] theorem State.takeLate_pair (s : State) (p : Nat → Bool) : (s.takeLate p).pair = s.pair := rfl
@[simp] theorem State.takeLate_domain (s : State) (p : Nat → Bool) : (s.takeLate p).domain = s.domain := rfl
@[simp] theorem State.takeLate_log (s : State) (p : Nat → Bool) : (s.takeLate p).log = s.log := rfl
@[simp] theorem State.takeLate_faults (s : State) (p : Nat → Bool) : (s.takeLate p).faults = s.faults := rfl
@[simp] theorem State.takeLate_start (s : State) (p : Nat → Bool) : (s.takeLate p).start = s.start := rfl
@[simp] theorem State.takeLate_cal (s : State) (p : Nat → Bool) : (s.takeLate p).cal = s.cal := rfl
@[simp] theorem State.takeLate_freeCount (s : State) (p : Nat → Bool) : (s.takeLate p).freeCount = s.freeCount := rfl

/-! ## putLate -/

@[simp] theorem State.putLate_pending (s : State) (idx sub v : Nat) : (s.putLate idx sub v).pending = s.pending := by unfold State.putLate; dsimp only; split <;> rfl
@[simp] theorem State.putLate_clk (s : State) (idx sub v : Nat) : (s.putLate idx sub v).clk = s.clk := by unfold State.putLate; dsimp only; split <;> rfl
@[simp] theorem State.putLate_tb (s : State) (idx sub v : Nat) : (s.putLate idx sub v).tb = s.tb := by unfold State.putLate; dsimp only; split <;> rfl
@[simp] theorem State.putLate_refs (s : State) (idx sub v : Nat) : (s.putLate idx sub v).refs = s.refs := by unfold State.putLate; dsimp only; split <;> rfl
@[simp] theorem State.putLate_sel (s : State) (idx sub v : Nat) : (s.putLate idx sub v).sel = s.sel := by unfold State.putLate; dsimp only; split <;> rfl
@[simp] theorem State.putLate_tod (s : State) (idx sub v : Nat) : (s.putLate idx sub v).tod = s.tod := by unfold State.putLate; dsimp only; split <;> rfl
@[simp] theorem State.putLate_tiu (s : State) (idx sub v : Nat) : (s.putLate idx sub v).tiu = s.tiu := by unfold State.putLate; dsimp only; split <;> rfl
@[simp] theorem State.putLate_servo (s : State) (idx sub v : Nat) : (s.putLate idx sub v).servo = s.servo := by unfold State.putLate; dsimp only; split <;> rfl
@[simp] theorem State.putLate_accum (s : State) (idx sub v : Nat) : (s.putLate idx sub v).accum = s.accum := by unfold State.putLate; dsimp only; split <;> rfl
@[simp] theorem State.putLate_ho (s : State) (idx sub v : Nat) : (s.putLate idx sub v).ho = s.ho := by unfold State.putLate; dsimp only; split <;> rfl
@[simp] theorem State.putLate_oven (s : State) (idx sub v : Nat) : (s.putLate idx sub v).oven = s.oven := by unfold State.putLate; dsimp only; split <;> rfl
@[simp] theorem State.putLate_atomic (s : State) (idx sub v : Nat) : (s.putLate idx sub v).atomic = s.atomic := by unfold State.putLate; dsimp only; split <;> rfl
@[simp] theorem State.putLate_synth (s : State) (idx sub v : Nat) : (s.putLate idx sub v).synth = s.synth := by unfold State.putLate; dsimp only; split <;> rfl
@[simp] theorem State.putLate_gnss (s : State) (idx sub v : Nat) : (s.putLate idx sub v).gnss = s.gnss := by unfold State.putLate; dsimp only; split <;> rfl
@[simp] theorem State.putLate_girth (s : State) (idx sub v : Nat) : (s.putLate idx sub v).girth = s.girth := by unfold State.putLate; dsimp only; split <;> rfl
@[simp] theorem State.putLate_net (s : State) (idx sub v : Nat) : (s.putLate idx sub v).net = s.net := by unfold State.putLate; dsimp only; split <;> rfl
@[simp] theorem State.putLate_yard (s : State) (idx sub v : Nat) : (s.putLate idx sub v).yard = s.yard := by unfold State.putLate; dsimp only; split <;> rfl
@[simp] theorem State.putLate_ptp (s : State) (idx sub v : Nat) : (s.putLate idx sub v).ptp = s.ptp := by unfold State.putLate; dsimp only; split <;> rfl
@[simp] theorem State.putLate_ntp (s : State) (idx sub v : Nat) : (s.putLate idx sub v).ntp = s.ntp := by unfold State.putLate; dsimp only; split <;> rfl
@[simp] theorem State.putLate_engs (s : State) (idx sub v : Nat) : (s.putLate idx sub v).engs = s.engs := by unfold State.putLate; dsimp only; split <;> rfl
@[simp] theorem State.putLate_dump (s : State) (idx sub v : Nat) : (s.putLate idx sub v).dump = s.dump := by unfold State.putLate; dsimp only; split <;> rfl
@[simp] theorem State.putLate_gov (s : State) (idx sub v : Nat) : (s.putLate idx sub v).gov = s.gov := by unfold State.putLate; dsimp only; split <;> rfl
@[simp] theorem State.putLate_vault (s : State) (idx sub v : Nat) : (s.putLate idx sub v).vault = s.vault := by unfold State.putLate; dsimp only; split <;> rfl
@[simp] theorem State.putLate_access (s : State) (idx sub v : Nat) : (s.putLate idx sub v).access = s.access := by unfold State.putLate; dsimp only; split <;> rfl
@[simp] theorem State.putLate_pair (s : State) (idx sub v : Nat) : (s.putLate idx sub v).pair = s.pair := by unfold State.putLate; dsimp only; split <;> rfl
@[simp] theorem State.putLate_domain (s : State) (idx sub v : Nat) : (s.putLate idx sub v).domain = s.domain := by unfold State.putLate; dsimp only; split <;> rfl
@[simp] theorem State.putLate_log (s : State) (idx sub v : Nat) : (s.putLate idx sub v).log = s.log := by unfold State.putLate; dsimp only; split <;> rfl
@[simp] theorem State.putLate_faults (s : State) (idx sub v : Nat) : (s.putLate idx sub v).faults = s.faults := by unfold State.putLate; dsimp only; split <;> rfl
@[simp] theorem State.putLate_start (s : State) (idx sub v : Nat) : (s.putLate idx sub v).start = s.start := by unfold State.putLate; dsimp only; split <;> rfl
@[simp] theorem State.putLate_cal (s : State) (idx sub v : Nat) : (s.putLate idx sub v).cal = s.cal := by unfold State.putLate; dsimp only; split <;> rfl
@[simp] theorem State.putLate_freeCount (s : State) (idx sub v : Nat) : (s.putLate idx sub v).freeCount = s.freeCount := by unfold State.putLate; dsimp only; split <;> rfl

/-! ## holdU -/

@[simp] theorem State.holdU_pending (s : State) : (s.holdU).pending = s.pending := rfl
@[simp] theorem State.holdU_clk (s : State) : (s.holdU).clk = s.clk := rfl
@[simp] theorem State.holdU_tb (s : State) : (s.holdU).tb = s.tb := rfl
@[simp] theorem State.holdU_refs (s : State) : (s.holdU).refs = s.refs := rfl
@[simp] theorem State.holdU_sel (s : State) : (s.holdU).sel = s.sel := rfl
@[simp] theorem State.holdU_tod (s : State) : (s.holdU).tod = s.tod := rfl
@[simp] theorem State.holdU_tiu (s : State) : (s.holdU).tiu = s.tiu := rfl
@[simp] theorem State.holdU_ho (s : State) : (s.holdU).ho = s.ho := rfl
@[simp] theorem State.holdU_oven (s : State) : (s.holdU).oven = s.oven := rfl
@[simp] theorem State.holdU_atomic (s : State) : (s.holdU).atomic = s.atomic := rfl
@[simp] theorem State.holdU_synth (s : State) : (s.holdU).synth = s.synth := rfl
@[simp] theorem State.holdU_gnss (s : State) : (s.holdU).gnss = s.gnss := rfl
@[simp] theorem State.holdU_girth (s : State) : (s.holdU).girth = s.girth := rfl
@[simp] theorem State.holdU_net (s : State) : (s.holdU).net = s.net := rfl
@[simp] theorem State.holdU_yard (s : State) : (s.holdU).yard = s.yard := rfl
@[simp] theorem State.holdU_ptp (s : State) : (s.holdU).ptp = s.ptp := rfl
@[simp] theorem State.holdU_ntp (s : State) : (s.holdU).ntp = s.ntp := rfl
@[simp] theorem State.holdU_engs (s : State) : (s.holdU).engs = s.engs := rfl
@[simp] theorem State.holdU_dump (s : State) : (s.holdU).dump = s.dump := rfl
@[simp] theorem State.holdU_gov (s : State) : (s.holdU).gov = s.gov := rfl
@[simp] theorem State.holdU_vault (s : State) : (s.holdU).vault = s.vault := rfl
@[simp] theorem State.holdU_access (s : State) : (s.holdU).access = s.access := rfl
@[simp] theorem State.holdU_dict (s : State) : (s.holdU).dict = s.dict := rfl
@[simp] theorem State.holdU_pair (s : State) : (s.holdU).pair = s.pair := rfl
@[simp] theorem State.holdU_domain (s : State) : (s.holdU).domain = s.domain := rfl
@[simp] theorem State.holdU_log (s : State) : (s.holdU).log = s.log := rfl
@[simp] theorem State.holdU_faults (s : State) : (s.holdU).faults = s.faults := rfl
@[simp] theorem State.holdU_start (s : State) : (s.holdU).start = s.start := rfl
@[simp] theorem State.holdU_cal (s : State) : (s.holdU).cal = s.cal := rfl
@[simp] theorem State.holdU_freeCount (s : State) : (s.holdU).freeCount = s.freeCount := rfl

/-! ## accrue -/

@[simp] theorem State.accrue_pending (s : State) : (s.accrue).pending = s.pending := rfl
@[simp] theorem State.accrue_clk (s : State) : (s.accrue).clk = s.clk := rfl
@[simp] theorem State.accrue_tb (s : State) : (s.accrue).tb = s.tb := rfl
@[simp] theorem State.accrue_refs (s : State) : (s.accrue).refs = s.refs := rfl
@[simp] theorem State.accrue_sel (s : State) : (s.accrue).sel = s.sel := rfl
@[simp] theorem State.accrue_tod (s : State) : (s.accrue).tod = s.tod := rfl
@[simp] theorem State.accrue_tiu (s : State) : (s.accrue).tiu = s.tiu := rfl
@[simp] theorem State.accrue_ho (s : State) : (s.accrue).ho = s.ho := rfl
@[simp] theorem State.accrue_oven (s : State) : (s.accrue).oven = s.oven := rfl
@[simp] theorem State.accrue_atomic (s : State) : (s.accrue).atomic = s.atomic := rfl
@[simp] theorem State.accrue_outs (s : State) : (s.accrue).synth.outs = s.synth.outs := rfl
@[simp] theorem State.accrue_gnss (s : State) : (s.accrue).gnss = s.gnss := rfl
@[simp] theorem State.accrue_girth (s : State) : (s.accrue).girth = s.girth := rfl
@[simp] theorem State.accrue_net (s : State) : (s.accrue).net = s.net := rfl
@[simp] theorem State.accrue_yard (s : State) : (s.accrue).yard = s.yard := rfl
@[simp] theorem State.accrue_ptp (s : State) : (s.accrue).ptp = s.ptp := rfl
@[simp] theorem State.accrue_ntp (s : State) : (s.accrue).ntp = s.ntp := rfl
@[simp] theorem State.accrue_engs (s : State) : (s.accrue).engs = s.engs := rfl
@[simp] theorem State.accrue_dump (s : State) : (s.accrue).dump = s.dump := rfl
@[simp] theorem State.accrue_gov (s : State) : (s.accrue).gov = s.gov := rfl
@[simp] theorem State.accrue_vault (s : State) : (s.accrue).vault = s.vault := rfl
@[simp] theorem State.accrue_access (s : State) : (s.accrue).access = s.access := rfl
@[simp] theorem State.accrue_dict (s : State) : (s.accrue).dict = s.dict := rfl
@[simp] theorem State.accrue_pair (s : State) : (s.accrue).pair = s.pair := rfl
@[simp] theorem State.accrue_domain (s : State) : (s.accrue).domain = s.domain := rfl
@[simp] theorem State.accrue_log (s : State) : (s.accrue).log = s.log := rfl
@[simp] theorem State.accrue_faults (s : State) : (s.accrue).faults = s.faults := rfl
@[simp] theorem State.accrue_start (s : State) : (s.accrue).start = s.start := rfl
@[simp] theorem State.accrue_cal (s : State) : (s.accrue).cal = s.cal := rfl
@[simp] theorem State.accrue_freeCount (s : State) : (s.accrue).freeCount = s.freeCount := rfl

/-! ## clearCloak -/

@[simp] theorem State.clearCloak_pending (s : State) : (s.clearCloak).pending = s.pending := rfl
@[simp] theorem State.clearCloak_clk (s : State) : (s.clearCloak).clk = s.clk := rfl
@[simp] theorem State.clearCloak_tb (s : State) : (s.clearCloak).tb = s.tb := rfl
@[simp] theorem State.clearCloak_refs (s : State) : (s.clearCloak).refs = s.refs := rfl
@[simp] theorem State.clearCloak_sel (s : State) : (s.clearCloak).sel = s.sel := rfl
@[simp] theorem State.clearCloak_tod (s : State) : (s.clearCloak).tod = s.tod := rfl
@[simp] theorem State.clearCloak_tiu (s : State) : (s.clearCloak).tiu = s.tiu := rfl
@[simp] theorem State.clearCloak_servo (s : State) : (s.clearCloak).servo = s.servo := rfl
@[simp] theorem State.clearCloak_accum (s : State) : (s.clearCloak).accum = s.accum := rfl
@[simp] theorem State.clearCloak_ho (s : State) : (s.clearCloak).ho = s.ho := rfl
@[simp] theorem State.clearCloak_oven (s : State) : (s.clearCloak).oven = s.oven := rfl
@[simp] theorem State.clearCloak_atomic (s : State) : (s.clearCloak).atomic = s.atomic := rfl
@[simp] theorem State.clearCloak_synth (s : State) : (s.clearCloak).synth = s.synth := rfl
@[simp] theorem State.clearCloak_gnss (s : State) : (s.clearCloak).gnss = s.gnss := rfl
@[simp] theorem State.clearCloak_girth (s : State) : (s.clearCloak).girth = s.girth := rfl
@[simp] theorem State.clearCloak_net (s : State) : (s.clearCloak).net = s.net := rfl
@[simp] theorem State.clearCloak_yard (s : State) : (s.clearCloak).yard = s.yard := rfl
@[simp] theorem State.clearCloak_ptp (s : State) : (s.clearCloak).ptp = s.ptp := rfl
@[simp] theorem State.clearCloak_ntp (s : State) : (s.clearCloak).ntp = s.ntp := rfl
@[simp] theorem State.clearCloak_engs (s : State) : (s.clearCloak).engs = s.engs := rfl
@[simp] theorem State.clearCloak_dump (s : State) : (s.clearCloak).dump = s.dump := rfl
@[simp] theorem State.clearCloak_gov (s : State) : (s.clearCloak).gov = s.gov := rfl
@[simp] theorem State.clearCloak_access (s : State) : (s.clearCloak).access = s.access := rfl
@[simp] theorem State.clearCloak_dict (s : State) : (s.clearCloak).dict = s.dict := rfl
@[simp] theorem State.clearCloak_pair (s : State) : (s.clearCloak).pair = s.pair := rfl
@[simp] theorem State.clearCloak_domain (s : State) : (s.clearCloak).domain = s.domain := rfl
@[simp] theorem State.clearCloak_log (s : State) : (s.clearCloak).log = s.log := rfl
@[simp] theorem State.clearCloak_faults (s : State) : (s.clearCloak).faults = s.faults := rfl
@[simp] theorem State.clearCloak_start (s : State) : (s.clearCloak).start = s.start := rfl
@[simp] theorem State.clearCloak_cal (s : State) : (s.clearCloak).cal = s.cal := rfl
@[simp] theorem State.clearCloak_freeCount (s : State) : (s.clearCloak).freeCount = s.freeCount := rfl

/-! ## wipeVault -/

@[simp] theorem State.wipeVault_pending (s : State) : (s.wipeVault).pending = s.pending := rfl
@[simp] theorem State.wipeVault_clk (s : State) : (s.wipeVault).clk = s.clk := rfl
@[simp] theorem State.wipeVault_tb (s : State) : (s.wipeVault).tb = s.tb := rfl
@[simp] theorem State.wipeVault_refs (s : State) : (s.wipeVault).refs = s.refs := rfl
@[simp] theorem State.wipeVault_sel (s : State) : (s.wipeVault).sel = s.sel := rfl
@[simp] theorem State.wipeVault_tod (s : State) : (s.wipeVault).tod = s.tod := rfl
@[simp] theorem State.wipeVault_tiu (s : State) : (s.wipeVault).tiu = s.tiu := rfl
@[simp] theorem State.wipeVault_servo (s : State) : (s.wipeVault).servo = s.servo := rfl
@[simp] theorem State.wipeVault_accum (s : State) : (s.wipeVault).accum = s.accum := rfl
@[simp] theorem State.wipeVault_ho (s : State) : (s.wipeVault).ho = s.ho := rfl
@[simp] theorem State.wipeVault_oven (s : State) : (s.wipeVault).oven = s.oven := rfl
@[simp] theorem State.wipeVault_atomic (s : State) : (s.wipeVault).atomic = s.atomic := rfl
@[simp] theorem State.wipeVault_synth (s : State) : (s.wipeVault).synth = s.synth := rfl
@[simp] theorem State.wipeVault_gnss (s : State) : (s.wipeVault).gnss = s.gnss := rfl
@[simp] theorem State.wipeVault_girth (s : State) : (s.wipeVault).girth = s.girth := rfl
@[simp] theorem State.wipeVault_net (s : State) : (s.wipeVault).net = s.net := rfl
@[simp] theorem State.wipeVault_yard (s : State) : (s.wipeVault).yard = s.yard := rfl
@[simp] theorem State.wipeVault_ptp (s : State) : (s.wipeVault).ptp = s.ptp := rfl
@[simp] theorem State.wipeVault_ntp (s : State) : (s.wipeVault).ntp = s.ntp := rfl
@[simp] theorem State.wipeVault_engs (s : State) : (s.wipeVault).engs = s.engs := rfl
@[simp] theorem State.wipeVault_dump (s : State) : (s.wipeVault).dump = s.dump := rfl
@[simp] theorem State.wipeVault_gov (s : State) : (s.wipeVault).gov = s.gov := rfl
@[simp] theorem State.wipeVault_access (s : State) : (s.wipeVault).access = s.access := rfl
@[simp] theorem State.wipeVault_dict (s : State) : (s.wipeVault).dict = s.dict := rfl
@[simp] theorem State.wipeVault_pair (s : State) : (s.wipeVault).pair = s.pair := rfl
@[simp] theorem State.wipeVault_domain (s : State) : (s.wipeVault).domain = s.domain := rfl
@[simp] theorem State.wipeVault_log (s : State) : (s.wipeVault).log = s.log := rfl
@[simp] theorem State.wipeVault_faults (s : State) : (s.wipeVault).faults = s.faults := rfl
@[simp] theorem State.wipeVault_start (s : State) : (s.wipeVault).start = s.start := rfl
@[simp] theorem State.wipeVault_cal (s : State) : (s.wipeVault).cal = s.cal := rfl
@[simp] theorem State.wipeVault_freeCount (s : State) : (s.wipeVault).freeCount = s.freeCount := rfl

@[simp] theorem State.wipeVault_slots (s : State) : s.wipeVault.vault.slots = [] := rfl
@[simp] theorem State.wipeVault_cloak (s : State) : s.wipeVault.vault.cloak = none := rfl

/-! ## refresh -/

@[simp] theorem State.refresh_pending (s : State) : (s.refresh).pending = s.pending := rfl
@[simp] theorem State.refresh_clk (s : State) : (s.refresh).clk = s.clk := rfl
@[simp] theorem State.refresh_tb (s : State) : (s.refresh).tb = s.tb := rfl
@[simp] theorem State.refresh_refs (s : State) : (s.refresh).refs = s.refs := rfl
@[simp] theorem State.refresh_sel (s : State) : (s.refresh).sel = s.sel := rfl
@[simp] theorem State.refresh_tod (s : State) : (s.refresh).tod = s.tod := rfl
@[simp] theorem State.refresh_tiu (s : State) : (s.refresh).tiu = s.tiu := rfl
@[simp] theorem State.refresh_servo (s : State) : (s.refresh).servo = s.servo := rfl
@[simp] theorem State.refresh_accum (s : State) : (s.refresh).accum = s.accum := rfl
@[simp] theorem State.refresh_ho (s : State) : (s.refresh).ho = s.ho := rfl
@[simp] theorem State.refresh_oven (s : State) : (s.refresh).oven = s.oven := rfl
@[simp] theorem State.refresh_atomic (s : State) : (s.refresh).atomic = s.atomic := rfl
@[simp] theorem State.refresh_synth (s : State) : (s.refresh).synth = s.synth := rfl
@[simp] theorem State.refresh_gnss (s : State) : (s.refresh).gnss = s.gnss := rfl
@[simp] theorem State.refresh_net (s : State) : (s.refresh).net = s.net := rfl
@[simp] theorem State.refresh_yard (s : State) : (s.refresh).yard = s.yard := rfl
@[simp] theorem State.refresh_ptp (s : State) : (s.refresh).ptp = s.ptp := rfl
@[simp] theorem State.refresh_ntp (s : State) : (s.refresh).ntp = s.ntp := rfl
@[simp] theorem State.refresh_engs (s : State) : (s.refresh).engs = s.engs := rfl
@[simp] theorem State.refresh_dump (s : State) : (s.refresh).dump = s.dump := rfl
@[simp] theorem State.refresh_gov (s : State) : (s.refresh).gov = s.gov := rfl
@[simp] theorem State.refresh_vault (s : State) : (s.refresh).vault = s.vault := rfl
@[simp] theorem State.refresh_access (s : State) : (s.refresh).access = s.access := rfl
@[simp] theorem State.refresh_dict (s : State) : (s.refresh).dict = s.dict := rfl
@[simp] theorem State.refresh_pair (s : State) : (s.refresh).pair = s.pair := rfl
@[simp] theorem State.refresh_domain (s : State) : (s.refresh).domain = s.domain := rfl
@[simp] theorem State.refresh_log (s : State) : (s.refresh).log = s.log := rfl
@[simp] theorem State.refresh_faults (s : State) : (s.refresh).faults = s.faults := rfl
@[simp] theorem State.refresh_start (s : State) : (s.refresh).start = s.start := rfl
@[simp] theorem State.refresh_cal (s : State) : (s.refresh).cal = s.cal := rfl
@[simp] theorem State.refresh_freeCount (s : State) : (s.refresh).freeCount = s.freeCount := rfl

/-! ## onPath -/

@[simp] theorem State.onPath_pending (s : State) (p : Path) (f : PathState → PathState) : (s.onPath p f).pending = s.pending := rfl
@[simp] theorem State.onPath_clk (s : State) (p : Path) (f : PathState → PathState) : (s.onPath p f).clk = s.clk := rfl
@[simp] theorem State.onPath_tb (s : State) (p : Path) (f : PathState → PathState) : (s.onPath p f).tb = s.tb := rfl
@[simp] theorem State.onPath_refs (s : State) (p : Path) (f : PathState → PathState) : (s.onPath p f).refs = s.refs := rfl
@[simp] theorem State.onPath_sel (s : State) (p : Path) (f : PathState → PathState) : (s.onPath p f).sel = s.sel := rfl
@[simp] theorem State.onPath_tod (s : State) (p : Path) (f : PathState → PathState) : (s.onPath p f).tod = s.tod := rfl
@[simp] theorem State.onPath_tiu (s : State) (p : Path) (f : PathState → PathState) : (s.onPath p f).tiu = s.tiu := rfl
@[simp] theorem State.onPath_servo (s : State) (p : Path) (f : PathState → PathState) : (s.onPath p f).servo = s.servo := rfl
@[simp] theorem State.onPath_accum (s : State) (p : Path) (f : PathState → PathState) : (s.onPath p f).accum = s.accum := rfl
@[simp] theorem State.onPath_ho (s : State) (p : Path) (f : PathState → PathState) : (s.onPath p f).ho = s.ho := rfl
@[simp] theorem State.onPath_oven (s : State) (p : Path) (f : PathState → PathState) : (s.onPath p f).oven = s.oven := rfl
@[simp] theorem State.onPath_atomic (s : State) (p : Path) (f : PathState → PathState) : (s.onPath p f).atomic = s.atomic := rfl
@[simp] theorem State.onPath_synth (s : State) (p : Path) (f : PathState → PathState) : (s.onPath p f).synth = s.synth := rfl
@[simp] theorem State.onPath_gnss (s : State) (p : Path) (f : PathState → PathState) : (s.onPath p f).gnss = s.gnss := rfl
@[simp] theorem State.onPath_girth (s : State) (p : Path) (f : PathState → PathState) : (s.onPath p f).girth = s.girth := rfl
@[simp] theorem State.onPath_net (s : State) (p : Path) (f : PathState → PathState) : (s.onPath p f).net = s.net := rfl
@[simp] theorem State.onPath_yard (s : State) (p : Path) (f : PathState → PathState) : (s.onPath p f).yard = s.yard := rfl
@[simp] theorem State.onPath_ptp (s : State) (p : Path) (f : PathState → PathState) : (s.onPath p f).ptp = s.ptp := rfl
@[simp] theorem State.onPath_ntp (s : State) (p : Path) (f : PathState → PathState) : (s.onPath p f).ntp = s.ntp := rfl
@[simp] theorem State.onPath_engs (s : State) (p : Path) (f : PathState → PathState) : (s.onPath p f).engs = s.engs := rfl
@[simp] theorem State.onPath_dump (s : State) (p : Path) (f : PathState → PathState) : (s.onPath p f).dump = s.dump := rfl
@[simp] theorem State.onPath_gov (s : State) (p : Path) (f : PathState → PathState) : (s.onPath p f).gov = s.gov := rfl
@[simp] theorem State.onPath_vault (s : State) (p : Path) (f : PathState → PathState) : (s.onPath p f).vault = s.vault := rfl
@[simp] theorem State.onPath_dict (s : State) (p : Path) (f : PathState → PathState) : (s.onPath p f).dict = s.dict := rfl
@[simp] theorem State.onPath_pair (s : State) (p : Path) (f : PathState → PathState) : (s.onPath p f).pair = s.pair := rfl
@[simp] theorem State.onPath_domain (s : State) (p : Path) (f : PathState → PathState) : (s.onPath p f).domain = s.domain := rfl
@[simp] theorem State.onPath_log (s : State) (p : Path) (f : PathState → PathState) : (s.onPath p f).log = s.log := rfl
@[simp] theorem State.onPath_faults (s : State) (p : Path) (f : PathState → PathState) : (s.onPath p f).faults = s.faults := rfl
@[simp] theorem State.onPath_start (s : State) (p : Path) (f : PathState → PathState) : (s.onPath p f).start = s.start := rfl
@[simp] theorem State.onPath_cal (s : State) (p : Path) (f : PathState → PathState) : (s.onPath p f).cal = s.cal := rfl
@[simp] theorem State.onPath_freeCount (s : State) (p : Path) (f : PathState → PathState) : (s.onPath p f).freeCount = s.freeCount := rfl

/-! ## onSession -/

@[simp] theorem State.onSession_pending (s : State) (n : Nat) (f : Session → Session) : (s.onSession n f).pending = s.pending := rfl
@[simp] theorem State.onSession_clk (s : State) (n : Nat) (f : Session → Session) : (s.onSession n f).clk = s.clk := rfl
@[simp] theorem State.onSession_tb (s : State) (n : Nat) (f : Session → Session) : (s.onSession n f).tb = s.tb := rfl
@[simp] theorem State.onSession_refs (s : State) (n : Nat) (f : Session → Session) : (s.onSession n f).refs = s.refs := rfl
@[simp] theorem State.onSession_sel (s : State) (n : Nat) (f : Session → Session) : (s.onSession n f).sel = s.sel := rfl
@[simp] theorem State.onSession_tod (s : State) (n : Nat) (f : Session → Session) : (s.onSession n f).tod = s.tod := rfl
@[simp] theorem State.onSession_tiu (s : State) (n : Nat) (f : Session → Session) : (s.onSession n f).tiu = s.tiu := rfl
@[simp] theorem State.onSession_servo (s : State) (n : Nat) (f : Session → Session) : (s.onSession n f).servo = s.servo := rfl
@[simp] theorem State.onSession_accum (s : State) (n : Nat) (f : Session → Session) : (s.onSession n f).accum = s.accum := rfl
@[simp] theorem State.onSession_ho (s : State) (n : Nat) (f : Session → Session) : (s.onSession n f).ho = s.ho := rfl
@[simp] theorem State.onSession_oven (s : State) (n : Nat) (f : Session → Session) : (s.onSession n f).oven = s.oven := rfl
@[simp] theorem State.onSession_atomic (s : State) (n : Nat) (f : Session → Session) : (s.onSession n f).atomic = s.atomic := rfl
@[simp] theorem State.onSession_synth (s : State) (n : Nat) (f : Session → Session) : (s.onSession n f).synth = s.synth := rfl
@[simp] theorem State.onSession_gnss (s : State) (n : Nat) (f : Session → Session) : (s.onSession n f).gnss = s.gnss := rfl
@[simp] theorem State.onSession_girth (s : State) (n : Nat) (f : Session → Session) : (s.onSession n f).girth = s.girth := rfl
@[simp] theorem State.onSession_net (s : State) (n : Nat) (f : Session → Session) : (s.onSession n f).net = s.net := rfl
@[simp] theorem State.onSession_yard (s : State) (n : Nat) (f : Session → Session) : (s.onSession n f).yard = s.yard := rfl
@[simp] theorem State.onSession_ptp (s : State) (n : Nat) (f : Session → Session) : (s.onSession n f).ptp = s.ptp := rfl
@[simp] theorem State.onSession_ntp (s : State) (n : Nat) (f : Session → Session) : (s.onSession n f).ntp = s.ntp := rfl
@[simp] theorem State.onSession_engs (s : State) (n : Nat) (f : Session → Session) : (s.onSession n f).engs = s.engs := rfl
@[simp] theorem State.onSession_dump (s : State) (n : Nat) (f : Session → Session) : (s.onSession n f).dump = s.dump := rfl
@[simp] theorem State.onSession_gov (s : State) (n : Nat) (f : Session → Session) : (s.onSession n f).gov = s.gov := rfl
@[simp] theorem State.onSession_vault (s : State) (n : Nat) (f : Session → Session) : (s.onSession n f).vault = s.vault := rfl
@[simp] theorem State.onSession_dict (s : State) (n : Nat) (f : Session → Session) : (s.onSession n f).dict = s.dict := rfl
@[simp] theorem State.onSession_pair (s : State) (n : Nat) (f : Session → Session) : (s.onSession n f).pair = s.pair := rfl
@[simp] theorem State.onSession_domain (s : State) (n : Nat) (f : Session → Session) : (s.onSession n f).domain = s.domain := rfl
@[simp] theorem State.onSession_log (s : State) (n : Nat) (f : Session → Session) : (s.onSession n f).log = s.log := rfl
@[simp] theorem State.onSession_faults (s : State) (n : Nat) (f : Session → Session) : (s.onSession n f).faults = s.faults := rfl
@[simp] theorem State.onSession_start (s : State) (n : Nat) (f : Session → Session) : (s.onSession n f).start = s.start := rfl
@[simp] theorem State.onSession_cal (s : State) (n : Nat) (f : Session → Session) : (s.onSession n f).cal = s.cal := rfl
@[simp] theorem State.onSession_freeCount (s : State) (n : Nat) (f : Session → Session) : (s.onSession n f).freeCount = s.freeCount := rfl

/-! ## setQueue -/

@[simp] theorem State.setQueue_pending (s : State) (q : Nat) (r : List (List Byte × Bool)) (due : Bool) : (s.setQueue q r due).pending = s.pending := rfl
@[simp] theorem State.setQueue_clk (s : State) (q : Nat) (r : List (List Byte × Bool)) (due : Bool) : (s.setQueue q r due).clk = s.clk := rfl
@[simp] theorem State.setQueue_tb (s : State) (q : Nat) (r : List (List Byte × Bool)) (due : Bool) : (s.setQueue q r due).tb = s.tb := rfl
@[simp] theorem State.setQueue_refs (s : State) (q : Nat) (r : List (List Byte × Bool)) (due : Bool) : (s.setQueue q r due).refs = s.refs := rfl
@[simp] theorem State.setQueue_sel (s : State) (q : Nat) (r : List (List Byte × Bool)) (due : Bool) : (s.setQueue q r due).sel = s.sel := rfl
@[simp] theorem State.setQueue_tod (s : State) (q : Nat) (r : List (List Byte × Bool)) (due : Bool) : (s.setQueue q r due).tod = s.tod := rfl
@[simp] theorem State.setQueue_tiu (s : State) (q : Nat) (r : List (List Byte × Bool)) (due : Bool) : (s.setQueue q r due).tiu = s.tiu := rfl
@[simp] theorem State.setQueue_servo (s : State) (q : Nat) (r : List (List Byte × Bool)) (due : Bool) : (s.setQueue q r due).servo = s.servo := rfl
@[simp] theorem State.setQueue_accum (s : State) (q : Nat) (r : List (List Byte × Bool)) (due : Bool) : (s.setQueue q r due).accum = s.accum := rfl
@[simp] theorem State.setQueue_ho (s : State) (q : Nat) (r : List (List Byte × Bool)) (due : Bool) : (s.setQueue q r due).ho = s.ho := rfl
@[simp] theorem State.setQueue_oven (s : State) (q : Nat) (r : List (List Byte × Bool)) (due : Bool) : (s.setQueue q r due).oven = s.oven := rfl
@[simp] theorem State.setQueue_atomic (s : State) (q : Nat) (r : List (List Byte × Bool)) (due : Bool) : (s.setQueue q r due).atomic = s.atomic := rfl
@[simp] theorem State.setQueue_synth (s : State) (q : Nat) (r : List (List Byte × Bool)) (due : Bool) : (s.setQueue q r due).synth = s.synth := rfl
@[simp] theorem State.setQueue_gnss (s : State) (q : Nat) (r : List (List Byte × Bool)) (due : Bool) : (s.setQueue q r due).gnss = s.gnss := rfl
@[simp] theorem State.setQueue_girth (s : State) (q : Nat) (r : List (List Byte × Bool)) (due : Bool) : (s.setQueue q r due).girth = s.girth := rfl
@[simp] theorem State.setQueue_net (s : State) (q : Nat) (r : List (List Byte × Bool)) (due : Bool) : (s.setQueue q r due).net = s.net := rfl
@[simp] theorem State.setQueue_yard (s : State) (q : Nat) (r : List (List Byte × Bool)) (due : Bool) : (s.setQueue q r due).yard = s.yard := rfl
@[simp] theorem State.setQueue_ptp (s : State) (q : Nat) (r : List (List Byte × Bool)) (due : Bool) : (s.setQueue q r due).ptp = s.ptp := rfl
@[simp] theorem State.setQueue_ntp (s : State) (q : Nat) (r : List (List Byte × Bool)) (due : Bool) : (s.setQueue q r due).ntp = s.ntp := rfl
@[simp] theorem State.setQueue_dump (s : State) (q : Nat) (r : List (List Byte × Bool)) (due : Bool) : (s.setQueue q r due).dump = s.dump := rfl
@[simp] theorem State.setQueue_gov (s : State) (q : Nat) (r : List (List Byte × Bool)) (due : Bool) : (s.setQueue q r due).gov = s.gov := rfl
@[simp] theorem State.setQueue_vault (s : State) (q : Nat) (r : List (List Byte × Bool)) (due : Bool) : (s.setQueue q r due).vault = s.vault := rfl
@[simp] theorem State.setQueue_access (s : State) (q : Nat) (r : List (List Byte × Bool)) (due : Bool) : (s.setQueue q r due).access = s.access := rfl
@[simp] theorem State.setQueue_dict (s : State) (q : Nat) (r : List (List Byte × Bool)) (due : Bool) : (s.setQueue q r due).dict = s.dict := rfl
@[simp] theorem State.setQueue_pair (s : State) (q : Nat) (r : List (List Byte × Bool)) (due : Bool) : (s.setQueue q r due).pair = s.pair := rfl
@[simp] theorem State.setQueue_domain (s : State) (q : Nat) (r : List (List Byte × Bool)) (due : Bool) : (s.setQueue q r due).domain = s.domain := rfl
@[simp] theorem State.setQueue_log (s : State) (q : Nat) (r : List (List Byte × Bool)) (due : Bool) : (s.setQueue q r due).log = s.log := rfl
@[simp] theorem State.setQueue_faults (s : State) (q : Nat) (r : List (List Byte × Bool)) (due : Bool) : (s.setQueue q r due).faults = s.faults := rfl
@[simp] theorem State.setQueue_start (s : State) (q : Nat) (r : List (List Byte × Bool)) (due : Bool) : (s.setQueue q r due).start = s.start := rfl
@[simp] theorem State.setQueue_cal (s : State) (q : Nat) (r : List (List Byte × Bool)) (due : Bool) : (s.setQueue q r due).cal = s.cal := rfl
@[simp] theorem State.setQueue_freeCount (s : State) (q : Nat) (r : List (List Byte × Bool)) (due : Bool) : (s.setQueue q r due).freeCount = s.freeCount := rfl

/-! ## lose -/

@[simp] theorem State.lose_pending (s : State) (l : List LogRec) (n : Nat) : (s.lose l n).pending = s.pending := rfl
@[simp] theorem State.lose_clk (s : State) (l : List LogRec) (n : Nat) : (s.lose l n).clk = s.clk := rfl
@[simp] theorem State.lose_tb (s : State) (l : List LogRec) (n : Nat) : (s.lose l n).tb = s.tb := rfl
@[simp] theorem State.lose_refs (s : State) (l : List LogRec) (n : Nat) : (s.lose l n).refs = s.refs := rfl
@[simp] theorem State.lose_sel (s : State) (l : List LogRec) (n : Nat) : (s.lose l n).sel = s.sel := rfl
@[simp] theorem State.lose_tod (s : State) (l : List LogRec) (n : Nat) : (s.lose l n).tod = s.tod := rfl
@[simp] theorem State.lose_tiu (s : State) (l : List LogRec) (n : Nat) : (s.lose l n).tiu = s.tiu := rfl
@[simp] theorem State.lose_servo (s : State) (l : List LogRec) (n : Nat) : (s.lose l n).servo = s.servo := rfl
@[simp] theorem State.lose_accum (s : State) (l : List LogRec) (n : Nat) : (s.lose l n).accum = s.accum := rfl
@[simp] theorem State.lose_ho (s : State) (l : List LogRec) (n : Nat) : (s.lose l n).ho = s.ho := rfl
@[simp] theorem State.lose_oven (s : State) (l : List LogRec) (n : Nat) : (s.lose l n).oven = s.oven := rfl
@[simp] theorem State.lose_atomic (s : State) (l : List LogRec) (n : Nat) : (s.lose l n).atomic = s.atomic := rfl
@[simp] theorem State.lose_synth (s : State) (l : List LogRec) (n : Nat) : (s.lose l n).synth = s.synth := rfl
@[simp] theorem State.lose_gnss (s : State) (l : List LogRec) (n : Nat) : (s.lose l n).gnss = s.gnss := rfl
@[simp] theorem State.lose_girth (s : State) (l : List LogRec) (n : Nat) : (s.lose l n).girth = s.girth := rfl
@[simp] theorem State.lose_net (s : State) (l : List LogRec) (n : Nat) : (s.lose l n).net = s.net := rfl
@[simp] theorem State.lose_yard (s : State) (l : List LogRec) (n : Nat) : (s.lose l n).yard = s.yard := rfl
@[simp] theorem State.lose_ptp (s : State) (l : List LogRec) (n : Nat) : (s.lose l n).ptp = s.ptp := rfl
@[simp] theorem State.lose_ntp (s : State) (l : List LogRec) (n : Nat) : (s.lose l n).ntp = s.ntp := rfl
@[simp] theorem State.lose_engs (s : State) (l : List LogRec) (n : Nat) : (s.lose l n).engs = s.engs := rfl
@[simp] theorem State.lose_dump (s : State) (l : List LogRec) (n : Nat) : (s.lose l n).dump = s.dump := rfl
@[simp] theorem State.lose_gov (s : State) (l : List LogRec) (n : Nat) : (s.lose l n).gov = s.gov := rfl
@[simp] theorem State.lose_vault (s : State) (l : List LogRec) (n : Nat) : (s.lose l n).vault = s.vault := rfl
@[simp] theorem State.lose_access (s : State) (l : List LogRec) (n : Nat) : (s.lose l n).access = s.access := rfl
@[simp] theorem State.lose_dict (s : State) (l : List LogRec) (n : Nat) : (s.lose l n).dict = s.dict := rfl
@[simp] theorem State.lose_pair (s : State) (l : List LogRec) (n : Nat) : (s.lose l n).pair = s.pair := rfl
@[simp] theorem State.lose_domain (s : State) (l : List LogRec) (n : Nat) : (s.lose l n).domain = s.domain := rfl
@[simp] theorem State.lose_faults (s : State) (l : List LogRec) (n : Nat) : (s.lose l n).faults = s.faults := rfl
@[simp] theorem State.lose_start (s : State) (l : List LogRec) (n : Nat) : (s.lose l n).start = s.start := rfl
@[simp] theorem State.lose_cal (s : State) (l : List LogRec) (n : Nat) : (s.lose l n).cal = s.cal := rfl
@[simp] theorem State.lose_freeCount (s : State) (l : List LogRec) (n : Nat) : (s.lose l n).freeCount = s.freeCount := rfl

/-! ## attn -/

@[simp] theorem State.attn_pending (s : State) (b : Nat) : (s.attn b).pending = s.pending := by unfold State.attn State.irqEdge; split <;> rfl
@[simp] theorem State.attn_clk (s : State) (b : Nat) : (s.attn b).clk = s.clk := by unfold State.attn State.irqEdge; split <;> rfl
@[simp] theorem State.attn_tb (s : State) (b : Nat) : (s.attn b).tb = s.tb := by unfold State.attn State.irqEdge; split <;> rfl
@[simp] theorem State.attn_refs (s : State) (b : Nat) : (s.attn b).refs = s.refs := by unfold State.attn State.irqEdge; split <;> rfl
@[simp] theorem State.attn_sel (s : State) (b : Nat) : (s.attn b).sel = s.sel := by unfold State.attn State.irqEdge; split <;> rfl
@[simp] theorem State.attn_tod (s : State) (b : Nat) : (s.attn b).tod = s.tod := by unfold State.attn State.irqEdge; split <;> rfl
@[simp] theorem State.attn_tiu (s : State) (b : Nat) : (s.attn b).tiu = s.tiu := by unfold State.attn State.irqEdge; split <;> rfl
@[simp] theorem State.attn_servo (s : State) (b : Nat) : (s.attn b).servo = s.servo := by unfold State.attn State.irqEdge; split <;> rfl
@[simp] theorem State.attn_accum (s : State) (b : Nat) : (s.attn b).accum = s.accum := by unfold State.attn State.irqEdge; split <;> rfl
@[simp] theorem State.attn_ho (s : State) (b : Nat) : (s.attn b).ho = s.ho := by unfold State.attn State.irqEdge; split <;> rfl
@[simp] theorem State.attn_oven (s : State) (b : Nat) : (s.attn b).oven = s.oven := by unfold State.attn State.irqEdge; split <;> rfl
@[simp] theorem State.attn_atomic (s : State) (b : Nat) : (s.attn b).atomic = s.atomic := by unfold State.attn State.irqEdge; split <;> rfl
@[simp] theorem State.attn_synth (s : State) (b : Nat) : (s.attn b).synth = s.synth := by unfold State.attn State.irqEdge; split <;> rfl
@[simp] theorem State.attn_gnss (s : State) (b : Nat) : (s.attn b).gnss = s.gnss := by unfold State.attn State.irqEdge; split <;> rfl
@[simp] theorem State.attn_girth (s : State) (b : Nat) : (s.attn b).girth = s.girth := by unfold State.attn State.irqEdge; split <;> rfl
@[simp] theorem State.attn_net (s : State) (b : Nat) : (s.attn b).net = s.net := by unfold State.attn State.irqEdge; split <;> rfl
@[simp] theorem State.attn_yard (s : State) (b : Nat) : (s.attn b).yard = s.yard := by unfold State.attn State.irqEdge; split <;> rfl
@[simp] theorem State.attn_ptp (s : State) (b : Nat) : (s.attn b).ptp = s.ptp := by unfold State.attn State.irqEdge; split <;> rfl
@[simp] theorem State.attn_ntp (s : State) (b : Nat) : (s.attn b).ntp = s.ntp := by unfold State.attn State.irqEdge; split <;> rfl
@[simp] theorem State.attn_engs (s : State) (b : Nat) : (s.attn b).engs = s.engs := by unfold State.attn State.irqEdge; split <;> rfl
@[simp] theorem State.attn_dump (s : State) (b : Nat) : (s.attn b).dump = s.dump := by unfold State.attn State.irqEdge; split <;> rfl
@[simp] theorem State.attn_gov (s : State) (b : Nat) : (s.attn b).gov = s.gov := by unfold State.attn State.irqEdge; split <;> rfl
@[simp] theorem State.attn_vault (s : State) (b : Nat) : (s.attn b).vault = s.vault := by unfold State.attn State.irqEdge; split <;> rfl
@[simp] theorem State.attn_access (s : State) (b : Nat) : (s.attn b).access = s.access := by unfold State.attn State.irqEdge; split <;> rfl
@[simp] theorem State.attn_pair (s : State) (b : Nat) : (s.attn b).pair = s.pair := by unfold State.attn State.irqEdge; split <;> rfl
@[simp] theorem State.attn_domain (s : State) (b : Nat) : (s.attn b).domain = s.domain := by unfold State.attn State.irqEdge; split <;> rfl
@[simp] theorem State.attn_log (s : State) (b : Nat) : (s.attn b).log = s.log := by unfold State.attn State.irqEdge; split <;> rfl
@[simp] theorem State.attn_faults (s : State) (b : Nat) : (s.attn b).faults = s.faults := by unfold State.attn State.irqEdge; split <;> rfl
@[simp] theorem State.attn_start (s : State) (b : Nat) : (s.attn b).start = s.start := by unfold State.attn State.irqEdge; split <;> rfl
@[simp] theorem State.attn_cal (s : State) (b : Nat) : (s.attn b).cal = s.cal := by unfold State.attn State.irqEdge; split <;> rfl
@[simp] theorem State.attn_freeCount (s : State) (b : Nat) : (s.attn b).freeCount = s.freeCount := by unfold State.attn State.irqEdge; split <;> rfl

/-! ## revalid -/

@[simp] theorem State.revalid_pending (s : State) : (s.revalid).pending = s.pending := by unfold State.revalid; split <;> simp
@[simp] theorem State.revalid_clk (s : State) : (s.revalid).clk = s.clk := by unfold State.revalid; split <;> simp
@[simp] theorem State.revalid_tb (s : State) : (s.revalid).tb = s.tb := by unfold State.revalid; split <;> simp
@[simp] theorem State.revalid_refs (s : State) : (s.revalid).refs = s.refs := by unfold State.revalid; split <;> simp
@[simp] theorem State.revalid_sel (s : State) : (s.revalid).sel = s.sel := by unfold State.revalid; split <;> simp
@[simp] theorem State.revalid_tod (s : State) : (s.revalid).tod = s.tod := by unfold State.revalid; split <;> simp
@[simp] theorem State.revalid_tiu (s : State) : (s.revalid).tiu = s.tiu := by unfold State.revalid; split <;> simp
@[simp] theorem State.revalid_servo (s : State) : (s.revalid).servo = s.servo := by unfold State.revalid; split <;> simp
@[simp] theorem State.revalid_accum (s : State) : (s.revalid).accum = s.accum := by unfold State.revalid; split <;> simp
@[simp] theorem State.revalid_ho (s : State) : (s.revalid).ho = s.ho := by unfold State.revalid; split <;> simp
@[simp] theorem State.revalid_oven (s : State) : (s.revalid).oven = s.oven := by unfold State.revalid; split <;> simp
@[simp] theorem State.revalid_atomic (s : State) : (s.revalid).atomic = s.atomic := by unfold State.revalid; split <;> simp
@[simp] theorem State.revalid_synth (s : State) : (s.revalid).synth = s.synth := by unfold State.revalid; split <;> simp
@[simp] theorem State.revalid_gnss (s : State) : (s.revalid).gnss = s.gnss := by unfold State.revalid; split <;> simp
@[simp] theorem State.revalid_net (s : State) : (s.revalid).net = s.net := by unfold State.revalid; split <;> simp
@[simp] theorem State.revalid_yard (s : State) : (s.revalid).yard = s.yard := by unfold State.revalid; split <;> simp
@[simp] theorem State.revalid_ptp (s : State) : (s.revalid).ptp = s.ptp := by unfold State.revalid; split <;> simp
@[simp] theorem State.revalid_ntp (s : State) : (s.revalid).ntp = s.ntp := by unfold State.revalid; split <;> simp
@[simp] theorem State.revalid_engs (s : State) : (s.revalid).engs = s.engs := by unfold State.revalid; split <;> simp
@[simp] theorem State.revalid_dump (s : State) : (s.revalid).dump = s.dump := by unfold State.revalid; split <;> simp
@[simp] theorem State.revalid_gov (s : State) : (s.revalid).gov = s.gov := by unfold State.revalid; split <;> simp
@[simp] theorem State.revalid_vault (s : State) : (s.revalid).vault = s.vault := by unfold State.revalid; split <;> simp
@[simp] theorem State.revalid_access (s : State) : (s.revalid).access = s.access := by unfold State.revalid; split <;> simp
@[simp] theorem State.revalid_pair (s : State) : (s.revalid).pair = s.pair := by unfold State.revalid; split <;> simp
@[simp] theorem State.revalid_domain (s : State) : (s.revalid).domain = s.domain := by unfold State.revalid; split <;> simp
@[simp] theorem State.revalid_log (s : State) : (s.revalid).log = s.log := by unfold State.revalid; split <;> simp
@[simp] theorem State.revalid_faults (s : State) : (s.revalid).faults = s.faults := by unfold State.revalid; split <;> simp
@[simp] theorem State.revalid_start (s : State) : (s.revalid).start = s.start := by unfold State.revalid; split <;> simp
@[simp] theorem State.revalid_cal (s : State) : (s.revalid).cal = s.cal := by unfold State.revalid; split <;> simp
@[simp] theorem State.revalid_freeCount (s : State) : (s.revalid).freeCount = s.freeCount := by unfold State.revalid; split <;> simp

/-! ## noteSecond -/

@[simp] theorem State.noteSecond_pending (s : State) : (s.noteSecond).pending = s.pending := rfl
@[simp] theorem State.noteSecond_clk (s : State) : (s.noteSecond).clk = s.clk := rfl
@[simp] theorem State.noteSecond_tb (s : State) : (s.noteSecond).tb = s.tb := rfl
@[simp] theorem State.noteSecond_refs (s : State) : (s.noteSecond).refs = s.refs := rfl
@[simp] theorem State.noteSecond_sel (s : State) : (s.noteSecond).sel = s.sel := rfl
@[simp] theorem State.noteSecond_tod (s : State) : (s.noteSecond).tod = s.tod := rfl
@[simp] theorem State.noteSecond_tiu (s : State) : (s.noteSecond).tiu = s.tiu := rfl
@[simp] theorem State.noteSecond_servo (s : State) : (s.noteSecond).servo = s.servo := rfl
@[simp] theorem State.noteSecond_accum (s : State) : (s.noteSecond).accum = s.accum := rfl
@[simp] theorem State.noteSecond_oven (s : State) : (s.noteSecond).oven = s.oven := rfl
@[simp] theorem State.noteSecond_atomic (s : State) : (s.noteSecond).atomic = s.atomic := rfl
@[simp] theorem State.noteSecond_synth (s : State) : (s.noteSecond).synth = s.synth := rfl
@[simp] theorem State.noteSecond_gnss (s : State) : (s.noteSecond).gnss = s.gnss := rfl
@[simp] theorem State.noteSecond_girth (s : State) : (s.noteSecond).girth = s.girth := rfl
@[simp] theorem State.noteSecond_net (s : State) : (s.noteSecond).net = s.net := rfl
@[simp] theorem State.noteSecond_yard (s : State) : (s.noteSecond).yard = s.yard := rfl
@[simp] theorem State.noteSecond_ptp (s : State) : (s.noteSecond).ptp = s.ptp := rfl
@[simp] theorem State.noteSecond_ntp (s : State) : (s.noteSecond).ntp = s.ntp := rfl
@[simp] theorem State.noteSecond_engs (s : State) : (s.noteSecond).engs = s.engs := rfl
@[simp] theorem State.noteSecond_dump (s : State) : (s.noteSecond).dump = s.dump := rfl
@[simp] theorem State.noteSecond_gov (s : State) : (s.noteSecond).gov = s.gov := rfl
@[simp] theorem State.noteSecond_vault (s : State) : (s.noteSecond).vault = s.vault := rfl
@[simp] theorem State.noteSecond_access (s : State) : (s.noteSecond).access = s.access := rfl
@[simp] theorem State.noteSecond_dict (s : State) : (s.noteSecond).dict = s.dict := rfl
@[simp] theorem State.noteSecond_pair (s : State) : (s.noteSecond).pair = s.pair := rfl
@[simp] theorem State.noteSecond_domain (s : State) : (s.noteSecond).domain = s.domain := rfl
@[simp] theorem State.noteSecond_log (s : State) : (s.noteSecond).log = s.log := rfl
@[simp] theorem State.noteSecond_faults (s : State) : (s.noteSecond).faults = s.faults := rfl
@[simp] theorem State.noteSecond_start (s : State) : (s.noteSecond).start = s.start := rfl
@[simp] theorem State.noteSecond_cal (s : State) : (s.noteSecond).cal = s.cal := rfl
@[simp] theorem State.noteSecond_freeCount (s : State) : (s.noteSecond).freeCount = s.freeCount := rfl

/-! ## atTime -/

@[simp] theorem State.atTime_pending (s : State) (now : Nat) : (s.atTime now).pending = s.pending := by unfold State.atTime; dsimp only; split <;> simp
@[simp] theorem State.atTime_clk (s : State) (now : Nat) : (s.atTime now).clk = s.clk := by unfold State.atTime; dsimp only; split <;> simp
@[simp] theorem State.atTime_refs (s : State) (now : Nat) : (s.atTime now).refs = s.refs := by unfold State.atTime; dsimp only; split <;> simp
@[simp] theorem State.atTime_sel (s : State) (now : Nat) : (s.atTime now).sel = s.sel := by unfold State.atTime; dsimp only; split <;> simp
@[simp] theorem State.atTime_tod (s : State) (now : Nat) : (s.atTime now).tod = s.tod := by unfold State.atTime; dsimp only; split <;> simp
@[simp] theorem State.atTime_tiu (s : State) (now : Nat) : (s.atTime now).tiu = s.tiu := by unfold State.atTime; dsimp only; split <;> simp
@[simp] theorem State.atTime_servo (s : State) (now : Nat) : (s.atTime now).servo = s.servo := by unfold State.atTime; dsimp only; split <;> simp
@[simp] theorem State.atTime_accum (s : State) (now : Nat) : (s.atTime now).accum = s.accum := by unfold State.atTime; dsimp only; split <;> simp
@[simp] theorem State.atTime_oven (s : State) (now : Nat) : (s.atTime now).oven = s.oven := by unfold State.atTime; dsimp only; split <;> simp
@[simp] theorem State.atTime_atomic (s : State) (now : Nat) : (s.atTime now).atomic = s.atomic := by unfold State.atTime; dsimp only; split <;> simp
@[simp] theorem State.atTime_synth (s : State) (now : Nat) : (s.atTime now).synth = s.synth := by unfold State.atTime; dsimp only; split <;> simp
@[simp] theorem State.atTime_gnss (s : State) (now : Nat) : (s.atTime now).gnss = s.gnss := by unfold State.atTime; dsimp only; split <;> simp
@[simp] theorem State.atTime_net (s : State) (now : Nat) : (s.atTime now).net = s.net := by unfold State.atTime; dsimp only; split <;> simp
@[simp] theorem State.atTime_yard (s : State) (now : Nat) : (s.atTime now).yard = s.yard := by unfold State.atTime; dsimp only; split <;> simp
@[simp] theorem State.atTime_ptp (s : State) (now : Nat) : (s.atTime now).ptp = s.ptp := by unfold State.atTime; dsimp only; split <;> simp
@[simp] theorem State.atTime_ntp (s : State) (now : Nat) : (s.atTime now).ntp = s.ntp := by unfold State.atTime; dsimp only; split <;> simp
@[simp] theorem State.atTime_engs (s : State) (now : Nat) : (s.atTime now).engs = s.engs := by unfold State.atTime; dsimp only; split <;> simp
@[simp] theorem State.atTime_dump (s : State) (now : Nat) : (s.atTime now).dump = s.dump := by unfold State.atTime; dsimp only; split <;> simp
@[simp] theorem State.atTime_gov (s : State) (now : Nat) : (s.atTime now).gov = s.gov := by unfold State.atTime; dsimp only; split <;> simp
@[simp] theorem State.atTime_vault (s : State) (now : Nat) : (s.atTime now).vault = s.vault := by unfold State.atTime; dsimp only; split <;> simp
@[simp] theorem State.atTime_access (s : State) (now : Nat) : (s.atTime now).access = s.access := by unfold State.atTime; dsimp only; split <;> simp
@[simp] theorem State.atTime_pair (s : State) (now : Nat) : (s.atTime now).pair = s.pair := by unfold State.atTime; dsimp only; split <;> simp
@[simp] theorem State.atTime_domain (s : State) (now : Nat) : (s.atTime now).domain = s.domain := by unfold State.atTime; dsimp only; split <;> simp
@[simp] theorem State.atTime_log (s : State) (now : Nat) : (s.atTime now).log = s.log := by unfold State.atTime; dsimp only; split <;> simp
@[simp] theorem State.atTime_faults (s : State) (now : Nat) : (s.atTime now).faults = s.faults := by unfold State.atTime; dsimp only; split <;> simp
@[simp] theorem State.atTime_start (s : State) (now : Nat) : (s.atTime now).start = s.start := by unfold State.atTime; dsimp only; split <;> simp
@[simp] theorem State.atTime_cal (s : State) (now : Nat) : (s.atTime now).cal = s.cal := by unfold State.atTime; dsimp only; split <;> simp
@[simp] theorem State.atTime_freeCount (s : State) (now : Nat) : (s.atTime now).freeCount = s.freeCount := by unfold State.atTime; dsimp only; split <;> simp

/-! ## setG -/

@[simp] theorem State.setG_pending (s : State) (g : Nat) : (s.setG g).pending = s.pending := by unfold State.setG; simp
@[simp] theorem State.setG_clk (s : State) (g : Nat) : (s.setG g).clk = s.clk := by unfold State.setG; simp
@[simp] theorem State.setG_tb (s : State) (g : Nat) : (s.setG g).tb = s.tb := by unfold State.setG; simp
@[simp] theorem State.setG_refs (s : State) (g : Nat) : (s.setG g).refs = s.refs := by unfold State.setG; simp
@[simp] theorem State.setG_sel (s : State) (g : Nat) : (s.setG g).sel = s.sel := by unfold State.setG; simp
@[simp] theorem State.setG_tod (s : State) (g : Nat) : (s.setG g).tod = s.tod := by unfold State.setG; simp
@[simp] theorem State.setG_tiu (s : State) (g : Nat) : (s.setG g).tiu = s.tiu := by unfold State.setG; simp
@[simp] theorem State.setG_servo (s : State) (g : Nat) : (s.setG g).servo = s.servo := by unfold State.setG; simp
@[simp] theorem State.setG_accum (s : State) (g : Nat) : (s.setG g).accum = s.accum := by unfold State.setG; simp
@[simp] theorem State.setG_ho (s : State) (g : Nat) : (s.setG g).ho = s.ho := by unfold State.setG; simp
@[simp] theorem State.setG_oven (s : State) (g : Nat) : (s.setG g).oven = s.oven := by unfold State.setG; simp
@[simp] theorem State.setG_atomic (s : State) (g : Nat) : (s.setG g).atomic = s.atomic := by unfold State.setG; simp
@[simp] theorem State.setG_synth (s : State) (g : Nat) : (s.setG g).synth = s.synth := by unfold State.setG; simp
@[simp] theorem State.setG_gnss (s : State) (g : Nat) : (s.setG g).gnss = s.gnss := by unfold State.setG; simp
@[simp] theorem State.setG_net (s : State) (g : Nat) : (s.setG g).net = s.net := by unfold State.setG; simp
@[simp] theorem State.setG_yard (s : State) (g : Nat) : (s.setG g).yard = s.yard := by unfold State.setG; simp
@[simp] theorem State.setG_ptp (s : State) (g : Nat) : (s.setG g).ptp = s.ptp := by unfold State.setG; simp
@[simp] theorem State.setG_ntp (s : State) (g : Nat) : (s.setG g).ntp = s.ntp := by unfold State.setG; simp
@[simp] theorem State.setG_engs (s : State) (g : Nat) : (s.setG g).engs = s.engs := by unfold State.setG; simp
@[simp] theorem State.setG_dump (s : State) (g : Nat) : (s.setG g).dump = s.dump := by unfold State.setG; simp
@[simp] theorem State.setG_gov (s : State) (g : Nat) : (s.setG g).gov = s.gov := by unfold State.setG; simp
@[simp] theorem State.setG_vault (s : State) (g : Nat) : (s.setG g).vault = s.vault := by unfold State.setG; simp
@[simp] theorem State.setG_access (s : State) (g : Nat) : (s.setG g).access = s.access := by unfold State.setG; simp
@[simp] theorem State.setG_pair (s : State) (g : Nat) : (s.setG g).pair = s.pair := by unfold State.setG; simp
@[simp] theorem State.setG_domain (s : State) (g : Nat) : (s.setG g).domain = s.domain := by unfold State.setG; simp
@[simp] theorem State.setG_log (s : State) (g : Nat) : (s.setG g).log = s.log := by unfold State.setG; simp
@[simp] theorem State.setG_faults (s : State) (g : Nat) : (s.setG g).faults = s.faults := by unfold State.setG; simp
@[simp] theorem State.setG_start (s : State) (g : Nat) : (s.setG g).start = s.start := by unfold State.setG; simp
@[simp] theorem State.setG_cal (s : State) (g : Nat) : (s.setG g).cal = s.cal := by unfold State.setG; simp
@[simp] theorem State.setG_freeCount (s : State) (g : Nat) : (s.setG g).freeCount = s.freeCount := by unfold State.setG; simp

/-! ## arrive -/

@[simp] theorem State.arrive_pending (s : State) (a : Acc) : (s.arrive a).pending = s.pending := by unfold State.arrive; dsimp only; split <;> simp
@[simp] theorem State.arrive_clk (s : State) (a : Acc) : (s.arrive a).clk = s.clk := by unfold State.arrive; dsimp only; split <;> simp
@[simp] theorem State.arrive_refs (s : State) (a : Acc) : (s.arrive a).refs = s.refs := by unfold State.arrive; dsimp only; split <;> simp
@[simp] theorem State.arrive_sel (s : State) (a : Acc) : (s.arrive a).sel = s.sel := by unfold State.arrive; dsimp only; split <;> simp
@[simp] theorem State.arrive_tod (s : State) (a : Acc) : (s.arrive a).tod = s.tod := by unfold State.arrive; dsimp only; split <;> simp
@[simp] theorem State.arrive_tiu (s : State) (a : Acc) : (s.arrive a).tiu = s.tiu := by unfold State.arrive; dsimp only; split <;> simp
@[simp] theorem State.arrive_servo (s : State) (a : Acc) : (s.arrive a).servo = s.servo := by unfold State.arrive; dsimp only; split <;> simp
@[simp] theorem State.arrive_accum (s : State) (a : Acc) : (s.arrive a).accum = s.accum := by unfold State.arrive; dsimp only; split <;> simp
@[simp] theorem State.arrive_oven (s : State) (a : Acc) : (s.arrive a).oven = s.oven := by unfold State.arrive; dsimp only; split <;> simp
@[simp] theorem State.arrive_atomic (s : State) (a : Acc) : (s.arrive a).atomic = s.atomic := by unfold State.arrive; dsimp only; split <;> simp
@[simp] theorem State.arrive_synth (s : State) (a : Acc) : (s.arrive a).synth = s.synth := by unfold State.arrive; dsimp only; split <;> simp
@[simp] theorem State.arrive_gnss (s : State) (a : Acc) : (s.arrive a).gnss = s.gnss := by unfold State.arrive; dsimp only; split <;> simp
@[simp] theorem State.arrive_net (s : State) (a : Acc) : (s.arrive a).net = s.net := by unfold State.arrive; dsimp only; split <;> simp
@[simp] theorem State.arrive_yard (s : State) (a : Acc) : (s.arrive a).yard = s.yard := by unfold State.arrive; dsimp only; split <;> simp
@[simp] theorem State.arrive_ptp (s : State) (a : Acc) : (s.arrive a).ptp = s.ptp := by unfold State.arrive; dsimp only; split <;> simp
@[simp] theorem State.arrive_ntp (s : State) (a : Acc) : (s.arrive a).ntp = s.ntp := by unfold State.arrive; dsimp only; split <;> simp
@[simp] theorem State.arrive_engs (s : State) (a : Acc) : (s.arrive a).engs = s.engs := by unfold State.arrive; dsimp only; split <;> simp
@[simp] theorem State.arrive_dump (s : State) (a : Acc) : (s.arrive a).dump = s.dump := by unfold State.arrive; dsimp only; split <;> simp
@[simp] theorem State.arrive_gov (s : State) (a : Acc) : (s.arrive a).gov = s.gov := by unfold State.arrive; dsimp only; split <;> simp
@[simp] theorem State.arrive_vault (s : State) (a : Acc) : (s.arrive a).vault = s.vault := by unfold State.arrive; dsimp only; split <;> simp
@[simp] theorem State.arrive_pair (s : State) (a : Acc) : (s.arrive a).pair = s.pair := by unfold State.arrive; dsimp only; split <;> simp
@[simp] theorem State.arrive_domain (s : State) (a : Acc) : (s.arrive a).domain = s.domain := by unfold State.arrive; dsimp only; split <;> simp
@[simp] theorem State.arrive_log (s : State) (a : Acc) : (s.arrive a).log = s.log := by unfold State.arrive; dsimp only; split <;> simp
@[simp] theorem State.arrive_faults (s : State) (a : Acc) : (s.arrive a).faults = s.faults := by unfold State.arrive; dsimp only; split <;> simp
@[simp] theorem State.arrive_start (s : State) (a : Acc) : (s.arrive a).start = s.start := by unfold State.arrive; dsimp only; split <;> simp
@[simp] theorem State.arrive_cal (s : State) (a : Acc) : (s.arrive a).cal = s.cal := by unfold State.arrive; dsimp only; split <;> simp
@[simp] theorem State.arrive_freeCount (s : State) (a : Acc) : (s.arrive a).freeCount = s.freeCount := by unfold State.arrive; dsimp only; split <;> simp

/-! ## setReg -/

@[simp] theorem State.setReg_pending (s : State) (e r v : Nat) : (s.setReg e r v).pending = s.pending := by unfold State.setReg; split <;> rfl
@[simp] theorem State.setReg_clk (s : State) (e r v : Nat) : (s.setReg e r v).clk = s.clk := by unfold State.setReg; split <;> rfl
@[simp] theorem State.setReg_tb (s : State) (e r v : Nat) : (s.setReg e r v).tb = s.tb := by unfold State.setReg; split <;> rfl
@[simp] theorem State.setReg_refs (s : State) (e r v : Nat) : (s.setReg e r v).refs = s.refs := by unfold State.setReg; split <;> rfl
@[simp] theorem State.setReg_sel (s : State) (e r v : Nat) : (s.setReg e r v).sel = s.sel := by unfold State.setReg; split <;> rfl
@[simp] theorem State.setReg_tod (s : State) (e r v : Nat) : (s.setReg e r v).tod = s.tod := by unfold State.setReg; split <;> rfl
@[simp] theorem State.setReg_tiu (s : State) (e r v : Nat) : (s.setReg e r v).tiu = s.tiu := by unfold State.setReg; split <;> rfl
@[simp] theorem State.setReg_servo (s : State) (e r v : Nat) : (s.setReg e r v).servo = s.servo := by unfold State.setReg; split <;> rfl
@[simp] theorem State.setReg_accum (s : State) (e r v : Nat) : (s.setReg e r v).accum = s.accum := by unfold State.setReg; split <;> rfl
@[simp] theorem State.setReg_ho (s : State) (e r v : Nat) : (s.setReg e r v).ho = s.ho := by unfold State.setReg; split <;> rfl
@[simp] theorem State.setReg_oven (s : State) (e r v : Nat) : (s.setReg e r v).oven = s.oven := by unfold State.setReg; split <;> rfl
@[simp] theorem State.setReg_atomic (s : State) (e r v : Nat) : (s.setReg e r v).atomic = s.atomic := by unfold State.setReg; split <;> rfl
@[simp] theorem State.setReg_synth (s : State) (e r v : Nat) : (s.setReg e r v).synth = s.synth := by unfold State.setReg; split <;> rfl
@[simp] theorem State.setReg_gnss (s : State) (e r v : Nat) : (s.setReg e r v).gnss = s.gnss := by unfold State.setReg; split <;> rfl
@[simp] theorem State.setReg_girth (s : State) (e r v : Nat) : (s.setReg e r v).girth = s.girth := by unfold State.setReg; split <;> rfl
@[simp] theorem State.setReg_net (s : State) (e r v : Nat) : (s.setReg e r v).net = s.net := by unfold State.setReg; split <;> rfl
@[simp] theorem State.setReg_yard (s : State) (e r v : Nat) : (s.setReg e r v).yard = s.yard := by unfold State.setReg; split <;> rfl
@[simp] theorem State.setReg_ptp (s : State) (e r v : Nat) : (s.setReg e r v).ptp = s.ptp := by unfold State.setReg; split <;> rfl
@[simp] theorem State.setReg_ntp (s : State) (e r v : Nat) : (s.setReg e r v).ntp = s.ntp := by unfold State.setReg; split <;> rfl
@[simp] theorem State.setReg_dump (s : State) (e r v : Nat) : (s.setReg e r v).dump = s.dump := by unfold State.setReg; split <;> rfl
@[simp] theorem State.setReg_gov (s : State) (e r v : Nat) : (s.setReg e r v).gov = s.gov := by unfold State.setReg; split <;> rfl
@[simp] theorem State.setReg_vault (s : State) (e r v : Nat) : (s.setReg e r v).vault = s.vault := by unfold State.setReg; split <;> rfl
@[simp] theorem State.setReg_access (s : State) (e r v : Nat) : (s.setReg e r v).access = s.access := by unfold State.setReg; split <;> rfl
@[simp] theorem State.setReg_dict (s : State) (e r v : Nat) : (s.setReg e r v).dict = s.dict := by unfold State.setReg; split <;> rfl
@[simp] theorem State.setReg_pair (s : State) (e r v : Nat) : (s.setReg e r v).pair = s.pair := by unfold State.setReg; split <;> rfl
@[simp] theorem State.setReg_domain (s : State) (e r v : Nat) : (s.setReg e r v).domain = s.domain := by unfold State.setReg; split <;> rfl
@[simp] theorem State.setReg_log (s : State) (e r v : Nat) : (s.setReg e r v).log = s.log := by unfold State.setReg; split <;> rfl
@[simp] theorem State.setReg_faults (s : State) (e r v : Nat) : (s.setReg e r v).faults = s.faults := by unfold State.setReg; split <;> rfl
@[simp] theorem State.setReg_start (s : State) (e r v : Nat) : (s.setReg e r v).start = s.start := by unfold State.setReg; split <;> rfl
@[simp] theorem State.setReg_cal (s : State) (e r v : Nat) : (s.setReg e r v).cal = s.cal := by unfold State.setReg; split <;> rfl
@[simp] theorem State.setReg_freeCount (s : State) (e r v : Nat) : (s.setReg e r v).freeCount = s.freeCount := by unfold State.setReg; split <;> rfl

/-! ## setFreg -/

@[simp] theorem State.setFreg_pending (s : State) (e r v : Nat) : (s.setFreg e r v).pending = s.pending := rfl
@[simp] theorem State.setFreg_clk (s : State) (e r v : Nat) : (s.setFreg e r v).clk = s.clk := rfl
@[simp] theorem State.setFreg_tb (s : State) (e r v : Nat) : (s.setFreg e r v).tb = s.tb := rfl
@[simp] theorem State.setFreg_refs (s : State) (e r v : Nat) : (s.setFreg e r v).refs = s.refs := rfl
@[simp] theorem State.setFreg_sel (s : State) (e r v : Nat) : (s.setFreg e r v).sel = s.sel := rfl
@[simp] theorem State.setFreg_tod (s : State) (e r v : Nat) : (s.setFreg e r v).tod = s.tod := rfl
@[simp] theorem State.setFreg_tiu (s : State) (e r v : Nat) : (s.setFreg e r v).tiu = s.tiu := rfl
@[simp] theorem State.setFreg_servo (s : State) (e r v : Nat) : (s.setFreg e r v).servo = s.servo := rfl
@[simp] theorem State.setFreg_accum (s : State) (e r v : Nat) : (s.setFreg e r v).accum = s.accum := rfl
@[simp] theorem State.setFreg_ho (s : State) (e r v : Nat) : (s.setFreg e r v).ho = s.ho := rfl
@[simp] theorem State.setFreg_oven (s : State) (e r v : Nat) : (s.setFreg e r v).oven = s.oven := rfl
@[simp] theorem State.setFreg_atomic (s : State) (e r v : Nat) : (s.setFreg e r v).atomic = s.atomic := rfl
@[simp] theorem State.setFreg_synth (s : State) (e r v : Nat) : (s.setFreg e r v).synth = s.synth := rfl
@[simp] theorem State.setFreg_gnss (s : State) (e r v : Nat) : (s.setFreg e r v).gnss = s.gnss := rfl
@[simp] theorem State.setFreg_girth (s : State) (e r v : Nat) : (s.setFreg e r v).girth = s.girth := rfl
@[simp] theorem State.setFreg_net (s : State) (e r v : Nat) : (s.setFreg e r v).net = s.net := rfl
@[simp] theorem State.setFreg_yard (s : State) (e r v : Nat) : (s.setFreg e r v).yard = s.yard := rfl
@[simp] theorem State.setFreg_ptp (s : State) (e r v : Nat) : (s.setFreg e r v).ptp = s.ptp := rfl
@[simp] theorem State.setFreg_ntp (s : State) (e r v : Nat) : (s.setFreg e r v).ntp = s.ntp := rfl
@[simp] theorem State.setFreg_dump (s : State) (e r v : Nat) : (s.setFreg e r v).dump = s.dump := rfl
@[simp] theorem State.setFreg_gov (s : State) (e r v : Nat) : (s.setFreg e r v).gov = s.gov := rfl
@[simp] theorem State.setFreg_vault (s : State) (e r v : Nat) : (s.setFreg e r v).vault = s.vault := rfl
@[simp] theorem State.setFreg_access (s : State) (e r v : Nat) : (s.setFreg e r v).access = s.access := rfl
@[simp] theorem State.setFreg_dict (s : State) (e r v : Nat) : (s.setFreg e r v).dict = s.dict := rfl
@[simp] theorem State.setFreg_pair (s : State) (e r v : Nat) : (s.setFreg e r v).pair = s.pair := rfl
@[simp] theorem State.setFreg_domain (s : State) (e r v : Nat) : (s.setFreg e r v).domain = s.domain := rfl
@[simp] theorem State.setFreg_log (s : State) (e r v : Nat) : (s.setFreg e r v).log = s.log := rfl
@[simp] theorem State.setFreg_faults (s : State) (e r v : Nat) : (s.setFreg e r v).faults = s.faults := rfl
@[simp] theorem State.setFreg_start (s : State) (e r v : Nat) : (s.setFreg e r v).start = s.start := rfl
@[simp] theorem State.setFreg_cal (s : State) (e r v : Nat) : (s.setFreg e r v).cal = s.cal := rfl
@[simp] theorem State.setFreg_freeCount (s : State) (e r v : Nat) : (s.setFreg e r v).freeCount = s.freeCount := rfl

/-! ## stick -/

@[simp] theorem State.stick_pending (s : State) (e v : Nat) : (s.stick e v).pending = s.pending := rfl
@[simp] theorem State.stick_clk (s : State) (e v : Nat) : (s.stick e v).clk = s.clk := rfl
@[simp] theorem State.stick_tb (s : State) (e v : Nat) : (s.stick e v).tb = s.tb := rfl
@[simp] theorem State.stick_refs (s : State) (e v : Nat) : (s.stick e v).refs = s.refs := rfl
@[simp] theorem State.stick_sel (s : State) (e v : Nat) : (s.stick e v).sel = s.sel := rfl
@[simp] theorem State.stick_tod (s : State) (e v : Nat) : (s.stick e v).tod = s.tod := rfl
@[simp] theorem State.stick_tiu (s : State) (e v : Nat) : (s.stick e v).tiu = s.tiu := rfl
@[simp] theorem State.stick_servo (s : State) (e v : Nat) : (s.stick e v).servo = s.servo := rfl
@[simp] theorem State.stick_accum (s : State) (e v : Nat) : (s.stick e v).accum = s.accum := rfl
@[simp] theorem State.stick_ho (s : State) (e v : Nat) : (s.stick e v).ho = s.ho := rfl
@[simp] theorem State.stick_oven (s : State) (e v : Nat) : (s.stick e v).oven = s.oven := rfl
@[simp] theorem State.stick_atomic (s : State) (e v : Nat) : (s.stick e v).atomic = s.atomic := rfl
@[simp] theorem State.stick_synth (s : State) (e v : Nat) : (s.stick e v).synth = s.synth := rfl
@[simp] theorem State.stick_gnss (s : State) (e v : Nat) : (s.stick e v).gnss = s.gnss := rfl
@[simp] theorem State.stick_girth (s : State) (e v : Nat) : (s.stick e v).girth = s.girth := rfl
@[simp] theorem State.stick_net (s : State) (e v : Nat) : (s.stick e v).net = s.net := rfl
@[simp] theorem State.stick_yard (s : State) (e v : Nat) : (s.stick e v).yard = s.yard := rfl
@[simp] theorem State.stick_ptp (s : State) (e v : Nat) : (s.stick e v).ptp = s.ptp := rfl
@[simp] theorem State.stick_ntp (s : State) (e v : Nat) : (s.stick e v).ntp = s.ntp := rfl
@[simp] theorem State.stick_dump (s : State) (e v : Nat) : (s.stick e v).dump = s.dump := rfl
@[simp] theorem State.stick_gov (s : State) (e v : Nat) : (s.stick e v).gov = s.gov := rfl
@[simp] theorem State.stick_vault (s : State) (e v : Nat) : (s.stick e v).vault = s.vault := rfl
@[simp] theorem State.stick_access (s : State) (e v : Nat) : (s.stick e v).access = s.access := rfl
@[simp] theorem State.stick_dict (s : State) (e v : Nat) : (s.stick e v).dict = s.dict := rfl
@[simp] theorem State.stick_pair (s : State) (e v : Nat) : (s.stick e v).pair = s.pair := rfl
@[simp] theorem State.stick_domain (s : State) (e v : Nat) : (s.stick e v).domain = s.domain := rfl
@[simp] theorem State.stick_log (s : State) (e v : Nat) : (s.stick e v).log = s.log := rfl
@[simp] theorem State.stick_faults (s : State) (e v : Nat) : (s.stick e v).faults = s.faults := rfl
@[simp] theorem State.stick_start (s : State) (e v : Nat) : (s.stick e v).start = s.start := rfl
@[simp] theorem State.stick_cal (s : State) (e v : Nat) : (s.stick e v).cal = s.cal := rfl
@[simp] theorem State.stick_freeCount (s : State) (e v : Nat) : (s.stick e v).freeCount = s.freeCount := rfl

/-! ## pmcEvents -/

@[simp] theorem State.pmcEvents_pending (s : State) (e : Nat) (l : List (Nat × Nat)) : (s.pmcEvents e l).pending = s.pending := by unfold State.pmcEvents; split <;> rfl
@[simp] theorem State.pmcEvents_clk (s : State) (e : Nat) (l : List (Nat × Nat)) : (s.pmcEvents e l).clk = s.clk := by unfold State.pmcEvents; split <;> rfl
@[simp] theorem State.pmcEvents_tb (s : State) (e : Nat) (l : List (Nat × Nat)) : (s.pmcEvents e l).tb = s.tb := by unfold State.pmcEvents; split <;> rfl
@[simp] theorem State.pmcEvents_refs (s : State) (e : Nat) (l : List (Nat × Nat)) : (s.pmcEvents e l).refs = s.refs := by unfold State.pmcEvents; split <;> rfl
@[simp] theorem State.pmcEvents_sel (s : State) (e : Nat) (l : List (Nat × Nat)) : (s.pmcEvents e l).sel = s.sel := by unfold State.pmcEvents; split <;> rfl
@[simp] theorem State.pmcEvents_tod (s : State) (e : Nat) (l : List (Nat × Nat)) : (s.pmcEvents e l).tod = s.tod := by unfold State.pmcEvents; split <;> rfl
@[simp] theorem State.pmcEvents_tiu (s : State) (e : Nat) (l : List (Nat × Nat)) : (s.pmcEvents e l).tiu = s.tiu := by unfold State.pmcEvents; split <;> rfl
@[simp] theorem State.pmcEvents_servo (s : State) (e : Nat) (l : List (Nat × Nat)) : (s.pmcEvents e l).servo = s.servo := by unfold State.pmcEvents; split <;> rfl
@[simp] theorem State.pmcEvents_accum (s : State) (e : Nat) (l : List (Nat × Nat)) : (s.pmcEvents e l).accum = s.accum := by unfold State.pmcEvents; split <;> rfl
@[simp] theorem State.pmcEvents_ho (s : State) (e : Nat) (l : List (Nat × Nat)) : (s.pmcEvents e l).ho = s.ho := by unfold State.pmcEvents; split <;> rfl
@[simp] theorem State.pmcEvents_oven (s : State) (e : Nat) (l : List (Nat × Nat)) : (s.pmcEvents e l).oven = s.oven := by unfold State.pmcEvents; split <;> rfl
@[simp] theorem State.pmcEvents_atomic (s : State) (e : Nat) (l : List (Nat × Nat)) : (s.pmcEvents e l).atomic = s.atomic := by unfold State.pmcEvents; split <;> rfl
@[simp] theorem State.pmcEvents_synth (s : State) (e : Nat) (l : List (Nat × Nat)) : (s.pmcEvents e l).synth = s.synth := by unfold State.pmcEvents; split <;> rfl
@[simp] theorem State.pmcEvents_gnss (s : State) (e : Nat) (l : List (Nat × Nat)) : (s.pmcEvents e l).gnss = s.gnss := by unfold State.pmcEvents; split <;> rfl
@[simp] theorem State.pmcEvents_girth (s : State) (e : Nat) (l : List (Nat × Nat)) : (s.pmcEvents e l).girth = s.girth := by unfold State.pmcEvents; split <;> rfl
@[simp] theorem State.pmcEvents_net (s : State) (e : Nat) (l : List (Nat × Nat)) : (s.pmcEvents e l).net = s.net := by unfold State.pmcEvents; split <;> rfl
@[simp] theorem State.pmcEvents_yard (s : State) (e : Nat) (l : List (Nat × Nat)) : (s.pmcEvents e l).yard = s.yard := by unfold State.pmcEvents; split <;> rfl
@[simp] theorem State.pmcEvents_ptp (s : State) (e : Nat) (l : List (Nat × Nat)) : (s.pmcEvents e l).ptp = s.ptp := by unfold State.pmcEvents; split <;> rfl
@[simp] theorem State.pmcEvents_ntp (s : State) (e : Nat) (l : List (Nat × Nat)) : (s.pmcEvents e l).ntp = s.ntp := by unfold State.pmcEvents; split <;> rfl
@[simp] theorem State.pmcEvents_dump (s : State) (e : Nat) (l : List (Nat × Nat)) : (s.pmcEvents e l).dump = s.dump := by unfold State.pmcEvents; split <;> rfl
@[simp] theorem State.pmcEvents_gov (s : State) (e : Nat) (l : List (Nat × Nat)) : (s.pmcEvents e l).gov = s.gov := by unfold State.pmcEvents; split <;> rfl
@[simp] theorem State.pmcEvents_vault (s : State) (e : Nat) (l : List (Nat × Nat)) : (s.pmcEvents e l).vault = s.vault := by unfold State.pmcEvents; split <;> rfl
@[simp] theorem State.pmcEvents_access (s : State) (e : Nat) (l : List (Nat × Nat)) : (s.pmcEvents e l).access = s.access := by unfold State.pmcEvents; split <;> rfl
@[simp] theorem State.pmcEvents_dict (s : State) (e : Nat) (l : List (Nat × Nat)) : (s.pmcEvents e l).dict = s.dict := by unfold State.pmcEvents; split <;> rfl
@[simp] theorem State.pmcEvents_pair (s : State) (e : Nat) (l : List (Nat × Nat)) : (s.pmcEvents e l).pair = s.pair := by unfold State.pmcEvents; split <;> rfl
@[simp] theorem State.pmcEvents_domain (s : State) (e : Nat) (l : List (Nat × Nat)) : (s.pmcEvents e l).domain = s.domain := by unfold State.pmcEvents; split <;> rfl
@[simp] theorem State.pmcEvents_log (s : State) (e : Nat) (l : List (Nat × Nat)) : (s.pmcEvents e l).log = s.log := by unfold State.pmcEvents; split <;> rfl
@[simp] theorem State.pmcEvents_faults (s : State) (e : Nat) (l : List (Nat × Nat)) : (s.pmcEvents e l).faults = s.faults := by unfold State.pmcEvents; split <;> rfl
@[simp] theorem State.pmcEvents_start (s : State) (e : Nat) (l : List (Nat × Nat)) : (s.pmcEvents e l).start = s.start := by unfold State.pmcEvents; split <;> rfl
@[simp] theorem State.pmcEvents_cal (s : State) (e : Nat) (l : List (Nat × Nat)) : (s.pmcEvents e l).cal = s.cal := by unfold State.pmcEvents; split <;> rfl
@[simp] theorem State.pmcEvents_freeCount (s : State) (e : Nat) (l : List (Nat × Nat)) : (s.pmcEvents e l).freeCount = s.freeCount := by unfold State.pmcEvents; split <;> rfl

/-! ## retire -/

@[simp] theorem State.retire_pending (s : State) (e w : Nat) (l : List (Nat × Nat)) (b : Bool) : (s.retire e w l b).pending = s.pending := by unfold State.retire; dsimp only; split <;> simp
@[simp] theorem State.retire_clk (s : State) (e w : Nat) (l : List (Nat × Nat)) (b : Bool) : (s.retire e w l b).clk = s.clk := by unfold State.retire; dsimp only; split <;> simp
@[simp] theorem State.retire_tb (s : State) (e w : Nat) (l : List (Nat × Nat)) (b : Bool) : (s.retire e w l b).tb = s.tb := by unfold State.retire; dsimp only; split <;> simp
@[simp] theorem State.retire_refs (s : State) (e w : Nat) (l : List (Nat × Nat)) (b : Bool) : (s.retire e w l b).refs = s.refs := by unfold State.retire; dsimp only; split <;> simp
@[simp] theorem State.retire_sel (s : State) (e w : Nat) (l : List (Nat × Nat)) (b : Bool) : (s.retire e w l b).sel = s.sel := by unfold State.retire; dsimp only; split <;> simp
@[simp] theorem State.retire_tod (s : State) (e w : Nat) (l : List (Nat × Nat)) (b : Bool) : (s.retire e w l b).tod = s.tod := by unfold State.retire; dsimp only; split <;> simp
@[simp] theorem State.retire_tiu (s : State) (e w : Nat) (l : List (Nat × Nat)) (b : Bool) : (s.retire e w l b).tiu = s.tiu := by unfold State.retire; dsimp only; split <;> simp
@[simp] theorem State.retire_servo (s : State) (e w : Nat) (l : List (Nat × Nat)) (b : Bool) : (s.retire e w l b).servo = s.servo := by unfold State.retire; dsimp only; split <;> simp
@[simp] theorem State.retire_accum (s : State) (e w : Nat) (l : List (Nat × Nat)) (b : Bool) : (s.retire e w l b).accum = s.accum := by unfold State.retire; dsimp only; split <;> simp
@[simp] theorem State.retire_ho (s : State) (e w : Nat) (l : List (Nat × Nat)) (b : Bool) : (s.retire e w l b).ho = s.ho := by unfold State.retire; dsimp only; split <;> simp
@[simp] theorem State.retire_oven (s : State) (e w : Nat) (l : List (Nat × Nat)) (b : Bool) : (s.retire e w l b).oven = s.oven := by unfold State.retire; dsimp only; split <;> simp
@[simp] theorem State.retire_atomic (s : State) (e w : Nat) (l : List (Nat × Nat)) (b : Bool) : (s.retire e w l b).atomic = s.atomic := by unfold State.retire; dsimp only; split <;> simp
@[simp] theorem State.retire_synth (s : State) (e w : Nat) (l : List (Nat × Nat)) (b : Bool) : (s.retire e w l b).synth = s.synth := by unfold State.retire; dsimp only; split <;> simp
@[simp] theorem State.retire_gnss (s : State) (e w : Nat) (l : List (Nat × Nat)) (b : Bool) : (s.retire e w l b).gnss = s.gnss := by unfold State.retire; dsimp only; split <;> simp
@[simp] theorem State.retire_girth (s : State) (e w : Nat) (l : List (Nat × Nat)) (b : Bool) : (s.retire e w l b).girth = s.girth := by unfold State.retire; dsimp only; split <;> simp
@[simp] theorem State.retire_net (s : State) (e w : Nat) (l : List (Nat × Nat)) (b : Bool) : (s.retire e w l b).net = s.net := by unfold State.retire; dsimp only; split <;> simp
@[simp] theorem State.retire_yard (s : State) (e w : Nat) (l : List (Nat × Nat)) (b : Bool) : (s.retire e w l b).yard = s.yard := by unfold State.retire; dsimp only; split <;> simp
@[simp] theorem State.retire_ptp (s : State) (e w : Nat) (l : List (Nat × Nat)) (b : Bool) : (s.retire e w l b).ptp = s.ptp := by unfold State.retire; dsimp only; split <;> simp
@[simp] theorem State.retire_ntp (s : State) (e w : Nat) (l : List (Nat × Nat)) (b : Bool) : (s.retire e w l b).ntp = s.ntp := by unfold State.retire; dsimp only; split <;> simp
@[simp] theorem State.retire_dump (s : State) (e w : Nat) (l : List (Nat × Nat)) (b : Bool) : (s.retire e w l b).dump = s.dump := by unfold State.retire; dsimp only; split <;> simp
@[simp] theorem State.retire_gov (s : State) (e w : Nat) (l : List (Nat × Nat)) (b : Bool) : (s.retire e w l b).gov = s.gov := by unfold State.retire; dsimp only; split <;> simp
@[simp] theorem State.retire_vault (s : State) (e w : Nat) (l : List (Nat × Nat)) (b : Bool) : (s.retire e w l b).vault = s.vault := by unfold State.retire; dsimp only; split <;> simp
@[simp] theorem State.retire_access (s : State) (e w : Nat) (l : List (Nat × Nat)) (b : Bool) : (s.retire e w l b).access = s.access := by unfold State.retire; dsimp only; split <;> simp
@[simp] theorem State.retire_dict (s : State) (e w : Nat) (l : List (Nat × Nat)) (b : Bool) : (s.retire e w l b).dict = s.dict := by unfold State.retire; dsimp only; split <;> simp
@[simp] theorem State.retire_pair (s : State) (e w : Nat) (l : List (Nat × Nat)) (b : Bool) : (s.retire e w l b).pair = s.pair := by unfold State.retire; dsimp only; split <;> simp
@[simp] theorem State.retire_domain (s : State) (e w : Nat) (l : List (Nat × Nat)) (b : Bool) : (s.retire e w l b).domain = s.domain := by unfold State.retire; dsimp only; split <;> simp
@[simp] theorem State.retire_log (s : State) (e w : Nat) (l : List (Nat × Nat)) (b : Bool) : (s.retire e w l b).log = s.log := by unfold State.retire; dsimp only; split <;> simp
@[simp] theorem State.retire_faults (s : State) (e w : Nat) (l : List (Nat × Nat)) (b : Bool) : (s.retire e w l b).faults = s.faults := by unfold State.retire; dsimp only; split <;> simp
@[simp] theorem State.retire_start (s : State) (e w : Nat) (l : List (Nat × Nat)) (b : Bool) : (s.retire e w l b).start = s.start := by unfold State.retire; dsimp only; split <;> simp
@[simp] theorem State.retire_cal (s : State) (e w : Nat) (l : List (Nat × Nat)) (b : Bool) : (s.retire e w l b).cal = s.cal := by unfold State.retire; dsimp only; split <;> simp

/-! ## done -/

@[simp] theorem State.done_pending (s : State) (e w : Nat) (l : List (Nat × Nat)) (pc : Nat) : (s.done e w l pc).pending = s.pending := by unfold State.done; simp
@[simp] theorem State.done_clk (s : State) (e w : Nat) (l : List (Nat × Nat)) (pc : Nat) : (s.done e w l pc).clk = s.clk := by unfold State.done; simp
@[simp] theorem State.done_tb (s : State) (e w : Nat) (l : List (Nat × Nat)) (pc : Nat) : (s.done e w l pc).tb = s.tb := by unfold State.done; simp
@[simp] theorem State.done_refs (s : State) (e w : Nat) (l : List (Nat × Nat)) (pc : Nat) : (s.done e w l pc).refs = s.refs := by unfold State.done; simp
@[simp] theorem State.done_sel (s : State) (e w : Nat) (l : List (Nat × Nat)) (pc : Nat) : (s.done e w l pc).sel = s.sel := by unfold State.done; simp
@[simp] theorem State.done_tod (s : State) (e w : Nat) (l : List (Nat × Nat)) (pc : Nat) : (s.done e w l pc).tod = s.tod := by unfold State.done; simp
@[simp] theorem State.done_tiu (s : State) (e w : Nat) (l : List (Nat × Nat)) (pc : Nat) : (s.done e w l pc).tiu = s.tiu := by unfold State.done; simp
@[simp] theorem State.done_servo (s : State) (e w : Nat) (l : List (Nat × Nat)) (pc : Nat) : (s.done e w l pc).servo = s.servo := by unfold State.done; simp
@[simp] theorem State.done_accum (s : State) (e w : Nat) (l : List (Nat × Nat)) (pc : Nat) : (s.done e w l pc).accum = s.accum := by unfold State.done; simp
@[simp] theorem State.done_ho (s : State) (e w : Nat) (l : List (Nat × Nat)) (pc : Nat) : (s.done e w l pc).ho = s.ho := by unfold State.done; simp
@[simp] theorem State.done_oven (s : State) (e w : Nat) (l : List (Nat × Nat)) (pc : Nat) : (s.done e w l pc).oven = s.oven := by unfold State.done; simp
@[simp] theorem State.done_atomic (s : State) (e w : Nat) (l : List (Nat × Nat)) (pc : Nat) : (s.done e w l pc).atomic = s.atomic := by unfold State.done; simp
@[simp] theorem State.done_synth (s : State) (e w : Nat) (l : List (Nat × Nat)) (pc : Nat) : (s.done e w l pc).synth = s.synth := by unfold State.done; simp
@[simp] theorem State.done_gnss (s : State) (e w : Nat) (l : List (Nat × Nat)) (pc : Nat) : (s.done e w l pc).gnss = s.gnss := by unfold State.done; simp
@[simp] theorem State.done_girth (s : State) (e w : Nat) (l : List (Nat × Nat)) (pc : Nat) : (s.done e w l pc).girth = s.girth := by unfold State.done; simp
@[simp] theorem State.done_net (s : State) (e w : Nat) (l : List (Nat × Nat)) (pc : Nat) : (s.done e w l pc).net = s.net := by unfold State.done; simp
@[simp] theorem State.done_yard (s : State) (e w : Nat) (l : List (Nat × Nat)) (pc : Nat) : (s.done e w l pc).yard = s.yard := by unfold State.done; simp
@[simp] theorem State.done_ptp (s : State) (e w : Nat) (l : List (Nat × Nat)) (pc : Nat) : (s.done e w l pc).ptp = s.ptp := by unfold State.done; simp
@[simp] theorem State.done_ntp (s : State) (e w : Nat) (l : List (Nat × Nat)) (pc : Nat) : (s.done e w l pc).ntp = s.ntp := by unfold State.done; simp
@[simp] theorem State.done_dump (s : State) (e w : Nat) (l : List (Nat × Nat)) (pc : Nat) : (s.done e w l pc).dump = s.dump := by unfold State.done; simp
@[simp] theorem State.done_gov (s : State) (e w : Nat) (l : List (Nat × Nat)) (pc : Nat) : (s.done e w l pc).gov = s.gov := by unfold State.done; simp
@[simp] theorem State.done_vault (s : State) (e w : Nat) (l : List (Nat × Nat)) (pc : Nat) : (s.done e w l pc).vault = s.vault := by unfold State.done; simp
@[simp] theorem State.done_access (s : State) (e w : Nat) (l : List (Nat × Nat)) (pc : Nat) : (s.done e w l pc).access = s.access := by unfold State.done; simp
@[simp] theorem State.done_dict (s : State) (e w : Nat) (l : List (Nat × Nat)) (pc : Nat) : (s.done e w l pc).dict = s.dict := by unfold State.done; simp
@[simp] theorem State.done_pair (s : State) (e w : Nat) (l : List (Nat × Nat)) (pc : Nat) : (s.done e w l pc).pair = s.pair := by unfold State.done; simp
@[simp] theorem State.done_domain (s : State) (e w : Nat) (l : List (Nat × Nat)) (pc : Nat) : (s.done e w l pc).domain = s.domain := by unfold State.done; simp
@[simp] theorem State.done_log (s : State) (e w : Nat) (l : List (Nat × Nat)) (pc : Nat) : (s.done e w l pc).log = s.log := by unfold State.done; simp
@[simp] theorem State.done_faults (s : State) (e w : Nat) (l : List (Nat × Nat)) (pc : Nat) : (s.done e w l pc).faults = s.faults := by unfold State.done; simp
@[simp] theorem State.done_start (s : State) (e w : Nat) (l : List (Nat × Nat)) (pc : Nat) : (s.done e w l pc).start = s.start := by unfold State.done; simp
@[simp] theorem State.done_cal (s : State) (e w : Nat) (l : List (Nat × Nat)) (pc : Nat) : (s.done e w l pc).cal = s.cal := by unfold State.done; simp

/-! ## advance -/

@[simp] theorem State.advance_pending (s : State) (e w : Nat) (l : List (Nat × Nat)) : (s.advance e w l).pending = s.pending := by unfold State.advance; simp
@[simp] theorem State.advance_clk (s : State) (e w : Nat) (l : List (Nat × Nat)) : (s.advance e w l).clk = s.clk := by unfold State.advance; simp
@[simp] theorem State.advance_tb (s : State) (e w : Nat) (l : List (Nat × Nat)) : (s.advance e w l).tb = s.tb := by unfold State.advance; simp
@[simp] theorem State.advance_refs (s : State) (e w : Nat) (l : List (Nat × Nat)) : (s.advance e w l).refs = s.refs := by unfold State.advance; simp
@[simp] theorem State.advance_sel (s : State) (e w : Nat) (l : List (Nat × Nat)) : (s.advance e w l).sel = s.sel := by unfold State.advance; simp
@[simp] theorem State.advance_tod (s : State) (e w : Nat) (l : List (Nat × Nat)) : (s.advance e w l).tod = s.tod := by unfold State.advance; simp
@[simp] theorem State.advance_tiu (s : State) (e w : Nat) (l : List (Nat × Nat)) : (s.advance e w l).tiu = s.tiu := by unfold State.advance; simp
@[simp] theorem State.advance_servo (s : State) (e w : Nat) (l : List (Nat × Nat)) : (s.advance e w l).servo = s.servo := by unfold State.advance; simp
@[simp] theorem State.advance_accum (s : State) (e w : Nat) (l : List (Nat × Nat)) : (s.advance e w l).accum = s.accum := by unfold State.advance; simp
@[simp] theorem State.advance_ho (s : State) (e w : Nat) (l : List (Nat × Nat)) : (s.advance e w l).ho = s.ho := by unfold State.advance; simp
@[simp] theorem State.advance_oven (s : State) (e w : Nat) (l : List (Nat × Nat)) : (s.advance e w l).oven = s.oven := by unfold State.advance; simp
@[simp] theorem State.advance_atomic (s : State) (e w : Nat) (l : List (Nat × Nat)) : (s.advance e w l).atomic = s.atomic := by unfold State.advance; simp
@[simp] theorem State.advance_synth (s : State) (e w : Nat) (l : List (Nat × Nat)) : (s.advance e w l).synth = s.synth := by unfold State.advance; simp
@[simp] theorem State.advance_gnss (s : State) (e w : Nat) (l : List (Nat × Nat)) : (s.advance e w l).gnss = s.gnss := by unfold State.advance; simp
@[simp] theorem State.advance_girth (s : State) (e w : Nat) (l : List (Nat × Nat)) : (s.advance e w l).girth = s.girth := by unfold State.advance; simp
@[simp] theorem State.advance_net (s : State) (e w : Nat) (l : List (Nat × Nat)) : (s.advance e w l).net = s.net := by unfold State.advance; simp
@[simp] theorem State.advance_yard (s : State) (e w : Nat) (l : List (Nat × Nat)) : (s.advance e w l).yard = s.yard := by unfold State.advance; simp
@[simp] theorem State.advance_ptp (s : State) (e w : Nat) (l : List (Nat × Nat)) : (s.advance e w l).ptp = s.ptp := by unfold State.advance; simp
@[simp] theorem State.advance_ntp (s : State) (e w : Nat) (l : List (Nat × Nat)) : (s.advance e w l).ntp = s.ntp := by unfold State.advance; simp
@[simp] theorem State.advance_dump (s : State) (e w : Nat) (l : List (Nat × Nat)) : (s.advance e w l).dump = s.dump := by unfold State.advance; simp
@[simp] theorem State.advance_gov (s : State) (e w : Nat) (l : List (Nat × Nat)) : (s.advance e w l).gov = s.gov := by unfold State.advance; simp
@[simp] theorem State.advance_vault (s : State) (e w : Nat) (l : List (Nat × Nat)) : (s.advance e w l).vault = s.vault := by unfold State.advance; simp
@[simp] theorem State.advance_access (s : State) (e w : Nat) (l : List (Nat × Nat)) : (s.advance e w l).access = s.access := by unfold State.advance; simp
@[simp] theorem State.advance_dict (s : State) (e w : Nat) (l : List (Nat × Nat)) : (s.advance e w l).dict = s.dict := by unfold State.advance; simp
@[simp] theorem State.advance_pair (s : State) (e w : Nat) (l : List (Nat × Nat)) : (s.advance e w l).pair = s.pair := by unfold State.advance; simp
@[simp] theorem State.advance_domain (s : State) (e w : Nat) (l : List (Nat × Nat)) : (s.advance e w l).domain = s.domain := by unfold State.advance; simp
@[simp] theorem State.advance_log (s : State) (e w : Nat) (l : List (Nat × Nat)) : (s.advance e w l).log = s.log := by unfold State.advance; simp
@[simp] theorem State.advance_faults (s : State) (e w : Nat) (l : List (Nat × Nat)) : (s.advance e w l).faults = s.faults := by unfold State.advance; simp
@[simp] theorem State.advance_start (s : State) (e w : Nat) (l : List (Nat × Nat)) : (s.advance e w l).start = s.start := by unfold State.advance; simp
@[simp] theorem State.advance_cal (s : State) (e w : Nat) (l : List (Nat × Nat)) : (s.advance e w l).cal = s.cal := by unfold State.advance; simp

/-! ## writeLoc -/

@[simp] theorem State.writeLoc_pending (s : State) (e : Nat) (l : Loc) (b : List Byte) : (s.writeLoc e l b).pending = s.pending := by unfold State.writeLoc; split <;> rfl
@[simp] theorem State.writeLoc_clk (s : State) (e : Nat) (l : Loc) (b : List Byte) : (s.writeLoc e l b).clk = s.clk := by unfold State.writeLoc; split <;> rfl
@[simp] theorem State.writeLoc_tb (s : State) (e : Nat) (l : Loc) (b : List Byte) : (s.writeLoc e l b).tb = s.tb := by unfold State.writeLoc; split <;> rfl
@[simp] theorem State.writeLoc_refs (s : State) (e : Nat) (l : Loc) (b : List Byte) : (s.writeLoc e l b).refs = s.refs := by unfold State.writeLoc; split <;> rfl
@[simp] theorem State.writeLoc_sel (s : State) (e : Nat) (l : Loc) (b : List Byte) : (s.writeLoc e l b).sel = s.sel := by unfold State.writeLoc; split <;> rfl
@[simp] theorem State.writeLoc_tod (s : State) (e : Nat) (l : Loc) (b : List Byte) : (s.writeLoc e l b).tod = s.tod := by unfold State.writeLoc; split <;> rfl
@[simp] theorem State.writeLoc_tiu (s : State) (e : Nat) (l : Loc) (b : List Byte) : (s.writeLoc e l b).tiu = s.tiu := by unfold State.writeLoc; split <;> rfl
@[simp] theorem State.writeLoc_servo (s : State) (e : Nat) (l : Loc) (b : List Byte) : (s.writeLoc e l b).servo = s.servo := by unfold State.writeLoc; split <;> rfl
@[simp] theorem State.writeLoc_accum (s : State) (e : Nat) (l : Loc) (b : List Byte) : (s.writeLoc e l b).accum = s.accum := by unfold State.writeLoc; split <;> rfl
@[simp] theorem State.writeLoc_ho (s : State) (e : Nat) (l : Loc) (b : List Byte) : (s.writeLoc e l b).ho = s.ho := by unfold State.writeLoc; split <;> rfl
@[simp] theorem State.writeLoc_oven (s : State) (e : Nat) (l : Loc) (b : List Byte) : (s.writeLoc e l b).oven = s.oven := by unfold State.writeLoc; split <;> rfl
@[simp] theorem State.writeLoc_atomic (s : State) (e : Nat) (l : Loc) (b : List Byte) : (s.writeLoc e l b).atomic = s.atomic := by unfold State.writeLoc; split <;> rfl
@[simp] theorem State.writeLoc_synth (s : State) (e : Nat) (l : Loc) (b : List Byte) : (s.writeLoc e l b).synth = s.synth := by unfold State.writeLoc; split <;> rfl
@[simp] theorem State.writeLoc_gnss (s : State) (e : Nat) (l : Loc) (b : List Byte) : (s.writeLoc e l b).gnss = s.gnss := by unfold State.writeLoc; split <;> rfl
@[simp] theorem State.writeLoc_girth (s : State) (e : Nat) (l : Loc) (b : List Byte) : (s.writeLoc e l b).girth = s.girth := by unfold State.writeLoc; split <;> rfl
@[simp] theorem State.writeLoc_net (s : State) (e : Nat) (l : Loc) (b : List Byte) : (s.writeLoc e l b).net = s.net := by unfold State.writeLoc; split <;> rfl
@[simp] theorem State.writeLoc_yard (s : State) (e : Nat) (l : Loc) (b : List Byte) : (s.writeLoc e l b).yard = s.yard := by unfold State.writeLoc; split <;> rfl
@[simp] theorem State.writeLoc_ptp (s : State) (e : Nat) (l : Loc) (b : List Byte) : (s.writeLoc e l b).ptp = s.ptp := by unfold State.writeLoc; split <;> rfl
@[simp] theorem State.writeLoc_ntp (s : State) (e : Nat) (l : Loc) (b : List Byte) : (s.writeLoc e l b).ntp = s.ntp := by unfold State.writeLoc; split <;> rfl
@[simp] theorem State.writeLoc_dump (s : State) (e : Nat) (l : Loc) (b : List Byte) : (s.writeLoc e l b).dump = s.dump := by unfold State.writeLoc; split <;> rfl
@[simp] theorem State.writeLoc_gov (s : State) (e : Nat) (l : Loc) (b : List Byte) : (s.writeLoc e l b).gov = s.gov := by unfold State.writeLoc; split <;> rfl
@[simp] theorem State.writeLoc_vault (s : State) (e : Nat) (l : Loc) (b : List Byte) : (s.writeLoc e l b).vault = s.vault := by unfold State.writeLoc; split <;> rfl
@[simp] theorem State.writeLoc_access (s : State) (e : Nat) (l : Loc) (b : List Byte) : (s.writeLoc e l b).access = s.access := by unfold State.writeLoc; split <;> rfl
@[simp] theorem State.writeLoc_dict (s : State) (e : Nat) (l : Loc) (b : List Byte) : (s.writeLoc e l b).dict = s.dict := by unfold State.writeLoc; split <;> rfl
@[simp] theorem State.writeLoc_pair (s : State) (e : Nat) (l : Loc) (b : List Byte) : (s.writeLoc e l b).pair = s.pair := by unfold State.writeLoc; split <;> rfl
@[simp] theorem State.writeLoc_domain (s : State) (e : Nat) (l : Loc) (b : List Byte) : (s.writeLoc e l b).domain = s.domain := by unfold State.writeLoc; split <;> rfl
@[simp] theorem State.writeLoc_log (s : State) (e : Nat) (l : Loc) (b : List Byte) : (s.writeLoc e l b).log = s.log := by unfold State.writeLoc; split <;> rfl
@[simp] theorem State.writeLoc_faults (s : State) (e : Nat) (l : Loc) (b : List Byte) : (s.writeLoc e l b).faults = s.faults := by unfold State.writeLoc; split <;> rfl
@[simp] theorem State.writeLoc_start (s : State) (e : Nat) (l : Loc) (b : List Byte) : (s.writeLoc e l b).start = s.start := by unfold State.writeLoc; split <;> rfl
@[simp] theorem State.writeLoc_cal (s : State) (e : Nat) (l : Loc) (b : List Byte) : (s.writeLoc e l b).cal = s.cal := by unfold State.writeLoc; split <;> rfl
@[simp] theorem State.writeLoc_freeCount (s : State) (e : Nat) (l : Loc) (b : List Byte) : (s.writeLoc e l b).freeCount = s.freeCount := by unfold State.writeLoc; split <;> rfl

/-- The cycle at a moment does not depend on the second's means. -/
@[simp] theorem State.noteSecond_cycleAt (s : State) (t : Nat) : s.noteSecond.cycleAt t = s.cycleAt t := by
  unfold State.cycleAt State.countAt; rw [State.noteSecond_tb]

/-- The long count after a command that happens at `now` (R57; log entry 5). -/
@[simp] theorem State.atTime_tb (s : State) (now : Nat) : (s.atTime now).tb = { s.tb with lc := max s.tb.lc (s.cycleAt now) } := by
  unfold State.atTime; dsimp only; split <;> simp

end Sys2Proof.Machine
end

