-- ==== Sys2Proof/Laws/Engines.lean ====
section
/-!
SUPPORT. What the parts of an engine's instruction do: register reads after writes, and what an instruction that retires leaves.
-/
set_option Elab.async false
namespace Sys2Proof.Machine

theorem upd_upd {α : Type} (f g : α → α) (n : Nat) (l : List α) : upd f n (upd g n l) = upd (fun x => f (g x)) n l := by
  induction l generalizing n with
  | nil => cases n <;> rfl
  | cons a t ih => cases n <;> simp [upd, ih]

theorem upd_congr {α : Type} {f g : α → α} {n : Nat} {l : List α} (d : α) (h : f (l.getD n d) = g (l.getD n d)) :
    upd f n l = upd g n l := by
  induction l generalizing n with
  | nil => cases n <;> rfl
  | cons a t ih =>
    cases n with
    | zero => simpa [upd] using h
    | succ n => simpa [upd] using ih (by simpa using h)

theorem upd_id {α : Type} (n : Nat) (l : List α) : upd (fun x => x) n l = l := by
  induction l generalizing n with
  | nil => cases n <;> rfl
  | cons a t ih => cases n <;> simp [upd, ih]

/-! ## Engines -/

theorem State.onEng_onEng (s : State) (e : Nat) (f g : Eng → Eng) : (s.onEng e f).onEng e g = s.onEng e (fun x => g (f x)) := by
  simp [State.onEng, upd_upd]

theorem State.onEng_congr {s : State} {e : Nat} {f g : Eng → Eng} (h : f (s.eng e) = g (s.eng e)) : s.onEng e f = s.onEng e g := by
  unfold State.onEng
  rw [upd_congr Eng.init h]

theorem State.onEng_id (s : State) (e : Nat) : s.onEng e (fun g => g) = s := by
  simp [State.onEng, upd_id]

theorem State.eng_onEng {s : State} {e : Nat} (f : Eng → Eng) (h : e < s.engs.eng.length) : (s.onEng e f).eng e = f (s.eng e) := by
  unfold State.eng State.onEng
  exact getD_upd_eq f e _ _ h

theorem State.onEng_length (s : State) (e : Nat) (f : Eng → Eng) : (s.onEng e f).engs.eng.length = s.engs.eng.length := by
  simp

theorem State.eng_free (s : State) (n e : Nat) : ({ s with freeCount := n } : State).eng e = s.eng e := rfl

/-- Counting events changes the engine's counters and nothing else. -/
theorem State.pmcEvents_spec (s : State) (e : Nat) (evs : List (Nat × Nat)) :
    ∃ p, s.pmcEvents e evs = s.onEng e (fun g => { g with pmc := p }) := by
  unfold State.pmcEvents
  split
  · refine ⟨(s.eng e).pmc, ?_⟩
    rw [State.onEng_congr (g := fun g => g), State.onEng_id]
    rfl
  · refine ⟨(match (s.eng e).status with
      | .firmware => (s.eng e).pmc.count_ evs
      | .paddock => (s.eng e).pmc.count_ evs
      | .off => (s.eng e).pmc
      | .inReset => (s.eng e).pmc), ?_⟩
    apply State.onEng_congr
    generalize s.eng e = g
    obtain ⟨st⟩ := g
    cases st <;> rfl

/-- An instruction that retires changes the engine's counters, and the count of free values rises by one. -/
theorem State.retire_spec (s : State) (e word : Nat) (evs : List (Nat × Nat)) (b : Bool) :
    ∃ p, s.retire e word evs b = ({ s with freeCount := s.freeCount + 1 } : State).onEng e (fun g => { g with pmc := p }) := by
  unfold State.retire
  dsimp only
  obtain ⟨p, hp⟩ := State.pmcEvents_spec { s with freeCount := s.freeCount + 1 } e
    ((1, max 1 (Config.cycles s.freeCount)) :: (2, 1) :: (Config.stallEvent s.freeCount, max 1 (Config.cycles s.freeCount) - 1) :: evs)
  rw [hp]
  split
  · rw [State.onEng_onEng]
    exact ⟨_, rfl⟩
  · exact ⟨p, rfl⟩

/-- An instruction that retires, with the next one at `pc`. -/
theorem State.done_spec (s : State) (e word : Nat) (evs : List (Nat × Nat)) (pc : Nat) :
    ∃ p, s.done e word evs pc = ({ s with freeCount := s.freeCount + 1 } : State).onEng e (fun g =>
      { g with pmc := p, pc := pc % 2 ^ engWidth e }) := by
  unfold State.done
  obtain ⟨p, hp⟩ := State.retire_spec s e word evs false
  rw [hp, State.onEng_onEng]
  exact ⟨p, rfl⟩

/-! ## Registers -/

/-- A register after an engine's change. -/
theorem State.reg_onEng {s : State} {e : Nat} (f : Eng → Eng) (h : e < s.engs.eng.length) (r : Nat) :
    (s.onEng e f).reg e r = if r % 32 = 0 then 0 else ((f (s.eng e)).regs.getD (r % 32) 0#64).toNat % 2 ^ engWidth e := by
  unfold State.reg
  rw [State.eng_onEng f h]

theorem engWidth_le (e : Nat) : engWidth e ≤ 64 := by unfold engWidth; split <;> omega

theorem State.reg_lt (s : State) (e r : Nat) : s.reg e r < 2 ^ engWidth e := by
  unfold State.reg
  split
  · positivity
  · exact Nat.mod_lt _ (by positivity)

theorem State.reg_mod (s : State) (e r : Nat) : s.reg e r % 2 ^ engWidth e = s.reg e r := Nat.mod_eq_of_lt (s.reg_lt e r)

/-- What is written to a register is read back, g0 reads 0, and every other register is as it was. -/
theorem State.reg_setReg {s : State} {e : Nat} (he : e < s.engs.eng.length) (hr : (s.eng e).regs.length = 32) (d v r : Nat) :
    (s.setReg e d v).reg e r = if r % 32 = d % 32 ∧ d % 32 ≠ 0 then v % 2 ^ engWidth e else s.reg e r := by
  unfold State.setReg
  by_cases hd : d % 32 = 0
  · simp [hd]
  · rw [if_neg hd, State.reg_onEng _ he]
    by_cases h : r % 32 = d % 32
    · have hl : d % 32 < (s.eng e).regs.length := by rw [hr]; exact Nat.mod_lt _ (by norm_num)
      have hw : 2 ^ engWidth e ≤ 2 ^ 64 := Nat.pow_le_pow_right (by norm_num) (engWidth_le e)
      have hv : v % 2 ^ engWidth e < 2 ^ 64 := lt_of_lt_of_le (Nat.mod_lt _ (by positivity)) hw
      simp only [h, hd, if_false, not_false_eq_true, and_self, if_true, ne_eq, List.getD_eq_getElem?_getD,
        List.getElem?_set_self hl, Option.getD_some, BitVec.toNat_ofNat]
      rw [Nat.mod_eq_of_lt hv, Nat.mod_mod]
    · unfold State.reg
      simp [h, List.getElem?_set_ne (fun k => h (Eq.symm k))]

/-- A write of a register changes the engine's registers and nothing else. -/
theorem State.setReg_spec (s : State) (e d v : Nat) : ∃ l, s.setReg e d v = s.onEng e (fun g => { g with regs := l }) ∧
    ((s.eng e).regs.length = 32 → l.length = 32) := by
  unfold State.setReg
  split
  · refine ⟨(s.eng e).regs, ?_, id⟩
    rw [State.onEng_congr (g := fun g => g), State.onEng_id]
    rfl
  · exact ⟨(s.eng e).regs.set (d % 32) (BitVec.ofNat 64 (v % 2 ^ engWidth e)), State.onEng_congr rfl, by simp⟩

/-- The registers do not depend on the counters, the program counter and the count of free values. -/
theorem State.reg_congr {s t : State} {e : Nat} (h : (t.eng e).regs = (s.eng e).regs) (r : Nat) : t.reg e r = s.reg e r := by
  unfold State.reg
  rw [h]

/-- An integer instruction that retires with `v` for gd and the next instruction at `pc`. -/
theorem intResult_done {s : State} {e : Nat} (he : e < s.engs.eng.length) (hr : (s.eng e).regs.length = 32) (word : Nat)
    (evs : List (Nat × Nat)) (pc d v : Nat) :
    Safety.IntResult s e d (v % 2 ^ engWidth e) (pc % 2 ^ engWidth e) (.next ((s.done e word evs pc).setReg e d v)) := by
  obtain ⟨p, hp⟩ := State.done_spec s e word evs pc
  have hl : e < (s.done e word evs pc).engs.eng.length := by rw [hp]; simpa using he
  have he' : e < ({ s with freeCount := s.freeCount + 1 } : State).engs.eng.length := he
  have hg : (s.done e word evs pc).eng e = { s.eng e with pmc := p, pc := pc % 2 ^ engWidth e } := by
    rw [hp, State.eng_onEng _ he']
    rfl
  obtain ⟨l, hl2, -⟩ := State.setReg_spec (s.done e word evs pc) e d v
  have ht : ((s.done e word evs pc).setReg e d v).eng e =
      { s.eng e with pmc := p, pc := pc % 2 ^ engWidth e, regs := l } := by
    rw [hl2, State.eng_onEng _ hl, hg]
  refine ⟨_, rfl, ?_, ?_, ?_⟩
  · unfold Safety.OnlyInt
    rw [ht]
    rw [hl2, hp, State.onEng_onEng]
    rfl
  · intro r
    rw [State.reg_setReg hl (by rw [hg]; exact hr)]
    rw [State.reg_congr (s := s) (t := s.done e word evs pc) (by rw [hg])]
  · rw [ht]

/-- An integer instruction that retires with no register written. -/
theorem intResult_none {s : State} {e : Nat} (he : e < s.engs.eng.length) (hr : (s.eng e).regs.length = 32) (word : Nat)
    (evs : List (Nat × Nat)) (pc v : Nat) :
    Safety.IntResult s e 0 v (pc % 2 ^ engWidth e) (.next (s.done e word evs pc)) := by
  obtain ⟨t, ht, h1, h2, h3⟩ := intResult_done he hr word evs pc 0 0
  cases ht
  refine ⟨s.done e word evs pc, rfl, h1, ?_, h3⟩
  intro r
  have hd : (s.done e word evs pc).setReg e 0 0 = s.done e word evs pc := rfl
  rw [hd] at h2
  simpa using h2 r

/-- What an engine that executes has: its number, and its register file. -/
theorem engRuns_lt {s : State} {e : Nat} (h : s.engRuns e = true) : e < 36 := by
  unfold State.engRuns at h
  simp at h
  omega

theorem inv_eng_lt {s : State} (i : Safety.Inv s) {e : Nat} (h : s.engRuns e = true) : e < s.engs.eng.length := by
  rw [i.engs.count]; exact engRuns_lt h

theorem inv_eng_ok {s : State} (i : Safety.Inv s) {e : Nat} (h : s.engRuns e = true) : Safety.EngOk (s.eng e) := by
  have hl := inv_eng_lt i h
  unfold State.eng
  rw [List.getD_eq_getElem _ _ hl]
  exact i.engs.each _ (List.getElem_mem hl)

theorem opIns_run {s : State} {e : Nat} (h : Safety.Executes s e) (word : Nat) (f : State → State) : opIns e word f s = f s := by
  simp [opIns, h.1, h.2]

theorem opInsSc_run {s : State} {e : Nat} (h : Safety.Executes s e) (k : isSc e = true) (word : Nat) (f : State → State) :
    opInsSc e word f s = f s := by
  simp [opInsSc, opIns, h.1, h.2, k]

theorem opInsMon_run {s : State} {e : Nat} (h : Safety.Executes s e) (k : (s.eng e).program = false) (word : Nat)
    (f : State → State) : opInsMon e word f s = f s := by
  simp [opInsMon, opIns, h.1, h.2, k]

end Sys2Proof.Machine
end

