-- ==== Sys2Proof/Laws/EngineOps.lean ====
section
/-!
SUPPORT. The engines' shared operations: signed words, what an arithmetic instruction, a load, a store and an atomic leave, and
the bytes of memory that a store changes.
-/
set_option Elab.async false
namespace Sys2Proof.Machine

theorem toSigned_eq (w v : Nat) (hw : 0 < w) : toSigned w v = (BitVec.ofNat w v).toInt := by
  have hp : 2 ^ w = 2 * 2 ^ (w - 1) := by rw [← pow_succ']; congr 1; omega
  unfold toSigned
  rw [BitVec.toInt_eq_toNat_cond, BitVec.toNat_ofNat]
  split <;> split <;> first | rfl | omega

theorem ofSigned_eq (w : Nat) (v : Int) : ofSigned w v = (BitVec.ofInt w v).toNat := by
  unfold ofSigned
  rw [BitVec.toNat_ofInt]

theorem alu_result {s : State} (hI : Safety.Inv s) {e : Nat} (hx : Safety.Executes s e) (d a b fn : Nat) (f : Nat → Nat → Nat → Nat) (v : Nat)
    (hv : f (engWidth e) (s.reg e a) (s.reg e b) % 2 ^ engWidth e = v) :
    Safety.IntResult s e d v (Safety.nextPc s e) (.next (opAlu e d a b fn f s)) := by
  unfold opAlu
  rw [opIns_run hx, ← hv]
  exact intResult_done (inv_eng_lt hI hx.1) (inv_eng_ok hI hx.1).regs _ _ _ _ _

theorem engWidth_pos (e : Nat) : 0 < engWidth e := by unfold engWidth; split <;> omega

theorem bitLen_eq (m : Nat) : bitLen m = Nat.size m := by
  unfold bitLen
  split
  · next h => simp [h]
  · next h =>
    apply le_antisymm
    · exact Nat.lt_size.mpr (Nat.log2_self_le h)
    · exact Nat.size_le.mpr (Nat.lt_log2_self)

section
variable {w x y : Nat} (hw : 0 < w) (hx : x < 2 ^ w) (hy : y < 2 ^ w)
include hw hx hy

theorem val_sub : (2 ^ w + x - y) % 2 ^ w = (BitVec.ofNat w x - BitVec.ofNat w y).toNat := by
  rw [BitVec.toNat_sub, BitVec.toNat_ofNat, BitVec.toNat_ofNat, Nat.mod_eq_of_lt hx, Nat.mod_eq_of_lt hy]
  congr 1; omega
theorem val_bool (b : Bool) : b2n b % 2 ^ w = (if b then (1 : BitVec w) else 0).toNat := by
  have : 1 < 2 ^ w := Nat.one_lt_two_pow (by omega)
  cases b
  · simp [b2n]
  · simp [b2n, Nat.mod_eq_of_lt this]
theorem val_slt : b2n (decide (toSigned w x < toSigned w y)) % 2 ^ w =
    (if (BitVec.ofNat w x).slt (BitVec.ofNat w y) then (1 : BitVec w) else 0).toNat := by
  rw [val_bool hw hx hy, toSigned_eq _ _ hw, toSigned_eq _ _ hw]; rfl
theorem val_ult : b2n (decide (x < y)) % 2 ^ w =
    (if (BitVec.ofNat w x).ult (BitVec.ofNat w y) then (1 : BitVec w) else 0).toNat := by
  rw [val_bool hw hx hy]
  simp [BitVec.ult, Nat.mod_eq_of_lt hx, Nat.mod_eq_of_lt hy]
theorem val_mulhs : ofSigned w (toSigned w x * toSigned w y / 2 ^ w) % 2 ^ w =
    (BitVec.ofInt w ((BitVec.ofNat w x).toInt * (BitVec.ofNat w y).toInt / 2 ^ w)).toNat := by
  rw [ofSigned_eq, toSigned_eq _ _ hw, toSigned_eq _ _ hw, Nat.mod_eq_of_lt (BitVec.isLt _)]
theorem val_asr (k : Nat) : ofSigned w (toSigned w x / 2 ^ k) % 2 ^ w = ((BitVec.ofNat w x).sshiftRight k).toNat := by
  rw [ofSigned_eq, toSigned_eq _ _ hw, Nat.mod_eq_of_lt (BitVec.isLt _)]
  congr 1
  rw [← BitVec.ofInt_toInt (x := (BitVec.ofNat w x).sshiftRight k), BitVec.toInt_sshiftRight, Int.shiftRight_eq_div_pow]
  norm_num
theorem toNat_x : (BitVec.ofNat w x).toNat = x := by simp [Nat.mod_eq_of_lt hx]
theorem zero_iff : BitVec.ofNat w y = 0 ↔ y = 0 := by
  constructor
  · intro h
    have := congrArg BitVec.toNat h
    simpa [Nat.mod_eq_of_lt hy] using this
  · rintro rfl; rfl
theorem val_divs : divS w x y % 2 ^ w =
    (if BitVec.ofNat w y = 0 then BitVec.allOnes w else (BitVec.ofNat w x).sdiv (BitVec.ofNat w y)).toNat := by
  unfold divS
  by_cases h0 : y = 0
  · subst h0
    have : 2 ^ w - 1 < 2 ^ w := Nat.sub_lt (by positivity) one_pos
    simp [Nat.mod_eq_of_lt this]
  · rw [if_neg h0, if_neg (fun h => h0 ((zero_iff hw hx hy).mp h))]
    have key : ofSigned w ((toSigned w x).tdiv (toSigned w y)) = ((BitVec.ofNat w x).sdiv (BitVec.ofNat w y)).toNat := by
      rw [ofSigned_eq, toSigned_eq _ _ hw, toSigned_eq _ _ hw]
      congr 1
      rw [← BitVec.ofInt_toInt (x := (BitVec.ofNat w x).sdiv _), BitVec.toInt_sdiv, ← BitVec.toInt_inj]
      simp
    split
    · next h =>
      obtain ⟨h1, h2⟩ := by simpa using h
      have hp : 2 ^ w = 2 * 2 ^ (w - 1) := by rw [← pow_succ']; congr 1; omega
      have e1 : BitVec.ofNat w x = BitVec.intMin w := by
        apply BitVec.eq_of_toNat_eq
        rw [BitVec.toNat_ofNat, Nat.mod_eq_of_lt hx, h1, BitVec.toNat_intMin_of_pos hw]
      have e2 : BitVec.ofNat w y = BitVec.allOnes w := by
        apply BitVec.eq_of_toNat_eq
        rw [BitVec.toNat_ofNat, Nat.mod_eq_of_lt hy, h2]; simp
      rw [e2, ← BitVec.neg_one_eq_allOnes, e1, BitVec.intMin_sdiv_neg_one, ← e1, toNat_x hw hx hy, Nat.mod_eq_of_lt hx]
    · rw [key, Nat.mod_eq_of_lt (BitVec.isLt _)]
theorem val_rems : remS w x y % 2 ^ w = ((BitVec.ofNat w x).srem (BitVec.ofNat w y)).toNat := by
  have key : ofSigned w ((toSigned w x).tmod (toSigned w y)) = ((BitVec.ofNat w x).srem (BitVec.ofNat w y)).toNat := by
    rw [ofSigned_eq, toSigned_eq _ _ hw, toSigned_eq _ _ hw]
    congr 1
    rw [← BitVec.ofInt_toInt (x := (BitVec.ofNat w x).srem _), BitVec.toInt_srem]
  unfold remS
  split
  · next h =>
    subst h
    rw [← key, toSigned_eq w 0 hw]
    rw [ofSigned_eq, toSigned_eq w x hw]
    simp
  · split
    · next h =>
      obtain ⟨h1, h2⟩ := by simpa using h
      rw [← key]
      have : toSigned w y = -1 := by
        rw [toSigned_eq _ _ hw]
        have e2 : BitVec.ofNat w y = BitVec.allOnes w := by
          apply BitVec.eq_of_toNat_eq
          rw [BitVec.toNat_ofNat, Nat.mod_eq_of_lt hy, h2]; simp
        rw [e2, BitVec.toInt_allOnes]
        simp [hw]
      rw [this]
      simp [ofSigned]
    · rw [key, Nat.mod_eq_of_lt (BitVec.isLt _)]
end

theorem aluK_result {s : State} (hI : Safety.Inv s) {e : Nat} (hx : Safety.Executes s e) (op d a imm : Nat) (f : Nat → Nat → Nat) (v : Nat)
    (hv : f (engWidth e) (s.reg e a) % 2 ^ engWidth e = v) :
    Safety.IntResult s e d v (Safety.nextPc s e) (.next (opAluK op e d a imm f s)) := by
  unfold opAluK
  rw [opIns_run hx, ← hv]
  exact intResult_done (inv_eng_lt hI hx.1) (inv_eng_ok hI hx.1).regs _ _ _ _ _

theorem immS_eq (e imm : Nat) : immS e imm = ((BitVec.ofNat 16 imm).signExtend (engWidth e)).toNat := by
  unfold immS
  rw [ofSigned_eq, toSigned_eq _ _ (by norm_num)]
  rfl

theorem zext_eq (e imm : Nat) : imm % 65536 = ((BitVec.ofNat 16 imm).zeroExtend (engWidth e)).toNat := by
  rw [BitVec.toNat_setWidth, BitVec.toNat_ofNat]
  refine (Nat.mod_eq_of_lt (?_ : imm % 2 ^ 16 < _)).symm
  refine lt_of_lt_of_le (Nat.mod_lt imm (show 2 ^ 16 > 0 by norm_num)) (Nat.pow_le_pow_right (show 2 > 0 by norm_num) ?_)
  unfold engWidth; split <;> omega

theorem immS_lt (e imm : Nat) : immS e imm < 2 ^ engWidth e := by rw [immS_eq]; exact BitVec.isLt _

theorem ofNat_toNat' {w : Nat} (v : BitVec w) : BitVec.ofNat w v.toNat = v := by simp

theorem toNat_x' {w x : Nat} (hx : x < 2 ^ w) : (BitVec.ofNat w x).toNat = x := by simp [Nat.mod_eq_of_lt hx]

theorem toInt_sext (e imm : Nat) : ((BitVec.ofNat 16 imm).signExtend (engWidth e)).toInt = toSigned 16 imm := by
  rw [toSigned_eq _ _ (by norm_num), BitVec.toInt_signExtend_of_le]
  unfold engWidth; split <;> norm_num

theorem effAddr_eq (s : State) (e a imm : Nat) :
    s.effAddr e a imm = (BitVec.ofNat (engWidth e) (s.reg e a) + (BitVec.ofNat 16 imm).signExtend (engWidth e)).toNat := by
  unfold State.effAddr
  rw [BitVec.toNat_add, toNat_x' (s.reg_lt e a), immS_eq]

theorem load_result {s : State} (hI : Safety.Inv s) {e : Nat} (hx : Safety.Executes s e) (op d a imm n : Nat) (f : Nat → Nat) (v : Nat) (l : Loc)
    (hr : s.reach e (s.effAddr e a imm) n (·.r) = some l ∧ l ≠ .device)
    (hv : f (leNat (s.readLoc e l n)) % 2 ^ engWidth e = v) :
    Safety.IntResult s e d v (Safety.nextPc s e) (loadOutcome op e d a imm n f s) := by
  unfold loadOutcome
  have : (s.reach e (s.effAddr e a imm) n (·.r) == some Loc.device) = false := by
    rw [hr.1]; simp [hr.2]
  rw [this]
  simp only [Bool.and_false, Bool.false_eq_true, if_false]
  unfold opLoad
  rw [opIns_run hx, hr.1, ← hv]
  exact intResult_done (inv_eng_lt hI hx.1) (inv_eng_ok hI hx.1).regs _ _ _ _ _

theorem leNat_lt (l : List Byte) : leNat l < 256 ^ l.length := by
  induction l with
  | nil => simp [leNat]
  | cons a t ih =>
    have := a.isLt
    simp only [leNat, List.length_cons, pow_succ]
    omega

theorem memRead_length (m : List Host.Cell) (a n : Nat) : (memRead m a n).length = n := by
  induction n generalizing a with
  | zero => rfl
  | succ n ih => simp [memRead, ih]

theorem readLoc_length (s : State) (e : Nat) (l : Loc) (n : Nat) (h : l ≠ .device) : (s.readLoc e l n).length = n := by
  cases l <;> simp [State.readLoc, memRead_length] at *

theorem got_lt (s : State) (e : Nat) (l : Loc) (n : Nat) (h : l ≠ .device) : leNat (s.readLoc e l n) < 2 ^ (8 * n) := by
  have := leNat_lt (s.readLoc e l n)
  rw [readLoc_length s e l n h, show (256 : Nat) = 2 ^ 8 by norm_num, ← pow_mul] at this
  exact this

theorem done_eng {s : State} {e : Nat} (he : e < s.engs.eng.length) (word : Nat) (evs : List (Nat × Nat)) (pc : Nat) :
    ∃ p, (s.done e word evs pc).eng e = { s.eng e with pmc := p, pc := pc % 2 ^ engWidth e } ∧
      s.done e word evs pc = ({ s with freeCount := s.freeCount + 1 } : State).onEng e (fun g =>
      { g with pmc := p, pc := pc % 2 ^ engWidth e }) := by
  obtain ⟨p, hp⟩ := s.done_spec e word evs pc
  refine ⟨p, ?_, hp⟩
  rw [hp, State.eng_onEng _ (by simpa using he)]
  rfl

theorem fload_result {s : State} (hI : Safety.Inv s) {e : Nat} (hx : Safety.Executes s e) (hs : isSc e = true) (d a imm : Nat) (l : Loc)
    (hr : s.reach e (s.effAddr e a imm) 8 (·.r) = some l ∧ l ≠ .device) :
    Safety.FloatResult s e d (BitVec.ofNat 64 (leNat (s.readLoc e l 8))).toNat 0 (exec (.dld e d a imm) s) := by
  show Safety.FloatResult _ _ _ _ _ (execDld e d a imm s)
  unfold execDld
  have : (s.reach e (s.effAddr e a imm) 8 (·.r) == some Loc.device) = false := by
    rw [hr.1]; simp [hr.2]
  rw [this]
  simp only [Bool.and_false, Bool.false_eq_true, if_false]
  unfold opFload
  rw [opInsSc_run hx hs, hr.1]
  have he := inv_eng_lt hI hx.1
  obtain ⟨p, h1, h2⟩ := done_eng he (wordK 0x31 d a imm) (accessEvent l false) ((s.eng e).pc + 4)
  refine ⟨_, rfl, ?_, ?_, ?_, ?_, ?_⟩
  all_goals simp only [State.setFreg, State.advance]
  · unfold Safety.OnlyFloat
    rw [h2, State.onEng_onEng, State.eng_onEng _ (by simpa using he)]
    exact State.onEng_congr rfl
  · intro r
    apply State.reg_congr
    rw [State.eng_onEng _ (by rw [h2]; simpa using he), h1]
  · intro r
    unfold State.freg
    rw [State.eng_onEng _ (by rw [h2]; simpa using he), h1]
    have hl : d % 32 < (s.eng e).fregs.length := by rw [(inv_eng_ok hI hx.1).fregs]; omega
    by_cases h : r % 32 = d % 32
    · simp [h, List.getElem?_set_self hl]
    · simp [h, List.getElem?_set_ne (fun k => h (Eq.symm k))]
  · rw [State.eng_onEng _ (by rw [h2]; simpa using he), h1]; simp
  · rw [State.eng_onEng _ (by rw [h2]; simpa using he), h1]; rfl

theorem within_some {x n y i : Nat} (h : Safety.within x n y = some i) : y = x + i ∧ i < n := by
  unfold Safety.within at h
  split at h
  · next k => obtain ⟨k1, k2⟩ := k; cases h; omega
  · cases h

theorem within_none {x n y : Nat} (h : Safety.within x n y = none) : y < x ∨ x + n ≤ y := by
  unfold Safety.within at h
  split at h
  · cases h
  · omega

theorem leBytes_length (n v : Nat) : (leBytes n v).length = n := by
  induction n generalizing v with
  | zero => rfl
  | succ n ih => simp [leBytes, ih]

theorem leBytes_get (n v i : Nat) (h : i < n) : (leBytes n v)[i]'(by rw [leBytes_length]; exact h) = BitVec.ofNat 8 (v / 256 ^ i) := by
  induction n generalizing v i with
  | zero => omega
  | succ n ih =>
    cases i with
    | zero => simp [leBytes]
    | succ i =>
      simp only [leBytes, List.getElem_cons_succ]
      rw [ih _ _ (by omega), Nat.div_div_eq_div_mul, pow_succ']

theorem byte_write {m : List Host.Cell} (hm : memWf m = true) (x n v y : Nat) :
    memGet (memWrite m x (leBytes n v)) y = match Safety.within x n y with
      | some i => BitVec.ofNat 8 (v / 256 ^ i)
      | none => memGet m y := by
  have hm := (memWf_iff _).mp hm
  cases h : Safety.within x n y with
  | some i =>
    obtain ⟨rfl, hi⟩ := within_some h
    have := memGet_memWrite hm x i (leBytes n v) (by rw [leBytes_length]; exact hi)
    rw [this]
    exact leBytes_get n v i hi
  | none => exact memGet_memWrite_ne hm x y _ (by rw [leBytes_length]; exact within_none h)

theorem eng_onEng_ne (s : State) (e k : Nat) (f : Eng → Eng) (h : k ≠ e) : (s.onEng e f).eng k = s.eng k := by
  unfold State.eng State.onEng
  exact getD_upd_ne f e k _ _ h

/-- Writing at a place stores the bytes there, and nothing else. -/
theorem writeLoc_stores {s : State} (hI : Safety.Inv s) (e : Nat) (he : e < 36) (l : Loc) (n v : Nat) :
    Safety.Stores s (s.writeLoc e l (leBytes n v)) e l n v := by
  have hlen : e < s.engs.eng.length := by rw [hI.engs.count]; exact he
  have hok : Safety.EngOk (s.eng e) := by
    unfold State.eng
    rw [List.getD_eq_getElem _ _ hlen]
    exact hI.engs.each _ (List.getElem_mem hlen)
  intro k q hk
  have hd := byte_write hok.dmem
  have hw := byte_write hok.windows
  have hs := byte_write hI.engs.sram
  have hr := byte_write hI.engs.dram
  cases l with
  | dmem x =>
    by_cases h : k = e
    · subst h
      cases q <;> simp [State.writeLoc, Safety.byteAt, Safety.storedByte, State.eng_onEng _ hlen, hd] <;> rfl
    · cases q <;> simp [State.writeLoc, Safety.byteAt, Safety.storedByte, eng_onEng_ne _ _ _ _ h, h]
  | window x =>
    by_cases h : k = e
    · subst h
      cases q <;> simp [State.writeLoc, Safety.byteAt, Safety.storedByte, State.eng_onEng _ hlen, hw] <;> rfl
    · cases q <;> simp [State.writeLoc, Safety.byteAt, Safety.storedByte, eng_onEng_ne _ _ _ _ h, h]
  | sram x => 
    cases q <;> simp [State.writeLoc, Safety.byteAt, Safety.storedByte, hs, State.eng] <;> rfl
  | dram x => 
    cases q <;> simp [State.writeLoc, Safety.byteAt, Safety.storedByte, hr, State.eng] <;> rfl
  | device => cases q <;> simp [State.writeLoc, Safety.byteAt, Safety.storedByte]


/-- Writing at a place changes the memories that the engine can write, and nothing else. -/
theorem writeLoc_only (s : State) (e : Nat) (l : Loc) (b : List Byte) :
    ∃ dm wn sr dr, s.writeLoc e l b = ({ s with engs := { s.engs with sram := sr, dram := dr } } : State).onEng e (fun g =>
      { g with dmem := dm, windows := wn }) := by
  cases l with
  | dmem x => exact ⟨memWrite (s.eng e).dmem x b, (s.eng e).windows, s.engs.sram, s.engs.dram, State.onEng_congr rfl⟩
  | window x => exact ⟨(s.eng e).dmem, memWrite (s.eng e).windows x b, s.engs.sram, s.engs.dram, State.onEng_congr rfl⟩
  | sram x => 
    refine ⟨(s.eng e).dmem, (s.eng e).windows, memWrite s.engs.sram x b, s.engs.dram, ?_⟩
    rw [State.onEng_congr (g := fun g => g), State.onEng_id]
    · rfl
    · rfl
  | dram x => 
    refine ⟨(s.eng e).dmem, (s.eng e).windows, s.engs.sram, memWrite s.engs.dram x b, ?_⟩
    rw [State.onEng_congr (g := fun g => g), State.onEng_id]
    · rfl
    · rfl
  | device => 
    refine ⟨(s.eng e).dmem, (s.eng e).windows, s.engs.sram, s.engs.dram, ?_⟩
    rw [State.onEng_congr (g := fun g => g), State.onEng_id]
    · rfl
    · rfl

theorem byteAt_congr {s t : State} (h1 : t.engs.sram = s.engs.sram) (h2 : t.engs.dram = s.engs.dram)
    (h3 : ∀ k, (t.eng k).dmem = (s.eng k).dmem) (h4 : ∀ k, (t.eng k).windows = (s.eng k).windows) (k : Nat) (q : Loc) :
    Safety.byteAt t k q = Safety.byteAt s k q := by
  cases q <;> simp [Safety.byteAt, *]

theorem eng_onEng_proj {α : Type} {s : State} {e : Nat} {f : Eng → Eng} (p : Eng → α) (h : ∀ g, p (f g) = p g) (k : Nat) :
    p ((s.onEng e f).eng k) = p (s.eng k) := by
  by_cases hk : k = e
  · subst hk
    by_cases hl : k < s.engs.eng.length
    · rw [State.eng_onEng _ hl, h]
    · unfold State.eng
      simp only [State.onEng, List.getD_eq_getElem?_getD]
      rw [List.getElem?_eq_none (by rw [upd_length]; omega), List.getElem?_eq_none (by omega)]
  · rw [eng_onEng_ne _ _ _ _ hk]

theorem byteAt_onEng {s : State} {e : Nat} {f : Eng → Eng} (h1 : ∀ g, (f g).dmem = g.dmem) (h2 : ∀ g, (f g).windows = g.windows)
    (k : Nat) (q : Loc) : Safety.byteAt (s.onEng e f) k q = Safety.byteAt s k q := by
  apply byteAt_congr
  · rfl
  · rfl
  · exact eng_onEng_proj (·.dmem) h1
  · exact eng_onEng_proj (·.windows) h2

theorem mem_core {s : State} (hI : Safety.Inv s) {e : Nat} (he : e < 36) (k : Nat) (p : Pmc) (pc : Nat)
    (l : Loc) (n m d v : Nat) :
    let u := ({ s with freeCount := k } : State).onEng e (fun g => { g with pmc := p, pc := pc % 2 ^ engWidth e })
    let t := (u.writeLoc e l (leBytes n m)).setReg e d v
    Safety.OnlyMem s t e ∧ Safety.Stores s t e l n m ∧ Safety.Writes s t e d (v % 2 ^ engWidth e) ∧
      (t.eng e).pc = pc % 2 ^ engWidth e := by
  intro u t
  have hl : e < s.engs.eng.length := by rw [hI.engs.count]; exact he
  have hok : Safety.EngOk (s.eng e) := by
    unfold State.eng
    rw [List.getD_eq_getElem _ _ hl]
    exact hI.engs.each _ (List.getElem_mem hl)
  have h2 : u = ({ s with freeCount := k } : State).onEng e (fun g => { g with pmc := p, pc := pc % 2 ^ engWidth e }) := rfl
  have h1 : u.eng e = { s.eng e with pmc := p, pc := pc % 2 ^ engWidth e } := by
    rw [h2, State.eng_onEng _ (by simpa using hl)]; rfl
  have hI2 : Safety.Inv u := by
    rw [h2]
    exact { hI with engs := ⟨by simpa using hI.engs.count, mem_upd (fun g hg => ⟨hg.regs, hg.fregs, hg.prot, hg.imem, hg.dmem, hg.windows⟩) _ _ hI.engs.each, hI.engs.tack, hI.engs.sram, hI.engs.dram⟩ }
  have hl2 : e < u.engs.eng.length := by rw [hI2.engs.count]; exact he
  obtain ⟨dm, wn, sr, dr, hw⟩ := writeLoc_only u e l (leBytes n m)
  have hl3 : e < (u.writeLoc e l (leBytes n m)).engs.eng.length := by rw [hw]; simpa using hl2
  have hgw : (u.writeLoc e l (leBytes n m)).eng e =
      { s.eng e with pmc := p, pc := pc % 2 ^ engWidth e, dmem := dm, windows := wn } := by
    rw [hw, State.eng_onEng _ (by simpa using hl2)]
    show ({ u.eng e with dmem := dm, windows := wn } : Eng) = _
    rw [h1]
  obtain ⟨rl, hr, -⟩ := State.setReg_spec (u.writeLoc e l (leBytes n m)) e d v
  have hg : t.eng e = { s.eng e with pmc := p, pc := pc % 2 ^ engWidth e, dmem := dm, windows := wn, regs := rl } := by
    show (State.setReg _ _ _ _).eng e = _
    rw [hr, State.eng_onEng _ hl3, hgw]
  refine ⟨?_, ?_, ?_, ?_⟩
  · unfold Safety.OnlyMem
    have ht : t = ({ s with freeCount := k, engs := { s.engs with sram := sr, dram := dr } } : State).onEng e (fun g =>
        { g with pmc := p, pc := pc % 2 ^ engWidth e, dmem := dm, windows := wn, regs := rl }) := by
      show State.setReg _ _ _ _ = _
      rw [hr, hw, h2]
      simp only [State.onEng, upd_upd]
    have f1 : t.freeCount = k := by rw [ht]; rfl
    have f2 : t.engs.sram = sr := by rw [ht]; rfl
    have f3 : t.engs.dram = dr := by rw [ht]; rfl
    rw [hg, f1, f2, f3]
    exact ht
  · intro j q hk
    have := writeLoc_stores hI2 e he l n m j q hk
    have c1 : Safety.byteAt t j q = Safety.byteAt (u.writeLoc e l (leBytes n m)) j q := by
      show Safety.byteAt (State.setReg _ _ _ _) j q = _
      rw [hr]
      refine (byteAt_onEng ?_ ?_ j q).trans ?_
      · intro g; rfl
      · intro g; rfl
      · cases q <;> rfl
    have c2 : Safety.byteAt u j q = Safety.byteAt s j q := by
      rw [h2]
      refine (byteAt_onEng ?_ ?_ j q).trans ?_
      · intro g; rfl
      · intro g; rfl
      · cases q <;> rfl
    rw [c1, this, c2]
  · intro r
    show (State.setReg _ _ _ _).reg e r = _
    rw [State.reg_setReg hl3 (by rw [hgw]; exact hok.regs)]
    rw [State.reg_congr (s := s) (by rw [hgw])]
  · rw [hg]

theorem mem_result {s : State} (hI : Safety.Inv s) {e : Nat} (he : e < 36) (word : Nat) (evs : List (Nat × Nat)) (pc : Nat)
    (l : Loc) (n m d v : Nat) :
    let t := ((s.done e word evs pc).writeLoc e l (leBytes n m)).setReg e d v
    Safety.OnlyMem s t e ∧ Safety.Stores s t e l n m ∧ Safety.Writes s t e d (v % 2 ^ engWidth e) ∧
      (t.eng e).pc = pc % 2 ^ engWidth e := by
  obtain ⟨p, hp⟩ := State.done_spec s e word evs pc
  rw [hp]
  exact mem_core hI he _ p pc l n m d v

theorem mem_result0 {s : State} (hI : Safety.Inv s) {e : Nat} (he : e < 36) (word : Nat) (evs : List (Nat × Nat)) (pc : Nat)
    (l : Loc) (n m : Nat) :
    let t := (s.done e word evs pc).writeLoc e l (leBytes n m)
    Safety.OnlyMem s t e ∧ Safety.Stores s t e l n m ∧ (∀ r, t.reg e r = s.reg e r) ∧ (t.eng e).pc = pc % 2 ^ engWidth e := by
  intro t
  obtain ⟨h1, h2, h3, h4⟩ := mem_result hI he word evs pc l n m 0 0
  have hd : ((s.done e word evs pc).writeLoc e l (leBytes n m)).setReg e 0 0 = t := rfl
  rw [hd] at h1 h2 h3 h4
  exact ⟨h1, h2, fun r => by simpa using h3 r, h4⟩

theorem store_result {s : State} (hI : Safety.Inv s) {e : Nat} (hx : Safety.Executes s e) (op b a imm n v : Nat) (l : Loc)
    (hr : s.reach e (s.effAddr e a imm) n (·.w) = some l ∧ l ≠ .device) :
    ∃ t, storeOutcome op e b a imm n v s = .next t ∧ Safety.OnlyMem s t e ∧ Safety.Stores s t e l n v ∧
      (∀ r, t.reg e r = s.reg e r) ∧ (t.eng e).pc = Safety.nextPc s e := by
  unfold storeOutcome
  have : (s.reach e (s.effAddr e a imm) n (·.w) == some Loc.device) = false := by
    rw [hr.1]; simp [hr.2]
  rw [this]
  simp only [Bool.and_false, Bool.false_eq_true, if_false]
  unfold opStore
  rw [opIns_run hx, hr.1]
  exact ⟨_, rfl, mem_result0 hI (engRuns_lt hx.1) _ _ _ l n v⟩

theorem atomic_result {s : State} (hI : Safety.Inv s) {e : Nat} (hx : Safety.Executes s e) (d a b fn : Nat) (f : Nat → Nat → Nat) (v : Nat)
    (l : Loc) (hr : s.reach e (s.reg e a) (engWidth e / 8) (fun x => x.r && x.w) = some l ∧ ((∃ o, l = .sram o) ∨ ∃ x, l = .dram x))
    (hv : f (s.reg e b) (leNat (s.readLoc e l (engWidth e / 8))) % 2 ^ engWidth e = v) :
    ∃ t, Host.Outcome.next (opAtomic e d a b fn f s) = (.next t : Host.Outcome State Fault Refusal) ∧ Safety.OnlyMem s t e ∧ Safety.Stores s t e l (engWidth e / 8) v ∧
      Safety.Writes s t e d (leNat (s.readLoc e l (engWidth e / 8))) ∧ (t.eng e).pc = Safety.nextPc s e := by
  have hb : leNat (s.readLoc e l (engWidth e / 8)) % 2 ^ engWidth e = leNat (s.readLoc e l (engWidth e / 8)) := by
    apply Nat.mod_eq_of_lt
    have := got_lt s e l (engWidth e / 8) (by rcases hr.2 with ⟨o, rfl⟩ | ⟨o, rfl⟩ <;> simp)
    have h8 : 8 * (engWidth e / 8) = engWidth e := by unfold engWidth; split <;> norm_num
    rwa [h8] at this
  unfold opAtomic
  rw [opIns_run hx, hr.1]
  have k := fun l evs => mem_result hI (engRuns_lt hx.1) (wordR 0x1C d a b fn) evs ((s.eng e).pc + 4) l (engWidth e / 8) v d (leNat (s.readLoc e l (engWidth e / 8)))
  rcases hr.2 with ⟨o, rfl⟩ | ⟨o, rfl⟩
  · have k := k (.sram o) ((0x0D, 1) :: accessEvent (.sram o) false)
    rw [hb, ← hv] at k
    rw [← hv]
    exact ⟨_, rfl, k⟩
  · have k := k (.dram o) ((0x0D, 1) :: accessEvent (.dram o) false)
    rw [hb, ← hv] at k
    rw [← hv]
    exact ⟨_, rfl, k⟩

theorem target_eq (s : State) (e n off : Nat) (hn : 0 < n) :
    s.target e n off = (BitVec.ofInt (engWidth e) (((s.eng e).pc : Int) + 4 * (BitVec.ofNat n off).toInt)).toNat := by
  unfold State.target
  rw [ofSigned_eq, toSigned_eq _ _ hn]

end Sys2Proof.Machine
end

