-- ==== Sys2Proof/Laws/EngineFlow.lean ====
section
/-!
SUPPORT. What the control flow of the engines leaves: instructions of an engine that does not run, stalls, traps, record queues, and the
floating-point results.
-/
set_option Elab.async false
namespace Sys2Proof.Machine

/-- A register holds 32 bits at least. -/
theorem pow32_le (e : Nat) : 2 ^ 32 ≤ 2 ^ engWidth e := Nat.pow_le_pow_right (by norm_num) (by unfold engWidth; split <;> omega)

/-- The saturating sum of two girths. -/
theorem gsum_two (x y : Nat) : gsum [x, y] = min 0xFFFFFFFF (x + y) := by
  unfold gsum
  by_cases h : girthUnknown ≤ x ∨ girthUnknown ≤ y
  · have : [x, y].any (girthUnknown ≤ ·) = true := by simpa using h
    rw [this]
    simp only [girthUnknown] at *
    simp only [if_true]
    omega
  · have : [x, y].any (girthUnknown ≤ ·) = false := by simpa using h
    rw [this]
    simp [girthUnknown]

/-- An instruction that stalls its engine. -/
theorem stalls {s : State} (hI : Safety.Inv s) {e : Nat} (hx : Safety.Executes s e) (word : Nat) (w : Stall) (ev : Nat → Nat) :
    let t := (s.retire e word [] false).onEng e (fun g => { g with stall := w, events := ev g.events })
    Safety.OnlyStall s t e ∧ (t.eng e).stall = w ∧ (t.eng e).events = ev (s.eng e).events := by
  intro t
  obtain ⟨p, hp⟩ := State.retire_spec s e word [] false
  have hl := inv_eng_lt hI hx.1
  have ht : t = ({ s with freeCount := s.freeCount + 1 } : State).onEng e (fun g => { g with pmc := p, stall := w, events := ev g.events }) := by
    show State.onEng _ _ _ = _
    rw [hp, State.onEng_onEng]
  have hg : t.eng e = { s.eng e with pmc := p, stall := w, events := ev (s.eng e).events } := by
    rw [ht, State.eng_onEng _ (by simpa using hl)]; rfl
  refine ⟨?_, by rw [hg], by rw [hg]⟩
  unfold Safety.OnlyStall
  have f1 : t.freeCount = s.freeCount + 1 := by rw [ht]; rfl
  rw [hg, f1]
  exact ht.trans (State.onEng_congr rfl)

/-- The records of every queue after one is replaced. -/
theorem recs_setQueue (s : State) (q : Nat) (l : List (List Byte × Bool)) (due : Bool) (k : Nat) :
    (s.setQueue q l due).recs k = if k = q then l else s.recs k := by
  have hf : ∀ (L : List RecQueue) (p : RecQueue → Bool), (∀ x, x.num = k → p x = true) → (L.filter p).find? (·.num == k) = L.find? (·.num == k) := by
    intro L p hp
    induction L with
    | nil => rfl
    | cons x t ih =>
      by_cases hx : x.num = k
      · rw [List.filter_cons_of_pos (hp x hx), List.find?_cons_of_pos (by simp [hx]), List.find?_cons_of_pos (by simp [hx])]
      · rw [List.find?_cons_of_neg (by simp [hx]), List.filter_cons]
        split
        · rw [List.find?_cons_of_neg (by simp [hx]), ih]
        · exact ih
  have hn : ∀ (L : List RecQueue) (p : RecQueue → Bool), (∀ x, x.num = k → p x = false) → (L.filter p).find? (·.num == k) = none := by
    intro L p hp
    rw [List.find?_eq_none]
    intro x hx hk
    rw [List.mem_filter] at hx
    have := hp x (by simpa using hk)
    rw [this] at hx
    cases hx.2
  unfold State.recs State.setQueue
  dsimp only
  by_cases h : k = q
  · subst h
    rw [if_pos rfl]
    split <;> rename_i hc <;> rename_i hd
    · split at hc
      · rw [hn _ _ (by intro x hx; simp [hx])] at hc
        cases hc
      · rw [List.find?_append, List.find?_append, List.filter_filter, hn _ _ (by intro x hx; simp [hx])] at hc
        simp at hc
        subst hc
        rfl
    · split at hc
      · next q => simp at q; exact q.1.symm
      · rw [List.find?_append, List.find?_append] at hc
        simp at hc
  · rw [if_neg h]
    congr 1
    split
    · exact hf _ _ (by intro x hx; simp [hx, h])
    · rw [List.find?_append, List.find?_append, List.filter_filter, List.filter_filter]
      rw [List.find?_cons_of_neg (by simp; exact fun k => h k.symm), List.find?_nil, Option.or_none]
      by_cases hlt : k < q
      · rw [hf _ _ (by intro x hx; simp [hx, h, hlt]), hn _ _ (by intro x hx; simp [hx]; omega)]
        simp
      · rw [hn _ _ (by intro x hx; simp [hx]; omega), hf _ _ (by intro x hx; simp [hx]; omega)]
        simp

/-- The records depend on the queues and the doorbell alone. -/
theorem qRecs_congr {s t : State} (h1 : t.engs.queues = s.engs.queues) (h2 : t.engs.doorbell = s.engs.doorbell) (k : Nat) :
    t.qRecs k = s.qRecs k := by
  unfold State.qRecs State.recs
  rw [h1, h2]

/-- What engine updates keep, a register write keeps. -/
theorem setReg_proj {α : Type} (p : State → α) (hp : ∀ s e f, p (State.onEng s e f) = p s) (s : State) (e d v : Nat) :
    p (s.setReg e d v) = p s := by
  unfold State.setReg
  split
  · rfl
  · exact hp _ _ _

/-- What engine updates keep, an instruction that retires keeps. -/
theorem done_proj {α : Type} (p : State → α) (hp : ∀ s e f, p (State.onEng s e f) = p s) (hf : ∀ (s : State) n, p { s with freeCount := n } = p s)
    (s : State) (e word : Nat) (evs : List (Nat × Nat)) (pc : Nat) : p (s.done e word evs pc) = p s := by
  obtain ⟨q, h⟩ := State.done_spec s e word evs pc
  rw [h, hp, hf]

/-- An event changes the waiting events of an engine and nothing else. -/
theorem eng_map_event (s : State) (k : Nat) : ∃ ev, (({ s with engs := { s.engs with eng := s.engs.eng.map (fun g => g.event 1) } } : State).eng k) = { s.eng k with events := ev } := by
  unfold State.eng
  dsimp only
  rw [List.getD_eq_getElem?_getD, List.getD_eq_getElem?_getD, List.getElem?_map]
  cases s.engs.eng[k]? with
  | none => exact ⟨Eng.init.events, rfl⟩
  | some g =>
    dsimp
    unfold Eng.event
    split
    · exact ⟨_, rfl⟩
    · exact ⟨g.events, rfl⟩

/-- An engine that does not run does nothing. -/
theorem opIns_stopped {s : State} {e : Nat} (h : s.engRuns e = false) (word : Nat) (f : State → State) : opIns e word f s = s := by
  simp [opIns, h]

/-- A program counter outside executable memory traps ACCESS. -/
theorem opIns_badPc {s : State} {e : Nat} (h : s.engRuns e = true) (k : s.pcOk e = false) (word : Nat) (f : State → State) :
    opIns e word f s = s.trapIns e word 2 := by
  simp [opIns, h, k]

/-- The engine after its counters have counted. -/
theorem pmcEvents_eng {s : State} {e : Nat} (he : e < s.engs.eng.length) (evs : List (Nat × Nat)) :
    ∃ p, s.pmcEvents e evs = s.onEng e (fun g => { g with pmc := p }) ∧ (s.pmcEvents e evs).eng e = { s.eng e with pmc := p } := by
  obtain ⟨p, hp⟩ := State.pmcEvents_spec s e evs
  refine ⟨p, hp, ?_⟩
  rw [hp, State.eng_onEng _ he]

/-- A trap outside the paddock enters the handler. -/
theorem trap_enters {s : State} {e : Nat} (he : e < s.engs.eng.length) (hp : s.inPaddock e = false) (c k : Nat) (p0 : Pmc) :
    Safety.Enters s e c (.next (State.trap (({ s with freeCount := k } : State).onEng e (fun g => { g with pmc := p0 })) e c)) := by
  generalize hv : (({ s with freeCount := k } : State).onEng e (fun g => { g with pmc := p0 }) : State) = v
  have hl : e < v.engs.eng.length := by rw [← hv]; simpa using he
  have hg : v.eng e = { s.eng e with pmc := p0 } := by rw [← hv, State.eng_onEng _ (by simpa using he)]; rfl
  have hpv : v.inPaddock e = false := by
    unfold State.inPaddock at *
    rw [hg]; exact hp
  obtain ⟨p, h1, h2⟩ := pmcEvents_eng hl [(0x15, 1)]
  have ht : State.trap v e c = ({ s with freeCount := k } : State).onEng e (fun g => { g with pmc := p, cause := c, trapPc := (s.eng e).pc, stall := .none, pc := g.trapBase, lastCause := c }) := by
    unfold State.trap
    dsimp only
    rw [h1]
    have : State.inPaddock ((v.onEng e (fun g => { g with pmc := p })).onEng e (fun g => { g with cause := c, trapPc := (v.eng e).pc, stall := .none })) e = false := by
      unfold State.inPaddock at *
      rw [State.onEng_onEng, State.eng_onEng _ hl]
      exact hpv
    rw [this]
    simp only [Bool.false_eq_true, if_false, State.onEng_onEng]
    rw [hg]
    rw [← hv]
    simp only [State.onEng_onEng]
  have hgt : (State.trap v e c).eng e = { s.eng e with pmc := p, cause := c, trapPc := (s.eng e).pc, stall := .none, pc := (s.eng e).trapBase, lastCause := c } := by
    rw [ht, State.eng_onEng _ (by simpa using he)]; rfl
  refine ⟨_, rfl, ?_, by rw [hgt], by rw [hgt], by rw [hgt], by rw [hgt], by rw [hgt]⟩
  unfold Safety.OnlyTrap
  have f1 : (State.trap v e c).freeCount = k := by rw [ht]; rfl
  rw [hgt, f1]
  rw [ht]
  exact State.onEng_congr rfl

/-- An instruction that traps outside the paddock enters the handler. -/
theorem trapIns_enters {s : State} {e : Nat} (he : e < s.engs.eng.length) (hp : s.inPaddock e = false) (word c : Nat) :
    Safety.Enters s e c (.next (s.trapIns e word c)) := by
  unfold State.trapIns
  obtain ⟨p, h⟩ := State.retire_spec s e word [] true
  rw [h]
  exact trap_enters he hp c _ p

/-- An operation with its result in fd. -/
theorem float_frame {s : State} (hI : Safety.Inv s) {e : Nat} (hx : Safety.Executes s e) (word k : Nat) (d v fl : Nat) :
    let t := ((({ s with freeCount := k } : State).advance e word []).setFreg e d v).stick e fl
    Safety.FloatResult s e d (v % 2 ^ 64) fl (.next t) := by
  intro t
  have hl := inv_eng_lt hI hx.1
  have hok := inv_eng_ok hI hx.1
  obtain ⟨p, h1, h2⟩ := done_eng (s := { s with freeCount := k }) hl word [] ((s.eng e).pc + 4)
  have ht : t = ({ s with freeCount := k + 1 } : State).onEng e (fun g => { g with pmc := p, pc := ((s.eng e).pc + 4) % 2 ^ engWidth e, fregs := g.fregs.set (d % 32) (BitVec.ofNat 64 v), fpstat := (g.fpstat ||| fl) }) := by
    show State.stick (State.setFreg (State.done _ _ _ _ _) _ _ _) _ _ = _
    show State.stick (State.setFreg (State.done _ _ _ _ ((s.eng e).pc + 4)) _ _ _) _ _ = _
    rw [h2]
    simp only [State.stick, State.setFreg, State.onEng_onEng]
  have hg : t.eng e = { s.eng e with pmc := p, pc := ((s.eng e).pc + 4) % 2 ^ engWidth e, fregs := (s.eng e).fregs.set (d % 32) (BitVec.ofNat 64 v), fpstat := ((s.eng e).fpstat ||| fl) } := by
    rw [ht, State.eng_onEng _ (by simpa using hl)]
    rfl
  refine ⟨t, rfl, ?_, ?_, ?_, ?_, ?_⟩
  · unfold Safety.OnlyFloat
    have f1 : t.freeCount = k + 1 := by rw [ht]; rfl
    rw [hg, f1]
    exact ht.trans (State.onEng_congr rfl)
  · intro r
    apply State.reg_congr
    rw [hg]
  · intro r
    unfold State.freg
    rw [hg]
    have hd : d % 32 < (s.eng e).fregs.length := by rw [hok.fregs]; omega
    by_cases h : r % 32 = d % 32
    · simp [h, List.getElem?_set_self hd]
    · simp [h, List.getElem?_set_ne (fun k => h (Eq.symm k))]
  · rw [hg]
  · rw [hg]; rfl

/-- An operation on floating-point registers with its result in gd. -/
theorem float_to_int {s : State} (hI : Safety.Inv s) {e : Nat} (hx : Safety.Executes s e) (word k : Nat) (d v fl : Nat) :
    let t := ((({ s with freeCount := k } : State).advance e word []).setReg e d v).stick e fl
    Safety.FloatToInt s e d (v % 2 ^ engWidth e) fl (.next t) := by
  intro t
  have hl := inv_eng_lt hI hx.1
  have hok := inv_eng_ok hI hx.1
  obtain ⟨p, h1, h2⟩ := done_eng (s := { s with freeCount := k }) hl word [] ((s.eng e).pc + 4)
  have hl2 : e < (({ s with freeCount := k } : State).advance e word []).engs.eng.length := by
    show e < (State.done _ _ _ _ ((s.eng e).pc + 4)).engs.eng.length
    rw [h2]; simpa using hl
  obtain ⟨l, hr, -⟩ := State.setReg_spec (({ s with freeCount := k } : State).advance e word []) e d v
  have hW := fun r => State.reg_setReg (s := (({ s with freeCount := k } : State).advance e word [])) hl2 (by
    show ((State.done _ _ _ _ ((s.eng e).pc + 4)).eng e).regs.length = 32
    rw [h1]; exact hok.regs) d v r
  have ht : t = ({ s with freeCount := k + 1 } : State).onEng e (fun g => { g with pmc := p, pc := ((s.eng e).pc + 4) % 2 ^ engWidth e, regs := l, fpstat := (g.fpstat ||| fl) }) := by
    show State.stick (State.setReg (State.advance _ _ _ _) _ _ _) _ _ = _
    rw [hr]
    show State.stick (State.onEng (State.done _ _ _ _ ((s.eng e).pc + 4)) _ _) _ _ = _
    rw [h2]
    simp only [State.stick, State.onEng_onEng]
  have hg : t.eng e = { s.eng e with pmc := p, pc := ((s.eng e).pc + 4) % 2 ^ engWidth e, regs := l, fpstat := ((s.eng e).fpstat ||| fl) } := by
    rw [ht, State.eng_onEng _ (by simpa using hl)]
    rfl
  refine ⟨t, rfl, ?_, ?_, ?_, ?_, ?_⟩
  · unfold Safety.OnlyFloat
    have f1 : t.freeCount = k + 1 := by rw [ht]; rfl
    rw [hg, f1]
    exact ht.trans (State.onEng_congr rfl)
  · intro r
    have e1 : t.reg e r = (State.setReg (({ s with freeCount := k } : State).advance e word []) e d v).reg e r := by
      apply State.reg_congr
      show ((State.stick (State.setReg _ _ _ _) _ _).eng e).regs = _
      unfold State.stick
      refine eng_onEng_proj (·.regs) ?_ e
      intro g; rfl
    rw [e1, hW]
    have e2 : (({ s with freeCount := k } : State).advance e word []).reg e r = s.reg e r := by
      apply State.reg_congr
      show ((State.done _ _ _ _ ((s.eng e).pc + 4)).eng e).regs = _
      rw [h1]
      rfl
    rw [e2]
  · intro r
    unfold State.freg
    rw [hg]
  · rw [hg]
  · rw [hg]; rfl

/-- An instruction of the paddock that traps, up to where the ways part. -/
theorem trapIns_eq {s : State} {e : Nat} (he : e < s.engs.eng.length) (word c j : Nat) (hp : s.inPaddock e = true) (hj : tackIndex e = some j) :
    ∃ p, s.trapIns e word c =
      (let v := ({ s with freeCount := s.freeCount + 1 } : State).onEng e (fun g => { g with pmc := p, cause := c, trapPc := (s.eng e).pc, stall := .none })
       if c = 5 then (v.tackStop j 5 5 (s.eng e).pc).onEng e (fun g => { g with lastCause := 5 })
       else if c = 6 && s.vault.lc == .debug then v.onEng e (fun g => { g with halted := true, lastCause := 6 })
       else v.violation e j c (s.eng e).pc) := by
  obtain ⟨p0, h0⟩ := State.retire_spec s e word [] true
  have hl0 : e < (({ s with freeCount := s.freeCount + 1 } : State).onEng e (fun g => { g with pmc := p0 })).engs.eng.length := by simpa using he
  have g0 : (({ s with freeCount := s.freeCount + 1 } : State).onEng e (fun g => { g with pmc := p0 })).eng e = { s.eng e with pmc := p0 } := by
    rw [State.eng_onEng _ (by simpa using he)]; rfl
  obtain ⟨p, h1, h2⟩ := pmcEvents_eng hl0 [(0x15, 1)]
  refine ⟨p, ?_⟩
  unfold State.trapIns State.trap
  dsimp only
  rw [h0, h1, g0]
  have : State.inPaddock (((({ s with freeCount := s.freeCount + 1 } : State).onEng e (fun g => { g with pmc := p0 })).onEng e (fun g => { g with pmc := p })).onEng e (fun g => { g with cause := c, trapPc := (s.eng e).pc, stall := .none })) e = true := by
    unfold State.inPaddock at *
    rw [State.onEng_onEng, State.onEng_onEng, State.eng_onEng _ (by simpa using he)]
    exact hp
  rw [this]
  simp only [if_true, hj, State.onEng_onEng]
  rfl

/-- What RDC leaves. -/
theorem rdc_result {s : State} (hI : Safety.Inv s) {e : Nat} (hx : Safety.Executes s e) (d n v : Nat) (hn : n < 65536)
    (h1 : s.csrCause e n false = 0) (h2 : ∃ p, s.csrRead e n = (s.onEng e (fun g => { g with pmc := p }), v)) :
    Safety.IntResult s e d (v % 2 ^ engWidth e) (Safety.nextPc s e) (exec (.rdc e d n) s) := by
  show Safety.IntResult _ _ _ _ _ (.next (opRdc e d n s))
  obtain ⟨p, h2⟩ := h2
  unfold opRdc
  dsimp only
  rw [opIns_run hx, Nat.mod_eq_of_lt hn, h1, h2]
  simp only [bne_self_eq_false, Bool.false_eq_true, if_false]
  have hl := inv_eng_lt hI hx.1
  have hl2 : e < (s.onEng e (fun g => { g with pmc := p })).engs.eng.length := by simpa using hl
  have hg : (s.onEng e (fun g => { g with pmc := p })).eng e = { s.eng e with pmc := p } := State.eng_onEng _ hl
  obtain ⟨t, k1, k2, k3, k4⟩ := intResult_done hl2 (by rw [hg]; exact (inv_eng_ok hI hx.1).regs) (wordK 0x3B d 0 n) [] (((s.onEng e (fun g => { g with pmc := p })).eng e).pc + 4) d v
  refine ⟨t, k1, ?_, ?_, ?_⟩
  · unfold Safety.OnlyInt at *
    rw [show ({ s.onEng e (fun g => { g with pmc := p }) with freeCount := t.freeCount } : State) = ({ s with freeCount := t.freeCount } : State).onEng e (fun g => { g with pmc := p }) from rfl, State.onEng_onEng] at k2
    exact k2
  · intro r
    rw [k3 r, State.reg_congr (s := s) (by rw [hg])]
  · rw [k4, hg]; rfl

/-- What WRC leaves, but for PMOVF, which the events of its own cycle may set again (R366). -/
theorem wrc_result {u : State} (hI : Safety.Inv u) {e : Nat} (hx : Safety.Executes u e) (a n : Nat) (hn : n < 65536) (hq : n ≠ 0x119) (f : Eng → Eng)
    (h1 : u.csrCause e n true = 0) (h2 : ∀ w : State, w.tb.lc = u.tb.lc → w.csrWrite e n (u.reg e a) = w.onEng e f) :
    ∃ p k, Host.Outcome.next (opWrc e a n u) = (.next (({ u with freeCount := k } : State).onEng e (fun g => f { g with pmc := p, pc := Safety.nextPc u e })) : Host.Outcome State Fault Refusal) := by
  unfold opWrc
  dsimp only
  rw [opIns_run hx, Nat.mod_eq_of_lt hn, h1]
  simp only [bne_self_eq_false, Bool.false_eq_true, if_false, if_neg hq]
  obtain ⟨p, hp⟩ := State.done_spec u e (wordK 0x3C 0 a n) [] ((u.eng e).pc + 4)
  refine ⟨p, u.freeCount + 1, ?_⟩
  have : u.advance e (wordK 0x3C 0 a n) [] = _ := hp
  rw [h2 _ (by rw [this]; rfl), this, State.onEng_onEng]
  rfl

end Sys2Proof.Machine
end

