-- ==== Sys2Proof/Laws/Keeps.lean ====
section
/-!
SUPPORT. What every operation of the block leaves: the queue of waiting commands is the same, and the invariant still holds.
-/
set_option Elab.async false
namespace Sys2Proof.Machine

/-- `t` has the queue of `s`, and keeps the invariant of `s`. -/
structure Keeps (s t : State) : Prop where
  queue : t.pending = s.pending
  inv : Safety.Inv s → Safety.Inv t

theorem Keeps.refl (s : State) : Keeps s s := ⟨rfl, id⟩

theorem Keeps.trans {s t u : State} (h : Keeps s t) (k : Keeps t u) : Keeps s u :=
  ⟨k.queue.trans h.queue, fun i => k.inv (h.inv i)⟩

/-- A middle state's own property is at hand in what follows; `y` tells which state it is measured from. -/
theorem Keeps.cut {P : Prop} {s y x : State} (_ : Keeps s y) (h : Keeps s x) (k : Keeps s x → P) : P := k h

theorem Keeps.fst {α : Type} {s m x : State} {f : State × α} {y : α} (e : f = (x, y)) (h : Keeps m f.1) (k : Keeps s m) :
    Keeps s x := by
  subst e; exact k.trans h

theorem Keeps.snd {α : Type} {s m x : State} {f : α × State} {y : α} (e : f = (y, x)) (h : Keeps m f.2) (k : Keeps s m) :
    Keeps s x := by
  subst e; exact k.trans h

theorem Keeps.fst_mk {α : Type} {s m : State} {y : α} (h : Keeps s m) : Keeps s (m, y).1 := h

theorem Keeps.rtrans {s t u : State} (k : Keeps t u) (h : Keeps s t) : Keeps s u := h.trans k

theorem Keeps.rfst {α : Type} {s m x : State} {f : State × α} {y : α} (e : f = (x, y)) (h : Keeps m f.1) (k : Keeps s m) :
    Keeps s x := Keeps.fst e h k

/-- What a state keeps that an operation may answer. -/
def KeepsQ (s : State) (o : Option State) : Prop := ∀ t, o = .some t → Keeps s t

theorem KeepsQ.get {s m x : State} {o : Option State} (e : o = .some x) (h : KeepsQ m o) (k : Keeps s m) : Keeps s x :=
  k.trans (h x e)

theorem KeepsQ.none {s : State} : KeepsQ s .none := fun _ e => by cases e

theorem KeepsQ.some {s t : State} (h : Keeps s t) : KeepsQ s (.some t) := fun _ e => by cases e; exact h

theorem KeepsQ.trans {s m : State} {o : Option State} (k : KeepsQ m o) (h : Keeps s m) : KeepsQ s o := fun t e => h.trans (k t e)

theorem KeepsQ.getD {s d : State} {o : Option State} (h : KeepsQ s o) (k : Keeps s d) : Keeps s (o.getD d) := by
  cases o with
  | none => exact k
  | some u => exact h u rfl

theorem KeepsQ.map {s : State} {o : Option State} {f : State → State} (hf : ∀ t, Keeps s t → Keeps s (f t)) (h : KeepsQ s o) :
    KeepsQ s (o.map f) := by
  intro t e
  cases o with
  | none => cases e
  | some u => cases e; exact hf u (h u rfl)

theorem Keeps.foldl {α : Type} {s m : State} {f : State → α → State} {l : List α} (hf : ∀ s a, Keeps s (f s a)) (h : Keeps s m) :
    Keeps s (l.foldl f m) := by
  induction l generalizing m with
  | nil => exact h
  | cons a l ih => exact ih (h.trans (hf _ _))

/-! ## Memories and engines -/

theorem memWf_write {m : List Host.Cell} (h : memWf m = true) (a : Nat) (l : List Byte) : memWf (memWrite m a l) = true :=
  (memWf_iff _).mpr (((memWf_iff _).mp h).write a l)

theorem memWf_set {m : List Host.Cell} (h : memWf m = true) (a : Nat) (v : Byte) : memWf (memSet m a v) = true :=
  (memWf_iff _).mpr (((memWf_iff _).mp h).set a v)

theorem memWf_wipe {m : List Host.Cell} (h : memWf m = true) (a n : Nat) : memWf (memWipe m a n) = true :=
  (memWf_iff _).mpr (((memWf_iff _).mp h).wipe a n)

theorem memWf_nil : memWf [] = true := rfl

theorem engOk_init : Safety.EngOk Eng.init := ⟨rfl, rfl, rfl, rfl, rfl, rfl⟩

theorem engOk_event {g : Eng} (b : Nat) (h : Safety.EngOk g) : Safety.EngOk (Eng.event b g) := by
  unfold Eng.event
  split
  · exact ⟨h.regs, h.fregs, h.prot, h.imem, h.dmem, h.windows⟩
  · exact h

/-- An engine's change keeps its registers and memories sound. -/
theorem EngOk.auto {g : Eng} (h : Safety.EngOk g := by
    first
    | with_reducible assumption
    | with_reducible exact engOk_event _ (by assumption)
    | (split <;> exact EngOk.auto)
    | (refine ⟨?_, ?_, ?_, ?_, ?_, ?_⟩
       · (try dsimp only); first | exact Safety.EngOk.regs (by assumption) | (simp only [List.length_set]; exact Safety.EngOk.regs (by assumption)) | rfl
       · (try dsimp only); first | exact Safety.EngOk.fregs (by assumption) | (simp only [List.length_set]; exact Safety.EngOk.fregs (by assumption)) | rfl
       · (try dsimp only); first | exact Safety.EngOk.prot (by assumption) | (simp only [upd_length]; exact Safety.EngOk.prot (by assumption)) | rfl
       · (try dsimp only); first | exact Safety.EngOk.imem (by assumption) | exact memWf_write (Safety.EngOk.imem (by assumption)) _ _ | rfl
       · (try dsimp only); first | exact Safety.EngOk.dmem (by assumption) | exact memWf_write (Safety.EngOk.dmem (by assumption)) _ _ | rfl
       · (try dsimp only); first | exact Safety.EngOk.windows (by assumption) | exact memWf_write (Safety.EngOk.windows (by assumption)) _ _ | rfl)) :
    Safety.EngOk g := h

theorem enginesOk_upd {e : Engines} {f : Eng → Eng} (n : Nat) (hf : ∀ g, Safety.EngOk g → Safety.EngOk (f g))
    (h : Safety.EnginesOk e) : Safety.EnginesOk { e with eng := upd f n e.eng } :=
  ⟨(upd_length f n e.eng).trans h.count, mem_upd hf n _ h.each, h.tack, h.sram, h.dram⟩

theorem enginesOk_map {e : Engines} {f : Eng → Eng} (hf : ∀ g, Safety.EngOk g → Safety.EngOk (f g)) (h : Safety.EnginesOk e) :
    Safety.EnginesOk { e with eng := e.eng.map f } :=
  ⟨(List.length_map f).trans h.count, fun g hg => by
    obtain ⟨a, ha, rfl⟩ := List.mem_map.mp hg
    exact hf a (h.each a ha), h.tack, h.sram, h.dram⟩

theorem enginesOk_wipe {e : Engines} {d : List Host.Cell} (h : Safety.EnginesOk e) (hd : memWf d = true) :
    Safety.EnginesOk (e.wipe d) := by
  refine ⟨(List.length_map _).trans h.count, ?_, (List.length_map _).trans h.tack, rfl, hd⟩
  intro g hg
  obtain ⟨a, -, rfl⟩ := List.mem_map.mp hg
  exact ⟨rfl, rfl, rfl, rfl, rfl, rfl⟩

/-! ## A changed state -/

theorem Keeps.of {s m t : State} (h : Keeps s m) (q : t.pending = m.pending) (k : Safety.Inv m → Safety.Inv t) : Keeps s t :=
  h.trans ⟨q, k⟩

/-- A state built from `m` keeps what `m` keeps when each bank's clause follows from that of `m`. -/
theorem Keeps.mk' {s m : State} {pending : List Instr} {clk tb refs sel tod tiu servo accum ho oven atomic synth gnss girth net
    yard ptp ntp engs dump gov vault access dict pair domain log faults start cal freeCount}
    (h : Keeps s m) (q : pending = m.pending)
    (k : Safety.Inv m → Safety.Inv (State.mk pending clk tb refs sel tod tiu servo accum ho oven atomic synth gnss girth net
      yard ptp ntp engs dump gov vault access dict pair domain log faults start cal freeCount)) :
    Keeps s (State.mk pending clk tb refs sel tod tiu servo accum ho oven atomic synth gnss girth net
      yard ptp ntp engs dump gov vault access dict pair domain log faults start cal freeCount) := .of h q k

/-- A state written out field by field: what the shape of `Keeps.mk'` asks for. -/
def IsMk (_ : State) : Prop := True

theorem isMk_mk {pending : List Instr} {clk tb refs sel tod tiu servo accum ho oven atomic synth gnss girth net
    yard ptp ntp engs dump gov vault access dict pair domain log faults start cal freeCount} :
    IsMk (State.mk pending clk tb refs sel tod tiu servo accum ho oven atomic synth gnss girth net
      yard ptp ntp engs dump gov vault access dict pair domain log faults start cal freeCount) = True := rfl

theorem Keeps.guard {s t : State} (_ : IsMk t) (h : Keeps s t) : Keeps s t := h

theorem Inv.auto {m t : State} (h : Safety.Inv m → Safety.Inv t := by
    intro hI
    refine ⟨?_, ?_, ?_, ?_, ?_, ?_, ?_, ?_, ?_, ?_, ?_, ?_, ?_, ?_, ?_, ?_⟩
    · first | with_reducible exact hI.refs | simpa using hI.refs | exact List.length_replicate | rfl
    · first | with_reducible exact hI.tiu | simpa using hI.tiu | exact List.length_replicate | rfl
    · first | with_reducible exact hI.ring | simpa using hI.ring | exact List.length_replicate | rfl
    · first | with_reducible exact hI.aplls | simpa using hI.aplls | exact List.length_replicate | rfl
    · first | with_reducible exact hI.outs | simpa using hI.outs | exact List.length_replicate | rfl
    · first | with_reducible exact hI.gifs | simpa using hI.gifs | exact List.length_replicate | rfl
    · first | with_reducible exact hI.quads | simpa using hI.quads | exact List.length_replicate | rfl
    · first | with_reducible exact hI.lanes | simpa using hI.lanes | exact List.length_replicate | rfl
    · first | with_reducible exact hI.yports | simpa using hI.yports | exact List.length_replicate | rfl
    · first | with_reducible exact hI.queues | simpa using hI.queues | exact List.length_replicate | rfl
    · first | with_reducible exact hI.pports | simpa using hI.pports | exact List.length_replicate | rfl
    · first | with_reducible exact hI.insts | simpa using hI.insts | exact List.length_replicate | rfl
    · first | with_reducible exact hI.claims | simpa using hI.claims | exact List.length_replicate | rfl
    · first
      | with_reducible exact hI.engs
      | with_reducible exact ⟨hI.engs.count, hI.engs.each, hI.engs.tack, hI.engs.sram, hI.engs.dram⟩
      | (refine ⟨by first | with_reducible exact hI.engs.count | simpa using hI.engs.count, ?_, by first | with_reducible exact hI.engs.tack | simpa using hI.engs.tack, ?_, ?_⟩
         · exact hI.engs.each
         · first | with_reducible exact hI.engs.sram | with_reducible exact memWf_write hI.engs.sram _ _ | rfl
         · first | with_reducible exact hI.engs.dram | with_reducible exact memWf_write hI.engs.dram _ _ | with_reducible exact memWf_wipe hI.engs.dram _ _ | (unfold State.dramKept; exact memWf_wipe hI.engs.dram _ _) | rfl)
      | (refine enginesOk_wipe hI.engs ?_; first | exact memWf_wipe hI.engs.dram _ _ | exact hI.engs.dram | rfl)
      | (refine enginesOk_map ?_ hI.engs; intro g hg; beta_reduce; exact EngOk.auto)
    · first | with_reducible exact hI.girth | exact Nat.min_le_left _ _
    · intro hv; with_reducible exact hI.sound hv) : Safety.Inv m → Safety.Inv t := h

theorem State.onEng_keeps (s : State) (e : Nat) (f : Eng → Eng) (hf : ∀ g, Safety.EngOk g → Safety.EngOk (f g)) :
    Keeps s (State.onEng s e f) :=
  ⟨rfl, fun h => { h with engs := enginesOk_upd e hf h.engs }⟩

theorem Keeps.onEng {s m : State} {e : Nat} {f : Eng → Eng} (h : Keeps s m) (hf : ∀ g, Safety.EngOk g → Safety.EngOk (f g)) :
    Keeps s (m.onEng e f) := h.trans (State.onEng_keeps m e f hf)

/-- `t` has the queue of `s` and keeps its invariant but for TIME_VALID, which is then compared again (R18). -/
structure Weak (s t : State) : Prop where
  queue : t.pending = s.pending
  inv : Safety.Inv s → Safety.Inv { t with girth := { t.girth with timeValid := false } }

theorem Weak.of {s t : State} (h : Keeps s t) : Weak s t := by
  refine ⟨h.queue, fun hI => ?_⟩
  have hI := h.inv hI
  exact { hI with sound := fun h => absurd h (by simp) }

theorem State.irqEdge_keeps {u s t : State} (h : Keeps u t) : Keeps u (State.irqEdge s t) := by
  unfold State.irqEdge
  split
  · exact Keeps.mk' h rfl Inv.auto
  · exact h

theorem Weak.guard {s t : State} (_ : IsMk t) (h : Weak s t) : Weak s t := h

theorem Weak.mk' {s m : State} {pending : List Instr} {clk tb refs sel tod tiu servo accum ho oven atomic synth gnss girth net
      yard ptp ntp engs dump gov vault access dict pair domain log faults start cal freeCount}
    (h : Keeps s m) (q : pending = m.pending)
    (k : Safety.Inv m → Safety.Inv { State.mk pending clk tb refs sel tod tiu servo accum ho oven atomic synth gnss girth net
      yard ptp ntp engs dump gov vault access dict pair domain log faults start cal freeCount with
      girth := { girth with timeValid := false } }) :
    Weak s (State.mk pending clk tb refs sel tod tiu servo accum ho oven atomic synth gnss girth net
      yard ptp ntp engs dump gov vault access dict pair domain log faults start cal freeCount) :=
  ⟨q.trans h.queue, fun i => k (h.inv i)⟩

theorem InvW.auto {m t : State} (h : Safety.Inv m → Safety.Inv { t with girth := { t.girth with timeValid := false } } := by
    intro hI
    refine ⟨?_, ?_, ?_, ?_, ?_, ?_, ?_, ?_, ?_, ?_, ?_, ?_, ?_, ?_, ?_, ?_⟩
    · first | with_reducible exact hI.refs | simpa using hI.refs | exact List.length_replicate | rfl
    · first | with_reducible exact hI.tiu | simpa using hI.tiu | exact List.length_replicate | rfl
    · first | with_reducible exact hI.ring | simpa using hI.ring | exact List.length_replicate | rfl
    · first | with_reducible exact hI.aplls | simpa using hI.aplls | exact List.length_replicate | rfl
    · first | with_reducible exact hI.outs | simpa using hI.outs | exact List.length_replicate | rfl
    · first | with_reducible exact hI.gifs | simpa using hI.gifs | exact List.length_replicate | rfl
    · first | with_reducible exact hI.quads | simpa using hI.quads | exact List.length_replicate | rfl
    · first | with_reducible exact hI.lanes | simpa using hI.lanes | exact List.length_replicate | rfl
    · first | with_reducible exact hI.yports | simpa using hI.yports | exact List.length_replicate | rfl
    · first | with_reducible exact hI.queues | simpa using hI.queues | exact List.length_replicate | rfl
    · first | with_reducible exact hI.pports | simpa using hI.pports | exact List.length_replicate | rfl
    · first | with_reducible exact hI.insts | simpa using hI.insts | exact List.length_replicate | rfl
    · first | with_reducible exact hI.claims | simpa using hI.claims | exact List.length_replicate | rfl
    · first
      | with_reducible exact hI.engs
      | with_reducible exact ⟨hI.engs.count, hI.engs.each, hI.engs.tack, hI.engs.sram, hI.engs.dram⟩
      | (refine ⟨by first | with_reducible exact hI.engs.count | simpa using hI.engs.count, ?_, by first | with_reducible exact hI.engs.tack | simpa using hI.engs.tack, ?_, ?_⟩
         · exact hI.engs.each
         · first | with_reducible exact hI.engs.sram | with_reducible exact memWf_write hI.engs.sram _ _ | rfl
         · first | with_reducible exact hI.engs.dram | with_reducible exact memWf_write hI.engs.dram _ _ | with_reducible exact memWf_wipe hI.engs.dram _ _ | (unfold State.dramKept; exact memWf_wipe hI.engs.dram _ _) | rfl)
      | (refine enginesOk_wipe hI.engs ?_; first | exact memWf_wipe hI.engs.dram _ _ | exact hI.engs.dram | rfl)
      | (refine enginesOk_map ?_ hI.engs; intro g hg; beta_reduce; exact EngOk.auto)
    · first | with_reducible exact hI.girth | exact Nat.min_le_left _ _
    · exact fun hv => absurd hv (by simp)) : Safety.Inv m → Safety.Inv { t with girth := { t.girth with timeValid := false } } := h

theorem State.refresh_weak {s t : State} (h : Weak s t) : Keeps s t.refresh := by
  refine ⟨h.queue, fun hI => { h.inv hI with sound := ?_ }⟩
  intro hv
  have hv : (t.start.state == .locked && decide (t.gNow ≤ t.girthLimit) && decide (t.gNow < girthUnknown) && t.vault.lc != .debug) = true := hv
  simp only [Bool.and_eq_true, beq_iff_eq, bne_iff_ne] at hv
  exact ⟨hv.1.1.1, hv.2⟩

theorem State.attn_keeps (s : State) (b : Nat) : Keeps s (State.attn s b) :=
  State.irqEdge_keeps (Keeps.mk' (.refl s) rfl Inv.auto)

theorem State.revalid_weak {s t : State} (h : Weak s t) : Keeps s t.revalid := by
  unfold State.revalid
  split
  · exact State.refresh_weak h
  · exact (State.refresh_weak h).trans (State.attn_keeps _ _)

/-- What a definition made of such operations leaves. -/
theorem Keeps.auto {s t : State} (h : Keeps s t := by
    first
    | with_reducible exact Keeps.refl _
    | with_reducible assumption
    | (lift_lets; intro x; (try (refine Keeps.cut (x := x) (by assumption) (by unfold x; exact Keeps.auto) ?_; (try clear_value x); intro hx)); (repeat (intro x; try (refine Keeps.cut (x := x) (by assumption) (by unfold x; exact Keeps.auto) ?_; (try clear_value x); intro hx))); exact Keeps.auto)
    | (split <;> exact Keeps.auto)
    | (refine Keeps.guard ?_ ?_; (focus (simp only [isMk_mk]; done)); (with_reducible refine Keeps.mk' ?_ rfl ?_) <;> [exact Keeps.auto; exact Inv.auto])
    | ((with_reducible refine Keeps.foldl ?_ ?_) <;> [exact (fun s a => by have k := Keeps.refl s; beta_reduce; exact Keeps.auto); exact Keeps.auto])
    | ((with_reducible refine Keeps.onEng ?_ ?_) <;> [exact Keeps.auto; exact (fun g hg => by beta_reduce; exact EngOk.auto)])
    | ((with_reducible refine State.irqEdge_keeps ?_); exact Keeps.auto)
    | ((with_reducible refine KeepsQ.getD ?_ ?_) <;> [exact KeepsQ.auto; exact Keeps.auto])
    | ((with_reducible refine State.revalid_weak ?_)
       first
       | (refine Weak.guard ?_ ?_; (focus (simp only [isMk_mk]; done)); (with_reducible refine Weak.mk' ?_ rfl ?_) <;> [exact Keeps.auto; exact InvW.auto])
       | (refine Weak.of ?_; exact Keeps.auto))
    | ((with_reducible apply Keeps.rtrans); (focus with_reducible apply_assumption (transparency := .reducible) only [*]); (all_goals first | exact Keeps.auto | exact (fun s => by have k := Keeps.refl s; beta_reduce; exact Keeps.auto)))
    | ((with_reducible apply Keeps.rfst); (focus with_reducible assumption); (focus with_reducible apply_assumption (transparency := .reducible) only [*]); (all_goals first | exact Keeps.auto | exact (fun s => by have k := Keeps.refl s; beta_reduce; exact Keeps.auto)))
    | ((with_reducible apply KeepsQ.get); (focus with_reducible assumption); (focus with_reducible apply_assumption (transparency := .reducible) only [*]); (all_goals first | exact Keeps.auto | exact (fun s => by have k := Keeps.refl s; beta_reduce; exact Keeps.auto)))
    | ((with_reducible refine Keeps.fst_mk ?_); exact Keeps.auto)
    | (dsimp only; exact Keeps.auto)) : Keeps s t := h

/-- Every next state that an outcome answers keeps what `s` keeps. -/
def KeepsO (s : State) (o : Host.Outcome State Fault Refusal) : Prop := ∀ t, o = .next t → Keeps s t

theorem KeepsO.next {s t : State} (h : Keeps s t) : KeepsO s (.next t) := fun _ e => by cases e; exact h

theorem KeepsO.fault {s : State} {f : Fault} : KeepsO s (.fault f) := fun _ e => by cases e

theorem KeepsO.trans {s m : State} {o : Host.Outcome State Fault Refusal} (h : Keeps s m) (k : KeepsO m o) : KeepsO s o :=
  fun t e => h.trans (k t e)

theorem KeepsO.rtrans {s m : State} {o : Host.Outcome State Fault Refusal} (k : KeepsO m o) (h : Keeps s m) : KeepsO s o := .trans h k

theorem KeepsO.auto {s : State} {o : Host.Outcome State Fault Refusal} (h : KeepsO s o := by
    first
    | exact KeepsO.fault
    | (refine KeepsO.next ?_; exact Keeps.auto)
    | (lift_lets; intro x; (try (refine Keeps.cut (x := x) (by assumption) (by unfold x; exact Keeps.auto) ?_; (try clear_value x); intro hx)); (repeat (intro x; try (refine Keeps.cut (x := x) (by assumption) (by unfold x; exact Keeps.auto) ?_; (try clear_value x); intro hx))); exact KeepsO.auto)
    | (split <;> exact KeepsO.auto)
    | ((with_reducible apply KeepsO.rtrans); (focus with_reducible apply_assumption (transparency := .reducible) only [*]); (all_goals first | exact Keeps.auto | exact (fun s => by have k := Keeps.refl s; beta_reduce; exact Keeps.auto)))) : KeepsO s o := h

theorem KeepsQ.auto {s : State} {o : Option State} (h : KeepsQ s o := by
    first
    | with_reducible exact KeepsQ.none
    | ((with_reducible refine KeepsQ.some ?_); exact Keeps.auto)
    | (lift_lets; intro x; (try (refine Keeps.cut (x := x) (by assumption) (by unfold x; exact Keeps.auto) ?_; (try clear_value x); intro hx)); (repeat (intro x; try (refine Keeps.cut (x := x) (by assumption) (by unfold x; exact Keeps.auto) ?_; (try clear_value x); intro hx))); exact KeepsQ.auto)
    | (split <;> exact KeepsQ.auto)
    | ((with_reducible refine KeepsQ.map ?_ ?_) <;> [exact (fun t ht => by beta_reduce; exact Keeps.auto); exact KeepsQ.auto])
    | ((with_reducible apply KeepsQ.trans); (focus with_reducible apply_assumption (transparency := .reducible) only [*]); (all_goals first | exact Keeps.auto | exact (fun s => by have k := Keeps.refl s; beta_reduce; exact Keeps.auto)))) : KeepsQ s o := h

end Sys2Proof.Machine
end

