-- ==== Sys2Proof/Laws/KeepPrim.lean ====
section
/-!
SUPPORT. What the operations of Machine/Prim.lean leave.
-/
set_option Elab.async false
namespace Sys2Proof.Machine

theorem State.onRef_keeps (s : State) (n : Nat) (f : Ref → Ref) : Keeps s (State.onRef s n f) := by
  have k := Keeps.refl s
  unfold State.onRef
  exact Keeps.auto

theorem State.onChan_keeps (s : State) (c : Nat) (f : Tiu → Tiu) : Keeps s (State.onChan s c f) := by
  have k := Keeps.refl s
  unfold State.onChan
  exact Keeps.auto

theorem State.onApll_keeps (s : State) (a : Nat) (f : Apll → Apll) : Keeps s (State.onApll s a f) := by
  have k := Keeps.refl s
  unfold State.onApll
  exact Keeps.auto

theorem State.onOut_keeps (s : State) (n : Nat) (f : Output → Output) : Keeps s (State.onOut s n f) := by
  have k := Keeps.refl s
  unfold State.onOut
  exact Keeps.auto

theorem State.onOuts_keeps (s : State) (f : Output → Output) : Keeps s (State.onOuts s f) := by
  have k := Keeps.refl s
  unfold State.onOuts
  exact Keeps.auto

theorem State.onGif_keeps (s : State) (k : Nat) (f : Gif → Gif) : Keeps s (State.onGif s k f) := by
  have k := Keeps.refl s
  unfold State.onGif
  exact Keeps.auto

theorem State.onQuad_keeps (s : State) (q : Nat) (f : Quad → Quad) : Keeps s (State.onQuad s q f) := by
  have k := Keeps.refl s
  unfold State.onQuad
  exact Keeps.auto

theorem State.onLane_keeps (s : State) (l : Nat) (f : Lane → Lane) : Keeps s (State.onLane s l f) := by
  have k := Keeps.refl s
  unfold State.onLane
  exact Keeps.auto

theorem State.onYPort_keeps (s : State) (p : Nat) (f : YPort → YPort) : Keeps s (State.onYPort s p f) := by
  have k := Keeps.refl s
  unfold State.onYPort
  exact Keeps.auto

theorem State.onQueue_keeps (s : State) (i : Nat) (f : Queue → Queue) : Keeps s (State.onQueue s i f) := by
  have k := Keeps.refl s
  unfold State.onQueue
  exact Keeps.auto

theorem State.onPPort_keeps (s : State) (p : Nat) (f : PtpPort → PtpPort) : Keeps s (State.onPPort s p f) := by
  have k := Keeps.refl s
  unfold State.onPPort
  exact Keeps.auto

theorem State.onInst_keeps (s : State) (k : Nat) (f : PtpInst → PtpInst) : Keeps s (State.onInst s k f) := by
  have k := Keeps.refl s
  unfold State.onInst
  exact Keeps.auto

theorem State.onTack_keeps (s : State) (j : Nat) (f : Tack → Tack) : Keeps s (State.onTack s j f) :=
  ⟨rfl, fun h => { h with engs := ⟨h.engs.count, h.engs.each, (upd_length f j _).trans h.engs.tack, h.engs.sram, h.engs.dram⟩ }⟩

theorem State.onCan_keeps (s : State) (c : Nat) (f : Can → Can) : Keeps s (State.onCan s c f) := by
  have k := Keeps.refl s
  unfold State.onCan
  exact Keeps.auto

theorem State.setGroup_keeps (s : State) (g : Nat) (v : Nat) : Keeps s (State.setGroup s g v) := by
  have k := Keeps.refl s
  unfold State.setGroup
  exact Keeps.auto

theorem State.setSlot_keeps (s : State) (n : Nat) (v : Slot) : Keeps s (State.setSlot s n v) := by
  have k := Keeps.refl s
  unfold State.setSlot
  exact Keeps.auto

theorem State.dropSlot_keeps (s : State) (n : Nat) : Keeps s (State.dropSlot s n) := by
  have k := Keeps.refl s
  unfold State.dropSlot
  exact Keeps.auto

theorem State.put_keeps (s : State) (idx : Nat) (sub : Nat) (v : Nat) : Keeps s (State.put s idx sub v) := by
  have k := Keeps.refl s
  unfold State.put
  exact Keeps.auto

theorem State.putLate_keeps (s : State) (idx : Nat) (sub : Nat) (v : Nat) : Keeps s (State.putLate s idx sub v) := by
  have h0 := @State.put_keeps
  have k := Keeps.refl s
  unfold State.putLate
  exact Keeps.auto

theorem State.takeLate_keeps (s : State) (p : Nat → Bool) : Keeps s (State.takeLate s p) := by
  have k := Keeps.refl s
  unfold State.takeLate
  exact Keeps.auto

theorem State.stored_keeps (s : State) : Keeps s (State.stored s) := by
  have k := Keeps.refl s
  unfold State.stored
  exact Keeps.auto

theorem State.draw_keeps (s : State) : Keeps s (State.draw s).2 := by
  have k := Keeps.refl s
  unfold State.draw
  exact Keeps.auto

theorem State.refresh_keeps (s : State) : Keeps s (State.refresh s) := State.refresh_weak (.of (.refl s))

theorem State.holdU_keeps (s : State) : Keeps s (State.holdU s) := by
  have k := Keeps.refl s
  unfold State.holdU
  exact Keeps.auto

theorem State.accrue_keeps (s : State) : Keeps s (State.accrue s) := by
  have k := Keeps.refl s
  unfold State.accrue
  exact Keeps.auto

end Sys2Proof.Machine
end

