-- ==== Sys2Proof/Laws/KeepWave.lean ====
section
/-!
SUPPORT. What the operations of Machine/Wave.lean leave.
-/
set_option Elab.async false
namespace Sys2Proof.Machine

theorem State.stopDue_keeps (s : State) (n : Nat) : Keeps s (State.stopDue s n) := by
  have h0 := @State.onOut_keeps
  have k := Keeps.refl s
  unfold State.stopDue
  exact Keeps.auto

theorem State.stopAll_keeps (s : State) (p : Output → Bool) : Keeps s (State.stopAll s p) := by
  have h0 := @State.stopDue_keeps
  have k := Keeps.refl s
  unfold State.stopAll
  exact Keeps.auto

end Sys2Proof.Machine
end

