-- ==== Sys2Proof/Laws/KeepOps.lean ====
section
/-!
SUPPORT. What the operations of Machine/Ops.lean leave.
-/
set_option Elab.async false
namespace Sys2Proof.Machine

theorem State.revalid_keeps (s : State) : Keeps s (State.revalid s) := State.revalid_weak (.of (.refl s))

theorem State.setG_keeps (s : State) (g : Nat) (hg : g ≤ girthUnknown) : Keeps s (State.setG s g) := by
  refine (Keeps.mk' (.refl s) rfl fun h => ?_).trans (State.revalid_keeps _)
  exact { h with girth := hg }

theorem State.noteSecond_keeps (s : State) : Keeps s (State.noteSecond s) := by
  have k := Keeps.refl s
  unfold State.noteSecond
  exact Keeps.auto

theorem State.atTime_keeps (s : State) (now : Nat) : Keeps s (State.atTime s now) := by
  have h0 := @State.noteSecond_keeps
  have h1 := @State.revalid_keeps
  have k := Keeps.refl s
  unfold State.atTime
  exact Keeps.auto

theorem State.setQueue_keeps (s : State) (q : Nat) (recs : List (List Byte × Bool)) (due : Bool) : Keeps s (State.setQueue s q recs due) := by
  have k := Keeps.refl s
  unfold State.setQueue
  exact Keeps.auto

theorem State.enqueue_keeps (s : State) (q : Nat) (depth : Nat) (r : List Byte) : Keeps s (State.enqueue s q depth r).1 := by
  have h0 := @State.setQueue_keeps
  have k := Keeps.refl s
  unfold State.enqueue
  exact Keeps.auto

theorem State.tap_keeps (s : State) (src : Nat) (sel : Nat) (selects : Bool) (r : List Byte) : Keeps s (State.tap s src sel selects r) := by
  have h0 := @State.enqueue_keeps
  have k := Keeps.refl s
  unfold State.tap
  exact Keeps.auto

theorem State.stageOne_keeps (s : State) (b : LogBody) : Keeps s (State.stageOne s b) := by
  have h0 := @State.tap_keeps
  have k := Keeps.refl s
  unfold State.stageOne
  exact Keeps.auto

theorem State.lose_keeps (s : State) (l : List LogRec) (n : Nat) : Keeps s (State.lose s l n) := by
  have k := Keeps.refl s
  unfold State.lose
  exact Keeps.auto

theorem State.stageLoss_keeps (s : State) : Keeps s (State.stageLoss s) := by
  have h0 := @State.stageOne_keeps
  have k := Keeps.refl s
  unfold State.stageLoss
  exact Keeps.auto

theorem State.stage_keeps (s : State) (b : LogBody) : KeepsQ s (State.stage s b) := by
  have h0 := @State.stageOne_keeps
  have h1 := @State.stageLoss_keeps
  have h2 := @State.lose_keeps
  have k := Keeps.refl s
  unfold State.stage
  exact KeepsQ.auto

theorem State.audit_keeps (s : State) (a : AuditIn) : KeepsQ s (State.audit s a) := by
  have h0 := @State.stage_keeps
  have k := Keeps.refl s
  unfold State.audit
  exact KeepsQ.auto

theorem State.auditEvent_keeps (s : State) (a : AuditIn) : Keeps s (State.auditEvent s a) := by
  have h0 := @State.audit_keeps
  have h1 := @State.lose_keeps
  have k := Keeps.refl s
  unfold State.auditEvent
  exact Keeps.auto

theorem State.endSession_keeps (cause : Nat) (s : State) (x : Session) : Keeps s (State.endSession cause s x) := by
  have h0 := @State.attn_keeps
  have h1 := @State.auditEvent_keeps
  have k := Keeps.refl s
  unfold State.endSession
  exact Keeps.auto

theorem State.endSessions_keeps (s : State) (cause : Nat) (p : Session → Bool) : Keeps s (State.endSessions s cause p) := by
  have h0 := @State.endSession_keeps
  have k := Keeps.refl s
  unfold State.endSessions
  exact Keeps.auto

theorem State.dropSessions_keeps (s : State) : Keeps s (State.dropSessions s) := by
  have h0 := @State.attn_keeps
  have k := Keeps.refl s
  unfold State.dropSessions
  exact Keeps.auto

theorem State.peerSend_keeps (s : State) (m : Nat) (body : List Nat) : Keeps s (State.peerSend s m body) := by
  have k := Keeps.refl s
  unfold State.peerSend
  exact Keeps.auto

theorem State.dropDomain_keeps (s : State) : Keeps s (State.dropDomain s) := by
  have k := Keeps.refl s
  unfold State.dropDomain
  exact Keeps.auto

theorem State.haltOutputs_keeps (s : State) : Keeps s (State.haltOutputs s) := by
  have h0 := @State.onOuts_keeps
  have h1 := @State.stopAll_keeps
  have k := Keeps.refl s
  unfold State.haltOutputs
  exact Keeps.auto

theorem State.hushPorts_keeps (s : State) : Keeps s (State.hushPorts s) := by
  have k := Keeps.refl s
  unfold State.hushPorts
  exact Keeps.auto

theorem State.stopLease_keeps (s : State) (cause : Nat) : Keeps s (State.stopLease s cause) := by
  have h0 := @State.hushPorts_keeps
  have h1 := @State.haltOutputs_keeps
  have h2 := @State.dropDomain_keeps
  have h3 := @State.peerSend_keeps
  have k := Keeps.refl s
  unfold State.stopLease
  exact Keeps.auto

theorem State.holdTaps_keeps (s : State) (l : Nat) : Keeps s (State.holdTaps s l) := by
  have h0 := @State.onLane_keeps
  have k := Keeps.refl s
  unfold State.holdTaps
  exact Keeps.auto

theorem State.holdAllTaps_keeps (s : State) : Keeps s (State.holdAllTaps s) := by
  have h0 := @State.holdTaps_keeps
  have k := Keeps.refl s
  unfold State.holdAllTaps
  exact Keeps.auto

theorem State.clearCloak_keeps (s : State) : Keeps s (State.clearCloak s) := by
  have k := Keeps.refl s
  unfold State.clearCloak
  exact Keeps.auto

theorem State.wipeVault_keeps (s : State) : Keeps s (State.wipeVault s) := by
  have h0 := @State.clearCloak_keeps
  have k := Keeps.refl s
  unfold State.wipeVault
  exact Keeps.auto

theorem State.sysReset_keeps (s : State) (cause : Nat) : Keeps s (State.sysReset s cause) := by
  have h0 := @State.dropSessions_keeps
  have h1 := @State.dropDomain_keeps
  have h2 := @State.wipeVault_keeps
  have h3 := @State.accrue_keeps
  have h4 := @State.holdU_keeps
  have h5 := @State.holdAllTaps_keeps
  have k : Keeps s s.accrue.holdU.dropSessions.dropDomain.wipeVault.holdAllTaps := Keeps.auto
  unfold State.sysReset
  split
  · exact Keeps.refl s
  · dsimp only
    generalize s.accrue.holdU.dropSessions.dropDomain.wipeVault.holdAllTaps = x at k ⊢
    with_reducible refine State.revalid_weak ?_
    with_reducible refine Weak.mk' k rfl ?_
    exact InvW.auto

theorem State.record_keeps (s : State) (code : Nat) (cls : Nat) (flags : Nat) (inst : Nat) (rep : Nat) (causeSeq : Nat) (detail : Nat) : Keeps s (State.record s code cls flags inst rep causeSeq detail) := by
  have h0 := @State.stage_keeps
  have h1 := @State.lose_keeps
  have h2 := @State.attn_keeps
  have k := Keeps.refl s
  unfold State.record
  exact Keeps.auto

theorem State.activate_keeps (s : State) (code : Nat) (inst : Nat) (cls : Nat) : Keeps s (State.activate s code inst cls) := by
  have k := Keeps.refl s
  unfold State.activate
  exact Keeps.auto

theorem State.handle_keeps (s : State) (code : Nat) : Keeps s (State.handle s code) := by
  have k := Keeps.refl s
  unfold State.handle
  exact Keeps.auto

theorem State.f3Response_keeps (s : State) : Keeps s (State.f3Response s) := by
  have h0 := @State.stopLease_keeps
  have h1 := @State.record_keeps
  have h2 := @State.sysReset_keeps
  have k := Keeps.refl s
  unfold State.f3Response
  exact Keeps.auto

theorem State.collect_keeps (s : State) (code : Nat) (cls : Nat) (inst : Nat) (detail : Nat) : Keeps s (State.collect s code cls inst detail) := by
  have h0 := @State.activate_keeps
  have h1 := @State.f3Response_keeps
  have h2 := @State.handle_keeps
  have h3 := @State.record_keeps
  have h4 := @State.takeLate_keeps
  have k := Keeps.refl s
  unfold State.collect
  exact Keeps.auto

theorem State.raise_keeps (s : State) (code : Nat) (inst : optParam Nat noInst) (detail : optParam Nat 0) : Keeps s (State.raise s code inst detail) := by
  have h0 := @State.record_keeps
  have h1 := @State.collect_keeps
  have k := Keeps.refl s
  unfold State.raise
  exact Keeps.auto

theorem State.clearFault_keeps (s : State) (code : Nat) (inst : optParam Nat noInst) : Keeps s (State.clearFault s code inst) := by
  have h0 := @State.record_keeps
  have k := Keeps.refl s
  unfold State.clearFault
  exact Keeps.auto

theorem State.level_keeps (s : State) (b : Bool) (code : Nat) (inst : optParam Nat noInst) : Keeps s (State.level s b code inst) := by
  have h0 := @State.raise_keeps
  have h1 := @State.clearFault_keeps
  have k := Keeps.refl s
  unfold State.level
  exact Keeps.auto

theorem State.nextF2_keeps (s : State) : Keeps s (State.nextF2 s) := by
  have k := Keeps.refl s
  unfold State.nextF2
  exact Keeps.auto

theorem State.endHandling_keeps (s : State) (code : Nat) : Keeps s (State.endHandling s code) := by
  have h0 := @State.nextF2_keeps
  have k := Keeps.refl s
  unfold State.endHandling
  exact Keeps.auto

theorem State.flushCoalesced_keeps (s : State) : Keeps s (State.flushCoalesced s) := by
  have h0 := @State.record_keeps
  have k := Keeps.refl s
  unfold State.flushCoalesced
  exact Keeps.auto

end Sys2Proof.Machine
end

