-- ==== Sys2Proof/Laws/KeepAccess.lean ====
section
/-!
SUPPORT. What the operations of Machine/Access.lean leave.
-/
set_option Elab.async false
namespace Sys2Proof.Machine

theorem State.onPath_keeps (s : State) (p : Path) (f : PathState → PathState) : Keeps s (State.onPath s p f) := by
  have k := Keeps.refl s
  unfold State.onPath
  exact Keeps.auto

theorem State.useNonce_keeps (s : State) (p : Path) : Keeps s (State.useNonce s p) := by
  have h0 := @State.onPath_keeps
  have k := Keeps.refl s
  unfold State.useNonce
  exact Keeps.auto

theorem State.challenge_keeps (s : State) (p : Path) : Keeps s (State.challenge s p).1 := by
  have h0 := @State.onPath_keeps
  have k := Keeps.refl s
  unfold State.challenge
  exact Keeps.auto

theorem State.onSession_keeps (s : State) (n : Nat) (f : Session → Session) : Keeps s (State.onSession s n f) := by
  have k := Keeps.refl s
  unfold State.onSession
  exact Keeps.auto

theorem State.openSession_keeps (s : State) (a : Acc) (v : Nat) : Keeps s (State.openSession s a v) := by
  have h0 := @State.draw_keeps
  have h1 := @State.onPath_keeps
  have k := Keeps.refl s
  unfold State.openSession
  exact Keeps.auto

theorem State.authOpen_keeps (s : State) (a : Acc) (v : Nat) : Keeps s (State.authOpen s a v).1 := by
  have h0 := @State.useNonce_keeps
  have h1 := @State.auditEvent_keeps
  have h2 := @State.audit_keeps
  have h3 := @State.openSession_keeps
  have k := Keeps.refl s
  unfold State.authOpen
  exact Keeps.auto

theorem opAuthClose_keeps (n : Nat) (s : State) : Keeps s (opAuthClose n s) := by
  have h0 := @State.endSession_keeps
  have k := Keeps.refl s
  unfold opAuthClose
  exact Keeps.auto

theorem opIdleTimeout_keeps (n : Nat) (s : State) : Keeps s (opIdleTimeout n s) := by
  have h0 := @State.endSession_keeps
  have k := Keeps.refl s
  unfold opIdleTimeout
  exact Keeps.auto

theorem opTicketExpire_keeps (n : Nat) (s : State) : Keeps s (opTicketExpire n s) := by
  have h0 := @State.endSession_keeps
  have k := Keeps.refl s
  unfold opTicketExpire
  exact Keeps.auto

theorem opTicketMinId_keeps (v : Nat) (s : State) : Keeps s (opTicketMinId v s) := by
  have h0 := @State.endSessions_keeps
  have h1 := @State.put_keeps
  have k := Keeps.refl s
  unfold opTicketMinId
  exact Keeps.auto

theorem opTransfer_keeps (v : Nat) (s : State) : Keeps s (opTransfer v s) := by
  have k := Keeps.refl s
  unfold opTransfer
  exact Keeps.auto

theorem opRotate_keeps (v : Nat) (s : State) : Keeps s (opRotate v s) := by
  have k := Keeps.refl s
  unfold opRotate
  exact Keeps.auto

theorem opJtagUnlock_keeps (s : State) : Keeps s (opJtagUnlock s) := by
  have k := Keeps.refl s
  unfold opJtagUnlock
  exact Keeps.auto

theorem opJtagAttach_keeps (s : State) : Keeps s (opJtagAttach s) := by
  have h0 := @State.auditEvent_keeps
  have k := Keeps.refl s
  unfold opJtagAttach
  exact Keeps.auto

theorem opJtagReset_keeps (s : State) : Keeps s (opJtagReset s) := by
  have k := Keeps.refl s
  unfold opJtagReset
  exact Keeps.auto

theorem execSessionIdleTimeout_keeps (now : Nat) (num : Nat) (s : State) : KeepsO s (execSessionIdleTimeout now num s) := by
  have h0 := @opIdleTimeout_keeps
  have h1 := @State.atTime_keeps
  have k := Keeps.refl s
  unfold execSessionIdleTimeout
  exact KeepsO.auto

theorem execSessionTicketExpire_keeps (now : Nat) (num : Nat) (s : State) : KeepsO s (execSessionTicketExpire now num s) := by
  have h0 := @opTicketExpire_keeps
  have h1 := @State.atTime_keeps
  have k := Keeps.refl s
  unfold execSessionTicketExpire
  exact KeepsO.auto

theorem execJtagAttach_keeps (now : Nat) (s : State) : KeepsO s (execJtagAttach now s) := by
  have h0 := @opJtagAttach_keeps
  have h1 := @State.atTime_keeps
  have k := Keeps.refl s
  unfold execJtagAttach
  exact KeepsO.auto

theorem execJtagReset_keeps (now : Nat) (s : State) : KeepsO s (execJtagReset now s) := by
  have h0 := @opJtagReset_keeps
  have h1 := @State.atTime_keeps
  have k := Keeps.refl s
  unfold execJtagReset
  exact KeepsO.auto

end Sys2Proof.Machine
end

