-- ==== Sys2Proof/Laws/KeepClocks.lean ====
section
/-!
SUPPORT. What the operations of Machine/Clocks.lean leave.
-/
set_option Elab.async false
namespace Sys2Proof.Machine

theorem State.coarseRebase_keeps (s : State) (src : Nat) : Keeps s (State.coarseRebase s src) := by
  have k := Keeps.refl s
  unfold State.coarseRebase
  exact Keeps.auto

theorem State.newCount_keeps (s : State) (inc : Nat) (coarse : Bool) (frac : Nat) : Keeps s (State.newCount s inc coarse frac) := by
  have k := Keeps.refl s
  unfold State.newCount
  exact Keeps.auto

theorem State.freeRunOuts_keeps (s : State) (b : Bool) : Keeps s (State.freeRunOuts s b) := by
  have h0 := @State.onOuts_keeps
  have k := Keeps.refl s
  unfold State.freeRunOuts
  exact Keeps.auto

theorem State.control_keeps (s : State) (u : Int) : Keeps s (State.control s u) := by
  have h0 := @State.accrue_keeps
  have k := Keeps.refl s
  unfold State.control
  exact Keeps.auto

theorem State.slew_keeps (s : State) (amount : Int) (rate : Nat) : Keeps s (State.slew s amount rate) := by
  have h0 := @State.accrue_keeps
  have k := Keeps.refl s
  unfold State.slew
  exact Keeps.auto

theorem State.noteDegraded_keeps (s : State) : Keeps s (State.noteDegraded s) := by
  have k := Keeps.refl s
  unfold State.noteDegraded
  exact Keeps.auto

theorem State.enterCoarse_keeps (s : State) (src : Nat) : Keeps s (State.enterCoarse s src) := by
  have h0 := @State.accrue_keeps
  have h1 := @State.coarseRebase_keeps
  have h2 := @State.freeRunOuts_keeps
  have h3 := @State.newCount_keeps
  have h4 := @State.noteDegraded_keeps
  have h5 := @State.revalid_keeps
  have h6 := @State.setGroup_keeps
  have k := Keeps.refl s
  unfold State.enterCoarse
  exact Keeps.auto

theorem State.leaveCoarse_keeps (s : State) : Keeps s (State.leaveCoarse s) := by
  have h0 := @State.accrue_keeps
  have h1 := @State.freeRunOuts_keeps
  have h2 := @State.newCount_keeps
  have h3 := @State.noteDegraded_keeps
  have h4 := @State.revalid_keeps
  have h5 := @State.setGroup_keeps
  have k := Keeps.refl s
  unfold State.leaveCoarse
  exact Keeps.auto

theorem State.canSilent_keeps (s : State) (b : Bool) : Keeps s (State.canSilent s b) := by
  have k := Keeps.refl s
  unfold State.canSilent
  exact Keeps.auto

theorem State.underrun_keeps (s : State) : Keeps s (State.underrun s) := by
  have h0 := @State.onYPort_keeps
  have k := Keeps.refl s
  unfold State.underrun
  exact Keeps.auto

theorem opClockLoss_keeps (loop : Nat) (s : State) : Keeps s (opClockLoss loop s) := by
  have h0 := @State.setGroup_keeps
  have h1 := @State.underrun_keeps
  have h2 := @State.raise_keeps
  have h3 := @State.canSilent_keeps
  have k := Keeps.refl s
  unfold opClockLoss
  exact Keeps.auto

theorem opTbLoss_keeps (oscToo : Bool) (s : State) : Keeps s (opTbLoss oscToo s) := by
  have h0 := @State.raise_keeps
  have h1 := @State.enterCoarse_keeps
  have k := Keeps.refl s
  unfold opTbLoss
  exact Keeps.auto

theorem opOscLoss_keeps (s : State) : Keeps s (opOscLoss s) := by
  have h0 := @State.enterCoarse_keeps
  have k := Keeps.refl s
  unfold opOscLoss
  exact Keeps.auto

theorem opXoStop_keeps (s : State) : Keeps s (opXoStop s) := by
  have h0 := @State.setGroup_keeps
  have h1 := @State.enterCoarse_keeps
  have h2 := @State.raise_keeps
  have h3 := @State.revalid_keeps
  have h4 := @State.stopLease_keeps
  have k := Keeps.refl s
  unfold opXoStop
  exact Keeps.auto

theorem opApllLocked_keeps (a : Nat) (s : State) : Keeps s (opApllLocked a s) := by
  have h0 := @State.onApll_keeps
  have h1 := @State.endHandling_keeps
  have h2 := @State.clearFault_keeps
  have k := Keeps.refl s
  unfold opApllLocked
  exact Keeps.auto

theorem opLockConfirmed_keeps (loop : Nat) (s : State) : Keeps s (opLockConfirmed loop s) := by
  have h0 := @State.setGroup_keeps
  have h1 := @State.canSilent_keeps
  have h2 := @State.endHandling_keeps
  have h3 := @State.clearFault_keeps
  have h4 := @State.leaveCoarse_keeps
  have h5 := @opApllLocked_keeps
  have h6 := @State.onQuad_keeps
  have k := Keeps.refl s
  unfold opLockConfirmed
  exact Keeps.auto

theorem opPllRelock_keeps (v : Nat) (s : State) : Keeps s (opPllRelock v s) := by
  have h0 := @State.underrun_keeps
  have h1 := @State.setGroup_keeps
  have k := Keeps.refl s
  unfold opPllRelock
  exact Keeps.auto

theorem opTimeSet_keeps (sec : Nat) (s : State) : Keeps s (opTimeSet sec s) := by
  have k := Keeps.refl s
  unfold opTimeSet
  exact Keeps.auto

theorem State.step_keeps (s : State) (ns : Int) : Keeps s (State.step s ns) := by
  have h0 := @State.raise_keeps
  have k := Keeps.refl s
  unfold State.step
  exact Keeps.auto

theorem State.takeServoStep_keeps (s : State) : Keeps s (State.takeServoStep s).1 := by
  have h0 := @State.accrue_keeps
  have h1 := @State.slew_keeps
  have h2 := @State.step_keeps
  have k := Keeps.refl s
  unfold State.takeServoStep
  exact Keeps.auto

theorem State.takeStep_keeps (s : State) : Keeps s (State.takeStep s).1 := by
  have h0 := @State.step_keeps
  have h1 := @State.takeServoStep_keeps
  have k := Keeps.refl s
  unfold State.takeStep
  exact Keeps.auto

theorem State.leap_keeps (s : State) : Keeps s (State.leap s).1 := by
  have h0 := @State.raise_keeps
  have h1 := @State.put_keeps
  have k := Keeps.refl s
  unfold State.leap
  exact Keeps.auto

theorem State.latch_keeps (s : State) (step : Option Int) (change : Bool) : Keeps s (State.latch s step change) := by
  have h0 := @State.noteDegraded_keeps
  have k := Keeps.refl s
  unfold State.latch
  exact Keeps.auto

theorem State.learnUtc_keeps (s : State) (offset : Int) (pending : Nat) (leapTai : Nat) (valid : Bool) : Keeps s (State.learnUtc s offset pending leapTai valid) := by
  have h0 := @State.put_keeps
  have k := Keeps.refl s
  unfold State.learnUtc
  exact Keeps.auto

theorem State.learnAnnounced_keeps (s : State) (offset : Int) (leap : Nat) (valid : Bool) : Keeps s (State.learnAnnounced s offset leap valid) := by
  have h0 := @State.draw_keeps
  have h1 := @State.learnUtc_keeps
  have k := Keeps.refl s
  unfold State.learnAnnounced
  exact Keeps.auto

theorem execClockLossOfLock_keeps (now : Nat) (loop : Nat) (s : State) : KeepsO s (execClockLossOfLock now loop s) := by
  have h0 := @opClockLoss_keeps
  have h1 := @State.atTime_keeps
  have k := Keeps.refl s
  unfold execClockLossOfLock
  exact KeepsO.auto

theorem execTbApllLossOfLock_keeps (now : Nat) (oscToo : Bool) (s : State) : KeepsO s (execTbApllLossOfLock now oscToo s) := by
  have h0 := @opTbLoss_keeps
  have h1 := @State.atTime_keeps
  have k := Keeps.refl s
  unfold execTbApllLossOfLock
  exact KeepsO.auto

theorem execXoStop_keeps (now : Nat) (s : State) : KeepsO s (execXoStop now s) := by
  have h0 := @opXoStop_keeps
  have h1 := @State.atTime_keeps
  have k := Keeps.refl s
  unfold execXoStop
  exact KeepsO.auto

theorem execLocalOscLoss_keeps (now : Nat) (s : State) : KeepsO s (execLocalOscLoss now s) := by
  have h0 := @opOscLoss_keeps
  have h1 := @State.atTime_keeps
  have k := Keeps.refl s
  unfold execLocalOscLoss
  exact KeepsO.auto

end Sys2Proof.Machine
end

