-- ==== Sys2Proof/Laws/KeepOperands.lean ====
section
/-!
SUPPORT. What the operations of Machine/Operands.lean leave.
-/
set_option Elab.async false
namespace Sys2Proof.Machine

theorem State.setReg_keeps (s : State) (e : Nat) (r : Nat) (v : Nat) : Keeps s (State.setReg s e r v) := by
  have k := Keeps.refl s
  unfold State.setReg
  exact Keeps.auto

theorem State.setFreg_keeps (s : State) (e : Nat) (r : Nat) (v : Nat) : Keeps s (State.setFreg s e r v) := by
  have k := Keeps.refl s
  unfold State.setFreg
  exact Keeps.auto

theorem State.stick_keeps (s : State) (e : Nat) (flags : Nat) : Keeps s (State.stick s e flags) := by
  have k := Keeps.refl s
  unfold State.stick
  exact Keeps.auto

theorem State.pmcEvents_keeps (s : State) (e : Nat) (evs : List (Nat × Nat)) : Keeps s (State.pmcEvents s e evs) := by
  have k := Keeps.refl s
  unfold State.pmcEvents
  exact Keeps.auto

theorem State.retire_keeps (s : State) (e : Nat) (word : Nat) (evs : List (Nat × Nat)) (trapped : Bool) : Keeps s (State.retire s e word evs trapped) := by
  have h0 := @State.pmcEvents_keeps
  have k := Keeps.refl s
  unfold State.retire
  exact Keeps.auto

theorem State.tackStop_keeps (s : State) (j : Nat) (state : Nat) (cause : Nat) (pc : Nat) : Keeps s (State.tackStop s j state cause pc) := by
  have h0 := @State.onTack_keeps
  have k := Keeps.refl s
  unfold State.tackStop
  exact Keeps.auto

theorem State.tackRestart_keeps (s : State) (j : Nat) : Keeps s (State.tackRestart s j) := by
  have h0 := @State.onTack_keeps
  have k := Keeps.refl s
  unfold State.tackRestart
  exact Keeps.auto

theorem State.violation_keeps (s : State) (e : Nat) (j : Nat) (cause : Nat) (pc : Nat) : Keeps s (State.violation s e j cause pc) := by
  have h0 := @State.onTack_keeps
  have h1 := @State.raise_keeps
  have h2 := @State.tackStop_keeps
  have h3 := @State.tackRestart_keeps
  have k := Keeps.refl s
  unfold State.violation
  exact Keeps.auto

theorem State.trap_keeps (s : State) (e : Nat) (cause : Nat) : Keeps s (State.trap s e cause) := by
  have h0 := @State.pmcEvents_keeps
  have h1 := @State.tackStop_keeps
  have h2 := @State.violation_keeps
  have k := Keeps.refl s
  unfold State.trap
  exact Keeps.auto

theorem State.writeLoc_keeps (s : State) (e : Nat) (l : Loc) (b : List Byte) : Keeps s (State.writeLoc s e l b) := by
  have k := Keeps.refl s
  unfold State.writeLoc
  exact Keeps.auto

theorem State.trapIns_keeps (s : State) (e : Nat) (word : Nat) (cause : Nat) : Keeps s (State.trapIns s e word cause) := by
  have h0 := @State.trap_keeps
  have h1 := @State.retire_keeps
  have k := Keeps.refl s
  unfold State.trapIns
  exact Keeps.auto

theorem State.done_keeps (s : State) (e : Nat) (word : Nat) (evs : List (Nat × Nat)) (pc : Nat) : Keeps s (State.done s e word evs pc) := by
  have h0 := @State.retire_keeps
  have k := Keeps.refl s
  unfold State.done
  exact Keeps.auto

theorem State.advance_keeps (s : State) (e : Nat) (word : Nat) (evs : List (Nat × Nat)) : Keeps s (State.advance s e word evs) := by
  have h0 := @State.done_keeps
  have k := Keeps.refl s
  unfold State.advance
  exact Keeps.auto

theorem opIns_keeps (e : Nat) (word : Nat) (f : State → State) (s : State) (hff : ∀ s, Keeps s (f s)) : Keeps s (opIns e word f s) := by
  have h0 := @State.trapIns_keeps
  have k := Keeps.refl s
  unfold opIns
  exact Keeps.auto

theorem opInsSc_keeps (e : Nat) (word : Nat) (f : State → State) (s : State) (hff : ∀ s, Keeps s (f s)) : Keeps s (opInsSc e word f s) := by
  have h0 := @opIns_keeps
  have h1 := @State.trapIns_keeps
  have k := Keeps.refl s
  unfold opInsSc
  exact Keeps.auto

theorem opInsMon_keeps (e : Nat) (word : Nat) (f : State → State) (s : State) (hff : ∀ s, Keeps s (f s)) : Keeps s (opInsMon e word f s) := by
  have h0 := @opIns_keeps
  have h1 := @State.trapIns_keeps
  have k := Keeps.refl s
  unfold opInsMon
  exact Keeps.auto

end Sys2Proof.Machine
end

