-- ==== Sys2Proof/Laws/KeepJobs.lean ====
section
/-!
SUPPORT. What the operations of Machine/Jobs.lean leave.
-/
set_option Elab.async false
namespace Sys2Proof.Machine

theorem State.submit_keeps (s : State) (e : Nat) (tag : Nat) (d : List Byte) : Keeps s (State.submit s e tag d) := by
  have k := Keeps.refl s
  unfold State.submit
  exact Keeps.auto

theorem State.loadSlot_keeps (s : State) (n : Nat) (key : Nat) (export_ : Bool) : Keeps s (State.loadSlot s n key export_) := by
  have h0 := @State.setSlot_keeps
  have k := Keeps.refl s
  unfold State.loadSlot
  exact Keeps.auto

theorem State.finishJob_keeps (s : State) (j : Job) (ok : Bool) : Keeps s (State.finishJob s j ok).1 := by
  have h0 := @State.latch_keeps
  have h1 := @State.loadSlot_keeps
  have h2 := @State.writeLoc_keeps
  have k := Keeps.refl s
  unfold State.finishJob
  exact Keeps.auto

theorem State.wakeCwait_keeps (s : State) (e : Nat) (tag : Nat) (status : Nat) : Keeps s (State.wakeCwait s e tag status) := by
  have h0 := @State.done_keeps
  have h1 := @State.pmcEvents_keeps
  have h2 := @State.setReg_keeps
  have k := Keeps.refl s
  unfold State.wakeCwait
  exact Keeps.auto

theorem opJobDone_keeps (tag : Nat) (ok : Bool) (s : State) : Keeps s (opJobDone tag ok s) := by
  have h0 := @State.finishJob_keeps
  have h1 := @State.wakeCwait_keeps
  have k := Keeps.refl s
  unfold opJobDone
  exact Keeps.auto

theorem State.abortJobs_keeps (s : State) : Keeps s (State.abortJobs s) := by
  have h0 := @State.wakeCwait_keeps
  have k := Keeps.refl s
  unfold State.abortJobs
  exact Keeps.auto

end Sys2Proof.Machine
end

