-- ==== Sys2Proof/Laws/KeepHoldover.lean ====
section
/-!
SUPPORT. What the operations of Machine/Holdover.lean leave.
-/
set_option Elab.async false
namespace Sys2Proof.Machine

theorem State.takeTemp_keeps (s : State) : Keeps s (State.takeTemp s) := by
  have k := Keeps.refl s
  unfold State.takeTemp
  exact Keeps.auto

theorem State.useTerms_keeps (s : State) : Keeps s (State.useTerms s) := by
  have k := Keeps.refl s
  unfold State.useTerms
  exact Keeps.auto

theorem opLearnFit_keeps (s : State) : Keeps s (opLearnFit s) := by
  have h0 := @State.useTerms_keeps
  have k := Keeps.refl s
  unfold opLearnFit
  exact Keeps.auto

theorem State.tempSecond_keeps (s : State) : Keeps s (State.tempSecond s) := by
  have k := Keeps.refl s
  unfold State.tempSecond
  exact Keeps.auto

theorem State.takeHo_keeps (s : State) : Keeps s (State.takeHo s) := by
  have h0 := @State.takeLate_keeps
  have k := Keeps.refl s
  unfold State.takeHo
  exact Keeps.auto

theorem State.setUh_keeps (s : State) : Keeps s (State.setUh s) := by
  have k := Keeps.refl s
  unfold State.setUh
  exact Keeps.auto

theorem State.refit_keeps (s : State) : Keeps s (State.refit s) := by
  have k := Keeps.refl s
  unfold State.refit
  exact Keeps.auto

theorem State.noteValid_keeps (s : State) : Keeps s (State.noteValid s) := by
  have k := Keeps.refl s
  unfold State.noteValid
  exact Keeps.auto

theorem State.modelAnchor_keeps (s : State) : Keeps s (State.modelAnchor s) := by
  have h0 := @State.noteValid_keeps
  have h1 := @State.refit_keeps
  have h2 := @State.setUh_keeps
  have h3 := @State.takeHo_keeps
  have h4 := @State.useTerms_keeps
  have k := Keeps.refl s
  unfold State.modelAnchor
  exact Keeps.auto

theorem State.freezeModel_keeps (s : State) : Keeps s (State.freezeModel s) := by
  have h0 := @State.setUh_keeps
  have h1 := @State.useTerms_keeps
  have k := Keeps.refl s
  unfold State.freezeModel
  exact Keeps.auto

theorem State.freezeGirth_keeps (s : State) (k : Freeze) : Keeps s (State.freezeGirth s k) := by
  have k := Keeps.refl s
  unfold State.freezeGirth
  exact Keeps.auto

theorem State.thawGirth_keeps (s : State) : Keeps s (State.thawGirth s) := by
  have k := Keeps.refl s
  unfold State.thawGirth
  exact Keeps.auto

theorem State.classFStart_keeps (s : State) (sigmas : List Nat) : Keeps s (State.classFStart s sigmas) := by
  have k := Keeps.refl s
  unfold State.classFStart
  exact Keeps.auto

theorem State.holdoverEnd_keeps (s : State) : Keeps s (State.holdoverEnd s) := by
  have k := Keeps.refl s
  unfold State.holdoverEnd
  exact Keeps.auto

/-- Zeroing entries of the history ring keeps the canonical form. -/
theorem memWf_ringClear {m : List Host.Cell} (h : memWf m = true) (p n : Nat) : memWf (ringClear m p n) = true :=
  memWf_wipe (memWf_wipe h _ _) _ _

theorem State.pushRing_keeps (s : State) (e : HistEntry) : Keeps s (State.pushRing s e) :=
  ⟨rfl, fun h => { h with engs := ⟨h.engs.count, h.engs.each, h.engs.tack, h.engs.sram, memWf_write (memWf_ringClear h.engs.dram _ _) _ _⟩ }⟩

theorem State.history_keeps (s : State) (aseq : Nat) (uMean : Option Int) : Keeps s (State.history s aseq uMean) := by
  have h0 := @State.pushRing_keeps
  have k := Keeps.refl s
  unfold State.history
  exact Keeps.auto

theorem execHoLearnFit_keeps (s : State) : KeepsO s (execHoLearnFit s) := by
  have h0 := @opLearnFit_keeps
  have k := Keeps.refl s
  unfold execHoLearnFit
  exact KeepsO.auto

end Sys2Proof.Machine
end

