-- ==== Sys2Proof/Laws/KeepServo.lean ====
section
/-!
SUPPORT. What the operations of Machine/Servo.lean leave.
-/
set_option Elab.async false
namespace Sys2Proof.Machine

theorem State.aim_keeps (s : State) (u : Int) (dt : Nat) : Keeps s (State.aim s u dt) := by
  have h0 := @State.accrue_keeps
  have k := Keeps.refl s
  unfold State.aim
  exact Keeps.auto

theorem State.takeServo_keeps (s : State) : Keeps s (State.takeServo s) := by
  have h0 := @State.takeLate_keeps
  have k := Keeps.refl s
  unfold State.takeServo
  exact Keeps.auto

theorem State.settle_keeps (s : State) : Keeps s (State.settle s) := by
  have k := Keeps.refl s
  unfold State.settle
  exact Keeps.auto

theorem State.slopeRun_keeps (s : State) (atLimit : Bool) (t : Nat) : Keeps s (State.slopeRun s atLimit t) := by
  have h0 := @State.clearFault_keeps
  have k := Keeps.refl s
  unfold State.slopeRun
  exact Keeps.auto

theorem State.noteError_keeps (s : State) (e : Int) : Keeps s (State.noteError s e) := by
  have k := Keeps.refl s
  unfold State.noteError
  exact Keeps.auto

theorem State.processError_keeps (s : State) (e : Int) (t : Nat) : Keeps s (State.processError s e t) := by
  have h0 := @State.accrue_keeps
  have h1 := @State.aim_keeps
  have h2 := @State.noteError_keeps
  have h3 := @State.settle_keeps
  have h4 := @State.slopeRun_keeps
  have h5 := @State.takeServo_keeps
  have k := Keeps.refl s
  unfold State.processError
  exact Keeps.auto

theorem State.rampTo_keeps (s : State) (goal : Int) (phase : Bool) (align : Bool) : Keeps s (State.rampTo s goal phase align) := by
  have h0 := @State.accrue_keeps
  have k := Keeps.refl s
  unfold State.rampTo
  exact Keeps.auto

theorem State.carryGrowth_keeps (s : State) : Keeps s (State.carryGrowth s) := by
  have k := Keeps.refl s
  unfold State.carryGrowth
  exact Keeps.auto

theorem State.noteRamp_keeps (s : State) : Keeps s (State.noteRamp s) := by
  have k := Keeps.refl s
  unfold State.noteRamp
  exact Keeps.auto

theorem State.showHoldover_keeps (s : State) : Keeps s (State.showHoldover s) := by
  have k := Keeps.refl s
  unfold State.showHoldover
  exact Keeps.auto

theorem State.enterHoldover_keeps (s : State) : Keeps s (State.enterHoldover s) := by
  have h0 := @State.noteRamp_keeps
  have h1 := @State.freezeGirth_keeps
  have h2 := @State.freezeModel_keeps
  have h3 := @State.carryGrowth_keeps
  have h4 := @State.accrue_keeps
  have h5 := @State.showHoldover_keeps
  have h6 := @State.rampTo_keeps
  have k := Keeps.refl s
  unfold State.enterHoldover
  exact Keeps.auto

theorem State.startSwitch_keeps (s : State) (n : Nat) (source : Nat) : Keeps s (State.startSwitch s n source) := by
  have h0 := @State.accrue_keeps
  have h1 := @State.freezeGirth_keeps
  have h2 := @State.holdU_keeps
  have h3 := @State.raise_keeps
  have k := Keeps.refl s
  unfold State.startSwitch
  exact Keeps.auto

theorem State.startFollow_keeps (s : State) : Keeps s (State.startFollow s) := by
  have h0 := @State.startSwitch_keeps
  have k := Keeps.refl s
  unfold State.startFollow
  exact Keeps.auto

theorem State.switchGirth_keeps (s : State) (n : Nat) : Keeps s (State.switchGirth s n) := by
  have h0 := @State.freezeGirth_keeps
  have h1 := @State.classFStart_keeps
  have h2 := @State.thawGirth_keeps
  have h3 := @State.holdoverEnd_keeps
  have k := Keeps.refl s
  unfold State.switchGirth
  exact Keeps.auto

theorem State.alignSlew_keeps (s : State) : Keeps s (State.alignSlew s) := by
  have h0 := @State.slew_keeps
  have k := Keeps.refl s
  unfold State.alignSlew
  exact Keeps.auto

theorem State.afterBuildOut_keeps (s : State) : Keeps s (State.afterBuildOut s) := by
  have h0 := @State.alignSlew_keeps
  have k := Keeps.refl s
  unfold State.afterBuildOut
  exact Keeps.auto

theorem State.switchDone_keeps (s : State) : Keeps s (State.switchDone s) := by
  have k := Keeps.refl s
  unfold State.switchDone
  exact Keeps.auto

theorem State.builtOut_keeps (s : State) (n : Nat) : Keeps s (State.builtOut s n) := by
  have h0 := @State.afterBuildOut_keeps
  have k := Keeps.refl s
  unfold State.builtOut
  exact Keeps.auto

theorem State.lostBuildOut_keeps (s : State) : Keeps s (State.lostBuildOut s) := by
  have h0 := @State.raise_keeps
  have h1 := @State.rampTo_keeps
  have h2 := @State.switchDone_keeps
  have k := Keeps.refl s
  unfold State.lostBuildOut
  exact Keeps.auto

theorem State.overtakeStep_keeps (s : State) : Keeps s (State.overtakeStep s) := by
  have k := Keeps.refl s
  unfold State.overtakeStep
  exact Keeps.auto

theorem State.passBuildOut_keeps (s : State) (p : Int) : Keeps s (State.passBuildOut s p) := by
  have h0 := @State.builtOut_keeps
  have h1 := @State.overtakeStep_keeps
  have h2 := @State.raise_keeps
  have h3 := @State.rampTo_keeps
  have h4 := @State.settle_keeps
  have h5 := @State.switchDone_keeps
  have h6 := @State.switchGirth_keeps
  have k := Keeps.refl s
  unfold State.passBuildOut
  exact Keeps.auto

theorem State.passPeer_keeps (s : State) (p : Int) : Keeps s (State.passPeer s p) := by
  have h0 := @State.afterBuildOut_keeps
  have h1 := @State.holdoverEnd_keeps
  have h2 := @State.overtakeStep_keeps
  have h3 := @State.raise_keeps
  have h4 := @State.settle_keeps
  have h5 := @State.switchDone_keeps
  have h6 := @State.thawGirth_keeps
  have k := Keeps.refl s
  unfold State.passPeer
  exact Keeps.auto

theorem State.endBuildOut_keeps (s : State) (phase : Option Int) : Keeps s (State.endBuildOut s phase) := by
  have h0 := @State.accrue_keeps
  have h1 := @State.lostBuildOut_keeps
  have h2 := @State.passBuildOut_keeps
  have h3 := @State.passPeer_keeps
  have h4 := @State.takeServo_keeps
  have k := Keeps.refl s
  unfold State.endBuildOut
  exact Keeps.auto

theorem opRampEnd_keeps (s : State) : Keeps s (opRampEnd s) := by
  have h0 := @State.accrue_keeps
  have h1 := @State.alignSlew_keeps
  have h2 := @State.settle_keeps
  have k := Keeps.refl s
  unfold opRampEnd
  exact Keeps.auto

theorem opSlewComplete_keeps (s : State) : Keeps s (opSlewComplete s) := by
  have h0 := @State.accrue_keeps
  have h1 := @State.settle_keeps
  have k := Keeps.refl s
  unfold opSlewComplete
  exact Keeps.auto

theorem State.noteMeasure_keeps (s : State) (n : Nat) (p : Int) (t : Nat) : Keeps s (State.noteMeasure s n p t) := by
  have h0 := @State.onRef_keeps
  have k := Keeps.refl s
  unfold State.noteMeasure
  exact Keeps.auto

theorem State.takeError_keeps (s : State) (n : Nat) (e : Int) (t : Nat) : Keeps s (State.takeError s n e t) := by
  have h0 := @State.noteError_keeps
  have h1 := @State.processError_keeps
  have h2 := @State.takeServo_keeps
  have k := Keeps.refl s
  unfold State.takeError
  exact Keeps.auto

theorem State.followMeasure_keeps (s : State) (n : Nat) (p : Int) (t : Nat) : Keeps s (State.followMeasure s n p t) := by
  have h0 := @State.accrue_keeps
  have h1 := @State.takeError_keeps
  have k := Keeps.refl s
  unfold State.followMeasure
  exact Keeps.auto

theorem State.freqLoop_keeps (s : State) : Keeps s (State.freqLoop s) := by
  have h0 := @State.aim_keeps
  have h1 := @State.takeServo_keeps
  have k := Keeps.refl s
  unfold State.freqLoop
  exact Keeps.auto

theorem State.servoAnchor_keeps (s : State) : Keeps s (State.servoAnchor s) := by
  have h0 := @State.aim_keeps
  have h1 := @State.freqLoop_keeps
  have k := Keeps.refl s
  unfold State.servoAnchor
  exact Keeps.auto

theorem State.takeArea_keeps (s : State) : Keeps s (State.takeArea s).1 := by
  have h0 := @State.accrue_keeps
  have k := Keeps.refl s
  unfold State.takeArea
  exact Keeps.auto

theorem State.closeSecond_keeps (s : State) (x : AnchorDue) (runs : Bool) : Keeps s (State.closeSecond s x runs) := by
  have h0 := @State.history_keeps
  have h1 := @State.record_keeps
  have h2 := @State.takeTemp_keeps
  have h3 := @State.tempSecond_keeps
  have k := Keeps.refl s
  unfold State.closeSecond
  exact Keeps.auto

theorem opServoRestart_keeps (s : State) : Keeps s (opServoRestart s) := by
  have h0 := @State.accrue_keeps
  have h1 := @State.holdU_keeps
  have h2 := @State.rampTo_keeps
  have k := Keeps.refl s
  unfold opServoRestart
  exact Keeps.auto

theorem opSlopeTimeout_keeps (s : State) : Keeps s (opSlopeTimeout s) := by
  have h0 := @State.raise_keeps
  have k := Keeps.refl s
  unfold opSlopeTimeout
  exact Keeps.auto

theorem opAccumStep_keeps (ns : Int) (s : State) : Keeps s (opAccumStep ns s) := by
  have k := Keeps.refl s
  unfold opAccumStep
  exact Keeps.auto

theorem execAccumControl_keeps (now : Nat) (u : Int) (s : State) : KeepsO s (execAccumControl now u s) := by
  have h0 := @State.control_keeps
  have h1 := @State.atTime_keeps
  have k := Keeps.refl s
  unfold execAccumControl
  exact KeepsO.auto

theorem execAccumSlew_keeps (now : Nat) (amount : Int) (rate : Nat) (s : State) : KeepsO s (execAccumSlew now amount rate s) := by
  have h0 := @State.atTime_keeps
  have h1 := @State.settle_keeps
  have h2 := @State.slew_keeps
  have k := Keeps.refl s
  unfold execAccumSlew
  exact KeepsO.auto

theorem execAccumStep_keeps (ns : Int) (s : State) : KeepsO s (execAccumStep ns s) := by
  have h0 := @opAccumStep_keeps
  have k := Keeps.refl s
  unfold execAccumStep
  exact KeepsO.auto

theorem execSlewComplete_keeps (now : Nat) (s : State) : KeepsO s (execSlewComplete now s) := by
  have h0 := @opSlewComplete_keeps
  have h1 := @State.atTime_keeps
  have k := Keeps.refl s
  unfold execSlewComplete
  exact KeepsO.auto

theorem execFreqRampEnd_keeps (now : Nat) (s : State) : KeepsO s (execFreqRampEnd now s) := by
  have h0 := @opRampEnd_keeps
  have h1 := @State.atTime_keeps
  have k := Keeps.refl s
  unfold execFreqRampEnd
  exact KeepsO.auto

theorem execServoRestart_keeps (now : Nat) (s : State) : KeepsO s (execServoRestart now s) := by
  have h0 := @opServoRestart_keeps
  have h1 := @State.atTime_keeps
  have k := Keeps.refl s
  unfold execServoRestart
  exact KeepsO.auto

theorem execSlopeLimitTimeout_keeps (now : Nat) (s : State) : KeepsO s (execSlopeLimitTimeout now s) := by
  have h0 := @opSlopeTimeout_keeps
  have h1 := @State.atTime_keeps
  have k := Keeps.refl s
  unfold execSlopeLimitTimeout
  exact KeepsO.auto

end Sys2Proof.Machine
end

