-- ==== Sys2Proof/Laws/KeepTiu.lean ====
section
/-!
SUPPORT. What the operations of Machine/Tiu.lean leave.
-/
set_option Elab.async false
namespace Sys2Proof.Machine

theorem State.fixRate_keeps (s : State) (c : Nat) : Keeps s (State.fixRate s c) := by
  have h0 := @State.onChan_keeps
  have h1 := @State.raise_keeps
  have k := Keeps.refl s
  unfold State.fixRate
  exact Keeps.auto

theorem State.deliver_keeps (c : Nat) (s : State) (r : TiuRec) : Keeps s (State.deliver c s r) := by
  have h0 := @State.onChan_keeps
  have h1 := @State.tap_keeps
  have k := Keeps.refl s
  unfold State.deliver
  exact Keeps.auto

theorem State.arbOne_keeps (s : State) (c : Nat) : Keeps s (State.arbOne s c) := by
  have h0 := @State.deliver_keeps
  have h1 := @State.onChan_keeps
  have k := Keeps.refl s
  unfold State.arbOne
  exact Keeps.auto

theorem State.drain_keeps (s : State) : Keeps s (State.drain s) := by
  have h0 := @State.arbOne_keeps
  have k := Keeps.refl s
  unfold State.drain
  exact Keeps.auto

theorem State.tiuEdge_keeps (s : State) (now : Nat) (c : Nat) (bin : Nat) : Keeps s (State.tiuEdge s now c bin) := by
  have h0 := @State.drain_keeps
  have h1 := @State.onChan_keeps
  have k := Keeps.refl s
  unfold State.tiuEdge
  exact Keeps.auto

theorem State.estimate1s_keeps (prev : Nat) (now : Nat) (s : State) (c : Nat) : Keeps s (State.estimate1s prev now s c) := by
  have h0 := @State.onChan_keeps
  have k := Keeps.refl s
  unfold State.estimate1s
  exact Keeps.auto

theorem opGateEstimate_keeps (c : Nat) (s : State) : Keeps s (opGateEstimate c s) := by
  have h0 := @State.onChan_keeps
  have h1 := @State.takeLate_keeps
  have k := Keeps.refl s
  unfold opGateEstimate
  exact Keeps.auto

theorem opTiuReconfig_keeps (c : Nat) (s : State) : Keeps s (opTiuReconfig c s) := by
  have h0 := @State.onChan_keeps
  have k := Keeps.refl s
  unfold opTiuReconfig
  exact Keeps.auto

theorem execTiuGateEstimate_keeps (now : Nat) (c : Nat) (s : State) : KeepsO s (execTiuGateEstimate now c s) := by
  have h0 := @opGateEstimate_keeps
  have h1 := @State.atTime_keeps
  have k := Keeps.refl s
  unfold execTiuGateEstimate
  exact KeepsO.auto

end Sys2Proof.Machine
end

