-- ==== Sys2Proof/Laws/KeepRefs.lean ====
section
/-!
SUPPORT. What the operations of Machine/Refs.lean leave.
-/
set_option Elab.async false
namespace Sys2Proof.Machine

theorem State.noteClaim_keeps (s : State) (n : Nat) : Keeps s (State.noteClaim s n) := by
  have k := Keeps.refl s
  unfold State.noteClaim
  exact Keeps.auto

theorem State.noteFed_keeps (s : State) : Keeps s (State.noteFed s) := by
  have h0 := @State.noteClaim_keeps
  have k := Keeps.refl s
  unfold State.noteFed
  exact Keeps.auto

theorem State.runSelector_keeps (again : Bool) (s : State) : Keeps s (State.runSelector again s) := by
  have h0 := @State.enterHoldover_keeps
  have h1 := @State.raise_keeps
  have h2 := @State.startFollow_keeps
  have h3 := @State.startSwitch_keeps
  have k := Keeps.refl s
  unfold State.runSelector
  exact Keeps.auto

theorem opSelectorTick_keeps (s : State) : Keeps s (opSelectorTick s) := by
  have h0 := @State.runSelector_keeps
  have k := Keeps.refl s
  unfold opSelectorTick
  exact Keeps.auto

theorem State.moveRef_keeps (s : State) (n : Nat) (q : QState) : Keeps s (State.moveRef s n q) := by
  have h0 := @State.onRef_keeps
  have h1 := @State.raise_keeps
  have h2 := @State.settle_keeps
  have k := Keeps.refl s
  unfold State.moveRef
  exact Keeps.auto

theorem State.dropRef_keeps (s : State) (n : Nat) (q : QState) : Keeps s (State.dropRef s n q) := by
  have h0 := @State.accrue_keeps
  have h1 := @State.holdU_keeps
  have h2 := @State.moveRef_keeps
  have h3 := @State.onRef_keeps
  have h4 := @State.rampTo_keeps
  have k := Keeps.refl s
  unfold State.dropRef
  exact Keeps.auto

theorem State.loseRef_keeps (s : State) (n : Nat) : Keeps s (State.loseRef s n) := by
  have h0 := @State.dropRef_keeps
  have h1 := @State.onRef_keeps
  have k := Keeps.refl s
  unfold State.loseRef
  exact Keeps.auto

theorem opLossOfSignal_keeps (n : Nat) (s : State) : Keeps s (opLossOfSignal n s) := by
  have h0 := @State.loseRef_keeps
  have k := Keeps.refl s
  unfold opLossOfSignal
  exact Keeps.auto

theorem State.takeEstimate_keeps (s : State) (n : Nat) (y : Int) (ref : Int) : Keeps s (State.takeEstimate s n y ref) := by
  have h0 := @State.onRef_keeps
  have k := Keeps.refl s
  unfold State.takeEstimate
  exact Keeps.auto

theorem State.noteSigma_keeps (s : State) (n : Nat) : Keeps s (State.noteSigma s n) := by
  have h0 := @State.onRef_keeps
  have k := Keeps.refl s
  unfold State.noteSigma
  exact Keeps.auto

theorem State.soak_keeps (s : State) (n : Nat) : Keeps s (State.soak s n) := by
  have h0 := @State.onRef_keeps
  have h1 := @State.moveRef_keeps
  have k := Keeps.refl s
  unfold State.soak
  exact Keeps.auto

theorem State.suspectSecond_keeps (s : State) (n : Nat) : Keeps s (State.suspectSecond s n) := by
  have h0 := @State.moveRef_keeps
  have h1 := @State.onRef_keeps
  have k := Keeps.refl s
  unfold State.suspectSecond
  exact Keeps.auto

theorem State.evalRef_keeps (s : State) (n : Nat) : Keeps s (State.evalRef s n) := by
  have h0 := @State.moveRef_keeps
  have h1 := @State.noteSigma_keeps
  have h2 := @State.onRef_keeps
  have h3 := @State.soak_keeps
  have h4 := @State.suspectSecond_keeps
  have h5 := @State.takeEstimate_keeps
  have k := Keeps.refl s
  unfold State.evalRef
  exact Keeps.auto

theorem opRefEvaluation_keeps (s : State) : Keeps s (opRefEvaluation s) := by
  have h0 := @State.evalRef_keeps
  have h1 := @State.endBuildOut_keeps
  have k := Keeps.refl s
  unfold opRefEvaluation
  exact Keeps.auto

theorem opRefEnable_keeps (n : Nat) (s : State) : Keeps s (opRefEnable n s) := by
  have h0 := @State.dropRef_keeps
  have h1 := @State.moveRef_keeps
  have h2 := @State.onRef_keeps
  have k := Keeps.refl s
  unfold opRefEnable
  exact Keeps.auto

theorem opSoakRestart_keeps (n : Nat) (s : State) : Keeps s (opSoakRestart n s) := by
  have h0 := @State.onRef_keeps
  have k := Keeps.refl s
  unfold opSoakRestart
  exact Keeps.auto

theorem State.refEdge_keeps (s : State) (n : Nat) (t : Nat) : Keeps s (State.refEdge s n t) := by
  have h0 := @State.onRef_keeps
  have h1 := @opLossOfSignal_keeps
  have k := Keeps.refl s
  unfold State.refEdge
  exact Keeps.auto

theorem opTiuEdge_keeps (now : Nat) (c : Nat) (bin : Nat) (s : State) : Keeps s (opTiuEdge now c bin s) := by
  have h0 := @State.refEdge_keeps
  have h1 := @State.tiuEdge_keeps
  have k := Keeps.refl s
  unfold opTiuEdge
  exact Keeps.auto

theorem opMeasure_keeps (n : Nat) (p : Int) (status : Nat) (t : Nat) (s : State) : Keeps s (opMeasure n p status t s) := by
  have h0 := @State.onRef_keeps
  have h1 := @State.moveRef_keeps
  have h2 := @State.noteMeasure_keeps
  have h3 := @State.endBuildOut_keeps
  have h4 := @State.followMeasure_keeps
  have k := Keeps.refl s
  unfold opMeasure
  exact Keeps.auto

theorem opBuildOutTimeout_keeps (s : State) : Keeps s (opBuildOutTimeout s) := by
  have h0 := @State.endBuildOut_keeps
  have h1 := @State.runSelector_keeps
  have k := Keeps.refl s
  unfold opBuildOutTimeout
  exact Keeps.auto

theorem opTodRx_keeps (k : Nat) (since : Nat) (own : Bool) (tai : Option Nat) (leap : Nat) (off : Int) (ql : Nat) (girth : Nat) (flags : Nat) (s : State) : Keeps s (opTodRx k since own tai leap off ql girth flags s) := by
  have h0 := @State.learnAnnounced_keeps
  have h1 := @State.onRef_keeps
  have k := Keeps.refl s
  unfold opTodRx
  exact Keeps.auto

theorem opQlTimeout_keeps (n : Nat) (s : State) : Keeps s (opQlTimeout n s) := by
  have h0 := @State.onRef_keeps
  have k := Keeps.refl s
  unfold opQlTimeout
  exact Keeps.auto

theorem opRebind_keeps (n : Nat) (s : State) : Keeps s (opRebind n s) := by
  have h0 := @State.fixRate_keeps
  have h1 := @State.noteClaim_keeps
  have h2 := @State.onRef_keeps
  have k := Keeps.refl s
  unfold opRebind
  exact Keeps.auto

theorem opEsmcRx_keeps (lane : Nat) (ssm : Nat) (essm : Option Nat) (s : State) : Keeps s (opEsmcRx lane ssm essm s) := by
  have h0 := @State.onRef_keeps
  have k := Keeps.refl s
  unfold opEsmcRx
  exact Keeps.auto

theorem opForceChange_keeps (pins : Nat) (s : State) : Keeps s (opForceChange pins s) := by
  have k := Keeps.refl s
  unfold opForceChange
  exact Keeps.auto

theorem opForceLatch_keeps (s : State) : Keeps s (opForceLatch s) := by
  have h0 := @State.raise_keeps
  have k := Keeps.refl s
  unfold opForceLatch
  exact Keeps.auto

theorem execTiuEdge_keeps (now : Nat) (c : Nat) (bin : Nat) (s : State) : KeepsO s (execTiuEdge now c bin s) := by
  have h0 := @State.atTime_keeps
  have h1 := @opTiuEdge_keeps
  have k := Keeps.refl s
  unfold execTiuEdge
  exact KeepsO.auto

theorem execRefEvaluation_keeps (now : Nat) (s : State) : KeepsO s (execRefEvaluation now s) := by
  have h0 := @opRefEvaluation_keeps
  have h1 := @State.atTime_keeps
  have k := Keeps.refl s
  unfold execRefEvaluation
  exact KeepsO.auto

theorem execRefLossOfSignal_keeps (now : Nat) (n : Nat) (s : State) : KeepsO s (execRefLossOfSignal now n s) := by
  have h0 := @opLossOfSignal_keeps
  have h1 := @State.atTime_keeps
  have k := Keeps.refl s
  unfold execRefLossOfSignal
  exact KeepsO.auto

theorem execTodSentenceRx_keeps (now : Nat) (k : Nat) (since : Nat) (own : Bool) (tai : Option Nat) (leap : Nat) (off : Int) (ql : Nat) (girth : Nat) (flags : Nat) (s : State) : KeepsO s (execTodSentenceRx now k since own tai leap off ql girth flags s) := by
  have h0 := @opTodRx_keeps
  have h1 := @State.atTime_keeps
  have k := Keeps.refl s
  unfold execTodSentenceRx
  exact KeepsO.auto

theorem execTodSentenceTimeout_keeps (k : Nat) (s : State) : KeepsO s (execTodSentenceTimeout k s) := by
  have h0 := @opQlTimeout_keeps
  have k := Keeps.refl s
  unfold execTodSentenceTimeout
  exact KeepsO.auto

theorem execEsmcPduRx_keeps (lane : Nat) (ssm : Nat) (essm : Option Nat) (s : State) : KeepsO s (execEsmcPduRx lane ssm essm s) := by
  have h0 := @opEsmcRx_keeps
  have k := Keeps.refl s
  unfold execEsmcPduRx
  exact KeepsO.auto

theorem execEsmcRxTimeout_keeps (k : Nat) (s : State) : KeepsO s (execEsmcRxTimeout k s) := by
  have h0 := @opQlTimeout_keeps
  have k := Keeps.refl s
  unfold execEsmcRxTimeout
  exact KeepsO.auto

theorem execForcePinChange_keeps (pins : Nat) (s : State) : KeepsO s (execForcePinChange pins s) := by
  have h0 := @opForceChange_keeps
  have k := Keeps.refl s
  unfold execForcePinChange
  exact KeepsO.auto

theorem execForcePinLatch_keeps (now : Nat) (s : State) : KeepsO s (execForcePinLatch now s) := by
  have h0 := @opForceLatch_keeps
  have h1 := @State.atTime_keeps
  have k := Keeps.refl s
  unfold execForcePinLatch
  exact KeepsO.auto

theorem execBuildOutTimeout_keeps (now : Nat) (s : State) : KeepsO s (execBuildOutTimeout now s) := by
  have h0 := @opBuildOutTimeout_keeps
  have h1 := @State.atTime_keeps
  have k := Keeps.refl s
  unfold execBuildOutTimeout
  exact KeepsO.auto

end Sys2Proof.Machine
end

