-- ==== Sys2Proof/Laws/KeepLanes.lean ====
section
/-!
SUPPORT. What the operations of Machine/Lanes.lean leave.
-/
set_option Elab.async false
namespace Sys2Proof.Machine

theorem State.seLost_keeps (s : State) (l : Nat) : Keeps s (State.seLost s l) := by
  have h0 := @opLossOfSignal_keeps
  have k := Keeps.refl s
  unfold State.seLost
  exact Keeps.auto

theorem State.wakeTiming_keeps (s : State) : Keeps s (State.wakeTiming s) := by
  have h0 := @State.onLane_keeps
  have k := Keeps.refl s
  unfold State.wakeTiming
  exact Keeps.auto

theorem State.settleTails_keeps (s : State) : Keeps s (State.settleTails s) := by
  have h0 := @State.settle_keeps
  have k := Keeps.refl s
  unfold State.settleTails
  exact Keeps.auto

theorem State.release_keeps (s : State) (i : Nat) (c : Copy) : Keeps s (State.release s i c) := by
  have h0 := @State.onQueue_keeps
  have h1 := @State.onYPort_keeps
  have k := Keeps.refl s
  unfold State.release
  exact Keeps.auto

theorem State.setFwd_keeps (s : State) (p : Nat) (f : Nat) : Keeps s (State.setFwd s p f) := by
  have h0 := @State.onYPort_keeps
  have k := Keeps.refl s
  unfold State.setFwd
  exact Keeps.auto

theorem State.stampUnsent_keeps (s : State) (p : Nat) : Keeps s (State.stampUnsent s p) := by
  have h0 := @State.onYPort_keeps
  have k := Keeps.refl s
  unfold State.stampUnsent
  exact Keeps.auto

theorem State.raiseRefused_keeps (s : State) (p : Nat) (timing : Bool) : Keeps s (State.raiseRefused s p timing) := by
  have h0 := @State.onYPort_keeps
  have h1 := @State.raise_keeps
  have k := Keeps.refl s
  unfold State.raiseRefused
  exact Keeps.auto

theorem State.partialDrop_keeps (s : State) (p : Nat) (multi : Bool) : Keeps s (State.partialDrop s p multi) := by
  have h0 := @State.onYPort_keeps
  have k := Keeps.refl s
  unfold State.partialDrop
  exact Keeps.auto

theorem State.refuseDown_keeps (s : State) (p : Nat) (timing : Bool) : Keeps s (State.refuseDown s p timing) := by
  have h0 := @State.onYPort_keeps
  have h1 := @State.raiseRefused_keeps
  have k := Keeps.refl s
  unfold State.refuseDown
  exact Keeps.auto

theorem State.takeCopy_keeps (s : State) (i : Nat) (c : Copy) : Keeps s (State.takeCopy s i c) := by
  have h0 := @State.onQueue_keeps
  have h1 := @State.release_keeps
  have k := Keeps.refl s
  unfold State.takeCopy
  exact Keeps.auto

theorem State.dropCopy_keeps (s : State) (i : Nat) (c : Copy) : Keeps s (State.dropCopy s i c) := by
  have h0 := @State.stampUnsent_keeps
  have h1 := @State.takeCopy_keeps
  have k := Keeps.refl s
  unfold State.dropCopy
  exact Keeps.auto

theorem State.refuseSame_keeps (s : State) (p : Nat) : Keeps s (State.refuseSame s p) := by
  have h0 := @State.dropCopy_keeps
  have h1 := @State.partialDrop_keeps
  have h2 := @State.refuseDown_keeps
  have k := Keeps.refl s
  unfold State.refuseSame
  exact Keeps.auto

theorem State.flushPort_keeps (s : State) (p : Nat) : Keeps s (State.flushPort s p) := by
  have h0 := @State.dropCopy_keeps
  have h1 := @State.onQueue_keeps
  have h2 := @State.onYPort_keeps
  have k := Keeps.refl s
  unfold State.flushPort
  exact Keeps.auto

theorem State.ptpLink_keeps (s : State) (p : Nat) : Keeps s (State.ptpLink s p) := by
  have h0 := @State.onPPort_keeps
  have h1 := @opLossOfSignal_keeps
  have h2 := @State.onInst_keeps
  have k := Keeps.refl s
  unfold State.ptpLink
  exact Keeps.auto

theorem State.beginLane_keeps (s : State) (l : Nat) : Keeps s (State.beginLane s l) := by
  have h0 := @State.onLane_keeps
  have k := Keeps.refl s
  unfold State.beginLane
  exact Keeps.auto

theorem State.downLanes_keeps (s : State) (p : Nat) (st : Nat) : Keeps s (State.downLanes s p st) := by
  have h0 := @State.beginLane_keeps
  have h1 := @State.clearFault_keeps
  have h2 := @State.holdTaps_keeps
  have h3 := @State.onLane_keeps
  have h4 := @State.raise_keeps
  have h5 := @State.seLost_keeps
  have k := Keeps.refl s
  unfold State.downLanes
  exact Keeps.auto

theorem State.cutSending_keeps (s : State) (p : Nat) : Keeps s (State.cutSending s p) := by
  have h0 := @State.onYPort_keeps
  have h1 := @State.stampUnsent_keeps
  have k := Keeps.refl s
  unfold State.cutSending
  exact Keeps.auto

theorem State.holdPort_keeps (s : State) (p : Nat) : Keeps s (State.holdPort s p) := by
  have h0 := @State.cutSending_keeps
  have h1 := @State.onQueue_keeps
  have h2 := @State.onYPort_keeps
  have h3 := @State.ptpLink_keeps
  have h4 := @State.refuseSame_keeps
  have h5 := @State.setFwd_keeps
  have k := Keeps.refl s
  unfold State.holdPort
  exact Keeps.auto

theorem State.portReset_keeps (s : State) (p : Nat) (st : Nat) : Keeps s (State.portReset s p st) := by
  have h0 := @State.cutSending_keeps
  have h1 := @State.downLanes_keeps
  have h2 := @State.flushPort_keeps
  have h3 := @State.ptpLink_keeps
  have h4 := @State.refuseSame_keeps
  have h5 := @State.setFwd_keeps
  have k := Keeps.refl s
  unfold State.portReset
  exact Keeps.auto

theorem opRetrain_keeps (l : Nat) (s : State) : Keeps s (opRetrain l s) := by
  have h0 := @State.onLane_keeps
  have h1 := @State.holdPort_keeps
  have h2 := @State.downLanes_keeps
  have k := Keeps.refl s
  unfold opRetrain
  exact Keeps.auto

theorem opLaneDisable_keeps (l : Nat) (s : State) : Keeps s (opLaneDisable l s) := by
  have h0 := @State.portReset_keeps
  have k := Keeps.refl s
  unfold opLaneDisable
  exact Keeps.auto

theorem State.onPeer_keeps (s : State) (p : Nat) (f : PeerLane → PeerLane) : Keeps s (State.onPeer s p f) := by
  have k := Keeps.refl s
  unfold State.onPeer
  exact Keeps.auto

theorem State.beginPeer_keeps (s : State) (p : Nat) : Keeps s (State.beginPeer s p) := by
  have h0 := @State.onPeer_keeps
  have k := Keeps.refl s
  unfold State.beginPeer
  exact Keeps.auto

theorem opBringUp_keeps (l : Nat) (stage : Nat) (scans : List (Nat × Nat)) (fir : Int × Int × Int) (s : State) : Keeps s (opBringUp l stage scans fir s) := by
  have h0 := @State.beginLane_keeps
  have h1 := @State.beginPeer_keeps
  have h2 := @State.onLane_keeps
  have h3 := @State.onPeer_keeps
  have k := Keeps.refl s
  unfold opBringUp
  exact Keeps.auto

theorem opTrainTimeout_keeps (l : Nat) (s : State) : Keeps s (opTrainTimeout l s) := by
  have h0 := @State.onLane_keeps
  have h1 := @State.beginLane_keeps
  have k := Keeps.refl s
  unfold opTrainTimeout
  exact Keeps.auto

theorem State.upLane_keeps (s : State) (l : Nat) : Keeps s (State.upLane s l) := by
  have h0 := @State.clearFault_keeps
  have h1 := @State.onLane_keeps
  have k := Keeps.refl s
  unfold State.upLane
  exact Keeps.auto

theorem opLinkUp_keeps (l : Nat) (s : State) : Keeps s (opLinkUp l s) := by
  have h0 := @State.onLane_keeps
  have h1 := @State.ptpLink_keeps
  have h2 := @State.setFwd_keeps
  have h3 := @State.upLane_keeps
  have k := Keeps.refl s
  unfold opLinkUp
  exact Keeps.auto

theorem opBlockTime_keeps (p : Nat) (s : State) : Keeps s (opBlockTime p s) := by
  have h0 := @State.ptpLink_keeps
  have h1 := @State.setFwd_keeps
  have k := Keeps.refl s
  unfold opBlockTime
  exact Keeps.auto

theorem opDownHold_keeps (p : Nat) (s : State) : Keeps s (opDownHold p s) := by
  have h0 := @State.flushPort_keeps
  have h1 := @State.setFwd_keeps
  have k := Keeps.refl s
  unfold opDownHold
  exact Keeps.auto

theorem opQrefLoss_keeps (q : Nat) (s : State) : Keeps s (opQrefLoss q s) := by
  have h0 := @State.holdPort_keeps
  have h1 := @State.downLanes_keeps
  have h2 := @State.raise_keeps
  have h3 := @State.onQuad_keeps
  have k := Keeps.refl s
  unfold opQrefLoss
  exact Keeps.auto

theorem opQrefReturn_keeps (q : Nat) (s : State) : Keeps s (opQrefReturn q s) := by
  have h0 := @State.clearFault_keeps
  have h1 := @State.onQuad_keeps
  have k := Keeps.refl s
  unfold opQrefReturn
  exact Keeps.auto

theorem opQuadApply_keeps (q : Nat) (s : State) : Keeps s (opQuadApply q s) := by
  have h0 := @State.beginLane_keeps
  have h1 := @State.fixRate_keeps
  have h2 := @State.onLane_keeps
  have h3 := @State.onQuad_keeps
  have h4 := @State.portReset_keeps
  have h5 := @State.raise_keeps
  have h6 := @State.wakeTiming_keeps
  have k := Keeps.refl s
  unfold opQuadApply
  exact Keeps.auto

theorem opEyeScan_keeps (l : Nat) (v : Nat) (w : Nat) (s : State) : Keeps s (opEyeScan l v w s) := by
  have h0 := @State.onLane_keeps
  have h1 := @State.onPeer_keeps
  have k := Keeps.refl s
  unfold opEyeScan
  exact Keeps.auto

theorem opFomWarn_keeps (l : Nat) (s : State) : Keeps s (opFomWarn l s) := by
  have h0 := @State.onLane_keeps
  have h1 := @State.onPeer_keeps
  have h2 := @State.raise_keeps
  have k := Keeps.refl s
  unfold opFomWarn
  exact Keeps.auto

theorem State.markCtle_keeps (s : State) (l : Nat) : Keeps s (State.markCtle s l) := by
  have h0 := @State.onLane_keeps
  have k := Keeps.refl s
  unfold State.markCtle
  exact Keeps.auto

theorem State.moveCtle_keeps (s : State) (l : Nat) (code : Nat) : Keeps s (State.moveCtle s l code) := by
  have h0 := @State.markCtle_keeps
  have h1 := @State.onLane_keeps
  have k := Keeps.refl s
  unfold State.moveCtle
  exact Keeps.auto

theorem opCtleAdapt_keeps (l : Nat) (below : Nat × Nat) (above : Nat × Nat) (s : State) : Keeps s (opCtleAdapt l below above s) := by
  have h0 := @State.moveCtle_keeps
  have k := Keeps.refl s
  unfold opCtleAdapt
  exact Keeps.auto

theorem opCtleMode_keeps (l : Nat) (s : State) : Keeps s (opCtleMode l s) := by
  have h0 := @State.onLane_keeps
  have k := Keeps.refl s
  unfold opCtleMode
  exact Keeps.auto

theorem opLpiTx_keeps (l : Nat) (s : State) : Keeps s (opLpiTx l s) := by
  have h0 := @State.onLane_keeps
  have k := Keeps.refl s
  unfold opLpiTx
  exact Keeps.auto

theorem opLpiRx_keeps (l : Nat) (asleep : Bool) (s : State) : Keeps s (opLpiRx l asleep s) := by
  have h0 := @State.holdTaps_keeps
  have h1 := @State.onLane_keeps
  have h2 := @State.raise_keeps
  have h3 := @State.seLost_keeps
  have k := Keeps.refl s
  unfold opLpiRx
  exact Keeps.auto

theorem State.unfollow_keeps (s : State) : Keeps s (State.unfollow s) := by
  have h0 := @State.rampTo_keeps
  have k := Keeps.refl s
  unfold State.unfollow
  exact Keeps.auto

theorem State.leavePeer_keeps (s : State) : Keeps s (State.leavePeer s) := by
  have h0 := @State.unfollow_keeps
  have k := Keeps.refl s
  unfold State.leavePeer
  exact Keeps.auto

theorem State.peerSwitch_keeps (s : State) (p : Nat) : Keeps s (State.peerSwitch s p) := by
  have h0 := @State.leavePeer_keeps
  have h1 := @State.raise_keeps
  have k := Keeps.refl s
  unfold State.peerSwitch
  exact Keeps.auto

theorem opPeerSwitch_keeps (s : State) : Keeps s (opPeerSwitch s) := by
  have h0 := @State.peerSwitch_keeps
  have k := Keeps.refl s
  unfold opPeerSwitch
  exact Keeps.auto

theorem opPeerRevert_keeps (wait : Nat) (s : State) : Keeps s (opPeerRevert wait s) := by
  have h0 := @State.peerSwitch_keeps
  have k := Keeps.refl s
  unfold opPeerRevert
  exact Keeps.auto

theorem execQrefLoss_keeps (now : Nat) (q : Nat) (s : State) : KeepsO s (execQrefLoss now q s) := by
  have h0 := @opQrefLoss_keeps
  have h1 := @State.atTime_keeps
  have k := Keeps.refl s
  unfold execQrefLoss
  exact KeepsO.auto

theorem execQrefReturn_keeps (now : Nat) (q : Nat) (s : State) : KeepsO s (execQrefReturn now q s) := by
  have h0 := @opQrefReturn_keeps
  have h1 := @State.atTime_keeps
  have k := Keeps.refl s
  unfold execQrefReturn
  exact KeepsO.auto

theorem execLinkBringUp_keeps (now : Nat) (l : Nat) (stage : Nat) (scans : List (Nat × Nat)) (pre : Int) (main : Int) (post : Int) (s : State) : KeepsO s (execLinkBringUp now l stage scans pre main post s) := by
  have h0 := @State.atTime_keeps
  have h1 := @opBringUp_keeps
  have k := Keeps.refl s
  unfold execLinkBringUp
  exact KeepsO.auto

theorem execTrainingTimeout_keeps (now : Nat) (l : Nat) (s : State) : KeepsO s (execTrainingTimeout now l s) := by
  have h0 := @opTrainTimeout_keeps
  have h1 := @State.atTime_keeps
  have k := Keeps.refl s
  unfold execTrainingTimeout
  exact KeepsO.auto

theorem execLinkUp_keeps (now : Nat) (l : Nat) (s : State) : KeepsO s (execLinkUp now l s) := by
  have h0 := @State.atTime_keeps
  have h1 := @opLinkUp_keeps
  have k := Keeps.refl s
  unfold execLinkUp
  exact KeepsO.auto

theorem execLinkLoss_keeps (now : Nat) (l : Nat) (s : State) : KeepsO s (execLinkLoss now l s) := by
  have h0 := @opRetrain_keeps
  have h1 := @State.atTime_keeps
  have k := Keeps.refl s
  unfold execLinkLoss
  exact KeepsO.auto

theorem execBlockLockLossTimeout_keeps (now : Nat) (l : Nat) (s : State) : KeepsO s (execBlockLockLossTimeout now l s) := by
  have h0 := @opRetrain_keeps
  have h1 := @State.atTime_keeps
  have k := Keeps.refl s
  unfold execBlockLockLossTimeout
  exact KeepsO.auto

theorem execEyeScan_keeps (l : Nat) (v : Nat) (w : Nat) (s : State) : KeepsO s (execEyeScan l v w s) := by
  have h0 := @opEyeScan_keeps
  have k := Keeps.refl s
  unfold execEyeScan
  exact KeepsO.auto

theorem execFomWarnTimeout_keeps (now : Nat) (l : Nat) (s : State) : KeepsO s (execFomWarnTimeout now l s) := by
  have h0 := @opFomWarn_keeps
  have h1 := @State.atTime_keeps
  have k := Keeps.refl s
  unfold execFomWarnTimeout
  exact KeepsO.auto

theorem execCtleAdapt_keeps (now : Nat) (l : Nat) (vlo : Nat) (wlo : Nat) (vhi : Nat) (whi : Nat) (s : State) : KeepsO s (execCtleAdapt now l vlo wlo vhi whi s) := by
  have h0 := @State.atTime_keeps
  have h1 := @opCtleAdapt_keeps
  have k := Keeps.refl s
  unfold execCtleAdapt
  exact KeepsO.auto

theorem execLpiTxSleep_keeps (l : Nat) (s : State) : KeepsO s (execLpiTxSleep l s) := by
  have h0 := @opLpiTx_keeps
  have k := Keeps.refl s
  unfold execLpiTxSleep
  exact KeepsO.auto

theorem execLpiRxSignal_keeps (now : Nat) (l : Nat) (asleep : Bool) (s : State) : KeepsO s (execLpiRxSignal now l asleep s) := by
  have h0 := @opLpiRx_keeps
  have h1 := @State.atTime_keeps
  have k := Keeps.refl s
  unfold execLpiRxSignal
  exact KeepsO.auto

theorem execPeerLaneSwitch_keeps (now : Nat) (s : State) : KeepsO s (execPeerLaneSwitch now s) := by
  have h0 := @opPeerSwitch_keeps
  have h1 := @State.atTime_keeps
  have k := Keeps.refl s
  unfold execPeerLaneSwitch
  exact KeepsO.auto

theorem execPeerLaneRevert_keeps (now : Nat) (s : State) : KeepsO s (execPeerLaneRevert now s) := by
  have h0 := @opPeerRevert_keeps
  have h1 := @State.atTime_keeps
  have k := Keeps.refl s
  unfold execPeerLaneRevert
  exact KeepsO.auto

theorem execDownHoldExpire_keeps (now : Nat) (p : Nat) (s : State) : KeepsO s (execDownHoldExpire now p s) := by
  have h0 := @opDownHold_keeps
  have h1 := @State.atTime_keeps
  have k := Keeps.refl s
  unfold execDownHoldExpire
  exact KeepsO.auto

theorem execBlockTimeExpire_keeps (now : Nat) (p : Nat) (s : State) : KeepsO s (execBlockTimeExpire now p s) := by
  have h0 := @opBlockTime_keeps
  have h1 := @State.atTime_keeps
  have k := Keeps.refl s
  unfold execBlockTimeExpire
  exact KeepsO.auto

end Sys2Proof.Machine
end

