-- ==== Sys2Proof/Laws/KeepPortStamps.lean ====
section
/-!
SUPPORT. What the operations of Machine/PortStamps.lean leave.
-/
set_option Elab.async false
namespace Sys2Proof.Machine

theorem State.raiseUnc_keeps (s : State) (e : Nat) (u : Nat) : Keeps s (State.raiseUnc s e u) := by
  have h0 := @State.onLane_keeps
  have k := Keeps.refl s
  unfold State.raiseUnc
  exact Keeps.auto

theorem opInterpCal_keeps (l : Nat) (s : State) : Keeps s (opInterpCal l s) := by
  have h0 := @State.clearFault_keeps
  have h1 := @State.onLane_keeps
  have k := Keeps.refl s
  unfold opInterpCal
  exact Keeps.auto

theorem State.spanCheck_keeps (s : State) : Keeps s (State.spanCheck s) := by
  have h0 := @State.raise_keeps
  have h1 := @State.onLane_keeps
  have k := Keeps.refl s
  unfold State.spanCheck
  exact Keeps.auto

theorem opAlignMeasure_keeps (l : Nat) (arx : Nat) (atx : Nat) (s : State) : Keeps s (opAlignMeasure l arx atx s) := by
  have h0 := @State.onLane_keeps
  have k := Keeps.refl s
  unfold opAlignMeasure
  exact Keeps.auto

theorem opAlignDecide_keeps (p : Nat) (s : State) : Keeps s (opAlignDecide p s) := by
  have h0 := @State.onLane_keeps
  have h1 := @State.ptpLink_keeps
  have h2 := @State.clearFault_keeps
  have h3 := @State.raise_keeps
  have k := Keeps.refl s
  unfold opAlignDecide
  exact Keeps.auto

theorem State.putCalValue_keeps (s : State) (e : Nat) (v : Int) : Keeps s (State.putCalValue s e v) := by
  have h0 := @State.auditEvent_keeps
  have k := Keeps.refl s
  unfold State.putCalValue
  exact Keeps.auto

theorem opCalLoop_keeps (p : Nat) (s : State) : Keeps s (opCalLoop p s) := by
  have h0 := @State.onLane_keeps
  have k := Keeps.refl s
  unfold opCalLoop
  exact Keeps.auto

theorem State.sendCal_keeps (s : State) (p : Nat) (lane : Nat) (tw : Nat) (b : Nat) (lost : Bool) : Keeps s (State.sendCal s p lane tw b lost) := by
  have h0 := @State.onLane_keeps
  have k := Keeps.refl s
  unfold State.sendCal
  exact Keeps.auto

theorem State.takeCal_keeps (s : State) (p : Nat) (n : Nat) (lane : Nat) (tw : Nat) (b : Nat) (lost : Bool) : Keeps s (State.takeCal s p n lane tw b lost) := by
  have h0 := @State.onLane_keeps
  have k := Keeps.refl s
  unfold State.takeCal
  exact Keeps.auto

theorem opCalLoopDone_keeps (p : Nat) (s : State) : Keeps s (opCalLoopDone p s) := by
  have h0 := @State.onLane_keeps
  have h1 := @State.putCalValue_keeps
  have h2 := @State.draw_keeps
  have k := Keeps.refl s
  unfold opCalLoopDone
  exact Keeps.auto

theorem execInterpCal_keeps (now : Nat) (l : Nat) (s : State) : KeepsO s (execInterpCal now l s) := by
  have h0 := @opInterpCal_keeps
  have h1 := @State.atTime_keeps
  have k := Keeps.refl s
  unfold execInterpCal
  exact KeepsO.auto

theorem execAlignMeasure_keeps (l : Nat) (arx : Nat) (atx : Nat) (s : State) : KeepsO s (execAlignMeasure l arx atx s) := by
  have h0 := @opAlignMeasure_keeps
  have k := Keeps.refl s
  unfold execAlignMeasure
  exact KeepsO.auto

theorem execAlignDecide_keeps (now : Nat) (p : Nat) (s : State) : KeepsO s (execAlignDecide now p s) := by
  have h0 := @opAlignDecide_keeps
  have h1 := @State.atTime_keeps
  have k := Keeps.refl s
  unfold execAlignDecide
  exact KeepsO.auto

theorem execPortCalLoopDone_keeps (p : Nat) (s : State) : KeepsO s (execPortCalLoopDone p s) := by
  have h0 := @opCalLoopDone_keeps
  have k := Keeps.refl s
  unfold execPortCalLoopDone
  exact KeepsO.auto

end Sys2Proof.Machine
end

