-- ==== Sys2Proof/Laws/KeepYard.lean ====
section
/-!
SUPPORT. What the operations of Machine/Yard.lean leave.
-/
set_option Elab.async false
namespace Sys2Proof.Machine

theorem State.learn_keeps (s : State) (vid : Nat) (f : Frame) : Keeps s (State.learn s vid f) := by
  have k := Keeps.refl s
  unfold State.learn
  exact Keeps.auto

theorem State.charge_keeps (s : State) (i : Nat) (c : Copy) : Keeps s (State.charge s i c) := by
  have h0 := @State.onQueue_keeps
  have h1 := @State.onLane_keeps
  have k := Keeps.refl s
  unfold State.charge
  exact Keeps.auto

theorem State.refuseTail_keeps (s : State) (p : Nat) (i : Nat) (timing : Bool) : Keeps s (State.refuseTail s p i timing) := by
  have h0 := @State.onQueue_keeps
  have h1 := @State.raiseRefused_keeps
  have k := Keeps.refl s
  unfold State.refuseTail
  exact Keeps.auto

theorem State.copyTo_keeps (s : State) (f : Frame) (id : Nat) (vid : Nat) (rx : Nat) (status : Nat) (p : Nat) (multi : Bool) : Keeps s (State.copyTo s f id vid rx status p multi) := by
  have h0 := @State.charge_keeps
  have h1 := @State.onLane_keeps
  have h2 := @State.onQueue_keeps
  have h3 := @State.onYPort_keeps
  have h4 := @State.partialDrop_keeps
  have h5 := @State.refuseDown_keeps
  have h6 := @State.refuseTail_keeps
  have k := Keeps.refl s
  unfold State.copyTo
  exact Keeps.auto

theorem State.mirrorTo_keeps (s : State) (m : Nat) (vid : Nat) (rx : Nat) (status : Nat) (tail : Nat) (tagged : Bool) (ce : Bool) (own : Option OwnMsg) (f : Frame) : Keeps s (State.mirrorTo s m vid rx status tail tagged ce own f) := by
  have h0 := @State.charge_keeps
  have h1 := @State.onYPort_keeps
  have h2 := @State.refuseTail_keeps
  have k := Keeps.refl s
  unfold State.mirrorTo
  exact Keeps.auto

theorem State.mirrorRx_keeps (s : State) (vid : Nat) (rx : Nat) (status : Nat) (f : Frame) : Keeps s (State.mirrorRx s vid rx status f) := by
  have h0 := @State.mirrorTo_keeps
  have k := Keeps.refl s
  unfold State.mirrorRx
  exact Keeps.auto

theorem State.mirrorTx_keeps (s : State) (p : Nat) (c : Copy) : Keeps s (State.mirrorTx s p c) := by
  have h0 := @State.mirrorTo_keeps
  have k := Keeps.refl s
  unfold State.mirrorTx
  exact Keeps.auto

theorem State.terminate_keeps (s : State) (service : Nat) (host : Option Nat) (f : Frame) (rx : Nat) (status : Nat) : Keeps s (State.terminate s service host f rx status) := by
  have k := Keeps.refl s
  unfold State.terminate
  exact Keeps.auto

theorem State.takeTerm_keeps (s : State) (hit : Term → Bool) : Keeps s (State.takeTerm s hit).1 := by
  have k := Keeps.refl s
  unfold State.takeTerm
  exact Keeps.auto

theorem State.frameIn_keeps (s : State) (f : Frame) (vid : Nat) (rx : Nat) (status : Nat) : Keeps s (State.frameIn s f vid rx status) := by
  have h0 := @State.learn_keeps
  have h1 := @State.mirrorRx_keeps
  have h2 := @State.terminate_keeps
  have h3 := @State.copyTo_keeps
  have k := Keeps.refl s
  unfold State.frameIn
  exact Keeps.auto

theorem opIngress_keeps (f : Frame) (s : State) : Keeps s (opIngress f s) := by
  have h0 := @State.frameIn_keeps
  have h1 := @State.mirrorRx_keeps
  have h2 := @State.onLane_keeps
  have h3 := @State.onYPort_keeps
  have h4 := @State.settleTails_keeps
  have h5 := @State.takeCal_keeps
  have k := Keeps.refl s
  unfold opIngress
  exact Keeps.auto

theorem State.dropHeads_keeps (s : State) (p : Nat) (i : Nat) (x3 : Nat) : Keeps s (State.dropHeads s p i x3) := by
  have h0 := @State.takeCopy_keeps
  have h2 := @State.onYPort_keeps
  have h3 := @State.onLane_keeps
  induction x3 generalizing s with
  | zero => exact Keeps.refl s
  | succ n ih =>
    have k := Keeps.refl s
    unfold State.dropHeads
    exact Keeps.auto

theorem State.dwrr_keeps (s : State) (p : Nat) (x2 : Nat) (x3 : Nat) : Keeps s (State.dwrr s p x2 x3).1 := by
  have h0 := @State.onQueue_keeps
  have h2 := @State.onYPort_keeps
  induction x2 generalizing s x3 with
  | zero => exact Keeps.refl s
  | succ n ih =>
    have k := Keeps.refl s
    unfold State.dwrr
    exact Keeps.auto

theorem State.pick_keeps (s : State) (p : Nat) : Keeps s (State.pick s p).1 := by
  have h0 := @State.dwrr_keeps
  have k := Keeps.refl s
  unfold State.pick
  exact Keeps.auto

theorem State.sendOwnFrom_keeps (s : State) (least : Nat) (p : Nat) (m : OwnMsg) (f : Frame) (rx : Nat) (status : Nat) : Keeps s (State.sendOwnFrom s least p m f rx status).1 := by
  have h0 := @State.charge_keeps
  have h1 := @State.onLane_keeps
  have h2 := @State.onYPort_keeps
  have h3 := @State.refuseDown_keeps
  have h4 := @State.refuseTail_keeps
  have h5 := @State.settleTails_keeps
  have h6 := @State.stampUnsent_keeps
  have k := Keeps.refl s
  unfold State.sendOwnFrom
  exact Keeps.auto

theorem State.sendOwn_keeps (s : State) (p : Nat) (m : OwnMsg) (f : Frame) : Keeps s (State.sendOwn s p m f).1 := by
  have h0 := @State.sendOwnFrom_keeps
  have k := Keeps.refl s
  unfold State.sendOwn
  exact Keeps.auto

theorem opEsmcTx_keeps (l : Nat) (event : Bool) (s : State) : Keeps s (opEsmcTx l event s) := by
  have h0 := @State.sendOwnFrom_keeps
  have k := Keeps.refl s
  unfold opEsmcTx
  exact Keeps.auto

theorem opFdbAge_keeps (mac : Nat) (vid : Nat) (s : State) : Keeps s (opFdbAge mac vid s) := by
  have k := Keeps.refl s
  unfold opFdbAge
  exact Keeps.auto

theorem opHostRequest_keeps (h : Nat) (s : State) : Keeps s (opHostRequest h s) := by
  have h0 := @State.sendOwn_keeps
  have h1 := @State.takeTerm_keeps
  have k := Keeps.refl s
  unfold opHostRequest
  exact Keeps.auto

theorem execFrameIngress_keeps (now : Nat) (f : Frame) (s : State) : KeepsO s (execFrameIngress now f s) := by
  have h0 := @opIngress_keeps
  have h1 := @State.atTime_keeps
  have k := Keeps.refl s
  unfold execFrameIngress
  exact KeepsO.auto

theorem execFdbAgeOut_keeps (now : Nat) (mac : Nat) (vid : Nat) (s : State) : KeepsO s (execFdbAgeOut now mac vid s) := by
  have h0 := @opFdbAge_keeps
  have h1 := @State.atTime_keeps
  have k := Keeps.refl s
  unfold execFdbAgeOut
  exact KeepsO.auto

theorem execEsmcTx_keeps (now : Nat) (l : Nat) (s : State) : KeepsO s (execEsmcTx now l s) := by
  have h0 := @State.atTime_keeps
  have h1 := @opEsmcTx_keeps
  have k := Keeps.refl s
  unfold execEsmcTx
  exact KeepsO.auto

theorem execEsmcEventTx_keeps (now : Nat) (l : Nat) (s : State) : KeepsO s (execEsmcEventTx now l s) := by
  have h0 := @State.atTime_keeps
  have h1 := @opEsmcTx_keeps
  have k := Keeps.refl s
  unfold execEsmcEventTx
  exact KeepsO.auto

theorem execHostProtocolRequest_keeps (now : Nat) (h : Nat) (s : State) : KeepsO s (execHostProtocolRequest now h s) := by
  have h0 := @opHostRequest_keeps
  have h1 := @State.atTime_keeps
  have k := Keeps.refl s
  unfold execHostProtocolRequest
  exact KeepsO.auto

end Sys2Proof.Machine
end

