-- ==== Sys2Proof/Laws/KeepEgress.lean ====
section
/-!
SUPPORT. What the operations of Machine/Egress.lean leave.
-/
set_option Elab.async false
namespace Sys2Proof.Machine

theorem State.ptpSent_keeps (s : State) (p : Nat) (m : PtpSent) : Keeps s (State.ptpSent s p m) := by
  have h0 := @State.onPPort_keeps
  have k := Keeps.refl s
  unfold State.ptpSent
  exact Keeps.auto

theorem State.queueGeneral_keeps (s : State) (p : Nat) (m : PtpSent) : Keeps s (State.queueGeneral s p m) := by
  have h0 := @State.sendOwn_keeps
  have k := Keeps.refl s
  unfold State.queueGeneral
  exact Keeps.auto

theorem State.splitTime_keeps (s : State) (t : Option Int) : Keeps s (State.splitTime s t).1 := by
  have h0 := @State.draw_keeps
  have k := Keeps.refl s
  unfold State.splitTime
  exact Keeps.auto

theorem State.ntpCount_keeps (s : State) (i : Nat) : Keeps s (State.ntpCount s i) := by
  have k := Keeps.refl s
  unfold State.ntpCount
  exact Keeps.auto

theorem State.ntpStamp_keeps (s : State) (ts : Nat) (status : Nat) : Keeps s (State.ntpStamp s ts status).1 := by
  have h0 := @State.draw_keeps
  have k := Keeps.refl s
  unfold State.ntpStamp
  exact Keeps.auto

theorem State.ntpLeaves_keeps (s : State) (p : Nat) (tx : Nat) (status : Nat) (w : NtpPending) : Keeps s (State.ntpLeaves s p tx status w) := by
  have h0 := @State.ntpCount_keeps
  have h1 := @State.ntpStamp_keeps
  have k := Keeps.refl s
  unfold State.ntpLeaves
  exact Keeps.auto

theorem State.ownSent_keeps (s : State) (p : Nat) (tx : Nat) (st : Nat) (ins : Nat) (m : OwnMsg) : Keeps s (State.ownSent s p tx st ins m) := by
  have h0 := @State.ntpLeaves_keeps
  have h1 := @State.onLane_keeps
  have h2 := @State.onPPort_keeps
  have h3 := @State.ptpSent_keeps
  have h4 := @State.queueGeneral_keeps
  have h5 := @State.splitTime_keeps
  have k := Keeps.refl s
  unfold State.ownSent
  exact Keeps.auto

theorem State.send_keeps (s : State) (p : Nat) (i : Nat) (lane : Nat) (tw : Nat) (b : Nat) (lost : Bool) (c : Copy) : Keeps s (State.send s p i lane tw b lost c) := by
  have h0 := @State.mirrorTx_keeps
  have h1 := @State.onLane_keeps
  have h2 := @State.onPPort_keeps
  have h3 := @State.onQueue_keeps
  have h4 := @State.onYPort_keeps
  have h5 := @State.ownSent_keeps
  have h6 := @State.takeCopy_keeps
  have k := Keeps.refl s
  unfold State.send
  exact Keeps.auto

theorem opEgress_keeps (p : Nat) (lane : Nat) (tw : Nat) (mark : Nat) (lost : Bool) (s : State) : Keeps s (opEgress p lane tw mark lost s) := by
  have h0 := @State.dropHeads_keeps
  have h1 := @State.onLane_keeps
  have h2 := @State.onYPort_keeps
  have h3 := @State.pick_keeps
  have h4 := @State.send_keeps
  have h5 := @State.sendCal_keeps
  have h6 := @State.settleTails_keeps
  have k := Keeps.refl s
  unfold opEgress
  exact Keeps.auto

end Sys2Proof.Machine
end

