-- ==== Sys2Proof/Laws/KeepGirth.lean ====
section
/-!
SUPPORT. What the operations of Machine/Girth.lean leave.
-/
set_option Elab.async false
namespace Sys2Proof.Machine

theorem State.putClaim_keeps (s : State) (n : Nat) (c : Claim) : Keeps s (State.putClaim s n c) := by
  have h0 := @State.noteClaim_keeps
  have k := Keeps.refl s
  unfold State.putClaim
  exact Keeps.auto

theorem State.expireClaims_keeps (s : State) : Keeps s (State.expireClaims s) := by
  have h0 := @State.noteClaim_keeps
  have k := Keeps.refl s
  unfold State.expireClaims
  exact Keeps.auto

theorem State.termsBack_keeps (s : State) (n : Nat) : Keeps s (State.termsBack s n) := by
  have k := Keeps.refl s
  unfold State.termsBack
  exact Keeps.auto

theorem State.composeRef_keeps (s : State) (n : Nat) (t : Nat) : Keeps s (State.composeRef s n t) := by
  have h0 := @State.termsBack_keeps
  have k := Keeps.refl s
  unfold State.composeRef
  exact Keeps.auto

theorem State.composePeer_keeps (s : State) (t : Nat) : Keeps s (State.composePeer s t) := by
  have h0 := @State.termsBack_keeps
  have k := Keeps.refl s
  unfold State.composePeer
  exact Keeps.auto

theorem State.composeFrozen_keeps (s : State) (t : Nat) : Keeps s (State.composeFrozen s t) := by
  have k := Keeps.refl s
  unfold State.composeFrozen
  exact Keeps.auto

theorem State.compose_keeps (s : State) : Keeps s (State.compose s) := by
  have h0 := @State.composeFrozen_keeps
  have h1 := @State.composePeer_keeps
  have h2 := @State.composeRef_keeps
  have k := Keeps.refl s
  unfold State.compose
  exact Keeps.auto

theorem State.girthSum_le (s : State) : s.girthSum ≤ girthUnknown := Nat.min_le_left _ _

theorem State.setSum_keeps (s : State) : Keeps s (s.setG s.girthSum) := State.setG_keeps s _ s.girthSum_le

theorem State.recalc_keeps (s : State) : Keeps s (State.recalc s) := by
  have h1 := @State.setSum_keeps
  have h3 := @State.compose_keeps
  have h2 := @State.expireClaims_keeps
  have k := Keeps.refl s
  unfold State.recalc
  exact Keeps.auto

theorem State.takeTerms_keeps (s : State) : Keeps s (State.takeTerms s) := by
  have h0 := @State.takeLate_keeps
  have k := Keeps.refl s
  unfold State.takeTerms
  exact Keeps.auto

theorem State.growAnchor_keeps (s : State) : Keeps s (State.growAnchor s) := by
  have k := Keeps.refl s
  unfold State.growAnchor
  exact Keeps.auto

theorem State.girthAnchor_keeps (s : State) : Keeps s (State.girthAnchor s) := by
  have h0 := @State.recalc_keeps
  have h1 := @State.takeTerms_keeps
  have k := Keeps.refl s
  unfold State.girthAnchor
  exact Keeps.auto

theorem opTermTimeout_keeps (k : Nat) (s : State) : Keeps s (opTermTimeout k s) := by
  have h0 := @State.setSum_keeps
  have h1 := @State.leavePeer_keeps
  have k := Keeps.refl s
  unfold opTermTimeout
  exact Keeps.auto

theorem execServoMeasurement_keeps (now : Nat) (n : Nat) (p : Int) (status : Nat) (t : Nat) (s : State) : KeepsO s (execServoMeasurement now n p status t s) := by
  have h0 := @State.recalc_keeps
  have h1 := @opMeasure_keeps
  have h2 := @State.atTime_keeps
  have k := Keeps.refl s
  unfold execServoMeasurement
  exact KeepsO.auto

theorem execGirthTermTimeout_keeps (now : Nat) (k : Nat) (s : State) : KeepsO s (execGirthTermTimeout now k s) := by
  have h0 := @opTermTimeout_keeps
  have h1 := @State.atTime_keeps
  have k := Keeps.refl s
  unfold execGirthTermTimeout
  exact KeepsO.auto

end Sys2Proof.Machine
end

