-- ==== Sys2Proof/Laws/KeepPtp.lean ====
section
/-!
SUPPORT. What the operations of Machine/Ptp.lean leave.
-/
set_option Elab.async false
namespace Sys2Proof.Machine

theorem State.ptpOver_keeps (s : State) : Keeps s (State.ptpOver s) := by
  have h0 := @State.level_keeps
  have k := Keeps.refl s
  unfold State.ptpOver
  exact Keeps.auto

theorem State.ptpAuth_keeps (s : State) (k : Nat) (p : Nat) (mtype : Nat) (m : PtpMsg) : Keeps s (State.ptpAuth s k p mtype m).1 := by
  have h0 := @State.onPPort_keeps
  have k := Keeps.refl s
  unfold State.ptpAuth
  exact Keeps.auto

theorem State.ptpClaim_keeps (s : State) (k : Nat) (m : PtpMsg) (auth : Bool) : Keeps s (State.ptpClaim s k m auth) := by
  have h0 := @State.putClaim_keeps
  have k := Keeps.refl s
  unfold State.ptpClaim
  exact Keeps.auto

theorem State.ptpIn_keeps (s : State) (k : Nat) (p : Nat) (mtype : Nat) (m : PtpMsg) : Keeps s (State.ptpIn s k p mtype m).1 := by
  have h0 := @State.ptpAuth_keeps
  have h1 := @State.ptpClaim_keeps
  have h2 := @State.takeTerm_keeps
  have k := Keeps.refl s
  unfold State.ptpIn
  exact Keeps.auto

theorem State.leaveClient_keeps (s : State) (k : Nat) (p : Nat) : Keeps s (State.leaveClient s k p) := by
  have h0 := @State.onPPort_keeps
  have h1 := @opLossOfSignal_keeps
  have h2 := @State.onInst_keeps
  have k := Keeps.refl s
  unfold State.leaveClient
  exact Keeps.auto

theorem State.takeState_keeps (s : State) (k : Nat) (p : Nat) (st : Nat) (newParent : Bool) : Keeps s (State.takeState s k p st newParent) := by
  have h0 := @State.onPPort_keeps
  have h1 := @State.leaveClient_keeps
  have k := Keeps.refl s
  unfold State.takeState
  exact Keeps.auto

theorem State.setParent_keeps (s : State) (k : Nat) (parent : Nat) (ds : PtpDs) : Keeps s (State.setParent s k parent ds) := by
  have h0 := @State.noteClaim_keeps
  have h1 := @State.onInst_keeps
  have h2 := @State.onRef_keeps
  have h3 := @opLossOfSignal_keeps
  have k := Keeps.refl s
  unfold State.setParent
  exact Keeps.auto

theorem State.negotiate_keeps (s : State) (k : Nat) (p : Nat) (addr : Nat) (kind : Nat) (mtype : Nat) (log : Int) (duration : Nat) : Keeps s (State.negotiate s k p addr kind mtype log duration) := by
  have h0 := @State.sendOwn_keeps
  have k := Keeps.refl s
  unfold State.negotiate
  exact Keeps.auto

theorem State.askGrant_keeps (s : State) (k : Nat) (addr : Nat) (mtype : Nat) : Keeps s (State.askGrant s k addr mtype) := by
  have h0 := @State.negotiate_keeps
  have k := Keeps.refl s
  unfold State.askGrant
  exact Keeps.auto

theorem State.askUpstream_keeps (s : State) (k : Nat) (parentAddr : Option Nat) : Keeps s (State.askUpstream s k parentAddr) := by
  have h0 := @State.askGrant_keeps
  have k := Keeps.refl s
  unfold State.askUpstream
  exact Keeps.auto

theorem State.refreshServed_keeps (s : State) (k : Nat) : Keeps s (State.refreshServed s k) := by
  have h0 := @State.onInst_keeps
  have k := Keeps.refl s
  unfold State.refreshServed
  exact Keeps.auto

theorem State.ptpAnchor_keeps (s : State) : Keeps s (State.ptpAnchor s) := by
  have h0 := @State.refreshServed_keeps
  have k := Keeps.refl s
  unfold State.ptpAnchor
  exact Keeps.auto

theorem State.initPort_keeps (s : State) (p : Nat) : Keeps s (State.initPort s p) := by
  have h0 := @State.onPPort_keeps
  have k := Keeps.refl s
  unfold State.initPort
  exact Keeps.auto

theorem State.decidePorts_keeps (s : State) (k : Nat) : Keeps s (State.decidePorts s k) := by
  have h0 := @State.takeState_keeps
  have h1 := @State.askUpstream_keeps
  have h2 := @State.setParent_keeps
  have k := Keeps.refl s
  unfold State.decidePorts
  exact Keeps.auto

theorem State.ptpWrite_keeps (s : State) (k : Nat) (idx : Nat) (sub : Nat) (v : Nat) : Keeps s (State.ptpWrite s k idx sub v) := by
  have h0 := @State.onInst_keeps
  have h1 := @State.putLate_keeps
  have k := Keeps.refl s
  unfold State.ptpWrite
  exact Keeps.auto

theorem State.ptpRestart_keeps (s : State) (k : Nat) : Keeps s (State.ptpRestart s k) := by
  have h0 := @State.onInst_keeps
  have h1 := @State.onPPort_keeps
  have h2 := @State.ptpOver_keeps
  have h3 := @State.wakeTiming_keeps
  have h4 := @opLossOfSignal_keeps
  have k := Keeps.refl s
  unfold State.ptpRestart
  exact Keeps.auto

theorem opDecision_keeps (k : Nat) (s : State) : Keeps s (opDecision k s) := by
  have h0 := @State.decidePorts_keeps
  have h1 := @State.initPort_keeps
  have h2 := @State.onInst_keeps
  have h3 := @State.ptpOver_keeps
  have h4 := @State.ptpRestart_keeps
  have h5 := @State.takeLate_keeps
  have h6 := @State.wakeTiming_keeps
  have k := Keeps.refl s
  unfold opDecision
  exact Keeps.auto

theorem opAnnounceRx_keeps (k : Nat) (p : Nat) (m : PtpMsg) (ds : PtpDs) (s : State) : Keeps s (opAnnounceRx k p m ds s) := by
  have h0 := @State.leap_keeps
  have h1 := @State.learnAnnounced_keeps
  have h2 := @State.onInst_keeps
  have h3 := @State.onPPort_keeps
  have h4 := @State.onRef_keeps
  have h5 := @State.ptpClaim_keeps
  have h6 := @State.ptpIn_keeps
  have k := Keeps.refl s
  unfold opAnnounceRx
  exact Keeps.auto

theorem opAnnounceTimeout_keeps (p : Nat) (s : State) : Keeps s (opAnnounceTimeout p s) := by
  have h0 := @State.onPPort_keeps
  have h1 := @State.onInst_keeps
  have k := Keeps.refl s
  unfold opAnnounceTimeout
  exact Keeps.auto

theorem State.nextSeq_keeps (s : State) (k : Nat) (p : Nat) (addr : Nat) (mtype : Nat) : Keeps s (State.nextSeq s k p addr mtype).1 := by
  have h0 := @State.onPPort_keeps
  have k := Keeps.refl s
  unfold State.nextSeq
  exact Keeps.auto

theorem opAnnounceTx_keeps (k : Nat) (p : Nat) (addr : Nat) (s : State) : Keeps s (opAnnounceTx k p addr s) := by
  have h0 := @State.nextSeq_keeps
  have h1 := @State.queueGeneral_keeps
  have k := Keeps.refl s
  unfold opAnnounceTx
  exact Keeps.auto

theorem State.badOffset_keeps (s : State) (p : Nat) : Keeps s (State.badOffset s p) := by
  have h0 := @State.onPPort_keeps
  have k := Keeps.refl s
  unfold State.badOffset
  exact Keeps.auto

theorem State.takeM_keeps (s : State) (k : Nat) (p : Nat) (m : Int) (t2 : Int) (rx : Nat) (status : Nat) : Keeps s (State.takeM s k p m t2 rx status) := by
  have h0 := @State.onInst_keeps
  have h1 := @State.badOffset_keeps
  have h2 := @State.onPPort_keeps
  have h3 := @State.tap_keeps
  have h4 := @State.recalc_keeps
  have h5 := @opMeasure_keeps
  have k := Keeps.refl s
  unfold State.takeM
  exact Keeps.auto

theorem opSyncRx_keeps (k : Nat) (p : Nat) (m : PtpMsg) (s : State) : Keeps s (opSyncRx k p m s) := by
  have h0 := @State.badOffset_keeps
  have h1 := @State.onPPort_keeps
  have h2 := @State.ptpIn_keeps
  have h3 := @State.takeM_keeps
  have k := Keeps.refl s
  unfold opSyncRx
  exact Keeps.auto

theorem opFollowUpRx_keeps (k : Nat) (p : Nat) (m : PtpMsg) (s : State) : Keeps s (opFollowUpRx k p m s) := by
  have h0 := @State.onPPort_keeps
  have h1 := @State.ptpIn_keeps
  have h2 := @State.takeM_keeps
  have k := Keeps.refl s
  unfold opFollowUpRx
  exact Keeps.auto

theorem opDelayReqTx_keeps (k : Nat) (p : Nat) (s : State) : Keeps s (opDelayReqTx k p s) := by
  have h0 := @State.onPPort_keeps
  have h1 := @State.sendOwn_keeps
  have k := Keeps.refl s
  unfold opDelayReqTx
  exact Keeps.auto

theorem opDelayRespRx_keeps (k : Nat) (p : Nat) (m : PtpMsg) (s : State) : Keeps s (opDelayRespRx k p m s) := by
  have h0 := @State.onInst_keeps
  have h1 := @State.onPPort_keeps
  have h2 := @State.ptpIn_keeps
  have k := Keeps.refl s
  unfold opDelayRespRx
  exact Keeps.auto

theorem opSyncTx_keeps (k : Nat) (p : Nat) (addr : Nat) (s : State) : Keeps s (opSyncTx k p addr s) := by
  have h0 := @State.nextSeq_keeps
  have h1 := @State.sendOwn_keeps
  have k := Keeps.refl s
  unfold opSyncTx
  exact Keeps.auto

theorem State.dropDreq_keeps (s : State) (p : Nat) : Keeps s (State.dropDreq s p) := by
  have h0 := @State.onPPort_keeps
  have k := Keeps.refl s
  unfold State.dropDreq
  exact Keeps.auto

theorem opDelayReqRx_keeps (k : Nat) (p : Nat) (m : PtpMsg) (s : State) : Keeps s (opDelayReqRx k p m s) := by
  have h0 := @State.dropDreq_keeps
  have h1 := @State.ptpIn_keeps
  have h2 := @State.queueGeneral_keeps
  have k := Keeps.refl s
  unfold opDelayReqRx
  exact Keeps.auto

theorem State.pdelayTc_keeps (s : State) (p : Nat) (mtype : Nat) : Keeps s (State.pdelayTc s p mtype).1 := by
  have h0 := @State.takeTerm_keeps
  have k := Keeps.refl s
  unfold State.pdelayTc
  exact Keeps.auto

theorem State.pdelayIn_keeps (s : State) (p : Nat) (mtype : Nat) (m : PtpMsg) : Keeps s (State.pdelayIn s p mtype m).1 := by
  have h0 := @State.pdelayTc_keeps
  have h1 := @State.ptpIn_keeps
  have k := Keeps.refl s
  unfold State.pdelayIn
  exact Keeps.auto

theorem opPdelayReqRx_keeps (p : Nat) (m : PtpMsg) (s : State) : Keeps s (opPdelayReqRx p m s) := by
  have h0 := @State.pdelayIn_keeps
  have h1 := @State.sendOwn_keeps
  have k := Keeps.refl s
  unfold opPdelayReqRx
  exact Keeps.auto

theorem opPdelayReqTx_keeps (p : Nat) (s : State) : Keeps s (opPdelayReqTx p s) := by
  have h0 := @State.onPPort_keeps
  have h1 := @State.sendOwn_keeps
  have k := Keeps.refl s
  unfold opPdelayReqTx
  exact Keeps.auto

theorem opPdelayRespRx_keeps (p : Nat) (m : PtpMsg) (followUp : Bool) (s : State) : Keeps s (opPdelayRespRx p m followUp s) := by
  have h0 := @State.pdelayIn_keeps
  have h1 := @State.onPPort_keeps
  have k := Keeps.refl s
  unfold opPdelayRespRx
  exact Keeps.auto

theorem opMgmtRx_keeps (version : Nat) (s : State) : Keeps s (opMgmtRx version s) := by
  have h0 := @State.takeTerm_keeps
  have k := Keeps.refl s
  unfold opMgmtRx
  exact Keeps.auto

theorem State.dropReservation_keeps (s : State) (k : Nat) (addr : Nat) (portId : Nat) : Keeps s (State.dropReservation s k addr portId) := by
  have k := Keeps.refl s
  unfold State.dropReservation
  exact Keeps.auto

theorem State.dropGrant_keeps (s : State) (k : Nat) (addr : Nat) (portId : Nat) (mtype : Nat) : Keeps s (State.dropGrant s k addr portId mtype) := by
  have h0 := @State.dropReservation_keeps
  have k := Keeps.refl s
  unfold State.dropGrant
  exact Keeps.auto

theorem State.decideGrant_keeps (s : State) (t : Nat) (r : GrantReq) : Keeps s (State.decideGrant s t r) := by
  have h0 := @State.dropGrant_keeps
  have h1 := @State.dropReservation_keeps
  have h2 := @State.negotiate_keeps
  have h3 := @State.ptpOver_keeps
  have k := Keeps.refl s
  unfold State.decideGrant
  exact Keeps.auto

theorem State.decideDue_keeps (s : State) : Keeps s (State.decideDue s) := by
  have h0 := @State.decideGrant_keeps
  have k := Keeps.refl s
  unfold State.decideDue
  exact Keeps.auto

theorem State.ptpTime_keeps (s : State) (now : Nat) : Keeps s (State.ptpTime s now) := by
  have h0 := @State.atTime_keeps
  have h1 := @State.decideDue_keeps
  have k := Keeps.refl s
  unfold State.ptpTime
  exact Keeps.auto

theorem opRequestUnicast_keeps (k : Nat) (p : Nat) (addr : Nat) (portId : Nat) (mtype : Nat) (log : Int) (duration : Nat) (m : PtpMsg) (s : State) : Keeps s (opRequestUnicast k p addr portId mtype log duration m s) := by
  have h0 := @State.decideGrant_keeps
  have h1 := @State.ptpIn_keeps
  have k := Keeps.refl s
  unfold opRequestUnicast
  exact Keeps.auto

theorem opCancelUnicast_keeps (k : Nat) (p : Nat) (addr : Nat) (portId : Nat) (mtype : Nat) (m : PtpMsg) (s : State) : Keeps s (opCancelUnicast k p addr portId mtype m s) := by
  have h0 := @State.ptpIn_keeps
  have h1 := @State.ptpOver_keeps
  have h2 := @State.negotiate_keeps
  have h3 := @State.dropGrant_keeps
  have k := Keeps.refl s
  unfold opCancelUnicast
  exact Keeps.auto

theorem opGrantRx_keeps (k : Nat) (p : Nat) (addr : Nat) (mtype : Nat) (duration : Nat) (m : PtpMsg) (s : State) : Keeps s (opGrantRx k p addr mtype duration m s) := by
  have h0 := @State.ptpIn_keeps
  have k := Keeps.refl s
  unfold opGrantRx
  exact Keeps.auto

theorem opGrantExpire_keeps (k : Nat) (addr : Nat) (portId : Nat) (mtype : Nat) (s : State) : Keeps s (opGrantExpire k addr portId mtype s) := by
  have h0 := @State.ptpOver_keeps
  have h1 := @State.dropGrant_keeps
  have k := Keeps.refl s
  unfold opGrantExpire
  exact Keeps.auto

theorem opGrantRenew_keeps (k : Nat) (addr : Nat) (mtype : Nat) (s : State) : Keeps s (opGrantRenew k addr mtype s) := by
  have h0 := @State.negotiate_keeps
  have k := Keeps.refl s
  unfold opGrantRenew
  exact Keeps.auto

theorem opReservation_keeps (k : Nat) (addr : Nat) (portId : Nat) (s : State) : Keeps s (opReservation k addr portId s) := by
  have h0 := @State.ptpOver_keeps
  have k := Keeps.refl s
  unfold opReservation
  exact Keeps.auto

theorem opSaSwitch_keeps (i : Nat) (s : State) : Keeps s (opSaSwitch i s) := by
  have h0 := @State.put_keeps
  have h1 := @State.takeLate_keeps
  have k := Keeps.refl s
  unfold opSaSwitch
  exact Keeps.auto

theorem opPtpReconfig_keeps (k : Nat) (s : State) : Keeps s (opPtpReconfig k s) := by
  have h0 := @State.ptpRestart_keeps
  have k := Keeps.refl s
  unfold opPtpReconfig
  exact Keeps.auto

theorem opQualification_keeps (p : Nat) (s : State) : Keeps s (opQualification p s) := by
  have h0 := @State.ptpOver_keeps
  have h1 := @State.onPPort_keeps
  have k := Keeps.refl s
  unfold opQualification
  exact Keeps.auto

theorem execEgressSelect_keeps (now : Nat) (p : Nat) (lane : Nat) (tw : Nat) (mark : Nat) (lost : Bool) (s : State) : KeepsO s (execEgressSelect now p lane tw mark lost s) := by
  have h0 := @State.ptpTime_keeps
  have h1 := @opEgress_keeps
  have k := Keeps.refl s
  unfold execEgressSelect
  exact KeepsO.auto

theorem execPtpAnnounceRx_keeps (now : Nat) (k : Nat) (p : Nat) (m : PtpMsg) (ds : PtpDs) (s : State) : KeepsO s (execPtpAnnounceRx now k p m ds s) := by
  have h0 := @State.ptpTime_keeps
  have h1 := @opAnnounceRx_keeps
  have k := Keeps.refl s
  unfold execPtpAnnounceRx
  exact KeepsO.auto

theorem execAnnounceTimeout_keeps (now : Nat) (p : Nat) (s : State) : KeepsO s (execAnnounceTimeout now p s) := by
  have h0 := @State.ptpTime_keeps
  have h1 := @opAnnounceTimeout_keeps
  have k := Keeps.refl s
  unfold execAnnounceTimeout
  exact KeepsO.auto

theorem execPtpStateDecision_keeps (now : Nat) (k : Nat) (s : State) : KeepsO s (execPtpStateDecision now k s) := by
  have h0 := @State.ptpTime_keeps
  have h1 := @opDecision_keeps
  have k := Keeps.refl s
  unfold execPtpStateDecision
  exact KeepsO.auto

theorem execPtpSyncRx_keeps (now : Nat) (k : Nat) (p : Nat) (m : PtpMsg) (s : State) : KeepsO s (execPtpSyncRx now k p m s) := by
  have h0 := @State.ptpTime_keeps
  have h1 := @opSyncRx_keeps
  have k := Keeps.refl s
  unfold execPtpSyncRx
  exact KeepsO.auto

theorem execPtpFollowUpRx_keeps (now : Nat) (k : Nat) (p : Nat) (m : PtpMsg) (s : State) : KeepsO s (execPtpFollowUpRx now k p m s) := by
  have h0 := @State.ptpTime_keeps
  have h1 := @opFollowUpRx_keeps
  have k := Keeps.refl s
  unfold execPtpFollowUpRx
  exact KeepsO.auto

theorem execPtpDelayReqRx_keeps (now : Nat) (k : Nat) (p : Nat) (m : PtpMsg) (s : State) : KeepsO s (execPtpDelayReqRx now k p m s) := by
  have h0 := @State.ptpTime_keeps
  have h1 := @opDelayReqRx_keeps
  have k := Keeps.refl s
  unfold execPtpDelayReqRx
  exact KeepsO.auto

theorem execPtpDelayRespRx_keeps (now : Nat) (k : Nat) (p : Nat) (m : PtpMsg) (s : State) : KeepsO s (execPtpDelayRespRx now k p m s) := by
  have h0 := @State.ptpTime_keeps
  have h1 := @opDelayRespRx_keeps
  have k := Keeps.refl s
  unfold execPtpDelayRespRx
  exact KeepsO.auto

theorem execPtpPdelayReqRx_keeps (now : Nat) (p : Nat) (m : PtpMsg) (s : State) : KeepsO s (execPtpPdelayReqRx now p m s) := by
  have h0 := @State.ptpTime_keeps
  have h1 := @opPdelayReqRx_keeps
  have k := Keeps.refl s
  unfold execPtpPdelayReqRx
  exact KeepsO.auto

theorem execPtpPdelayRespRx_keeps (now : Nat) (p : Nat) (m : PtpMsg) (followUp : Bool) (s : State) : KeepsO s (execPtpPdelayRespRx now p m followUp s) := by
  have h0 := @State.ptpTime_keeps
  have h1 := @opPdelayRespRx_keeps
  have k := Keeps.refl s
  unfold execPtpPdelayRespRx
  exact KeepsO.auto

theorem execPtpMgmtRx_keeps (version : Nat) (s : State) : KeepsO s (execPtpMgmtRx version s) := by
  have h0 := @opMgmtRx_keeps
  have k := Keeps.refl s
  unfold execPtpMgmtRx
  exact KeepsO.auto

theorem execPtpSyncTx_keeps (now : Nat) (k : Nat) (p : Nat) (addr : Nat) (s : State) : KeepsO s (execPtpSyncTx now k p addr s) := by
  have h0 := @State.ptpTime_keeps
  have h1 := @opSyncTx_keeps
  have k := Keeps.refl s
  unfold execPtpSyncTx
  exact KeepsO.auto

theorem execPtpAnnounceTx_keeps (now : Nat) (k : Nat) (p : Nat) (addr : Nat) (s : State) : KeepsO s (execPtpAnnounceTx now k p addr s) := by
  have h0 := @State.ptpTime_keeps
  have h1 := @opAnnounceTx_keeps
  have k := Keeps.refl s
  unfold execPtpAnnounceTx
  exact KeepsO.auto

theorem execPtpDelayReqTx_keeps (now : Nat) (k : Nat) (p : Nat) (s : State) : KeepsO s (execPtpDelayReqTx now k p s) := by
  have h0 := @State.ptpTime_keeps
  have h1 := @opDelayReqTx_keeps
  have k := Keeps.refl s
  unfold execPtpDelayReqTx
  exact KeepsO.auto

theorem execRequestUnicastTransmission_keeps (now : Nat) (k : Nat) (p : Nat) (addr : Nat) (portId : Nat) (mtype : Nat) (logPeriod : Int) (duration : Nat) (m : PtpMsg) (s : State) : KeepsO s (execRequestUnicastTransmission now k p addr portId mtype logPeriod duration m s) := by
  have h0 := @State.ptpTime_keeps
  have h1 := @opRequestUnicast_keeps
  have k := Keeps.refl s
  unfold execRequestUnicastTransmission
  exact KeepsO.auto

theorem execCancelUnicastTransmission_keeps (now : Nat) (k : Nat) (p : Nat) (addr : Nat) (portId : Nat) (mtype : Nat) (m : PtpMsg) (s : State) : KeepsO s (execCancelUnicastTransmission now k p addr portId mtype m s) := by
  have h0 := @State.ptpTime_keeps
  have h1 := @opCancelUnicast_keeps
  have k := Keeps.refl s
  unfold execCancelUnicastTransmission
  exact KeepsO.auto

theorem execGrantUnicastTransmissionRx_keeps (now : Nat) (k : Nat) (p : Nat) (addr : Nat) (mtype : Nat) (duration : Nat) (m : PtpMsg) (s : State) : KeepsO s (execGrantUnicastTransmissionRx now k p addr mtype duration m s) := by
  have h0 := @State.ptpTime_keeps
  have h1 := @opGrantRx_keeps
  have k := Keeps.refl s
  unfold execGrantUnicastTransmissionRx
  exact KeepsO.auto

theorem execGrantExpire_keeps (now : Nat) (k : Nat) (addr : Nat) (portId : Nat) (mtype : Nat) (s : State) : KeepsO s (execGrantExpire now k addr portId mtype s) := by
  have h0 := @State.ptpTime_keeps
  have h1 := @opGrantExpire_keeps
  have k := Keeps.refl s
  unfold execGrantExpire
  exact KeepsO.auto

theorem execGrantRenewTx_keeps (now : Nat) (k : Nat) (addr : Nat) (mtype : Nat) (s : State) : KeepsO s (execGrantRenewTx now k addr mtype s) := by
  have h0 := @State.ptpTime_keeps
  have h1 := @opGrantRenew_keeps
  have k := Keeps.refl s
  unfold execGrantRenewTx
  exact KeepsO.auto

theorem execDelayRespReservationRelease_keeps (now : Nat) (k : Nat) (addr : Nat) (portId : Nat) (s : State) : KeepsO s (execDelayRespReservationRelease now k addr portId s) := by
  have h0 := @State.ptpTime_keeps
  have h1 := @opReservation_keeps
  have k := Keeps.refl s
  unfold execDelayRespReservationRelease
  exact KeepsO.auto

theorem execSaKeySwitch_keeps (now : Nat) (i : Nat) (s : State) : KeepsO s (execSaKeySwitch now i s) := by
  have h0 := @State.ptpTime_keeps
  have h1 := @opSaSwitch_keeps
  have k := Keeps.refl s
  unfold execSaKeySwitch
  exact KeepsO.auto

theorem execPtpInstanceReconfig_keeps (now : Nat) (k : Nat) (s : State) : KeepsO s (execPtpInstanceReconfig now k s) := by
  have h0 := @State.ptpTime_keeps
  have h1 := @opPtpReconfig_keeps
  have k := Keeps.refl s
  unfold execPtpInstanceReconfig
  exact KeepsO.auto

theorem execPtpPdelayReqTx_keeps (now : Nat) (p : Nat) (s : State) : KeepsO s (execPtpPdelayReqTx now p s) := by
  have h0 := @State.ptpTime_keeps
  have h1 := @opPdelayReqTx_keeps
  have k := Keeps.refl s
  unfold execPtpPdelayReqTx
  exact KeepsO.auto

theorem execPtpQualificationTimeout_keeps (now : Nat) (p : Nat) (s : State) : KeepsO s (execPtpQualificationTimeout now p s) := by
  have h0 := @State.ptpTime_keeps
  have h1 := @opQualification_keeps
  have k := Keeps.refl s
  unfold execPtpQualificationTimeout
  exact KeepsO.auto

end Sys2Proof.Machine
end

