-- ==== Sys2Proof/Laws/KeepGovernor.lean ====
section
/-!
SUPPORT. What the operations of Machine/Governor.lean leave.
-/
set_option Elab.async false
namespace Sys2Proof.Machine

theorem enginesOk_gate (e : Engines) (gate old lc n : Nat) (h : Safety.EnginesOk e) :
    Safety.EnginesOk { e with
      eng := e.eng.mapIdx (fun e (g : Eng) => if bit gate (engClass e) == bit old (engClass e) then g else { g with kicked := lc - g.kicked })
      gated := n } := by
  refine ⟨List.length_mapIdx.trans h.count, ?_, h.tack, h.sram, h.dram⟩
  intro g hg
  obtain ⟨i, hi, rfl⟩ := List.mem_mapIdx.mp hg
  have := h.each _ (List.getElem_mem hi)
  split
  · exact this
  · exact ⟨this.regs, this.fregs, this.prot, this.imem, this.dmem, this.windows⟩

theorem State.setGated_keeps (s : State) (gate : Nat) : Keeps s (State.setGated s gate) := by
  have k := Keeps.refl s
  have h : Keeps s { s with engs := { s.engs with
      eng := s.engs.eng.mapIdx (fun e (g : Eng) => if bit gate (engClass e) == bit s.engs.gated (engClass e) then g else { g with kicked := s.tb.lc - g.kicked })
      gated := gate } } :=
    ⟨rfl, fun h => { h with engs := enginesOk_gate s.engs gate s.engs.gated s.tb.lc gate h.engs }⟩
  unfold State.setGated
  extract_lets old f x t
  refine Keeps.cut (x := t) k h ?_
  intro ht
  clear_value t
  exact Keeps.auto

theorem State.regate_keeps (s : State) : Keeps s (State.regate s) := by
  have h0 := @State.level_keeps
  have h1 := @State.setGated_keeps
  have k := Keeps.refl s
  unfold State.regate
  exact Keeps.auto

theorem State.shedBanks_keeps (s : State) : Keeps s (State.shedBanks s) := by
  have h0 := @State.draw_keeps
  have h1 := @State.level_keeps
  have k := Keeps.refl s
  unfold State.shedBanks
  exact Keeps.auto

theorem State.setLevel_keeps (s : State) (new : Nat) : Keeps s (State.setLevel s new) := by
  have h0 := @State.level_keeps
  have h1 := @State.ptpOver_keeps
  have h2 := @State.regate_keeps
  have h3 := @State.shedBanks_keeps
  have k := Keeps.refl s
  unfold State.setLevel
  exact Keeps.auto

theorem State.coldStep_keeps (s : State) : Keeps s (State.coldStep s) := by
  have k := Keeps.refl s
  unfold State.coldStep
  exact Keeps.auto

theorem State.govInput_keeps (s : State) (pPart : Nat) (tj : Int) (ok : Bool) : Keeps s (State.govInput s pPart tj ok) := by
  have h0 := @State.level_keeps
  have k := Keeps.refl s
  unfold State.govInput
  exact Keeps.auto

theorem State.govFaults_keeps (s : State) : Keeps s (State.govFaults s) := by
  have h0 := @State.raise_keeps
  have h1 := @State.clearFault_keeps
  have h2 := @State.level_keeps
  have k := Keeps.refl s
  unfold State.govFaults
  exact Keeps.auto

theorem opGovDecision_keeps (pPart : Nat) (tj : Int) (ok : Bool) (s : State) : Keeps s (opGovDecision pPart tj ok s) := by
  have h0 := @State.coldStep_keeps
  have h1 := @State.govFaults_keeps
  have h2 := @State.govInput_keeps
  have h3 := @State.level_keeps
  have h4 := @State.regate_keeps
  have h5 := @State.setLevel_keeps
  have h6 := @State.settle_keeps
  have k := Keeps.refl s
  unfold opGovDecision
  exact Keeps.auto

theorem opGovCostMeasure_keeps (pPart : Nat) (s : State) : Keeps s (opGovCostMeasure pPart s) := by
  have k := Keeps.refl s
  unfold opGovCostMeasure
  exact Keeps.auto

theorem opGovLevelMin_keeps (v : Nat) (s : State) : Keeps s (opGovLevelMin v s) := by
  have h0 := @State.level_keeps
  have h1 := @State.put_keeps
  have h2 := @State.setLevel_keeps
  have k := Keeps.refl s
  unfold opGovLevelMin
  exact Keeps.auto

theorem execGovDecision_keeps (now : Nat) (pPart : Nat) (tj : Int) (ok : Bool) (s : State) : KeepsO s (execGovDecision now pPart tj ok s) := by
  have h0 := @opGovDecision_keeps
  have h1 := @State.atTime_keeps
  have k := Keeps.refl s
  unfold execGovDecision
  exact KeepsO.auto

theorem execGovCostMeasure_keeps (now : Nat) (pPart : Nat) (s : State) : KeepsO s (execGovCostMeasure now pPart s) := by
  have h0 := @opGovCostMeasure_keeps
  have h1 := @State.atTime_keeps
  have k := Keeps.refl s
  unfold execGovCostMeasure
  exact KeepsO.auto

end Sys2Proof.Machine
end

