-- ==== Sys2Proof/Laws/KeepPair.lean ====
section
/-!
SUPPORT. What the operations of Machine/Pair.lean leave.
-/
set_option Elab.async false
namespace Sys2Proof.Machine

theorem State.pairCount_keeps (s : State) (k : Nat) : Keeps s (State.pairCount s k) := by
  have k := Keeps.refl s
  unfold State.pairCount
  exact Keeps.auto

theorem State.pairWipe_keeps (s : State) : Keeps s (State.pairWipe s) := by
  have k := Keeps.refl s
  unfold State.pairWipe
  exact Keeps.auto

theorem State.advertise_keeps (s : State) : Keeps s (State.advertise s) := by
  have k := Keeps.refl s
  unfold State.advertise
  exact Keeps.auto

theorem State.judge_keeps (s : State) : Keeps s (State.judge s) := by
  have k := Keeps.refl s
  unfold State.judge
  exact Keeps.auto

theorem State.heard_keeps (s : State) : Keeps s (State.heard s) := by
  have h0 := @State.judge_keeps
  have k := Keeps.refl s
  unfold State.heard
  exact Keeps.auto

theorem State.peerIn_keeps (s : State) (pseq : Nat) (tag : Bool) : Keeps s (State.peerIn s pseq tag).1 := by
  have h0 := @State.pairCount_keeps
  have k := Keeps.refl s
  unfold State.peerIn
  exact Keeps.auto

theorem opHello_keeps (serial : Nat) (lc : Nat) (preferred : Bool) (svn : Nat) (hmac : Bool) (s : State) : Keeps s (opHello serial lc preferred svn hmac s) := by
  have h0 := @State.judge_keeps
  have h1 := @State.level_keeps
  have k := Keeps.refl s
  unfold opHello
  exact Keeps.auto

theorem opRenew_keeps (pseq : Nat) (tag : Bool) (c : Claim) (s : State) : Keeps s (opRenew pseq tag c s) := by
  have h0 := @State.peerIn_keeps
  have h1 := @State.clearFault_keeps
  have h2 := @State.putClaim_keeps
  have h3 := @State.heard_keeps
  have k := Keeps.refl s
  unfold opRenew
  exact Keeps.auto

theorem State.propose_keeps (s : State) (cause : Nat) : Keeps s (State.propose s cause) := by
  have h0 := @State.level_keeps
  have h1 := @State.peerSend_keeps
  have h2 := @State.raise_keeps
  have k := Keeps.refl s
  unfold State.propose
  exact Keeps.auto

theorem opHandoffPropose_keeps (pseq : Nat) (tag : Bool) (th : Nat) (cause : Nat) (s : State) : Keeps s (opHandoffPropose pseq tag th cause s) := by
  have h0 := @State.peerIn_keeps
  have h1 := @State.judge_keeps
  have h2 := @State.peerSend_keeps
  have h3 := @State.raise_keeps
  have k := Keeps.refl s
  unfold opHandoffPropose
  exact Keeps.auto

theorem State.onHandoff_keeps (s : State) (f : Handoff → Handoff) : Keeps s (State.onHandoff s f) := by
  have k := Keeps.refl s
  unfold State.onHandoff
  exact Keeps.auto

theorem opHandoffAccept_keeps (pseq : Nat) (tag : Bool) (s : State) : Keeps s (opHandoffAccept pseq tag s) := by
  have h0 := @State.peerIn_keeps
  have h1 := @State.onHandoff_keeps
  have h2 := @State.regate_keeps
  have k := Keeps.refl s
  unfold opHandoffAccept
  exact Keeps.auto

theorem opHandoffCommit_keeps (pseq : Nat) (tag : Bool) (s : State) : Keeps s (opHandoffCommit pseq tag s) := by
  have h0 := @State.peerIn_keeps
  have h1 := @State.onHandoff_keeps
  have k := Keeps.refl s
  unfold opHandoffCommit
  exact Keeps.auto

theorem State.cancelOut_keeps (s : State) : Keeps s (State.cancelOut s) := by
  have h0 := @State.regate_keeps
  have h1 := @State.pairCount_keeps
  have k := Keeps.refl s
  unfold State.cancelOut
  exact Keeps.auto

theorem opHandoffCancel_keeps (pseq : Nat) (tag : Bool) (s : State) : Keeps s (opHandoffCancel pseq tag s) := by
  have h0 := @State.peerIn_keeps
  have h1 := @State.cancelOut_keeps
  have h2 := @State.onHandoff_keeps
  have k := Keeps.refl s
  unfold opHandoffCancel
  exact Keeps.auto

theorem State.takeLease_keeps (s : State) : Keeps s (State.takeLease s) := by
  have h0 := @State.takeLate_keeps
  have k := Keeps.refl s
  unfold State.takeLease
  exact Keeps.auto

theorem State.startLease_keeps (s : State) : Keeps s (State.startLease s) := by
  have h0 := @State.takeLease_keeps
  have k := Keeps.refl s
  unfold State.startLease
  exact Keeps.auto

theorem opReceiverClaim_keeps (pass : Bool) (s : State) : Keeps s (opReceiverClaim pass s) := by
  have h0 := @State.onHandoff_keeps
  have h1 := @State.startLease_keeps
  have k := Keeps.refl s
  unfold opReceiverClaim
  exact Keeps.auto

theorem State.handoffSend_keeps (s : State) (step : Nat) : Keeps s (State.handoffSend s step) := by
  have h0 := @State.peerSend_keeps
  have k := Keeps.refl s
  unfold State.handoffSend
  exact Keeps.auto

theorem opCommitCheck_keeps (s : State) : Keeps s (opCommitCheck s) := by
  have h0 := @State.cancelOut_keeps
  have h1 := @State.handoffSend_keeps
  have h2 := @State.onHandoff_keeps
  have k := Keeps.refl s
  unfold opCommitCheck
  exact Keeps.auto

theorem State.enableOutputs_keeps (s : State) (gap : Bool) : Keeps s (State.enableOutputs s gap) := by
  have k := Keeps.refl s
  unfold State.enableOutputs
  exact Keeps.auto

theorem State.becomeHolder_keeps (s : State) (cause : Nat) (gap : Bool) : Keeps s (State.becomeHolder s cause gap) := by
  have h0 := @State.freezeGirth_keeps
  have h1 := @State.unfollow_keeps
  have h2 := @State.advertise_keeps
  have h3 := @State.enableOutputs_keeps
  have k := Keeps.refl s
  unfold State.becomeHolder
  exact Keeps.auto

theorem opHandoffExecute_keeps (s : State) : Keeps s (opHandoffExecute s) := by
  have h0 := @State.becomeHolder_keeps
  have h1 := @State.judge_keeps
  have h2 := @State.pairCount_keeps
  have h3 := @State.regate_keeps
  have h4 := @State.stopLease_keeps
  have k := Keeps.refl s
  unfold opHandoffExecute
  exact Keeps.auto

theorem opNoCommit_keeps (s : State) : Keeps s (opNoCommit s) := by
  have h0 := @State.becomeHolder_keeps
  have h1 := @State.pairCount_keeps
  have k := Keeps.refl s
  unfold opNoCommit
  exact Keeps.auto

theorem State.sampleWires_keeps (s : State) (a : Bool) (b : Bool) : Keeps s (State.sampleWires s a b) := by
  have h0 := @State.level_keeps
  have k := Keeps.refl s
  unfold State.sampleWires
  exact Keeps.auto

theorem State.renewed_keeps (s : State) : Keeps s (State.renewed s) := by
  have h0 := @State.peerSend_keeps
  have k := Keeps.refl s
  unfold State.renewed
  exact Keeps.auto

theorem State.statusSend_keeps (s : State) (ask : Nat) : Keeps s (State.statusSend s ask) := by
  have h0 := @State.peerSend_keeps
  have k := Keeps.refl s
  unfold State.statusSend
  exact Keeps.auto

theorem State.sendEpoch_keeps (s : State) (full : Bool) : Keeps s (State.sendEpoch s full) := by
  have h0 := @State.peerSend_keeps
  have k := Keeps.refl s
  unfold State.sendEpoch
  exact Keeps.auto

theorem State.handoffEpoch_keeps (s : State) : Keeps s (State.handoffEpoch s) := by
  have h0 := @State.onHandoff_keeps
  have h1 := @State.sendEpoch_keeps
  have k := Keeps.refl s
  unfold State.handoffEpoch
  exact Keeps.auto

theorem State.takePair_keeps (s : State) : Keeps s (State.takePair s) := by
  have h0 := @State.takeLate_keeps
  have k := Keeps.refl s
  unfold State.takePair
  exact Keeps.auto

theorem opQuarterTick_keeps (verdict : Bool) (lowA : Bool) (lowB : Bool) (highA : Bool) (highB : Bool) (s : State) : Keeps s (opQuarterTick verdict lowA lowB highA highB s) := by
  have h0 := @State.handoffEpoch_keeps
  have h1 := @State.judge_keeps
  have h2 := @State.pairCount_keeps
  have h3 := @State.raise_keeps
  have h4 := @State.renewed_keeps
  have h5 := @State.sampleWires_keeps
  have h6 := @State.statusSend_keeps
  have h7 := @State.takePair_keeps
  have k := Keeps.refl s
  unfold opQuarterTick
  exact Keeps.auto

theorem opLeaseExpire_keeps (s : State) : Keeps s (opLeaseExpire s) := by
  have h0 := @State.stopLease_keeps
  have h1 := @State.raise_keeps
  have k := Keeps.refl s
  unfold opLeaseExpire
  exact Keeps.auto

theorem opForeignLow_keeps (s : State) : Keeps s (opForeignLow s) := by
  have h0 := @State.onHandoff_keeps
  have h1 := @State.pairCount_keeps
  have h2 := @State.stopLease_keeps
  have h3 := @State.raise_keeps
  have k := Keeps.refl s
  unfold opForeignLow
  exact Keeps.auto

theorem State.takeHalter_keeps (s : State) : Keeps s (State.takeHalter s) := by
  have h0 := @State.becomeHolder_keeps
  have h1 := @State.pairCount_keeps
  have h2 := @State.release_keeps
  have h3 := @State.startLease_keeps
  have k := Keeps.refl s
  unfold State.takeHalter
  exact Keeps.auto

theorem opHalterClaim_keeps (highA : Bool) (highB : Bool) (pass : Bool) (s : State) : Keeps s (opHalterClaim highA highB pass s) := by
  have h0 := @State.sampleWires_keeps
  have h1 := @State.takeHalter_keeps
  have h2 := @State.takeLease_keeps
  have k := Keeps.refl s
  unfold opHalterClaim
  exact Keeps.auto

theorem opRelease_keeps (pseq : Nat) (tag : Bool) (s : State) : Keeps s (opRelease pseq tag s) := by
  have h0 := @State.peerIn_keeps
  have k := Keeps.refl s
  unfold opRelease
  exact Keeps.auto

theorem opWireFall_keeps (w : Nat) (back : Bool) (s : State) : Keeps s (opWireFall w back s) := by
  have h0 := @State.sampleWires_keeps
  have h1 := @State.level_keeps
  have h2 := @State.clearFault_keeps
  have k := Keeps.refl s
  unfold opWireFall
  exact Keeps.auto

theorem opYieldCheck_keeps (s : State) : Keeps s (opYieldCheck s) := by
  have h0 := @State.propose_keeps
  have h1 := @State.raise_keeps
  have k := Keeps.refl s
  unfold opYieldCheck
  exact Keeps.auto

theorem State.followPeer_keeps (s : State) (t : Nat) : Keeps s (State.followPeer s t) := by
  have h0 := @State.processError_keeps
  have k := Keeps.refl s
  unfold State.followPeer
  exact Keeps.auto

theorem opMarker_keeps (pseq : Nat) (tag : Bool) (tPeer : Int) (rPeer : Int) (s : State) : Keeps s (opMarker pseq tag tPeer rPeer s) := by
  have h0 := @State.endBuildOut_keeps
  have h1 := @State.followPeer_keeps
  have h2 := @State.judge_keeps
  have h3 := @State.peerIn_keeps
  have h4 := @State.recalc_keeps
  have k := Keeps.refl s
  unfold opMarker
  exact Keeps.auto

theorem opLinkSilence_keeps (s : State) : Keeps s (opLinkSilence s) := by
  have h0 := @State.raise_keeps
  have h1 := @State.leavePeer_keeps
  have k := Keeps.refl s
  unfold opLinkSilence
  exact Keeps.auto

theorem State.applyGrant_keeps (s : State) (g : SnapGrant) : Keeps s (State.applyGrant s g) := by
  have k := Keeps.refl s
  unfold State.applyGrant
  exact Keeps.auto

theorem State.applySeq_keeps (s : State) (x : Nat × Nat × Nat) : Keeps s (State.applySeq s x) := by
  have h0 := @State.onPPort_keeps
  have k := Keeps.refl s
  unfold State.applySeq
  exact Keeps.auto

theorem State.applyKey_keeps (s : State) (k : SnapKey) : Keeps s (State.applyKey s k) := by
  have h0 := @State.setSlot_keeps
  have h1 := @State.raise_keeps
  have h2 := @State.pairCount_keeps
  have k := Keeps.refl s
  unfold State.applyKey
  exact Keeps.auto

theorem State.applySection_keeps (s : State) (full : Bool) (x : SnapSection) : Keeps s (State.applySection s full x) := by
  have h0 := @State.applyGrant_keeps
  have h1 := @State.applySeq_keeps
  have h2 := @State.applyKey_keeps
  have h3 := @State.level_keeps
  have k := Keeps.refl s
  unfold State.applySection
  exact Keeps.auto

theorem opSnapSection_keeps (pseq : Nat) (tag : Bool) (x : SnapSection) (s : State) : Keeps s (opSnapSection pseq tag x s) := by
  have h0 := @State.peerIn_keeps
  have k := Keeps.refl s
  unfold opSnapSection
  exact Keeps.auto

theorem opSnapTrailer_keeps (pseq : Nat) (tag : Bool) (epoch : Nat) (kind : Nat) (base : Nat) (count : Nat) (total : Nat) (digest : Nat) (s : State) : Keeps s (opSnapTrailer pseq tag epoch kind base count total digest s) := by
  have h0 := @State.applySection_keeps
  have h1 := @State.judge_keeps
  have h2 := @State.peerIn_keeps
  have h3 := @State.ptpOver_keeps
  have h4 := @State.statusSend_keeps
  have k := Keeps.refl s
  unfold opSnapTrailer
  exact Keeps.auto

theorem State.pairAnchor_keeps (s : State) : Keeps s (State.pairAnchor s) := by
  have h0 := @State.judge_keeps
  have h1 := @State.peerSend_keeps
  have h2 := @State.sendEpoch_keeps
  have k := Keeps.refl s
  unfold State.pairAnchor
  exact Keeps.auto

theorem opPairStatus_keeps (pseq : Nat) (tag : Bool) (state : Nat) (fit : Bool) (aligned : Bool) (girth : Nat) (epoch : Nat) (cfg : Bool) (full : Bool) (back : Bool) (s : State) : Keeps s (opPairStatus pseq tag state fit aligned girth epoch cfg full back s) := by
  have h0 := @State.peerIn_keeps
  have h1 := @State.clearFault_keeps
  have h2 := @State.propose_keeps
  have k := Keeps.refl s
  unfold opPairStatus
  exact Keeps.auto

theorem opSwapPropose_keeps (s : State) : Keeps s (opSwapPropose s) := by
  have h0 := @State.level_keeps
  have h1 := @State.propose_keeps
  have k := Keeps.refl s
  unfold opSwapPropose
  exact Keeps.auto

theorem State.swapMissed_keeps (s : State) : Keeps s (State.swapMissed s) := by
  have h0 := @State.raise_keeps
  have k := Keeps.refl s
  unfold State.swapMissed
  exact Keeps.auto

theorem opPairDiag_keeps (s : State) : Keeps s (opPairDiag s) := by
  have k := Keeps.refl s
  unfold opPairDiag
  exact Keeps.auto

theorem opDiagDone_keeps (result : Nat) (s : State) : Keeps s (opDiagDone result s) := by
  have h0 := @State.judge_keeps
  have h1 := @State.level_keeps
  have k := Keeps.refl s
  unfold opDiagDone
  exact Keeps.auto

theorem opPairReturn_keeps (s : State) : Keeps s (opPairReturn s) := by
  have h0 := @State.statusSend_keeps
  have k := Keeps.refl s
  unfold opPairReturn
  exact Keeps.auto

theorem State.helloSend_keeps (s : State) : Keeps s (State.helloSend s) := by
  have h0 := @State.peerSend_keeps
  have k := Keeps.refl s
  unfold State.helloSend
  exact Keeps.auto

theorem State.rejoin_keeps (s : State) : Keeps s (State.rejoin s) := by
  have h0 := @State.helloSend_keeps
  have h1 := @State.leavePeer_keeps
  have h2 := @State.pairWipe_keeps
  have k := Keeps.refl s
  unfold State.rejoin
  exact Keeps.auto

theorem opPairEnable_keeps (on : Bool) (s : State) : Keeps s (opPairEnable on s) := by
  have h0 := @State.haltOutputs_keeps
  have h1 := @State.hushPorts_keeps
  have h2 := @State.onOuts_keeps
  have h3 := @State.put_keeps
  have h4 := @State.rejoin_keeps
  have h5 := @State.stopLease_keeps
  have h6 := @State.takeLease_keeps
  have h7 := @State.takePair_keeps
  have k := Keeps.refl s
  unfold opPairEnable
  exact Keeps.auto

theorem opPeerLaneUp_keeps (p : Nat) (s : State) : Keeps s (opPeerLaneUp p s) := by
  have h0 := @State.clearFault_keeps
  have h1 := @State.helloSend_keeps
  have h2 := @State.onPeer_keeps
  have k := Keeps.refl s
  unfold opPeerLaneUp
  exact Keeps.auto

theorem opPeerLaneDown_keeps (p : Nat) (s : State) : Keeps s (opPeerLaneDown p s) := by
  have h0 := @State.beginPeer_keeps
  have h1 := @State.leavePeer_keeps
  have h2 := @State.pairWipe_keeps
  have h3 := @State.peerSwitch_keeps
  have h4 := @State.raise_keeps
  have k := Keeps.refl s
  unfold opPeerLaneDown
  exact Keeps.auto

theorem opFomMin_keeps (l : Nat) (s : State) : Keeps s (opFomMin l s) := by
  have h0 := @opPeerLaneDown_keeps
  have h1 := @opRetrain_keeps
  have k := Keeps.refl s
  unfold opFomMin
  exact Keeps.auto

theorem execFomMinTimeout_keeps (now : Nat) (l : Nat) (s : State) : KeepsO s (execFomMinTimeout now l s) := by
  have h0 := @State.atTime_keeps
  have h1 := @opFomMin_keeps
  have k := Keeps.refl s
  unfold execFomMinTimeout
  exact KeepsO.auto

theorem execHalterQuarterTick_keeps (now : Nat) (verdict : Bool) (lowA : Bool) (lowB : Bool) (highA : Bool) (highB : Bool) (s : State) : KeepsO s (execHalterQuarterTick now verdict lowA lowB highA highB s) := by
  have h0 := @opQuarterTick_keeps
  have h1 := @State.atTime_keeps
  have k := Keeps.refl s
  unfold execHalterQuarterTick
  exact KeepsO.auto

theorem execLeaseExpire_keeps (now : Nat) (s : State) : KeepsO s (execLeaseExpire now s) := by
  have h0 := @opLeaseExpire_keeps
  have h1 := @State.atTime_keeps
  have k := Keeps.refl s
  unfold execLeaseExpire
  exact KeepsO.auto

theorem execForeignLow_keeps (now : Nat) (s : State) : KeepsO s (execForeignLow now s) := by
  have h0 := @opForeignLow_keeps
  have h1 := @State.atTime_keeps
  have k := Keeps.refl s
  unfold execForeignLow
  exact KeepsO.auto

theorem execHalterClaim_keeps (now : Nat) (highA : Bool) (highB : Bool) (pass : Bool) (s : State) : KeepsO s (execHalterClaim now highA highB pass s) := by
  have h0 := @opHalterClaim_keeps
  have h1 := @State.atTime_keeps
  have k := Keeps.refl s
  unfold execHalterClaim
  exact KeepsO.auto

theorem execPairYieldCheck_keeps (now : Nat) (s : State) : KeepsO s (execPairYieldCheck now s) := by
  have h0 := @opYieldCheck_keeps
  have h1 := @State.atTime_keeps
  have k := Keeps.refl s
  unfold execPairYieldCheck
  exact KeepsO.auto

theorem execHello_keeps (now : Nat) (serial : Nat) (lc : Nat) (preferred : Bool) (svn : Nat) (hmac : Bool) (s : State) : KeepsO s (execHello now serial lc preferred svn hmac s) := by
  have h0 := @opHello_keeps
  have h1 := @State.atTime_keeps
  have k := Keeps.refl s
  unfold execHello
  exact KeepsO.auto

theorem execRenew_keeps (now : Nat) (pseq : Nat) (tag : Bool) (c : Claim) (s : State) : KeepsO s (execRenew now pseq tag c s) := by
  have h0 := @opRenew_keeps
  have h1 := @State.atTime_keeps
  have k := Keeps.refl s
  unfold execRenew
  exact KeepsO.auto

theorem execPairStatus_keeps (now : Nat) (pseq : Nat) (tag : Bool) (state : Nat) (fit : Bool) (aligned : Bool) (girth : Nat) (epoch : Nat) (cfg : Bool) (full : Bool) (back : Bool) (s : State) : KeepsO s (execPairStatus now pseq tag state fit aligned girth epoch cfg full back s) := by
  have h0 := @opPairStatus_keeps
  have h1 := @State.atTime_keeps
  have k := Keeps.refl s
  unfold execPairStatus
  exact KeepsO.auto

theorem execMarker_keeps (now : Nat) (pseq : Nat) (tag : Bool) (tPeer : Int) (rPeer : Int) (s : State) : KeepsO s (execMarker now pseq tag tPeer rPeer s) := by
  have h0 := @opMarker_keeps
  have h1 := @State.atTime_keeps
  have k := Keeps.refl s
  unfold execMarker
  exact KeepsO.auto

theorem execSnapSection_keeps (now : Nat) (pseq : Nat) (tag : Bool) (x : SnapSection) (s : State) : KeepsO s (execSnapSection now pseq tag x s) := by
  have h0 := @opSnapSection_keeps
  have h1 := @State.atTime_keeps
  have k := Keeps.refl s
  unfold execSnapSection
  exact KeepsO.auto

theorem execSnapTrailer_keeps (now : Nat) (pseq : Nat) (tag : Bool) (epoch : Nat) (kind : Nat) (base : Nat) (count : Nat) (total : Nat) (digest : Nat) (s : State) : KeepsO s (execSnapTrailer now pseq tag epoch kind base count total digest s) := by
  have h0 := @opSnapTrailer_keeps
  have h1 := @State.atTime_keeps
  have k := Keeps.refl s
  unfold execSnapTrailer
  exact KeepsO.auto

theorem execHandoffPropose_keeps (now : Nat) (pseq : Nat) (tag : Bool) (th : Nat) (cause : Nat) (s : State) : KeepsO s (execHandoffPropose now pseq tag th cause s) := by
  have h0 := @opHandoffPropose_keeps
  have h1 := @State.atTime_keeps
  have k := Keeps.refl s
  unfold execHandoffPropose
  exact KeepsO.auto

theorem execHandoffAccept_keeps (now : Nat) (pseq : Nat) (tag : Bool) (s : State) : KeepsO s (execHandoffAccept now pseq tag s) := by
  have h0 := @opHandoffAccept_keeps
  have h1 := @State.atTime_keeps
  have k := Keeps.refl s
  unfold execHandoffAccept
  exact KeepsO.auto

theorem execHandoffCommit_keeps (now : Nat) (pseq : Nat) (tag : Bool) (s : State) : KeepsO s (execHandoffCommit now pseq tag s) := by
  have h0 := @opHandoffCommit_keeps
  have h1 := @State.atTime_keeps
  have k := Keeps.refl s
  unfold execHandoffCommit
  exact KeepsO.auto

theorem execHandoffCancel_keeps (now : Nat) (pseq : Nat) (tag : Bool) (s : State) : KeepsO s (execHandoffCancel now pseq tag s) := by
  have h0 := @opHandoffCancel_keeps
  have h1 := @State.atTime_keeps
  have k := Keeps.refl s
  unfold execHandoffCancel
  exact KeepsO.auto

theorem execHandoffReceiverClaim_keeps (now : Nat) (pass : Bool) (s : State) : KeepsO s (execHandoffReceiverClaim now pass s) := by
  have h0 := @opReceiverClaim_keeps
  have h1 := @State.atTime_keeps
  have k := Keeps.refl s
  unfold execHandoffReceiverClaim
  exact KeepsO.auto

theorem execHandoffCommitCheck_keeps (now : Nat) (s : State) : KeepsO s (execHandoffCommitCheck now s) := by
  have h0 := @opCommitCheck_keeps
  have h1 := @State.atTime_keeps
  have k := Keeps.refl s
  unfold execHandoffCommitCheck
  exact KeepsO.auto

theorem execHandoffExecute_keeps (now : Nat) (s : State) : KeepsO s (execHandoffExecute now s) := by
  have h0 := @opHandoffExecute_keeps
  have h1 := @State.atTime_keeps
  have k := Keeps.refl s
  unfold execHandoffExecute
  exact KeepsO.auto

theorem execHandoffNoCommitTimeout_keeps (now : Nat) (s : State) : KeepsO s (execHandoffNoCommitTimeout now s) := by
  have h0 := @opNoCommit_keeps
  have h1 := @State.atTime_keeps
  have k := Keeps.refl s
  unfold execHandoffNoCommitTimeout
  exact KeepsO.auto

theorem execRelease_keeps (now : Nat) (pseq : Nat) (tag : Bool) (_cause : Nat) (s : State) : KeepsO s (execRelease now pseq tag _cause s) := by
  have h0 := @opRelease_keeps
  have h1 := @State.atTime_keeps
  have k := Keeps.refl s
  unfold execRelease
  exact KeepsO.auto

theorem execSwapPropose_keeps (now : Nat) (s : State) : KeepsO s (execSwapPropose now s) := by
  have h0 := @opSwapPropose_keeps
  have h1 := @State.atTime_keeps
  have k := Keeps.refl s
  unfold execSwapPropose
  exact KeepsO.auto

theorem execPairDiagDone_keeps (now : Nat) (result : Nat) (s : State) : KeepsO s (execPairDiagDone now result s) := by
  have h0 := @opDiagDone_keeps
  have h1 := @State.atTime_keeps
  have k := Keeps.refl s
  unfold execPairDiagDone
  exact KeepsO.auto

theorem execPairReturn_keeps (now : Nat) (s : State) : KeepsO s (execPairReturn now s) := by
  have h0 := @opPairReturn_keeps
  have h1 := @State.atTime_keeps
  have k := Keeps.refl s
  unfold execPairReturn
  exact KeepsO.auto

theorem execPeerLaneUp_keeps (now : Nat) (p : Nat) (s : State) : KeepsO s (execPeerLaneUp now p s) := by
  have h0 := @opPeerLaneUp_keeps
  have h1 := @State.atTime_keeps
  have k := Keeps.refl s
  unfold execPeerLaneUp
  exact KeepsO.auto

theorem execPeerLaneDown_keeps (now : Nat) (p : Nat) (s : State) : KeepsO s (execPeerLaneDown now p s) := by
  have h0 := @opPeerLaneDown_keeps
  have h1 := @State.atTime_keeps
  have k := Keeps.refl s
  unfold execPeerLaneDown
  exact KeepsO.auto

theorem execPeerLinkSilence_keeps (now : Nat) (s : State) : KeepsO s (execPeerLinkSilence now s) := by
  have h0 := @opLinkSilence_keeps
  have h1 := @State.atTime_keeps
  have k := Keeps.refl s
  unfold execPeerLinkSilence
  exact KeepsO.auto

theorem execHaltWireFall_keeps (now : Nat) (w : Nat) (back : Bool) (s : State) : KeepsO s (execHaltWireFall now w back s) := by
  have h0 := @opWireFall_keeps
  have h1 := @State.atTime_keeps
  have k := Keeps.refl s
  unfold execHaltWireFall
  exact KeepsO.auto

end Sys2Proof.Machine
end

