-- ==== Sys2Proof/Laws/KeepPowerOn.lean ====
section
/-!
SUPPORT. What the operations of Machine/PowerOn.lean leave.
-/
set_option Elab.async false
namespace Sys2Proof.Machine

theorem State.por_any {u : State} (s : State) (cause : Nat) (q : s.pending = u.pending) : Keeps u (s.por cause) := by
  refine ⟨q, fun _ => ⟨?_, ?_, ?_, ?_, ?_, ?_, ?_, ?_, ?_, ?_, ?_, ?_, ?_, ?_, ?_, ?_⟩⟩
  all_goals first | exact List.length_replicate | rfl | exact Nat.le_refl _ | skip
  · exact ⟨rfl, fun g hg => by obtain ⟨-, rfl⟩ := List.mem_replicate.mp hg; exact engOk_init, rfl, rfl, rfl⟩
  · exact fun h => absurd (show false = true from h) (by decide)

theorem State.por_keeps (s : State) (cause : Nat) : Keeps s (s.por cause) := State.por_any s cause rfl

end Sys2Proof.Machine
end

