-- ==== Sys2Proof/Laws/KeepVault.lean ====
section
/-!
SUPPORT. What the operations of Machine/Vault.lean leave.
-/
set_option Elab.async false
namespace Sys2Proof.Machine

theorem State.drawCloak_keeps (s : State) : Keeps s (State.drawCloak s) := by
  have h0 := @State.draw_keeps
  have k := Keeps.refl s
  unfold State.drawCloak
  exact Keeps.auto

theorem opMaskRotation_keeps (s : State) : Keeps s (opMaskRotation s) := by
  have h0 := @State.draw_keeps
  have k := Keeps.refl s
  unfold opMaskRotation
  exact Keeps.auto

theorem opSlotAttr_keeps (n : Nat) (v : Nat) (s : State) : Keeps s (opSlotAttr n v s) := by
  have h0 := @State.setSlot_keeps
  have h1 := @State.dropSlot_keeps
  have k := Keeps.refl s
  unfold opSlotAttr
  exact Keeps.auto

theorem State.opStat_keeps (s : State) (v : Nat) : Keeps s (State.opStat s v) := by
  have k := Keeps.refl s
  unfold State.opStat
  exact Keeps.auto

theorem State.cutKeyOp_keeps (s : State) (op : Nat) (slot : Nat) : Keeps s (State.cutKeyOp s op slot) := by
  have k := Keeps.refl s
  unfold State.cutKeyOp
  exact Keeps.auto

theorem opKeyStage_keeps (v : Nat) (outcome : Nat) (s : State) : Keeps s (opKeyStage v outcome s) := by
  have h0 := @State.cutKeyOp_keeps
  have h1 := @State.opStat_keeps
  have h2 := @State.setSlot_keeps
  have k := Keeps.refl s
  unfold opKeyStage
  exact Keeps.auto

theorem opAbandon_keeps (n : Nat) (s : State) : Keeps s (opAbandon n s) := by
  have h0 := @State.opStat_keeps
  have h1 := @State.setSlot_keeps
  have k := Keeps.refl s
  unfold opAbandon
  exact Keeps.auto

theorem opStageTimeout_keeps (n : Nat) (s : State) : Keeps s (opStageTimeout n s) := by
  have h0 := @State.setSlot_keeps
  have k := Keeps.refl s
  unfold opStageTimeout
  exact Keeps.auto

theorem State.vaultAppend_keeps (s : State) (r : VaultRec) : Keeps s (State.vaultAppend s r) := by
  have h0 := @State.nextSeq_keeps
  have k := Keeps.refl s
  unfold State.vaultAppend
  exact Keeps.auto

theorem State.compact_keeps (s : State) : Keeps s (State.compact s) := by
  have k := Keeps.refl s
  unfold State.compact
  exact Keeps.auto

theorem State.makeSpace_keeps (s : State) : Keeps s (State.makeSpace s) := by
  have h0 := @State.compact_keeps
  have k := Keeps.refl s
  unfold State.makeSpace
  exact Keeps.auto

theorem State.switchKey_keeps (s : State) (n : Nat) (kcv : Nat) (key : Nat) : Keeps s (State.switchKey s n kcv key) := by
  have h0 := @State.opStat_keeps
  have h1 := @State.setSlot_keeps
  have k := Keeps.refl s
  unfold State.switchKey
  exact Keeps.auto

theorem opKeyCommit_keeps (n : Nat) (outcome : Nat) (s : State) : Keeps s (opKeyCommit n outcome s) := by
  have h0 := @State.cutKeyOp_keeps
  have h1 := @State.makeSpace_keeps
  have h2 := @State.nextSeq_keeps
  have h3 := @State.opStat_keeps
  have h4 := @State.switchKey_keeps
  have h5 := @State.vaultAppend_keeps
  have k := Keeps.refl s
  unfold opKeyCommit
  exact Keeps.auto

theorem State.opFree_keeps (s : State) : Keeps s (State.opFree s) := by
  have h0 := @State.draw_keeps
  have h1 := @State.opStat_keeps
  have k := Keeps.refl s
  unfold State.opFree
  exact Keeps.auto

theorem State.eraseNow_keeps (s : State) (n : Nat) (outcome : Nat) : Keeps s (State.eraseNow s n outcome) := by
  have h0 := @State.dropSlot_keeps
  have h1 := @State.makeSpace_keeps
  have h2 := @State.opFree_keeps
  have h3 := @State.opStat_keeps
  have h4 := @State.vaultAppend_keeps
  have k := Keeps.refl s
  unfold State.eraseNow
  exact Keeps.auto

theorem opKeyErase_keeps (n : Nat) (outcome : Nat) (s : State) : Keeps s (opKeyErase n outcome s) := by
  have h0 := @State.cutKeyOp_keeps
  have h1 := @State.eraseNow_keeps
  have h2 := @State.opStat_keeps
  have k := Keeps.refl s
  unfold opKeyErase
  exact Keeps.auto

theorem State.erasesDue_keeps (s : State) : Keeps s (State.erasesDue s) := by
  have h0 := @State.eraseNow_keeps
  have k := Keeps.refl s
  unfold State.erasesDue
  exact Keeps.auto

theorem opKeyExport_keeps (v : Nat) (outcome : Nat) (role : Nat) (s : State) : Keeps s (opKeyExport v outcome role s) := by
  have h0 := @State.cutKeyOp_keeps
  have h1 := @State.opStat_keeps
  have h2 := @State.opFree_keeps
  have k := Keeps.refl s
  unfold opKeyExport
  exact Keeps.auto

theorem State.cleanArea_keeps (s : State) : Keeps s (State.cleanArea s) := by
  have k := Keeps.refl s
  unfold State.cleanArea
  exact Keeps.auto

theorem State.unsealOne_keeps (bad : List Nat) (s : State) (n : Nat) : Keeps s (State.unsealOne bad s n) := by
  have h0 := @State.setSlot_keeps
  have h1 := @State.raise_keeps
  have k := Keeps.refl s
  unfold State.unsealOne
  exact Keeps.auto

theorem State.unseal_keeps (s : State) (bad : List Nat) : Keeps s (State.unseal s bad) := by
  have h0 := @State.cleanArea_keeps
  have h1 := @State.latch_keeps
  have h2 := @State.setSlot_keeps
  have h3 := @State.unsealOne_keeps
  have k := Keeps.refl s
  unfold State.unseal
  exact Keeps.auto

theorem State.fuseRoot_keeps (s : State) (target : Nat) : Keeps s (State.fuseRoot s target) := by
  have k := Keeps.refl s
  unfold State.fuseRoot
  exact Keeps.auto

theorem State.lcDone_keeps (s : State) (target : Nat) : Keeps s (State.lcDone s target) := by
  exact State.por_any _ _ rfl

theorem opLcRequest_keeps (target : Nat) (outcome : Nat) (s : State) : Keeps s (opLcRequest target outcome s) := by
  have h0 := @State.fuseRoot_keeps
  have h1 := @State.lcDone_keeps
  have k := Keeps.refl s
  unfold opLcRequest
  exact Keeps.auto

theorem State.aonAt_keeps (s : State) (t : Nat) : Keeps s (State.aonAt s t) := by
  have k := Keeps.refl s
  unfold State.aonAt
  exact Keeps.auto

theorem State.tamperRecord_keeps (s : State) (sources : Nat) (moment : Nat) (slot : Nat) (op : Nat) : Keeps s (State.tamperRecord s sources moment slot op) := by
  have k := Keeps.refl s
  unfold State.tamperRecord
  exact Keeps.auto

theorem State.tamperHalt_keeps (s : State) : Keeps s (State.tamperHalt s) := by
  have h0 := @State.revalid_keeps
  have k := Keeps.refl s
  unfold State.tamperHalt
  exact Keeps.auto

theorem State.tamperWipe_keeps (s : State) : Keeps s (State.tamperWipe s) := by
  have h0 := @State.abortJobs_keeps
  have h1 := @State.attn_keeps
  have h2 := @State.dropSessions_keeps
  have h3 := @State.setGroup_keeps
  have h4 := @State.wipeVault_keeps
  have k := Keeps.refl s
  unfold State.tamperWipe
  exact Keeps.auto

theorem State.alarm_keeps (s : State) (src : Nat) : Keeps s (State.alarm s src) := by
  have h0 := @State.latch_keeps
  have h1 := @State.raise_keeps
  have h2 := @State.tamperHalt_keeps
  have h3 := @State.tamperRecord_keeps
  have h4 := @State.tamperWipe_keeps
  have k := Keeps.refl s
  unfold State.alarm
  exact Keeps.auto

theorem opTamperAlarm_keeps (src : Nat) (aon : Nat) (s : State) : Keeps s (opTamperAlarm src aon s) := by
  have h0 := @State.alarm_keeps
  have h1 := @State.aonAt_keeps
  have k := Keeps.refl s
  unfold opTamperAlarm
  exact Keeps.auto

theorem opTamperRecover_keeps (src : Nat) (s : State) : Keeps s (opTamperRecover src s) := by
  have k := Keeps.refl s
  unfold opTamperRecover
  exact Keeps.auto

theorem opTamperClear_keeps (s : State) : Keeps s (opTamperClear s) := by
  have h0 := @State.por_keeps
  have k := Keeps.refl s
  unfold opTamperClear
  exact Keeps.auto

theorem opAonChangeover_keeps (aon : Nat) (s : State) : Keeps s (opAonChangeover aon s) := by
  have h0 := @opTamperAlarm_keeps
  have k := Keeps.refl s
  unfold opAonChangeover
  exact Keeps.auto

theorem opAonRestore_keeps (s : State) : Keeps s (opAonRestore s) := by
  have k := Keeps.refl s
  unfold opAonRestore
  exact Keeps.auto

theorem opAonReset_keeps (s : State) : Keeps s (opAonReset s) := by
  have k := Keeps.refl s
  unfold opAonReset
  exact Keeps.auto

theorem State.readAonLost_keeps (s : State) : Keeps s (State.readAonLost s) := by
  have h0 := @State.tamperRecord_keeps
  have h1 := @State.alarm_keeps
  have k := Keeps.refl s
  unfold State.readAonLost
  exact Keeps.auto

theorem execMaskRotation_keeps (s : State) : KeepsO s (execMaskRotation s) := by
  have h0 := @opMaskRotation_keeps
  have k := Keeps.refl s
  unfold execMaskRotation
  exact KeepsO.auto

theorem execVaultStageTimeout_keeps (now : Nat) (slot : Nat) (s : State) : KeepsO s (execVaultStageTimeout now slot s) := by
  have h0 := @opStageTimeout_keeps
  have h1 := @State.atTime_keeps
  have k := Keeps.refl s
  unfold execVaultStageTimeout
  exact KeepsO.auto

theorem execTamperAlarm_keeps (now : Nat) (src : Nat) (aon : Nat) (s : State) : KeepsO s (execTamperAlarm now src aon s) := by
  have h0 := @opTamperAlarm_keeps
  have h1 := @State.atTime_keeps
  have k := Keeps.refl s
  unfold execTamperAlarm
  exact KeepsO.auto

theorem execTamperSourceRecover_keeps (now : Nat) (src : Nat) (s : State) : KeepsO s (execTamperSourceRecover now src s) := by
  have h0 := @opTamperRecover_keeps
  have h1 := @State.atTime_keeps
  have k := Keeps.refl s
  unfold execTamperSourceRecover
  exact KeepsO.auto

theorem execAonSupplyChangeover_keeps (now : Nat) (aon : Nat) (s : State) : KeepsO s (execAonSupplyChangeover now aon s) := by
  have h0 := @opAonChangeover_keeps
  have h1 := @State.atTime_keeps
  have k := Keeps.refl s
  unfold execAonSupplyChangeover
  exact KeepsO.auto

theorem execAonSupplyRestore_keeps (now : Nat) (s : State) : KeepsO s (execAonSupplyRestore now s) := by
  have h0 := @opAonRestore_keeps
  have h1 := @State.atTime_keeps
  have k := Keeps.refl s
  unfold execAonSupplyRestore
  exact KeepsO.auto

theorem execAonReset_keeps (now : Nat) (s : State) : KeepsO s (execAonReset now s) := by
  have h0 := @opAonReset_keeps
  have h1 := @State.atTime_keeps
  have k := Keeps.refl s
  unfold execAonReset
  exact KeepsO.auto

end Sys2Proof.Machine
end

