-- ==== Sys2Proof/Laws/KeepDomain.lean ====
section
/-!
SUPPORT. What the operations of Machine/Domain.lean leave.
-/
set_option Elab.async false
namespace Sys2Proof.Machine

theorem State.domCount_keeps (s : State) (k : Nat) : Keeps s (State.domCount s k) := by
  have k := Keeps.refl s
  unfold State.domCount
  exact Keeps.auto

theorem State.domSend_keeps (s : State) (ty : Nat) (w : Nat) (v : List Nat) : Keeps s (State.domSend s ty w v) := by
  have h0 := @State.sendOwn_keeps
  have k := Keeps.refl s
  unfold State.domSend
  exact Keeps.auto

theorem State.esxiaAdmit_keeps (s : State) (src : Nat) : Keeps s (State.esxiaAdmit s src).1 := by
  have k := Keeps.refl s
  unfold State.esxiaAdmit
  exact Keeps.auto

theorem State.domainArrives_keeps (s : State) (src : Nat) : Keeps s (State.domainArrives s src).1 := by
  have h0 := @State.esxiaAdmit_keeps
  have h1 := @State.takeTerm_keeps
  have k := Keeps.refl s
  unfold State.domainArrives
  exact Keeps.auto

theorem State.putWorker_keeps (s : State) (x : Worker) : Keeps s (State.putWorker s x) := by
  have k := Keeps.refl s
  unfold State.putWorker
  exact Keeps.auto

theorem State.fromWorker_keeps (s : State) (w : Nat) (dseq : Nat) (tag : Bool) : Keeps s (State.fromWorker s w dseq tag).1 := by
  have h0 := @State.domCount_keeps
  have h1 := @State.putWorker_keeps
  have k := Keeps.refl s
  unfold State.fromWorker
  exact Keeps.auto

theorem State.fromManager_keeps (s : State) (dseq : Nat) (tag : Bool) : Keeps s (State.fromManager s dseq tag).1 := by
  have h0 := @State.domCount_keeps
  have k := Keeps.refl s
  unfold State.fromManager
  exact Keeps.auto

theorem State.toWorker_keeps (s : State) (ty : Nat) (x : Worker) (v : List Nat) : Keeps s (State.toWorker s ty x v) := by
  have h0 := @State.domSend_keeps
  have h1 := @State.putWorker_keeps
  have k := Keeps.refl s
  unfold State.toWorker
  exact Keeps.auto

theorem State.toManager_keeps (s : State) (ty : Nat) (v : List Nat) : Keeps s (State.toManager s ty v) := by
  have h0 := @State.domSend_keeps
  have k := Keeps.refl s
  unfold State.toManager
  exact Keeps.auto

theorem State.joinFields_keeps (s : State) : Keeps s (State.joinFields s).1 := by
  have h0 := @State.draw_keeps
  have k := Keeps.refl s
  unfold State.joinFields
  exact Keeps.auto

theorem State.ackFields_keeps (s : State) (w : Nat) (r : Nat) : Keeps s (State.ackFields s w r).1 := by
  have h0 := @State.draw_keeps
  have k := Keeps.refl s
  unfold State.ackFields
  exact Keeps.auto

theorem opJoinTx_keeps (s : State) : Keeps s (opJoinTx s) := by
  have h0 := @State.domSend_keeps
  have h1 := @State.joinFields_keeps
  have k := Keeps.refl s
  unfold opJoinTx
  exact Keeps.auto

theorem State.sendAck_keeps (s : State) (w : Nat) (r : Nat) : Keeps s (State.sendAck s w r) := by
  have h0 := @State.ackFields_keeps
  have h1 := @State.domSend_keeps
  have k := Keeps.refl s
  unfold State.sendAck
  exact Keeps.auto

theorem State.sessionKeys_keeps (s : State) : Keeps s (State.sessionKeys s).1 := by
  have h0 := @State.draw_keeps
  have k := Keeps.refl s
  unfold State.sessionKeys
  exact Keeps.auto

theorem State.sendPolicy_keeps (s : State) (x : Worker) : Keeps s (State.sendPolicy s x) := by
  have h0 := @State.toWorker_keeps
  have k := Keeps.refl s
  unfold State.sendPolicy
  exact Keeps.auto

theorem State.sendKeys_keeps (s : State) (x : Worker) : Keeps s (State.sendKeys s x) := by
  have h0 := @State.toWorker_keeps
  have k := Keeps.refl s
  unfold State.sendKeys
  exact Keeps.auto

theorem State.sendChanged_keeps (s old : State) : Keeps s (State.sendChanged s old) := by
  unfold State.sendChanged
  split
  · exact Keeps.foldl (fun s x => State.sendKeys_keeps s x) (Keeps.refl s)
  · exact Keeps.refl s

theorem State.welcome_keeps (s : State) (w : Nat) : Keeps s (State.welcome s w) := by
  have h0 := @State.sendPolicy_keeps
  have h1 := @State.sendKeys_keeps
  have k := Keeps.refl s
  unfold State.welcome
  exact Keeps.auto

theorem opJoin_keeps (src : Nat) (domainId : Nat) (w : Nat) (serial : Nat) (lc : Nat) (epoch : Nat) (hmac : Bool) (s : State) : Keeps s (opJoin src domainId w serial lc epoch hmac s) := by
  have h0 := @State.domCount_keeps
  have h1 := @State.domainArrives_keeps
  have h2 := @State.putWorker_keeps
  have h3 := @State.sendAck_keeps
  have h4 := @State.sessionKeys_keeps
  have h5 := @State.welcome_keeps
  have k := Keeps.refl s
  unfold opJoin
  exact Keeps.auto

theorem opJoinAck_keeps (src : Nat) (domainId : Nat) (w : Nat) (serial : Nat) (result : Nat) (hmac : Bool) (s : State) : Keeps s (opJoinAck src domainId w serial result hmac s) := by
  have h0 := @State.domainArrives_keeps
  have h1 := @State.domCount_keeps
  have h2 := @State.clearFault_keeps
  have h3 := @State.raise_keeps
  have h5 := @State.sessionKeys_keeps
  have k := Keeps.refl s
  unfold opJoinAck
  exact Keeps.auto

theorem State.managerLost_keeps (s : State) : Keeps s (State.managerLost s) := by
  have h0 := @State.domCount_keeps
  have h1 := @State.noteFed_keeps
  have h2 := @State.raise_keeps
  have k := Keeps.refl s
  unfold State.managerLost
  exact Keeps.auto

theorem opManagerLost_keeps (s : State) : Keeps s (opManagerLost s) := by
  have h0 := @State.heard_keeps
  have h1 := @State.managerLost_keeps
  have k := Keeps.refl s
  unfold opManagerLost
  exact Keeps.auto

theorem opQuality_keeps (src : Nat) (dseq : Nat) (tag : Bool) (ql : Nat) (flags : Nat) (epoch : Nat) (c : Claim) (s : State) : Keeps s (opQuality src dseq tag ql flags epoch c s) := by
  have h0 := @State.domainArrives_keeps
  have h1 := @State.fromManager_keeps
  have h2 := @State.noteFed_keeps
  have k := Keeps.refl s
  unfold opQuality
  exact Keeps.auto

theorem opQualityTx_keeps (s : State) : Keeps s (opQualityTx s) := by
  have h0 := @State.toWorker_keeps
  have k := Keeps.refl s
  unfold opQualityTx
  exact Keeps.auto

theorem opDomainStatus_keeps (src : Nat) (w : Nat) (dseq : Nat) (tag : Bool) (ql : Nat) (girth : Nat) (epoch : Nat) (s : State) : Keeps s (opDomainStatus src w dseq tag ql girth epoch s) := by
  have h0 := @State.domainArrives_keeps
  have h1 := @State.fromWorker_keeps
  have h2 := @State.putWorker_keeps
  have k := Keeps.refl s
  unfold opDomainStatus
  exact Keeps.auto

theorem opStatusTx_keeps (s : State) : Keeps s (opStatusTx s) := by
  have h0 := @State.toManager_keeps
  have k := Keeps.refl s
  unfold opStatusTx
  exact Keeps.auto

theorem State.domainAnchor_keeps (s : State) : Keeps s (State.domainAnchor s) := by
  have h0 := @State.sendPolicy_keeps
  have h1 := @State.takeLate_keeps
  have k := Keeps.refl s
  unfold State.domainAnchor
  exact Keeps.auto

theorem opPolicyWrite_keeps (s : State) : Keeps s (opPolicyWrite s) := by
  have k := Keeps.refl s
  unfold opPolicyWrite
  exact Keeps.auto

theorem opPolicyAck_keeps (src : Nat) (w : Nat) (dseq : Nat) (tag : Bool) (code : Nat) (s : State) : Keeps s (opPolicyAck src w dseq tag code s) := by
  have h0 := @State.domainArrives_keeps
  have h1 := @State.fromWorker_keeps
  have h2 := @State.domCount_keeps
  have k := Keeps.refl s
  unfold opPolicyAck
  exact Keeps.auto

theorem State.takeKey_keeps (s : State) (k : SnapKey) : Keeps s (State.takeKey s k).1 := by
  have h0 := @State.setSlot_keeps
  have h1 := @State.raise_keeps
  have h2 := @State.domCount_keeps
  have k := Keeps.refl s
  unfold State.takeKey
  exact Keeps.auto

theorem State.takeKeys_keeps (s : State) (x1 : List SnapKey) : Keeps s (State.takeKeys s x1).1 := by
  have h1 := @State.takeKey_keeps
  induction x1 generalizing s with
  | nil => exact Keeps.refl s
  | cons k t ih =>
    unfold State.takeKeys
    exact (h1 s k).trans (ih _)

theorem opKeys_keeps (src : Nat) (dseq : Nat) (tag : Bool) (l : List SnapKey) (s : State) : Keeps s (opKeys src dseq tag l s) := by
  have h0 := @State.domainArrives_keeps
  have h1 := @State.fromManager_keeps
  have h2 := @State.takeKeys_keeps
  have h3 := @State.toManager_keeps
  have k := Keeps.refl s
  unfold opKeys
  exact Keeps.auto

theorem opKeysAck_keeps (src : Nat) (w : Nat) (dseq : Nat) (tag : Bool) (s : State) : Keeps s (opKeysAck src w dseq tag s) := by
  have h0 := @State.domainArrives_keeps
  have h1 := @State.fromWorker_keeps
  have k := Keeps.refl s
  unfold opKeysAck
  exact Keeps.auto

theorem opLeave_keeps (src : Nat) (w : Nat) (dseq : Nat) (tag : Bool) (s : State) : Keeps s (opLeave src w dseq tag s) := by
  have h0 := @State.domainArrives_keeps
  have h1 := @State.fromManager_keeps
  have h2 := @State.managerLost_keeps
  have h3 := @State.fromWorker_keeps
  have k := Keeps.refl s
  unfold opLeave
  exact Keeps.auto

theorem opWorkerLost_keeps (w : Nat) (s : State) : Keeps s (opWorkerLost w s) := by
  have h0 := @State.heard_keeps
  have h1 := @State.putWorker_keeps
  have k := Keeps.refl s
  unfold opWorkerLost
  exact Keeps.auto

theorem State.domainRestart_keeps (s : State) : Keeps s (State.domainRestart s) := by
  have h0 := @State.clearFault_keeps
  have h1 := @State.noteFed_keeps
  have h2 := @State.toManager_keeps
  have h3 := @State.toWorker_keeps
  have k := Keeps.refl s
  unfold State.domainRestart
  exact Keeps.auto

theorem execCryptoJobDone_keeps (tag : Nat) (ok : Bool) (s : State) : KeepsO s (execCryptoJobDone tag ok s) := by
  have h0 := @State.erasesDue_keeps
  have h1 := @State.sendChanged_keeps
  have h2 := @opJobDone_keeps
  have k := Keeps.refl s
  unfold execCryptoJobDone
  exact KeepsO.auto

theorem execDomainJoinTx_keeps (now : Nat) (s : State) : KeepsO s (execDomainJoinTx now s) := by
  have h0 := @opJoinTx_keeps
  have h1 := @State.atTime_keeps
  have k := Keeps.refl s
  unfold execDomainJoinTx
  exact KeepsO.auto

theorem execJoin_keeps (now : Nat) (src : Nat) (domainId : Nat) (w : Nat) (serial : Nat) (lc : Nat) (epoch : Nat) (hmac : Bool) (s : State) : KeepsO s (execJoin now src domainId w serial lc epoch hmac s) := by
  have h0 := @opJoin_keeps
  have h1 := @State.atTime_keeps
  have k := Keeps.refl s
  unfold execJoin
  exact KeepsO.auto

theorem execJoinAck_keeps (now : Nat) (src : Nat) (domainId : Nat) (w : Nat) (serial : Nat) (result : Nat) (hmac : Bool) (s : State) : KeepsO s (execJoinAck now src domainId w serial result hmac s) := by
  have h0 := @opJoinAck_keeps
  have h1 := @State.atTime_keeps
  have k := Keeps.refl s
  unfold execJoinAck
  exact KeepsO.auto

theorem execQuality_keeps (now : Nat) (src : Nat) (dseq : Nat) (tag : Bool) (ql : Nat) (flags : Nat) (epoch : Nat) (c : Claim) (s : State) : KeepsO s (execQuality now src dseq tag ql flags epoch c s) := by
  have h0 := @opQuality_keeps
  have h1 := @State.atTime_keeps
  have k := Keeps.refl s
  unfold execQuality
  exact KeepsO.auto

theorem execDomainQualityTx_keeps (now : Nat) (s : State) : KeepsO s (execDomainQualityTx now s) := by
  have h0 := @opQualityTx_keeps
  have h1 := @State.atTime_keeps
  have k := Keeps.refl s
  unfold execDomainQualityTx
  exact KeepsO.auto

theorem execDomainStatus_keeps (now : Nat) (src : Nat) (w : Nat) (dseq : Nat) (tag : Bool) (ql : Nat) (girth : Nat) (epoch : Nat) (s : State) : KeepsO s (execDomainStatus now src w dseq tag ql girth epoch s) := by
  have h0 := @opDomainStatus_keeps
  have h1 := @State.atTime_keeps
  have k := Keeps.refl s
  unfold execDomainStatus
  exact KeepsO.auto

theorem execDomainStatusTx_keeps (now : Nat) (s : State) : KeepsO s (execDomainStatusTx now s) := by
  have h0 := @opStatusTx_keeps
  have h1 := @State.atTime_keeps
  have k := Keeps.refl s
  unfold execDomainStatusTx
  exact KeepsO.auto

theorem execPolicyAck_keeps (now : Nat) (src : Nat) (w : Nat) (dseq : Nat) (tag : Bool) (_epoch : Nat) (code : Nat) (_failing : Nat) (s : State) : KeepsO s (execPolicyAck now src w dseq tag _epoch code _failing s) := by
  have h0 := @opPolicyAck_keeps
  have h1 := @State.atTime_keeps
  have k := Keeps.refl s
  unfold execPolicyAck
  exact KeepsO.auto

theorem execKeys_keeps (now : Nat) (src : Nat) (dseq : Nat) (tag : Bool) (l : List SnapKey) (s : State) : KeepsO s (execKeys now src dseq tag l s) := by
  have h0 := @opKeys_keeps
  have h1 := @State.atTime_keeps
  have k := Keeps.refl s
  unfold execKeys
  exact KeepsO.auto

theorem execKeysAck_keeps (now : Nat) (src : Nat) (w : Nat) (dseq : Nat) (tag : Bool) (_results : List Nat) (s : State) : KeepsO s (execKeysAck now src w dseq tag _results s) := by
  have h0 := @opKeysAck_keeps
  have h1 := @State.atTime_keeps
  have k := Keeps.refl s
  unfold execKeysAck
  exact KeepsO.auto

theorem execLeave_keeps (now : Nat) (src : Nat) (w : Nat) (dseq : Nat) (tag : Bool) (_cause : Nat) (s : State) : KeepsO s (execLeave now src w dseq tag _cause s) := by
  have h0 := @opLeave_keeps
  have h1 := @State.atTime_keeps
  have k := Keeps.refl s
  unfold execLeave
  exact KeepsO.auto

theorem execDomainManagerLost_keeps (now : Nat) (s : State) : KeepsO s (execDomainManagerLost now s) := by
  have h0 := @State.atTime_keeps
  have h1 := @opManagerLost_keeps
  have k := Keeps.refl s
  unfold execDomainManagerLost
  exact KeepsO.auto

theorem execDomainWorkerLost_keeps (now : Nat) (w : Nat) (s : State) : KeepsO s (execDomainWorkerLost now w s) := by
  have h0 := @opWorkerLost_keeps
  have h1 := @State.atTime_keeps
  have k := Keeps.refl s
  unfold execDomainWorkerLost
  exact KeepsO.auto

end Sys2Proof.Machine
end

