-- ==== Sys2Proof/Laws/KeepFaults.lean ====
section
/-!
SUPPORT. What the operations of Machine/Faults.lean leave.
-/
set_option Elab.async false
namespace Sys2Proof.Machine

theorem opHandlingDone_keeps (s : State) : Keeps s (opHandlingDone s) := by
  have h0 := @opYieldCheck_keeps
  have h1 := @State.endHandling_keeps
  have k := Keeps.refl s
  unfold opHandlingDone
  exact Keeps.auto

theorem opHandleTimeout_keeps (s : State) : Keeps s (opHandleTimeout s) := by
  have h0 := @State.raise_keeps
  have k := Keeps.refl s
  unfold opHandleTimeout
  exact Keeps.auto

theorem State.moveOne_keeps (s : State) : Keeps s (State.moveOne s) := by
  have k := Keeps.refl s
  unfold State.moveOne
  exact Keeps.auto

theorem opEvlogMove_keeps (n : Nat) (s : State) : Keeps s (opEvlogMove n s) := by
  have h0 := @State.moveOne_keeps
  have k := Keeps.refl s
  unfold opEvlogMove
  exact Keeps.auto

theorem opAckCode_keeps (code : Nat) (s : State) : Keeps s (opAckCode code s) := by
  have k := Keeps.refl s
  unfold opAckCode
  exact Keeps.auto

theorem opAckAll_keeps (s : State) : Keeps s (opAckAll s) := by
  have k := Keeps.refl s
  unfold opAckAll
  exact Keeps.auto

theorem opAckF3_keeps (s : State) : Keeps s (opAckF3 s) := by
  have k := Keeps.refl s
  unfold opAckF3
  exact Keeps.auto

theorem opF3Clear_keeps (s : State) : Keeps s (opF3Clear s) := by
  have h0 := @opAckF3_keeps
  have h1 := @State.sysReset_keeps
  have k := Keeps.refl s
  unfold opF3Clear
  exact Keeps.auto

theorem execFaultRaise_keeps (now : Nat) (code : Nat) (inst : Nat) (detail : Nat) (s : State) : KeepsO s (execFaultRaise now code inst detail s) := by
  have h0 := @State.raise_keeps
  have h1 := @State.atTime_keeps
  have k := Keeps.refl s
  unfold execFaultRaise
  exact KeepsO.auto

theorem execFaultConditionClear_keeps (now : Nat) (code : Nat) (inst : Nat) (s : State) : KeepsO s (execFaultConditionClear now code inst s) := by
  have h0 := @State.clearFault_keeps
  have h1 := @State.atTime_keeps
  have k := Keeps.refl s
  unfold execFaultConditionClear
  exact KeepsO.auto

theorem execFaultHandlingDone_keeps (now : Nat) (s : State) : KeepsO s (execFaultHandlingDone now s) := by
  have h0 := @opHandlingDone_keeps
  have h1 := @State.atTime_keeps
  have k := Keeps.refl s
  unfold execFaultHandlingDone
  exact KeepsO.auto

theorem execFaultHandleTimeout_keeps (now : Nat) (s : State) : KeepsO s (execFaultHandleTimeout now s) := by
  have h0 := @opHandleTimeout_keeps
  have h1 := @State.atTime_keeps
  have k := Keeps.refl s
  unfold execFaultHandleTimeout
  exact KeepsO.auto

theorem execEvlogMove_keeps (now : Nat) (n : Nat) (s : State) : KeepsO s (execEvlogMove now n s) := by
  have h0 := @opEvlogMove_keeps
  have h1 := @State.atTime_keeps
  have k := Keeps.refl s
  unfold execEvlogMove
  exact KeepsO.auto

end Sys2Proof.Machine
end

