-- ==== Sys2Proof/Laws/KeepNtp.lean ====
section
/-!
SUPPORT. What the operations of Machine/Ntp.lean leave.
-/
set_option Elab.async false
namespace Sys2Proof.Machine

theorem State.ntpGirthCount_keeps (s : State) (i : Nat) : Keeps s (State.ntpGirthCount s i) := by
  have k := Keeps.refl s
  unfold State.ntpGirthCount
  exact Keeps.auto

theorem State.ntpMs_keeps (s : State) : Keeps s (State.ntpMs s) := by
  have k := Keeps.refl s
  unfold State.ntpMs
  exact Keeps.auto

theorem State.ntpCharge_keeps (s : State) (r : NtpReq) : Keeps s (State.ntpCharge s r).1 := by
  have h0 := @State.ntpMs_keeps
  have k := Keeps.refl s
  unfold State.ntpCharge
  exact Keeps.auto

theorem State.setBucket_keeps (s : State) (b : Bucket) : Keeps s (State.setBucket s b) := by
  have k := Keeps.refl s
  unfold State.setBucket
  exact Keeps.auto

theorem State.takeToken_keeps (s : State) (r : NtpReq) : Keeps s (State.takeToken s r).1 := by
  have h := @State.setBucket_keeps
  unfold State.takeToken
  extract_lets b
  split
  · exact h s _
  · exact h s _

theorem State.takeKiss_keeps (s : State) : Keeps s (State.takeKiss s).1 := by
  have k := Keeps.refl s
  unfold State.takeKiss
  exact Keeps.auto

theorem opBucketSweep_keeps (s : State) : Keeps s (opBucketSweep s) := by
  have k := Keeps.refl s
  unfold opBucketSweep
  exact Keeps.auto

theorem opHashRekey_keeps (s : State) : Keeps s (opHashRekey s) := by
  have k := Keeps.refl s
  unfold opHashRekey
  exact Keeps.auto

theorem State.ntpReference_keeps (s : State) : Keeps s (State.ntpReference s).1 := by
  have h0 := @State.draw_keeps
  have k := Keeps.refl s
  unfold State.ntpReference
  exact Keeps.auto

theorem State.countGirth_keeps (s : State) (r : NtpReq) : Keeps s (State.countGirth s r) := by
  have h0 := @State.ntpGirthCount_keeps
  have h1 := @State.ntpCount_keeps
  have k := Keeps.refl s
  unfold State.countGirth
  exact Keeps.auto

theorem State.ntpResponse_keeps (s : State) (r : NtpReq) (rx : Nat) (status : Nat) (cookies : Nat) (keyId : Nat) : Keeps s (State.ntpResponse s r rx status cookies keyId).1 := by
  have h0 := @State.ntpReference_keeps
  have h1 := @State.ntpStamp_keeps
  have k := Keeps.refl s
  unfold State.ntpResponse
  exact Keeps.auto

theorem State.sendKiss_keeps (s : State) (r : NtpReq) (m : NtpSent) : Keeps s (State.sendKiss s r m) := by
  have h0 := @State.sendOwn_keeps
  have k := Keeps.refl s
  unfold State.sendKiss
  exact Keeps.auto

theorem State.queueTime_keeps (s : State) (r : NtpReq) (rx : Nat) (status : Nat) (w : NtpPending) : Keeps s (State.queueTime s r rx status w) := by
  have h0 := @State.sendOwnFrom_keeps
  have k := Keeps.refl s
  unfold State.queueTime
  exact Keeps.auto

theorem State.ntsKiss_keeps (s : State) (r : NtpReq) : Keeps s (State.ntsKiss s r) := by
  have h0 := @State.takeKiss_keeps
  have h1 := @State.ntpCount_keeps
  have h2 := @State.sendKiss_keeps
  have k := Keeps.refl s
  unfold State.ntsKiss
  exact Keeps.auto

theorem State.ntsAnswer_keeps (s : State) (r : NtpReq) (rx : Nat) (status : Nat) (f : NtsFields) : Keeps s (State.ntsAnswer s r rx status f) := by
  have h0 := @State.countGirth_keeps
  have h1 := @State.ntpResponse_keeps
  have h2 := @State.ntsKiss_keeps
  have h3 := @State.queueTime_keeps
  have k := Keeps.refl s
  unfold State.ntsAnswer
  exact Keeps.auto

theorem State.ntpServe_keeps (s : State) (r : NtpReq) (rx : Nat) (status : Nat) : Keeps s (State.ntpServe s r rx status) := by
  have h0 := @State.countGirth_keeps
  have h1 := @State.ntpCount_keeps
  have h2 := @State.ntpResponse_keeps
  have h3 := @State.ntsAnswer_keeps
  have h4 := @State.queueTime_keeps
  have k := Keeps.refl s
  unfold State.ntpServe
  exact Keeps.auto

theorem State.rateRefused_keeps (s : State) (r : NtpReq) : Keeps s (State.rateRefused s r) := by
  have h0 := @State.takeKiss_keeps
  have h1 := @State.sendKiss_keeps
  have h2 := @State.ntpCount_keeps
  have h3 := @State.setBucket_keeps
  have k := Keeps.refl s
  unfold State.rateRefused
  exact Keeps.auto

theorem State.ntpFate_keeps (s : State) (r : NtpReq) (rx : Nat) (status : Nat) : Keeps s (State.ntpFate s r rx status) := by
  have h0 := @State.ntpCharge_keeps
  have h1 := @State.ntpCount_keeps
  have h2 := @State.ntpGirthCount_keeps
  have h3 := @State.ntpServe_keeps
  have h4 := @State.rateRefused_keeps
  have h5 := @State.takeToken_keeps
  have k := Keeps.refl s
  unfold State.ntpFate
  exact Keeps.auto

theorem opNtpRequest_keeps (r : NtpReq) (s : State) : Keeps s (opNtpRequest r s) := by
  have h0 := @State.ntpFate_keeps
  have h1 := @State.takeTerm_keeps
  have k := Keeps.refl s
  unfold opNtpRequest
  exact Keeps.auto

theorem opNtsException_keeps (s : State) : Keeps s (opNtsException s) := by
  have h0 := @State.ntpCount_keeps
  have h1 := @State.ntsKiss_keeps
  have h2 := @State.ntsAnswer_keeps
  have k := Keeps.refl s
  unfold opNtsException
  exact Keeps.auto

theorem State.setLaunch_keeps (s : State) (p : Nat) (c : Copy) (w : NtpPending) : Keeps s (State.setLaunch s p c w) := by
  have h0 := @State.onQueue_keeps
  have k := Keeps.refl s
  unfold State.setLaunch
  exact Keeps.auto

theorem State.ntsFix_keeps (s : State) (p : Nat) (lane : Nat) (tw : Nat) (mark : Nat) (delivered : Bool) (c : Copy) (w : NtpPending) : Keeps s (State.ntsFix s p lane tw mark delivered c w) := by
  have h0 := @State.onYPort_keeps
  have h1 := @State.setLaunch_keeps
  have k := Keeps.refl s
  unfold State.ntsFix
  exact Keeps.auto

theorem opNtsLaunch_keeps (p : Nat) (lane : Nat) (tw : Nat) (mark : Nat) (delivered : Bool) (s : State) : Keeps s (opNtsLaunch p lane tw mark delivered s) := by
  have h0 := @State.dropHeads_keeps
  have h1 := @State.ntsFix_keeps
  have k := Keeps.refl s
  unfold opNtsLaunch
  exact Keeps.auto

theorem opNtsRelaunch_keeps (p : Nat) (lane : Nat) (tw : Nat) (mark : Nat) (delivered : Bool) (s : State) : Keeps s (opNtsRelaunch p lane tw mark delivered s) := by
  have h0 := @State.ntpCount_keeps
  have h1 := @State.ntsFix_keeps
  have h2 := @State.onYPort_keeps
  have h3 := @State.takeCopy_keeps
  have k := Keeps.refl s
  unfold opNtsRelaunch
  exact Keeps.auto

theorem opNtsKeySwitch_keeps (s : State) : Keeps s (opNtsKeySwitch s) := by
  have k := Keeps.refl s
  unfold opNtsKeySwitch
  exact Keeps.auto

theorem opMintProducer_keeps (v : Nat) (s : State) : Keeps s (opMintProducer v s) := by
  have k := Keeps.refl s
  unfold opMintProducer
  exact Keeps.auto

theorem opMintEntry_keeps (mflags : Nat) (count : Nat) (aead : Nat) (unwrapOk : Bool) (s : State) : Keeps s (opMintEntry mflags count aead unwrapOk s) := by
  have h0 := @State.ntpMs_keeps
  have h1 := @State.ntpGirthCount_keeps
  have k := Keeps.refl s
  unfold opMintEntry
  exact Keeps.auto

theorem execNtpRequest_keeps (now : Nat) (r : NtpReq) (s : State) : KeepsO s (execNtpRequest now r s) := by
  have h0 := @State.atTime_keeps
  have h1 := @opNtpRequest_keeps
  have k := Keeps.refl s
  unfold execNtpRequest
  exact KeepsO.auto

theorem execNtsLaunch_keeps (now : Nat) (p : Nat) (lane : Nat) (tw : Nat) (mark : Nat) (delivered : Bool) (s : State) : KeepsO s (execNtsLaunch now p lane tw mark delivered s) := by
  have h0 := @State.atTime_keeps
  have h1 := @opNtsLaunch_keeps
  have k := Keeps.refl s
  unfold execNtsLaunch
  exact KeepsO.auto

theorem execNtsRelaunch_keeps (now : Nat) (p : Nat) (lane : Nat) (tw : Nat) (mark : Nat) (delivered : Bool) (s : State) : KeepsO s (execNtsRelaunch now p lane tw mark delivered s) := by
  have h0 := @State.atTime_keeps
  have h1 := @opNtsRelaunch_keeps
  have k := Keeps.refl s
  unfold execNtsRelaunch
  exact KeepsO.auto

theorem execNtsExceptionRequest_keeps (now : Nat) (s : State) : KeepsO s (execNtsExceptionRequest now s) := by
  have h0 := @opNtsException_keeps
  have h1 := @State.atTime_keeps
  have k := Keeps.refl s
  unfold execNtsExceptionRequest
  exact KeepsO.auto

theorem execBucketSweep_keeps (now : Nat) (s : State) : KeepsO s (execBucketSweep now s) := by
  have h0 := @opBucketSweep_keeps
  have h1 := @State.atTime_keeps
  have k := Keeps.refl s
  unfold execBucketSweep
  exact KeepsO.auto

theorem execNtsKeySwitch_keeps (now : Nat) (s : State) : KeepsO s (execNtsKeySwitch now s) := by
  have h0 := @opNtsKeySwitch_keeps
  have h1 := @State.atTime_keeps
  have k := Keeps.refl s
  unfold execNtsKeySwitch
  exact KeepsO.auto

theorem execNtsMintEntry_keeps (now : Nat) (mflags : Nat) (count : Nat) (aead : Nat) (unwrapOk : Bool) (s : State) : KeepsO s (execNtsMintEntry now mflags count aead unwrapOk s) := by
  have h0 := @opMintEntry_keeps
  have h1 := @State.atTime_keeps
  have k := Keeps.refl s
  unfold execNtsMintEntry
  exact KeepsO.auto

end Sys2Proof.Machine
end

