-- ==== Sys2Proof/Laws/KeepCounters.lean ====
section
/-!
SUPPORT. What the operations of Machine/Counters.lean leave.
-/
set_option Elab.async false
namespace Sys2Proof.Machine

theorem State.dumpWrite_keeps (s : State) (r : List Byte) : Keeps s (State.dumpWrite s r) := by
  have k := Keeps.refl s
  unfold State.dumpWrite
  exact Keeps.auto

theorem State.dumpPut_keeps (s : State) (r : Nat → List Byte) : Keeps s (State.dumpPut s r) := by
  have h0 := @State.dumpWrite_keeps
  have k := Keeps.refl s
  unfold State.dumpPut
  exact Keeps.auto

theorem State.dumpDrain_keeps (s : State) (e : Nat) : Keeps s (State.dumpDrain s e) := by
  have h0 := @State.dumpPut_keeps
  have k := Keeps.refl s
  unfold State.dumpDrain
  exact Keeps.auto

theorem opPcDump_keeps (s : State) : Keeps s (opPcDump s) := by
  have h0 := @State.dumpDrain_keeps
  have h1 := @State.dumpPut_keeps
  have h2 := @State.takeLate_keeps
  have k := Keeps.refl s
  unfold opPcDump
  exact Keeps.auto

theorem opPcRead_keeps (e : Nat) (s : State) : Keeps s (opPcRead e s) := by
  have h0 := @State.draw_keeps
  have k := Keeps.refl s
  unfold opPcRead
  exact Keeps.auto

theorem opInstructionSample_keeps (e : Nat) (pc : Nat) (word : Nat) (latency : Nat) (stall : Nat) (trapped : Bool) (s : State) : Keeps s (opInstructionSample e pc word latency stall trapped s) := by
  have k := Keeps.refl s
  unfold opInstructionSample
  exact Keeps.auto

theorem State.setCounters_keeps (s : State) (e : Nat) : Keeps s (State.setCounters s e) := by
  have k := Keeps.refl s
  unfold State.setCounters
  exact Keeps.auto

theorem State.anchorCounters_keeps (s : State) : Keeps s (State.anchorCounters s) := by
  have h0 := @State.setCounters_keeps
  have k := Keeps.refl s
  unfold State.anchorCounters
  exact Keeps.auto

theorem State.clearSamples_keeps (s : State) : Keeps s (State.clearSamples s) := by
  have h0 := @State.put_keeps
  have h1 := @State.takeLate_keeps
  have k := Keeps.refl s
  unfold State.clearSamples
  exact Keeps.auto

theorem execPcDump_keeps (now : Nat) (s : State) : KeepsO s (execPcDump now s) := by
  have h0 := @opPcDump_keeps
  have h1 := @State.atTime_keeps
  have k := Keeps.refl s
  unfold execPcDump
  exact KeepsO.auto

theorem execInstructionSample_keeps (now : Nat) (e : Nat) (pc : Nat) (word : Nat) (latency : Nat) (stall : Nat) (trapped : Bool) (s : State) : KeepsO s (execInstructionSample now e pc word latency stall trapped s) := by
  have h0 := @opInstructionSample_keeps
  have h1 := @State.atTime_keeps
  have k := Keeps.refl s
  unfold execInstructionSample
  exact KeepsO.auto

end Sys2Proof.Machine
end

