-- ==== Sys2Proof/Laws/KeepGnss.lean ====
section
/-!
SUPPORT. What the operations of Machine/Gnss.lean leave.
-/
set_option Elab.async false
namespace Sys2Proof.Machine

theorem State.setTrack_keeps (s : State) (ch : Nat) (t : Option Track) : Keeps s (State.setTrack s ch t) := by
  have k := Keeps.refl s
  unfold State.setTrack
  exact Keeps.auto

theorem State.retarget_keeps (s : State) : Keeps s (State.retarget s) := by
  have k := Keeps.refl s
  unfold State.retarget
  exact Keeps.auto

theorem State.requeue_keeps (s : State) (c : Nat) (v : Nat) (last : Option Fix) : Keeps s (State.requeue s c v last) := by
  have k := Keeps.refl s
  unfold State.requeue
  exact Keeps.auto

theorem State.ageTargets_keeps (s : State) : Keeps s (State.ageTargets s) := by
  have k := Keeps.refl s
  unfold State.ageTargets
  exact Keeps.auto

theorem State.handOver_keeps (s : State) (e : Nat) (x : Search) (tgt : Nat × Nat) : Keeps s (State.handOver s e x tgt) := by
  have h0 := @State.setTrack_keeps
  have k := Keeps.refl s
  unfold State.handOver
  exact Keeps.auto

theorem State.serveWaiting_keeps (s : State) : Keeps s (State.serveWaiting s) := by
  have h0 := @State.handOver_keeps
  have k := Keeps.refl s
  unfold State.serveWaiting
  exact Keeps.auto

theorem State.idleTrack_keeps (s : State) (ch : Nat) (front : Bool) : Keeps s (State.idleTrack s ch front) := by
  have h0 := @State.setTrack_keeps
  have h1 := @State.serveWaiting_keeps
  have h2 := @State.requeue_keeps
  have k := Keeps.refl s
  unfold State.idleTrack
  exact Keeps.auto

theorem State.gnStop_keeps (s : State) : Keeps s (State.gnStop s) := by
  have k := Keeps.refl s
  unfold State.gnStop
  exact Keeps.auto

theorem State.gnStart_keeps (s : State) (front : Bool) : Keeps s (State.gnStart s front) := by
  have h0 := @opTiuReconfig_keeps
  have h1 := @State.retarget_keeps
  have k := Keeps.refl s
  unfold State.gnStart
  exact Keeps.auto

theorem opGnEnable_keeps (s : State) : Keeps s (opGnEnable s) := by
  have h0 := @State.gnStart_keeps
  have h1 := @State.gnStop_keeps
  have h2 := @opLossOfSignal_keeps
  have k := Keeps.refl s
  unfold opGnEnable
  exact Keeps.auto

theorem opGifAlign_keeps (k : Nat) (s : State) : Keeps s (opGifAlign k s) := by
  have h0 := @State.onGif_keeps
  have k := Keeps.refl s
  unfold opGifAlign
  exact Keeps.auto

theorem opGifLost_keeps (k : Nat) (s : State) : Keeps s (opGifLost k s) := by
  have h0 := @State.onGif_keeps
  have h1 := @State.raise_keeps
  have k := Keeps.refl s
  unfold opGifLost
  exact Keeps.auto

theorem opGifConfig_keeps (k : Nat) (s : State) : Keeps s (opGifConfig k s) := by
  have h0 := @State.idleTrack_keeps
  have h1 := @State.onGif_keeps
  have k := Keeps.refl s
  unfold opGifConfig
  exact Keeps.auto

theorem State.retune_keeps (s : State) : Keeps s (State.retune s) := by
  have h0 := @State.idleTrack_keeps
  have h1 := @State.retarget_keeps
  have k := Keeps.refl s
  unfold State.retune
  exact Keeps.auto

theorem State.takeGnss_keeps (s : State) : Keeps s (State.takeGnss s) := by
  have h0 := @State.retune_keeps
  have h1 := @State.takeLate_keeps
  have h2 := @opGifConfig_keeps
  have k := Keeps.refl s
  unfold State.takeGnss
  exact Keeps.auto

theorem opNotch_keeps (k : Nat) (lines : List (Int × Nat)) (words : List Nat) (s : State) : Keeps s (opNotch k lines words s) := by
  have h0 := @State.onGif_keeps
  have k := Keeps.refl s
  unfold opNotch
  exact Keeps.auto

theorem State.gnQl_keeps (s : State) : Keeps s (State.gnQl s) := by
  have h0 := @State.onRef_keeps
  have k := Keeps.refl s
  unfold State.gnQl
  exact Keeps.auto

theorem opJam_keeps (k : Nat) (power : Int) (flat : Nat) (s : State) : Keeps s (opJam k power flat s) := by
  have h0 := @State.onGif_keeps
  have h1 := @State.gnQl_keeps
  have k := Keeps.refl s
  unfold opJam
  exact Keeps.auto

theorem State.setSearch_keeps (s : State) (e : Nat) (x : Search) : Keeps s (State.setSearch s e x) := by
  have k := Keeps.refl s
  unfold State.setSearch
  exact Keeps.auto

theorem State.nextCell_keeps (s : State) (e : Nat) (x : Search) (t : Nat × Nat) : Keeps s (State.nextCell s e x t) := by
  have h0 := @State.setSearch_keeps
  have h1 := @State.requeue_keeps
  have k := Keeps.refl s
  unfold State.nextCell
  exact Keeps.auto

theorem State.statistic_keeps (s : State) (e : Nat) (stat : Nat) : Keeps s (State.statistic s e stat) := by
  have h0 := @State.ageTargets_keeps
  have h1 := @State.handOver_keeps
  have h2 := @State.nextCell_keeps
  have h3 := @State.setSearch_keeps
  have k := Keeps.refl s
  unfold State.statistic
  exact Keeps.auto

theorem State.pauseEngine_keeps (s : State) (e : Nat) : Keeps s (State.pauseEngine s e) := by
  have h0 := @State.nextCell_keeps
  have h1 := @State.setSearch_keeps
  have k := Keeps.refl s
  unfold State.pauseEngine
  exact Keeps.auto

theorem opAcq_keeps (e : Nat) (stat : Nat) (s : State) : Keeps s (opAcq e stat s) := by
  have h0 := @State.pauseEngine_keeps
  have h1 := @State.statistic_keeps
  have k := Keeps.refl s
  unfold opAcq
  exact Keeps.auto

theorem opPullIn_keeps (ch : Nat) (s : State) : Keeps s (opPullIn ch s) := by
  have h0 := @State.idleTrack_keeps
  have k := Keeps.refl s
  unfold opPullIn
  exact Keeps.auto

theorem opTrackLost_keeps (ch : Nat) (s : State) : Keeps s (opTrackLost ch s) := by
  have h0 := @State.raise_keeps
  have h1 := @State.idleTrack_keeps
  have k := Keeps.refl s
  unfold opTrackLost
  exact Keeps.auto

theorem State.observe_keeps (s : State) (o : TrkObs) : Keeps s (State.observe s o) := by
  have h0 := @State.setTrack_keeps
  have k := Keeps.refl s
  unfold State.observe
  exact Keeps.auto

theorem State.dropWeak_keeps (s : State) : Keeps s (State.dropWeak s) := by
  have h0 := @opTrackLost_keeps
  have k := Keeps.refl s
  unfold State.dropWeak
  exact Keeps.auto

theorem State.swapTracks_keeps (s : State) (a : Nat) (b : Nat) : Keeps s (State.swapTracks s a b) := by
  have h0 := @State.setTrack_keeps
  have k := Keeps.refl s
  unfold State.swapTracks
  exact Keeps.auto

theorem State.assignNav_keeps (s : State) : Keeps s (State.assignNav s) := by
  have h0 := @State.swapTracks_keeps
  have k := Keeps.refl s
  unfold State.assignNav
  exact Keeps.auto

theorem State.takeSpacing_keeps (s : State) : Keeps s (State.takeSpacing s) := by
  have k := Keeps.refl s
  unfold State.takeSpacing
  exact Keeps.auto

theorem State.epochBoundary_keeps (s : State) (obs : List TrkObs) : Keeps s (State.epochBoundary s obs) := by
  have h0 := @State.observe_keeps
  have h1 := @State.takeGnss_keeps
  have h2 := @State.takeSpacing_keeps
  have k := Keeps.refl s
  unfold State.epochBoundary
  exact Keeps.auto

theorem State.afterEpoch_keeps (s : State) : Keeps s (State.afterEpoch s) := by
  have h0 := @State.assignNav_keeps
  have h1 := @State.dropWeak_keeps
  have h2 := @State.retarget_keeps
  have h3 := @State.serveWaiting_keeps
  have k := Keeps.refl s
  unfold State.afterEpoch
  exact Keeps.auto

theorem State.countEpoch_keeps (s : State) (ok : Bool) : Keeps s (State.countEpoch s ok) := by
  have h0 := @State.onRef_keeps
  have h1 := @opLossOfSignal_keeps
  have k := Keeps.refl s
  unfold State.countEpoch
  exact Keeps.auto

theorem opEpoch_keeps (now : Nat) (bin : Nat) (obs : List TrkObs) (s : State) : Keeps s (opEpoch now bin obs s) := by
  have h0 := @State.afterEpoch_keeps
  have h1 := @State.countEpoch_keeps
  have h2 := @State.epochBoundary_keeps
  have h3 := @State.tap_keeps
  have h4 := @State.tiuEdge_keeps
  have k := Keeps.refl s
  unfold opEpoch
  exact Keeps.auto

theorem State.onSv_keeps (s : State) (sig : Nat) (v : Nat) (f : SvData → SvData) : Keeps s (State.onSv s sig v f) := by
  have k := Keeps.refl s
  unfold State.onSv
  exact Keeps.auto

theorem State.osnmaBad_keeps (s : State) (sig : Nat) (v : Nat) : Keeps s (State.osnmaBad s sig v) := by
  have h0 := @State.onSv_keeps
  have h1 := @State.raise_keeps
  have k := Keeps.refl s
  unfold State.osnmaBad
  exact Keeps.auto

theorem State.osnmaStep_keeps (s : State) (sig : Nat) (v : Nat) (o : Osnma) : Keeps s (State.osnmaStep s sig v o) := by
  have h0 := @State.osnmaBad_keeps
  have h1 := @State.onSv_keeps
  have h2 := @State.put_keeps
  have h3 := @State.auditEvent_keeps
  have k := Keeps.refl s
  unfold State.osnmaStep
  exact Keeps.auto

theorem State.gnLeap_keeps (s : State) (sig : Nat) (l : Int × Nat × Nat) : Keeps s (State.gnLeap s sig l) := by
  have h0 := @State.learnUtc_keeps
  have k := Keeps.refl s
  unfold State.gnLeap
  exact Keeps.auto

theorem opNav_keeps (ch : Nat) (u : NavUnit) (s : State) : Keeps s (opNav ch u s) := by
  have h0 := @State.gnLeap_keeps
  have h1 := @State.leap_keeps
  have h2 := @State.onSv_keeps
  have h3 := @State.osnmaStep_keeps
  have h4 := @State.tap_keeps
  have k := Keeps.refl s
  unfold opNav
  exact Keeps.auto

theorem State.osnmaLost_keeps (s : State) : Keeps s (State.osnmaLost s) := by
  have k := Keeps.refl s
  unfold State.osnmaLost
  exact Keeps.auto

theorem State.surveyEpoch_keeps (s : State) (p : Option (Int × Int × Int)) : Keeps s (State.surveyEpoch s p) := by
  have k := Keeps.refl s
  unfold State.surveyEpoch
  exact Keeps.auto

theorem State.isbCheck_keeps (s : State) (isb : List (Option Int)) : Keeps s (State.isbCheck s isb) := by
  have h0 := @State.raise_keeps
  have k := Keeps.refl s
  unfold State.isbCheck
  exact Keeps.auto

theorem State.takeSol_keeps (s : State) (code : Nat) (x : GnResult) : Keeps s (State.takeSol s code x) := by
  have h0 := @State.gnQl_keeps
  have h1 := @State.isbCheck_keeps
  have k := Keeps.refl s
  unfold State.takeSol
  exact Keeps.auto

theorem opMeasRecord_keeps (sol : Option GnSol) (s : State) : Keeps s (opMeasRecord sol s) := by
  have h0 := @State.countEpoch_keeps
  have h1 := @State.gnQl_keeps
  have h2 := @State.recalc_keeps
  have h3 := @State.surveyEpoch_keeps
  have h4 := @State.takeSol_keeps
  have h5 := @opMeasure_keeps
  have k := Keeps.refl s
  unfold opMeasRecord
  exact Keeps.auto

theorem opSurveyDone_keeps (s : State) : Keeps s (opSurveyDone s) := by
  have k := Keeps.refl s
  unfold opSurveyDone
  exact Keeps.auto

theorem opSurveyRestart_keeps (s : State) : Keeps s (opSurveyRestart s) := by
  have k := Keeps.refl s
  unfold opSurveyRestart
  exact Keeps.auto

theorem opPosCheck_keeps (s : State) : Keeps s (opPosCheck s) := by
  have k := Keeps.refl s
  unfold opPosCheck
  exact Keeps.auto

theorem opGnssClockLoss_keeps (s : State) : Keeps s (opGnssClockLoss s) := by
  have h0 := @State.gnStop_keeps
  have h1 := @State.setGroup_keeps
  have h2 := @State.raise_keeps
  have h3 := @opLossOfSignal_keeps
  have k := Keeps.refl s
  unfold opGnssClockLoss
  exact Keeps.auto

theorem opGnssClockReturn_keeps (s : State) : Keeps s (opGnssClockReturn s) := by
  have h0 := @State.setGroup_keeps
  have h1 := @State.clearFault_keeps
  have h2 := @State.gnStart_keeps
  have k := Keeps.refl s
  unfold opGnssClockReturn
  exact Keeps.auto

theorem execGifAlign_keeps (k : Nat) (s : State) : KeepsO s (execGifAlign k s) := by
  have h0 := @opGifAlign_keeps
  have k := Keeps.refl s
  unfold execGifAlign
  exact KeepsO.auto

theorem execGifLost_keeps (k : Nat) (s : State) : KeepsO s (execGifLost k s) := by
  have h0 := @opGifLost_keeps
  have k := Keeps.refl s
  unfold execGifLost
  exact KeepsO.auto

theorem execNotchUpdate_keeps (k : Nat) (lines : List (Int × Nat)) (words : List Nat) (s : State) : KeepsO s (execNotchUpdate k lines words s) := by
  have h0 := @opNotch_keeps
  have k := Keeps.refl s
  unfold execNotchUpdate
  exact KeepsO.auto

theorem execJamIndUpdate_keeps (k : Nat) (power : Int) (flat : Nat) (s : State) : KeepsO s (execJamIndUpdate k power flat s) := by
  have h0 := @opJam_keeps
  have k := Keeps.refl s
  unfold execJamIndUpdate
  exact KeepsO.auto

theorem execAcqStatistic_keeps (now : Nat) (e : Nat) (stat : Nat) (s : State) : KeepsO s (execAcqStatistic now e stat s) := by
  have h0 := @opAcq_keeps
  have h1 := @State.atTime_keeps
  have k := Keeps.refl s
  unfold execAcqStatistic
  exact KeepsO.auto

theorem execPullInTimeout_keeps (ch : Nat) (s : State) : KeepsO s (execPullInTimeout ch s) := by
  have h0 := @opPullIn_keeps
  have k := Keeps.refl s
  unfold execPullInTimeout
  exact KeepsO.auto

theorem execTrackChannelLost_keeps (now : Nat) (ch : Nat) (s : State) : KeepsO s (execTrackChannelLost now ch s) := by
  have h0 := @opTrackLost_keeps
  have h1 := @State.atTime_keeps
  have k := Keeps.refl s
  unfold execTrackChannelLost
  exact KeepsO.auto

theorem execGnssEpoch_keeps (now : Nat) (bin : Nat) (obs : List TrkObs) (s : State) : KeepsO s (execGnssEpoch now bin obs s) := by
  have h0 := @opEpoch_keeps
  have h1 := @State.atTime_keeps
  have k := Keeps.refl s
  unfold execGnssEpoch
  exact KeepsO.auto

theorem execGnssMeasRecord_keeps (now : Nat) (sol : Option GnSol) (s : State) : KeepsO s (execGnssMeasRecord now sol s) := by
  have h0 := @opMeasRecord_keeps
  have h1 := @State.atTime_keeps
  have k := Keeps.refl s
  unfold execGnssMeasRecord
  exact KeepsO.auto

theorem execNavBitRecord_keeps (now : Nat) (ch : Nat) (u : NavUnit) (s : State) : KeepsO s (execNavBitRecord now ch u s) := by
  have h0 := @opNav_keeps
  have h1 := @State.atTime_keeps
  have k := Keeps.refl s
  unfold execNavBitRecord
  exact KeepsO.auto

theorem execSurveyComplete_keeps (s : State) : KeepsO s (execSurveyComplete s) := by
  have h0 := @opSurveyDone_keeps
  have k := Keeps.refl s
  unfold execSurveyComplete
  exact KeepsO.auto

theorem execGnPosCheck_keeps (s : State) : KeepsO s (execGnPosCheck s) := by
  have h0 := @opPosCheck_keeps
  have k := Keeps.refl s
  unfold execGnPosCheck
  exact KeepsO.auto

theorem execGnssClockLoss_keeps (now : Nat) (s : State) : KeepsO s (execGnssClockLoss now s) := by
  have h0 := @opGnssClockLoss_keeps
  have h1 := @State.atTime_keeps
  have k := Keeps.refl s
  unfold execGnssClockLoss
  exact KeepsO.auto

theorem execGnssClockReturn_keeps (now : Nat) (s : State) : KeepsO s (execGnssClockReturn now s) := by
  have h0 := @opGnssClockReturn_keeps
  have h1 := @State.atTime_keeps
  have k := Keeps.refl s
  unfold execGnssClockReturn
  exact KeepsO.auto

end Sys2Proof.Machine
end

