-- ==== Sys2Proof/Laws/KeepEngineEvents.lean ====
section
/-!
SUPPORT. What the operations of Machine/EngineEvents.lean leave.
-/
set_option Elab.async false
namespace Sys2Proof.Machine

theorem State.engineLost_keeps (s : State) (e : Nat) (cause : Nat) : Keeps s (State.engineLost s e cause) := by
  have h0 := @State.accrue_keeps
  have h1 := @State.holdU_keeps
  have h2 := @State.osnmaLost_keeps
  have h3 := @State.raise_keeps
  have k := Keeps.refl s
  unfold State.engineLost
  exact Keeps.auto

theorem opEngineTrap_keeps (e : Nat) (cause : Nat) (recovers : Bool) (s : State) : Keeps s (opEngineTrap e cause recovers s) := by
  have h0 := @State.trap_keeps
  have h1 := @State.engineLost_keeps
  have k := Keeps.refl s
  unfold opEngineTrap
  exact Keeps.auto

theorem opEngineWatchdog_keeps (e : Nat) (recovers : Bool) (s : State) : Keeps s (opEngineWatchdog e recovers s) := by
  have h0 := @opEngineTrap_keeps
  have k := Keeps.refl s
  unfold opEngineWatchdog
  exact Keeps.auto

theorem opEngineRestore_keeps (e : Nat) (s : State) : Keeps s (opEngineRestore e s) := by
  have h0 := @State.endHandling_keeps
  have k := Keeps.refl s
  unfold opEngineRestore
  exact Keeps.auto

theorem opTackLoad_keeps (j : Nat) (addr : Nat) (s : State) : Keeps s (opTackLoad j addr s) := by
  have h0 := @State.onTack_keeps
  have k := Keeps.refl s
  unfold opTackLoad
  exact Keeps.auto

theorem engOk_tackImage (s : State) (addr : Nat) (g : Eng) (h : Safety.EngOk g) : Safety.EngOk (s.tackImage addr g) :=
  ⟨h.regs, h.fregs, rfl, memWf_write memWf_nil _ _, memWf_write memWf_nil _ _, h.windows⟩

theorem opTackLoadDone_keeps (j : Nat) (hashOk sigOk : Bool) (s : State) : Keeps s (opTackLoadDone j hashOk sigOk s) := by
  have h1 := @State.onTack_keeps
  have h2 := @State.raise_keeps
  have k := Keeps.refl s
  unfold opTackLoadDone
  lift_lets
  intro t v
  split
  · exact Keeps.refl s
  · split
    · exact (State.onEng_keeps s (24 + j) _ (engOk_tackImage s t.image)).trans (h1 _ _ _)
    · exact Keeps.auto

theorem opTackStop_keeps (j : Nat) (s : State) : Keeps s (opTackStop j s) := by
  have h0 := @State.onTack_keeps
  have k := Keeps.refl s
  unfold opTackStop
  exact Keeps.auto

theorem State.tackLeave_keeps (s : State) (j : Nat) (state : Nat) : Keeps s (State.tackLeave s j state) := by
  have h0 := @State.onTack_keeps
  have k := Keeps.refl s
  unfold State.tackLeave
  exact Keeps.auto

theorem State.wipePaddock_keeps (s : State) : Keeps s (State.wipePaddock s) := by
  have k := Keeps.refl s
  unfold State.wipePaddock
  exact Keeps.auto

theorem opPaddockEnable_keeps (v : Nat) (s : State) : Keeps s (opPaddockEnable v s) := by
  have h0 := @State.put_keeps
  have h1 := @State.tackLeave_keeps
  have h2 := @State.wipePaddock_keeps
  have k := Keeps.refl s
  unfold opPaddockEnable
  exact Keeps.auto

theorem opTackEngines_keeps (v : Nat) (s : State) : Keeps s (opTackEngines v s) := by
  have h0 := @State.put_keeps
  have h1 := @State.tackLeave_keeps
  have h2 := @State.onTack_keeps
  have k := Keeps.refl s
  unfold opTackEngines
  exact Keeps.auto

theorem State.tackHold_keeps (s : State) : Keeps s (State.tackHold s) := by
  have h0 := @State.onTack_keeps
  have k := Keeps.refl s
  unfold State.tackHold
  exact Keeps.auto

theorem State.tackRelease_keeps (s : State) : Keeps s (State.tackRelease s) := by
  have k := Keeps.refl s
  unfold State.tackRelease
  exact Keeps.auto

theorem State.anchorEvents_keeps (s : State) : Keeps s (State.anchorEvents s) := by
  have h0 := @State.pmcEvents_keeps
  have k := Keeps.refl s
  unfold State.anchorEvents
  exact Keeps.auto

theorem State.doorbellRead_keeps (s : State) : Keeps s (State.doorbellRead s).2 := by
  have k := Keeps.refl s
  unfold State.doorbellRead
  exact Keeps.auto

theorem execEngineTrap_keeps (now : Nat) (e : Nat) (cause : Nat) (recovers : Bool) (s : State) : KeepsO s (execEngineTrap now e cause recovers s) := by
  have h0 := @opEngineTrap_keeps
  have h1 := @State.atTime_keeps
  have k := Keeps.refl s
  unfold execEngineTrap
  exact KeepsO.auto

theorem execEngineWatchdogExpire_keeps (now : Nat) (e : Nat) (recovers : Bool) (s : State) : KeepsO s (execEngineWatchdogExpire now e recovers s) := by
  have h0 := @opEngineWatchdog_keeps
  have h1 := @State.atTime_keeps
  have k := Keeps.refl s
  unfold execEngineWatchdogExpire
  exact KeepsO.auto

theorem execEngineRestore_keeps (now : Nat) (e : Nat) (s : State) : KeepsO s (execEngineRestore now e s) := by
  have h0 := @opEngineRestore_keeps
  have h1 := @State.atTime_keeps
  have k := Keeps.refl s
  unfold execEngineRestore
  exact KeepsO.auto

theorem execTackLoadDone_keeps (now : Nat) (j : Nat) (hashOk : Bool) (sigOk : Bool) (s : State) : KeepsO s (execTackLoadDone now j hashOk sigOk s) := by
  have h0 := @opTackLoadDone_keeps
  have h1 := @State.atTime_keeps
  have k := Keeps.refl s
  unfold execTackLoadDone
  exact KeepsO.auto

end Sys2Proof.Machine
end

