-- ==== Sys2Proof/Laws/KeepReadout.lean ====
section
/-!
SUPPORT. What the operations of Machine/Readout.lean leave.
-/
set_option Elab.async false
namespace Sys2Proof.Machine

theorem State.arrive_keeps (s : State) (a : Acc) : Keeps s (State.arrive s a) := by
  have h0 := @State.atTime_keeps
  have h1 := @State.onSession_keeps
  have k := Keeps.refl s
  unfold State.arrive
  exact Keeps.auto

theorem State.auditHead_keeps (s : State) (p : Path) : Keeps s (State.auditHead s p).1 := by
  have h0 := @State.useNonce_keeps
  have k := Keeps.refl s
  unfold State.auditHead
  exact Keeps.auto

theorem State.doRead_keeps (s : State) (a : Acc) (d : ObjDef) (idx : Nat) (sub : Nat) : Keeps s (State.doRead s a d idx sub).1 := by
  have h0 := @State.challenge_keeps
  have h1 := @State.auditHead_keeps
  have h2 := @State.doorbellRead_keeps
  have h3 := @opPcRead_keeps
  have k := Keeps.refl s
  unfold State.doRead
  exact Keeps.auto

theorem State.accessRead_keeps (s : State) (a : Acc) (idx : Nat) (sub : Nat) : Keeps s (State.accessRead s a idx sub).1 := by
  have h0 := @State.arrive_keeps
  have h1 := @State.doRead_keeps
  have k := Keeps.refl s
  unfold State.accessRead
  exact Keeps.auto

theorem State.runRead_keeps (s : State) (a : Acc) (idx : Nat) (sub : Nat) : Keeps s (State.runRead s a idx sub) := by
  have h0 := @State.atTime_keeps
  have h1 := @State.accessRead_keeps
  have h2 := @State.onPath_keeps
  have k := Keeps.refl s
  unfold State.runRead
  exact Keeps.auto

end Sys2Proof.Machine
end

