-- ==== Sys2Proof/Laws/KeepOven.lean ====
section
/-!
SUPPORT. What the operations of Machine/Oven.lean leave.
-/
set_option Elab.async false
namespace Sys2Proof.Machine

theorem State.noteWarm_keeps (s : State) : Keeps s (State.noteWarm s) := by
  have k := Keeps.refl s
  unfold State.noteWarm
  exact Keeps.auto

theorem opOvenSample_keeps (code : Nat) (pin : Bool) (s : State) : Keeps s (opOvenSample code pin s) := by
  have h0 := @State.clearFault_keeps
  have h1 := @State.noteWarm_keeps
  have h2 := @State.raise_keeps
  have k := Keeps.refl s
  unfold opOvenSample
  exact Keeps.auto

theorem State.addTemp_keeps (s : State) (t : Int) : Keeps s (State.addTemp s t) := by
  have k := Keeps.refl s
  unfold State.addTemp
  exact Keeps.auto

theorem State.takeOven_keeps (s : State) : Keeps s (State.takeOven s) := by
  have h0 := @State.takeLate_keeps
  have k := Keeps.refl s
  unfold State.takeOven
  exact Keeps.auto

theorem opOvenStep_keeps (s : State) : Keeps s (opOvenStep s) := by
  have h0 := @State.addTemp_keeps
  have h1 := @State.level_keeps
  have h2 := @State.noteWarm_keeps
  have h3 := @State.takeOven_keeps
  have k := Keeps.refl s
  unfold opOvenStep
  exact Keeps.auto

theorem State.warmSecond_keeps (s : State) : Keeps s (State.warmSecond s) := by
  have h0 := @State.noteWarm_keeps
  have k := Keeps.refl s
  unfold State.warmSecond
  exact Keeps.auto

theorem State.leaveWarming_keeps (s : State) : Keeps s (State.leaveWarming s) := by
  unfold State.leaveWarming
  split
  · rename_i hs
    refine (Keeps.refl s).trans ⟨rfl, fun h => { h with sound := fun hv => ?_ }⟩
    have e := (h.sound hv).1
    simp [e] at hs
  · exact Keeps.refl s

theorem opWarmRise_keeps (s : State) : Keeps s (opWarmRise s) := by
  have h0 := @State.leaveWarming_keeps
  have h1 := @State.noteValid_keeps
  have k := Keeps.refl s
  unfold opWarmRise
  exact Keeps.auto

theorem opWarmFall_keeps (s : State) : Keeps s (opWarmFall s) := by
  have k := Keeps.refl s
  unfold opWarmFall
  exact Keeps.auto

theorem State.setAtomic_keeps (s : State) (st : Nat) : Keeps s (State.setAtomic s st) := by
  have h0 := @State.onRef_keeps
  have k := Keeps.refl s
  unfold State.setAtomic
  exact Keeps.auto

theorem State.atomicStatus_keeps (s : State) (st : Nat) : Keeps s (State.atomicStatus s st) := by
  have h0 := @State.setAtomic_keeps
  have k := Keeps.refl s
  unfold State.atomicStatus
  exact Keeps.auto

theorem State.atomicMute_keeps (s : State) : Keeps s (State.atomicMute s) := by
  have h0 := @State.setAtomic_keeps
  have k := Keeps.refl s
  unfold State.atomicMute
  exact Keeps.auto

theorem State.takeRelay_keeps (s : State) : Keeps s (State.takeRelay s) := by
  have h0 := @State.atomicStatus_keeps
  have k := Keeps.refl s
  unfold State.takeRelay
  exact Keeps.auto

theorem State.takeAtomic_keeps (s : State) : Keeps s (State.takeAtomic s) := by
  have h0 := @State.takeLate_keeps
  have k := Keeps.refl s
  unfold State.takeAtomic
  exact Keeps.auto

theorem opSteer_keeps (s : State) : Keeps s (opSteer s) := by
  have h0 := @State.atomicMute_keeps
  have h1 := @State.takeAtomic_keeps
  have h2 := @State.takeRelay_keeps
  have k := Keeps.refl s
  unfold opSteer
  exact Keeps.auto

theorem opAtomicReply_keeps (ok : Bool) (seq : Nat) (st : Nat) (s : State) : Keeps s (opAtomicReply ok seq st s) := by
  have h0 := @State.atomicStatus_keeps
  have k := Keeps.refl s
  unfold opAtomicReply
  exact Keeps.auto

theorem execOvenSample_keeps (code : Nat) (pin : Bool) (s : State) : KeepsO s (execOvenSample code pin s) := by
  have h0 := @opOvenSample_keeps
  have k := Keeps.refl s
  unfold execOvenSample
  exact KeepsO.auto

theorem execOvenLoopStep_keeps (s : State) : KeepsO s (execOvenLoopStep s) := by
  have h0 := @opOvenStep_keeps
  have k := Keeps.refl s
  unfold execOvenLoopStep
  exact KeepsO.auto

theorem execWarmFlagRise_keeps (now : Nat) (s : State) : KeepsO s (execWarmFlagRise now s) := by
  have h0 := @opWarmRise_keeps
  have h1 := @State.atTime_keeps
  have k := Keeps.refl s
  unfold execWarmFlagRise
  exact KeepsO.auto

theorem execWarmFlagFall_keeps (now : Nat) (s : State) : KeepsO s (execWarmFlagFall now s) := by
  have h0 := @opWarmFall_keeps
  have h1 := @State.atTime_keeps
  have k := Keeps.refl s
  unfold execWarmFlagFall
  exact KeepsO.auto

theorem execAtomicSteerSend_keeps (s : State) : KeepsO s (execAtomicSteerSend s) := by
  have h0 := @opSteer_keeps
  have k := Keeps.refl s
  unfold execAtomicSteerSend
  exact KeepsO.auto

theorem execAtomicReplyRx_keeps (ok : Bool) (seq : Nat) (st : Nat) (s : State) : KeepsO s (execAtomicReplyRx ok seq st s) := by
  have h0 := @opAtomicReply_keeps
  have k := Keeps.refl s
  unfold execAtomicReplyRx
  exact KeepsO.auto

theorem execAtomicSilentTimeout_keeps (s : State) : KeepsO s (execAtomicSilentTimeout s) := by
  have h0 := @State.setAtomic_keeps
  have k := Keeps.refl s
  unfold execAtomicSilentTimeout
  exact KeepsO.auto

end Sys2Proof.Machine
end

