-- ==== Sys2Proof/Laws/KeepSynth.lean ====
section
/-!
SUPPORT. What the operations of Machine/Synth.lean leave.
-/
set_option Elab.async false
namespace Sys2Proof.Machine

theorem State.takeSkew_keeps (s : State) (n : Nat) : Keeps s (State.takeSkew s n) := by
  have h0 := @State.onOut_keeps
  have k := Keeps.refl s
  unfold State.takeSkew
  exact Keeps.auto

theorem opCommit_keeps (mask : Nat) (s : State) : Keeps s (opCommit mask s) := by
  have k := Keeps.refl s
  unfold opCommit
  exact Keeps.auto

theorem State.loadApll_keeps (s : State) (a : Nat) : Keeps s (State.loadApll s a) := by
  have h0 := @State.draw_keeps
  have h1 := @State.onApll_keeps
  have k := Keeps.refl s
  unfold State.loadApll
  exact Keeps.auto

theorem State.loadOut_keeps (s : State) (n : Nat) : Keeps s (State.loadOut s n) := by
  have h0 := @State.fixRate_keeps
  have h1 := @State.onOut_keeps
  have h2 := @State.stopDue_keeps
  have k := Keeps.refl s
  unfold State.loadOut
  exact Keeps.auto

theorem opCommitApply_keeps (s : State) : Keeps s (opCommitApply s) := by
  have h0 := @State.loadApll_keeps
  have h1 := @State.loadOut_keeps
  have k := Keeps.refl s
  unfold opCommitApply
  exact Keeps.auto

theorem opApllLoss_keeps (a : Nat) (s : State) : Keeps s (opApllLoss a s) := by
  have h0 := @State.draw_keeps
  have h1 := @State.onApll_keeps
  have h2 := @State.onOuts_keeps
  have h3 := @State.raise_keeps
  have h4 := @State.stopAll_keeps
  have k := Keeps.refl s
  unfold opApllLoss
  exact Keeps.auto

theorem State.settleMove_keeps (s : State) (n : Nat) : Keeps s (State.settleMove s n) := by
  have h0 := @State.onOut_keeps
  have k := Keeps.refl s
  unfold State.settleMove
  exact Keeps.auto

theorem State.stepOut_keeps (s : State) (n : Nat) (a : Int) : Keeps s (State.stepOut s n a) := by
  have h0 := @State.onOut_keeps
  have k := Keeps.refl s
  unfold State.stepOut
  exact Keeps.auto

theorem State.correct_keeps (s : State) (n : Nat) (a : Int) : Keeps s (State.correct s n a) := by
  have h0 := @State.onOut_keeps
  have h1 := @State.raise_keeps
  have h2 := @State.stepOut_keeps
  have k := Keeps.refl s
  unfold State.correct
  exact Keeps.auto

theorem opAlignCheck_keeps (n : Nat) (s : State) : Keeps s (opAlignCheck n s) := by
  have h0 := @State.correct_keeps
  have h1 := @State.onOut_keeps
  have h2 := @State.settleMove_keeps
  have k := Keeps.refl s
  unfold opAlignCheck
  exact Keeps.auto

theorem opLoopTimeout_keeps (n : Nat) (s : State) : Keeps s (opLoopTimeout n s) := by
  have h0 := @State.onOut_keeps
  have k := Keeps.refl s
  unfold opLoopTimeout
  exact Keeps.auto

theorem State.stepTargets_keeps (s : State) (ns : Int) : Keeps s (State.stepTargets s ns) := by
  have h0 := @State.onOut_keeps
  have k := Keeps.refl s
  unfold State.stepTargets
  exact Keeps.auto

theorem opTodTx_keeps (u : Nat) (s : State) : Keeps s (opTodTx u s) := by
  have k := Keeps.refl s
  unfold opTodTx
  exact Keeps.auto

theorem State.putFrame_keeps (s : State) (n : Nat) : Keeps s (State.putFrame s n) := by
  have h0 := @State.draw_keeps
  have h1 := @State.onOut_keeps
  have k := Keeps.refl s
  unfold State.putFrame
  exact Keeps.auto

theorem opOutStart_keeps (n : Nat) (s : State) : Keeps s (opOutStart n s) := by
  have h0 := @State.onOut_keeps
  have h1 := @State.putFrame_keeps
  have k := Keeps.refl s
  unfold opOutStart
  exact Keeps.auto

theorem opOutStop_keeps (n : Nat) (s : State) : Keeps s (opOutStop n s) := by
  have h0 := @State.onOut_keeps
  have k := Keeps.refl s
  unfold opOutStop
  exact Keeps.auto

theorem State.synthAnchor_keeps (s : State) : Keeps s (State.synthAnchor s) := by
  have h0 := @State.putFrame_keeps
  have h1 := @State.stopAll_keeps
  have h2 := @State.takeSkew_keeps
  have k := Keeps.refl s
  unfold State.synthAnchor
  exact Keeps.auto

theorem execSynthCommitApply_keeps (now : Nat) (s : State) : KeepsO s (execSynthCommitApply now s) := by
  have h0 := @opCommitApply_keeps
  have h1 := @State.atTime_keeps
  have k := Keeps.refl s
  unfold execSynthCommitApply
  exact KeepsO.auto

theorem execOutputApllLoss_keeps (now : Nat) (a : Nat) (s : State) : KeepsO s (execOutputApllLoss now a s) := by
  have h0 := @opApllLoss_keeps
  have h1 := @State.atTime_keeps
  have k := Keeps.refl s
  unfold execOutputApllLoss
  exact KeepsO.auto

theorem execOutputStart_keeps (now : Nat) (n : Nat) (s : State) : KeepsO s (execOutputStart now n s) := by
  have h0 := @opOutStart_keeps
  have h1 := @State.atTime_keeps
  have k := Keeps.refl s
  unfold execOutputStart
  exact KeepsO.auto

theorem execOutputStop_keeps (now : Nat) (n : Nat) (s : State) : KeepsO s (execOutputStop now n s) := by
  have h0 := @opOutStop_keeps
  have h1 := @State.atTime_keeps
  have k := Keeps.refl s
  unfold execOutputStop
  exact KeepsO.auto

theorem execOutputAlignCheck_keeps (now : Nat) (n : Nat) (s : State) : KeepsO s (execOutputAlignCheck now n s) := by
  have h0 := @opAlignCheck_keeps
  have h1 := @State.atTime_keeps
  have k := Keeps.refl s
  unfold execOutputAlignCheck
  exact KeepsO.auto

theorem execLoopbackTimeout_keeps (n : Nat) (s : State) : KeepsO s (execLoopbackTimeout n s) := by
  have h0 := @opLoopTimeout_keeps
  have k := Keeps.refl s
  unfold execLoopbackTimeout
  exact KeepsO.auto

theorem execTodSentenceTx_keeps (now : Nat) (u : Nat) (s : State) : KeepsO s (execTodSentenceTx now u s) := by
  have h0 := @opTodTx_keeps
  have h1 := @State.atTime_keeps
  have k := Keeps.refl s
  unfold execTodSentenceTx
  exact KeepsO.auto

end Sys2Proof.Machine
end

