-- ==== Sys2Proof/Laws/KeepStartup.lean ====
section
/-!
SUPPORT. What the operations of Machine/Startup.lean leave.
-/
set_option Elab.async false
namespace Sys2Proof.Machine

theorem State.bootBundle_keeps (s : State) (fall : Bool) : Keeps s (State.bootBundle s fall) := by
  have h0 := @State.raise_keeps
  have k := Keeps.refl s
  unfold State.bootBundle
  exact Keeps.auto

theorem State.readCal_keeps (s : State) (ok : Bool) : Keeps s (State.readCal s ok) := by
  have h0 := @State.raise_keeps
  have k := Keeps.refl s
  unfold State.readCal
  exact Keeps.auto

theorem State.endReset_keeps (s : State) (still : List (Nat × Nat)) : Keeps s (State.endReset s still) := by
  have h0 := @State.nextF2_keeps
  have h1 := @State.raise_keeps
  have k := Keeps.refl s
  unfold State.endReset
  exact Keeps.auto

theorem engOk_eng {s : State} (h : Safety.Inv s) (e : Nat) : Safety.EngOk (s.eng e) := by
  unfold State.eng
  rw [List.getD_eq_getElem?_getD]
  cases he : s.engs.eng[e]? with
  | none => exact engOk_init
  | some g => exact h.engs.each g (List.mem_of_getElem? he)

theorem State.startEngines_keeps (s : State) : Keeps s (State.startEngines s) := by
  refine ⟨rfl, fun h => { h with engs := ⟨(List.length_map _).trans List.length_range, ?_, (List.length_map _).trans List.length_range, h.engs.sram, h.engs.dram⟩ }⟩
  intro g hg
  obtain ⟨e, -, rfl⟩ := List.mem_map.mp hg
  have k := engOk_eng h e
  beta_reduce
  split
  · exact ⟨k.regs, k.fregs, k.prot, k.imem, k.dmem, k.windows⟩
  · split
    · exact ⟨k.regs, k.fregs, k.prot, k.imem, k.dmem, k.windows⟩
    · exact ⟨k.regs, k.fregs, k.prot, k.imem, k.dmem, k.windows⟩

theorem State.agentBack_keeps (s : State) : Keeps s (State.agentBack s) := by
  have k := Keeps.refl s
  unfold State.agentBack
  exact Keeps.auto

theorem State.startCan_keeps (s : State) (c : Nat) : Keeps s (State.startCan s c) := by
  have h0 := @State.onCan_keeps
  have k := Keeps.refl s
  unfold State.startCan
  exact Keeps.auto

theorem State.applyStore_keeps (s : State) : Keeps s (State.applyStore s) := by
  have h0 := @State.raise_keeps
  have k := Keeps.refl s
  unfold State.applyStore
  exact Keeps.auto

theorem State.startSynth_keeps (s : State) : Keeps s (State.startSynth s) := by
  have h0 := @State.loadApll_keeps
  have h1 := @State.loadOut_keeps
  have h2 := @State.onOut_keeps
  have h3 := @State.takeSkew_keeps
  have k := Keeps.refl s
  unfold State.startSynth
  exact Keeps.auto

theorem State.startBlocks_keeps (s : State) : Keeps s (State.startBlocks s) := by
  have h0 := @State.beginPeer_keeps
  have h1 := @State.fixRate_keeps
  have h2 := @State.startCan_keeps
  have h3 := @State.startSynth_keeps
  have h4 := @opPtpReconfig_keeps
  have h5 := @opQuadApply_keeps
  have k := Keeps.refl s
  unfold State.startBlocks
  exact Keeps.auto

theorem State.startRefs_keeps (s : State) : Keeps s (State.startRefs s) := by
  have k := Keeps.refl s
  unfold State.startRefs
  exact Keeps.auto

theorem State.startGnss_keeps (s : State) : Keeps s (State.startGnss s) := by
  have h0 := @State.gnStart_keeps
  have k := Keeps.refl s
  unfold State.startGnss
  exact Keeps.auto

theorem State.bootComplete_keeps (s : State) : Keeps s (State.bootComplete s) := by
  have h0 := @State.revalid_keeps
  have h1 := @State.leaveWarming_keeps
  have k := Keeps.refl s
  unfold State.bootComplete
  exact Keeps.auto

theorem opPoresetLow_keeps (powerUp : Bool) (s : State) : Keeps s (opPoresetLow powerUp s) := by
  have h0 := @State.por_keeps
  have k := Keeps.refl s
  unfold opPoresetLow
  exact Keeps.auto

theorem State.pairStart_keeps (s : State) : Keeps s (State.pairStart s) := by
  have k := Keeps.refl s
  unfold State.pairStart
  exact Keeps.auto

theorem State.porStart_keeps (s : State) (bad : List Nat) (still : List (Nat × Nat)) : Keeps s (State.porStart s bad still) := by
  have h0 := @State.endReset_keeps
  have h1 := @State.bootComplete_keeps
  have h2 := @State.agentBack_keeps
  have h3 := @State.pairStart_keeps
  have h4 := @State.startGnss_keeps
  have h5 := @State.startRefs_keeps
  have h6 := @State.startBlocks_keeps
  have h7 := @State.startEngines_keeps
  have h8 := @State.applyStore_keeps
  have h9 := @State.unseal_keeps
  have k := Keeps.refl s
  unfold State.porStart
  exact Keeps.auto

theorem State.porBoot_keeps (s : State) (calOk : Bool) (bad : List Nat) : Keeps s (State.porBoot s calOk bad) := by
  have h0 := @State.agentBack_keeps
  have h1 := @State.endReset_keeps
  have h2 := @State.latch_keeps
  have h3 := @State.porStart_keeps
  have h4 := @State.raise_keeps
  have h5 := @State.readCal_keeps
  have h6 := @State.startEngines_keeps
  have h7 := @State.tamperHalt_keeps
  have k := Keeps.refl s
  unfold State.porBoot
  exact Keeps.auto

theorem State.porRelease_keeps (s : State) : Keeps s (State.porRelease s) := by
  have h0 := @State.revalid_keeps
  have k := Keeps.refl s
  unfold State.porRelease
  exact Keeps.auto

theorem opPorRelease_keeps (fall : Bool) (calOk : Bool) (bad : List Nat) (s : State) : Keeps s (opPorRelease fall calOk bad s) := by
  have h0 := @State.bootBundle_keeps
  have h1 := @State.drawCloak_keeps
  have h2 := @State.porBoot_keeps
  have h3 := @State.porRelease_keeps
  have h4 := @State.readAonLost_keeps
  have k := Keeps.refl s
  unfold opPorRelease
  exact Keeps.auto

theorem State.forgetTerms_keeps (s : State) : Keeps s (State.forgetTerms s) := by
  have h0 := @State.useTerms_keeps
  have k := Keeps.refl s
  unfold State.forgetTerms
  exact Keeps.auto

theorem State.resumeServo_keeps (s : State) : Keeps s (State.resumeServo s) := by
  have h0 := @State.enterHoldover_keeps
  have h1 := @State.forgetTerms_keeps
  have h2 := @State.thawGirth_keeps
  have k := Keeps.refl s
  unfold State.resumeServo
  exact Keeps.auto

theorem opEnginesReturn_keeps (fall : Bool) (calOk : Bool) (bad : List Nat) (still : List (Nat × Nat)) (s : State) : Keeps s (opEnginesReturn fall calOk bad still s) := by
  have h0 := @State.agentBack_keeps
  have h1 := @State.bootBundle_keeps
  have h2 := @State.bootComplete_keeps
  have h3 := @State.drawCloak_keeps
  have h4 := @State.endReset_keeps
  have h5 := @State.latch_keeps
  have h6 := @State.raise_keeps
  have h7 := @State.readCal_keeps
  have h8 := @State.resumeServo_keeps
  have h9 := @State.startCan_keeps
  have h10 := @State.startEngines_keeps
  have h11 := @State.startGnss_keeps
  have h12 := @State.startRefs_keeps
  have h13 := @State.tamperHalt_keeps
  have h14 := @State.unseal_keeps
  have h15 := @opPtpReconfig_keeps
  have k := Keeps.refl s
  unfold opEnginesReturn
  exact Keeps.auto

theorem opWarmMax_keeps (s : State) : Keeps s (opWarmMax s) := by
  have h0 := @State.raise_keeps
  have h1 := @State.leaveWarming_keeps
  have k := Keeps.refl s
  unfold opWarmMax
  exact Keeps.auto

theorem opAgentWatchdog_keeps (s : State) : Keeps s (opAgentWatchdog s) := by
  have h0 := @State.raise_keeps
  have k := Keeps.refl s
  unfold opAgentWatchdog
  exact Keeps.auto

theorem opDramTrained_keeps (ok : Bool) (s : State) : Keeps s (opDramTrained ok s) := by
  have h0 := @State.clearFault_keeps
  have h1 := @State.raise_keeps
  have h2 := @State.tackHold_keeps
  have h3 := @State.tackRelease_keeps
  have k := Keeps.refl s
  unfold opDramTrained
  exact Keeps.auto

theorem opPaddockWiped_keeps (s : State) : Keeps s (opPaddockWiped s) := by
  have h0 := @State.wipePaddock_keeps
  have k := Keeps.refl s
  unfold opPaddockWiped
  exact Keeps.auto

theorem State.putIdle_keeps (s : State) (b : Option Bundle) : Keeps s (State.putIdle s b) := by
  have k := Keeps.refl s
  unfold State.putIdle
  exact Keeps.auto

theorem opFwErased_keeps (ok : Bool) (s : State) : Keeps s (opFwErased ok s) := by
  have k := Keeps.refl s
  unfold opFwErased
  exact Keeps.auto

theorem opFwCommitted_keeps (outcome : Nat) (s : State) : Keeps s (opFwCommitted outcome s) := by
  have h0 := @State.putIdle_keeps
  have k := Keeps.refl s
  unfold opFwCommitted
  exact Keeps.auto

theorem opCalDone_keeps (ok : Bool) (s : State) : Keeps s (opCalDone ok s) := by
  have h0 := @State.raise_keeps
  have k := Keeps.refl s
  unfold opCalDone
  exact Keeps.auto

theorem opCalStagingTimeout_keeps (s : State) : Keeps s (opCalStagingTimeout s) := by
  have k := Keeps.refl s
  unfold opCalStagingTimeout
  exact Keeps.auto

theorem execSystemResetEnginesReturn_keeps (now : Nat) (fall : Bool) (calOk : Bool) (bad : List Nat) (still : List (Nat × Nat)) (s : State) : KeepsO s (execSystemResetEnginesReturn now fall calOk bad still s) := by
  have h0 := @State.revalid_keeps
  have h1 := @opEnginesReturn_keeps
  have h2 := @State.atTime_keeps
  have k := Keeps.refl s
  unfold execSystemResetEnginesReturn
  exact KeepsO.auto

theorem execPoresetNLow_keeps (powerUp : Bool) (s : State) : KeepsO s (execPoresetNLow powerUp s) := by
  have h0 := @opPoresetLow_keeps
  have k := Keeps.refl s
  unfold execPoresetNLow
  exact KeepsO.auto

theorem execPowerOnResetRelease_keeps (now : Nat) (fall : Bool) (calOk : Bool) (bad : List Nat) (s : State) : KeepsO s (execPowerOnResetRelease now fall calOk bad s) := by
  have h0 := @State.revalid_keeps
  have h1 := @opPorRelease_keeps
  have h2 := @State.atTime_keeps
  have k := Keeps.refl s
  unfold execPowerOnResetRelease
  exact KeepsO.auto

theorem execDramTrainingDone_keeps (now : Nat) (ok : Bool) (s : State) : KeepsO s (execDramTrainingDone now ok s) := by
  have h0 := @opDramTrained_keeps
  have h1 := @State.atTime_keeps
  have k := Keeps.refl s
  unfold execDramTrainingDone
  exact KeepsO.auto

theorem execDqsTracking_keeps (now : Nat) (s : State) : KeepsO s (execDqsTracking now s) := by
  have h0 := @State.atTime_keeps
  have k := Keeps.refl s
  unfold execDqsTracking
  exact KeepsO.auto

theorem execPaddockWipeDone_keeps (now : Nat) (s : State) : KeepsO s (execPaddockWipeDone now s) := by
  have h0 := @opPaddockWiped_keeps
  have h1 := @State.atTime_keeps
  have k := Keeps.refl s
  unfold execPaddockWipeDone
  exact KeepsO.auto

theorem execStartupWarmMaxExpire_keeps (now : Nat) (s : State) : KeepsO s (execStartupWarmMaxExpire now s) := by
  have h0 := @opWarmMax_keeps
  have h1 := @State.atTime_keeps
  have k := Keeps.refl s
  unfold execStartupWarmMaxExpire
  exact KeepsO.auto

theorem execAgentWatchdogExpire_keeps (now : Nat) (s : State) : KeepsO s (execAgentWatchdogExpire now s) := by
  have h0 := @opAgentWatchdog_keeps
  have h1 := @State.atTime_keeps
  have k := Keeps.refl s
  unfold execAgentWatchdogExpire
  exact KeepsO.auto

theorem execFwEraseDone_keeps (now : Nat) (ok : Bool) (s : State) : KeepsO s (execFwEraseDone now ok s) := by
  have h0 := @opFwErased_keeps
  have h1 := @State.atTime_keeps
  have k := Keeps.refl s
  unfold execFwEraseDone
  exact KeepsO.auto

theorem execFwCommitDone_keeps (now : Nat) (outcome : Nat) (s : State) : KeepsO s (execFwCommitDone now outcome s) := by
  have h0 := @opFwCommitted_keeps
  have h1 := @State.atTime_keeps
  have k := Keeps.refl s
  unfold execFwCommitDone
  exact KeepsO.auto

theorem execCalCommitDone_keeps (now : Nat) (ok : Bool) (s : State) : KeepsO s (execCalCommitDone now ok s) := by
  have h0 := @opCalDone_keeps
  have h1 := @State.atTime_keeps
  have k := Keeps.refl s
  unfold execCalCommitDone
  exact KeepsO.auto

theorem execCalStagingTimeout_keeps (now : Nat) (s : State) : KeepsO s (execCalStagingTimeout now s) := by
  have h0 := @opCalStagingTimeout_keeps
  have h1 := @State.atTime_keeps
  have k := Keeps.refl s
  unfold execCalStagingTimeout
  exact KeepsO.auto

end Sys2Proof.Machine
end

