-- ==== Sys2Proof/Laws/KeepEffects.lean ====
section
/-!
SUPPORT. What the operations of Machine/Effects.lean leave.
-/
set_option Elab.async false
namespace Sys2Proof.Machine

theorem State.select_keeps (s : State) (a : Acc) (f : Session → Session) (g : PathState → PathState) : Keeps s (State.select s a f g) := by
  have h0 := @State.onSession_keeps
  have h1 := @State.onPath_keeps
  have k := Keeps.refl s
  unfold State.select
  exact Keeps.auto

theorem opCanEnable_keeps (c : Nat) (v : Nat) (s : State) : Keeps s (opCanEnable c v s) := by
  have h0 := @State.put_keeps
  have h1 := @State.startCan_keeps
  have h2 := @State.endSessions_keeps
  have h3 := @State.onCan_keeps
  have k := Keeps.refl s
  unfold opCanEnable
  exact Keeps.auto

theorem opAttnAck_keeps (v : Nat) (s : State) : Keeps s (opAttnAck v s) := by
  have h0 := @State.attn_keeps
  have k := Keeps.refl s
  unfold opAttnAck
  exact Keeps.auto

theorem opDmaReq_keeps (v : Nat) (s : State) : Keeps s (opDmaReq v s) := by
  have k := Keeps.refl s
  unfold opDmaReq
  exact Keeps.auto

theorem opEsxiaPath_keeps (sub : Nat) (v : Nat) (s : State) : Keeps s (opEsxiaPath sub v s) := by
  have h0 := @State.put_keeps
  have h1 := @State.endSessions_keeps
  have k := Keeps.refl s
  unfold opEsxiaPath
  exact Keeps.auto

theorem State.writePaths_keeps (s : State) (a : Acc) (idx : Nat) (sub : Nat) (v : Nat) : Keeps s (State.writePaths s a idx sub v) := by
  have h0 := @State.select_keeps
  have h1 := @opCanEnable_keeps
  have h2 := @opDmaReq_keeps
  have h3 := @opEsxiaPath_keeps
  have h4 := @opAttnAck_keeps
  have h5 := @State.put_keeps
  have k := Keeps.refl s
  unfold State.writePaths
  exact Keeps.auto

theorem opUtcMode_keeps (v : Nat) (s : State) : Keeps s (opUtcMode v s) := by
  have h0 := @State.put_keeps
  have k := Keeps.refl s
  unfold opUtcMode
  exact Keeps.auto

theorem opChannelWrite_keeps (c : Nat) (sub : Nat) (v : Nat) (s : State) : Keeps s (opChannelWrite c sub v s) := by
  have h0 := @State.onChan_keeps
  have h1 := @opTiuReconfig_keeps
  have h2 := @State.put_keeps
  have k := Keeps.refl s
  unfold opChannelWrite
  exact Keeps.auto

theorem opInElec_keeps (n : Nat) (v : Nat) (s : State) : Keeps s (opInElec n v s) := by
  have h0 := @State.put_keeps
  have k := Keeps.refl s
  unfold opInElec
  exact Keeps.auto

theorem State.takeElec_keeps (s : State) : Keeps s (State.takeElec s) := by
  have h0 := @opTiuReconfig_keeps
  have h1 := @State.onRef_keeps
  have h2 := @State.moveRef_keeps
  have k := Keeps.refl s
  unfold State.takeElec
  exact Keeps.auto

/-- The effect of one written object of the references, `old` being the state before the writes. -/
theorem State.refEffect_keeps (old s : State) (k : Nat) : Keeps s (State.refEffect old s k) := by
  have h0 := @State.fixRate_keeps
  have h1 := @State.gnQl_keeps
  have h2 := @State.wakeTiming_keeps
  have h3 := @opRebind_keeps
  have h4 := @opRefEnable_keeps
  have h5 := @opSoakRestart_keeps
  have k := Keeps.refl s
  unfold State.refEffect
  exact Keeps.auto

theorem State.takeRefs_keeps (s : State) : Keeps s (State.takeRefs s) := by
  have h0 := @State.refEffect_keeps
  have h1 := @State.takeLate_keeps
  have k := Keeps.refl s
  unfold State.takeRefs
  exact Keeps.auto

theorem opSelect_keeps (s : State) : Keeps s (opSelect s) := by
  have h0 := @State.takeRefs_keeps
  have h1 := @opSelectorTick_keeps
  have k := Keeps.refl s
  unfold opSelect
  exact Keeps.auto

theorem State.askRelay_keeps (s : State) (sub : Nat) (v : Nat) : Keeps s (State.askRelay s sub v) := by
  have k := Keeps.refl s
  unfold State.askRelay
  exact Keeps.auto

theorem State.writeTiming_keeps (s : State) (idx : Nat) (sub : Nat) (v : Nat) : Keeps s (State.writeTiming s idx sub v) := by
  have h0 := @State.coarseRebase_keeps
  have h1 := @State.put_keeps
  have h2 := @State.putLate_keeps
  have h3 := @State.revalid_keeps
  have h4 := @opChannelWrite_keeps
  have h5 := @opInElec_keeps
  have h6 := @State.askRelay_keeps
  have h7 := @opTimeSet_keeps
  have h8 := @opUtcMode_keeps
  have k := Keeps.refl s
  unfold State.writeTiming
  repeat (split; · exact Keeps.auto)
  exact Keeps.auto

theorem State.writeOutputs_keeps (s : State) (idx : Nat) (sub : Nat) (v : Nat) : Keeps s (State.writeOutputs s idx sub v) := by
  have h0 := @State.put_keeps
  have h1 := @State.putLate_keeps
  have h2 := @State.takeGnss_keeps
  have h3 := @opCommit_keeps
  have h4 := @opGnEnable_keeps
  have h5 := @opSurveyRestart_keeps
  have k := Keeps.refl s
  unfold State.writeOutputs
  exact Keeps.auto

theorem opLaneEnable_keeps (l : Nat) (v : Nat) (s : State) : Keeps s (opLaneEnable l v s) := by
  have h0 := @State.beginLane_keeps
  have h1 := @State.put_keeps
  have h2 := @opLaneDisable_keeps
  have k := Keeps.refl s
  unfold opLaneEnable
  exact Keeps.auto

theorem opPeerEnable_keeps (v : Nat) (s : State) : Keeps s (opPeerEnable v s) := by
  have h0 := @State.beginPeer_keeps
  have h1 := @State.onPeer_keeps
  have h2 := @State.put_keeps
  have h3 := @opPeerLaneDown_keeps
  have k := Keeps.refl s
  unfold opPeerEnable
  exact Keeps.auto

theorem State.writeLanes_keeps (s : State) (idx : Nat) (sub : Nat) (v : Nat) : Keeps s (State.writeLanes s idx sub v) := by
  have h0 := @State.markCtle_keeps
  have h1 := @State.onLane_keeps
  have h2 := @State.put_keeps
  have h3 := @opCalLoop_keeps
  have h4 := @opCtleMode_keeps
  have h5 := @opLaneEnable_keeps
  have h6 := @opPeerEnable_keeps
  have h7 := @opPeerRevert_keeps
  have h8 := @opQuadApply_keeps
  have h9 := @opRetrain_keeps
  have k := Keeps.refl s
  unfold State.writeLanes
  exact Keeps.auto

theorem State.writePtp_keeps (s : State) (idx : Nat) (sub : Nat) (v : Nat) : Keeps s (State.writePtp s idx sub v) := by
  have h0 := @State.ptpOver_keeps
  have h1 := @State.ptpWrite_keeps
  have h2 := @State.put_keeps
  have h3 := @State.wakeTiming_keeps
  have h4 := @opPtpReconfig_keeps
  have k := Keeps.refl s
  unfold State.writePtp
  exact Keeps.auto

theorem State.writeServices_keeps (s : State) (idx : Nat) (sub : Nat) (v : Nat) : Keeps s (State.writeServices s idx sub v) := by
  have h0 := @State.put_keeps
  have h1 := @State.wakeTiming_keeps
  have h2 := @State.writePtp_keeps
  have h3 := @opHashRekey_keeps
  have h4 := @opMintProducer_keeps
  have k := Keeps.refl s
  unfold State.writeServices
  exact Keeps.auto

theorem State.restartDump_keeps (s : State) : Keeps s (State.restartDump s) := by
  have h0 := @State.put_keeps
  have k := Keeps.refl s
  unfold State.restartDump
  exact Keeps.auto

theorem State.writeEngines_keeps (s : State) (idx : Nat) (sub : Nat) (v : Nat) : Keeps s (State.writeEngines s idx sub v) := by
  have h0 := @State.put_keeps
  have h1 := @State.putLate_keeps
  have h2 := @State.restartDump_keeps
  have h3 := @opGovLevelMin_keeps
  have h4 := @opPaddockEnable_keeps
  have h5 := @opTackEngines_keeps
  have h6 := @opTackLoad_keeps
  have h7 := @opTackStop_keeps
  have k := Keeps.refl s
  unfold State.writeEngines
  exact Keeps.auto

theorem State.writeVault_keeps (s : State) (a : Acc) (w : Who) (idx : Nat) (sub : Nat) (v : Nat) : Keeps s (State.writeVault s a w idx sub v) := by
  have h0 := @State.put_keeps
  have h1 := @State.sendChanged_keeps
  have h2 := @opAbandon_keeps
  have h3 := @opAuthClose_keeps
  have h4 := @opJtagUnlock_keeps
  have h5 := @opKeyCommit_keeps
  have h6 := @opKeyErase_keeps
  have h7 := @opKeyExport_keeps
  have h8 := @opKeyStage_keeps
  have h9 := @opLcRequest_keeps
  have h10 := @opRotate_keeps
  have h11 := @opSlotAttr_keeps
  have h12 := @opTamperClear_keeps
  have h13 := @opTicketMinId_keeps
  have h14 := @opTransfer_keeps
  have k := Keeps.refl s
  unfold State.writeVault
  exact Keeps.auto

theorem State.writePair_keeps (s : State) (idx : Nat) (sub : Nat) (v : Nat) : Keeps s (State.writePair s idx sub v) := by
  have h0 := @State.domainRestart_keeps
  have h1 := @State.propose_keeps
  have h2 := @State.put_keeps
  have h3 := @State.putLate_keeps
  have h4 := @State.rejoin_keeps
  have h5 := @opPairDiag_keeps
  have h6 := @opPairEnable_keeps
  have h7 := @opPolicyWrite_keeps
  have k := Keeps.refl s
  unfold State.writePair
  exact Keeps.auto

theorem opFaultAck_keeps (v : Nat) (s : State) : Keeps s (opFaultAck v s) := by
  have h0 := @opAckAll_keeps
  have h1 := @opAckF3_keeps
  have h2 := @opAckCode_keeps
  have k := Keeps.refl s
  unfold opFaultAck
  exact Keeps.auto

theorem State.restartLog_keeps (s : State) : Keeps s (State.restartLog s) := by
  have h0 := @State.put_keeps
  have k := Keeps.refl s
  unfold State.restartLog
  exact Keeps.auto

theorem opCalValue_keeps (e : Nat) (v : Nat) (s : State) : Keeps s (opCalValue e v s) := by
  have h0 := @State.raiseUnc_keeps
  have k := Keeps.refl s
  unfold opCalValue
  exact Keeps.auto

theorem opCalChunk_keeps (v : Nat) (s : State) : Keeps s (opCalChunk v s) := by
  have k := Keeps.refl s
  unfold opCalChunk
  exact Keeps.auto

theorem opCalReload_keeps (s : State) : Keeps s (opCalReload s) := by
  have h0 := @State.raiseUnc_keeps
  have k := Keeps.refl s
  unfold opCalReload
  exact Keeps.auto

theorem opSleep_keeps (s : State) : Keeps s (opSleep s) := by
  have h0 := @State.onOuts_keeps
  have h1 := @State.dropSessions_keeps
  have k := Keeps.refl s
  unfold opSleep
  exact Keeps.auto

theorem State.writeFirmware_keeps (s : State) (sub : Nat) (v : Nat) : Keeps s (State.writeFirmware s sub v) := by
  have h0 := @State.putIdle_keeps
  have k := Keeps.refl s
  unfold State.writeFirmware
  exact Keeps.auto

theorem State.writeStart_keeps (s : State) (a : Acc) (idx : Nat) (sub : Nat) (v : Nat) : Keeps s (State.writeStart s a idx sub v) := by
  have h0 := @State.put_keeps
  have h1 := @State.putLate_keeps
  have h2 := @State.restartLog_keeps
  have h3 := @State.select_keeps
  have h4 := @State.sysReset_keeps
  have h5 := @State.writeFirmware_keeps
  have h6 := @opCalChunk_keeps
  have h7 := @opCalReload_keeps
  have h8 := @opCalValue_keeps
  have h9 := @opF3Clear_keeps
  have h10 := @opFaultAck_keeps
  have h11 := @opPllRelock_keeps
  have h12 := @opSleep_keeps
  have k := Keeps.refl s
  unfold State.writeStart
  exact Keeps.auto

theorem State.applyWrite_keeps (s : State) (a : Acc) (w : Who) (idx : Nat) (sub : Nat) (v : Nat) : Keeps s (State.applyWrite s a w idx sub v) := by
  have h0 := @State.writePaths_keeps
  have h1 := @State.writeTiming_keeps
  have h2 := @State.writeOutputs_keeps
  have h3 := @State.writeLanes_keeps
  have h4 := @State.writeServices_keeps
  have h5 := @State.writeEngines_keeps
  have h6 := @State.writeVault_keeps
  have h7 := @State.writePair_keeps
  have h8 := @State.writeStart_keeps
  have k := Keeps.refl s
  unfold State.applyWrite
  exact Keeps.auto

theorem State.refuseWrite_keeps (s : State) (a : Acc) (w : Who) (idx : Nat) (sub : Nat) (v : Nat) (c : Nat) : Keeps s (State.refuseWrite s a w idx sub v c).1 := by
  have h0 := @State.auditEvent_keeps
  have k := Keeps.refl s
  unfold State.refuseWrite
  exact Keeps.auto

theorem State.acceptWrite_keeps (s : State) (a : Acc) (w : Who) (d : ObjDef) (idx : Nat) (sub : Nat) (v : Nat) : Keeps s (State.acceptWrite s a w d idx sub v).1 := by
  have h0 := @State.audit_keeps
  have h1 := @State.applyWrite_keeps
  have h2 := @State.refuseWrite_keeps
  have h3 := @State.raise_keeps
  have k := Keeps.refl s
  unfold State.acceptWrite
  exact Keeps.auto

theorem State.lateWrite_keeps (s : State) (a : Acc) (w : Who) (d : ObjDef) (idx : Nat) (sub : Nat) (v : Nat) : Keeps s (State.lateWrite s a w d idx sub v).1 := by
  have h0 := @State.refuseWrite_keeps
  have h1 := @State.authOpen_keeps
  have h2 := @State.acceptWrite_keeps
  have k := Keeps.refl s
  unfold State.lateWrite
  exact Keeps.auto

theorem State.writeAs_keeps (s : State) (a : Acc) (w : Who) (idx : Nat) (sub : Nat) (v : Nat) : Keeps s (State.writeAs s a w idx sub v).1 := by
  have h0 := @State.useNonce_keeps
  have h1 := @State.lateWrite_keeps
  have h2 := @State.refuseWrite_keeps
  have k := Keeps.refl s
  unfold State.writeAs
  exact Keeps.auto

theorem State.accessWrite_keeps (s : State) (a : Acc) (idx : Nat) (sub : Nat) (v : Nat) : Keeps s (State.accessWrite s a idx sub v).1 := by
  have h0 := @State.arrive_keeps
  have h1 := @State.writeAs_keeps
  have k := Keeps.refl s
  unfold State.accessWrite
  exact Keeps.auto

end Sys2Proof.Machine
end

