-- ==== Sys2Proof/Laws/KeepAnchor.lean ====
section
/-!
SUPPORT. What the operations of Machine/Anchor.lean leave.
-/
set_option Elab.async false
namespace Sys2Proof.Machine

theorem State.enterLocked_keeps (s : State) : Keeps s (State.enterLocked s) := by
  have h0 := @State.revalid_keeps
  have k := Keeps.refl s
  unfold State.enterLocked
  exact Keeps.auto

theorem State.lockAnchor_keeps (s : State) : Keeps s (State.lockAnchor s) := by
  have h0 := @State.enterLocked_keeps
  have k := Keeps.refl s
  unfold State.lockAnchor
  exact Keeps.auto

theorem State.cross_keeps (s : State) : Keeps s (State.cross s) := by
  have h0 := @State.latch_keeps
  have h1 := @State.leap_keeps
  have h2 := @State.settle_keeps
  have h3 := @State.stepTargets_keeps
  have h4 := @State.takeStep_keeps
  have k := Keeps.refl s
  unfold State.cross
  exact Keeps.auto

theorem State.deliverAnchor_keeps (s : State) (x : AnchorDue) : Keeps s (State.deliverAnchor s x) := by
  have h0 := @State.anchorEvents_keeps
  have h1 := @State.closeSecond_keeps
  have h2 := @State.estimate1s_keeps
  have h3 := @State.flushCoalesced_keeps
  have h4 := @State.girthAnchor_keeps
  have h5 := @State.lockAnchor_keeps
  have h6 := @State.modelAnchor_keeps
  have h7 := @State.ptpAnchor_keeps
  have h8 := @State.record_keeps
  have h9 := @State.servoAnchor_keeps
  have h10 := @State.spanCheck_keeps
  have h11 := @State.tap_keeps
  have h12 := @State.warmSecond_keeps
  have k := Keeps.refl s
  unfold State.deliverAnchor
  exact Keeps.auto

theorem State.linkAnchor_keeps (s : State) : Keeps s (State.linkAnchor s) := by
  have h0 := @State.domainAnchor_keeps
  have h1 := @State.swapMissed_keeps
  have h2 := @State.pairAnchor_keeps
  have h3 := @State.anchorCounters_keeps
  have k := Keeps.refl s
  unfold State.linkAnchor
  exact Keeps.auto

theorem State.serveAnchors_keeps (s : State) : Keeps s (State.serveAnchors s) := by
  have h0 := @State.deliverAnchor_keeps
  have h1 := @State.linkAnchor_keeps
  have k := Keeps.refl s
  unfold State.serveAnchors
  exact Keeps.auto

theorem State.anchorDue_keeps (s : State) (prev : Nat) : Keeps s (State.anchorDue s prev).1 := by
  have h0 := @State.takeArea_keeps
  have k := Keeps.refl s
  unfold State.anchorDue
  exact Keeps.auto

theorem opAnchor_keeps (s : State) : Keeps s (opAnchor s) := by
  have h0 := @State.anchorDue_keeps
  have h1 := @State.atTime_keeps
  have h2 := @State.closeSecond_keeps
  have h3 := @State.cross_keeps
  have h4 := @State.girthAnchor_keeps
  have h5 := @State.growAnchor_keeps
  have h6 := @State.lockAnchor_keeps
  have h7 := @State.serveAnchors_keeps
  have h8 := @State.synthAnchor_keeps
  have h9 := @State.takeElec_keeps
  have h10 := @opNtsKeySwitch_keeps
  have k := Keeps.refl s
  unfold opAnchor
  exact Keeps.auto

theorem execAnchorLatch_keeps (_past : Nat) (s : State) : KeepsO s (execAnchorLatch _past s) := by
  have h0 := @opAnchor_keeps
  have k := Keeps.refl s
  unfold execAnchorLatch
  exact KeepsO.auto

theorem execLockConfirmed_keeps (now : Nat) (loop : Nat) (s : State) : KeepsO s (execLockConfirmed now loop s) := by
  have h0 := @State.atTime_keeps
  have h1 := @State.drain_keeps
  have h2 := @State.serveAnchors_keeps
  have h3 := @opLockConfirmed_keeps
  have k := Keeps.refl s
  unfold execLockConfirmed
  exact KeepsO.auto

end Sys2Proof.Machine
end

