-- ==== Sys2Proof/Laws/KeepDictionary.lean ====
section
/-!
SUPPORT. What the operations of Machine/Dictionary.lean leave.
-/
set_option Elab.async false
namespace Sys2Proof.Machine

theorem State.execBody_keeps (s : State) (a : Acc) (e : Envelope) : Keeps s (State.execBody s a e).1 := by
  have h0 := @State.accessRead_keeps
  have h1 := @State.accessWrite_keeps
  have h2 := @State.arrive_keeps
  have k := Keeps.refl s
  unfold State.execBody
  exact Keeps.auto

theorem State.mailReady_keeps (s : State) (p : Path) : Keeps s (State.mailReady s p) := by
  have h0 := @State.attn_keeps
  have k := Keeps.refl s
  unfold State.mailReady
  exact Keeps.auto

theorem State.sealError_keeps (s : State) (a : Acc) (n : Nat) : Keeps s (State.sealError s a n) := by
  have h0 := @State.endSession_keeps
  have h1 := @State.onSession_keeps
  have k := Keeps.refl s
  unfold State.sealError
  exact Keeps.auto

theorem State.keepResponse_keeps (s : State) (p : Path) (n : Nat) (r : Nat × Nat) (slow : Bool) : Keeps s (State.keepResponse s p n r slow) := by
  have h0 := @State.mailReady_keeps
  have h1 := @State.onPath_keeps
  have k := Keeps.refl s
  unfold State.keepResponse
  exact Keeps.auto

theorem State.sealedIn_keeps (s : State) (a : Acc) (e : Envelope) (slow : Bool) : Keeps s (State.sealedIn s a e slow).1 := by
  have h0 := @State.sealError_keeps
  have h1 := @State.onSession_keeps
  have h2 := @State.execBody_keeps
  have k := Keeps.refl s
  unfold State.sealedIn
  exact Keeps.auto

theorem State.plainIn_keeps (s : State) (a : Acc) (e : Envelope) (slow : Bool) : Keeps s (State.plainIn s a e slow).1 := by
  have h0 := @State.onPath_keeps
  have h1 := @State.execBody_keeps
  have k := Keeps.refl s
  unfold State.plainIn
  exact Keeps.auto

theorem State.judgeIn_keeps (s : State) (a : Acc) (e : Envelope) (slow : Bool) : Keeps s (State.judgeIn s a e slow).1 := by
  have h0 := @State.plainIn_keeps
  have h1 := @State.sealedIn_keeps
  have k := Keeps.refl s
  unfold State.judgeIn
  exact Keeps.auto

theorem State.envelopeIn_keeps (s : State) (a : Acc) (e : Envelope) (slow : Bool) : Keeps s (State.envelopeIn s a e slow).1 := by
  have h0 := @State.judgeIn_keeps
  have h1 := @State.keepResponse_keeps
  have k := Keeps.refl s
  unfold State.envelopeIn
  exact Keeps.auto

theorem State.sealReq_keeps (s : State) (a : Acc) (e : Envelope) (slow : Bool) : Keeps s (State.sealReq s a e slow).1 := by
  have h0 := @State.arrive_keeps
  have h1 := @State.envelopeIn_keeps
  have h2 := @State.refuseWrite_keeps
  have k := Keeps.refl s
  unfold State.sealReq
  exact Keeps.auto

theorem State.pathWrite_keeps (s : State) (a : Acc) (idx : Nat) (sub : Nat) (v : Nat) : Keeps s (State.pathWrite s a idx sub v).1 := by
  have h0 := @State.sealReq_keeps
  have h1 := @State.accessWrite_keeps
  have k := Keeps.refl s
  unfold State.pathWrite
  exact Keeps.auto

theorem State.sealResp_keeps (s : State) (a : Acc) (ready : Bool) : Keeps s (State.sealResp s a ready).1 := by
  have h0 := @State.accessRead_keeps
  have h1 := @State.arrive_keeps
  have h2 := @State.mailReady_keeps
  have h3 := @State.onPath_keeps
  have h4 := @State.settle_keeps
  have k := Keeps.refl s
  unfold State.sealResp
  exact Keeps.auto

theorem State.runWrite_keeps (s : State) (a : Acc) (idx : Nat) (sub : Nat) (v : Nat) : Keeps s (State.runWrite s a idx sub v) := by
  have h0 := @State.atTime_keeps
  have h1 := @State.pathWrite_keeps
  have h2 := @State.onPath_keeps
  have k := Keeps.refl s
  unfold State.runWrite
  exact Keeps.auto

theorem opSealReq_keeps (a : Acc) (e : Envelope) (slow : Bool) (s : State) : Keeps s (opSealReq a e slow s) := by
  have h0 := @State.atTime_keeps
  have h1 := @State.sealReq_keeps
  have h2 := @State.onPath_keeps
  have k := Keeps.refl s
  unfold opSealReq
  exact Keeps.auto

theorem opSealResp_keeps (a : Acc) (ready : Bool) (s : State) : Keeps s (opSealResp a ready s) := by
  have h0 := @State.atTime_keeps
  have h1 := @State.sealResp_keeps
  have h2 := @State.onPath_keeps
  have k := Keeps.refl s
  unfold opSealResp
  exact Keeps.auto

theorem opMbSubmit_keeps (a : Acc) (e : Envelope) (len : Nat) (slow : Bool) (s : State) : Keeps s (opMbSubmit a e len slow s) := by
  have h0 := @State.atTime_keeps
  have h1 := @State.arrive_keeps
  have h2 := @State.sealReq_keeps
  have k := Keeps.refl s
  unfold opMbSubmit
  exact Keeps.auto

theorem State.canAnswer_keeps (s : State) (c : Nat) (ab : Nat) (running : Bool) : Keeps s (State.canAnswer s c ab running) := by
  have h0 := @State.onCan_keeps
  have k := Keeps.refl s
  unfold State.canAnswer
  exact Keeps.auto

theorem opCanSdo_keeps (c : Nat) (stage : Nat) (write : Bool) (a : Acc) (idx : Nat) (sub : Nat) (v : Nat) (s : State) : Keeps s (opCanSdo c stage write a idx sub v s) := by
  have h0 := @State.atTime_keeps
  have h1 := @State.canAnswer_keeps
  have h2 := @State.onCan_keeps
  have h3 := @State.pathWrite_keeps
  have h4 := @State.onPath_keeps
  have h5 := @State.sealResp_keeps
  have h6 := @State.accessRead_keeps
  have k := Keeps.refl s
  unfold opCanSdo
  exact Keeps.auto

theorem opCanTimeout_keeps (c : Nat) (s : State) : Keeps s (opCanTimeout c s) := by
  have h0 := @State.canAnswer_keeps
  have k := Keeps.refl s
  unfold opCanTimeout
  exact Keeps.auto

theorem opCanNmt_keeps (c : Nat) (s : State) : Keeps s (opCanNmt c s) := by
  have h0 := @State.onCan_keeps
  have k := Keeps.refl s
  unfold opCanNmt
  exact Keeps.auto

theorem opCanHeartbeat_keeps (c : Nat) (s : State) : Keeps s (opCanHeartbeat c s) := by
  have h0 := @State.onCan_keeps
  have k := Keeps.refl s
  unfold opCanHeartbeat
  exact Keeps.auto

theorem opCanBusOff_keeps (c : Nat) (s : State) : Keeps s (opCanBusOff c s) := by
  have h0 := @State.endSessions_keeps
  have h1 := @State.onCan_keeps
  have k := Keeps.refl s
  unfold opCanBusOff
  exact Keeps.auto

theorem opCanRecovery_keeps (c : Nat) (s : State) : Keeps s (opCanRecovery c s) := by
  have h0 := @State.onCan_keeps
  have k := Keeps.refl s
  unfold opCanRecovery
  exact Keeps.auto

theorem State.mspBegin_keeps (s : State) (ready : Bool) : Keeps s (State.mspBegin s ready) := by
  have k := Keeps.refl s
  unfold State.mspBegin
  exact Keeps.auto

theorem State.mspBad_keeps (s : State) : Keeps s (State.mspBad s) := by
  have k := Keeps.refl s
  unfold State.mspBad
  exact Keeps.auto

theorem State.mspSend_keeps (s : State) (l : List Nat) : Keeps s (State.mspSend s l) := by
  have k := Keeps.refl s
  unfold State.mspSend
  exact Keeps.auto

theorem State.mspAnswer_keeps (s : State) (r : Nat × Nat × Nat) (slow : Bool) : Keeps s (State.mspAnswer s r slow) := by
  have h0 := @State.onPath_keeps
  have k := Keeps.refl s
  unfold State.mspAnswer
  exact Keeps.auto

theorem opMspWrite_keeps (a : Acc) (idx : Nat) (sub : Nat) (v : Nat) (ok : Bool) (ready : Bool) (slow : Bool) (s : State) : Keeps s (opMspWrite a idx sub v ok ready slow s) := by
  have h0 := @State.mspBegin_keeps
  have h1 := @State.atTime_keeps
  have h2 := @State.mspBad_keeps
  have h3 := @State.pathWrite_keeps
  have h4 := @State.mspAnswer_keeps
  have k := Keeps.refl s
  unfold opMspWrite
  exact Keeps.auto

theorem opMspRead_keeps (a : Acc) (idx : Nat) (sub : Nat) (ok : Bool) (ready : Bool) (slow : Bool) (s : State) : Keeps s (opMspRead a idx sub ok ready slow s) := by
  have h0 := @State.mspBegin_keeps
  have h1 := @State.atTime_keeps
  have h2 := @State.mspBad_keeps
  have h3 := @State.sealResp_keeps
  have h4 := @State.accessRead_keeps
  have h5 := @State.mspAnswer_keeps
  have k := Keeps.refl s
  unfold opMspRead
  exact Keeps.auto

theorem opMspFetch_keeps (ok : Bool) (ready : Bool) (s : State) : Keeps s (opMspFetch ok ready s) := by
  have h0 := @State.mspBegin_keeps
  have h1 := @State.mspBad_keeps
  have h2 := @State.mspSend_keeps
  have k := Keeps.refl s
  unfold opMspFetch
  exact Keeps.auto

theorem opMspState_keeps (ok : Bool) (ready : Bool) (s : State) : Keeps s (opMspState ok ready s) := by
  have h0 := @State.mspBegin_keeps
  have h1 := @State.mspBad_keeps
  have h2 := @State.mspSend_keeps
  have k := Keeps.refl s
  unfold opMspState
  exact Keeps.auto

theorem State.barFail_keeps (s : State) (c : Nat) (w : Nat) : Keeps s (State.barFail s c w) := by
  have h0 := @State.onPath_keeps
  have k := Keeps.refl s
  unfold State.barFail
  exact Keeps.auto

theorem opBarRead_keeps (a : Acc) (off : Nat) (w : Nat) (late : Bool) (s : State) : Keeps s (opBarRead a off w late s) := by
  have h0 := @State.atTime_keeps
  have h1 := @State.barFail_keeps
  have h2 := @State.arrive_keeps
  have h3 := @State.accessRead_keeps
  have h4 := @State.onPath_keeps
  have k := Keeps.refl s
  unfold opBarRead
  exact Keeps.auto

theorem opBarWrite_keeps (a : Acc) (off : Nat) (w : Nat) (v : Nat) (s : State) : Keeps s (opBarWrite a off w v s) := by
  have h0 := @State.atTime_keeps
  have h1 := @State.refuseWrite_keeps
  have h2 := @State.arrive_keeps
  have h3 := @State.runWrite_keeps
  have k := Keeps.refl s
  unfold opBarWrite
  exact Keeps.auto

theorem opBar4_keeps (write : Bool) (off : Nat) (len : Nat) (v : Nat) (s : State) : Keeps s (opBar4 write off len v s) := by
  have k := Keeps.refl s
  unfold opBar4
  exact Keeps.auto

theorem opDmaDone_keeps (s : State) : Keeps s (opDmaDone s) := by
  have h0 := @State.attn_keeps
  have k := Keeps.refl s
  unfold opDmaDone
  exact Keeps.auto

theorem opPcieUp_keeps (s : State) : Keeps s (opPcieUp s) := by
  have h0 := @State.clearFault_keeps
  have h1 := @State.setGroup_keeps
  have k := Keeps.refl s
  unfold opPcieUp
  exact Keeps.auto

theorem opPcieDown_keeps (s : State) : Keeps s (opPcieDown s) := by
  have h0 := @State.raise_keeps
  have h1 := @State.endSessions_keeps
  have h2 := @State.setGroup_keeps
  have k := Keeps.refl s
  unfold opPcieDown
  exact Keeps.auto

theorem State.esxiaDrop_keeps (s : State) : Keeps s (State.esxiaDrop s) := by
  have k := Keeps.refl s
  unfold State.esxiaDrop
  exact Keeps.auto

theorem State.esxiaIn_keeps (s : State) (a : Acc) (ok : Bool) : Keeps s (State.esxiaIn s a ok).1 := by
  have h0 := @State.esxiaAdmit_keeps
  have h1 := @State.esxiaDrop_keeps
  have h2 := @State.takeTerm_keeps
  have k := Keeps.refl s
  unfold State.esxiaIn
  exact Keeps.auto

theorem State.esxiaReply_keeps (s : State) (a : Acc) (tag : Nat) (status : Nat) (v : Nat) : Keeps s (State.esxiaReply s a tag status v) := by
  have h0 := @State.onPath_keeps
  have h1 := @State.sendOwn_keeps
  have k := Keeps.refl s
  unfold State.esxiaReply
  exact Keeps.auto

theorem opEsxiaPlain_keeps (a : Acc) (tag : Nat) (e : Envelope) (ok : Bool) (s : State) : Keeps s (opEsxiaPlain a tag e ok s) := by
  have h0 := @State.esxiaIn_keeps
  have h1 := @State.atTime_keeps
  have h2 := @State.execBody_keeps
  have h3 := @State.esxiaReply_keeps
  have k := Keeps.refl s
  unfold opEsxiaPlain
  exact Keeps.auto

theorem opEsxiaSealed_keeps (a : Acc) (tag : Nat) (e : Envelope) (ok : Bool) (s : State) : Keeps s (opEsxiaSealed a tag e ok s) := by
  have h0 := @State.esxiaIn_keeps
  have h1 := @State.atTime_keeps
  have h2 := @State.sealedIn_keeps
  have h3 := @State.esxiaReply_keeps
  have k := Keeps.refl s
  unfold opEsxiaSealed
  exact Keeps.auto

theorem opStoreDone_keeps (ok : Bool) (s : State) : Keeps s (opStoreDone ok s) := by
  have k := Keeps.refl s
  unfold opStoreDone
  exact Keeps.auto

theorem execSealReq_keeps (a : Acc) (e : Envelope) (slow : Bool) (s : State) : KeepsO s (execSealReq a e slow s) := by
  have h0 := @opSealReq_keeps
  have k := Keeps.refl s
  unfold execSealReq
  exact KeepsO.auto

theorem execSealResp_keeps (a : Acc) (ready : Bool) (s : State) : KeepsO s (execSealResp a ready s) := by
  have h0 := @opSealResp_keeps
  have k := Keeps.refl s
  unfold execSealResp
  exact KeepsO.auto

theorem execMbSubmit_keeps (a : Acc) (e : Envelope) (len : Nat) (slow : Bool) (s : State) : KeepsO s (execMbSubmit a e len slow s) := by
  have h0 := @opMbSubmit_keeps
  have k := Keeps.refl s
  unfold execMbSubmit
  exact KeepsO.auto

theorem execCanSdoTransfer_keeps (c : Nat) (stage : Nat) (write : Bool) (a : Acc) (idx : Nat) (sub : Nat) (v : Nat) (s : State) : KeepsO s (execCanSdoTransfer c stage write a idx sub v s) := by
  have h0 := @opCanSdo_keeps
  have k := Keeps.refl s
  unfold execCanSdoTransfer
  exact KeepsO.auto

theorem execCanSdoTimeout_keeps (now : Nat) (c : Nat) (s : State) : KeepsO s (execCanSdoTimeout now c s) := by
  have h0 := @opCanTimeout_keeps
  have h1 := @State.atTime_keeps
  have k := Keeps.refl s
  unfold execCanSdoTimeout
  exact KeepsO.auto

theorem execCanNmtRx_keeps (now : Nat) (c : Nat) (s : State) : KeepsO s (execCanNmtRx now c s) := by
  have h0 := @opCanNmt_keeps
  have h1 := @State.atTime_keeps
  have k := Keeps.refl s
  unfold execCanNmtRx
  exact KeepsO.auto

theorem execCanHeartbeatTx_keeps (now : Nat) (c : Nat) (s : State) : KeepsO s (execCanHeartbeatTx now c s) := by
  have h0 := @opCanHeartbeat_keeps
  have h1 := @State.atTime_keeps
  have k := Keeps.refl s
  unfold execCanHeartbeatTx
  exact KeepsO.auto

theorem execCanBusOff_keeps (now : Nat) (c : Nat) (s : State) : KeepsO s (execCanBusOff now c s) := by
  have h0 := @opCanBusOff_keeps
  have h1 := @State.atTime_keeps
  have k := Keeps.refl s
  unfold execCanBusOff
  exact KeepsO.auto

theorem execCanBusOffRecovery_keeps (now : Nat) (c : Nat) (s : State) : KeepsO s (execCanBusOffRecovery now c s) := by
  have h0 := @opCanRecovery_keeps
  have h1 := @State.atTime_keeps
  have k := Keeps.refl s
  unfold execCanBusOffRecovery
  exact KeepsO.auto

theorem execMspWrite_keeps (a : Acc) (idx : Nat) (sub : Nat) (v : Nat) (ok : Bool) (ready : Bool) (slow : Bool) (s : State) : KeepsO s (execMspWrite a idx sub v ok ready slow s) := by
  have h0 := @opMspWrite_keeps
  have k := Keeps.refl s
  unfold execMspWrite
  exact KeepsO.auto

theorem execMspRead_keeps (a : Acc) (idx : Nat) (sub : Nat) (ok : Bool) (ready : Bool) (slow : Bool) (s : State) : KeepsO s (execMspRead a idx sub ok ready slow s) := by
  have h0 := @opMspRead_keeps
  have k := Keeps.refl s
  unfold execMspRead
  exact KeepsO.auto

theorem execMspFetch_keeps (now : Nat) (ok : Bool) (ready : Bool) (s : State) : KeepsO s (execMspFetch now ok ready s) := by
  have h0 := @opMspFetch_keeps
  have h1 := @State.atTime_keeps
  have k := Keeps.refl s
  unfold execMspFetch
  exact KeepsO.auto

theorem execMspState_keeps (now : Nat) (ok : Bool) (ready : Bool) (s : State) : KeepsO s (execMspState now ok ready s) := by
  have h0 := @opMspState_keeps
  have h1 := @State.atTime_keeps
  have k := Keeps.refl s
  unfold execMspState
  exact KeepsO.auto

theorem execBar0Read_keeps (a : Acc) (off : Nat) (w : Nat) (late : Bool) (s : State) : KeepsO s (execBar0Read a off w late s) := by
  have h0 := @opBarRead_keeps
  have k := Keeps.refl s
  unfold execBar0Read
  exact KeepsO.auto

theorem execBar0Write_keeps (a : Acc) (off : Nat) (w : Nat) (v : Nat) (s : State) : KeepsO s (execBar0Write a off w v s) := by
  have h0 := @opBarWrite_keeps
  have k := Keeps.refl s
  unfold execBar0Write
  exact KeepsO.auto

theorem execBar4Access_keeps (now : Nat) (write : Bool) (off : Nat) (len : Nat) (v : Nat) (s : State) : KeepsO s (execBar4Access now write off len v s) := by
  have h0 := @opBar4_keeps
  have h1 := @State.atTime_keeps
  have k := Keeps.refl s
  unfold execBar4Access
  exact KeepsO.auto

theorem execDmaDone_keeps (now : Nat) (s : State) : KeepsO s (execDmaDone now s) := by
  have h0 := @opDmaDone_keeps
  have h1 := @State.atTime_keeps
  have k := Keeps.refl s
  unfold execDmaDone
  exact KeepsO.auto

theorem execPcieLinkUp_keeps (now : Nat) (s : State) : KeepsO s (execPcieLinkUp now s) := by
  have h0 := @opPcieUp_keeps
  have h1 := @State.atTime_keeps
  have k := Keeps.refl s
  unfold execPcieLinkUp
  exact KeepsO.auto

theorem execPcieLinkDown_keeps (now : Nat) (s : State) : KeepsO s (execPcieLinkDown now s) := by
  have h0 := @opPcieDown_keeps
  have h1 := @State.atTime_keeps
  have k := Keeps.refl s
  unfold execPcieLinkDown
  exact KeepsO.auto

theorem execEsxiaPlainRequest_keeps (a : Acc) (tag : Nat) (e : Envelope) (ok : Bool) (s : State) : KeepsO s (execEsxiaPlainRequest a tag e ok s) := by
  have h0 := @opEsxiaPlain_keeps
  have k := Keeps.refl s
  unfold execEsxiaPlainRequest
  exact KeepsO.auto

theorem execEsxiaSealedRequest_keeps (a : Acc) (tag : Nat) (e : Envelope) (ok : Bool) (s : State) : KeepsO s (execEsxiaSealedRequest a tag e ok s) := by
  have h0 := @opEsxiaSealed_keeps
  have k := Keeps.refl s
  unfold execEsxiaSealedRequest
  exact KeepsO.auto

theorem execDictStoreDone_keeps (now : Nat) (ok : Bool) (s : State) : KeepsO s (execDictStoreDone now ok s) := by
  have h0 := @opStoreDone_keeps
  have h1 := @State.atTime_keeps
  have k := Keeps.refl s
  unfold execDictStoreDone
  exact KeepsO.auto

end Sys2Proof.Machine
end

