-- ==== Sys2Proof/Laws/KeepEngineAlu.lean ====
section
/-!
SUPPORT. What the operations of Machine/EngineAlu.lean leave.
-/
set_option Elab.async false
namespace Sys2Proof.Machine

theorem opAlu_keeps (e : Nat) (d : Nat) (a : Nat) (b : Nat) (fn : Nat) (f : Nat → Nat → Nat → Nat) (s : State) : Keeps s (opAlu e d a b fn f s) := by
  have h0 := @opIns_keeps
  have h1 := @State.setReg_keeps
  have h2 := @State.advance_keeps
  have k := Keeps.refl s
  unfold opAlu
  exact Keeps.auto

theorem opAluK_keeps (op : Nat) (e : Nat) (d : Nat) (a : Nat) (imm : Nat) (f : Nat → Nat → Nat) (s : State) : Keeps s (opAluK op e d a imm f s) := by
  have h0 := @opIns_keeps
  have h1 := @State.setReg_keeps
  have h2 := @State.advance_keeps
  have k := Keeps.refl s
  unfold opAluK
  exact Keeps.auto

theorem opShiftK_keeps (op : Nat) (e : Nat) (d : Nat) (a : Nat) (imm : Nat) (f : Nat → Nat → Nat → Nat) (s : State) : Keeps s (opShiftK op e d a imm f s) := by
  have h0 := @opIns_keeps
  have h1 := @State.trapIns_keeps
  have h2 := @opAluK_keeps
  have k := Keeps.refl s
  unfold opShiftK
  exact Keeps.auto

theorem execAdd_keeps (e : Nat) (d : Nat) (a : Nat) (b : Nat) (s : State) : KeepsO s (execAdd e d a b s) := by
  have h0 := @opAlu_keeps
  have k := Keeps.refl s
  unfold execAdd
  exact KeepsO.auto

theorem execSub_keeps (e : Nat) (d : Nat) (a : Nat) (b : Nat) (s : State) : KeepsO s (execSub e d a b s) := by
  have h0 := @opAlu_keeps
  have k := Keeps.refl s
  unfold execSub
  exact KeepsO.auto

theorem execAnd_keeps (e : Nat) (d : Nat) (a : Nat) (b : Nat) (s : State) : KeepsO s (execAnd e d a b s) := by
  have h0 := @opAlu_keeps
  have k := Keeps.refl s
  unfold execAnd
  exact KeepsO.auto

theorem execIor_keeps (e : Nat) (d : Nat) (a : Nat) (b : Nat) (s : State) : KeepsO s (execIor e d a b s) := by
  have h0 := @opAlu_keeps
  have k := Keeps.refl s
  unfold execIor
  exact KeepsO.auto

theorem execXor_keeps (e : Nat) (d : Nat) (a : Nat) (b : Nat) (s : State) : KeepsO s (execXor e d a b s) := by
  have h0 := @opAlu_keeps
  have k := Keeps.refl s
  unfold execXor
  exact KeepsO.auto

theorem execLsl_keeps (e : Nat) (d : Nat) (a : Nat) (b : Nat) (s : State) : KeepsO s (execLsl e d a b s) := by
  have h0 := @opAlu_keeps
  have k := Keeps.refl s
  unfold execLsl
  exact KeepsO.auto

theorem execLsr_keeps (e : Nat) (d : Nat) (a : Nat) (b : Nat) (s : State) : KeepsO s (execLsr e d a b s) := by
  have h0 := @opAlu_keeps
  have k := Keeps.refl s
  unfold execLsr
  exact KeepsO.auto

theorem execAsr_keeps (e : Nat) (d : Nat) (a : Nat) (b : Nat) (s : State) : KeepsO s (execAsr e d a b s) := by
  have h0 := @opAlu_keeps
  have k := Keeps.refl s
  unfold execAsr
  exact KeepsO.auto

theorem execLts_keeps (e : Nat) (d : Nat) (a : Nat) (b : Nat) (s : State) : KeepsO s (execLts e d a b s) := by
  have h0 := @opAlu_keeps
  have k := Keeps.refl s
  unfold execLts
  exact KeepsO.auto

theorem execLtu_keeps (e : Nat) (d : Nat) (a : Nat) (b : Nat) (s : State) : KeepsO s (execLtu e d a b s) := by
  have h0 := @opAlu_keeps
  have k := Keeps.refl s
  unfold execLtu
  exact KeepsO.auto

theorem execMul_keeps (e : Nat) (d : Nat) (a : Nat) (b : Nat) (s : State) : KeepsO s (execMul e d a b s) := by
  have h0 := @opAlu_keeps
  have k := Keeps.refl s
  unfold execMul
  exact KeepsO.auto

theorem execMulhs_keeps (e : Nat) (d : Nat) (a : Nat) (b : Nat) (s : State) : KeepsO s (execMulhs e d a b s) := by
  have h0 := @opAlu_keeps
  have k := Keeps.refl s
  unfold execMulhs
  exact KeepsO.auto

theorem execMulhu_keeps (e : Nat) (d : Nat) (a : Nat) (b : Nat) (s : State) : KeepsO s (execMulhu e d a b s) := by
  have h0 := @opAlu_keeps
  have k := Keeps.refl s
  unfold execMulhu
  exact KeepsO.auto

theorem execDivs_keeps (e : Nat) (d : Nat) (a : Nat) (b : Nat) (s : State) : KeepsO s (execDivs e d a b s) := by
  have h0 := @opAlu_keeps
  have k := Keeps.refl s
  unfold execDivs
  exact KeepsO.auto

theorem execDivu_keeps (e : Nat) (d : Nat) (a : Nat) (b : Nat) (s : State) : KeepsO s (execDivu e d a b s) := by
  have h0 := @opAlu_keeps
  have k := Keeps.refl s
  unfold execDivu
  exact KeepsO.auto

theorem execRems_keeps (e : Nat) (d : Nat) (a : Nat) (b : Nat) (s : State) : KeepsO s (execRems e d a b s) := by
  have h0 := @opAlu_keeps
  have k := Keeps.refl s
  unfold execRems
  exact KeepsO.auto

theorem execRemu_keeps (e : Nat) (d : Nat) (a : Nat) (b : Nat) (s : State) : KeepsO s (execRemu e d a b s) := by
  have h0 := @opAlu_keeps
  have k := Keeps.refl s
  unfold execRemu
  exact KeepsO.auto

theorem execLzc_keeps (e : Nat) (d : Nat) (a : Nat) (s : State) : KeepsO s (execLzc e d a s) := by
  have h0 := @opAlu_keeps
  have k := Keeps.refl s
  unfold execLzc
  exact KeepsO.auto

theorem execOnes_keeps (e : Nat) (d : Nat) (a : Nat) (s : State) : KeepsO s (execOnes e d a s) := by
  have h0 := @opAlu_keeps
  have k := Keeps.refl s
  unfold execOnes
  exact KeepsO.auto

theorem execAddk_keeps (e : Nat) (d : Nat) (a : Nat) (imm : Nat) (s : State) : KeepsO s (execAddk e d a imm s) := by
  have h0 := @opAluK_keeps
  have k := Keeps.refl s
  unfold execAddk
  exact KeepsO.auto

theorem execAndk_keeps (e : Nat) (d : Nat) (a : Nat) (imm : Nat) (s : State) : KeepsO s (execAndk e d a imm s) := by
  have h0 := @opAluK_keeps
  have k := Keeps.refl s
  unfold execAndk
  exact KeepsO.auto

theorem execIork_keeps (e : Nat) (d : Nat) (a : Nat) (imm : Nat) (s : State) : KeepsO s (execIork e d a imm s) := by
  have h0 := @opAluK_keeps
  have k := Keeps.refl s
  unfold execIork
  exact KeepsO.auto

theorem execXork_keeps (e : Nat) (d : Nat) (a : Nat) (imm : Nat) (s : State) : KeepsO s (execXork e d a imm s) := by
  have h0 := @opAluK_keeps
  have k := Keeps.refl s
  unfold execXork
  exact KeepsO.auto

theorem execLtsk_keeps (e : Nat) (d : Nat) (a : Nat) (imm : Nat) (s : State) : KeepsO s (execLtsk e d a imm s) := by
  have h0 := @opAluK_keeps
  have k := Keeps.refl s
  unfold execLtsk
  exact KeepsO.auto

theorem execLtuk_keeps (e : Nat) (d : Nat) (a : Nat) (imm : Nat) (s : State) : KeepsO s (execLtuk e d a imm s) := by
  have h0 := @opAluK_keeps
  have k := Keeps.refl s
  unfold execLtuk
  exact KeepsO.auto

theorem execKhi_keeps (e : Nat) (d : Nat) (a : Nat) (imm : Nat) (s : State) : KeepsO s (execKhi e d a imm s) := by
  have h0 := @opAluK_keeps
  have h1 := @opIns_keeps
  have h2 := @State.trapIns_keeps
  have k := Keeps.refl s
  unfold execKhi
  exact KeepsO.auto

theorem execLslk_keeps (e : Nat) (d : Nat) (a : Nat) (imm : Nat) (s : State) : KeepsO s (execLslk e d a imm s) := by
  have h0 := @opShiftK_keeps
  have k := Keeps.refl s
  unfold execLslk
  exact KeepsO.auto

theorem execLsrk_keeps (e : Nat) (d : Nat) (a : Nat) (imm : Nat) (s : State) : KeepsO s (execLsrk e d a imm s) := by
  have h0 := @opShiftK_keeps
  have k := Keeps.refl s
  unfold execLsrk
  exact KeepsO.auto

theorem execAsrk_keeps (e : Nat) (d : Nat) (a : Nat) (imm : Nat) (s : State) : KeepsO s (execAsrk e d a imm s) := by
  have h0 := @opShiftK_keeps
  have k := Keeps.refl s
  unfold execAsrk
  exact KeepsO.auto

theorem opLoad_keeps (op : Nat) (e : Nat) (d : Nat) (a : Nat) (imm : Nat) (n : Nat) (f : Nat → Nat) (s : State) : Keeps s (opLoad op e d a imm n f s) := by
  have h0 := @opIns_keeps
  have h1 := @State.trapIns_keeps
  have h2 := @State.setReg_keeps
  have h3 := @State.advance_keeps
  have k := Keeps.refl s
  unfold opLoad
  exact Keeps.auto

theorem loadOutcome_keeps (op : Nat) (e : Nat) (d : Nat) (a : Nat) (imm : Nat) (n : Nat) (f : Nat → Nat) (s : State) : KeepsO s (loadOutcome op e d a imm n f s) := by
  have h0 := @opLoad_keeps
  have k := Keeps.refl s
  unfold loadOutcome
  exact KeepsO.auto

theorem loadSc_keeps (op : Nat) (e : Nat) (d : Nat) (a : Nat) (imm : Nat) (n : Nat) (f : Nat → Nat) (s : State) : KeepsO s (loadSc op e d a imm n f s) := by
  have h0 := @loadOutcome_keeps
  have h1 := @opIns_keeps
  have h2 := @State.trapIns_keeps
  have k := Keeps.refl s
  unfold loadSc
  exact KeepsO.auto

theorem opStore_keeps (op : Nat) (e : Nat) (b : Nat) (a : Nat) (imm : Nat) (n : Nat) (v : Nat) (s : State) : Keeps s (opStore op e b a imm n v s) := by
  have h0 := @opIns_keeps
  have h1 := @State.trapIns_keeps
  have h2 := @State.writeLoc_keeps
  have h3 := @State.advance_keeps
  have k := Keeps.refl s
  unfold opStore
  exact Keeps.auto

theorem storeOutcome_keeps (op : Nat) (e : Nat) (b : Nat) (a : Nat) (imm : Nat) (n : Nat) (v : Nat) (s : State) : KeepsO s (storeOutcome op e b a imm n v s) := by
  have h0 := @opStore_keeps
  have k := Keeps.refl s
  unfold storeOutcome
  exact KeepsO.auto

theorem storeSc_keeps (op : Nat) (e : Nat) (b : Nat) (a : Nat) (imm : Nat) (n : Nat) (v : Nat) (s : State) : KeepsO s (storeSc op e b a imm n v s) := by
  have h0 := @storeOutcome_keeps
  have h1 := @opIns_keeps
  have h2 := @State.trapIns_keeps
  have k := Keeps.refl s
  unfold storeSc
  exact KeepsO.auto

theorem opAtomic_keeps (e : Nat) (d : Nat) (a : Nat) (b : Nat) (fn : Nat) (f : Nat → Nat → Nat) (s : State) : Keeps s (opAtomic e d a b fn f s) := by
  have h0 := @State.setReg_keeps
  have h1 := @State.writeLoc_keeps
  have h2 := @State.advance_keeps
  have h3 := @opIns_keeps
  have h4 := @State.trapIns_keeps
  have k := Keeps.refl s
  unfold opAtomic
  exact Keeps.auto

theorem execLd8s_keeps (e : Nat) (d : Nat) (a : Nat) (imm : Nat) (s : State) : KeepsO s (execLd8s e d a imm s) := by
  have h0 := @loadOutcome_keeps
  have k := Keeps.refl s
  unfold execLd8s
  exact KeepsO.auto

theorem execLd8u_keeps (e : Nat) (d : Nat) (a : Nat) (imm : Nat) (s : State) : KeepsO s (execLd8u e d a imm s) := by
  have h0 := @loadOutcome_keeps
  have k := Keeps.refl s
  unfold execLd8u
  exact KeepsO.auto

theorem execLd16s_keeps (e : Nat) (d : Nat) (a : Nat) (imm : Nat) (s : State) : KeepsO s (execLd16s e d a imm s) := by
  have h0 := @loadOutcome_keeps
  have k := Keeps.refl s
  unfold execLd16s
  exact KeepsO.auto

theorem execLd16u_keeps (e : Nat) (d : Nat) (a : Nat) (imm : Nat) (s : State) : KeepsO s (execLd16u e d a imm s) := by
  have h0 := @loadOutcome_keeps
  have k := Keeps.refl s
  unfold execLd16u
  exact KeepsO.auto

theorem execLd32s_keeps (e : Nat) (d : Nat) (a : Nat) (imm : Nat) (s : State) : KeepsO s (execLd32s e d a imm s) := by
  have h0 := @loadOutcome_keeps
  have k := Keeps.refl s
  unfold execLd32s
  exact KeepsO.auto

theorem execLd32u_keeps (e : Nat) (d : Nat) (a : Nat) (imm : Nat) (s : State) : KeepsO s (execLd32u e d a imm s) := by
  have h0 := @loadSc_keeps
  have k := Keeps.refl s
  unfold execLd32u
  exact KeepsO.auto

theorem execLd64_keeps (e : Nat) (d : Nat) (a : Nat) (imm : Nat) (s : State) : KeepsO s (execLd64 e d a imm s) := by
  have h0 := @loadSc_keeps
  have k := Keeps.refl s
  unfold execLd64
  exact KeepsO.auto

theorem execSt8_keeps (e : Nat) (b : Nat) (a : Nat) (imm : Nat) (s : State) : KeepsO s (execSt8 e b a imm s) := by
  have h0 := @storeOutcome_keeps
  have k := Keeps.refl s
  unfold execSt8
  exact KeepsO.auto

theorem execSt16_keeps (e : Nat) (b : Nat) (a : Nat) (imm : Nat) (s : State) : KeepsO s (execSt16 e b a imm s) := by
  have h0 := @storeOutcome_keeps
  have k := Keeps.refl s
  unfold execSt16
  exact KeepsO.auto

theorem execSt32_keeps (e : Nat) (b : Nat) (a : Nat) (imm : Nat) (s : State) : KeepsO s (execSt32 e b a imm s) := by
  have h0 := @storeOutcome_keeps
  have k := Keeps.refl s
  unfold execSt32
  exact KeepsO.auto

theorem execSt64_keeps (e : Nat) (b : Nat) (a : Nat) (imm : Nat) (s : State) : KeepsO s (execSt64 e b a imm s) := by
  have h0 := @storeSc_keeps
  have k := Keeps.refl s
  unfold execSt64
  exact KeepsO.auto

theorem execAtswap_keeps (e : Nat) (d : Nat) (a : Nat) (b : Nat) (s : State) : KeepsO s (execAtswap e d a b s) := by
  have h0 := @opAtomic_keeps
  have k := Keeps.refl s
  unfold execAtswap
  exact KeepsO.auto

theorem execAtadd_keeps (e : Nat) (d : Nat) (a : Nat) (b : Nat) (s : State) : KeepsO s (execAtadd e d a b s) := by
  have h0 := @opAtomic_keeps
  have k := Keeps.refl s
  unfold execAtadd
  exact KeepsO.auto

theorem execAtand_keeps (e : Nat) (d : Nat) (a : Nat) (b : Nat) (s : State) : KeepsO s (execAtand e d a b s) := by
  have h0 := @opAtomic_keeps
  have k := Keeps.refl s
  unfold execAtand
  exact KeepsO.auto

theorem execAtior_keeps (e : Nat) (d : Nat) (a : Nat) (b : Nat) (s : State) : KeepsO s (execAtior e d a b s) := by
  have h0 := @opAtomic_keeps
  have k := Keeps.refl s
  unfold execAtior
  exact KeepsO.auto

theorem execOrder_keeps (e : Nat) (s : State) : KeepsO s (execOrder e s) := by
  have h0 := @opIns_keeps
  have h1 := @State.advance_keeps
  have k := Keeps.refl s
  unfold execOrder
  exact KeepsO.auto

theorem opBranch_keeps (op : Nat) (e : Nat) (a : Nat) (b : Nat) (off : Nat) (f : Nat → Nat → Nat → Bool) (s : State) : Keeps s (opBranch op e a b off f s) := by
  have h0 := @opIns_keeps
  have h1 := @State.done_keeps
  have h2 := @State.advance_keeps
  have k := Keeps.refl s
  unfold opBranch
  exact Keeps.auto

theorem execBreq_keeps (e : Nat) (a : Nat) (b : Nat) (off : Nat) (s : State) : KeepsO s (execBreq e a b off s) := by
  have h0 := @opBranch_keeps
  have k := Keeps.refl s
  unfold execBreq
  exact KeepsO.auto

theorem execBrne_keeps (e : Nat) (a : Nat) (b : Nat) (off : Nat) (s : State) : KeepsO s (execBrne e a b off s) := by
  have h0 := @opBranch_keeps
  have k := Keeps.refl s
  unfold execBrne
  exact KeepsO.auto

theorem execBrlts_keeps (e : Nat) (a : Nat) (b : Nat) (off : Nat) (s : State) : KeepsO s (execBrlts e a b off s) := by
  have h0 := @opBranch_keeps
  have k := Keeps.refl s
  unfold execBrlts
  exact KeepsO.auto

theorem execBrges_keeps (e : Nat) (a : Nat) (b : Nat) (off : Nat) (s : State) : KeepsO s (execBrges e a b off s) := by
  have h0 := @opBranch_keeps
  have k := Keeps.refl s
  unfold execBrges
  exact KeepsO.auto

theorem execBrltu_keeps (e : Nat) (a : Nat) (b : Nat) (off : Nat) (s : State) : KeepsO s (execBrltu e a b off s) := by
  have h0 := @opBranch_keeps
  have k := Keeps.refl s
  unfold execBrltu
  exact KeepsO.auto

theorem execBrgeu_keeps (e : Nat) (a : Nat) (b : Nat) (off : Nat) (s : State) : KeepsO s (execBrgeu e a b off s) := by
  have h0 := @opBranch_keeps
  have k := Keeps.refl s
  unfold execBrgeu
  exact KeepsO.auto

theorem execGo_keeps (e : Nat) (off : Nat) (s : State) : KeepsO s (execGo e off s) := by
  have h0 := @opIns_keeps
  have h1 := @State.done_keeps
  have k := Keeps.refl s
  unfold execGo
  exact KeepsO.auto

theorem execCall_keeps (e : Nat) (off : Nat) (s : State) : KeepsO s (execCall e off s) := by
  have h0 := @opIns_keeps
  have h1 := @State.setReg_keeps
  have h2 := @State.done_keeps
  have k := Keeps.refl s
  unfold execCall
  exact KeepsO.auto

theorem execGor_keeps (e : Nat) (d : Nat) (a : Nat) (imm : Nat) (s : State) : KeepsO s (execGor e d a imm s) := by
  have h0 := @opIns_keeps
  have h1 := @State.setReg_keeps
  have h2 := @State.done_keeps
  have k := Keeps.refl s
  unfold execGor
  exact KeepsO.auto

end Sys2Proof.Machine
end

