-- ==== Sys2Proof/Laws/KeepEngineFp.lean ====
section
/-!
SUPPORT. What the operations of Machine/EngineFp.lean leave.
-/
set_option Elab.async false
namespace Sys2Proof.Machine

theorem opFp_keeps (e : Nat) (d : Nat) (a : Nat) (b : Nat) (fn : Nat) (f : Nat → Nat → Nat → Nat × Nat) (s : State) : Keeps s (opFp e d a b fn f s) := by
  have h0 := @opInsSc_keeps
  have h1 := @State.draw_keeps
  have h2 := @State.stick_keeps
  have h3 := @State.setFreg_keeps
  have h4 := @State.advance_keeps
  have k := Keeps.refl s
  unfold opFp
  exact Keeps.auto

theorem opFpG_keeps (e : Nat) (d : Nat) (a : Nat) (b : Nat) (fn : Nat) (f : Nat → Nat → Nat → Nat × Nat) (s : State) : Keeps s (opFpG e d a b fn f s) := by
  have h0 := @opInsSc_keeps
  have h1 := @State.draw_keeps
  have h2 := @State.stick_keeps
  have h3 := @State.setReg_keeps
  have h4 := @State.advance_keeps
  have k := Keeps.refl s
  unfold opFpG
  exact Keeps.auto

theorem opGFp_keeps (e : Nat) (d : Nat) (a : Nat) (fn : Nat) (f : Nat → Nat × Nat) (s : State) : Keeps s (opGFp e d a fn f s) := by
  have h0 := @opInsSc_keeps
  have h1 := @State.stick_keeps
  have h2 := @State.setFreg_keeps
  have h3 := @State.advance_keeps
  have k := Keeps.refl s
  unfold opGFp
  exact Keeps.auto

theorem execDadd_keeps (e : Nat) (d : Nat) (a : Nat) (b : Nat) (s : State) : KeepsO s (execDadd e d a b s) := by
  have h0 := @opFp_keeps
  have k := Keeps.refl s
  unfold execDadd
  exact KeepsO.auto

theorem execDsub_keeps (e : Nat) (d : Nat) (a : Nat) (b : Nat) (s : State) : KeepsO s (execDsub e d a b s) := by
  have h0 := @opFp_keeps
  have k := Keeps.refl s
  unfold execDsub
  exact KeepsO.auto

theorem execDmul_keeps (e : Nat) (d : Nat) (a : Nat) (b : Nat) (s : State) : KeepsO s (execDmul e d a b s) := by
  have h0 := @opFp_keeps
  have k := Keeps.refl s
  unfold execDmul
  exact KeepsO.auto

theorem execDdiv_keeps (e : Nat) (d : Nat) (a : Nat) (b : Nat) (s : State) : KeepsO s (execDdiv e d a b s) := by
  have h0 := @opFp_keeps
  have k := Keeps.refl s
  unfold execDdiv
  exact KeepsO.auto

theorem execDmin_keeps (e : Nat) (d : Nat) (a : Nat) (b : Nat) (s : State) : KeepsO s (execDmin e d a b s) := by
  have h0 := @opFp_keeps
  have k := Keeps.refl s
  unfold execDmin
  exact KeepsO.auto

theorem execDmax_keeps (e : Nat) (d : Nat) (a : Nat) (b : Nat) (s : State) : KeepsO s (execDmax e d a b s) := by
  have h0 := @opFp_keeps
  have k := Keeps.refl s
  unfold execDmax
  exact KeepsO.auto

theorem execDsqrt_keeps (e : Nat) (d : Nat) (a : Nat) (s : State) : KeepsO s (execDsqrt e d a s) := by
  have h0 := @opFp_keeps
  have k := Keeps.refl s
  unfold execDsqrt
  exact KeepsO.auto

theorem execDneg_keeps (e : Nat) (d : Nat) (a : Nat) (s : State) : KeepsO s (execDneg e d a s) := by
  have h0 := @opFp_keeps
  have k := Keeps.refl s
  unfold execDneg
  exact KeepsO.auto

theorem execDabs_keeps (e : Nat) (d : Nat) (a : Nat) (s : State) : KeepsO s (execDabs e d a s) := by
  have h0 := @opFp_keeps
  have k := Keeps.refl s
  unfold execDabs
  exact KeepsO.auto

theorem execDceq_keeps (e : Nat) (d : Nat) (a : Nat) (b : Nat) (s : State) : KeepsO s (execDceq e d a b s) := by
  have h0 := @opFpG_keeps
  have k := Keeps.refl s
  unfold execDceq
  exact KeepsO.auto

theorem execDclt_keeps (e : Nat) (d : Nat) (a : Nat) (b : Nat) (s : State) : KeepsO s (execDclt e d a b s) := by
  have h0 := @opFpG_keeps
  have k := Keeps.refl s
  unfold execDclt
  exact KeepsO.auto

theorem execDcle_keeps (e : Nat) (d : Nat) (a : Nat) (b : Nat) (s : State) : KeepsO s (execDcle e d a b s) := by
  have h0 := @opFpG_keeps
  have k := Keeps.refl s
  unfold execDcle
  exact KeepsO.auto

theorem execDtoi_keeps (e : Nat) (d : Nat) (a : Nat) (s : State) : KeepsO s (execDtoi e d a s) := by
  have h0 := @opFpG_keeps
  have k := Keeps.refl s
  unfold execDtoi
  exact KeepsO.auto

theorem execItod_keeps (e : Nat) (d : Nat) (a : Nat) (s : State) : KeepsO s (execItod e d a s) := by
  have h0 := @opGFp_keeps
  have k := Keeps.refl s
  unfold execItod
  exact KeepsO.auto

theorem execDtog_keeps (e : Nat) (d : Nat) (a : Nat) (s : State) : KeepsO s (execDtog e d a s) := by
  have h0 := @opFpG_keeps
  have k := Keeps.refl s
  unfold execDtog
  exact KeepsO.auto

theorem execGtod_keeps (e : Nat) (d : Nat) (a : Nat) (s : State) : KeepsO s (execGtod e d a s) := by
  have h0 := @opGFp_keeps
  have k := Keeps.refl s
  unfold execGtod
  exact KeepsO.auto

theorem opFload_keeps (e : Nat) (d : Nat) (a : Nat) (imm : Nat) (s : State) : Keeps s (opFload e d a imm s) := by
  have h0 := @opInsSc_keeps
  have h1 := @State.trapIns_keeps
  have h2 := @State.setFreg_keeps
  have h3 := @State.advance_keeps
  have k := Keeps.refl s
  unfold opFload
  exact Keeps.auto

theorem execDld_keeps (e : Nat) (d : Nat) (a : Nat) (imm : Nat) (s : State) : KeepsO s (execDld e d a imm s) := by
  have h0 := @opFload_keeps
  have k := Keeps.refl s
  unfold execDld
  exact KeepsO.auto

theorem execDst_keeps (e : Nat) (b : Nat) (a : Nat) (imm : Nat) (s : State) : KeepsO s (execDst e b a imm s) := by
  have h0 := @storeSc_keeps
  have k := Keeps.refl s
  unfold execDst
  exact KeepsO.auto

end Sys2Proof.Machine
end

