-- ==== Sys2Proof/Laws/KeepEngineSys.lean ====
section
/-!
SUPPORT. What the operations of Machine/EngineSys.lean leave.
-/
set_option Elab.async false
namespace Sys2Proof.Machine

theorem opTnow_keeps (e : Nat) (d : Nat) (s : State) : Keeps s (opTnow e d s) := by
  have h0 := @opIns_keeps
  have h1 := @State.setReg_keeps
  have h2 := @State.advance_keeps
  have h3 := @State.trapIns_keeps
  have k := Keeps.refl s
  unfold opTnow
  exact Keeps.auto

theorem opTseq_keeps (e : Nat) (d : Nat) (s : State) : Keeps s (opTseq e d s) := by
  have h0 := @opIns_keeps
  have h1 := @State.setReg_keeps
  have h2 := @State.advance_keeps
  have k := Keeps.refl s
  unfold opTseq
  exact Keeps.auto

theorem opText_keeps (e : Nat) (d : Nat) (a : Nat) (b : Nat) (s : State) : Keeps s (opText e d a b s) := by
  have h0 := @opIns_keeps
  have h1 := @State.trapIns_keeps
  have h2 := @State.setReg_keeps
  have h3 := @State.writeLoc_keeps
  have h4 := @State.advance_keeps
  have k := Keeps.refl s
  unfold opText
  exact Keeps.auto

theorem opTwait_keeps (e : Nat) (a : Nat) (s : State) : Keeps s (opTwait e a s) := by
  have h0 := @opIns_keeps
  have h1 := @State.advance_keeps
  have h2 := @State.retire_keeps
  have k := Keeps.refl s
  unfold opTwait
  exact Keeps.auto

theorem State.resume_keeps (s : State) (e : Nat) : Keeps s (State.resume s e) := by
  have k := Keeps.refl s
  unfold State.resume
  exact Keeps.auto

theorem opTwaitResume_keeps (e : Nat) (s : State) : Keeps s (opTwaitResume e s) := by
  have h0 := @State.resume_keeps
  have k := Keeps.refl s
  unfold opTwaitResume
  exact Keeps.auto

theorem opGirth_keeps (e : Nat) (d : Nat) (a : Nat) (b : Nat) (fn : Nat) (f : Nat → Nat → Nat) (s : State) : Keeps s (opGirth e d a b fn f s) := by
  have h0 := @opIns_keeps
  have h1 := @State.setReg_keeps
  have h2 := @State.advance_keeps
  have k := Keeps.refl s
  unfold opGirth
  exact Keeps.auto

theorem State.qDrop_keeps (s : State) (q : Nat) : Keeps s (State.qDrop s q) := by
  have h0 := @State.setQueue_keeps
  have k := Keeps.refl s
  unfold State.qDrop
  exact Keeps.auto

theorem opQpop_keeps (e : Nat) (d : Nat) (a : Nat) (b : Nat) (s : State) : Keeps s (opQpop e d a b s) := by
  have h0 := @opIns_keeps
  have h1 := @State.trapIns_keeps
  have h2 := @State.setReg_keeps
  have h3 := @State.advance_keeps
  have h4 := @State.writeLoc_keeps
  have h5 := @State.qDrop_keeps
  have k := Keeps.refl s
  unfold opQpop
  exact Keeps.auto

theorem State.qPush_keeps (s : State) (e : Nat) (q : Nat) (v : Nat) : Keeps s (State.qPush s e q v).1 := by
  have h0 := @State.enqueue_keeps
  have k := Keeps.refl s
  unfold State.qPush
  exact Keeps.auto

theorem opQpush_keeps (e : Nat) (d : Nat) (a : Nat) (b : Nat) (s : State) : Keeps s (opQpush e d a b s) := by
  have h0 := @opIns_keeps
  have h1 := @State.trapIns_keeps
  have h2 := @State.qPush_keeps
  have h3 := @State.setReg_keeps
  have h4 := @State.advance_keeps
  have k := Keeps.refl s
  unfold opQpush
  exact Keeps.auto

theorem opQstat_keeps (e : Nat) (d : Nat) (a : Nat) (s : State) : Keeps s (opQstat e d a s) := by
  have h0 := @opIns_keeps
  have h1 := @State.trapIns_keeps
  have h2 := @State.setReg_keeps
  have h3 := @State.advance_keeps
  have k := Keeps.refl s
  unfold opQstat
  exact Keeps.auto

theorem opQwait_keeps (e : Nat) (a : Nat) (b : Nat) (s : State) : Keeps s (opQwait e a b s) := by
  have h0 := @opIns_keeps
  have h1 := @State.trapIns_keeps
  have h2 := @State.advance_keeps
  have h3 := @State.retire_keeps
  have k := Keeps.refl s
  unfold opQwait
  exact Keeps.auto

theorem opQwaitResume_keeps (e : Nat) (s : State) : Keeps s (opQwaitResume e s) := by
  have h0 := @State.resume_keeps
  have k := Keeps.refl s
  unfold opQwaitResume
  exact Keeps.auto

theorem opCsub_keeps (e : Nat) (d : Nat) (a : Nat) (s : State) : Keeps s (opCsub e d a s) := by
  have h0 := @opInsMon_keeps
  have h1 := @State.setReg_keeps
  have h2 := @State.submit_keeps
  have h3 := @State.advance_keeps
  have h4 := @State.trapIns_keeps
  have k := Keeps.refl s
  unfold opCsub
  exact Keeps.auto

theorem opCwait_keeps (e : Nat) (d : Nat) (a : Nat) (s : State) : Keeps s (opCwait e d a s) := by
  have h0 := @State.advance_keeps
  have h1 := @State.done_keeps
  have h2 := @State.retire_keeps
  have h3 := @State.setReg_keeps
  have h4 := @opInsMon_keeps
  have k := Keeps.refl s
  unfold opCwait
  exact Keeps.auto

theorem opCrand_keeps (e : Nat) (d : Nat) (s : State) : Keeps s (opCrand e d s) := by
  have h0 := @opInsMon_keeps
  have h1 := @State.draw_keeps
  have h2 := @State.setReg_keeps
  have h3 := @State.advance_keeps
  have k := Keeps.refl s
  unfold opCrand
  exact Keeps.auto

theorem State.csrRead_keeps (s : State) (e : Nat) (n : Nat) : Keeps s (State.csrRead s e n).1 := by
  have k := Keeps.refl s
  unfold State.csrRead
  exact Keeps.auto

theorem State.csrWrite_keeps (s : State) (e : Nat) (n : Nat) (v : Nat) : Keeps s (State.csrWrite s e n v) := by
  have k := Keeps.refl s
  unfold State.csrWrite
  exact Keeps.auto

theorem opRdc_keeps (e : Nat) (d : Nat) (imm : Nat) (s : State) : Keeps s (opRdc e d imm s) := by
  have h0 := @opIns_keeps
  have h1 := @State.trapIns_keeps
  have h2 := @State.csrRead_keeps
  have h3 := @State.setReg_keeps
  have h4 := @State.advance_keeps
  have k := Keeps.refl s
  unfold opRdc
  exact Keeps.auto

theorem opWrc_keeps (e : Nat) (a : Nat) (imm : Nat) (s : State) : Keeps s (opWrc e a imm s) := by
  have h0 := @opIns_keeps
  have h1 := @State.trapIns_keeps
  have h2 := @State.csrWrite_keeps
  have h3 := @State.advance_keeps
  have k := Keeps.refl s
  unfold opWrc
  exact Keeps.auto

theorem opIdle_keeps (e : Nat) (s : State) : Keeps s (opIdle e s) := by
  have h0 := @opIns_keeps
  have h1 := @State.retire_keeps
  have k := Keeps.refl s
  unfold opIdle
  exact Keeps.auto

theorem opIdleWake_keeps (e : Nat) (s : State) : Keeps s (opIdleWake e s) := by
  have h0 := @State.resume_keeps
  have k := Keeps.refl s
  unfold opIdleWake
  exact Keeps.auto

theorem opTret_keeps (e : Nat) (s : State) : Keeps s (opTret e s) := by
  have h0 := @opIns_keeps
  have h1 := @State.done_keeps
  have k := Keeps.refl s
  unfold opTret
  exact Keeps.auto

theorem execTnow_keeps (now : Nat) (e : Nat) (d : Nat) (s : State) : KeepsO s (execTnow now e d s) := by
  have h0 := @opTnow_keeps
  have h1 := @State.atTime_keeps
  have k := Keeps.refl s
  unfold execTnow
  exact KeepsO.auto

theorem execTseq_keeps (e : Nat) (d : Nat) (s : State) : KeepsO s (execTseq e d s) := by
  have h0 := @opTseq_keeps
  have k := Keeps.refl s
  unfold execTseq
  exact KeepsO.auto

theorem execText_keeps (e : Nat) (d : Nat) (a : Nat) (b : Nat) (s : State) : KeepsO s (execText e d a b s) := by
  have h0 := @opText_keeps
  have k := Keeps.refl s
  unfold execText
  exact KeepsO.auto

theorem execTwait_keeps (now : Nat) (e : Nat) (a : Nat) (s : State) : KeepsO s (execTwait now e a s) := by
  have h0 := @opTwait_keeps
  have h1 := @State.atTime_keeps
  have k := Keeps.refl s
  unfold execTwait
  exact KeepsO.auto

theorem execTwaitResume_keeps (now : Nat) (e : Nat) (s : State) : KeepsO s (execTwaitResume now e s) := by
  have h0 := @opTwaitResume_keeps
  have h1 := @State.atTime_keeps
  have k := Keeps.refl s
  unfold execTwaitResume
  exact KeepsO.auto

theorem execGadd_keeps (e : Nat) (d : Nat) (a : Nat) (b : Nat) (s : State) : KeepsO s (execGadd e d a b s) := by
  have h0 := @opGirth_keeps
  have k := Keeps.refl s
  unfold execGadd
  exact KeepsO.auto

theorem execGmax_keeps (e : Nat) (d : Nat) (a : Nat) (b : Nat) (s : State) : KeepsO s (execGmax e d a b s) := by
  have h0 := @opGirth_keeps
  have k := Keeps.refl s
  unfold execGmax
  exact KeepsO.auto

theorem execQpop_keeps (e : Nat) (d : Nat) (a : Nat) (b : Nat) (s : State) : KeepsO s (execQpop e d a b s) := by
  have h0 := @opQpop_keeps
  have k := Keeps.refl s
  unfold execQpop
  exact KeepsO.auto

theorem execQpush_keeps (e : Nat) (d : Nat) (a : Nat) (b : Nat) (s : State) : KeepsO s (execQpush e d a b s) := by
  have h0 := @opQpush_keeps
  have k := Keeps.refl s
  unfold execQpush
  exact KeepsO.auto

theorem execQstat_keeps (e : Nat) (d : Nat) (a : Nat) (s : State) : KeepsO s (execQstat e d a s) := by
  have h0 := @opQstat_keeps
  have k := Keeps.refl s
  unfold execQstat
  exact KeepsO.auto

theorem execQwait_keeps (now : Nat) (e : Nat) (a : Nat) (b : Nat) (s : State) : KeepsO s (execQwait now e a b s) := by
  have h0 := @opQwait_keeps
  have h1 := @State.atTime_keeps
  have k := Keeps.refl s
  unfold execQwait
  exact KeepsO.auto

theorem execQwaitResume_keeps (now : Nat) (e : Nat) (s : State) : KeepsO s (execQwaitResume now e s) := by
  have h0 := @opQwaitResume_keeps
  have h1 := @State.atTime_keeps
  have k := Keeps.refl s
  unfold execQwaitResume
  exact KeepsO.auto

theorem execCsub_keeps (e : Nat) (d : Nat) (a : Nat) (s : State) : KeepsO s (execCsub e d a s) := by
  have h0 := @opCsub_keeps
  have k := Keeps.refl s
  unfold execCsub
  exact KeepsO.auto

theorem execCwait_keeps (e : Nat) (d : Nat) (a : Nat) (s : State) : KeepsO s (execCwait e d a s) := by
  have h0 := @opCwait_keeps
  have k := Keeps.refl s
  unfold execCwait
  exact KeepsO.auto

theorem execCrand_keeps (e : Nat) (d : Nat) (s : State) : KeepsO s (execCrand e d s) := by
  have h0 := @opCrand_keeps
  have k := Keeps.refl s
  unfold execCrand
  exact KeepsO.auto

theorem execRdc_keeps (e : Nat) (d : Nat) (imm : Nat) (s : State) : KeepsO s (execRdc e d imm s) := by
  have h0 := @opRdc_keeps
  have k := Keeps.refl s
  unfold execRdc
  exact KeepsO.auto

theorem execWrc_keeps (now : Nat) (e : Nat) (a : Nat) (imm : Nat) (s : State) : KeepsO s (execWrc now e a imm s) := by
  have h0 := @opWrc_keeps
  have h1 := @State.atTime_keeps
  have k := Keeps.refl s
  unfold execWrc
  exact KeepsO.auto

theorem execIdle_keeps (e : Nat) (s : State) : KeepsO s (execIdle e s) := by
  have h0 := @opIdle_keeps
  have k := Keeps.refl s
  unfold execIdle
  exact KeepsO.auto

theorem execIdleWake_keeps (e : Nat) (s : State) : KeepsO s (execIdleWake e s) := by
  have h0 := @opIdleWake_keeps
  have k := Keeps.refl s
  unfold execIdleWake
  exact KeepsO.auto

theorem execStop_keeps (e : Nat) (s : State) : KeepsO s (execStop e s) := by
  have h0 := @opIns_keeps
  have h1 := @State.trapIns_keeps
  have k := Keeps.refl s
  unfold execStop
  exact KeepsO.auto

theorem execTret_keeps (e : Nat) (s : State) : KeepsO s (execTret e s) := by
  have h0 := @opTret_keeps
  have k := Keeps.refl s
  unfold execTret
  exact KeepsO.auto

theorem execDbg_keeps (e : Nat) (s : State) : KeepsO s (execDbg e s) := by
  have h0 := @opIns_keeps
  have h1 := @State.trapIns_keeps
  have k := Keeps.refl s
  unfold execDbg
  exact KeepsO.auto

end Sys2Proof.Machine
end

