-- ==== Sys2Proof/Laws/KeepWrites.lean ====
section
/-!
SUPPORT. What the operations of Machine/Writes.lean leave.
-/
set_option Elab.async false
namespace Sys2Proof.Machine

theorem State.policyApply_keeps (src : Nat) (now : Nat) (s : State) (x : PolicyEntry) : Keeps s (State.policyApply src now s x) := by
  have h0 := @State.acceptWrite_keeps
  have k := Keeps.refl s
  unfold State.policyApply
  exact Keeps.auto

theorem State.takePolicy_keeps (s : State) (src : Nat) (now : Nat) (epoch : Nat) (l : List PolicyEntry) : Keeps s (State.takePolicy s src now epoch l) := by
  have h0 := @State.toManager_keeps
  have h1 := @State.domCount_keeps
  have h2 := @State.policyApply_keeps
  have k := Keeps.refl s
  unfold State.takePolicy
  exact Keeps.auto

theorem opPolicy_keeps (src : Nat) (dseq : Nat) (tag : Bool) (epoch : Nat) (l : List PolicyEntry) (s : State) : Keeps s (opPolicy src dseq tag epoch l s) := by
  have h0 := @State.domainArrives_keeps
  have h1 := @State.fromManager_keeps
  have h2 := @State.takePolicy_keeps
  have k := Keeps.refl s
  unfold opPolicy
  exact Keeps.auto

theorem execPolicy_keeps (now : Nat) (src : Nat) (dseq : Nat) (tag : Bool) (epoch : Nat) (l : List (Nat × Nat × Nat × Nat)) (s : State) : KeepsO s (execPolicy now src dseq tag epoch l s) := by
  have h0 := @opPolicy_keeps
  have h1 := @State.atTime_keeps
  have k := Keeps.refl s
  unfold execPolicy
  exact KeepsO.auto

theorem execSelectorTick_keeps (now : Nat) (s : State) : KeepsO s (execSelectorTick now s) := by
  have h0 := @State.atTime_keeps
  have h1 := @opSelect_keeps
  have k := Keeps.refl s
  unfold execSelectorTick
  exact KeepsO.auto

theorem execTimeSet_keeps (a : Acc) (v : Nat) (s : State) : KeepsO s (execTimeSet a v s) := by
  have h0 := @State.runWrite_keeps
  have k := Keeps.refl s
  unfold execTimeSet
  exact KeepsO.auto

theorem execSysReset_keeps (a : Acc) (s : State) : KeepsO s (execSysReset a s) := by
  have h0 := @State.runWrite_keeps
  have k := Keeps.refl s
  unfold execSysReset
  exact KeepsO.auto

theorem execPllRelockCpll_keeps (a : Acc) (s : State) : KeepsO s (execPllRelockCpll a s) := by
  have h0 := @State.runWrite_keeps
  have k := Keeps.refl s
  unfold execPllRelockCpll
  exact KeepsO.auto

theorem execPllRelockEpll_keeps (a : Acc) (s : State) : KeepsO s (execPllRelockEpll a s) := by
  have h0 := @State.runWrite_keeps
  have k := Keeps.refl s
  unfold execPllRelockEpll
  exact KeepsO.auto

theorem execUtcOffsetModeWrite_keeps (a : Acc) (v : Nat) (s : State) : KeepsO s (execUtcOffsetModeWrite a v s) := by
  have h0 := @State.runWrite_keeps
  have k := Keeps.refl s
  unfold execUtcOffsetModeWrite
  exact KeepsO.auto

theorem execSoakTimeWrite_keeps (a : Acc) (n : Nat) (v : Nat) (s : State) : KeepsO s (execSoakTimeWrite a n v s) := by
  have h0 := @State.runWrite_keeps
  have k := Keeps.refl s
  unfold execSoakTimeWrite
  exact KeepsO.auto

theorem execInElecWrite_keeps (a : Acc) (n : Nat) (v : Nat) (s : State) : KeepsO s (execInElecWrite a n v s) := by
  have h0 := @State.runWrite_keeps
  have k := Keeps.refl s
  unfold execInElecWrite
  exact KeepsO.auto

theorem execTiuChannelReconfig_keeps (a : Acc) (c : Nat) (sub : Nat) (v : Nat) (s : State) : KeepsO s (execTiuChannelReconfig a c sub v s) := by
  have h0 := @State.runWrite_keeps
  have k := Keeps.refl s
  unfold execTiuChannelReconfig
  exact KeepsO.auto

theorem execAtomicRelayTx_keeps (a : Acc) (v : Nat) (s : State) : KeepsO s (execAtomicRelayTx a v s) := by
  have h0 := @State.runWrite_keeps
  have k := Keeps.refl s
  unfold execAtomicRelayTx
  exact KeepsO.auto

theorem execAtomicRelayStatus_keeps (a : Acc) (v : Nat) (s : State) : KeepsO s (execAtomicRelayStatus a v s) := by
  have h0 := @State.runWrite_keeps
  have k := Keeps.refl s
  unfold execAtomicRelayStatus
  exact KeepsO.auto

theorem execSynthCommit_keeps (a : Acc) (mask : Nat) (s : State) : KeepsO s (execSynthCommit a mask s) := by
  have h0 := @State.runWrite_keeps
  have k := Keeps.refl s
  unfold execSynthCommit
  exact KeepsO.auto

theorem execGifConfigWrite_keeps (a : Acc) (k : Nat) (sub : Nat) (v : Nat) (s : State) : KeepsO s (execGifConfigWrite a k sub v s) := by
  have h0 := @State.runWrite_keeps
  have k := Keeps.refl s
  unfold execGifConfigWrite
  exact KeepsO.auto

theorem execGnEnableWrite_keeps (a : Acc) (v : Nat) (s : State) : KeepsO s (execGnEnableWrite a v s) := by
  have h0 := @State.runWrite_keeps
  have k := Keeps.refl s
  unfold execGnEnableWrite
  exact KeepsO.auto

theorem execGnSurveyRestart_keeps (a : Acc) (s : State) : KeepsO s (execGnSurveyRestart a s) := by
  have h0 := @State.runWrite_keeps
  have k := Keeps.refl s
  unfold execGnSurveyRestart
  exact KeepsO.auto

theorem execGirthLimitWrite_keeps (a : Acc) (v : Nat) (s : State) : KeepsO s (execGirthLimitWrite a v s) := by
  have h0 := @State.runWrite_keeps
  have k := Keeps.refl s
  unfold execGirthLimitWrite
  exact KeepsO.auto

theorem execQuadApply_keeps (a : Acc) (q : Nat) (s : State) : KeepsO s (execQuadApply a q s) := by
  have h0 := @State.runWrite_keeps
  have k := Keeps.refl s
  unfold execQuadApply
  exact KeepsO.auto

theorem execLaneRetrain_keeps (a : Acc) (l : Nat) (s : State) : KeepsO s (execLaneRetrain a l s) := by
  have h0 := @State.runWrite_keeps
  have k := Keeps.refl s
  unfold execLaneRetrain
  exact KeepsO.auto

theorem execLaneDisable_keeps (a : Acc) (l : Nat) (s : State) : KeepsO s (execLaneDisable a l s) := by
  have h0 := @State.runWrite_keeps
  have k := Keeps.refl s
  unfold execLaneDisable
  exact KeepsO.auto

theorem execPeerPreferWrite_keeps (a : Acc) (v : Nat) (s : State) : KeepsO s (execPeerPreferWrite a v s) := by
  have h0 := @State.runWrite_keeps
  have k := Keeps.refl s
  unfold execPeerPreferWrite
  exact KeepsO.auto

theorem execPortCalLoop_keeps (a : Acc) (p : Nat) (s : State) : KeepsO s (execPortCalLoop a p s) := by
  have h0 := @State.runWrite_keeps
  have k := Keeps.refl s
  unfold execPortCalLoop
  exact KeepsO.auto

theorem execNtpHashRekey_keeps (a : Acc) (s : State) : KeepsO s (execNtpHashRekey a s) := by
  have h0 := @State.runWrite_keeps
  have k := Keeps.refl s
  unfold execNtpHashRekey
  exact KeepsO.auto

theorem execNtpPrefixWrite_keeps (a : Acc) (sub : Nat) (v : Nat) (s : State) : KeepsO s (execNtpPrefixWrite a sub v s) := by
  have h0 := @State.runWrite_keeps
  have k := Keeps.refl s
  unfold execNtpPrefixWrite
  exact KeepsO.auto

theorem execNtsMintProducer_keeps (a : Acc) (v : Nat) (s : State) : KeepsO s (execNtsMintProducer a v s) := by
  have h0 := @State.runWrite_keeps
  have k := Keeps.refl s
  unfold execNtsMintProducer
  exact KeepsO.auto

theorem execTackLoad_keeps (a : Acc) (j : Nat) (addr : Nat) (s : State) : KeepsO s (execTackLoad a j addr s) := by
  have h0 := @State.runWrite_keeps
  have k := Keeps.refl s
  unfold execTackLoad
  exact KeepsO.auto

theorem execTackStop_keeps (a : Acc) (j : Nat) (s : State) : KeepsO s (execTackStop a j s) := by
  have h0 := @State.runWrite_keeps
  have k := Keeps.refl s
  unfold execTackStop
  exact KeepsO.auto

theorem execPaddockEnableWrite_keeps (a : Acc) (v : Nat) (s : State) : KeepsO s (execPaddockEnableWrite a v s) := by
  have h0 := @State.runWrite_keeps
  have k := Keeps.refl s
  unfold execPaddockEnableWrite
  exact KeepsO.auto

theorem execTackEnginesWrite_keeps (a : Acc) (v : Nat) (s : State) : KeepsO s (execTackEnginesWrite a v s) := by
  have h0 := @State.runWrite_keeps
  have k := Keeps.refl s
  unfold execTackEnginesWrite
  exact KeepsO.auto

theorem execGovLevelMinWrite_keeps (a : Acc) (v : Nat) (s : State) : KeepsO s (execGovLevelMinWrite a v s) := by
  have h0 := @State.runWrite_keeps
  have k := Keeps.refl s
  unfold execGovLevelMinWrite
  exact KeepsO.auto

theorem execLcToMaker_keeps (a : Acc) (cred : Nat) (s : State) : KeepsO s (execLcToMaker a cred s) := by
  have h0 := @State.runWrite_keeps
  have k := Keeps.refl s
  unfold execLcToMaker
  exact KeepsO.auto

theorem execLcToOwned_keeps (a : Acc) (cred : Nat) (s : State) : KeepsO s (execLcToOwned a cred s) := by
  have h0 := @State.runWrite_keeps
  have k := Keeps.refl s
  unfold execLcToOwned
  exact KeepsO.auto

theorem execLcToField_keeps (a : Acc) (cred : Nat) (s : State) : KeepsO s (execLcToField a cred s) := by
  have h0 := @State.runWrite_keeps
  have k := Keeps.refl s
  unfold execLcToField
  exact KeepsO.auto

theorem execLcToDebug_keeps (a : Acc) (cred : Nat) (s : State) : KeepsO s (execLcToDebug a cred s) := by
  have h0 := @State.runWrite_keeps
  have k := Keeps.refl s
  unfold execLcToDebug
  exact KeepsO.auto

theorem execLcToRetired_keeps (a : Acc) (cred : Nat) (s : State) : KeepsO s (execLcToRetired a cred s) := by
  have h0 := @State.runWrite_keeps
  have k := Keeps.refl s
  unfold execLcToRetired
  exact KeepsO.auto

theorem execSlotAttrWrite_keeps (a : Acc) (n : Nat) (v : Nat) (s : State) : KeepsO s (execSlotAttrWrite a n v s) := by
  have h0 := @State.runWrite_keeps
  have k := Keeps.refl s
  unfold execSlotAttrWrite
  exact KeepsO.auto

theorem execKeyStage_keeps (a : Acc) (v : Nat) (s : State) : KeepsO s (execKeyStage a v s) := by
  have h0 := @State.runWrite_keeps
  have k := Keeps.refl s
  unfold execKeyStage
  exact KeepsO.auto

theorem execKeyCommit_keeps (a : Acc) (n : Nat) (s : State) : KeepsO s (execKeyCommit a n s) := by
  have h0 := @State.runWrite_keeps
  have k := Keeps.refl s
  unfold execKeyCommit
  exact KeepsO.auto

theorem execKeyAbandon_keeps (a : Acc) (n : Nat) (s : State) : KeepsO s (execKeyAbandon a n s) := by
  have h0 := @State.runWrite_keeps
  have k := Keeps.refl s
  unfold execKeyAbandon
  exact KeepsO.auto

theorem execKeyErase_keeps (a : Acc) (n : Nat) (s : State) : KeepsO s (execKeyErase a n s) := by
  have h0 := @State.runWrite_keeps
  have k := Keeps.refl s
  unfold execKeyErase
  exact KeepsO.auto

theorem execKeyExport_keeps (a : Acc) (n : Nat) (w : Nat) (s : State) : KeepsO s (execKeyExport a n w s) := by
  have h0 := @State.runWrite_keeps
  have k := Keeps.refl s
  unfold execKeyExport
  exact KeepsO.auto

theorem execTamperClear_keeps (a : Acc) (tseq : Nat) (cred : Nat) (s : State) : KeepsO s (execTamperClear a tseq cred s) := by
  have h0 := @State.runWrite_keeps
  have k := Keeps.refl s
  unfold execTamperClear
  exact KeepsO.auto

theorem execAuthOpen_keeps (a : Acc) (v : Nat) (s : State) : KeepsO s (execAuthOpen a v s) := by
  have h0 := @State.runWrite_keeps
  have k := Keeps.refl s
  unfold execAuthOpen
  exact KeepsO.auto

theorem execAuthClose_keeps (a : Acc) (n : Nat) (s : State) : KeepsO s (execAuthClose a n s) := by
  have h0 := @State.runWrite_keeps
  have k := Keeps.refl s
  unfold execAuthClose
  exact KeepsO.auto

theorem execTicketMinIdWrite_keeps (a : Acc) (v : Nat) (s : State) : KeepsO s (execTicketMinIdWrite a v s) := by
  have h0 := @State.runWrite_keeps
  have k := Keeps.refl s
  unfold execTicketMinIdWrite
  exact KeepsO.auto

theorem execOwnerTransfer_keeps (a : Acc) (v : Nat) (s : State) : KeepsO s (execOwnerTransfer a v s) := by
  have h0 := @State.runWrite_keeps
  have k := Keeps.refl s
  unfold execOwnerTransfer
  exact KeepsO.auto

theorem execOwnerKeyRotate_keeps (a : Acc) (v : Nat) (s : State) : KeepsO s (execOwnerKeyRotate a v s) := by
  have h0 := @State.runWrite_keeps
  have k := Keeps.refl s
  unfold execOwnerKeyRotate
  exact KeepsO.auto

theorem execJtagUnlock_keeps (a : Acc) (v : Nat) (s : State) : KeepsO s (execJtagUnlock a v s) := by
  have h0 := @State.runWrite_keeps
  have k := Keeps.refl s
  unfold execJtagUnlock
  exact KeepsO.auto

theorem execDictWrite_keeps (a : Acc) (idx : Nat) (sub : Nat) (v : Nat) (s : State) : KeepsO s (execDictWrite a idx sub v s) := by
  have h0 := @State.runWrite_keeps
  have k := Keeps.refl s
  unfold execDictWrite
  exact KeepsO.auto

theorem execDictDescribeAddr_keeps (a : Acc) (idx : Nat) (sub : Nat) (s : State) : KeepsO s (execDictDescribeAddr a idx sub s) := by
  have h0 := @State.runWrite_keeps
  have k := Keeps.refl s
  unfold execDictDescribeAddr
  exact KeepsO.auto

theorem execDictStore_keeps (a : Acc) (s : State) : KeepsO s (execDictStore a s) := by
  have h0 := @State.runWrite_keeps
  have k := Keeps.refl s
  unfold execDictStore
  exact KeepsO.auto

theorem execCanEnableWrite_keeps (a : Acc) (c : Nat) (v : Nat) (s : State) : KeepsO s (execCanEnableWrite a c v s) := by
  have h0 := @State.runWrite_keeps
  have k := Keeps.refl s
  unfold execCanEnableWrite
  exact KeepsO.auto

theorem execAttnAck_keeps (a : Acc) (v : Nat) (s : State) : KeepsO s (execAttnAck a v s) := by
  have h0 := @State.runWrite_keeps
  have k := Keeps.refl s
  unfold execAttnAck
  exact KeepsO.auto

theorem execDmaReq_keeps (a : Acc) (src : Nat) (off : Nat) (len : Nat) (host : Nat) (s : State) : KeepsO s (execDmaReq a src off len host s) := by
  have h0 := @State.runWrite_keeps
  have k := Keeps.refl s
  unfold execDmaReq
  exact KeepsO.auto

theorem execEsxiaPathWrite_keeps (a : Acc) (sub : Nat) (v : Nat) (s : State) : KeepsO s (execEsxiaPathWrite a sub v s) := by
  have h0 := @State.runWrite_keeps
  have k := Keeps.refl s
  unfold execEsxiaPathWrite
  exact KeepsO.auto

theorem execPairHoldStandbyWrite_keeps (a : Acc) (v : Nat) (s : State) : KeepsO s (execPairHoldStandbyWrite a v s) := by
  have h0 := @State.runWrite_keeps
  have k := Keeps.refl s
  unfold execPairHoldStandbyWrite
  exact KeepsO.auto

theorem execPairEnableWrite_keeps (a : Acc) (sub : Nat) (v : Nat) (s : State) : KeepsO s (execPairEnableWrite a sub v s) := by
  have h0 := @State.runWrite_keeps
  have k := Keeps.refl s
  unfold execPairEnableWrite
  exact KeepsO.auto

theorem execPairCommandHandoff_keeps (a : Acc) (s : State) : KeepsO s (execPairCommandHandoff a s) := by
  have h0 := @State.runWrite_keeps
  have k := Keeps.refl s
  unfold execPairCommandHandoff
  exact KeepsO.auto

theorem execPairCommandDiag_keeps (a : Acc) (s : State) : KeepsO s (execPairCommandDiag a s) := by
  have h0 := @State.runWrite_keeps
  have k := Keeps.refl s
  unfold execPairCommandDiag
  exact KeepsO.auto

theorem execDomainPolicyWrite_keeps (a : Acc) (i : Nat) (v : Nat) (s : State) : KeepsO s (execDomainPolicyWrite a i v s) := by
  have h0 := @State.runWrite_keeps
  have k := Keeps.refl s
  unfold execDomainPolicyWrite
  exact KeepsO.auto

theorem execDomainConfigWrite_keeps (a : Acc) (sub : Nat) (v : Nat) (s : State) : KeepsO s (execDomainConfigWrite a sub v s) := by
  have h0 := @State.runWrite_keeps
  have k := Keeps.refl s
  unfold execDomainConfigWrite
  exact KeepsO.auto

theorem execFaultAckCode_keeps (a : Acc) (code : Nat) (s : State) : KeepsO s (execFaultAckCode a code s) := by
  have h0 := @State.runWrite_keeps
  have k := Keeps.refl s
  unfold execFaultAckCode
  exact KeepsO.auto

theorem execFaultAckAll_keeps (a : Acc) (s : State) : KeepsO s (execFaultAckAll a s) := by
  have h0 := @State.runWrite_keeps
  have k := Keeps.refl s
  unfold execFaultAckAll
  exact KeepsO.auto

theorem execFaultAckF3_keeps (a : Acc) (s : State) : KeepsO s (execFaultAckF3 a s) := by
  have h0 := @State.runWrite_keeps
  have k := Keeps.refl s
  unfold execFaultAckF3
  exact KeepsO.auto

theorem execF3Clear_keeps (a : Acc) (cred : Nat) (s : State) : KeepsO s (execF3Clear a cred s) := by
  have h0 := @State.runWrite_keeps
  have k := Keeps.refl s
  unfold execF3Clear
  exact KeepsO.auto

theorem execSleepEnter_keeps (a : Acc) (s : State) : KeepsO s (execSleepEnter a s) := by
  have h0 := @State.runWrite_keeps
  have k := Keeps.refl s
  unfold execSleepEnter
  exact KeepsO.auto

theorem execFwErase_keeps (a : Acc) (s : State) : KeepsO s (execFwErase a s) := by
  have h0 := @State.runWrite_keeps
  have k := Keeps.refl s
  unfold execFwErase
  exact KeepsO.auto

theorem execFwChunk_keeps (a : Acc) (off : Nat) (len : Nat) (data : Nat) (s : State) : KeepsO s (execFwChunk a off len data s) := by
  have h0 := @State.runWrite_keeps
  have k := Keeps.refl s
  unfold execFwChunk
  exact KeepsO.auto

theorem execFwCommit_keeps (a : Acc) (v : Nat) (s : State) : KeepsO s (execFwCommit a v s) := by
  have h0 := @State.runWrite_keeps
  have k := Keeps.refl s
  unfold execFwCommit
  exact KeepsO.auto

theorem execCalSelect_keeps (a : Acc) (e : Nat) (s : State) : KeepsO s (execCalSelect a e s) := by
  have h0 := @State.runWrite_keeps
  have k := Keeps.refl s
  unfold execCalSelect
  exact KeepsO.auto

theorem execCalValue_keeps (a : Acc) (value : Int) (unc : Nat) (source : Nat) (s : State) : KeepsO s (execCalValue a value unc source s) := by
  have h0 := @State.runWrite_keeps
  have k := Keeps.refl s
  unfold execCalValue
  exact KeepsO.auto

theorem execCalReloadChunk_keeps (a : Acc) (off : Nat) (len : Nat) (data : Nat) (s : State) : KeepsO s (execCalReloadChunk a off len data s) := by
  have h0 := @State.runWrite_keeps
  have k := Keeps.refl s
  unfold execCalReloadChunk
  exact KeepsO.auto

theorem execCalReloadCommit_keeps (a : Acc) (s : State) : KeepsO s (execCalReloadCommit a s) := by
  have h0 := @State.runWrite_keeps
  have k := Keeps.refl s
  unfold execCalReloadCommit
  exact KeepsO.auto

theorem execTackDoorbellRead_keeps (a : Acc) (s : State) : KeepsO s (execTackDoorbellRead a s) := by
  have h0 := @State.runRead_keeps
  have k := Keeps.refl s
  unfold execTackDoorbellRead
  exact KeepsO.auto

theorem execPcRead_keeps (a : Acc) (e : Nat) (s : State) : KeepsO s (execPcRead a e s) := by
  have h0 := @State.runRead_keeps
  have k := Keeps.refl s
  unfold execPcRead
  exact KeepsO.auto

theorem execAuthChallenge_keeps (a : Acc) (s : State) : KeepsO s (execAuthChallenge a s) := by
  have h0 := @State.runRead_keeps
  have k := Keeps.refl s
  unfold execAuthChallenge
  exact KeepsO.auto

theorem execAuditHead_keeps (a : Acc) (s : State) : KeepsO s (execAuditHead a s) := by
  have h0 := @State.runRead_keeps
  have k := Keeps.refl s
  unfold execAuditHead
  exact KeepsO.auto

end Sys2Proof.Machine
end

