-- ==== Sys2Proof/Laws/KeepExec.lean ====
section
/-!
SUPPORT. What every command and every step leave: the queue of waiting commands but for the one taken, and the invariant.
-/
set_option Elab.async false
namespace Sys2Proof.Machine

/-- Every command leaves the queue alone and keeps the invariant. -/
theorem exec_keeps (c : Instr) (s : State) : KeepsO s (exec c s) :=
  match c with
  | .clockLossOfLock now loop => execClockLossOfLock_keeps now loop s
  | .tbApllLossOfLock now oscToo => execTbApllLossOfLock_keeps now oscToo s
  | .xoStop now => execXoStop_keeps now s
  | .lockConfirmed now loop => execLockConfirmed_keeps now loop s
  | .pllRelockCpll a => execPllRelockCpll_keeps a s
  | .pllRelockEpll a => execPllRelockEpll_keeps a s
  | .sysReset a => execSysReset_keeps a s
  | .systemResetEnginesReturn now fall calOk bad still => execSystemResetEnginesReturn_keeps now fall calOk bad still s
  | .poresetNLow powerUp => execPoresetNLow_keeps powerUp s
  | .powerOnResetRelease now fall calOk bad => execPowerOnResetRelease_keeps now fall calOk bad s
  | .dramTrainingDone now ok => execDramTrainingDone_keeps now ok s
  | .dqsTracking now => execDqsTracking_keeps now s
  | .paddockWipeDone now => execPaddockWipeDone_keeps now s
  | .startupWarmMaxExpire now => execStartupWarmMaxExpire_keeps now s
  | .anchorLatch past => execAnchorLatch_keeps past s
  | .timeSet a v => execTimeSet_keeps a v s
  | .utcOffsetModeWrite a v => execUtcOffsetModeWrite_keeps a v s
  | .selectorTick now => execSelectorTick_keeps now s
  | .refEvaluation now => execRefEvaluation_keeps now s
  | .refLossOfSignal now n => execRefLossOfSignal_keeps now n s
  | .todSentenceRx now k since own tai leap off ql girth flags => execTodSentenceRx_keeps now k since own tai leap off ql girth flags s
  | .todSentenceTimeout k => execTodSentenceTimeout_keeps k s
  | .esmcPduRx lane ssm essm => execEsmcPduRx_keeps lane ssm essm s
  | .esmcRxTimeout k => execEsmcRxTimeout_keeps k s
  | .forcePinChange pins => execForcePinChange_keeps pins s
  | .forcePinLatch now => execForcePinLatch_keeps now s
  | .soakTimeWrite a n v => execSoakTimeWrite_keeps a n v s
  | .tiuEdge now c bin => execTiuEdge_keeps now c bin s
  | .tiuGateEstimate now c => execTiuGateEstimate_keeps now c s
  | .tiuChannelReconfig a c sub v => execTiuChannelReconfig_keeps a c sub v s
  | .servoMeasurement now n p status t => execServoMeasurement_keeps now n p status t s
  | .buildOutTimeout now => execBuildOutTimeout_keeps now s
  | .accumControl now u => execAccumControl_keeps now u s
  | .accumSlew now amount rate => execAccumSlew_keeps now amount rate s
  | .accumStep ns => execAccumStep_keeps ns s
  | .slewComplete now => execSlewComplete_keeps now s
  | .freqRampEnd now => execFreqRampEnd_keeps now s
  | .servoRestart now => execServoRestart_keeps now s
  | .slopeLimitTimeout now => execSlopeLimitTimeout_keeps now s
  | .hoLearnFit => execHoLearnFit_keeps s
  | .ovenSample code pin => execOvenSample_keeps code pin s
  | .ovenLoopStep => execOvenLoopStep_keeps s
  | .warmFlagRise now => execWarmFlagRise_keeps now s
  | .warmFlagFall now => execWarmFlagFall_keeps now s
  | .atomicSteerSend => execAtomicSteerSend_keeps s
  | .atomicReplyRx ok seq st => execAtomicReplyRx_keeps ok seq st s
  | .atomicSilentTimeout => execAtomicSilentTimeout_keeps s
  | .atomicRelayTx a v => execAtomicRelayTx_keeps a v s
  | .atomicRelayStatus a v => execAtomicRelayStatus_keeps a v s
  | .synthCommit a mask => execSynthCommit_keeps a mask s
  | .synthCommitApply now => execSynthCommitApply_keeps now s
  | .outputApllLoss now a => execOutputApllLoss_keeps now a s
  | .outputStart now n => execOutputStart_keeps now n s
  | .outputStop now n => execOutputStop_keeps now n s
  | .outputAlignCheck now n => execOutputAlignCheck_keeps now n s
  | .loopbackTimeout n => execLoopbackTimeout_keeps n s
  | .todSentenceTx now u => execTodSentenceTx_keeps now u s
  | .gifAlign k => execGifAlign_keeps k s
  | .gifLost k => execGifLost_keeps k s
  | .gifConfigWrite a k sub v => execGifConfigWrite_keeps a k sub v s
  | .notchUpdate k lines full => execNotchUpdate_keeps k lines full s
  | .jamIndUpdate k power flat => execJamIndUpdate_keeps k power flat s
  | .acqStatistic now e stat => execAcqStatistic_keeps now e stat s
  | .pullInTimeout ch => execPullInTimeout_keeps ch s
  | .trackChannelLost now ch => execTrackChannelLost_keeps now ch s
  | .gnssEpoch now bin obs => execGnssEpoch_keeps now bin obs s
  | .gnssMeasRecord now sol => execGnssMeasRecord_keeps now sol s
  | .navBitRecord now ch u => execNavBitRecord_keeps now ch u s
  | .gnEnableWrite a v => execGnEnableWrite_keeps a v s
  | .gnSurveyRestart a => execGnSurveyRestart_keeps a s
  | .surveyComplete => execSurveyComplete_keeps s
  | .gnPosCheck => execGnPosCheck_keeps s
  | .girthTermTimeout now k => execGirthTermTimeout_keeps now k s
  | .girthLimitWrite a v => execGirthLimitWrite_keeps a v s
  | .quadApply a q => execQuadApply_keeps a q s
  | .qrefLoss now q => execQrefLoss_keeps now q s
  | .linkBringUp now l stage scans pre main post => execLinkBringUp_keeps now l stage scans pre main post s
  | .trainingTimeout now l => execTrainingTimeout_keeps now l s
  | .linkUp now l => execLinkUp_keeps now l s
  | .linkLoss now l => execLinkLoss_keeps now l s
  | .blockLockLossTimeout now l => execBlockLockLossTimeout_keeps now l s
  | .laneRetrain a l => execLaneRetrain_keeps a l s
  | .laneDisable a l => execLaneDisable_keeps a l s
  | .eyeScan l v w => execEyeScan_keeps l v w s
  | .fomWarnTimeout now l => execFomWarnTimeout_keeps now l s
  | .fomMinTimeout now l => execFomMinTimeout_keeps now l s
  | .ctleAdapt now l vlo wlo vhi whi => execCtleAdapt_keeps now l vlo wlo vhi whi s
  | .lpiTxSleep l => execLpiTxSleep_keeps l s
  | .lpiRxSignal now l asleep => execLpiRxSignal_keeps now l asleep s
  | .esmcTx now l => execEsmcTx_keeps now l s
  | .esmcEventTx now l => execEsmcEventTx_keeps now l s
  | .peerLaneSwitch now => execPeerLaneSwitch_keeps now s
  | .peerLaneRevert now => execPeerLaneRevert_keeps now s
  | .peerPreferWrite a v => execPeerPreferWrite_keeps a v s
  | .interpCal now l => execInterpCal_keeps now l s
  | .alignMeasure l arx atx => execAlignMeasure_keeps l arx atx s
  | .alignDecide now p => execAlignDecide_keeps now p s
  | .portCalLoop a p => execPortCalLoop_keeps a p s
  | .portCalLoopDone p => execPortCalLoopDone_keeps p s
  | .frameIngress now f => execFrameIngress_keeps now f s
  | .egressSelect now p lane tw mark lost => execEgressSelect_keeps now p lane tw mark lost s
  | .downHoldExpire now p => execDownHoldExpire_keeps now p s
  | .blockTimeExpire now p => execBlockTimeExpire_keeps now p s
  | .fdbAgeOut now mac vid => execFdbAgeOut_keeps now mac vid s
  | .hostProtocolRequest now h => execHostProtocolRequest_keeps now h s
  | .ptpAnnounceRx now k p m ds => execPtpAnnounceRx_keeps now k p m ds s
  | .announceTimeout now p => execAnnounceTimeout_keeps now p s
  | .ptpStateDecision now k => execPtpStateDecision_keeps now k s
  | .ptpSyncRx now k p m => execPtpSyncRx_keeps now k p m s
  | .ptpFollowUpRx now k p m => execPtpFollowUpRx_keeps now k p m s
  | .ptpDelayReqRx now k p m => execPtpDelayReqRx_keeps now k p m s
  | .ptpDelayRespRx now k p m => execPtpDelayRespRx_keeps now k p m s
  | .ptpPdelayReqRx now p m => execPtpPdelayReqRx_keeps now p m s
  | .ptpPdelayRespRx now p m followUp => execPtpPdelayRespRx_keeps now p m followUp s
  | .ptpMgmtRx version => execPtpMgmtRx_keeps version s
  | .ptpSyncTx now k p addr => execPtpSyncTx_keeps now k p addr s
  | .ptpAnnounceTx now k p addr => execPtpAnnounceTx_keeps now k p addr s
  | .ptpDelayReqTx now k p => execPtpDelayReqTx_keeps now k p s
  | .requestUnicastTransmission now k p addr portId mtype logPeriod duration m => execRequestUnicastTransmission_keeps now k p addr portId mtype logPeriod duration m s
  | .cancelUnicastTransmission now k p addr portId mtype m => execCancelUnicastTransmission_keeps now k p addr portId mtype m s
  | .grantUnicastTransmissionRx now k p addr mtype duration m => execGrantUnicastTransmissionRx_keeps now k p addr mtype duration m s
  | .grantExpire now k addr portId mtype => execGrantExpire_keeps now k addr portId mtype s
  | .grantRenewTx now k addr mtype => execGrantRenewTx_keeps now k addr mtype s
  | .delayRespReservationRelease now k addr portId => execDelayRespReservationRelease_keeps now k addr portId s
  | .saKeySwitch now k => execSaKeySwitch_keeps now k s
  | .ptpInstanceReconfig now k => execPtpInstanceReconfig_keeps now k s
  | .ntpRequest now r => execNtpRequest_keeps now r s
  | .ntsLaunch now p lane tw mark delivered => execNtsLaunch_keeps now p lane tw mark delivered s
  | .ntsRelaunch now p lane tw mark delivered => execNtsRelaunch_keeps now p lane tw mark delivered s
  | .ntsExceptionRequest now => execNtsExceptionRequest_keeps now s
  | .ntpHashRekey a => execNtpHashRekey_keeps a s
  | .ntpPrefixWrite a sub v => execNtpPrefixWrite_keeps a sub v s
  | .bucketSweep now => execBucketSweep_keeps now s
  | .ntsKeySwitch now => execNtsKeySwitch_keeps now s
  | .ntsMintProducer a v => execNtsMintProducer_keeps a v s
  | .ntsMintEntry now mflags count aead unwrapOk => execNtsMintEntry_keeps now mflags count aead unwrapOk s
  | .add e d a b => execAdd_keeps e d a b s
  | .sub e d a b => execSub_keeps e d a b s
  | .and e d a b => execAnd_keeps e d a b s
  | .ior e d a b => execIor_keeps e d a b s
  | .xor e d a b => execXor_keeps e d a b s
  | .lsl e d a b => execLsl_keeps e d a b s
  | .lsr e d a b => execLsr_keeps e d a b s
  | .asr e d a b => execAsr_keeps e d a b s
  | .lts e d a b => execLts_keeps e d a b s
  | .ltu e d a b => execLtu_keeps e d a b s
  | .mul e d a b => execMul_keeps e d a b s
  | .mulhs e d a b => execMulhs_keeps e d a b s
  | .mulhu e d a b => execMulhu_keeps e d a b s
  | .divs e d a b => execDivs_keeps e d a b s
  | .divu e d a b => execDivu_keeps e d a b s
  | .rems e d a b => execRems_keeps e d a b s
  | .remu e d a b => execRemu_keeps e d a b s
  | .lzc e d a => execLzc_keeps e d a s
  | .ones e d a => execOnes_keeps e d a s
  | .addk e d a imm => execAddk_keeps e d a imm s
  | .andk e d a imm => execAndk_keeps e d a imm s
  | .iork e d a imm => execIork_keeps e d a imm s
  | .xork e d a imm => execXork_keeps e d a imm s
  | .ltsk e d a imm => execLtsk_keeps e d a imm s
  | .ltuk e d a imm => execLtuk_keeps e d a imm s
  | .khi e d a imm => execKhi_keeps e d a imm s
  | .lslk e d a imm => execLslk_keeps e d a imm s
  | .lsrk e d a imm => execLsrk_keeps e d a imm s
  | .asrk e d a imm => execAsrk_keeps e d a imm s
  | .ld8s e d a imm => execLd8s_keeps e d a imm s
  | .ld8u e d a imm => execLd8u_keeps e d a imm s
  | .ld16s e d a imm => execLd16s_keeps e d a imm s
  | .ld16u e d a imm => execLd16u_keeps e d a imm s
  | .ld32s e d a imm => execLd32s_keeps e d a imm s
  | .ld32u e d a imm => execLd32u_keeps e d a imm s
  | .ld64 e d a imm => execLd64_keeps e d a imm s
  | .st8 e b a imm => execSt8_keeps e b a imm s
  | .st16 e b a imm => execSt16_keeps e b a imm s
  | .st32 e b a imm => execSt32_keeps e b a imm s
  | .st64 e b a imm => execSt64_keeps e b a imm s
  | .atswap e d a b => execAtswap_keeps e d a b s
  | .atadd e d a b => execAtadd_keeps e d a b s
  | .atand e d a b => execAtand_keeps e d a b s
  | .atior e d a b => execAtior_keeps e d a b s
  | .order e => execOrder_keeps e s
  | .breq e a b off => execBreq_keeps e a b off s
  | .brne e a b off => execBrne_keeps e a b off s
  | .brlts e a b off => execBrlts_keeps e a b off s
  | .brges e a b off => execBrges_keeps e a b off s
  | .brltu e a b off => execBrltu_keeps e a b off s
  | .brgeu e a b off => execBrgeu_keeps e a b off s
  | .go e off => execGo_keeps e off s
  | .call e off => execCall_keeps e off s
  | .gor e d a imm => execGor_keeps e d a imm s
  | .dadd e d a b => execDadd_keeps e d a b s
  | .dsub e d a b => execDsub_keeps e d a b s
  | .dmul e d a b => execDmul_keeps e d a b s
  | .ddiv e d a b => execDdiv_keeps e d a b s
  | .dsqrt e d a => execDsqrt_keeps e d a s
  | .dmin e d a b => execDmin_keeps e d a b s
  | .dmax e d a b => execDmax_keeps e d a b s
  | .dneg e d a => execDneg_keeps e d a s
  | .dabs e d a => execDabs_keeps e d a s
  | .dceq e d a b => execDceq_keeps e d a b s
  | .dclt e d a b => execDclt_keeps e d a b s
  | .dcle e d a b => execDcle_keeps e d a b s
  | .dtoi e d a => execDtoi_keeps e d a s
  | .itod e d a => execItod_keeps e d a s
  | .dtog e d a => execDtog_keeps e d a s
  | .gtod e d a => execGtod_keeps e d a s
  | .dld e d a imm => execDld_keeps e d a imm s
  | .dst e b a imm => execDst_keeps e b a imm s
  | .tnow now e d => execTnow_keeps now e d s
  | .tseq e d => execTseq_keeps e d s
  | .text e d a b => execText_keeps e d a b s
  | .twait now e a => execTwait_keeps now e a s
  | .twaitResume now e => execTwaitResume_keeps now e s
  | .gadd e d a b => execGadd_keeps e d a b s
  | .gmax e d a b => execGmax_keeps e d a b s
  | .qpop e d a b => execQpop_keeps e d a b s
  | .qpush e d a b => execQpush_keeps e d a b s
  | .qstat e d a => execQstat_keeps e d a s
  | .qwait now e a b => execQwait_keeps now e a b s
  | .qwaitResume now e => execQwaitResume_keeps now e s
  | .csub e d a => execCsub_keeps e d a s
  | .cryptoJobDone tag ok => execCryptoJobDone_keeps tag ok s
  | .cwait e d a => execCwait_keeps e d a s
  | .crand e d => execCrand_keeps e d s
  | .rdc e d imm => execRdc_keeps e d imm s
  | .wrc now e a imm => execWrc_keeps now e a imm s
  | .idle e => execIdle_keeps e s
  | .idleWake e => execIdleWake_keeps e s
  | .stop e => execStop_keeps e s
  | .tret e => execTret_keeps e s
  | .dbg e => execDbg_keeps e s
  | .engineTrap now e cause recovers => execEngineTrap_keeps now e cause recovers s
  | .engineWatchdogExpire now e recovers => execEngineWatchdogExpire_keeps now e recovers s
  | .engineRestore now e => execEngineRestore_keeps now e s
  | .tackLoad a j addr => execTackLoad_keeps a j addr s
  | .tackLoadDone now j hashOk sigOk => execTackLoadDone_keeps now j hashOk sigOk s
  | .tackStop a j => execTackStop_keeps a j s
  | .paddockEnableWrite a v => execPaddockEnableWrite_keeps a v s
  | .tackEnginesWrite a v => execTackEnginesWrite_keeps a v s
  | .tackDoorbellRead a => execTackDoorbellRead_keeps a s
  | .govDecision now pPart tj ok => execGovDecision_keeps now pPart tj ok s
  | .govCostMeasure now pPart => execGovCostMeasure_keeps now pPart s
  | .govLevelMinWrite a v => execGovLevelMinWrite_keeps a v s
  | .pcDump now => execPcDump_keeps now s
  | .pcRead a e => execPcRead_keeps a e s
  | .instructionSample now e pc word latency stall trapped => execInstructionSample_keeps now e pc word latency stall trapped s
  | .maskRotation => execMaskRotation_keeps s
  | .lcToMaker a cred => execLcToMaker_keeps a cred s
  | .lcToOwned a cred => execLcToOwned_keeps a cred s
  | .lcToField a cred => execLcToField_keeps a cred s
  | .lcToDebug a cred => execLcToDebug_keeps a cred s
  | .lcToRetired a cred => execLcToRetired_keeps a cred s
  | .slotAttrWrite a n v => execSlotAttrWrite_keeps a n v s
  | .keyStage a v => execKeyStage_keeps a v s
  | .keyCommit a n => execKeyCommit_keeps a n s
  | .keyAbandon a n => execKeyAbandon_keeps a n s
  | .vaultStageTimeout now slot => execVaultStageTimeout_keeps now slot s
  | .keyErase a n => execKeyErase_keeps a n s
  | .keyExport a n w => execKeyExport_keeps a n w s
  | .tamperAlarm now src aon => execTamperAlarm_keeps now src aon s
  | .tamperClear a tseq cred => execTamperClear_keeps a tseq cred s
  | .aonSupplyChangeover now aon => execAonSupplyChangeover_keeps now aon s
  | .aonReset now => execAonReset_keeps now s
  | .authChallenge a => execAuthChallenge_keeps a s
  | .authOpen a v => execAuthOpen_keeps a v s
  | .authClose a n => execAuthClose_keeps a n s
  | .sessionIdleTimeout now num => execSessionIdleTimeout_keeps now num s
  | .sessionTicketExpire now num => execSessionTicketExpire_keeps now num s
  | .ticketMinIdWrite a v => execTicketMinIdWrite_keeps a v s
  | .ownerTransfer a v => execOwnerTransfer_keeps a v s
  | .ownerKeyRotate a v => execOwnerKeyRotate_keeps a v s
  | .jtagUnlock a v => execJtagUnlock_keeps a v s
  | .jtagAttach now => execJtagAttach_keeps now s
  | .jtagReset now => execJtagReset_keeps now s
  | .auditHead a => execAuditHead_keeps a s
  | .dictWrite a idx sub v => execDictWrite_keeps a idx sub v s
  | .dictDescribeAddr a idx sub => execDictDescribeAddr_keeps a idx sub s
  | .dictStore a => execDictStore_keeps a s
  | .sealReq a e slow => execSealReq_keeps a e slow s
  | .sealResp a ready => execSealResp_keeps a ready s
  | .mbSubmit a e len slow => execMbSubmit_keeps a e len slow s
  | .canSdoTransfer c stage write a idx sub v => execCanSdoTransfer_keeps c stage write a idx sub v s
  | .canSdoTimeout now c => execCanSdoTimeout_keeps now c s
  | .canNmtRx now c => execCanNmtRx_keeps now c s
  | .canHeartbeatTx now c => execCanHeartbeatTx_keeps now c s
  | .canBusOff now c => execCanBusOff_keeps now c s
  | .canBusOffRecovery now c => execCanBusOffRecovery_keeps now c s
  | .canEnableWrite a c v => execCanEnableWrite_keeps a c v s
  | .mspWrite a idx sub v ok ready slow => execMspWrite_keeps a idx sub v ok ready slow s
  | .mspRead a idx sub ok ready slow => execMspRead_keeps a idx sub ok ready slow s
  | .mspFetch now ok ready => execMspFetch_keeps now ok ready s
  | .mspState now ok ready => execMspState_keeps now ok ready s
  | .attnAck a v => execAttnAck_keeps a v s
  | .bar0Read a off w late => execBar0Read_keeps a off w late s
  | .bar0Write a off w v => execBar0Write_keeps a off w v s
  | .bar4Access now write off len v => execBar4Access_keeps now write off len v s
  | .dmaReq a src off len host => execDmaReq_keeps a src off len host s
  | .dmaDone now => execDmaDone_keeps now s
  | .esxiaPlainRequest a tag e ok => execEsxiaPlainRequest_keeps a tag e ok s
  | .esxiaSealedRequest a tag e ok => execEsxiaSealedRequest_keeps a tag e ok s
  | .esxiaPathWrite a sub v => execEsxiaPathWrite_keeps a sub v s
  | .agentWatchdogExpire now => execAgentWatchdogExpire_keeps now s
  | .halterQuarterTick now verdict lowA lowB highA highB => execHalterQuarterTick_keeps now verdict lowA lowB highA highB s
  | .leaseExpire now => execLeaseExpire_keeps now s
  | .foreignLow now => execForeignLow_keeps now s
  | .halterClaim now highA highB pass => execHalterClaim_keeps now highA highB pass s
  | .pairYieldCheck now => execPairYieldCheck_keeps now s
  | .hello now serial lc preferred svn hmac => execHello_keeps now serial lc preferred svn hmac s
  | .renew now pseq tag c => execRenew_keeps now pseq tag c s
  | .pairStatus now pseq tag state fit aligned girth epoch cfg full back => execPairStatus_keeps now pseq tag state fit aligned girth epoch cfg full back s
  | .marker now pseq tag tPeer rPeer => execMarker_keeps now pseq tag tPeer rPeer s
  | .snapSection now pseq tag x => execSnapSection_keeps now pseq tag x s
  | .snapTrailer now pseq tag epoch kind base count total digest => execSnapTrailer_keeps now pseq tag epoch kind base count total digest s
  | .handoffPropose now pseq tag th cause => execHandoffPropose_keeps now pseq tag th cause s
  | .handoffAccept now pseq tag => execHandoffAccept_keeps now pseq tag s
  | .handoffCommit now pseq tag => execHandoffCommit_keeps now pseq tag s
  | .handoffCancel now pseq tag => execHandoffCancel_keeps now pseq tag s
  | .handoffReceiverClaim now pass => execHandoffReceiverClaim_keeps now pass s
  | .handoffCommitCheck now => execHandoffCommitCheck_keeps now s
  | .handoffExecute now => execHandoffExecute_keeps now s
  | .handoffNoCommitTimeout now => execHandoffNoCommitTimeout_keeps now s
  | .release now pseq tag cause => execRelease_keeps now pseq tag cause s
  | .swapPropose now => execSwapPropose_keeps now s
  | .pairCommandHandoff a => execPairCommandHandoff_keeps a s
  | .pairCommandDiag a => execPairCommandDiag_keeps a s
  | .pairDiagDone now result => execPairDiagDone_keeps now result s
  | .pairReturn now => execPairReturn_keeps now s
  | .pairHoldStandbyWrite a v => execPairHoldStandbyWrite_keeps a v s
  | .pairEnableWrite a sub v => execPairEnableWrite_keeps a sub v s
  | .domainJoinTx now => execDomainJoinTx_keeps now s
  | .join now src domainId w serial lc epoch hmac => execJoin_keeps now src domainId w serial lc epoch hmac s
  | .joinAck now src domainId w serial result hmac => execJoinAck_keeps now src domainId w serial result hmac s
  | .quality now src dseq tag ql flags epoch c => execQuality_keeps now src dseq tag ql flags epoch c s
  | .domainQualityTx now => execDomainQualityTx_keeps now s
  | .domainStatus now src w dseq tag ql girth epoch => execDomainStatus_keeps now src w dseq tag ql girth epoch s
  | .domainStatusTx now => execDomainStatusTx_keeps now s
  | .policy now src dseq tag epoch l => execPolicy_keeps now src dseq tag epoch l s
  | .policyAck now src w dseq tag epoch code failing => execPolicyAck_keeps now src w dseq tag epoch code failing s
  | .keys now src dseq tag l => execKeys_keeps now src dseq tag l s
  | .keysAck now src w dseq tag results => execKeysAck_keeps now src w dseq tag results s
  | .leave now src w dseq tag cause => execLeave_keeps now src w dseq tag cause s
  | .domainManagerLost now => execDomainManagerLost_keeps now s
  | .domainWorkerLost now w => execDomainWorkerLost_keeps now w s
  | .domainPolicyWrite a k v => execDomainPolicyWrite_keeps a k v s
  | .domainConfigWrite a sub v => execDomainConfigWrite_keeps a sub v s
  | .faultRaise now code inst detail => execFaultRaise_keeps now code inst detail s
  | .faultConditionClear now code inst => execFaultConditionClear_keeps now code inst s
  | .faultHandlingDone now => execFaultHandlingDone_keeps now s
  | .faultHandleTimeout now => execFaultHandleTimeout_keeps now s
  | .evlogMove now n => execEvlogMove_keeps now n s
  | .faultAckCode a code => execFaultAckCode_keeps a code s
  | .faultAckAll a => execFaultAckAll_keeps a s
  | .faultAckF3 a => execFaultAckF3_keeps a s
  | .f3Clear a cred => execF3Clear_keeps a cred s
  | .sleepEnter a => execSleepEnter_keeps a s
  | .fwErase a => execFwErase_keeps a s
  | .fwEraseDone now ok => execFwEraseDone_keeps now ok s
  | .fwChunk a off len data => execFwChunk_keeps a off len data s
  | .fwCommit a v => execFwCommit_keeps a v s
  | .calSelect a e => execCalSelect_keeps a e s
  | .calValue a value unc source => execCalValue_keeps a value unc source s
  | .calCommitDone now ok => execCalCommitDone_keeps now ok s
  | .calReloadChunk a off len data => execCalReloadChunk_keeps a off len data s
  | .calReloadCommit a => execCalReloadCommit_keeps a s
  | .calStagingTimeout now => execCalStagingTimeout_keeps now s
  | .inElecWrite a n v => execInElecWrite_keeps a n v s
  | .localOscLoss now => execLocalOscLoss_keeps now s
  | .gnssClockLoss now => execGnssClockLoss_keeps now s
  | .gnssClockReturn now => execGnssClockReturn_keeps now s
  | .pcieLinkDown now => execPcieLinkDown_keeps now s
  | .pcieLinkUp now => execPcieLinkUp_keeps now s
  | .qrefReturn now q => execQrefReturn_keeps now q s
  | .peerLaneDown now p => execPeerLaneDown_keeps now p s
  | .peerLaneUp now p => execPeerLaneUp_keeps now p s
  | .peerLinkSilence now => execPeerLinkSilence_keeps now s
  | .haltWireFall now w back => execHaltWireFall_keeps now w back s
  | .ptpPdelayReqTx now p => execPtpPdelayReqTx_keeps now p s
  | .ptpQualificationTimeout now p => execPtpQualificationTimeout_keeps now p s
  | .dictStoreDone now ok => execDictStoreDone_keeps now ok s
  | .fwCommitDone now outcome => execFwCommitDone_keeps now outcome s
  | .aonSupplyRestore now => execAonSupplyRestore_keeps now s
  | .tamperSourceRecover now src => execTamperSourceRecover_keeps now src s

theorem exec_queue {c : Instr} {s t : State} (h : exec c s = .next t) : t.pending = s.pending := (exec_keeps c s t h).queue

theorem exec_inv {c : Instr} {s t : State} (h : exec c s = .next t) (hi : Safety.Inv s) : Safety.Inv t := (exec_keeps c s t h).inv hi

end Sys2Proof.Machine
end

