-- ==== Sys2Proof/Laws/Raise.lean ====
section
/-!
SUPPORT. What the fault collector and the operations around it leave of the time base: raising and clearing a fault, ending the handling
of one, stopping the lease, and a system reset touch no counter, no offset, no pending step and no anchor (R37, R45).
-/
set_option Elab.async false
namespace Sys2Proof.Machine

@[simp] theorem State.irqEdge_tb (s t : State) : (State.irqEdge s t).tb = t.tb := by
  unfold State.irqEdge
  split <;> rfl

@[simp] theorem State.enqueue_tb (s : State) (q n : Nat) (r : List Byte) : (s.enqueue q n r).1.tb = s.tb := by
  unfold State.enqueue
  split <;> rfl

theorem foldl_tb {α : Type} (f : State → α → State) (h : ∀ s x, (f s x).tb = s.tb) (l : List α) (s : State) : (l.foldl f s).tb = s.tb := by
  induction l generalizing s with
  | nil => rfl
  | cons x t ih => rw [List.foldl_cons, ih, h]

@[simp] theorem State.tap_tb (s : State) (a b : Nat) (c : Bool) (r : List Byte) : (s.tap a b c r).tb = s.tb := by
  unfold State.tap
  apply foldl_tb
  intro s x
  split
  · split
    · split
      · next h => have := congrArg (fun p => p.1.tb) h; simpa using this.symm
      · next h => have := congrArg (fun p => p.1.tb) h; simpa using this.symm
    · rfl
  · rfl

@[simp] theorem State.stageOne_tb (s : State) (b : LogBody) : (s.stageOne b).tb = s.tb := by unfold State.stageOne; simp
@[simp] theorem State.stageLoss_tb (s : State) : s.stageLoss.tb = s.tb := by unfold State.stageLoss; simp

theorem State.stage_tb {s t : State} {b : LogBody} (h : s.stage b = some t) : t.tb = s.tb := by
  unfold State.stage at h
  split at h
  · rw [← Option.some.inj h]; simp
  · split at h
    · rw [← Option.some.inj h]; simp
    · exact absurd h (by simp)

theorem State.staged_tb (s : State) (b : LogBody) : ((s.stage b).getD (s.lose s.log.staging 1)).tb = s.tb := by
  cases hs : s.stage b with
  | none => exact State.lose_tb _ _ _
  | some t => exact State.stage_tb hs

@[simp] theorem State.record_tb (s : State) (a b c d e f g : Nat) : (s.record a b c d e f g).tb = s.tb := by
  unfold State.record
  dsimp only
  split
  · exact State.staged_tb s _
  · rw [State.attn_tb]; exact State.staged_tb s _

@[simp] theorem State.auditEvent_tb (s : State) (a : AuditIn) : (s.auditEvent a).tb = s.tb := by
  unfold State.auditEvent State.audit
  dsimp only
  generalize hb : LogBody.audit _ = b
  cases hs : s.stage b with
  | none => exact State.lose_tb _ _ _
  | some t => show t.tb = s.tb; exact State.stage_tb hs

@[simp] theorem State.dropSessions_tb (s : State) : s.dropSessions.tb = s.tb := by
  unfold State.dropSessions
  split <;> simp
@[simp] theorem State.dropDomain_tb (s : State) : s.dropDomain.tb = s.tb := by
  unfold State.dropDomain
  split <;> rfl

@[simp] theorem State.stopDue_tb (s : State) (n : Nat) : (s.stopDue n).tb = s.tb := by
  unfold State.stopDue
  split <;> rfl

@[simp] theorem State.stopAll_tb (s : State) (p : Output → Bool) : (s.stopAll p).tb = s.tb := by
  unfold State.stopAll
  apply foldl_tb
  intro s n
  split <;> simp

@[simp] theorem State.haltOutputs_tb (s : State) : s.haltOutputs.tb = s.tb := by
  unfold State.haltOutputs
  rw [State.stopAll_tb]; rfl

@[simp] theorem State.hushPorts_tb (s : State) : s.hushPorts.tb = s.tb := rfl

@[simp] theorem State.holdTaps_tb (s : State) (l : Nat) : (s.holdTaps l).tb = s.tb := by
  unfold State.holdTaps
  rw [State.onLane_tb]

@[simp] theorem State.holdAllTaps_tb (s : State) : s.holdAllTaps.tb = s.tb := by
  unfold State.holdAllTaps
  exact foldl_tb _ State.holdTaps_tb _ _

@[simp] theorem State.stopLease_tb (s : State) (c : Nat) : (s.stopLease c).tb = s.tb := by
  unfold State.stopLease
  split
  · dsimp only
    rw [State.dropDomain_tb]
    have h (t : State) (a : Nat) (l : List Nat) : (t.peerSend a l).tb = t.tb := rfl
    simp only [apply_ite State.tb, h, State.hushPorts_tb, State.haltOutputs_tb, ite_self]
  · rfl

@[simp] theorem State.sysReset_tb (s : State) (c : Nat) : (s.sysReset c).tb = s.tb := by
  unfold State.sysReset
  split
  · rfl
  · dsimp only
    rw [State.revalid_tb]
    generalize hx : s.accrue.holdU.dropSessions.dropDomain.wipeVault.holdAllTaps = x
    show x.tb = _
    rw [← hx, State.holdAllTaps_tb]
    show s.accrue.holdU.dropSessions.dropDomain.tb = _
    simp

@[simp] theorem State.activate_tb (s : State) (a b c : Nat) : (s.activate a b c).tb = s.tb := by
  unfold State.activate
  dsimp only
  split <;> split <;> rfl

@[simp] theorem State.handle_tb (s : State) (a : Nat) : (s.handle a).tb = s.tb := by
  unfold State.handle
  split <;> rfl

@[simp] theorem State.f3Response_tb (s : State) : s.f3Response.tb = s.tb := by
  unfold State.f3Response
  dsimp only
  rw [State.sysReset_tb]
  show (List.foldl (fun (s : State) (p : Nat × Nat) => s.record p.1 2 4 noInst 0 0 0) _ _).tb = _
  rw [foldl_tb]
  · show (s.stopLease 2).tb = _
    simp
  · intro s x; simp

@[simp] theorem State.collect_tb (s : State) (a b c d : Nat) : (s.collect a b c d).tb = s.tb := by
  unfold State.collect
  dsimp only
  split
  · split
    · simp
    · split <;> simp
  · split
    · simp
    · split <;> simp

/-- Raising a fault, with all that may follow, leaves the time base as it is. -/
@[simp] theorem State.raise_tb (s : State) (a b c : Nat) : (s.raise a b c).tb = s.tb := by
  unfold State.raise
  split
  · rfl
  · split
    · rfl
    · split
      · split
        · simp
        · split <;> rfl
      · split
        · rfl
        · simp

@[simp] theorem State.clearFault_tb (s : State) (a b : Nat) : (s.clearFault a b).tb = s.tb := by
  unfold State.clearFault
  split
  · rfl
  · split
    · simp
    · rfl

@[simp] theorem State.nextF2_tb (s : State) : s.nextF2.tb = s.tb := by
  unfold State.nextF2
  split
  · split <;> rfl
  · rfl

@[simp] theorem State.endHandling_tb (s : State) (c : Nat) : (s.endHandling c).tb = s.tb := by
  unfold State.endHandling
  split
  · split
    · simp
    · rfl
  · rfl

/-! ## Sessions and the audit chain -/

@[simp] theorem State.irqEdge_access (s t : State) : (State.irqEdge s t).access = t.access := by
  unfold State.irqEdge
  split <;> rfl

@[simp] theorem State.enqueue_access (s : State) (q n : Nat) (r : List Byte) : (s.enqueue q n r).1.access = s.access := by
  unfold State.enqueue
  split <;> rfl

theorem foldl_access {α : Type} (f : State → α → State) (h : ∀ s x, (f s x).access = s.access) (l : List α) (s : State) : (l.foldl f s).access = s.access := by
  induction l generalizing s with
  | nil => rfl
  | cons x t ih => rw [List.foldl_cons, ih, h]

@[simp] theorem State.tap_access (s : State) (a b : Nat) (c : Bool) (r : List Byte) : (s.tap a b c r).access = s.access := by
  unfold State.tap
  apply foldl_access
  intro s x
  split
  · split
    · split
      · next h => have := congrArg (fun p => p.1.access) h; simpa using this.symm
      · next h => have := congrArg (fun p => p.1.access) h; simpa using this.symm
    · rfl
  · rfl

@[simp] theorem State.stageOne_access (s : State) (b : LogBody) : (s.stageOne b).access = s.access := by unfold State.stageOne; simp
@[simp] theorem State.stageLoss_access (s : State) : s.stageLoss.access = s.access := by unfold State.stageLoss; simp

theorem State.stage_access {s t : State} {b : LogBody} (h : s.stage b = some t) : t.access = s.access := by
  unfold State.stage at h
  split at h
  · rw [← Option.some.inj h]; simp
  · split at h
    · rw [← Option.some.inj h]; simp
    · exact absurd h (by simp)

theorem State.staged_access (s : State) (b : LogBody) : ((s.stage b).getD (s.lose s.log.staging 1)).access = s.access := by
  cases hs : s.stage b with
  | none => exact State.lose_access _ _ _
  | some t => exact State.stage_access hs

/-- A fault record leaves sessions, nonces and the audit chain as they are. -/
@[simp] theorem State.record_access (s : State) (a b c d e f g : Nat) : (s.record a b c d e f g).access = s.access := by
  unfold State.record
  dsimp only
  split
  · exact State.staged_access s _
  · rw [State.attn_access]; exact State.staged_access s _

/-- An audit record leaves the sessions as they are. -/
@[simp] theorem State.auditEvent_sessions (s : State) (a : AuditIn) : (s.auditEvent a).access.sessions = s.access.sessions := by
  unfold State.auditEvent State.audit
  dsimp only
  generalize hb : LogBody.audit _ = b
  cases hs : s.stage b with
  | none => exact congrArg Access.sessions (State.lose_access _ _ _)
  | some t => show t.access.sessions = s.access.sessions; rw [State.stage_access hs]

/-- A session that ends is no longer listed, and no other is affected (R409). -/
theorem State.endSession_sessions (c : Nat) (s : State) (x : Session) :
    (State.endSession c s x).access.sessions = s.access.sessions.filter (·.num != x.num) := by
  unfold State.endSession
  rw [State.attn_access, State.auditEvent_sessions]

end Sys2Proof.Machine
end

