-- ==== Sys2Proof/Laws/Writes.lean ====
section
/-!
SUPPORT. What an accepted write and a read that passes its checks do.
-/
set_option Elab.async false
namespace Sys2Proof.Machine

/-- An accepted write has its effect and is answered with code 0; AUTH_OPEN and SEAL_REQ have verdicts of their own. -/
theorem runWrite_accepted {s t : State} {a : Acc} {idx sub v : Nat} {w : Who} (h : Safety.Accepts s a idx sub v w t)
    (h1 : ¬ (idx = 0xA800 ∧ sub = 2)) (h2 : idx ≠ 0x1030) :
    s.runWrite a idx sub v = Safety.answers (t.applyWrite a w idx sub v) a.path 0 0 := by
  obtain ⟨hp, hv, hw, hc, d, hd, hr, ha⟩ := h
  have key : s.pathWrite a idx sub v = (t.applyWrite a w idx sub v, 0) := by
    unfold State.pathWrite
    rw [if_neg (by simp [h2])]
    unfold State.accessWrite
    dsimp only
    rw [hw]
    dsimp only
    rw [Nat.mod_eq_of_lt hv]
    unfold State.writeAs
    rw [hc]
    dsimp only
    rw [hd]
    change State.lateWrite (Safety.judged s a idx sub) a w d idx sub v = _
    unfold State.lateWrite
    rw [if_neg (by simpa using h1), hr]
    unfold State.acceptWrite
    cases hl : d.logged idx sub with
    | true =>
      rw [hl] at ha
      rw [if_pos rfl] at ha ⊢
      rw [ha]
      rfl
    | false =>
      rw [hl] at ha
      simp only [Bool.false_eq_true, if_false] at ha ⊢
      rw [ha]
  unfold State.runWrite
  rw [hp, key]
  simp [Safety.answers]

/-- A read that passes its checks answers with what it reads. -/
theorem runRead_accepted {s : State} {a : Acc} {idx sub : Nat} {d : ObjDef} (h : Safety.MayRead s a idx sub d) :
    s.runRead a idx sub = Safety.answers ((s.arrive a).doRead a d idx sub).1 a.path ((s.arrive a).doRead a d idx sub).2.1
      ((s.arrive a).doRead a d idx sub).2.2 := by
  obtain ⟨hp, hd, w, hw, hc⟩ := h
  have key : s.accessRead a idx sub = (s.arrive a).doRead a d idx sub := by
    unfold State.accessRead
    dsimp only
    rw [hw]
    dsimp only
    rw [hc]
    rw [hd]
    rfl
  unfold State.runRead
  rw [hp, key]
  rfl

/-- A command that writes has the effect that its chapter gives the write. -/
theorem writeDoes {s : State} {a : Acc} {idx sub v : Nat} (h1 : ¬ (idx = 0xA800 ∧ sub = 2)) (h2 : idx ≠ 0x1030) {f : State → State}
    (hf : ∀ t w, t.applyWrite a w idx sub v = f t) :
    Safety.WriteDoes s a idx sub v f (.next (s.runWrite a idx sub v)) := by
  intro w t h
  rw [runWrite_accepted h h1 h2, hf]

end Sys2Proof.Machine
end

