-- ==== Sys2Proof/WellFormed.lean ====
section
/-!
DEFINITION. Which commands are well formed: every operand that numbers one of a fixed set of things, or is a field of an encoding,
is within its range.
-/
set_option Elab.async false
namespace Sys2Proof

/-- The bounded operands of a command, each with the bound it stays below: registers 32 and engines 36 (R333, R334), immediate
fields (R337), references 17 (R69), channels 32 (R97), outputs 16 and APLLs 4 (R151), lanes and ports 32 (R231), PTP instances 4
(R292), vault slots 512 (R378), tracking channels 256 (R192), CAN controllers 2, object indices and subindices (R427). -/
def Instr.bounds (i : Instr) : List (Nat × Nat) :=
  match i with
  | .clockLossOfLock _ xloop => [(xloop, 4)]
  | .tbApllLossOfLock _ _ => []
  | .xoStop _ => []
  | .lockConfirmed _ xloop => [(xloop, 17)]
  | .pllRelockCpll _ => []
  | .pllRelockEpll _ => []
  | .sysReset _ => []
  | .systemResetEnginesReturn _ _ _ _ _ => []
  | .poresetNLow _ => []
  | .powerOnResetRelease _ _ _ _ => []
  | .dramTrainingDone _ _ => []
  | .dqsTracking _ => []
  | .paddockWipeDone _ => []
  | .startupWarmMaxExpire _ => []
  | .anchorLatch _ => []
  | .timeSet _ _ => []
  | .utcOffsetModeWrite _ _ => []
  | .selectorTick _ => []
  | .refEvaluation _ => []
  | .refLossOfSignal _ xn => [(xn, 17)]
  | .todSentenceRx _ xk _ _ _ _ _ _ _ _ => [(xk, 2)]
  | .todSentenceTimeout xk => [(xk, 2)]
  | .esmcPduRx xlane xssm _ => [(xlane, 32), (xssm, 16)]
  | .esmcRxTimeout xk => [(xk, 32)]
  | .forcePinChange _ => []
  | .forcePinLatch _ => []
  | .soakTimeWrite _ xn _ => [(xn, 17)]
  | .tiuEdge _ xc xbin => [(xc, 32), (xbin, 32)]
  | .tiuGateEstimate _ xc => [(xc, 32)]
  | .tiuChannelReconfig _ xc _ _ => [(xc, 32)]
  | .servoMeasurement _ xn _ _ _ => [(xn, 18)]
  | .buildOutTimeout _ => []
  | .accumControl _ _ => []
  | .accumSlew _ _ _ => []
  | .accumStep _ => []
  | .slewComplete _ => []
  | .freqRampEnd _ => []
  | .servoRestart _ => []
  | .slopeLimitTimeout _ => []
  | .hoLearnFit => []
  | .ovenSample xcode _ => [(xcode, 65536)]
  | .ovenLoopStep => []
  | .warmFlagRise _ => []
  | .warmFlagFall _ => []
  | .atomicSteerSend => []
  | .atomicReplyRx _ _ _ => []
  | .atomicSilentTimeout => []
  | .atomicRelayTx _ _ => []
  | .atomicRelayStatus _ _ => []
  | .synthCommit _ xmask => [(xmask, 16)]
  | .synthCommitApply _ => []
  | .outputApllLoss _ xa => [(xa, 4)]
  | .outputStart _ xn => [(xn, 16)]
  | .outputStop _ xn => [(xn, 16)]
  | .outputAlignCheck _ xn => [(xn, 16)]
  | .loopbackTimeout xn => [(xn, 16)]
  | .todSentenceTx _ xu => [(xu, 2)]
  | .gifAlign xk => [(xk, 3)]
  | .gifLost xk => [(xk, 3)]
  | .gifConfigWrite _ xk _ _ => [(xk, 3)]
  | .notchUpdate xk _ _ => [(xk, 3)]
  | .jamIndUpdate xk _ _ => [(xk, 3)]
  | .acqStatistic _ xe _ => [(xe, 4)]
  | .pullInTimeout xch => [(xch, 256)]
  | .trackChannelLost _ xch => [(xch, 256)]
  | .gnssEpoch _ _ _ => []
  | .gnssMeasRecord _ _ => []
  | .navBitRecord _ xch _ => [(xch, 256)]
  | .gnEnableWrite _ _ => []
  | .gnSurveyRestart _ => []
  | .surveyComplete => []
  | .gnPosCheck => []
  | .girthTermTimeout _ xk => [(xk, 5)]
  | .girthLimitWrite _ _ => []
  | .quadApply _ xq => [(xq, 8)]
  | .qrefLoss _ xq => [(xq, 8)]
  | .linkBringUp _ xl _ xscans _ _ _ => [(xl, 34), (xscans.length, 33)]
  | .trainingTimeout _ xl => [(xl, 32)]
  | .linkUp _ xl => [(xl, 32)]
  | .linkLoss _ xl => [(xl, 32)]
  | .blockLockLossTimeout _ xl => [(xl, 32)]
  | .laneRetrain _ xl => [(xl, 32)]
  | .laneDisable _ xl => [(xl, 32)]
  | .eyeScan xl _ _ => [(xl, 34)]
  | .fomWarnTimeout _ xl => [(xl, 34)]
  | .fomMinTimeout _ xl => [(xl, 34)]
  | .ctleAdapt _ xl _ _ _ _ => [(xl, 32)]
  | .lpiTxSleep xl => [(xl, 32)]
  | .lpiRxSignal _ xl _ => [(xl, 32)]
  | .esmcTx _ xl => [(xl, 32)]
  | .esmcEventTx _ xl => [(xl, 32)]
  | .peerLaneSwitch _ => []
  | .peerLaneRevert _ => []
  | .peerPreferWrite _ _ => []
  | .interpCal _ xl => [(xl, 32)]
  | .alignMeasure xl _ _ => [(xl, 32)]
  | .alignDecide _ xp => [(xp, 32)]
  | .portCalLoop _ xp => [(xp, 32)]
  | .portCalLoopDone xp => [(xp, 32)]
  | .frameIngress _ _ => []
  | .egressSelect _ xp xlane _ _ _ => [(xp, 32), (xlane, 32)]
  | .downHoldExpire _ xp => [(xp, 32)]
  | .blockTimeExpire _ xp => [(xp, 32)]
  | .fdbAgeOut _ _ _ => []
  | .hostProtocolRequest _ _ => []
  | .ptpAnnounceRx _ xk xp _ _ => [(xk, 4), (xp, 32)]
  | .announceTimeout _ xp => [(xp, 32)]
  | .ptpStateDecision _ xk => [(xk, 4)]
  | .ptpSyncRx _ xk xp _ => [(xk, 4), (xp, 32)]
  | .ptpFollowUpRx _ xk xp _ => [(xk, 4), (xp, 32)]
  | .ptpDelayReqRx _ xk xp _ => [(xk, 4), (xp, 32)]
  | .ptpDelayRespRx _ xk xp _ => [(xk, 4), (xp, 32)]
  | .ptpPdelayReqRx _ xp _ => [(xp, 32)]
  | .ptpPdelayRespRx _ xp _ _ => [(xp, 32)]
  | .ptpMgmtRx _ => []
  | .ptpSyncTx _ xk xp _ => [(xk, 4), (xp, 32)]
  | .ptpAnnounceTx _ xk xp _ => [(xk, 4), (xp, 32)]
  | .ptpDelayReqTx _ xk xp => [(xk, 4), (xp, 32)]
  | .requestUnicastTransmission _ xk xp _ _ _ _ _ _ => [(xk, 4), (xp, 32)]
  | .cancelUnicastTransmission _ xk xp _ _ _ _ => [(xk, 4), (xp, 32)]
  | .grantUnicastTransmissionRx _ xk xp _ _ _ _ => [(xk, 4), (xp, 32)]
  | .grantExpire _ xk _ _ _ => [(xk, 4)]
  | .grantRenewTx _ xk _ _ => [(xk, 4)]
  | .delayRespReservationRelease _ xk _ _ => [(xk, 4)]
  | .saKeySwitch _ _ => []
  | .ptpInstanceReconfig _ xk => [(xk, 4)]
  | .ntpRequest _ _ => []
  | .ntsLaunch _ xp xlane _ _ _ => [(xp, 32), (xlane, 32)]
  | .ntsRelaunch _ xp xlane _ _ _ => [(xp, 32), (xlane, 32)]
  | .ntsExceptionRequest _ => []
  | .ntpHashRekey _ => []
  | .ntpPrefixWrite _ _ _ => []
  | .bucketSweep _ => []
  | .ntsKeySwitch _ => []
  | .ntsMintProducer _ _ => []
  | .ntsMintEntry _ _ _ _ _ => []
  | .add xe xd xa xb => [(xe, 36), (xd, 32), (xa, 32), (xb, 32)]
  | .sub xe xd xa xb => [(xe, 36), (xd, 32), (xa, 32), (xb, 32)]
  | .and xe xd xa xb => [(xe, 36), (xd, 32), (xa, 32), (xb, 32)]
  | .ior xe xd xa xb => [(xe, 36), (xd, 32), (xa, 32), (xb, 32)]
  | .xor xe xd xa xb => [(xe, 36), (xd, 32), (xa, 32), (xb, 32)]
  | .lsl xe xd xa xb => [(xe, 36), (xd, 32), (xa, 32), (xb, 32)]
  | .lsr xe xd xa xb => [(xe, 36), (xd, 32), (xa, 32), (xb, 32)]
  | .asr xe xd xa xb => [(xe, 36), (xd, 32), (xa, 32), (xb, 32)]
  | .lts xe xd xa xb => [(xe, 36), (xd, 32), (xa, 32), (xb, 32)]
  | .ltu xe xd xa xb => [(xe, 36), (xd, 32), (xa, 32), (xb, 32)]
  | .mul xe xd xa xb => [(xe, 36), (xd, 32), (xa, 32), (xb, 32)]
  | .mulhs xe xd xa xb => [(xe, 36), (xd, 32), (xa, 32), (xb, 32)]
  | .mulhu xe xd xa xb => [(xe, 36), (xd, 32), (xa, 32), (xb, 32)]
  | .divs xe xd xa xb => [(xe, 36), (xd, 32), (xa, 32), (xb, 32)]
  | .divu xe xd xa xb => [(xe, 36), (xd, 32), (xa, 32), (xb, 32)]
  | .rems xe xd xa xb => [(xe, 36), (xd, 32), (xa, 32), (xb, 32)]
  | .remu xe xd xa xb => [(xe, 36), (xd, 32), (xa, 32), (xb, 32)]
  | .lzc xe xd xa => [(xe, 36), (xd, 32), (xa, 32)]
  | .ones xe xd xa => [(xe, 36), (xd, 32), (xa, 32)]
  | .addk xe xd xa ximm => [(xe, 36), (xd, 32), (xa, 32), (ximm, 65536)]
  | .andk xe xd xa ximm => [(xe, 36), (xd, 32), (xa, 32), (ximm, 65536)]
  | .iork xe xd xa ximm => [(xe, 36), (xd, 32), (xa, 32), (ximm, 65536)]
  | .xork xe xd xa ximm => [(xe, 36), (xd, 32), (xa, 32), (ximm, 65536)]
  | .ltsk xe xd xa ximm => [(xe, 36), (xd, 32), (xa, 32), (ximm, 65536)]
  | .ltuk xe xd xa ximm => [(xe, 36), (xd, 32), (xa, 32), (ximm, 65536)]
  | .khi xe xd xa ximm => [(xe, 36), (xd, 32), (xa, 32), (ximm, 65536)]
  | .lslk xe xd xa ximm => [(xe, 36), (xd, 32), (xa, 32), (ximm, 65536)]
  | .lsrk xe xd xa ximm => [(xe, 36), (xd, 32), (xa, 32), (ximm, 65536)]
  | .asrk xe xd xa ximm => [(xe, 36), (xd, 32), (xa, 32), (ximm, 65536)]
  | .ld8s xe xd xa ximm => [(xe, 36), (xd, 32), (xa, 32), (ximm, 65536)]
  | .ld8u xe xd xa ximm => [(xe, 36), (xd, 32), (xa, 32), (ximm, 65536)]
  | .ld16s xe xd xa ximm => [(xe, 36), (xd, 32), (xa, 32), (ximm, 65536)]
  | .ld16u xe xd xa ximm => [(xe, 36), (xd, 32), (xa, 32), (ximm, 65536)]
  | .ld32s xe xd xa ximm => [(xe, 36), (xd, 32), (xa, 32), (ximm, 65536)]
  | .ld32u xe xd xa ximm => [(xe, 36), (xd, 32), (xa, 32), (ximm, 65536)]
  | .ld64 xe xd xa ximm => [(xe, 36), (xd, 32), (xa, 32), (ximm, 65536)]
  | .st8 xe xb xa ximm => [(xe, 36), (xb, 32), (xa, 32), (ximm, 65536)]
  | .st16 xe xb xa ximm => [(xe, 36), (xb, 32), (xa, 32), (ximm, 65536)]
  | .st32 xe xb xa ximm => [(xe, 36), (xb, 32), (xa, 32), (ximm, 65536)]
  | .st64 xe xb xa ximm => [(xe, 36), (xb, 32), (xa, 32), (ximm, 65536)]
  | .atswap xe xd xa xb => [(xe, 36), (xd, 32), (xa, 32), (xb, 32)]
  | .atadd xe xd xa xb => [(xe, 36), (xd, 32), (xa, 32), (xb, 32)]
  | .atand xe xd xa xb => [(xe, 36), (xd, 32), (xa, 32), (xb, 32)]
  | .atior xe xd xa xb => [(xe, 36), (xd, 32), (xa, 32), (xb, 32)]
  | .order xe => [(xe, 36)]
  | .breq xe xa xb xoff => [(xe, 36), (xa, 32), (xb, 32), (xoff, 65536)]
  | .brne xe xa xb xoff => [(xe, 36), (xa, 32), (xb, 32), (xoff, 65536)]
  | .brlts xe xa xb xoff => [(xe, 36), (xa, 32), (xb, 32), (xoff, 65536)]
  | .brges xe xa xb xoff => [(xe, 36), (xa, 32), (xb, 32), (xoff, 65536)]
  | .brltu xe xa xb xoff => [(xe, 36), (xa, 32), (xb, 32), (xoff, 65536)]
  | .brgeu xe xa xb xoff => [(xe, 36), (xa, 32), (xb, 32), (xoff, 65536)]
  | .go xe xoff => [(xe, 36), (xoff, 67108864)]
  | .call xe xoff => [(xe, 36), (xoff, 67108864)]
  | .gor xe xd xa ximm => [(xe, 36), (xd, 32), (xa, 32), (ximm, 65536)]
  | .dadd xe xd xa xb => [(xe, 36), (xd, 32), (xa, 32), (xb, 32)]
  | .dsub xe xd xa xb => [(xe, 36), (xd, 32), (xa, 32), (xb, 32)]
  | .dmul xe xd xa xb => [(xe, 36), (xd, 32), (xa, 32), (xb, 32)]
  | .ddiv xe xd xa xb => [(xe, 36), (xd, 32), (xa, 32), (xb, 32)]
  | .dsqrt xe xd xa => [(xe, 36), (xd, 32), (xa, 32)]
  | .dmin xe xd xa xb => [(xe, 36), (xd, 32), (xa, 32), (xb, 32)]
  | .dmax xe xd xa xb => [(xe, 36), (xd, 32), (xa, 32), (xb, 32)]
  | .dneg xe xd xa => [(xe, 36), (xd, 32), (xa, 32)]
  | .dabs xe xd xa => [(xe, 36), (xd, 32), (xa, 32)]
  | .dceq xe xd xa xb => [(xe, 36), (xd, 32), (xa, 32), (xb, 32)]
  | .dclt xe xd xa xb => [(xe, 36), (xd, 32), (xa, 32), (xb, 32)]
  | .dcle xe xd xa xb => [(xe, 36), (xd, 32), (xa, 32), (xb, 32)]
  | .dtoi xe xd xa => [(xe, 36), (xd, 32), (xa, 32)]
  | .itod xe xd xa => [(xe, 36), (xd, 32), (xa, 32)]
  | .dtog xe xd xa => [(xe, 36), (xd, 32), (xa, 32)]
  | .gtod xe xd xa => [(xe, 36), (xd, 32), (xa, 32)]
  | .dld xe xd xa ximm => [(xe, 36), (xd, 32), (xa, 32), (ximm, 65536)]
  | .dst xe xb xa ximm => [(xe, 36), (xb, 32), (xa, 32), (ximm, 65536)]
  | .tnow _ xe xd => [(xe, 36), (xd, 32)]
  | .tseq xe xd => [(xe, 36), (xd, 32)]
  | .text xe xd xa xb => [(xe, 36), (xd, 32), (xa, 32), (xb, 32)]
  | .twait _ xe xa => [(xe, 36), (xa, 32)]
  | .twaitResume _ xe => [(xe, 36)]
  | .gadd xe xd xa xb => [(xe, 36), (xd, 32), (xa, 32), (xb, 32)]
  | .gmax xe xd xa xb => [(xe, 36), (xd, 32), (xa, 32), (xb, 32)]
  | .qpop xe xd xa xb => [(xe, 36), (xd, 32), (xa, 32), (xb, 32)]
  | .qpush xe xd xa xb => [(xe, 36), (xd, 32), (xa, 32), (xb, 32)]
  | .qstat xe xd xa => [(xe, 36), (xd, 32), (xa, 32)]
  | .qwait _ xe xa xb => [(xe, 36), (xa, 32), (xb, 32)]
  | .qwaitResume _ xe => [(xe, 36)]
  | .csub xe xd xa => [(xe, 36), (xd, 32), (xa, 32)]
  | .cryptoJobDone _ _ => []
  | .cwait xe xd xa => [(xe, 36), (xd, 32), (xa, 32)]
  | .crand xe xd => [(xe, 36), (xd, 32)]
  | .rdc xe xd ximm => [(xe, 36), (xd, 32), (ximm, 65536)]
  | .wrc _ xe xa ximm => [(xe, 36), (xa, 32), (ximm, 65536)]
  | .idle xe => [(xe, 36)]
  | .idleWake xe => [(xe, 36)]
  | .stop xe => [(xe, 36)]
  | .tret xe => [(xe, 36)]
  | .dbg xe => [(xe, 36)]
  | .engineTrap _ xe xcause _ => [(xe, 36), (xcause, 256)]
  | .engineWatchdogExpire _ xe _ => [(xe, 36)]
  | .engineRestore _ xe => [(xe, 36)]
  | .tackLoad _ xj _ => [(xj, 8)]
  | .tackLoadDone _ xj _ _ => [(xj, 8)]
  | .tackStop _ xj => [(xj, 8)]
  | .paddockEnableWrite _ _ => []
  | .tackEnginesWrite _ _ => []
  | .tackDoorbellRead _ => []
  | .govDecision _ _ _ _ => []
  | .govCostMeasure _ _ => []
  | .govLevelMinWrite _ _ => []
  | .pcDump _ => []
  | .pcRead _ xe => [(xe, 36)]
  | .instructionSample _ xe _ _ _ _ _ => [(xe, 36)]
  | .maskRotation => []
  | .lcToMaker _ _ => []
  | .lcToOwned _ _ => []
  | .lcToField _ _ => []
  | .lcToDebug _ _ => []
  | .lcToRetired _ _ => []
  | .slotAttrWrite _ xn _ => [(xn, 512)]
  | .keyStage _ _ => []
  | .keyCommit _ xn => [(xn, 512)]
  | .keyAbandon _ xn => [(xn, 512)]
  | .vaultStageTimeout _ xslot => [(xslot, 512)]
  | .keyErase _ xn => [(xn, 512)]
  | .keyExport _ xn _ => [(xn, 512)]
  | .tamperAlarm _ _ _ => []
  | .tamperClear _ _ _ => []
  | .aonSupplyChangeover _ _ => []
  | .aonReset _ => []
  | .authChallenge _ => []
  | .authOpen _ _ => []
  | .authClose _ _ => []
  | .sessionIdleTimeout _ _ => []
  | .sessionTicketExpire _ _ => []
  | .ticketMinIdWrite _ _ => []
  | .ownerTransfer _ _ => []
  | .ownerKeyRotate _ _ => []
  | .jtagUnlock _ _ => []
  | .jtagAttach _ => []
  | .jtagReset _ => []
  | .auditHead _ => []
  | .dictWrite _ xidx xsub _ => [(xidx, 65536), (xsub, 256)]
  | .dictDescribeAddr _ xidx xsub => [(xidx, 65536), (xsub, 256)]
  | .dictStore _ => []
  | .sealReq _ _ _ => []
  | .sealResp _ _ => []
  | .mbSubmit _ _ _ _ => []
  | .canSdoTransfer xc xstage _ _ xidx xsub _ => [(xc, 2), (xstage, 3), (xidx, 65536), (xsub, 256)]
  | .canSdoTimeout _ xc => [(xc, 2)]
  | .canNmtRx _ xc => [(xc, 2)]
  | .canHeartbeatTx _ xc => [(xc, 2)]
  | .canBusOff _ xc => [(xc, 2)]
  | .canBusOffRecovery _ xc => [(xc, 2)]
  | .canEnableWrite _ xc _ => [(xc, 2)]
  | .mspWrite _ xidx xsub _ _ _ _ => [(xidx, 65536), (xsub, 256)]
  | .mspRead _ xidx xsub _ _ _ => [(xidx, 65536), (xsub, 256)]
  | .mspFetch _ _ _ => []
  | .mspState _ _ _ => []
  | .attnAck _ _ => []
  | .bar0Read _ _ xw _ => [(xw, 16)]
  | .bar0Write _ _ xw _ => [(xw, 16)]
  | .bar4Access _ _ _ _ _ => []
  | .dmaReq _ _ _ _ _ => []
  | .dmaDone _ => []
  | .esxiaPlainRequest _ _ _ _ => []
  | .esxiaSealedRequest _ _ _ _ => []
  | .esxiaPathWrite _ _ _ => []
  | .agentWatchdogExpire _ => []
  | .halterQuarterTick _ _ _ _ _ _ => []
  | .leaseExpire _ => []
  | .foreignLow _ => []
  | .halterClaim _ _ _ _ => []
  | .pairYieldCheck _ => []
  | .hello _ _ _ _ _ _ => []
  | .renew _ _ _ _ => []
  | .pairStatus _ _ _ _ _ _ _ _ _ _ _ => []
  | .marker _ _ _ _ _ => []
  | .snapSection _ _ _ _ => []
  | .snapTrailer _ _ _ _ _ _ _ _ _ => []
  | .handoffPropose _ _ _ _ _ => []
  | .handoffAccept _ _ _ => []
  | .handoffCommit _ _ _ => []
  | .handoffCancel _ _ _ => []
  | .handoffReceiverClaim _ _ => []
  | .handoffCommitCheck _ => []
  | .handoffExecute _ => []
  | .handoffNoCommitTimeout _ => []
  | .release _ _ _ _ => []
  | .swapPropose _ => []
  | .pairCommandHandoff _ => []
  | .pairCommandDiag _ => []
  | .pairDiagDone _ xresult => [(xresult, 256)]
  | .pairReturn _ => []
  | .pairHoldStandbyWrite _ _ => []
  | .pairEnableWrite _ _ _ => []
  | .domainJoinTx _ => []
  | .join _ _ _ xw _ _ _ _ => [(xw, 4096)]
  | .joinAck _ _ _ xw _ _ _ => [(xw, 4096)]
  | .quality _ _ _ _ _ _ _ _ => []
  | .domainQualityTx _ => []
  | .domainStatus _ _ xw _ _ _ _ _ => [(xw, 4096)]
  | .domainStatusTx _ => []
  | .policy _ _ _ _ _ _ => []
  | .policyAck _ _ xw _ _ _ _ _ => [(xw, 4096)]
  | .keys _ _ _ _ _ => []
  | .keysAck _ _ xw _ _ _ => [(xw, 4096)]
  | .leave _ _ xw _ _ _ => [(xw, 4096)]
  | .domainManagerLost _ => []
  | .domainWorkerLost _ xw => [(xw, 4096)]
  | .domainPolicyWrite _ xk _ => [(xk, 64)]
  | .domainConfigWrite _ _ _ => []
  | .faultRaise _ xcode xinst _ => [(xcode, 65536), (xinst, 65536)]
  | .faultConditionClear _ xcode xinst => [(xcode, 65536), (xinst, 65536)]
  | .faultHandlingDone _ => []
  | .faultHandleTimeout _ => []
  | .evlogMove _ _ => []
  | .faultAckCode _ xcode => [(xcode, 65536)]
  | .faultAckAll _ => []
  | .faultAckF3 _ => []
  | .f3Clear _ _ => []
  | .sleepEnter _ => []
  | .fwErase _ => []
  | .fwEraseDone _ _ => []
  | .fwChunk _ _ _ _ => []
  | .fwCommit _ _ => []
  | .calSelect _ _ => []
  | .calValue _ _ _ _ => []
  | .calCommitDone _ _ => []
  | .calReloadChunk _ _ _ _ => []
  | .calReloadCommit _ => []
  | .calStagingTimeout _ => []
  | .inElecWrite _ xn _ => [(xn, 8)]
  | .localOscLoss _ => []
  | .gnssClockLoss _ => []
  | .gnssClockReturn _ => []
  | .pcieLinkDown _ => []
  | .pcieLinkUp _ => []
  | .qrefReturn _ xq => [(xq, 8)]
  | .peerLaneDown _ xp => [(xp, 2)]
  | .peerLaneUp _ xp => [(xp, 2)]
  | .peerLinkSilence _ => []
  | .haltWireFall _ xw _ => [(xw, 2)]
  | .ptpPdelayReqTx _ xp => [(xp, 32)]
  | .ptpQualificationTimeout _ xp => [(xp, 32)]
  | .dictStoreDone _ _ => []
  | .fwCommitDone _ xoutcome => [(xoutcome, 3)]
  | .aonSupplyRestore _ => []
  | .tamperSourceRecover _ _ => []

/-- Every bounded operand is within its bound. -/
def Instr.wellFormed (i : Instr) : Bool := i.bounds.all (fun p => decide (p.1 < p.2))

end Sys2Proof
end

