-- ==== Sys2Proof/Tests/Slice0.lean ====
section
/-!
SUPPORT. The model's own tests: ill-formed commands that the check refuses, the worked examples of spec/, and for every statement
of Obligations.lean a concrete state and operands that meet all of its hypotheses.
-/
namespace Sys2Proof.Tests
set_option Elab.async false
open Sys2Proof Sys2Proof.Machine

/-! ## States and requests -/

/-- Boot is over: the agent, the PCIe link and the DRAM are up, every clock group is locked, and no work class is gated. -/
def up : State :=
  { State.reset with
    start := { Start.init with state := .acquiring, bootDone := true, agent := true, dramStatus := 2 }
    clk := { Clk.init with groups := List.replicate 15 1 }
    dict := { Dict.init with pcieUp := true }
    engs := { Engines.init with gated := 0 } }

/-- A session of the PCIe path. -/
def sess (n : Nat) (r : Role) : Session :=
  { num := n, role := r, path := .pcie, ticketId := 0, ticketed := false, notAfter := 0, opened := 0, src := 0, host := 0, port := 0,
    seq := none, busy := false, resp := none, sealFails := 0, lastReq := 0, describe := 0, calSel := 0 }

/-- `up` with a session of each role open: 1 MAKER, 2 OWNER, 3 KEEPER, 5 FIELD; and nonce 7 drawn on the PCIe path. -/
def desk : State :=
  { up with access := { Access.init with
      sessions := [sess 1 .maker, sess 2 .owner, sess 3 .keeper, sess 5 .field]
      paths := [{ PathState.init .pcie with nonce := some (7, 0) }] ++ Access.init.paths.tail } }

/-- A plain request on a path with a value of `n` bytes. -/
def plain (p : Path) (n : Nat) : Acc :=
  { path := p, session := none, env := false, src := 0, host := 0, port := 0, len := n, queued := 0, now := 0, role := .owner,
    proof := true, outcome := 0 }

/-- A request sealed under session `k` of the PCIe path. -/
def sealed (k n : Nat) : Acc := { plain .pcie n with session := some k, env := true }

/-- What `Accepts` asks, as a check that the kernel carries out. -/
def accepted (s : State) (a : Acc) (idx sub v : Nat) : Bool :=
  let j := Safety.judged s a idx sub
  s.pathUp a.path && decide (v < 2 ^ (8 * a.len)) &&
    match (s.arrive a).whoIs a idx sub true, entryOf idx sub with
    | some w, some d => (s.arrive a).firstChecks a w idx sub v true == 0 && j.writeRefusal a w d idx sub v == 0 &&
        (!d.logged idx sub || (j.audit (j.auditOf a w (auditType idx sub) idx sub 0 (j.auditVal a d idx sub v))).isSome)
    | _, _ => false

/-- A write that passes the check is one that `Accepts` admits. -/
theorem accepts_of_check (s : State) (a : Acc) (idx sub v : Nat) (h : accepted s a idx sub v = true) :
    ∃ w t, Safety.Accepts s a idx sub v w t := by
  unfold accepted at h
  simp only [Bool.and_eq_true, decide_eq_true_eq] at h
  obtain ⟨⟨h1, h2⟩, h3⟩ := h
  split at h3
  · rename_i w d hw hd
    simp only [Bool.and_eq_true, beq_iff_eq, Bool.or_eq_true, Bool.not_eq_true'] at h3
    obtain ⟨⟨h4, h5⟩, h6⟩ := h3
    cases hl : d.logged idx sub with
    | false => exact ⟨w, _, h1, h2, hw, h4, d, hd, h5, by rw [hl]; rfl⟩
    | true =>
      rcases h6 with h6 | h6
      · rw [hl] at h6; cases h6
      · obtain ⟨t, ht⟩ := Option.isSome_iff_exists.mp h6
        exact ⟨w, t, h1, h2, hw, h4, d, hd, h5, by rw [hl]; exact ht⟩
  · cases h3


/-! ## The invariant and the queue -/

/-- What `EngOk` asks, as a check. -/
def engOk (g : Eng) : Bool :=
  g.regs.length == 32 && g.fregs.length == 32 && g.prot.length == 8 && memWf g.imem && memWf g.dmem && memWf g.windows

/-- What `Inv` asks, as a check. -/
def invOk (s : State) : Bool :=
  [(s.refs.length, 17), (s.tiu.length, 32), (s.tb.ring.length, 16), (s.synth.aplls.length, 4), (s.synth.outs.length, 16),
    (s.gnss.gifs.length, 3), (s.net.quads.length, 8), (s.net.lanes.length, 32), (s.yard.ports.length, 32), (s.yard.queues.length, 256),
    (s.ptp.ports.length, 32), (s.ptp.insts.length, 4), (s.girth.claims.length, 18), (s.engs.eng.length, 36), (s.engs.tack.length, 8)].all
    (fun p => p.1 == p.2) &&
  s.engs.eng.all engOk && memWf s.engs.sram && memWf s.engs.dram && decide (s.girth.now ≤ girthUnknown) && !s.girth.timeValid

/-- A state that passes the check meets the invariant. -/
theorem inv_of_check (s : State) (h : invOk s = true) : Safety.Inv s := by
  simp [invOk, engOk] at h
  obtain ⟨⟨⟨⟨⟨⟨h1, h2, h3, h4, h5, h6, h7, h8, h9, h10, h11, h12, h13, h14, h15⟩, he⟩, h16⟩, h17⟩, h18⟩, h19⟩ := h
  exact ⟨h1, h2, h3, h4, h5, h6, h7, h8, h9, h10, h11, h12, h13,
    ⟨h14, fun g hg => by obtain ⟨⟨⟨⟨⟨a, b⟩, c⟩, d⟩, e⟩, f⟩ := he g hg; exact ⟨a, b, c, d, e, f⟩, h15, h16, h17⟩, h18,
    by intro h; rw [h19] at h; cases h⟩

/-- A block whose engines all run firmware: gk holds the k-th of the addresses below, dK of DRAM. -/
def lab (regs : List Nat) : State :=
  let words := (regs ++ List.replicate 32 0).take 32 |>.map (BitVec.ofNat 64)
  { up with
    start := { up.start with dramSize := 64 }
    engs := { up.engs with eng := List.replicate 36 { Eng.init with status := .firmware, regs := words, fregs := words } } }

/-- g1 to g6: DMEM, the shared SRAM, the frame windows, the device window, the last word of DMEM of a time engine, an odd address. -/
def bench : State := lab [0, 0x100000, 0x1000000, 0x2000000, 0x3000000, 0x10FFFC, 0x100001, 0xC8, 0xC0]

theorem inv_bench : Safety.Inv bench := inv_of_check bench (by decide +kernel)



/-! ## Witnesses: the block and its engines -/

/-- A queue of `n` commands that change nothing. -/
def queued (n : Nat) : State := { up with pending := List.replicate n (.order 0) }

theorem witness_queue : (queued 1).pending = .order 0 :: [] ∧ State.reset.pending = [] ∧
    (∀ k < 2, step ((fun k => queued (2 - k)) k) = .next ((fun k => queued (2 - k)) (k + 1))) := by
  refine ⟨rfl, rfl, ?_⟩
  intro k hk
  obtain rfl | rfl : k = 0 ∨ k = 1 := by omega
  · rfl
  · rfl

theorem witness_invariant : Safety.Inv bench ∧ ∃ t, step { bench with pending := [.order 35] } = .next t := ⟨inv_bench, _, rfl⟩

/-- The address of a load or a store of engine `e` with base register `a` and offset 0, as the statements compute it. -/
def base (s : State) (e a : Nat) : Nat :=
  (BitVec.ofNat (engWidth e) (s.reg e a) + (BitVec.ofNat 16 0).signExtend (engWidth e)).toNat

theorem witness_stops : (∀ e x a y, (Instr.lockConfirmed 0 4) ∉ Safety.accesses e x a y) ∧ Instr.ld32s 0 3 4 0 ∈ Safety.accesses 0 3 4 0 ∧
    Safety.Inv bench := ⟨by intro e x a y h; simp [Safety.accesses] at h, by simp [Safety.accesses], inv_bench⟩

theorem witness_device : Safety.Executes bench 0 ∧ bench.reach 0 (bench.effAddr 0 4 0) 4 (·.r) = some .device := by decide +kernel

theorem witness_identity : (entryOf 0x1100 2).isSome = true ∧ (entryOf 0x1100 1).isSome = true ∧ (0xFF : Nat) ≠ 0x5A ∧
    accepted desk (plain .pcie 1) 0xD010 1 0x5A = true := by decide +kernel

theorem witness_coarse : (∃ t, exec (.tbApllLossOfLock 0 true) up = .next t) ∧ (∃ t, exec (.localOscLoss 0) up = .next t) ∧
    (∃ t, exec (.xoStop 0) up = .next t) ∧ ∃ t, exec (.lockConfirmed 0 4) up = .next t := ⟨⟨_, rfl⟩, ⟨_, rfl⟩, ⟨_, rfl⟩, ⟨_, rfl⟩⟩

theorem witness_arithmetic : Safety.Inv bench ∧ Safety.Executes bench 0 ∧ Safety.Executes bench 35 ∧ isSc 35 = true ∧ isSc 31 = false ∧
    32 % 32 = 0 ∧ 31 % 64 < engWidth 0 ∧ 63 % 64 < engWidth 35 := ⟨inv_bench, by decide +kernel⟩

/-- Loads of each width from DMEM, the shared SRAM and the windows, at both ends of a time engine's DMEM. -/
theorem witness_loads : Safety.Executes bench 0 ∧ Safety.Executes bench 35 ∧
    bench.reach 0 (base bench 0 1) 1 (·.r) = some (.dmem 0) ∧ bench.reach 0 (base bench 0 2) 2 (·.r) = some (.sram 0) ∧
    bench.reach 0 (base bench 0 5) 4 (·.r) = some (.dmem 0xFFFC) ∧ bench.reach 35 (base bench 35 3) 4 (·.r) = some (.window 0) ∧
    bench.reach 35 (base bench 35 1) 8 (·.r) = some (.dmem 0) ∧ isSc 35 = true := by decide +kernel

/-- Stores of each width to the same places. -/
theorem witness_stores : bench.reach 0 (base bench 0 1) 1 (·.w) = some (.dmem 0) ∧ bench.reach 0 (base bench 0 2) 2 (·.w) = some (.sram 0) ∧
    bench.reach 0 (base bench 0 5) 4 (·.w) = some (.dmem 0xFFFC) ∧ bench.reach 35 (base bench 35 3) 8 (·.w) = some (.window 0) ∧
    bench.reach 35 (base bench 35 1) 8 (·.w) = some (.dmem 0) := by decide +kernel

/-- An atomic on the shared SRAM, and one on the DRAM. -/
theorem witness_atomics : bench.reach 0 (bench.reg 0 2) (engWidth 0 / 8) (fun x => x.r && x.w) = some (.sram 0) ∧
    (lab [0, 0x100000000]).reach 35 ((lab [0, 0x100000000]).reg 35 1) (engWidth 35 / 8) (fun x => x.r && x.w) = some (.dram 0) := by
  decide +kernel

theorem witness_time : Safety.Executes (bench.atTime 5) 35 ∧ Safety.Executes (bench.atTime 5) 0 ∧ isSc 0 = false ∧ 4 % 2 = 0 := by
  decide +kernel

/-- A stamp that extends, and one that has no anchor. -/
def stamped : State :=
  { bench with tb := { bench.tb with ring := List.replicate 16 ⟨0, 1, 0, 0, 0, 0⟩ }, engs := { bench.engs with sram := [(6, 1#8)] } }

theorem witness_text : Safety.Inv stamped ∧ Safety.Executes stamped 0 ∧ stamped.textLocs 0 2 1 = some (.sram 0, .dmem 0) ∧
    stamped.extend (fld (leNat (stamped.readLoc 0 (.sram 0) 8)) 0 6) (fld (leNat (stamped.readLoc 0 (.sram 0) 8)) 6 1) = some 0 ∧
    bench.textLocs 0 2 1 = some (.sram 0, .dmem 0) ∧ bench.extend (fld (leNat (bench.readLoc 0 (.sram 0) 8)) 0 6)
      (fld (leNat (bench.readLoc 0 (.sram 0) 8)) 6 1) = none := ⟨inv_of_check _ (by decide +kernel), by decide +kernel⟩

/-- `bench` with engine 0 stalled. -/
def stalled (w : Stall) : State := bench.onEng 0 (fun g => { g with stall := w })

/-- `bench` with a job of engine 0 that has completed under tag 0. -/
def completed : State := { bench with engs := { bench.engs with done := [(0, 0, 3)] } }

theorem witness_waits : (∀ w ∈ [.twait 7, .qwait 0 none, .idle], Safety.Inv (stalled w)) ∧ Safety.Executes (bench.atTime 0) 0 ∧
    (bench.atTime 0).reached ((bench.atTime 0).reg 0 0 % 2 ^ 32) = true ∧ (bench.atTime 0).reached ((bench.atTime 0).reg 0 5 % 2 ^ 32) = false ∧
    (((stalled (.twait 7)).atTime 0).eng 0).stall = .twait 7 ∧ (((stalled (.qwait 0 none)).atTime 0).eng 0).stall = .qwait 0 none ∧
    ((stalled .idle).eng 0).stall = .idle ∧ (bench.eng 0).program = false ∧ Safety.Executes completed 0 ∧ (completed.eng 0).program = false ∧
    (0, 0, 3) ∈ completed.engs.done ∧ completed.engs.done.find? (fun x => x.2.1 == completed.reg 0 0 % 65536) = some (0, 0, 3) ∧
    bench.engs.done.find? (fun x => x.2.1 == bench.reg 0 0 % 65536) = none := by
  refine ⟨?_, by decide +kernel⟩
  intro w hw
  have h : ∀ w ∈ [Stall.twait 7, .qwait 0 none, .idle], invOk (stalled w) = true := by decide +kernel
  exact inv_of_check _ (h w hw)

/-- A record in queue 0, and a queue 0xC0 that is full. -/
def queues : State :=
  { bench with engs := { bench.engs with
      queues := [⟨0, [([1#8, 2#8], true)], false⟩, ⟨0xC0, List.replicate 256 ([1#8], false), false⟩] } }

theorem witness_queues : Safety.Inv queues ∧ Safety.Executes queues 0 ∧ queues.qOk 0 (queues.reg 0 0 % 256) = true ∧
    queues.qRecs 0 = ([1#8, 2#8], true) :: [] ∧ queues.popLoc 0 (queues.reg 0 1) 2 = some (.dmem 0) ∧ bench.qRecs 0 = [] ∧
    bench.qOk 0 0xC8 = true ∧ (bench.qRecs 0xC8).length < 64 ∧ bench.reg 0 7 % 256 = 0xC8 ∧ 256 ≤ (queues.qRecs 0xC0).length ∧
    queues.reg 0 8 % 256 = 0xC0 := ⟨inv_of_check _ (by decide +kernel), by decide +kernel⟩

/-- A crypto job that was refused at acceptance and waits to complete. -/
def refused : Job := ⟨5, 0, 0, 64, 0, 0, 0, 0, 0, ⟨0, 0, 0, 0, 0, 0, 0, none⟩, 2⟩

/-- `bench` with that job in the queue. -/
def jobbed : State := { bench with vault := { bench.vault with jobs := [refused] } }

theorem witness_crypto : Safety.Executes bench 0 ∧ (bench.eng 0).program = false ∧ bench.locate 0 (bench.reg 0 1) 32 (·.r) = some (.dmem 0) ∧
    jobbed.coreRuns = true ∧ jobbed.vault.jobs.find? (·.tag == 5) = some refused ∧
    jobbed.vault.jobs.find? (·.slot == refused.slot) = some refused ∧ (jobbed.eng refused.engine).stall = .none ∧ refused.verdict ≠ 0 ∧
    ({ jobbed with clk := { jobbed.clk with groups := List.replicate 16 3 } } : State).coreRuns = false ∧
    bench.vault.jobs.find? (·.tag == 5) = none ∧ bench.vault.erasing = [] ∧ bench.managing = false := by decide +kernel

/-- An accepted job of engine 0 on `n` bytes at the start of its data memory, or where it may not read, with its result at `dst`. -/
def job (op src n dst : Nat) : Job := ⟨5, 0, op, 64, 65, src, n, 0, dst, ⟨0, 0, 0, 0, 0, 0, 0, none⟩, 0⟩
def working (j : Job) (latch : Bool) : State := { bench with vault := { bench.vault with jobs := [j], latch := latch } }

theorem witness_job_ends :
    (∀ j ∈ [job 1 0x100000 16 0x100000, job 1 0x100000 16 0, job 1 0 16 0, job 4 0x100000 16 0, job 8 0 0 0x100000, job 9 0x100000 16 0, job 10 0x100000 16 0],
      ∀ h ∈ [true, false], let s := working j h
      s.coreRuns = true ∧ s.vault.jobs.find? (·.tag == 5) = some j ∧ s.vault.jobs.find? (·.slot == j.slot) = some j ∧ j.verdict = 0 ∧ s.vault.latch = h) ∧
    (let j := job 8 0 0 0x100000
     j.op = 8 ∧ bench.locate j.engine j.dst (44 + algLen (bench.slot j.other).alg) (·.w) = some (.dmem 0)) ∧
    (job 1 0 16 0).op ≠ 8 ∧ bench.jobBytes 0 0 16 = none ∧ (bench.jobBytes 0 0x100000 16).isSome = true ∧
    (job 4 0x100000 16 0).op = 4 ∧ jobOutLen (job 4 0x100000 16 0) = 0 ∧ jobOutLen (job 1 0x100000 16 0) ≠ 0 ∧
    bench.locate 0 0x100000 (jobOutLen (job 1 0x100000 16 0)) (·.w) = some (.dmem 0) ∧
    bench.locate 0 0 (jobOutLen (job 1 0x100000 16 0)) (·.w) = none ∧ (bench.eng 0).stall = .none ∧
    ((bench.onEng 0 (fun g => { g with stall := .cwait 3 5 })).eng 0).stall = .cwait 3 5 := by decide +kernel

/-- The submission queue of crypto jobs with room for one more, and full. -/
theorem witness_jobs : bench.vault.jobs.length < Config.jobQueueDepth ∧
    Config.jobQueueDepth ≤ (List.replicate Config.jobQueueDepth refused).length := by
  refine ⟨?_, by simp⟩
  show 0 < Config.jobQueueMore + 1
  omega


/-- Engine `e` of `bench` as given. -/
def benchEng (e : Nat) (f : Eng → Eng) : State := bench.onEng e f

/-- All addresses are permitted in the first protection region. -/
def openProt : List Region := ⟨0, 0xFFFFFFFF, true, true, true⟩ :: List.replicate 7 Region.init

theorem witness_stopped : up.engRuns 0 = false ∧ (up.atTime 3).engRuns 35 = false := by decide +kernel

theorem witness_traps : bench.inPaddock 0 = false ∧
    Safety.Inv (benchEng 0 (fun g => { g with pc := 65536 })) ∧ (benchEng 0 (fun g => { g with pc := 65536 })).engRuns 0 = true ∧
    (benchEng 0 (fun g => { g with pc := 65536 })).pcOk 0 = false ∧
    Safety.Inv (benchEng 0 (fun g => { g with program := true, prot := openProt })) ∧
    Safety.Executes (benchEng 0 (fun g => { g with program := true, prot := openProt })) 0 ∧
    ((benchEng 0 (fun g => { g with program := true, prot := openProt })).eng 0).program = true ∧
    bench.effAddr 0 6 0 % 2 ≠ 0 ∧ bench.locate 0 (bench.effAddr 0 0 0) 1 (·.r) = none ∧ bench.csrCause 0 (0xFFFF % 65536) false = 1 ∧
    bench.engLive 0 = true ∧ 0 < 6 ∧ 6 ≤ 6 :=
  ⟨by decide +kernel, inv_of_check _ (by decide +kernel), by decide +kernel, by decide +kernel, inv_of_check _ (by decide +kernel),
    by decide +kernel⟩

/-- Engines 24 and 31 run tack programs, in life-cycle state DEBUG. -/
def tacks : State :=
  let s := (benchEng 24 (fun g => { g with status := .paddock })).onEng 31 (fun g => { g with status := .paddock })
  { s with vault := { s.vault with lc := .debug }, engs := { s.engs with tack := List.replicate 8 { Tack.init with state := 3 } } }

theorem witness_tack_stops : Safety.Inv tacks ∧ (∀ e ∈ [24, 31], Safety.Executes tacks e ∧ tacks.inPaddock e = true ∧ 24 ≤ e ∧ e < 32) ∧
    tacks.vault.lc = .debug := ⟨inv_of_check _ (by decide +kernel), by decide +kernel⟩

theorem witness_control_registers : Safety.Executes bench 0 ∧ Safety.Executes bench 35 ∧ (bench.eng 0).program = false ∧
    (bench.eng 35).program = false ∧ 7 < 8 := by decide +kernel

/-- Array 7 loads an image of no code for which `head` stands in the DRAM at 4 MiB; slot 64 holds the verification key. -/
def loading (head : List Host.Cell) : State :=
  let s := (((bench.put 0x8010 3 4194304).put 0x8010 4 1).put 0x8010 6 64).setSlot 64 ⟨2, 2, 8, 2, 0, 0, 1, none⟩
  { s with engs := { s.engs with dram := head, tack := s.engs.tack.set 7 { Tack.init with state := 2, image := 4194304 } } }

/-- The header "GLEI" of version 1.0 for a time engine (R345). -/
def header : List Host.Cell := memWrite [] 4194304 [0x47, 0x4C, 0x45, 0x49, 1, 0, 1, 2]

theorem witness_recovery : Safety.Inv (loading header) ∧ bench.engLive 35 = true ∧ (bench.eng 35).status = .firmware ∧
    ((benchEng 35 (fun g => { g with status := .inReset })).eng 35).status = .inReset ∧ bench.start.inReset = false ∧
    bench.start.porHeld = false ∧ bench.faults.handling = none ∧
    ((loading header).tackOf 7).state = 2 ∧ (loading header).tackVerdict ((loading header).tackOf 7).image true true = 1 ∧
    ((loading header).atTime 0).tackVerdict (((loading header).atTime 0).tackOf 7).image true true = 1 ∧
    ((loading []).tackOf 7).state = 2 ∧ ((loading []).atTime 0).tackVerdict (((loading []).atTime 0).tackOf 7).image true true ≠ 1 :=
  ⟨inv_of_check _ (by decide +kernel), by decide +kernel⟩

/-- Engine 3 of `bench` samples, with `n` samples in its FIFO. -/
def sampling (n : Nat) : State :=
  benchEng 3 (fun g => { g with pmc := { g.pmc with smpCtl := 2 ^ 31, fifo := List.replicate n ⟨0, 0, 0, 0, false, false, 0, 0, 0⟩ } })

/-- PC_DUMP is due for engine 3 alone, by a mask that waited for it; `k` gates work classes, and the DRAM is in state `dram`. -/
def dumping (k dram : Nat) : State :=
  let s := ((bench.put 0x8800 2 4).put 0x8800 3 0).putLate 0x8800 4 8
  { s with engs := { s.engs with gated := k }, start := { s.start with dramStatus := dram } }

theorem witness_samples : ((sampling 15).atTime 0).engLive 3 = true ∧ bit (((sampling 15).atTime 0).eng 3).pmc.smpCtl 31 = true ∧
    (((sampling 15).atTime 0).eng 3).pmc.fifo.length < 16 ∧ 16 ≤ (((sampling 16).atTime 0).eng 3).pmc.fifo.length ∧
    ((sampling 16).atTime 0).engLive 3 = true ∧ bit (((sampling 16).atTime 0).eng 3).pmc.smpCtl 31 = true ∧
    (State.reset.atTime 0).engLive 3 = false ∧ bit ((bench.atTime 0).eng 3).pmc.smpCtl 31 = false ∧
    ((bench.put 0x8800 2 0).atTime 0).pcDumpSize = 0 ∧ (bench.atTime 0).ms < (bench.atTime 0).dump.lastDump + (bench.atTime 0).pcDumpPeriod ∧
    (∀ d ∈ [1, 3], let u := (dumping 0 d).atTime 0
      u.pcDumpSize ≠ 0 ∧ u.dump.lastDump + u.pcDumpPeriod ≤ u.ms ∧ (u.takeLate dumpKey).start.dramStatus ≠ 2) ∧
    (∀ k ∈ [0, 16], let u := (dumping k 2).atTime 0
      let t := u.takeLate dumpKey
      u.pcDumpSize ≠ 0 ∧ u.dump.lastDump + u.pcDumpPeriod ≤ u.ms ∧ u.pcDumpMask ≠ 8 ∧ t.start.dramStatus = 2 ∧ bit t.engs.gated 4 = (k == 16) ∧
        bitList 36 t.pcDumpMask = [3] ∧ t.pcSampleMask = 0 ∧ t.dump.lossDue = 0 ∧ t.dumpUsed < t.pcDumpSize) := by decide +kernel


/-! ## Witnesses: accepted accesses -/

/-- A write: the state it meets, the request, the entry and the value. -/
abbrev Case := State × Acc × Nat × Nat × Nat

/-- Every write of a list passes the check. -/
def allAccepted (l : List Case) : Bool := l.all (fun c => accepted c.1 c.2.1 c.2.2.1 c.2.2.2.1 c.2.2.2.2)

theorem cases_accepted {l : List Case} (h : allAccepted l = true) :
    ∀ c ∈ l, ∃ w t, Safety.Accepts c.1 c.2.1 c.2.2.1 c.2.2.2.1 c.2.2.2.2 w t := by
  intro c hc
  exact accepts_of_check _ _ _ _ _ (List.all_eq_true.mp h c hc)

/-- A one-shot credential of a role. -/
def shot (r : Role) (n : Nat) : Acc := { plain .pcie n with role := r }

/-- `desk` in a life-cycle state, with the vault unsealed. -/
def deskIn (l : LifeCycle) : State := { desk with vault := { desk.vault with lc := l, unsealed := true } }

def timingCases : List Case :=
  [(desk, sealed 1 12, 0x2001, 1, 5 * 2 ^ 48), (desk, sealed 1 1, 0x2100, 3, 1), (desk, sealed 1 2, 0x3100, 8, 600),
   (desk, sealed 1 2, 0x3110, 8, 600), (desk, sealed 1 1, 0x3100, 14, 1), (desk, sealed 1 1, 0x3107, 14, 1),
   (desk, sealed 1 1, 0x391F, 1, 0), (desk, sealed 1 4, 0x391F, 2, 1), (desk, sealed 1 1, 0x391F, 3, 0),
   (desk, sealed 1 4, 0x2810, 1, 1000), (desk, sealed 1 64, 0x4440, 7, 1), (desk, sealed 1 1, 0x4440, 8, 1),
   (desk, sealed 1 1, 0xD102, 1, 1), (desk, sealed 1 1, 0xD102, 1, 2)]

theorem witness_timing_writes : ∀ c ∈ timingCases, ∃ w t, Safety.Accepts c.1 c.2.1 c.2.2.1 c.2.2.2.1 c.2.2.2.2 w t :=
  cases_accepted (by decide +kernel)

def outputCases : List Case :=
  [(desk, sealed 1 1, 0x4840, 1, 1), (desk, sealed 1 1, 0x5012, 2, 1), (desk, sealed 1 1, 0x5010, 6, 0), (desk, sealed 1 1, 0x5000, 1, 1),
   (desk, sealed 1 1, 0x5001, 6, 0x5A), (desk, sealed 1 1, 0x6000, 4, 0x5A), (desk, sealed 1 1, 0x6007, 4, 0x5A),
   (desk, sealed 1 1, 0x611F, 13, 0x5A), (desk, sealed 1 1, 0x611F, 1, 0), (desk, sealed 1 1, 0x6300, 2, 1),
   (desk.onLane 31 (fun x => { x with stampState := 2 }), sealed 1 1, 0x641F, 3, 0x5A), (desk, sealed 1 1, 0x7801, 8, 0x5A),
   (desk, sealed 1 1, 0x7801, 1, 24), (desk, sealed 1 1, 0x7801, 2, 56), (desk, plain .pcie 4, 0x7820, 3, 5)]

theorem witness_output_writes : ∀ c ∈ outputCases, ∃ w t, Safety.Accepts c.1 c.2.1 c.2.2.1 c.2.2.2.1 c.2.2.2.2 w t :=
  cases_accepted (by decide +kernel)

/-- TE24 to TE31 belong to the paddock, of 1 MiB at 4 MiB. -/
def paddock : State := (((desk.put 0x8010 3 4194304).put 0x8010 4 1).put 0x8010 1 1).put 0x8010 2 255

def engineCases : List Case :=
  [(paddock, sealed 1 8, 0x8020, 1, 4194304), (paddock, sealed 1 8, 0x8027, 1, 4194304), (desk, sealed 1 1, 0x8027, 5, 0x5A),
   (desk, sealed 1 1, 0x8010, 1, 1), (desk, sealed 1 1, 0x8010, 1, 0), (desk, sealed 1 1, 0x8010, 2, 0xFF),
   (desk, sealed 1 1, 0x8C00, 12, 7), (desk, sealed 1 1, 0x8C00, 12, 1)]

theorem witness_engine_writes : ∀ c ∈ engineCases, ∃ w t, Safety.Accepts c.1 c.2.1 c.2.2.1 c.2.2.2.1 c.2.2.2.2 w t :=
  cases_accepted (by decide +kernel)

/-- A wrapping key of OWNER. -/
def ownKey : Slot := ⟨2, 3, 5, 2, 3, 0, 9, none⟩

def vaultCases : List Case :=
  [(deskIn .blank, shot .maker 100, 0xA000, 2, lePack [(1, 1), (3, 0), (96, 1)]),
   ({ desk with access := { desk.access with transfer := some 5 } }, shot .owner 100, 0xA000, 2, lePack [(1, 2), (3, 0), (96, 1)]),
   (deskIn .owned, shot .owner 100, 0xA000, 2, lePack [(1, 3), (3, 0), (96, 1)]),
   (deskIn .field, shot .owner 100, 0xA000, 2, lePack [(1, 4), (3, 0), (96, 1)]),
   (deskIn .field, shot .owner 100, 0xA000, 2, lePack [(1, 5), (3, 0), (96, 1)]),
   (desk, sealed 1 4, 0xA2FF, 1, lePack [(1, 1), (1, 1), (1, 1), (1, 0)]), (desk, sealed 1 4, 0xA2FF, 1, 0),
   ((deskIn .field).setSlot 64 ownKey, sealed 2 184, 0xA400, 1, lePack [(2, 64)]),
   ((deskIn .field).setSlot 511 { ownKey with shadow := some (1, 2, 0) }, sealed 2 2, 0xA400, 2, 511),
   ((deskIn .field).setSlot 511 { ownKey with shadow := some (1, 2, 0) }, sealed 2 2, 0xA400, 3, 511),
   ((deskIn .field).setSlot 511 ownKey, sealed 2 2, 0xA400, 4, 511),
   ((deskIn .field).setSlot 511 ownKey, sealed 2 4, 0xA400, 5, lePack [(2, 511), (2, 510)]),
   ({ deskIn .field with vault := { (deskIn .field).vault with latch := true, records := [⟨1, 1, 0, 3, 0, 0xFFFF, 0⟩] } }, shot .owner 100,
     0xA530, 1, lePack [(4, 1), (96, 1)])]

theorem witness_vault_writes : (∀ c ∈ vaultCases, ∃ w t, Safety.Accepts c.1 c.2.1 c.2.2.1 c.2.2.2.1 c.2.2.2.2 w t) ∧
    ((desk.put 0xA011 1 1).slotMode (64 % 65536) = 1) ∧
    ((desk.setSlot 511 { ownKey with shadow := some (1, 2, 0) }).slot 511).shadow = some (1, 2, 0) ∧ (shot .owner 2).outcome = 0 ∧ 511 < 65536 :=
  ⟨cases_accepted (by decide +kernel), by decide +kernel⟩

def pathCases : List Case :=
  [(desk, plain .pcie 3, 0x1010, 1, 0xFFFF + 65536 * 255), (desk, sealed 1 1, 0x1010, 3, 0x5A), (desk, sealed 1 1, 0x1E01, 1, 1),
   (desk, sealed 1 1, 0x1E00, 1, 0), (desk, plain .pcie 2, 0x1E40, 3, 0xFF),
   (desk, plain .pcie 24, 0x1E21, 1, lePack [(1, 3), (3, 0), (8, 0), (4, 64), (8, 64)]), (desk, sealed 1 1, 0x1E30, 1, 1),
   (desk, sealed 1 4, 0x1E30, 4, 1), (desk, sealed 1 4, 0x3800, 1, 1000000), (desk, sealed 1 4, 0x4420, 12, 86400)]

theorem witness_path_writes : ∀ c ∈ pathCases, ∃ w t, Safety.Accepts c.1 c.2.1 c.2.2.1 c.2.2.2.1 c.2.2.2.2 w t :=
  cases_accepted (by decide +kernel)

/-- Plain writes of the two ranges: those that wait for their chapter's moment, one that the girth rests on among them, and those in force at once. -/
def storedCases : List Case :=
  [(desk, sealed 1 4, 0x4010, 1, 1000), (desk, sealed 1 1, 0x4400, 1, 1), (desk, sealed 1 4, 0x4420, 10, 1000), (desk, sealed 1 4, 0x3800, 1, 1000000),
   (desk, sealed 1 4, 0x4420, 12, 86400)]

theorem witness_stored_writes : (∀ c ∈ storedCases, (∃ w t, Safety.Accepts c.1 c.2.1 c.2.2.1 c.2.2.2.1 c.2.2.2.2 w t) ∧
      ((0x3120 ≤ c.2.2.1 ∧ c.2.2.1 < 0x3900) ∨ (0x4000 ≤ c.2.2.1 ∧ c.2.2.1 < 0x4440))) ∧
    storedCases.map (fun c => lateTiming (c.2.2.1 * 256 + c.2.2.2.1)) = [true, true, true, false, false] :=
  ⟨fun c hc => ⟨cases_accepted (l := storedCases) (by decide +kernel) c hc,
    (by decide +kernel : ∀ c ∈ storedCases, (0x3120 ≤ c.2.2.1 ∧ c.2.2.1 < 0x3900) ∨ (0x4000 ≤ c.2.2.1 ∧ c.2.2.1 < 0x4440)) c hc⟩, by decide +kernel⟩

/-- A write that fails check 2, and one without the right. -/
theorem witness_refused : (desk.arrive (plain .pcie 1)).whoIs (plain .pcie 1) 0xFFFF 1 true = some ⟨.host, false⟩ ∧
    desk.pathUp .pcie = true ∧ (1 : Nat) < 2 ^ (8 * 1) ∧ 0xFFFF ≠ 0x1030 ∧
    (desk.arrive (plain .pcie 1)).firstChecks (plain .pcie 1) ⟨.host, false⟩ 0xFFFF 1 1 true = 1 ∧
    (desk.arrive (plain .pcie 1)).firstChecks (plain .pcie 1) ⟨.host, false⟩ 0x2100 3 1 true = 5 := by decide +kernel

def pairIn (f : Pair → Pair) : State := { desk with pair := f desk.pair }

def pairCases : List Case :=
  [(desk, sealed 1 1, 0xB000, 1, 1), (desk, sealed 1 1, 0xB000, 1, 0), (desk, sealed 1 2, 0xB000, 4, 0xFFFF), (desk, sealed 1 4, 0xB000, 5, 7),
   (desk, sealed 1 1, 0xB000, 9, 1), (desk, sealed 1 1, 0xB000, 9, 0),
   (pairIn (fun p => { p with lease := true }), sealed 1 1, 0xB002, 1, 0x5A),
   (pairIn (fun p => { p with state := .ready }), sealed 1 1, 0xB002, 1, 0x3C), (desk, sealed 1 20, 0xBB3F, 1, 5),
   (desk, sealed 1 1, 0xB800, 1, 1), (desk, sealed 1 2, 0xB800, 7, 1), (desk, sealed 1 2, 0xB800, 8, 0xFF), (desk, sealed 1 8, 0xB800, 6, 0),
   (desk, sealed 1 2, 0xB800, 10, 100)]

theorem witness_pair_writes : (∀ c ∈ pairCases, ∃ w t, Safety.Accepts c.1 c.2.1 c.2.2.1 c.2.2.2.1 c.2.2.2.2 w t) :=
  cases_accepted (by decide +kernel)

def startCases : List Case :=
  [(desk, plain .pcie 2, 0xC003, 1, 0x0101), (desk, plain .pcie 2, 0xC003, 1, 0xFFFF), (desk, sealed 1 2, 0xC003, 1, 0xFFF3),
   (desk, shot .maker 100, 0xC003, 2, lePack [(2, 0xFFF3), (2, 0), (96, 1)]), (desk, sealed 1 1, 0xD011, 1, 0x5A),
   (desk, sealed 1 1, 0xD020, 1, 0x5A),
   ({ desk with start := { desk.start with fwErased := true, fwState := 2 } }, sealed 1 1008, 0xD020, 2, lePack [(4, 256), (2, 8), (2, 0), (1000, 1)]),
   ({ desk with start := { desk.start with fwErased := true, fwState := 2 } }, sealed 1 256, 0xD020, 3, 1),
   (desk, plain .pcie 4, 0xC800, 1, 0x01000000),
   ({ desk with access := { desk.access with sessions := [{ sess 1 .maker with calSel := 0x01000000 }] } }, sealed 1 13, 0xC800, 2,
     lePack [(8, unsigned 8 (-5)), (4, 3), (1, 1)]),
   (desk, sealed 1 1008, 0xC801, 1, lePack [(4, 27512), (2, 1000), (2, 0), (1000, 1)]),
   ({ desk with cal := { desk.cal with staging := [(0, 28512)] } }, sealed 1 1, 0xC801, 2, 0x5A)]

theorem witness_start_writes : (∀ c ∈ startCases, ∃ w t, Safety.Accepts c.1 c.2.1 c.2.2.1 c.2.2.2.1 c.2.2.2.2 w t) ∧
    (-2 ^ 63 : Int) ≤ -5 ∧ (-5 : Int) < 2 ^ 63 := ⟨cases_accepted (by decide +kernel), by decide⟩


/-- `desk` without a session. -/
def door : State := { desk with access := { desk.access with sessions := [] } }

/-- An AUTH_OPEN value for MAKER under the nonce drawn, with its remaining fields 0. -/
def openValue : Nat := 1 + 2 ^ 32 * nonceValue 7

theorem openValue_fields : fld openValue 0 1 = 1 ∧ fld openValue 1 3 = 0 ∧ fld openValue 4 32 = nonceValue 7 ∧ openValue < 2 ^ (8 * 457) := by
  have h : nonceValue 7 < 2 ^ 256 := Nat.mod_lt _ (Nat.two_pow_pos _)
  have e : (2 : Nat) ^ 288 ≤ 2 ^ (8 * 457) := Nat.pow_le_pow_right (by omega) (by omega)
  unfold openValue fld
  generalize nonceValue 7 = x at h
  refine ⟨by omega, by omega, ?_, Nat.lt_of_lt_of_le ?_ e⟩
  · norm_num only
    omega
  · omega

theorem witness_auth_open : door.pathUp .pcie = true ∧ openValue < 2 ^ (8 * 457) ∧ (plain .pcie 457).session = none ∧
    (door.arrive (plain .pcie 457)).whoIs (plain .pcie 457) 0xA800 2 true = some ⟨.host, false⟩ ∧
    (door.arrive (plain .pcie 457)).firstChecks (plain .pcie 457) ⟨.host, false⟩ 0xA800 2 openValue true = 0 ∧ fld openValue 1 3 = 0 ∧
    (door.arrive (plain .pcie 457)).namesNonce (plain .pcie 457).path openValue = true ∧ (door.arrive (plain .pcie 457)).authOpenCode (plain .pcie 457) openValue = 0 ∧
    ∀ x, (((door.arrive (plain .pcie 457)).useNonce .pcie).audit x).isSome = true := by
  have h := openValue_fields
  have q : (door.arrive (plain .pcie 457)).firstChecks (plain .pcie 457) ⟨.host, false⟩ 0xA800 2 0 true = 0 ∧
      (door.arrive (plain .pcie 457)).whoIs (plain .pcie 457) 0xA800 2 true = some ⟨.host, false⟩ ∧ door.pathUp .pcie = true ∧
      (door.arrive (plain .pcie 457)).liveNonce .pcie = some 7 ∧ (door.arrive (plain .pcie 457)).admits .maker = true ∧
      (door.arrive (plain .pcie 457)).access.sessions = [] := by decide +kernel
  have p : (plain .pcie 457).path = .pcie := rfl
  have n : (door.arrive (plain .pcie 457)).namesNonce .pcie openValue = true := by simp [State.namesNonce, q.2.2.2.1, h.2.2.1]
  refine ⟨q.2.2.1, h.2.2.2, rfl, q.2.1, ?_, h.2.1, n, ?_, fun x => rfl⟩
  · rw [← q.1]
    simp [State.firstChecks, State.notOffered, State.hasRight, State.extraRights]
  · have r : Role.ofCode 1 = .maker := rfl
    have f : (plain .pcie 457).proof = true := rfl
    simp [State.authOpenCode, h.1, h.2.1, n, p, f, r, q.2.2.2.2.1, q.2.2.2.2.2]

def sessionCases : List Case :=
  [(desk, sealed 1 1, 0xA800, 4, 1), (desk, sealed 1 4, 0xA801, 3, 7), (desk, plain .pcie 145, 0xA803, 3, 5),
   (deskIn .field, shot .owner 196, 0xA803, 4, 5), (desk, shot .maker 96, 0xA820, 1, 5)]

/-- What `MayRead` asks, as a check. -/
def readable (s : State) (a : Acc) (idx sub : Nat) : Bool :=
  s.pathUp a.path && match (s.arrive a).whoIs a idx sub false with
    | some w => (s.arrive a).firstChecks a w idx sub 0 false == 0 && (entryOf idx sub).isSome
    | none => false

theorem may_read_of_check (s : State) (a : Acc) (idx sub : Nat) (h : readable s a idx sub = true) : ∃ d, Safety.MayRead s a idx sub d := by
  simp only [readable, Bool.and_eq_true] at h
  obtain ⟨h1, h2⟩ := h
  split at h2
  · rename_i w hw
    simp only [Bool.and_eq_true, beq_iff_eq] at h2
    obtain ⟨d, hd⟩ := Option.isSome_iff_exists.mp h2.2
    exact ⟨d, h1, hd, w, hw, h2.1⟩
  · cases h2

theorem witness_session_accesses : (∀ c ∈ sessionCases, ∃ w t, Safety.Accepts c.1 c.2.1 c.2.2.1 c.2.2.2.1 c.2.2.2.2 w t) ∧
    (∃ d, Safety.MayRead desk (plain .pcie 1) 0xA800 1 d) ∧ (∃ d, Safety.MayRead desk (sealed 1 1) 0xA830 3 d) ∧
    (desk.arrive (sealed 1 1)).liveNonce .pcie = some 7 ∧ (∃ d, Safety.MayRead desk (plain .pcie 1) 0x8011 1 d) ∧
    (∃ d, Safety.MayRead desk (sealed 1 1) (0x8900 + 35) 1 d) :=
  ⟨cases_accepted (by decide +kernel), may_read_of_check _ _ _ _ (by decide +kernel), may_read_of_check _ _ _ _ (by decide +kernel),
    by decide +kernel, may_read_of_check _ _ _ _ (by decide +kernel), may_read_of_check _ _ _ _ (by decide +kernel)⟩

/-- The conditions under which a handoff is proposed. -/
theorem witness_propose : ∃ t : State, t.pair.lease = true ∧ t.pair.handoff = none ∧ t.peerReady = true ∧ t.handoffOwn t.nextTh = true :=
  ⟨{ pairIn (fun p => { p with lease := true, keys := true, configMatch := true, peer := some ⟨7, 2, false, 1, 4, true, true, 0, 0, true⟩ }) with
      tb := { desk.tb with utcValid := true } }, by decide +kernel⟩


/-! ## Witnesses: time base, references, servo and oscillator -/

/-- `up` with every clock group, output APLL and quad in state `k`, and its time base in coarse state `c`. -/
def clocks (k c : Nat) : State :=
  { up with
    clk := { up.clk with groups := List.replicate 15 k }
    tb := { up.tb with coarse := c }
    synth := { up.synth with aplls := List.replicate 4 { Apll.init with lock := k } }
    net := { up.net with quads := List.replicate 8 { Quad.init with state := k } } }

theorem witness_clocks : (∀ loop ∈ [0, 3], ((clocks 1 0).atTime 0).group (loopGroup loop) = 1) ∧ ((clocks 2 0).atTime 0).group (loopGroup 0) ≠ 1 ∧
    ((clocks 1 0).atTime 0).tb.coarse = 0 ∧ ((clocks 1 1).atTime 0).tb.coarse = 1 ∧ ((clocks 1 0).atTime 0).tb.coarse ≠ 1 ∧ ((clocks 1 2).atTime 0).tb.coarse ≠ 0 ∧
    ((clocks 1 0).atTime 0).clk.xoBackup = false ∧ (({ up with clk := { up.clk with xoBackup := true } } : State).atTime 0).clk.xoBackup = true ∧
    (∀ loop ∈ [0, 3], ((clocks 2 0).atTime 0).group (loopGroup loop) = 2 ∧ ((clocks 3 0).atTime 0).group (loopGroup loop) = 3) ∧
    (∀ loop ∈ [5, 8], (((clocks 2 0).atTime 0).apll (loop - 5)).lock = 2 ∧ (((clocks 3 0).atTime 0).apll (loop - 5)).lock = 3 ∧
      loop - 5 < ((clocks 2 0).atTime 0).synth.aplls.length) ∧
    (∀ loop ∈ [9, 16], (((clocks 1 0).atTime 0).quad (loop - 9)).state = 1 ∧ (((clocks 3 0).atTime 0).quad (loop - 9)).state = 3 ∧
      (((clocks 3 0).atTime 0).quad (loop - 9)).refLost = false) ∧ (clocks 0 0).engsRun = false := by
  decide +kernel

/-- `up` with a TIME_SET due at the next boundary, or a servo step, or on the coarse count. -/
def setDue : State := { up with tb := { up.tb with pendSet := some (9, 0) } }
def stepDue : State := { up with tb := { up.tb with pendStep := some 3 } }

theorem witness_anchor : ({ up with start := { up.start with porHeld := true } } : State).start.porHeld = true ∧
    ({ up with start := { up.start with sleep := true } } : State).start.sleep = true ∧ up.start.porHeld = false ∧ up.start.sleep = false ∧
    (up.atTime up.boundary).tb.coarse = 0 ∧ (setDue.atTime setDue.boundary).tb.pendSet = some (9, 0) ∧
    (∀ sec, (up.atTime up.boundary).tb.pendSet ≠ some (sec, 0)) ∧ (stepDue.atTime stepDue.boundary).tb.pendStep.isSome = true ∧
    (∀ sec, (stepDue.atTime stepDue.boundary).tb.pendSet ≠ some (sec, 0)) := by
  have e : (up.atTime up.boundary).tb.pendSet = none ∧ (stepDue.atTime stepDue.boundary).tb.pendSet = none := by decide +kernel
  refine ⟨rfl, rfl, rfl, rfl, by decide +kernel, by decide +kernel, ?_, by decide +kernel, ?_⟩
  · intro sec h; rw [e.1] at h; cases h
  · intro sec h; rw [e.2] at h; cases h

/-- Reference 0, a PPS on input 0, is qualified with the time set. -/
def picked : State :=
  let s := ((((up.put 0x3100 1 1).put 0x3100 2 1).put 0x3100 11 2).put 0x3100 3 1).onRef 0 (fun r => { r with state := .qualified, qlRx := 1, seconds := true, present := true })
  { s with tb := { s.tb with isSet := true } }

/-- `picked` with reference `n` already selected, and with a switch under way. -/
def chosen (n : Nat) (sw : Option (Nat × Nat)) : State := { picked with sel := { picked.sel with current := n, switching := sw } }

/-- `picked` as a standby whose last good exchange with its peer has just come. -/
def peered : State :=
  { picked.put 0xB000 1 1 with pair := { picked.pair with keys := true, theta := 5, thetaT := some 0, thetas := List.replicate 16 5 } }

theorem witness_selector : ((chosen 0xFF (some (0, 0))).atTime 0).takeRefs.switchingNow = true ∧ ((chosen 0xFF (some (0, 0))).atTime 0).servo.suspended = false ∧
    (({ picked with servo := { picked.servo with suspended := true } } : State).atTime 0).servo.suspended = true ∧
    (let r := (picked.atTime 0).takeRefs
     (picked.atTime 0).servo.suspended = false ∧ r.switchingNow = false ∧ r.servo.suspended = false ∧ r.selectRef = (0, 0) ∧ r.pair.following = false ∧
       r.thetaReady = false ∧ r.sel.current ≠ 0) ∧
    (let r := ((chosen 0 none).atTime 0).takeRefs
     r.switchingNow = false ∧ r.servo.suspended = false ∧ r.selectRef = (0, 0) ∧ r.pair.following = false ∧ r.thetaReady = false ∧ r.sel.current = 0) ∧
    (let r := (({ up with sel := { up.sel with current := 3 } } : State).atTime 0).takeRefs
     r.switchingNow = false ∧ r.servo.suspended = false ∧ r.selectRef = (0xFF, 0) ∧ r.pair.following = false ∧ r.thetaReady = false ∧ r.sel.current ≠ 0xFF) ∧
    (let r := (({ picked with pair := { picked.pair with following := true } } : State).atTime 0).takeRefs
     r.switchingNow = false ∧ r.servo.suspended = false ∧ r.selectRef = (0, 0) ∧ r.pair.following = true) ∧
    (let r := (peered.atTime 0).takeRefs
     r.switchingNow = false ∧ r.servo.suspended = false ∧ r.selectRef = (0, 0) ∧ r.pair.following = false ∧ r.thetaReady = true) ∧
    picked.selectRef = (0, 0) ∧ picked.refRevertive = true := by
  decide +kernel

/-- Every reference present in state `q`; reference 0 delivers a ToD sentence, and a change of the forced pins has held. -/
def refs (q : QState) : State :=
  let s := up.put 0x3100 11 2
  { s with refs := List.replicate 17 { Ref.init with state := q, present := true }, sel := { s.sel with debouncing := true } }

/-- A ToD sentence on UART 0 to a part whose reference 0 delivers it, selected or not, and one that no pin is bound to. -/
theorem witness_references : ((refs .disabled).atTime 0).ref 16 = { Ref.init with state := .disabled, present := true } ∧
    (((refs .qualified).atTime 0).ref 16).state ≠ .disabled ∧
    (let u := (chosen 16 (some (4, 0))).atTime 0
     let v := (u.moveRef 16 .absent).onRef 16 (fun r => { r with present := false })
     v.sel.current = 16 ∧ v.switchingNow = true) ∧ 99 < 100 ∧ 900 < 901 ∧ 100 ≤ 100 ∧ 900 ≤ 900 ∧
    (up.atTime 0).todPin 0 = none ∧ up.todPin 0 = none ∧ ((refs .qualified).atTime 0).todPin 0 = some 0 ∧ ((refs .qualified).atTime 0).sel.current ≠ 0 ∧
    ((chosen 0 none).atTime 0).todPin 0 = some 0 ∧ ((chosen 0 none).atTime 0).sel.current = 0 ∧
    (refs .qualified).todPin 0 = some 0 ∧ ((refs .qualified).ref 0).state ≠ .absent ∧ ((refs .absent).ref 0).state = .absent ∧
    ((refs .qualified).ref 11).state ≠ .disabled ∧ ((refs .qualified).ref 11).state ≠ .absent ∧ ((refs .absent).ref 11).state = .absent ∧ 4 ≤ 4 ∧
    (refs .qualified).refs.length = 17 ∧ ((refs .qualified).atTime 0).sel.debouncing = true ∧ (up.atTime 0).sel.debouncing = false := by
  decide +kernel

/-- Input 1 is the frequency half of input 0's pair, or of none, with the link of reference 8's lane up; and the servo cores without a clock. -/
def halved (k : Nat) : State := (((up.put 0x3101 1 1).put 0x3101 11 4).put 0x3101 12 k).onLane 0 (fun x => { x with state := 5 })

theorem witness_halves : ((halved 0).atTime 0).isHalf 1 = true ∧ ((halved 0).atTime 0).inPair 1 < 8 ∧ ((halved 255).atTime 0).isHalf 1 = true ∧
    8 ≤ ((halved 255).atTime 0).inPair 1 ∧ ((halved 0).atTime 0).isHalf 0 = false ∧ (halved 0).freqHalf 0 = some 1 ∧ up.freqHalf 0 = none ∧
    (halved 0).isPps 8 = false ∧ ((halved 0).lane ((halved 0).seLane 8)).state = 5 ∧ (up.lane (up.seLane 8)).state ≠ 5 ∧
    ((chosen 16 none).atTime 0).sel.current = 16 ∧ ((chosen 16 none).atTime 0).switchingNow = false ∧ ((clocks 0 0).atTime 0).engsRun = false ∧
    (picked.atTime 0).engsRun = true := by decide +kernel

/-- A build-out of reference `n` since long count 0: its target lost, the peer followed, and the target's last measurement. -/
def building (n : Nat) (lost follow : Bool) (m : Option (Nat × Int)) : State :=
  let s := (chosen n (some (4, 0))).onRef n (fun r => { r with lastMeas := m })
  { s with sel := { s.sel with targetLost := lost }, pair := { s.pair with following := follow } }

theorem witness_build_outs : (picked.atTime 0).sel.switching = none ∧
    (∀ p ∈ [(0, true, false, none), (0, false, true, none), (0, false, false, some (1, 5)), (0, false, false, none)],
      let u := (building p.1 p.2.1 p.2.2.1 p.2.2.2).atTime (secs 1)
      u.sel.switching = some (4, 0) ∧ u.servo.suspended = false ∧ 0 + secUnits ≤ u.tb.lc ∧ u.sel.targetLost = p.2.1 ∧ u.pair.following = p.2.2.1 ∧
        u.classF u.sel.current = false ∧ (u.ref u.sel.current).lastMeas = p.2.2.2) ∧
    ((building 0 true false none).atTime 0).tb.lc < 0 + secUnits := by decide +kernel

/-- Reference 8, an SE whose channel has a valid 1 s estimate that ended at long count `e`, is selected and in a switch since 5 or not. -/
def classF (e : Nat) (sw : Option (Nat × Nat)) : State :=
  let s := ((((up.put 0x3108 1 1).put 0x3108 2 1)).onRef 8 (fun r => { r with state := .qualified, present := true })).onChan 8 (fun x =>
    { x with estStatus := 1, estTo := e, estFrom := 1 })
  { s with sel := { s.sel with current := 8, switching := sw } }

theorem witness_evaluations : 12 ≤ ((List.range 17).foldl State.evalRef ((chosen 0xFF none).atTime 0)).sel.current ∧
    (let v := (List.range 17).foldl State.evalRef ((classF 9 none).atTime 0)
     v.sel.current < 12 ∧ v.classF v.sel.current = true ∧ (v.refFreq v.sel.current).isSome = true ∧ v.sel.switching = none) ∧
    (let v := (List.range 17).foldl State.evalRef ((classF 9 (some (4, 5))).atTime 0)
     v.sel.current < 12 ∧ v.classF v.sel.current = true ∧ (v.refFreq v.sel.current).isSome = true ∧ v.sel.switching = some (4, 5) ∧
       v.sel.targetLost = false ∧ v.servo.suspended = false ∧ 5 < (v.refSpan v.sel.current).2) ∧
    up.refEnable 16 = false ∧ (clocks 2 0).group 5 ≠ 1 := by decide +kernel

/-- A reference that is present no more, in each state in which it is evaluated. -/
theorem witness_evaluation : ∀ q ∈ [QState.absent, .disabled, .qualified, .disqualified],
    let v := ((refs q).put 0x3110 1 1).onRef 16 (fun r => { r with present := false, todMismatch := q == .qualified })
    let w := ((refs q).put 0x3110 1 1).onRef 16 (fun r => { r with present := false })
    16 < v.refs.length ∧ v.refEnable 16 = true ∧ v.group 5 = 1 ∧ (v.ref 16).present = false ∧ (v.ref 16).state = q ∧
      (q = .qualified → v.causes 16 ≠ 0 ∧ w.causes 16 = 0) := by decide +kernel

/-- Channels 0 and 31 hold `n` records and stamped an edge at `l`; the engines' clock stands, a system reset lasts or not, and the
calibration is out of use. -/
def edges (n l : Nat) (reset : Bool) : State :=
  { up with
    tb := { up.tb with lc := 655360000 }
    cal := { up.cal with unusable := true }
    clk := { up.clk with groups := List.replicate 15 0 }
    start := { up.start with inReset := reset }
    tiu := List.replicate 32 { Tiu.init with lastStamp := some l, fifo := List.replicate n ⟨0, 0, false, false, 0⟩ } }

theorem witness_stamps : ((up.put 0x391F 1 0).atTime 0).chEnable 31 = false ∧
    (∀ c ∈ [0, 31], ((edges 0 0 false).atTime 0).chEnable c = true ∧ (((edges 0 655359000 false).atTime 0).chan c).lastStamp = some 655359000 ∧
      ((edges 0 655359000 false).atTime 0).edgeStamp c 0 ((edges 0 655359000 false).atTime 0).tb.lc < 655359000 + 4 * nsUnits ∧
      (((edges 0 0 false).atTime 0).chan c).lastStamp = some 0 ∧
      0 + 4 * nsUnits ≤ ((edges 0 0 false).atTime 0).edgeStamp c 0 ((edges 0 0 false).atTime 0).tb.lc ∧
      64 ≤ (((edges 64 0 false).atTime 0).chan c).fifo.length ∧ (((edges 63 0 false).atTime 0).chan c).fifo.length < 64) ∧
    ((edges 0 0 false).atTime 0).tiu.length = 32 ∧ ((edges 0 0 false).atTime 0).start.inReset = false ∧ ((edges 0 0 true).atTime 0).start.inReset = true ∧
    (edges 63 0 false).engsRun = false ∧ ((edges 1 0 false).chan 31).fifo = ⟨0, 0, false, false, 0⟩ :: [] := by decide +kernel

/-- The PPS on input 0 whose last edge inside its window came at `l`. -/
def pps (l : Option Nat) : State := picked.onRef 0 (fun r => { r with lastEdge := l })

theorem witness_edges : up.isPps 11 = false ∧ (pps none).isPps 0 = true ∧ ((pps none).ref 0).lastEdge = none ∧ ((pps (some 0)).ref 0).lastEdge = some 0 ∧
    0 + secs 2 + 65536000 < secs 3 ∧ secs 1 ≤ 0 + secs 2 + 65536000 ∧ inPpsWindow 0 (secs 1) = true ∧ inPpsWindow 0 (secs 1 + 65536000) = true ∧
    inPpsWindow 0 (secs 1 + 65536001) = false ∧ secs 1 + 65536001 ≤ 0 + secs 2 + 65536000 ∧
    (up.atTime 0).gateEnd 0 = none ∧ ((up.atTime (secs 20)).gateEnd 31).isNone = true ∧ (((up.put 0x391F 4 100).atTime (secs 20)).gateEnd 31).isSome = true := by
  decide +kernel

/-- A slew or none, a ramp of 1 s that adds its phase, and aligns it, or not, a suspended servo that holds reference `n`, and a loop at its slope limit. -/
def steering (n : Nat) (slews phase align : Bool) : State :=
  { up with
    sel := { up.sel with current := n }
    accum := ⟨0, 5, 1, slews⟩
    servo := { up.servo with ramp := some ⟨720576, 0, 10000, phase, align⟩, suspended := true, slopeSince := some 0 } }

theorem witness_accumulator : ((steering 3 true true true).atTime 0).accum.slewing = true ∧
    ((steering 3 false true true).atTime 0).accum.slewing = false ∧ (up.atTime 0).servo.ramp = none ∧
    (∀ p ∈ [(true, true, true), (false, true, true), (false, true, false), (false, false, false)], let w := (steering 3 p.1 p.2.1 p.2.2).atTime (secs 9)
      w.servo.ramp = some ⟨720576, 0, 10000, p.2.1, p.2.2⟩ ∧ 0 + (⟨720576, 0, 10000, p.2.1, p.2.2⟩ : Ramp).time ≤ w.tb.lc ∧
        w.accum.slewing = p.1 ∧ w.servo.stepWait = false) ∧
    (let w := ({ steering 3 false true true with servo := { (steering 3 false true true).servo with stepWait := true } } : State).atTime (secs 9)
     w.servo.ramp = some ⟨720576, 0, 10000, true, true⟩ ∧ 0 + (⟨720576, 0, 10000, true, true⟩ : Ramp).time ≤ w.tb.lc ∧ w.servo.stepWait = true) ∧
    (let w := (steering 3 false true true).atTime 0
     w.servo.ramp = some ⟨720576, 0, 10000, true, true⟩ ∧ w.tb.lc < 0 + (⟨720576, 0, 10000, true, true⟩ : Ramp).time) ∧
    (up.atTime 0).servo.suspended = false ∧ (((steering 3 true true true).onEng 32 (fun g => { g with status := .inReset })).atTime 0).sc0Runs = false ∧
    (let w := (steering 3 true true true).atTime 0
     w.servo.suspended = true ∧ w.sc0Runs = true ∧ w.sel.current ≠ 0xFF) ∧
    (let w := (steering 0xFF true true true).atTime 0
     w.servo.suspended = true ∧ w.sc0Runs = true ∧ w.sel.current = 0xFF ∧ w.pair.following = false) ∧
    ((steering 3 true true true).atTime (secs 601)).servo.slopeSince = some 0 ∧
    secs 600 < ((steering 3 true true true).atTime (secs 601)).tb.lc - 0 ∧
    ((steering 3 true true true).atTime (secs 600)).tb.lc - 0 ≤ secs 600 ∧ (up.atTime 0).servo.slopeSince = none := by decide +kernel

/-- Reference 16 in a state of qualification and selected or not, with its last phases; a switch, a lost target. -/
def measured (q : QState) (cur : Nat) (l : List (Nat × Int)) (sw : Option (Nat × Nat)) (lost : Bool) : State :=
  let s := up.onRef 16 (fun r => { r with state := q, phases := l })
  { s with sel := { s.sel with current := cur, switching := sw, targetLost := lost }, start := { s.start with state := .locked }
           tb := { s.tb with isSet := true }, girth := { s.girth with now := 16, timeValid := true } }

/-- Sixteen phases of 0, one a second. -/
def flat : List (Nat × Int) := (List.range 16).map (fun k => (secs (16 - k), 0))

/-- A step of 3 ns that the anchor of long count 2 × 65536 latched. -/
def stepped : State :=
  { measured .qualified 3 [] none false with
    tb := { up.tb with lc := secs 1, ring := up.tb.ring.set 0 ⟨0, 3, 131072, 0, 3, 131072⟩ } }

theorem witness_measurements : bit 0 0 = false ∧ bit 1 0 = true ∧ bit 1 1 = false ∧ bit 1 2 = false ∧ 17 ≤ 17 ∧
    ((measured .qualified 3 [] none false).atTime 0).classF 16 = false ∧ ((measured .qualified 3 [] none false).atTime 0).outOfWindow 16 0 = false ∧
    ((pps (some 0)).atTime 0).outOfWindow 0 (secs 1 + 65536001) = true ∧
    ((measured .qualified 3 [] none false).atTime 0).stepsAfter 0 = 0 ∧ ((measured .qualified 3 [] none false).atTime 0).jumps 16 0 0 = false ∧
    ((measured .qualified 3 [] none false).atTime 0).sel.current ≠ 16 ∧ (stepped.atTime 0).stepsAfter 0 ≠ 0 ∧
    (stepped.atTime 0).jumps 16 (0 - (stepped.atTime 0).stepsAfter 0 * 65536) 0 = false ∧
    (let u := (measured .absent 3 flat none false).atTime (secs 17)
     u.jumps 16 (1000000000000 - u.stepsAfter (secs 17) * 65536) (secs 17) = true) ∧
    (∀ p ∈ [(some (4, 0), true, QState.qualified), (some (4, 0), false, .qualified), (none, false, .qualified), (none, false, .disqualified)],
      let u := (measured p.2.2 16 [] p.1 p.2.1).atTime 0
      u.sel.current = 16 ∧ u.servo.suspended = false ∧ u.pair.following = false ∧ u.switchingNow = p.1.isSome ∧ u.sel.targetLost = p.2.1 ∧
        (u.ref 16).state.usable = (p.2.2 == .qualified) ∧ u.jumps 16 0 0 = false ∧ u.stepsAfter 0 = 0 ∧ u.refs.length = 17) ∧
    girthUnknown ≤ up.girth.b ∧ (let g := ({ up with girth := { up.girth with b := 1, m := 2, sTerm := 3, h := 4, a := 5 } } : State).girth
      g.b < girthUnknown ∧ g.m < girthUnknown ∧ g.sTerm < girthUnknown ∧ g.h < girthUnknown ∧ g.a < girthUnknown) ∧
    5 ≤ 5 ∧ 4 < 5 ∧ (up.atTime 0).girth.freeze = .none ∧ (up.atTime 0).pair.following = false ∧ 4 ≠ 1 ∧ 4 ≠ 2 ∧
    (up.atTime 0).girthRuns = true ∧ (((up.onEng 34 (fun g => { g with status := .inReset })).atTime 0).girthRuns = false) := by decide +kernel

/-- The warm flag has stood for an hour, and the ring holds `n` learnable entries. -/
def learning (n : Nat) : State :=
  { up with ho := { up.ho with anchorsWarm := some 3600, ring := List.replicate n ⟨0, 0, 31, 0xFFFFFFFF⟩ } }

theorem witness_learning : ∀ n, ((learning n).ho.ring.filter (fun e => e.learnable && decide ((learning n).ageOf e.aseq < (learning n).hoLearnSpan))).length = n ∧
    (∃ k, (learning n).ho.anchorsWarm = some k ∧ 0 < k ∧ k % 3600 = 0) ∧ (learning n).dramReady = true ∧ (learning n).ho.frozen = false ∧
    ({ learning n with ho := { (learning n).ho with frozen := true } } : State).ho.frozen = true := by
  intro n
  refine ⟨?_, ⟨3600, rfl, by decide, by decide⟩, rfl, rfl, rfl⟩
  have h : (decide ((learning n).ageOf 0xFFFFFFFF < (learning n).hoLearnSpan) && (⟨0, 0, 31, 0xFFFFFFFF⟩ : HistEntry).learnable) = true := by
    show (decide ((up.ageOf 0xFFFFFFFF) < up.hoLearnSpan) && (⟨0, 0, 31, 0xFFFFFFFF⟩ : HistEntry).learnable) = true
    decide +kernel
  simp only [Bool.and_eq_true] at h
  show ((List.replicate n (⟨0, 0, 31, 0xFFFFFFFF⟩ : HistEntry)).filter _).length = n
  rw [List.filter_replicate, if_pos (by rw [Bool.and_comm, Bool.and_eq_true]; exact h), List.length_replicate]

/-- An oven of a compensated oscillator: its sensor's fault and run, its temperature in 0.001 °C, and its flag, away since 0. -/
def heated (fault : Bool) (run : Nat) (temp : Int) (warm : Bool) : State :=
  let s := up.put 0x4400 1 0
  { s with oven := { s.oven with sensorFault := fault, goodRun := run, samples := 5, temp := temp, warm := warm, awaySince := some 0 } }

/-- The warm pin asserted and 60 flat offsets since 0, with reference 16 selected, and a steered atomic source of dialect `d`. -/
def warmed (d : Nat) : State :=
  let s := up.put 0x4440 1 d
  { s with
    sel := { s.sel with current := 16 }
    oven := { s.oven with warmPin := true, offsets := List.replicate 60 0, slope := 99999, condSince := some 0 } }

theorem witness_oven : (heated false 0 0 false).oscType = 0 ∧ 255 < 256 ∧ 65280 < 65281 ∧ 256 ≤ 256 ∧ 65280 ≤ 65280 ∧ up.oscType ≠ 0 ∧
    (heated false 99 0 false).oven.sensorFault = false ∧ (heated true 98 0 false).oven.goodRun < 99 ∧
    (heated true 99 0 false).oven.sensorFault = true ∧ 99 ≤ (heated true 99 0 false).oven.goodRun ∧
    up.takeOven.oscType ≠ 0 ∧ (heated false 0 0 false).takeOven.oscType = 0 ∧ (heated false 0 0 false).takeOven.oven.samples ≠ 0 ∧
    (up.put 0x4400 1 0).takeOven.oscType = 0 ∧ (up.put 0x4400 1 0).takeOven.oven.samples = 0 := by decide +kernel

theorem witness_warm_flag :
    (let u := (warmed 1).atTime (secs 60)
     u.oven.condSince = some 0 ∧ 0 + secs 60 ≤ u.tb.lc ∧ u.oven.warm = false ∧ u.tempCond = true ∧ u.slopeCond = true) ∧
    (up.atTime 0).oven.condSince = none ∧
    (let u := (heated true 0 80000 true).atTime 0
     u.oven.warm = true ∧ u.start.inReset = false ∧ u.oscType = 0 ∧ u.oven.sensorFault = true) ∧
    (let u := (heated false 0 80201 true).atTime (secs 10)
     u.oven.warm = true ∧ u.awayCond = true ∧ u.oven.awaySince = some 0 ∧ 0 + secs 10 ≤ u.tb.lc) ∧
    (let u := (heated false 0 80200 true).atTime (secs 10)
     u.oven.warm = true ∧ u.oven.sensorFault = false ∧ u.awayCond = false) ∧ (up.atTime 0).oven.warm = false := by decide +kernel

theorem witness_atomic : (∀ d ∈ [0, 1, 2], (warmed d).takeAtomic.atomicProto = d ∧ (warmed d).atomicProto = d) ∧
    (∀ d ∈ [0, 2], let t : State := { warmed d with atomic := { (warmed d).atomic with relayTx := some 7, relayStatus := some 2 } }
      t.atomicProto = d ∧ t.atomic.relayTx = some 7 ∧ t.atomic.relayStatus = some 2) ∧
    255 = ((warmed 1).atomic.seq + 255) % 256 ∧ 0 ≠ ((warmed 1).atomic.seq + 255) % 256 ∧ (88 : Nat) ≠ 76 ∧ (88 : Nat) ≠ 85 ∧ (88 : Nat) ≠ 87 := by
  decide +kernel

/-- The two ToD transmitters: TOD_TX0 names the time-base second, TOD_TX1 output 15. -/
def talkers : List TodTx := [{ TodTx.init with enable := true, source := 0xFF }, { TodTx.init with enable := true, source := 15 }]

/-- Every output enabled, in pulse mode at 1 pulse/s, running or not, on APLLs in state `lock`; a commit of APLL 3 due. -/
def outputs (run en : Bool) (lock : Nat) : State :=
  let s := ((up.put 0x4841 1 1).put 0x4841 2 16)
  { s with
    tb := { s.tb with isSet := true }
    tiu := List.replicate 32 { Tiu.init with window := [⟨0, 1, false, false, 0⟩] }
    synth := { s.synth with
      aplls := List.replicate 4 { Apll.init with lock := lock }
      outs := (List.range 16).map (fun n => { Output.init n with enable := en, running := run, mode := 1, rate := 1, width := 100, startGate := 0 })
      tod := talkers
      pending := some (8, 0x8000, 0xFFFFFFFF) } }

/-- `outputs` with a commit that another anchor carries out, and a new value in the shadow of APLL 3. -/
def later : State :=
  let s := (outputs false true 1).put 0x4803 1 2
  { s with synth := { s.synth with pending := some (8, 0x8000, 5) } }

theorem witness_commits : (up.atTime 0).synth.pending = none ∧ ((outputs false true 1).atTime 0).synth.pending = some (8, 0x8000, 0xFFFFFFFF) ∧
    (((outputs false true 1).atTime 0).aseqNow + 2 ^ 32 - 0xFFFFFFFF) % 2 ^ 32 < 2 ^ 31 ∧ (later.atTime 0).synth.pending = some (8, 0x8000, 5) ∧ 2 ^ 31 ≤ ((later.atTime 0).aseqNow + 2 ^ 32 - 5) % 2 ^ 32 ∧
    3 < up.synth.aplls.length ∧ (up.apll 3).lock = 0 ∧ later.apllShadow 3 ≠ later.apll 3 ∧
    4 ≤ 4 ∧ ((up.atTime 0).apll 3).lock = 0 ∧ (((outputs false true 1).atTime 0).apll 3).lock ≠ 0 := by decide +kernel

theorem witness_outputs : ((outputs false true 1).atTime 0).mayStart 15 = true ∧ ((outputs false true 1).atTime 0).startPoint 15 = true ∧
    ((outputs false true 1).atTime 32768000000000).startPoint 15 = false ∧ ((outputs true true 1).atTime 0).mayStart 15 = false ∧
    (((outputs true false 1).atTime 32768000000000).out 15).running = true ∧ (((outputs true false 1).atTime 32768000000000).outStop 15).isSome = true ∧
    ((outputs true false 1).atTime 32768000000000).outHigh 15 = false ∧ ((outputs true false 1).atTime 0).outHigh 15 = true ∧
    (((outputs true false 1).atTime 0).apll 0).lock ≠ 3 ∧ (((outputs true false 3).atTime 0).apll (((outputs true false 3).atTime 0).out 15).apll).lock = 3 ∧
    (((outputs false true 1).atTime 0).out 15).running = false ∧ ((outputs true true 1).atTime 0).outStop 15 = none ∧
    (((outputs true true 1).atTime 0).out 15).committing = false ∧ (((outputs true true 1).atTime 0).out 15).running = true ∧
    ((outputs true true 1).atTime 0).targeted 15 = true ∧ ((up.onOut 15 (fun o => { o with align := false })).atTime 0).targeted 15 = false ∧ (((outputs true true 1).atTime 0).loopStats 15).isSome = true ∧
    ({ outputs true true 1 with tiu := up.tiu } : State).loopStats 15 = none := by decide +kernel

theorem witness_sentences :
    (∀ n ∈ [0, 1], let u := (outputs true true 1).atTime 13107200000000
     let x := u.synth.tod.getD n TodTx.init
     x.enable = true ∧ u.start.inReset = false ∧ u.synth.policy = false ∧ u.todSourceOk x.source = true ∧ u.todMoment x = true) ∧
    (let u := (outputs true true 1).atTime 0
     u.todMoment (u.synth.tod.getD 1 TodTx.init) = false) ∧
    16 ≤ (((outputs true true 1).atTime 0).synth.tod.getD 0 TodTx.init).source := by decide +kernel

/-! ## Witnesses: receiver, lanes and yard -/

/-- The receiver runs at a surveyed position, with a target, five signals of one moment in the epoch queued, and channel 5 tracking signal
`sig` in state `k`; its engine 3 as given, and work class W3 withheld or not. -/
def receiver (sig k : Nat) (x : Search) (gated : Nat) : State :=
  let s := ((up.put 0x5000 1 1).put 0x5012 1 1)
  { s with
    cal := { s.cal with unusable := true }
    engs := { s.engs with gated := gated }
    gnss := { s.gnss with
      engines := [Search.init, Search.init, Search.init, x]
      tracks := [(5, ⟨sig, 7, k, 4000, 0, 16, 64, 0, 0, none⟩)], targets := [⟨0, 7, 0, none, false⟩], position := some (0, 0, 0)
      epochs := [⟨0, 0, (List.range 5).map (fun i => ⟨i, 0, i + 1, 1, 0, 6000⟩)⟩]
      svs := (List.range 5).map (fun i => ⟨0, i + 1, some 0, none, false, none, none, false, 0⟩)
      gifs := List.replicate 3 { Gif.init with status := 3 } }
    tiu := up.tiu.set 28 { Tiu.init with window := [⟨0, 1, false, false, 0⟩] } }

/-- An engine that looks for satellite 7, with `n` retests left and `h` of them passed; it verifies, waits or pauses. -/
def seeking (n h : Nat) (v w p : Bool) : Search := ⟨some (0, 7), 0, Search.init.grid, n, h, v, w, p⟩

theorem witness_front_end : bit ((receiver 0 1 Search.init 0).gif 2).status 0 = true ∧ bit (up.gif 2).status 0 = false ∧ 2 < up.gnss.gifs.length ∧
    (receiver 0 1 Search.init 0).gifEnable 2 = true ∧
    (receiver 0 1 Search.init 0).gnJamThreshold ≤ (receiver 0 1 Search.init 0).jamValue 2 (10000 - (receiver 0 1 Search.init 0).agcQuiet 2).toNat 0 ∧
    (receiver 0 1 Search.init 0).refs.length = 17 ∧ (up.atTime 0).gnRuns = false ∧ ((receiver 0 1 Search.init 0).atTime 0).gnRuns = true ∧ 4 ≤ 4 ∧
    ((receiver 0 1 Search.init 0).track 5).map (·.state) = some 1 ∧ ((receiver 0 2 Search.init 0).track 5).map (·.state) = some 2 ∧
    (((receiver 0 2 Search.init 0).atTime 0).track 5).isSome = true ∧ ((receiver 0 2 Search.init 0).atTime 0).track 6 = none ∧
    (up.atTime 0).group 6 ≠ 0 ∧ (up.atTime 0).group 6 = 1 ∧ ((clocks 0 0).atTime 0).group 6 = 0 := by
  decide +kernel

theorem witness_search :
    (∀ x ∈ [seeking 0 0 false true false, seeking 0 0 false false true], let y := ((receiver 0 1 x 0).atTime 0).gnss.engines.getD 3 Search.init
     y.paused = true ∨ y.waiting = true) ∧
    (∀ k ∈ [0, 8], ∀ x ∈ [Search.init, seeking 0 0 false false false], let u := (receiver 0 1 x k).atTime 0
     let y := u.gnss.engines.getD 3 Search.init
     u.gnRuns = true ∧ y.paused = false ∧ y.waiting = false ∧ bit u.engs.gated 3 = (k == 8) ∧ y.target = x.target) ∧
    ((receiver 0 1 Search.init 0).atTime 0).ageTargets.nextTarget = some ⟨0, 7, 0, none, false⟩ ∧
    (let s := receiver 0 1 Search.init 0
     ({ s with gnss := { s.gnss with targets := [] } } : State).nextTarget = none) ∧
    (∀ x ∈ [seeking 0 0 false false false, seeking 2 0 true false false, seeking 1 3 true false false, seeking 1 0 true false false],
      let y := ((receiver 0 1 x 0).atTime 0).gnss.engines.getD 3 Search.init
      y.target = some (0, 7) ∧ y.verifying = x.verifying ∧ y.grid.threshold ≤ 1800 ∧ 1799 < y.grid.threshold) := by decide +kernel

/-- What the ephemerides give for those five signals, `n` of them. -/
def sol (n : Nat) : GnSol := ⟨(List.range n).map (fun i => ⟨i, 0, 0, 0, (0, 0, 1073741824), 90, 65536, 65536⟩), (0, 0, 0)⟩

/-- A navigation data unit with an ephemeris, its check passed or not. -/
def unit (flags : Nat) : NavUnit := ⟨flags, 0, 0, 0, 0, true, some 1, none, none, none, .none⟩

theorem witness_solution : ((receiver 0 1 Search.init 0).atTime 0).gnRuns = true ∧ (up.atTime 0).gnss.epochs = [] ∧
    ((receiver 0 1 Search.init 0).atTime 0).engsRun = true ∧
    (({ receiver 0 1 Search.init 0 with clk := State.reset.clk } : State).atTime 0).engsRun = true ∧ ((clocks 0 0).atTime 0).engsRun = false ∧
    (∀ n ∈ [2, 5], let u := (receiver 0 1 Search.init 0).atTime 0
     ∃ e, u.gnss.epochs = e :: [] ∧
       (let w : State := { u with gnss := { u.gnss with epochs := [] } }
        ∃ r, (w.chan 28).window.find? (·.edge % 4294967296 == e.seq) = some r ∧
          w.solCode (stampGood r.status) (w.solve e (sol n)) = if n = 2 then 4 else 2)) ∧
    (let s := receiver 0 1 Search.init 0
     (({ s with tiu := up.tiu } : State).chan 28).window.find? (·.edge % 4294967296 == 0) = none) :=
  ⟨by decide +kernel, by decide +kernel, by decide +kernel, by decide +kernel, by decide +kernel, by
    intro n hn
    refine ⟨_, rfl, ⟨0, 1, false, false, 0⟩, by decide +kernel, ?_⟩
    revert n
    decide +kernel, by decide +kernel⟩

theorem witness_navigation : (∀ k ∈ [0, 9], (((receiver k 1 Search.init 0).atTime 0).track 5).map (·.sig) = some k) ∧ 5 < 16 ∧ 16 ≤ 16 ∧
    ((receiver 0 1 Search.init 0).atTime 0).track 6 = none ∧ bit (unit 16).nflags 4 = true ∧ bit (unit 0).nflags 4 = false ∧ bit (unit 0).nflags 1 = false ∧
    bit (unit 2).nflags 1 = true ∧ (unit 2).elev = none ∧ (unit 2).bcast = none ∧
    (let s : State := { up with gnss := { up.gnss with surveyCount := 4, surveySum := (4, 8, 12) } }
     s.gnPosMode = 1 ∧ s.gnss.position = none ∧ s.gnss.surveyLeft = 0 ∧ 4 = s.gnss.surveyCount ∧ s.gnss.surveySum = (4, 8, 12)) ∧
    up.gnss.surveyCount = 0 ∧ up.heldPosition = none ∧
    (∀ d ∈ [none, some (4, 5, 6)], let s : State := { up with gnss := { up.gnss with position := some (1, 2, 3), dynPos := d } }
     s.heldPosition = some (1, 2, 3) ∧ s.gnss.dynPos = d) := by decide +kernel

/-- Every quad in state `q`, every lane enabled and in state `l`, with forwarding state `f`, and both peer lanes up. -/
def links (q l f : Nat) : State :=
  let s := (up.put 0x611F 1 1).put 0x6300 2 1
  { s with
    net := { s.net with
      quads := List.replicate 8 { Quad.init with state := q, refLost := q == 3 }
      lanes := List.replicate 32 { Lane.init with state := l, train := 1, stampState := 1 }
      peers := List.replicate 2 { PeerLane.init with state := 5 }, peerActive := 0 }
    yard := { s.yard with ports := List.replicate 32 { YPort.init with fwd := f } } }

/-- `up` with both peer lanes as given. -/
def peerLanes (f : PeerLane → PeerLane) : State := { up with net := { up.net with peers := up.net.peers.map f } }

/-- The scans of a CTLE sweep: code 3 scores highest. -/
def sweep : List (Nat × Nat) := (List.range 32).map (fun k => if k = 3 then (200000, 1000000) else (0, 0))

theorem witness_links : (((links 2 0 0).atTime 0).quad 7).mode ≠ 0 ∧
    ((({ links 0 0 0 with net := { (links 0 0 0).net with quads := List.replicate 8 { Quad.init with mode := 0 } } } : State).atTime 0).quad 7).mode = 0 ∧
    (((links 3 0 0).atTime 0).quad 7).refLost = true ∧ (((links 2 0 0).atTime 0).quad 7).refLost = false ∧
    ((up.put 0x611F 1 0).atTime 0).portEnabled (((up.put 0x611F 1 0).atTime 0).portOf 31) = false ∧ sweep.length = 32 ∧ bestCode sweep = 3 ∧
    (∀ l ∈ [0, 2, 4, 5], let u := (links 2 l 2).atTime 0
     u.portEnabled (u.portOf 31) = true ∧ (u.quad (u.portOf 31 / 4)).state = 2 ∧ u.linkUp (u.portOf 31) = (l == 5) ∧ (u.lane 31).state = l) ∧
    (∀ m ∈ [0, 2], let u := ((links 2 2 2).onLane 31 (fun x => { x with ctleMode := m })).atTime 0
     2 ≤ stageOf (u.lane 31).state 4 (u.trains 31) ∧ (u.lane 31).ctleMode = m) ∧ stageOf 2 3 true = 3 ∧ firIn (-10, 43, -10) = true ∧
    (∀ w ∈ [true, false], let u := ((links 2 4 2).onLane 31 (fun x => { x with swept := w })).atTime 0
     u.laneReady 31 = w ∧ (((u.onLane 31 (fun z => { z with done := true })).portLanes (u.portOf 31)).all
       (fun i => ((u.onLane 31 (fun z => { z with done := true })).lane i).done)) = true) ∧
    (let u := (({ links 2 4 2 with net := { (links 2 4 2).net with quads := List.replicate 8 { Quad.init with state := 2, mode := 4 } } } : State).onLane 31
        (fun x => { x with swept := true })).atTime 0
     u.portEnabled (u.portOf 31) = true ∧ u.laneReady 31 = true ∧
       (((u.onLane 31 (fun z => { z with done := true })).portLanes (u.portOf 31)).all
         (fun i => ((u.onLane 31 (fun z => { z with done := true })).lane i).done)) = false) ∧
    (let u := (peerLanes (fun x => { x with state := 2 })).atTime 0
     bit u.peerLaneEnable (33 - 32) = true ∧ (u.peerLane (33 - 32)).state ≠ 5 ∧ 2 ≤ stageOf (u.peerLane (33 - 32)).state 4 false ∧
       stageOf (u.peerLane (33 - 32)).state 5 false = 2) ∧
    ((peerLanes (fun x => { x with state := 5 })).atTime 0).peerUp (33 - 32) = true ∧ stageOf 0 2 false < 2 ∧
    (let u := ((links 2 2 0).onLane 31 (fun x => { x with train := 2 })).atTime 0
     (u.lane 31).state ≠ 0 ∧ (u.lane 31).state ≠ 5 ∧ (u.lane 31).train = 2) ∧
    (((links 2 0 0).atTime 0).lane 31).state = 0 ∧ 1 ≤ 2 ∧ 2 ≤ 4 ∧ 4 < 5 ∧ 4 ≠ 3 := by decide +kernel

theorem witness_holds :
    (let u := (links 2 5 2).atTime (secs 100)
     (u.yport 31).fwd = 2 ∧ u.linkUp 31 = true ∧ (u.yport 31).since + millis (u.portBlockTime 31) ≤ u.tb.lc) ∧
    ¬ (((links 2 5 3).atTime 0).yport 31).fwd = 2 ∧
    (let u := (links 2 0 1).atTime (secs 100)
     (u.yport 31).fwd = 1 ∧ u.linkUp 31 = false ∧ (u.yport 31).since + 1000 * nsUnits * u.portDownHold 31 < u.tb.lc) ∧
    ¬ (((links 2 5 3).atTime 0).yport 31).fwd = 1 ∧
    (let u := (links 2 0 0).atTime (secs 10)
     u.net.peerActive < 2 ∧ u.peerUp (1 - u.net.peerActive) = true ∧ u.net.peerActive ≠ u.peerPrefer ∧ u.peerUp u.peerPrefer = true ∧
       (u.peerLane u.peerPrefer).upAt + secs 10 ≤ u.tb.lc) ∧
    ¬ (up.atTime 0).peerUp (1 - (up.atTime 0).net.peerActive) = true ∧ ¬ (up.atTime 0).net.peerActive < 2 := by decide +kernel

/-- Lane 31 as given on a locked quad. -/
def lane31 (f : Lane → Lane) : State := (links 2 5 3).onLane 31 f

theorem witness_scans : 200000 ≤ 200000 ∧ 1000000 ≤ 1000000 ∧ ((lane31 id).lane 31).state = 5 ∧ ((lane31 id).lane 31).rxSleep = false ∧
    (lane31 id).net.lanes.length = 32 ∧ (up.lane 31).state ≠ 5 ∧ ((lane31 (fun x => { x with rxSleep := true })).lane 31).rxSleep = true ∧
    32 ≤ 33 ∧ 33 - 32 < up.net.peers.length ∧ up.peerUp (33 - 32) = false ∧ (peerLanes (fun x => { x with state := 5 })).peerUp (33 - 32) = true ∧
    (∀ p ∈ [(100, true), (99, true), (100, false)], let f (x : Lane) : Lane := { x with lowRun := p.1, warnArmed := p.2, minRun := p.1 }
      (((lane31 f).atTime 0).lane 31).lowRun = p.1 ∧ (((lane31 f).atTime 0).lane 31).warnArmed = p.2 ∧ (((lane31 f).atTime 0).lane 31).minRun = p.1) ∧
    (∀ p ∈ [(100, true, 5), (99, true, 5), (100, false, 1)], let f (x : PeerLane) : PeerLane := { x with lowRun := p.1, warnArmed := p.2.1, minRun := p.1, state := p.2.2 }
      let y := ((peerLanes f).atTime 0).peerLane (33 - 32)
      y.lowRun = p.1 ∧ y.warnArmed = p.2.1 ∧ y.minRun = p.1 ∧ y.state = p.2.2) := by decide +kernel

theorem witness_lanes :
    (let x := ((lane31 (fun x => { x with ctleMode := 1, ctle := 30, fom := 1007 })).atTime 0).lane 31
     x.ctleMode = 1 ∧ x.state = 5 ∧ x.rxSleep = false ∧ x.ctle < 31 ∧ 0 < x.ctle ∧ x.fom + 16 ≤ figureOfMerit 200000 1000000 ∧
       ¬ x.fom + 16 ≤ figureOfMerit 199804 1000000 ∧ figureOfMerit 199804 1000000 < figureOfMerit 200000 1000000) ∧
    ((up.atTime 0).lane 31).state ≠ 5 ∧
    (let s := ({ links 2 5 3 with tb := { up.tb with lc := secs 1 } } : State).put 0x611F 10 1
     s.sleepPermitted 31 = true ∧ (s.lane 31).state = 5 ∧ (∀ q < 8, (s.queue (8 * s.portOf 31 + q)).copies = []) ∧
       max (s.yport (s.portOf 31)).busyUntil ((s.yport (s.portOf 31)).emptyAt + s.lpiIdle 31) ≤ s.tb.lc) ∧
    ¬ (links 2 5 3).sleepPermitted 31 = true ∧ ((lane31 id).atTime 0).timingPort 31 = false ∧
    (∀ r ∈ [true, false], let u := ((lane31 (fun x => { x with lpiRaised := r })).put 0x711F 3 1).atTime 0
     31 < u.net.lanes.length ∧ (u.lane 31).state = 5 ∧ (u.lane 31).lpiRaised = r ∧ u.timingPort 31 = true) := by decide +kernel

theorem witness_esmc :
    (let u := ((lane31 (fun x => { x with esmcQl := 1 })).put 0x611F 12 1).atTime 0
     u.engsRun = true ∧ u.esmcTxEnable 31 = true ∧ u.isPort 31 = true ∧ u.esmcQl 31 ≠ (u.lane 31).esmcQl) ∧
    (let u := ((lane31 (fun x => { x with esmcQl := 15 })).put 0x611F 12 1).atTime 0
     u.engsRun = true ∧ u.esmcTxEnable 31 = true ∧ u.isPort 31 = true ∧ u.esmcQl 31 = (u.lane 31).esmcQl) ∧
    ((clocks 0 0).atTime 0).engsRun = false := by decide +kernel

/-- A good frame on port 31 in VLAN 5. -/
def frame : Frame := { blankFrame 31 64 with dst := 2, src := 4, tag := some (5, 0), etherType := 0x1234 }

/-- A copy of it in an egress queue. -/
def copy : Copy := ⟨0, frame, 1, 1, 2, 0, 0, false, false, false, 0, 0, false, 5, false, none, false, false, false⟩

/-- A PTP message of a type, with a stamp of status `st`, in domain 24, as it waits for the engines on port 31; a request to HOST_ADDR entry
0 on UDP port 123; and one of the host protocols. -/
def message (st mtype : Nat) : Term := ⟨1, 31, none, { blankFrame 31 64 with etherType := 0x88F7, mtype := mtype, domain := 24 }, 1, 0, st⟩
def question (st : Nat) : Term := ⟨2, 31, some 0, udpFrame 31 4 123 48, 1, 0, st⟩
def greeting : Term := ⟨4, 31, some 0, { blankFrame 31 64 with request := true }, 1, 0, 1⟩

/-- Messages of every type wait. -/
def messages (st : Nat) : List Term := [0, 1, 2, 3, 8, 9, 0xA, 0xB, 0xC, 0xD].map (message st)

/-- Port 31 is up and forwards VLANs 1 to 4094; its queue 7 holds `cs`; its stamp unit's state and alignment measurements are those given, and
its loop measurement is in state `cal`; frames of the services wait. -/
def port31 (state cal : Nat) (l : List (Nat × Nat)) (cs : List Copy) : State :=
  let s := (links 2 5 3).put 0x68BF 1 (1 + 65536 * 4094 + 2 ^ 63)
  let s := s.onLane 31 (fun x => { x with stampState := state, aligns := l, calStatus := cal })
  { s with yard := { s.yard with
      queues := s.yard.queues.set 255 { Queue.init with copies := cs }, terminated := messages 1 ++ [question 1, greeting], hostUsed := 12 } }

theorem witness_stamp_unit : ((port31 1 1 [] []).lane 31).state = 5 ∧ (up.lane 31).state ≠ 5 ∧
    (let u := (port31 1 1 (List.replicate 5 (3, 0)) []).atTime (millis 100)
     (u.lane 31).stampState = 1 ∧ (u.lane 31).upAt + millis 100 ≤ u.tb.lc ∧ ∀ k ∈ u.portLanes 31, (u.lane k).agrees = true) ∧
    (∀ st ∈ [1, 3], let u := (port31 st 1 (List.replicate 4 (3, 0)) []).atTime (millis 100)
     (u.lane 31).stampState = st ∧ (u.lane 31).upAt + millis 100 ≤ u.tb.lc ∧ ∃ k ∈ u.portLanes 31, (u.lane k).agrees = false) ∧
    (((port31 2 1 [] []).atTime 0).lane 31).stampState = 2 ∧
    ((port31 1 1 [] []).atTime 0).tb.lc < (((port31 1 1 [] []).atTime 0).lane 31).upAt + millis 100 := by
  decide +kernel

/-- Port 31 at the end of a loop measurement: every frame has left, and two have come back, the second of them `d` later than the first. -/
def looped (d : Nat) : State := (port31 2 1 [] []).onLane 31 (fun x => { x with calSent := 4096, calGot := 2, calSum := d, calSq := d * d })

theorem witness_loop :
    (∀ d ∈ [20 * 65536 / 1000, 30 * 65536 / 1000], let x := (looped d).lane 31
     x.calStatus = 1 ∧ 4096 ≤ x.calSent ∧ 0 < x.calGot ∧
       (decide (1000000 * (x.calGot * x.calSq - (x.calSum * x.calSum).toNat) ≤ (10 * 65536) ^ 2 * x.calGot ^ 2) = (d == 20 * 65536 / 1000))) ∧
    (let x := ((port31 2 1 [] []).onLane 31 (fun x => { x with calSent := 4096 })).lane 31
     x.calStatus = 1 ∧ 4096 ≤ x.calSent ∧ x.calGot = 0) ∧
    ((port31 2 0 [] []).lane 31).calStatus ≠ 1 ∧ ((port31 2 1 [] []).lane 31).calSent < 4096 := by decide +kernel

theorem witness_ingress : ((links 2 0 3).atTime 0).linkUp frame.port = false ∧ ((up.atTime 0).coreRuns = true ∧ ((clocks 3 0).atTime 0).coreRuns = false) ∧
    (∀ cal ∈ [0, 1], let u := (port31 2 cal [] []).atTime 0
     u.isPort frame.port = true ∧ u.linkUp frame.port = true ∧ u.coreRuns = true ∧ frame.overflow = false ∧ (u.lane frame.port).calStatus = cal) ∧
    frame.stampLost = false ∧ frame.fcsOk = true ∧ frame.truncated = false ∧ frame.pause = false ∧ frame.esmc = false ∧ frame.cal = none ∧
    (((port31 2 1 [] []).onLane 31 (fun x => { x with calTx := [(7, 0)] })).lane frame.port).calTx.lookup 7 = some 0 ∧
    (let u := (port31 2 0 [] []).atTime 0
     (u.yport frame.port).fwd = 3 ∧ u.vlanMember (u.vidOf frame) frame.port = true) ∧
    (let u := ((port31 2 0 [] []).put 0x68BF 1 0).atTime 0
     (u.yport frame.port).fwd = 3 ∧ u.vlanMember (u.vidOf frame) frame.port = false) ∧
    (let u := (links 2 5 2).atTime 0
     u.linkUp frame.port = true ∧ (u.yport frame.port).fwd ≠ 3) := by decide +kernel

theorem witness_egress : ((port31 2 0 [] []).atTime 0).account 255 12289 false false = none ∧ (((port31 2 0 [] []).atTime 0).account 255 1 false false).isSome = true ∧
    (∀ cs ∈ [[copy], []], let u := (port31 2 0 [] cs).ptpTime 0
     let z := u.settleTails
     u.coreRuns = true ∧ u.isPort 31 = true ∧ u.linkUp 31 = true ∧ 2 ≤ (u.yport 31).fwd ∧ (u.yport 31).busyUntil ≤ u.tb.lc ∧ u.calDue 31 = false ∧
       (∀ q < 8, ∀ x ∈ (z.queue (8 * 31 + q)).copies, x.ct = false ∧ x.event = false) ∧ z.joined (8 * 31 + 7) = cs ∧ (∀ q < 7, z.joined (8 * 31 + q) = [])) ∧
    (let z := ((port31 2 0 [] [copy]).ptpTime 0).settleTails
     (z.joined (8 * 31 + 7)).head? = some copy ∧ z.ntsHead 31 = none ∧ copy.launched.isSome = false ∧ z.launchBars 31 copy.frame.len = false) ∧
    (let z := (((port31 2 0 [] [copy]).onYPort 31 (fun y => { y with launch := some (1, 9) })).ptpTime 0).settleTails
     (z.joined (8 * 31 + 7)).head? = some copy ∧ z.ntsHead 31 = none ∧ copy.launched.isSome = false ∧ z.launchBars 31 copy.frame.len = true) ∧
    (let u := (port31 2 1 [] []).ptpTime 0
     u.calDue 31 = true ∧ u.launchBars 31 64 = false ∧ 31 < u.net.lanes.length) ∧
    (((links 2 5 1).ptpTime 0).yport 31).fwd < 2 := by decide +kernel

theorem witness_hosts :
    (∀ t ∈ (up.atTime 0).yard.terminated, (t.service == 4 && (t.host == some 0 || t.host.isNone)) = false) ∧ ((clocks 0 0).atTime 0).engsRun = false ∧
    (∀ r ∈ [999, 1000], let s := port31 2 0 [] []
     let u := ({ s with yard := { s.yard with hostRate := [(0, r)], hostSecond := (s.atTime 0).tai } } : State).atTime 0
     let x := u.takeTerm (fun t => t.service == 4 && (t.host == some 0 || t.host.isNone))
     u.engsRun = true ∧ x.2 = some greeting ∧ greeting.host ≠ none ∧ x.1.yard.hostSecond = x.1.tai ∧ (x.1.yard.hostRate.lookup 0).getD 0 = r) ∧
    (let s := port31 2 0 [] []
     let u := ({ s with yard := { s.yard with terminated := [{ greeting with host := none }] } } : State).atTime 0
     (u.takeTerm (fun t => t.service == 4 && (t.host == some 0 || t.host.isNone))).2 = some { greeting with host := none }) := by decide +kernel

/-! ## Witnesses: PTP and NTP -/

/-- Instance 3 runs on port 31, in state `st`, without authentication and with `objs` written; sender 77 is its parent. -/
def ptp (st : Nat) (objs : List (Nat × Nat)) (f : PtpPort → PtpPort) (g : PtpInst → PtpInst) : State :=
  let s := objs.foldl (fun s o => s.put 0x7013 o.1 o.2) ((((port31 2 0 [] []).put 0x7013 1 1).put 0x7013 5 (2 ^ 31)).put 0x7013 16 0)
  let s := s.put 0x7000 1 0xA1
  { s with
    tb := { s.tb with ring := List.replicate 16 ⟨0, 1, 0, 0, 0, 0⟩ }
    gov := { s.gov with level := 0, prev := (1, 0) }
    net := { s.net with lanes := s.net.lanes.map (fun x => { x with spanCal := some 0 }) }
    ptp := { s.ptp with
      ports := s.ptp.ports.map (fun x => f { x with state := st })
      insts := s.ptp.insts.map (fun x => g { x with parent := 77 }) } }

/-- A message from `who` to this part's port. -/
def heard (who : Nat) (two : Bool) : PtpMsg := ⟨who, 0, 9, two, 0, 0, (ptp 8 [] id id).portIdentity 31, 37, true, 0, none, none⟩

/-- One from the parent. -/
def msg (two : Bool) : PtpMsg := heard 77 two

/-- `s` with stamps that are not good on its waiting messages, or with no message. -/
def unsure (s : State) : State := { s with yard := { s.yard with terminated := messages 0 } }
def quiet (s : State) : State := { s with yard := { s.yard with terminated := [] } }

/-- How a message taken with a good stamp at 0 reaches its service. -/
def good : Taken := ⟨false, 0, 1⟩

theorem witness_ptp_in : (∀ k ∈ [0, 1, 8, 9, 0xB, 0xC], let u := (ptp 8 [] id id).ptpTime 0
      (((quiet (ptp 8 [] id id)).ptpTime 0).ptpIn 3 31 k (msg false)).2 = none ∧
      (∀ f ∈ ((quiet (ptp 8 [] id id)).ptpTime 0).yard.terminated, (ptpTerm 31 k f && ((quiet (ptp 8 [] id id)).ptpTime 0).instTerm 3 f) = false) ∧
      u.engsRun = true ∧ u.ptpEnable 3 = true ∧ u.ptpActive 31 = true ∧ u.ptpAuthPolicy 3 = 0 ∧ (msg false).girth = none ∧
      u.yard.terminated.find? (fun f => ptpTerm 31 k f && u.instTerm 3 f) = some (message 1 k) ∧ (u.ptpIn 3 31 k (msg false)).2 = some good) ∧
    (∀ k ∈ [2, 3, 0xA], (((quiet up).ptpTime 0).pdelayIn 31 k (msg false)).2 = none) ∧
    (∃ ds : PtpDs, ds.gm = (((ptp 8 [] id id).ptpTime 0).ptpIn 3 31 0xB (msg false)).1.clockId) ∧
    (∀ who ∈ [77, 78], let t := (((ptp 8 [] id id).ptpTime 0).ptpIn 3 31 0xB (heard who false)).1
     let g := t.onPPort 31 (fun g => { g with foreign := [], timedOut := false })
     (((ptp 8 [] id id).ptpTime 0).ptpIn 3 31 0xB (heard who false)).2 = some good ∧ (g.inst 3).parent = 77) ∧
    (up.ptpTime 0).instOfPort 31 = none ∧ ((ptp 8 [] id id).ptpTime 0).instOfPort 31 = some 3 :=
  ⟨by decide +kernel, by decide +kernel, ⟨⟨_, 0, 0, 0, 0, 0, 0⟩, rfl⟩, by decide +kernel, by decide +kernel, by decide +kernel⟩

/-- A client's exchange: a Sync, its Follow_Up and a Delay_Resp of the parent, with what it waits for and without. -/
theorem witness_ptp_client :
    (∀ st ∈ [8, 9], ∀ w ∈ [true, false], let u := (ptp st [] (fun x => { x with sync := if w then some (9, 5, 0, 0, 1) else none, dreq := if w then some (9, 4) else none })
        (fun x => { x with lastM := some 6 })).ptpTime 0
     ∀ k ∈ [0, 8, 9], let t := (u.ptpIn 3 31 k (msg false)).1
       (u.ptpIn 3 31 k (msg false)).2 = some good ∧ (t.pport 31).state = st ∧ (t.inst 3).parent = (msg false).sender ∧ stampGood good.status = true ∧
         t.extend (good.rx % 2 ^ 48) good.status = some 0 ∧ (t.pport 31).sync = (if w then some ((msg false).seq, 5, 0, 0, 1) else none) ∧
         (msg false).target = t.portIdentity 31 ∧ (t.pport 31).dreq = (if w then some ((msg false).seq, 4) else none) ∧ (t.inst 3).lastM = some 6) := by decide +kernel

/-- A Sync with a stamp that is not good, one of another sender, and one at a port that is no client. -/
theorem witness_ptp_strangers :
    (((unsure (ptp 8 [] id id)).ptpTime 0).ptpIn 3 31 0 (msg false)).2 = some ⟨false, 0, 0⟩ ∧ stampGood 0 = false ∧
    (heard 78 false).sender ≠ (msg false).sender ∧ (((ptp 6 [] id id).ptpTime 0).ptpIn 3 31 0 (msg false)).2 = some good ∧
    ((((ptp 6 [] id id).ptpTime 0).ptpIn 3 31 0 (msg false)).1.pport 31).state = 6 := by decide +kernel

/-- A server's port with negotiation: it answers a Delay_Req under a grant, and drops one without; and without negotiation, from what is left. -/
theorem witness_ptp_server :
    (let s := ptp 6 [(2, 0), (15, 1)] id id
     let u := ({ s with ptp := { s.ptp with grants := [⟨3, 0, 77, 9, 0, secs 9, 0⟩] } } : State).ptpTime 0
     let t := (u.ptpIn 3 31 1 (msg false)).1
     (u.ptpIn 3 31 1 (msg false)).2 = some good ∧ (t.pport 31).state = 6 ∧ t.peerDelay 3 = false ∧ t.negotiates 3 = true ∧
       t.extend (good.rx % 2 ^ 48) good.status = some 0 ∧
       t.ptp.grants.any (fun g => g.inst == 3 && g.addr == (msg false).addr && g.portId == (msg false).sender && g.mtype == 9 && decide (t.tb.lc < g.expiry)) = true) ∧
    (let t := (((ptp 6 [(2, 0), (15, 1)] id id).ptpTime 0).ptpIn 3 31 1 (msg false)).1
     t.negotiates 3 = true ∧ t.ptp.grants = []) ∧
    (let t := (((ptp 6 [] id id).ptpTime 0).ptpIn 3 31 1 (msg false)).1
     t.negotiates 3 = false ∧ 0 + 2 ≤ t.freePerMs 3 ∧ t.ptp.mcastMs.2 = 0) ∧
    (let t := (((ptp 8 [] id id).ptpTime 0).ptpIn 3 31 1 (msg false)).1
     (t.pport 31).state ≠ 6) := by decide +kernel

/-- Peer delay: with an instance in two-step mode, and on a port without one. -/
theorem witness_ptp_peer :
    (∀ o ∈ [true, false], let s := ptp 6 [(2, 1), (14, 1)] (fun x => { x with pdreq := some (9, 3), pdresp := if o then some (9, 2, 1) else none }) id
     let u := s.ptpTime 0
     let t := (u.pdelayIn 31 2 (msg false)).1
     (u.pdelayIn 31 2 (msg false)).2 = some good ∧ t.extend (good.rx % 2 ^ 48) good.status = some 0 ∧ t.instOfPort 31 = some 3 ∧ t.ptpTwoStep 3 = true ∧
       ∀ f ∈ [false, true], let t := (u.pdelayIn 31 (if f then 0xA else 3) (msg false)).1
         (u.pdelayIn 31 (if f then 0xA else 3) (msg false)).2 = some good ∧ t.pdelayPort 31 = true ∧ (msg false).target = t.portIdentity 31 ∧
           (t.pport 31).pdreq = some ((msg false).seq, 3) ∧ (t.pport 31).pdresp = if o then some ((msg false).seq, 2, 1) else none) ∧
    (let u := ((ptp 6 [(5, 0)] id id).put 0x711F 3 1).ptpTime 0
     (u.pdelayIn 31 2 (msg false)).2 = some good ∧ u.instOfPort 31 = none) ∧
    (let u := (ptp 6 [] id id).ptpTime 0
     (u.pdelayIn 31 3 (msg false)).2 = some good ∧ (u.pdelayIn 31 3 (msg false)).1.pdelayPort 31 = false) := by
  decide +kernel

/-- A message of management, one of PTPv1, and none. -/
theorem witness_ptp_old : (∀ a ∈ [1, 2],
      ((ptp 8 [] id id).takeTerm (fun f => (ptp 8 [] id id).engsRun && f.service == 1 && (a != 2 || f.frame.mtype == 0xD))).2 =
        some (message 1 (if a = 2 then 0xD else 0))) ∧
    ∀ f ∈ (quiet up).yard.terminated, ((quiet up).engsRun && f.service == 1) = false := by decide +kernel

/-- What a port sends of itself. -/
theorem witness_ptp_sends :
    (let u := (ptp 6 [] id id).ptpTime 0
     u.ptpEnable 3 = true ∧ (u.pport 31).state = 6 ∧ u.sendsTo 3 0 0 = true ∧ u.ptpRole 3 ≠ 2 ∧ u.sendsTo 3 0 0xB = true) ∧
    (let u := (ptp 8 [] id id).ptpTime 0
     u.ptpEnable 3 = true ∧ u.peerDelay 3 = false ∧ (u.pport 31).state = 8) ∧
    ((ptp 6 [(2, 1)] id id).ptpTime 0).pdelayPort 31 = true ∧ (up.ptpTime 0).ptpEnable 3 = false ∧ (up.ptpTime 0).pdelayPort 31 = false ∧
    (ptp 6 [] id id).extend (5 % 2 ^ 48) 1 = some 5 := by decide +kernel

/-- Port 31 serves instance 3 in state 6 with negotiation, and asks for grants of its own. -/
def serving : State :=
  let s := ptp 6 [(2, 0), (15, 1)] id id
  { s with ptp := { s.ptp with grants := [⟨3, 5, 77, 0, 0, secs 9, 0⟩], upstream := [⟨3, 5, 0xB, 10, 0⟩] } }

theorem witness_grants :
    (let t := ((serving.ptpTime 0).ptpIn 3 31 0xC (msg false)).1
     ((serving.ptpTime 0).ptpIn 3 31 0xC (msg false)).2 = some good ∧ t.negotiates 3 = true ∧ t.ptpEnable 3 = true ∧ t.grantOf 3 5 77 0 ≠ none ∧
       t.grantOf 3 6 77 0 = none ∧ periodOk 0 5 = false ∧ periodOk 0 (-7) = true ∧ 9 < 10 ∧ 10 ≤ 10 ∧ t.grantOk ⟨0, 3, 31, 6, 77, 0, -7, 10⟩ = true) ∧
    (let u := (ptp 6 [] id id).ptpTime 0
     (u.ptpIn 3 31 0xC (msg false)).2 = some good ∧ (u.ptpIn 3 31 0xC (msg false)).1.negotiates 3 = false) ∧
    (let x : GrantReq := ⟨0, 3, 31, 6, 77, 0, -7, 10⟩
     let s (t : Nat) : State := ({ serving with ptp := { serving.ptp with batch := [x] } } : State).atTime t
     (s (millis 1)).ptp.batch = [x] ∧ x.ms < (s (millis 1)).ms ∧ ∀ r ∈ (s 0).ptp.batch, (s 0).ms ≤ r.ms) ∧
    (let u := ({ serving with gov := { serving.gov with level := 5, prev := (0, 5) } } : State).ptpTime 0
     u.grantOk ⟨0, 3, 31, 6, 77, 0, 0, 10⟩ = false) ∧
    (∃ t : State, t.standby = true) ∧
    (up.ptpTime 0).grantOf 3 5 77 0 = none ∧ (serving.ptpTime 0).grantOf 3 5 77 0 = some ⟨3, 5, 77, 0, 0, secs 9, 0⟩ ∧
    (serving.ptpTime (secs 9)).grantOf 3 5 77 0 = some ⟨3, 5, 77, 0, 0, secs 9, 0⟩ ∧ secs 9 ≤ (serving.ptpTime (secs 9)).tb.lc ∧ (serving.ptpTime 0).tb.lc < secs 9 ∧
    (up.ptpTime 0).ptp.upstream.find? (fun x => x.inst == 3 && x.addr == 5 && x.mtype == 0xB) = none ∧
    (∀ t ∈ [0, secs 5], (serving.ptpTime t).ptp.upstream.find? (fun x => x.inst == 3 && x.addr == 5 && x.mtype == 0xB) = some ⟨3, 5, 0xB, 10, 0⟩) ∧
    10 ≠ 0 ∧ 0 + secs 10 / 2 ≤ (serving.ptpTime (secs 5)).tb.lc ∧ (serving.ptpTime 0).tb.lc < 0 + secs 10 / 2 ∧
    (serving.ptpTime (secs 5)).upstreamPort 3 5 = some 31 ∧ ((ptp 6 [(5, 0)] id id).ptpTime 0).upstreamPort 3 5 = none :=
  ⟨by decide +kernel, by decide +kernel, by decide +kernel, by decide +kernel, ⟨up.put 0xB000 1 1, by decide +kernel⟩, by decide +kernel⟩

theorem witness_ptp_decisions :
    (((up.put 0x730F 8 1).ptpTime 0).saSwitchTai 15 ≠ 0 ∧ ((up.put 0x730F 8 1).ptpTime 0).tai < ((up.put 0x730F 8 1).ptpTime 0).saSwitchTai 15) ∧
    (let u := (({ up with tb := { up.tb with offset := 1000000000 } } : State).put 0x730F 8 1).ptpTime 0
     u.saSwitchTai 15 ≠ 0 ∧ (u.saSwitchTai 15 : Int) ≤ u.tai) ∧ (up.ptpTime 0).saSwitchTai 15 = 0 ∧ 15 < 16 ∧ 16 ≤ 16 ∧ 3 < 4 ∧ 4 ≤ 4 ∧
    (((ptp 5 [] id id).ptpTime 0).pport 31).state = 5 ∧ ((serving.ptpTime 0).pport 31).state ≠ 5 ∧ ((serving.ptpTime 0).inst 3).due = false ∧
    (let u := (ptp 6 [] id (fun x => { x with due := true, decidedAt := 65536 })).ptpTime 65536
     (u.inst 3).due = true ∧ 0 < (u.inst 3).decidedAt ∧ u.tb.lc < (u.inst 3).decidedAt + millis 1) ∧
    (∀ e ∈ [(0, 0), (0, 1), (1, 1)], let s := (ptp 6 [] id (fun x => { x with due := true })).put 0x7013 1 e.1
     let u := (if e.1 = e.2 then s else s.putLate 0x7013 1 e.2).ptpTime (millis 2)
     let x := (u.takeLate (u.ptpKey 3)).wakeTiming
     (u.inst 3).due = true ∧ (u.inst 3).decidedAt = 0 ∧ u.ptpEnable 3 = (e.1 == 1) ∧ x.ptpEnable 3 = (e.2 == 1)) := by decide +kernel

/-- A client's request to HOST_ADDR entry 0 on port 31. -/
def request (mode : Nat) (mac : Bool) : NtpReq := ⟨0, 31, 4, mode, 48, true, mac, 4, 0x0A000001, 6, 0, [], none⟩

/-- The NTP service on that address and port; `cap` is its capacity, and one bucket is empty. -/
def ntp (cap i : Nat) : State :=
  let s := ((((up.put 0x7800 1 1).put 0x7800 5 1).put 0x7800 4 (2 ^ 31)).put 0x7802 1 cap)
  { s with
    gov := { s.gov with level := 0, prev := (1, 0) }
    ntp := { s.ntp with buckets := [⟨i, 0, false, 0⟩] }
    yard := { s.yard with terminated := [question 1] } }

/-- What the fast path finds once it has taken the request's frame. -/
def taking (s : State) : State := ((s.atTime 0).takeTerm (fun x => (s.atTime 0).coreRuns && ntpTerm (request 3 false) x)).1

/-- The bucket that the request falls into. -/
def bucketOf : Nat := Config.sipHash 0 4 (0x0A000001 / 2 ^ (32 - 32)) % 1048576

/-- The state in which a request finds the service. -/
def found : State := taking (ntp 24000000 bucketOf)

theorem found_buckets : found.ntp.buckets = [⟨bucketOf, 0, false, 0⟩] := rfl

theorem found_index : found.bucketIndex 4 0x0A000001 = bucketOf := by
  have p : found.ntpPrefix4 = 32 ∧ found.ntp.hashEpoch = 0 := by decide +kernel
  unfold State.bucketIndex bucketOf
  rw [p.1, p.2, if_pos rfl]

theorem found_bucket : found.bucket bucketOf = ⟨bucketOf, 0, false, 0⟩ := by
  unfold State.bucket
  rw [found_buckets]
  simp

theorem found_refill : found.refill ⟨bucketOf, 0, false, 0⟩ = ⟨bucketOf, 0, false, 0⟩ := by
  have k : found.bucketTick = 0 := by decide +kernel
  simp [State.refill, k]

/-- A bucket without a token gives none. -/
theorem no_token (s : State) (r : NtpReq) (b : Bucket) (hb : s.bucket (s.bucketIndex r.family r.src) = b) (hr : s.refill b = b) (ht : b.tokens = 0) :
    (s.takeToken r).2 = false := by
  simp [State.takeToken, hb, hr, ht]

/-- That bucket is empty, and no token is taken. -/
theorem witness_no_token : (found.takeToken (request 3 false)).2 = false :=
  no_token found (request 3 false) ⟨bucketOf, 0, false, 0⟩ (by
    have e : found.bucketIndex (request 3 false).family (request 3 false).src = bucketOf := found_index
    rw [e, found_bucket]) found_refill rfl

theorem witness_ntp :
    (let q := taking ((ntp 0 0).put 0x7800 1 0)
     q.standby = false ∧ q.ntpEnable = false) ∧ (∀ x ∈ (up.atTime 0).yard.terminated, ((up.atTime 0).coreRuns && ntpTerm (request 3 false) x) = false) ∧
    (taking ((ntp 0 0).put 0xB000 1 1)).standby = true ∧
    (∀ cap ∈ [0, 24000000], let s : State := { ntp cap 0 with ntp := { (ntp cap 0).ntp with buckets := [] } }
      let u := s.atTime 0
      let q := taking s
      let r := request 3 false
      (u.takeTerm (fun x => u.coreRuns && ntpTerm r x)).2 = some (question 1) ∧ q.standby = false ∧ q.ntpEnable = true ∧ bit q.ntpAddrs r.host = true ∧
        bit q.ntpPorts r.port = true ∧ 48 ≤ r.len ∧ r.len ≤ 1024 ∧
        r.parses = true ∧ bit q.ntpVersions 1 = true ∧ r.version = 4 ∧ q.atDelivery 0 1 = 1 ∧ bit 1 0 = true ∧ bit 1 2 = false ∧ q.ntpLeapMode ≠ 1 ∧
        (q.takeToken r).2 = true ∧ ((q.takeToken r).1.ntpCharge r).2 = (cap != 0) ∧ ntsOf r = none ∧ ((q.takeToken r).1.ntpCharge r).1.ntsEnable = false) ∧
    (let q := (found.put 0x7800 4 0)
     bit q.ntpAddrs (request 3 false).host = true ∧ bit q.ntpPorts (request 3 false).port = false) ∧
    (request 1 false).mode ≠ 3 ∧ (request 3 true).mac = true ∧ bit (found.atDelivery 0 0) 0 = false := by decide +kernel

/-- A response that waits for its launch at the head of port 31's queue 7. -/
def waiting (tries : Nat) (l : Option (Nat × Nat)) (ready : Bool) : NtpPending :=
  ⟨⟨0, 0, 4, 1, 6, 0, 0, 0, 0, 0, 0, [], none, 1, 0⟩, 0, 0, 0, true, tries, l, ready⟩
def held (w : NtpPending) : Copy := { copy with own := some (.ntp w), timing := true, event := true }

/-- An NTS request in form, and one with a field out of place. -/
def sealedRequest (misplaced : Bool) : NtpReq :=
  { request 3 false with nts := some ⟨[32], [104], [], false, misplaced, true, 16, true, 3, 1, true, 15, true⟩ }

/-- Block 0 of the cookie keys is loaded under key ID 1, the mint ring holds 8 entries and one waits. -/
def minting : State :=
  let key : Slot := ⟨2, 1, 4, 2, 0, 0, 1, none⟩
  let s := ((((((up.put 0x7810 1 1).put 0x7810 2 64).put 0x7810 3 65).put 0x7820 2 8).setSlot 64 key).setSlot 65 key)
  { s with gov := { s.gov with level := 0, prev := (1, 0), unparked := 16 }, ntp := { s.ntp with mintProducer := 1, excQueue := [(sealedRequest false, 0, 1)] } }

theorem witness_nts :
    (∀ w ∈ [waiting 1 none false, waiting 1 (some (0, 5)) false, waiting 2 (some (0, 5)) false, waiting 0 (some (0, 5)) true],
      ((port31 2 0 [] [held w]).atTime 0).ntsHead 31 = some (held w, w) ∧
        (((port31 2 0 [] [held w]).atTime 0).dropHeads 31 255 1).ntsHead 31 = some (held w, w)) ∧
    ((up.atTime 0).dropHeads 31 255 0).ntsHead 31 = none ∧ up.coreRuns = true ∧ ((clocks 3 0).atTime 0).coreRuns = false ∧ (up.atTime 0).ntsHead 31 = none ∧
    (waiting 1 none false).launch = none ∧ 0 ≤ (up.atTime 0).tb.lc ∧ (up.atTime 0).tb.lc < 1 ∧ 2 ≤ (waiting 2 none false).tries ∧ (waiting 1 none false).tries < 2 ∧
    (minting.atTime 0).w2Runs = true ∧ ((clocks 0 0).atTime 0).w2Runs = false ∧ (minting.atTime 0).ntp.excQueue = (sealedRequest false, 0, 1) :: [] ∧
    ¬ (minting.atTime 0).ntsExcRate ≤ 0 ∧ ((minting.put 0x7802 5 0).atTime 0).ntsExcRate ≤ 0 ∧ (ntsOf (sealedRequest false)).isSome = true ∧
    (ntsOf (sealedRequest false)).all (fun e => up.ntsFormBut (sealedRequest false) e && !e.misplaced && decide (e.total ≤ 16)) = true ∧
    (ntsOf (sealedRequest true)).all (fun e => up.ntsFormBut (sealedRequest true) e && e.misplaced) = true ∧
    (up.put 0x7810 1 0).ntsNoKeys = true ∧ minting.ntsNoKeys = false ∧ (minting.put 0x7800 2 1).ntsEnable = true ∧
    (up.atTime 0).ntp.excQueue = [] := by decide +kernel

theorem witness_mint : (up.atTime 0).ntp.mintConsumer = (up.atTime 0).ntp.mintProducer ∧ (minting.atTime 0).w2Runs = true ∧
    (minting.atTime 0).ntsMintRingSize ≠ 0 ∧ (minting.atTime 0).ntp.mintConsumer ≠ (minting.atTime 0).ntp.mintProducer ∧ (minting.atTime 0).dict.pcieUp = true ∧
    16 ≠ 15 ∧ 16 ≠ 30 ∧ bit (minting.atTime 0).ntsAeads 0 = true ∧ bit (minting.atTime 0).ntsAeads 1 = true ∧ bit 0 0 = false ∧ bit 1 0 = true ∧
    (minting.put 0x7820 4 0xFFFF).ntsMintWrapSlot = 0xFFFF ∧ (minting.atTime 0).blockLoaded (minting.atTime 0).ntp.current = true ∧
    (up.atTime 0).blockLoaded (up.atTime 0).ntp.current = false ∧ (minting.atTime 0).ntpMs.ntp.operations + 8 ≤ (minting.atTime 0).ntsCapNow / 1000 ∧
    ((minting.put 0x7802 2 0).atTime 0).ntsCapNow / 1000 < ((minting.put 0x7802 2 0).atTime 0).ntpMs.ntp.operations + 1 := by
  decide +kernel

/-- A supply of 1 mW, at level `l`, with 5 ms since the last change. -/
def supplied (l : Nat) : State :=
  let s := up.put 0x8C00 1 1
  { s with gov := { s.gov with level := l, settle := 1, raised := some (3, 7) } }

theorem witness_governor : ({ up with start := { up.start with inReset := true } } : State).start.inReset = true ∧
    ((supplied 6).atTime 0).start.porHeld = false ∧ ((supplied 6).atTime 0).start.inReset = false ∧
    (let t := ((supplied 6).atTime 0).coldStep.govInput 1000 0 true
     t.gov.headroom < 0 ∧ t.gov.level < 7 ∧ t.gov.settle ≤ 1) ∧
    (let u : State := { supplied 6 with gov := { (supplied 6).gov with headroom := -1 } }
     u.gov.headroom < 0 ∧ u.gov.level < 7) ∧ up.gov.level ≤ 7 ∧ (supplied 6).gov.raised = some (3, 7) ∧ up.gov.raised = none := by
  decide +kernel

/-! ## Witnesses: vault, access paths -/

/-- Slot 511 has a shadow staged at 0; session 5 is ticketed to second 0, and the debug port is unlocked; the time is set. -/
def staged : State :=
  let s := desk.setSlot 511 { ownKey with shadow := some (1, 2, 0) }
  { s with
    tb := { s.tb with offset := 1000000000 }
    vault := { s.vault with unsealed := true }
    access := { s.access with jtag := 2, sessions := [{ sess 5 .field with ticketed := true }] } }

/-- Tamper source 7 has latched before. -/
def tampered : State :=
  { staged with vault := { staged.vault with latch := true, onBattery := true, records := [⟨1, 128, 0, 1, 0, 0xFFFF, 0⟩] } }

theorem witness_vault_events : ((staged.atTime (secs 60)).slot 511).shadow = some (1, 2, 0) ∧ 0 + secs (staged.atTime (secs 60)).vaultStageTimeout ≤ (staged.atTime (secs 60)).tb.lc ∧
    (staged.atTime 0).tb.lc < 0 + secs (staged.atTime 0).vaultStageTimeout ∧ 8 ≤ 8 ∧ (staged.atTime 0).tamperEnabled 0 = false ∧
    (∀ src ∈ [5, 7], src < 8 ∧ (staged.atTime 0).tamperEnabled src = true ∧ (staged.atTime 0).start.porHeld = false) ∧
    (let w := (tampered.atTime 0).aonAt 9
     w.vault.latch = true ∧ w.vault.records = ⟨1, 128, 0, 1, 0, 0xFFFF, 0⟩ :: []) ∧
    (let w := (staged.atTime 0).aonAt 9
     let v := ({ w with vault := { w.vault with alarms := setBit w.vault.alarms 7 true } } : State).tamperRecord (2 ^ 7) 2 0xFFFF 0
     w.vault.latch = false ∧ w.start.sleep = false ∧ w.vault.keyOp = none ∧ w.vault.unsealed = true ∧ w.vault.jobs = [] ∧
       (({ v with vault := { v.vault with latch := true } } : State).tamperWipe).start.porHeld = false) ∧
    (tampered.atTime 0).vault.onBattery = true ∧ (staged.atTime 0).vault.onBattery = false ∧ ((staged.put 0xA500 1 0).atTime 0).tamperEnabled 5 = false ∧
    ((staged.atTime (secs 300)).session 5).map (·.lastReq) = some 0 ∧ 0 + secs (staged.atTime (secs 300)).authIdle ≤ (staged.atTime (secs 300)).tb.lc ∧
    (staged.atTime 0).tb.lc < 0 + secs (staged.atTime 0).authIdle ∧ ((staged.atTime 0).session 5).map (·.ticketed) = some true ∧ (0 : Int) < (staged.atTime 0).tai ∧
    ((desk.atTime 0).session 5).map (·.ticketed) = some false ∧ (up.atTime 0).session 5 = none ∧ (up.atTime 0).jtagState = 0 ∧ (staged.atTime 0).jtagState ≠ 0 := by
  decide +kernel

/-- The other moments of an alarm, a latch without a record, and a vault with cloaking keys. -/
theorem witness_tamper_moments :
    (∀ c ∈ [(up, 1), (staged, 2), ({ staged with start := { staged.start with sleep := true } }, 3)],
      let w : State := (c.1.atTime 0).aonAt 9
      let w : State := { w with vault := { w.vault with alarms := setBit w.vault.alarms 7 true } }
      let m := w.tamperMoment
      let v := w.tamperRecord (2 ^ 7) m.1 m.2.1 m.2.2
      w.vault.latch = false ∧ m.1 = c.2 ∧ (({ v with vault := { v.vault with latch := true } } : State).tamperWipe).start.porHeld = false) ∧
    (let s : State := { staged with start := { staged.start with porHeld := true } }
     let w := (s.atTime 0).aonAt 9
     let v := w.tamperRecord (2 ^ 7) 1 0xFFFF 0
     (s.atTime 0).start.porHeld = true ∧ w.tamperMoment.1 ≠ 3 ∧ (({ v with vault := { v.vault with latch := true } } : State).tamperWipe).start.porHeld = true) ∧
    (let w := (({ staged with vault := { staged.vault with latch := true } } : State).atTime 0).aonAt 9
     w.vault.latch = true ∧ w.vault.records = []) ∧
    up.vault.cloak = none ∧ ({ up with vault := { up.vault with cloak := some ⟨1, 2, 3, true⟩ } } : State).vault.cloak = some ⟨1, 2, 3, true⟩ ∧
    ((staged.atTime 0).session 5).map (·.notAfter) = some 0 ∧ (up.atTime 0).tai ≤ 0 := by
  decide +kernel

/-- A plain request envelope on the BAR2 mailbox: sequence number 3, a read of 0x1018:01. -/
def envelope (dir : Nat) : Envelope := ⟨0, dir, 3, true, 1, 0x1018, 1, 0, 0⟩

/-- Every path is open: both CAN controllers run, one with a transfer, MSP waits, and Esxia takes requests on address 0 and port 31. -/
def paths (transfer rdy : Bool) : State :=
  let s := ((((desk.put 0x1E30 1 1).put 0x1E30 3 1).put 0x1E30 4 (2 ^ 31)))
  { s with dict := { s.dict with
      can := [{ Can.init 0 with state := 1, transfer := transfer }, { Can.init 1 with state := 1, transfer := transfer }]
      mspRdy := rdy } }

/-- A request on Esxia. -/
def esxia (n : Nat) : Acc := { plain .esxia n with port := 31 }

theorem witness_envelopes : State.reset.pathUp .pcie = false ∧ desk.pathUp .pcie = true ∧
    (desk.arrive (plain .pcie 20)).firstChecks (plain .pcie 20) ⟨defaultRole (plain .pcie 20).path, false⟩ 0x1030 1 0 true = 0 ∧
    (envelope 0).session = 0 ∧ (envelope 0).dir ≠ 1 ∧ (envelope 1).dir = 1 ∧ (plain .pcie 20).path ≠ .esxia ∧
    ((desk.onPath .pcie (fun p => { p with seq := some 3 })).pathState (plain .pcie 20).path).seq = some (envelope 1).seq ∧
    19 < 20 ∧ 20 ≤ 20 ∧ 1072 ≤ 1072 ∧ 1072 < 1073 := by decide +kernel

theorem witness_serial_paths : (∀ c ∈ [0, 1], ((paths true false).atTime 0).canOn c = true ∧ (((paths true false).atTime 0).canOf c).transfer = true ∧
      ((paths true false).atTime 0).pathUp (if c = 0 then .canA else .canB) = true ∧ (((paths false false).atTime 0).canOf c).transfer = false ∧
      (if c = 0 then Path.canA else Path.canB) = Path.can c ∧ ((paths true false).atTime 0).canHeartbeat c ≠ 0) ∧
    ((({ desk with dict := { desk.dict with can := [{ Can.init 0 with state := 3 }, Can.init 1] } } : State).atTime 0).canOf 0).state = 3 ∧
    ((up.atTime 0).canOf 0).state ≠ 3 ∧ (up.atTime 0).canOn 0 = false ∧ (((paths true false).put 0x1E00 6 0).atTime 0).canHeartbeat 0 = 0 ∧
    (let s := ({ paths true true with start := { up.start with agent := false } } : State).atTime 0
     s.canOn 0 = true ∧ (s.canOf 0).transfer = true ∧ s.pathUp .canA = false ∧ (s.mspBegin false).dict.mspRdy = true ∧ (s.mspBegin false).pathUp .msp = false) ∧
    (((paths true true).atTime 0).mspBegin false).dict.mspResult = none ∧
    (let s := paths true true
     (({ s with dict := { s.dict with mspResult := some (0, 1, 5) } } : State).mspBegin false).dict.mspResult = some (0, 1, 5)) ∧
    (desk.arrive (plain .pcie 20)).firstChecks { plain .pcie 20 with len := 2000 } ⟨defaultRole .pcie, false⟩ 0x1030 1 0 true ≠ 0 ∧
    (((paths true false).atTime 0).mspBegin false).dict.mspRdy = false ∧ (((paths true true).atTime 0).mspBegin false).dict.mspRdy = true ∧
    (((paths true true).atTime 0).mspBegin false).pathUp .msp = true ∧ 0x1018 ≠ 0x1030 := by decide +kernel

theorem witness_host_paths : (State.reset.atTime 0).dict.pcieUp = false ∧ (desk.atTime 0).dict.pcieUp = true ∧ (desk.atTime 0).agentUp = true ∧
    0x1018 = (0x1018 * 2048 + 8) / 2048 ∧ 1 = (0x1018 * 2048 + 8) % 2048 / 8 ∧ (0x1018 * 2048 + 8) % 8 = 0 ∧
    (desk.atTime 0).firstChecks (plain .pcie 4) ⟨.host, false⟩ 0x1018 1 0 false = 0 ∧ barWidthOk 0x1018 1 8 = false ∧ barWidthOk 0x1018 1 4 = true ∧
    ((desk.atTime 0).accessRead (plain .pcie 4) 0x1018 1).2.1 = 0 ∧ (State.reset.atTime 0).pathUp .pcie = false ∧ (desk.atTime 0).pathUp .pcie = true ∧
    barWidthOk 0xC003 1 2 = true ∧ (desk.atTime 0).paddockSize * 1048576 < 0 + 1 ∧
    (let u := ((paddock.put 0x8010 8 1).atTime 0)
     u.dict.pcieUp = true ∧ u.tackHostAccess = true ∧ 1048575 + 1 ≤ u.paddockSize * 1048576 ∧ u.start.paddockWipe = false ∧ u.start.dramStatus = 2) ∧
    (up.atTime 0).dict.dma = none ∧ ({ up with dict := { up.dict with dma := some (1, 0, 64, 0) } } : State).dict.dma ≠ none ∧
    (up.atTime 0).start.porHeld = false ∧
    (let s := ({ desk with start := { desk.start with agent := false } } : State).atTime 0
     s.dict.pcieUp = true ∧ s.agentUp = false) ∧
    indexExists 0x1018 = true ∧ (0x1018 * 2048 + 9) % 8 ≠ 0 ∧ indexExists 0x0FFF = false ∧
    (desk.atTime 0).firstChecks (plain .pcie 4) ⟨.host, false⟩ 0x0FFF 1 0 false ≠ 0 ∧ findObj 0x0FFF 1 = none ∧ findObj 0xC003 1 ≠ none ∧ barWidthOk 0xC003 1 8 = false ∧
    (let u := ({ paddock.put 0x8010 8 1 with start := { desk.start with paddockWipe := true } } : State).atTime 0
     u.dict.pcieUp = true ∧ u.tackHostAccess = true ∧ 1048575 + 1 ≤ u.paddockSize * 1048576 ∧ u.start.paddockWipe = true) := by decide +kernel

theorem witness_esxia : ((up.atTime 0).esxiaIn (esxia 20) true).2 = false ∧ (((paths false false).atTime 0).esxiaIn (esxia 20) true).2 = true ∧
    (let t := (((paths false false).atTime 0).esxiaIn (esxia 20) true).1
     let t : State := { t with access := { t.access with sessions := [{ sess 4 .maker with path := .esxia }] } }
     (t.sealedIn (esxia 20) { envelope 1 with session := 4 } false).2.1 = 0 ∧ ((t.sealedIn (esxia 20) { envelope 1 with session := 4 } false).2.2).isSome = true ∧
       (t.sealedIn (esxia 20) { envelope 1 with session := 4, op := 2, idx := 0xA800, sub := 4, len := 1, value := 4 } false).2 = (0, none) ∧
       (t.sealedIn (esxia 20) { envelope 1 with session := 6 } false).2.1 ≠ 0) ∧
    (up.atTime 0).dict.saving = none ∧ ({ up with dict := { up.dict with saving := some [] } } : State).dict.saving = some [] := by decide +kernel

/-! ## Witnesses: the pair and the domain -/

/-- Slot 500 holds the pair's and slot 501 the domain's key, in life-cycle state FIELD; the peer's serial number is 9, and SC0 runs. -/
def pairUp (f : Pair → Pair) : State :=
  let s := (((desk.put 0xB000 1 1).put 0xB000 4 500).put 0xB000 5 9)
  let s := (s.setSlot 500 ⟨2, 4, 6, 6, 0, 0, 3, none⟩).setSlot 501 ⟨2, 4, 6, 7, 0, 0, 4, none⟩
  { s with
    vault := { s.vault with lc := .field }, net := { s.net with peerActive := 0, peers := List.replicate 2 { PeerLane.init with state := 5 } }
    tb := { s.tb with utcValid := true }
    engs := { s.engs with eng := List.replicate 36 { Eng.init with status := .firmware } }
    pair := f { s.pair with keys := true, configMatch := true, peer := some ⟨9, 3, false, 1, 4, true, true, 0, 0, true⟩ } }

/-- A handoff from this part or to it. -/
def handing (rel com : Bool) : Handoff := ⟨rel, 0, 5, true, com, false, true, true, 0⟩

theorem witness_pair_messages : ((pairUp id).atTime 0).pair.keys = true ∧ ((pairUp id).atTime 0).pair.pseqIn = none ∧ (((pairUp id).atTime 0).peerIn 1 false).2 = false ∧
    (((pairUp id).atTime 0).peerIn 1 true).2 = true ∧ ((up.atTime 0).peerIn 1 true).2 = false ∧ (up.atTime 0).mayPair = false ∧
    ((pairUp (fun p => { p with lease := true })).atTime 0).mayPair = true ∧ ((pairUp id).atTime 0).pairPeerSerial = 9 ∧
    (((pairUp (fun p => { p with pseqIn := some 5 })).atTime 0).peerIn 5 true).2 = false ∧ (((pairUp (fun p => { p with pseqIn := some 5 })).atTime 0).peerIn 6 true).2 = true ∧
    (let t := (((pairUp id).atTime 0).peerIn 1 true).1
     t.pair.lease = false ∧ (t.chan 0x1F).lastStamp = none ∧ (t.pair.snapBuf.filter (·.epoch == 7)).length ≠ 1) ∧
    (let t := (((pairUp (fun p => { p with lease := true, handoff := some { handing true false with accepted := false } })).atTime 0).peerIn 1 true).1
     t.pair.lease = true ∧ t.pair.handoff = some { handing true false with accepted := false } ∧ (handing true false).releaser = true) ∧
    (let s := pairUp (fun p => { p with lease := true })
     let t := ((({ s with tiu := List.replicate 32 { Tiu.init with lastStamp := some 5 } } : State).atTime 0).peerIn 1 true).1
     t.pair.lease = true ∧ (t.chan 0x1F).lastStamp = some 5 ∧ (t.chan 0x1D).lastStamp = some 5 ∧ t.net.peerActive ≠ 0xFF) ∧
    (let t := (((pairUp (fun p => { p with handoff := some (handing false false) })).atTime 0).peerIn 1 true).1
     t.receiving = true ∧ t.releasing = false) ∧
    (let t := (((pairUp (fun p => { p with lease := true, handoff := some (handing true false) })).atTime 0).peerIn 1 true).1
     t.releasing = true) := by decide +kernel

/-- An empty snapshot whose digest is that of no section. -/
theorem witness_snapshot : (∀ x ∈ [none, some 0], let t := (((pairUp (fun p => { p with snapTime := x, snapEpoch := 6 })).atTime 0).peerIn 1 true).1
    t.pair.lease = false ∧ (t.pair.snapBuf.filter (·.epoch == 7)).length = 0 ∧ (([] : List SnapSection).map (·.len)).sum = 0 ∧ t.pair.snapTime = x ∧ t.pair.snapEpoch = 6) ∧
    ∃ d, Config.sha384 (([] : List SnapSection).map (·.content)) = d :=
  ⟨by decide +kernel, _, rfl⟩

/-- The servo follows the peer, and both markers of the last second were stamped. -/
def following (susp sw : Bool) : State :=
  let s := pairUp (fun p => { p with following := true })
  { s with tiu := List.replicate 32 { Tiu.init with lastStamp := some 5 }, servo := { s.servo with suspended := susp }, sel := { s.sel with switching := if sw then some (0xFF, 0) else none } }

theorem witness_following : ∀ susp ∈ [true, false], ∀ sw ∈ [true, false],
    let t := (((following susp sw).atTime 0).peerIn 1 true).1
    (t.ownMarker).isSome = true ∧ t.net.peerActive ≠ 0xFF ∧ t.servo.suspended = susp ∧ t.pair.following = true ∧ t.switchingNow = sw := by decide +kernel

/-- A ready standby: aligned on the last 16 exchanges, with a snapshot. -/
def ready : State :=
  pairUp (fun p => { p with state := .ready, readySince := some 0, thetas := List.replicate 16 0, snapTime := some 0, preferred := true })

theorem witness_standby : (let t := ((ready.atTime 0).peerIn 1 true).1
     t.pair.lease = false ∧ t.judge.pair.state = .ready ∧ t.pair.fit = true ∧ t.handoffOwn 5 = true) ∧
    (let t := ((({ ready with tb := { ready.tb with utcValid := false } } : State).atTime 0).peerIn 1 true).1
     t.pair.lease = false ∧ t.handoffOwn 5 = false) ∧
    (let u := ready.atTime (secs 300)
     u.pairRevertive = true ∧ u.pair.preferred = true ∧ u.pair.state = .ready ∧ u.pair.fit = true ∧ u.pair.readySince = some 0 ∧
       0 + secs u.returnHold ≤ u.tb.lc ∧ u.pair.lastScheduled = false ∧ u.pair.keys = true) ∧
    ((pairUp id).atTime 0).pair.preferred = false ∧
    (let u := (pairUp (fun p => { p with state := .diag })).atTime 0
     u.pair.state = .diag ∧ u.pair.keys = true) ∧ (up.atTime 0).pair.state ≠ .diag := by decide +kernel

theorem witness_halter :
    (let u := (pairUp (fun p => { p with lease := true, renewFailed := true })).atTime 0
     u.takePair.pairEnable = true ∧ u.takePair.pair.lease = true ∧ u.takePair.sc0Runs = true ∧ u.pair.renewFailed = true ∧ u.releasing = false ∧ u.sanctioned = false) ∧
    (pairIn (fun p => { p with lease := true })).yieldCause = false ∧
    (let u := ((pairUp (fun p => { p with lease := true })).onEng 32 (fun g => { g with status := .inReset })).atTime 0
     u.takePair.pairEnable = true ∧ u.takePair.pair.lease = true ∧ u.takePair.sc0Runs = false) ∧
    (up.atTime 0).takePair.pairEnable = false ∧ ((pairUp id).atTime 0).takePair.pair.lease = false ∧ ((pairUp id).atTime 0).takePair.pairEnable = true ∧
    (let u := ({ pairUp (fun p => { p with lease := true, handoff := some (handing true false) }) with tb := { desk.tb with offset := 5000000000 } } : State).atTime 0
     u.sanctioned = true ∧ u.pair.lease = true ∧ u.pair.handoff ≠ none) ∧
    (let u := (pairUp (fun p => { p with lease := true })).atTime 0
     u.pair.renewFailed = false) ∧
    (let u := ((pairUp (fun p => { p with lease := true })).put 0xB000 9 1).atTime 0
     u.yieldCause = true ∧ u.pair.handoff = none ∧ u.pair.lease = true) ∧
    (let u := ((((pairUp (fun p => { p with lease := true })).put 0xB001 1 1).put 0xB001 3 86400).atTime (secs 4000))
     u.pair.lease = true ∧ u.swapOld = true ∧ u.inWindow u.tai = true ∧ u.pair.handoff = none ∧ u.pair.swapTry = none ∧ bit (withheld u.gov.level) 4 = true) ∧
    (let s := (((pairUp (fun p => { p with lease := true })).put 0xB001 1 1).put 0xB001 3 86400)
     let u := ({ s with gov := { s.gov with level := 0 } } : State).atTime (secs 4000)
     u.pair.lease = true ∧ u.swapOld = true ∧ u.inWindow u.tai = true ∧ u.pair.handoff = none ∧ u.pair.swapTry = none ∧ bit (withheld u.gov.level) 4 = false) ∧
    ((pairUp (fun p => { p with lease := true })).atTime 0).swapOld = false ∧
    (let q := ((pairUp (fun p => { p with release := some 0 })).atTime (secs 1)).takeLease
     q.pairEnable = true ∧ q.pair.lease = false ∧ q.pairHoldStandby = false ∧ q.receiving = false ∧ q.releaseClaim = true) ∧
    (let q := ((pairUp (fun p => { p with preferred := true })).atTime (secs 1)).takeLease
     q.pairEnable = true ∧ q.silentClaim = true ∧ q.pair.lease = false ∧ q.pairHoldStandby = false ∧ q.receiving = false) ∧
    (let q := ((pairUp id).atTime 0).takeLease
     q.releaseClaim = false ∧ q.silentClaim = false ∧ q.pair.lease = false ∧ q.pairEnable = true ∧ q.pairHoldStandby = false ∧ q.receiving = false) ∧
    (up.atTime 0).takeLease.pairEnable = false ∧
    ((pairUp id).atTime (secs 1)).leavePeer.pair.state ≠ .isolated ∧
    (let u := (pairUp id).atTime 0
     1 < 2 ∧ u.net.peerActive ≠ 1 ∧ u.net.peerActive = 0 ∧ u.peerUp (1 - 0) = true) := by decide +kernel

/-- Handoffs at each of their points. -/
theorem witness_handoff :
    (let u := (pairUp (fun p => { p with handoff := some (handing false true) })).atTime 0
     u.receiving = true ∧ u.sanctioned = true ∧ u.pair.lease = false ∧ u.pairHoldStandby = false ∧ u.pair.handoff = some (handing false true)) ∧
    (let u := (pairUp (fun p => { p with lease := true, handoff := some (handing false false) })).atTime (secs 1)
     u.pair.handoff = some (handing false false) ∧ u.pair.lease = true ∧ ((handing false false).th : Int) ≤ u.tai ∧
       ((handing false false).th : Int) * 65536000000000 + millis u.pair.leaseMs ≤ u.full ∧ (handing false false).pulse + millis u.pair.leaseMs ≤ u.tb.lc) ∧
    (let u := (pairUp (fun p => { p with handoff := some { handing false false with claimed := true, cancelled := true } })).atTime 0
     u.pair.handoff = some { handing false false with claimed := true, cancelled := true } ∧ u.pair.lease = false) ∧
    (let u := (pairUp (fun p => { p with handoff := some { handing false false with claimed := false } })).atTime 0
     u.pair.handoff = some { handing false false with claimed := false }) ∧
    (∀ com ∈ [true, false], let u := (pairUp (fun p => { p with lease := true, handoff := some (handing true com) })).atTime 0
     u.pair.lease = true ∧ u.pair.handoff = some (handing true com) ∧ (handing true com).committed = com) ∧
    (let u := (pairUp (fun p => { p with lease := true, handoff := some { handing true false with fullSent := false } })).atTime 0
     u.releasing = true ∧ u.pair.handoff = some { handing true false with fullSent := false }) ∧
    (let u := (pairUp (fun p => { p with lease := true, handoff := some (handing true false) })).atTime 0
     u.releasing = true ∧ u.tb.lc ≤ (handing true false).pulse + millis u.pair.leaseMs / 4 ∧ u.pair.peer.any (fun p => p.epoch == u.pair.outEpoch && p.aligned) = true) := by decide +kernel


/-- The peer link with lane `a` active and both lanes in state `st`. -/
def peerLink (a st : Nat) (f : Pair → Pair) : State :=
  let s := pairUp f
  { s with net := { s.net with peerActive := a, peers := List.replicate 2 { PeerLane.init with state := st } } }

theorem witness_peer_lanes :
    (let u := (peerLink 1 5 id).atTime 0
     u.net.peerActive = 1 ∧ (u.beginPeer 1).peerUp (1 - 1) = true) ∧
    (let u := (peerLink 1 1 id).atTime 0
     (u.beginPeer 1).peerUp (1 - 1) = false) ∧
    (∀ a ∈ [0xFF, 0], let u := ((peerLink a 4 (fun p => { p with lease := true })).onPeer 1 (fun x => { x with swept := true })).atTime 0
     let v := (u.onPeer 1 (fun q => { q with state := 5, upAt := u.tb.lc })).clearFault 0x0904 1
     bit u.peerLaneEnable 1 = true ∧ (u.peerLane 1).state = 4 ∧ (u.peerLane 1).swept = true ∧ v.net.peerActive = a ∧ v.pairEnable = true ∧ v.pair.lease = true) ∧
    ((peerLink 0 4 id).atTime 0).net.peers.all (fun x => !x.swept) = true ∧ 2 ≤ 2 := by decide +kernel

/-- Domain 7 under key slot 501: this part manages it (role 1) or works as number 6 under managers 9 and 10 (role 2). -/
def domain (role : Nat) (f : Domain → Domain) : State :=
  let s := (((((((pairUp id).put 0xB000 1 0).put 0xB800 1 role).put 0xB800 2 7).put 0xB800 3 501).put 0xB800 5 (9 + 10 * 2 ^ 32)).put 0xB800 7 6).put 0x1E30 1 1
  { s with domain := f s.domain }

/-- A worker that has joined. -/
def joined : Worker := ⟨6, 77, 3, 0, 0, 0, 2, 0, none, 0, some (8, 9), 0⟩

/-- A claim of one hop. -/
def claim : Claim := ⟨5, 1, [⟨1, 5, 0, 0, 0⟩], false, 0⟩

/-- A policy entry that is accepted: INDEX, SUB, LEN and VALUE. -/
def goodEntry : Nat × Nat × Nat × Nat := (0x3100, 2, 1, 5)

theorem witness_domain :
    ((up.atTime 0).domainArrives 1).2 = false ∧ (up.atTime 0).mayDomain = false ∧
    (let u := (domain 1 (fun d => { d with workers := [joined] })).atTime 0
     let t := (u.domainArrives 1).1
     (u.domainArrives 1).2 = true ∧ u.managing = true ∧ u.engsRun = true ∧ t.managing = true ∧ t.joinResult 8 6 77 3 ≠ 0 ∧ t.joinResult 7 6 77 3 = 0 ∧
       7 = t.domainId ∧ 8 ≠ t.domainId ∧ 4095 < 4096 ∧ t.worker 5 = none ∧ t.worker 6 = some joined ∧ (t.fromWorker 5 1 true).2 = none ∧
       ((t.fromWorker 6 1 true).2).isSome = true ∧ t.domainRole ≠ 2 ∧ t.joinsNow < t.domainJoinRate ∧ joined.serial = 77 ∧ t.joinResult 7 6 78 3 = 2 ∧
       joined.heard + millis u.domainLossTime ≤ (u.atTime (secs 4)).tb.lc ∧ u.tb.lc < joined.heard + millis u.domainLossTime ∧ u.worker 6 = some joined ∧
       u.worker 5 = none) ∧
    (let u := (domain 1 (fun d => { d with workers := [{ joined with dseqIn := some 5 }], joins := 200, joinSecond := 0 })).atTime 0
     let t := (u.domainArrives 1).1
     t.managing = true ∧ t.worker 6 = some { joined with dseqIn := some 5 } ∧ (t.fromWorker 6 5 true).2 = none ∧ t.domainJoinRate ≤ t.joinsNow) ∧
    (let u := (domain 2 (fun d => { d with state := 4 })).atTime 0
     let t := (u.domainArrives 1).1
     u.working = true ∧ u.engsRun = true ∧ u.domain.session = false ∧ u.domain.state = 4 ∧ (u.domainArrives 1).2 = true ∧ t.domain.state = 4) ∧
    (up.atTime 0).domain.session = false := by decide +kernel

/-- A worker: joining, refused for good, and joined. -/
theorem witness_domain_worker :
    (let u := (domain 2 id).atTime 0
     let t := (u.domainArrives 1).1
     (u.domainArrives 1).2 = true ∧ u.working = true ∧ u.engsRun = true ∧ u.domain.session = false ∧ u.domain.state ≠ 4 ∧ t.working = true ∧
       t.domain.session = false ∧ t.domain.state ≠ 4 ∧ 5 ≠ t.workerNumber ∧ 6 = t.workerNumber ∧ 9 = fld t.domainManagerSerials 0 4 ∧
       10 = fld t.domainManagerSerials 4 4 ∧ (t.fromManager 1 true).2 = false) ∧
    (let u := ((domain 2 (fun d => { d with session := true })).put 0xB800 8 255).atTime 0
     let t := (u.domainArrives 1).1
     (u.domainArrives 1).2 = true ∧ u.domain.session = true ∧ (t.fromManager 1 true).2 = true ∧ t.domainRole = 2 ∧
       claimOk { claim with auth := true, rx := (t.fromManager 1 true).1.tb.lc } = true ∧
       claimOk { claim with girth := 6, auth := true, rx := (t.fromManager 1 true).1.tb.lc } = false ∧
       (t.fromManager 1 true).1.agentUp = true ∧ (t.fromManager 1 true).1.bootHalted = false ∧ (t.fromManager 1 true).1.domain.session = true ∧
       u.domain.heard + millis u.domainLossTime ≤ (u.atTime (secs 4)).tb.lc ∧ u.tb.lc < u.domain.heard + millis u.domainLossTime ∧
       (t.fromManager 1 true).1.policyCode 1 0 (0xA820, 1, 4, 5) ≠ 0 ∧ (t.fromManager 1 true).1.policyCode 1 0 goodEntry = 0) ∧
    (let u := (domain 2 (fun d => { d with session := true, dseqIn := some 5 })).atTime 0
     let t := (u.domainArrives 1).1
     (t.fromManager 5 true).2 = false ∧ (t.fromManager 6 true).2 = true) := by decide +kernel

/-! ## Witnesses: faults and start-up -/

/-- A reset in progress with the calibration table's root present. -/
def resetting (f : State → State) : State := f { up with start := { up.start with inReset := true } }

theorem witness_faults : faultClass 0xFFFF = none ∧ ({ up with start := { up.start with porHeld := true } } : State).start.porHeld = true ∧
    (let s := resetting (fun s => { s with faults := { s.faults with held := [(0x0001, noInst, 0)] } })
     ∃ h ∈ s.faults.held, h.1 = 0x0001 ∧ h.2.1 = noInst) ∧ resetting id = { up with start := { up.start with inReset := true } } ∧ (resetting id).faults.held = [] ∧
    (let u := ({ up with faults := { up.faults with handling := some (0x0101, 0) } } : State)
     u.faults.handling.map (·.1) = some 0x0101 ∧ (u.atTime 0).tb.lc ≤ (u.atTime 0).faults.handledAt + millis (u.atTime 0).faultHandleMax ∧
       (u.atTime (secs 1)).faults.handledAt + millis (u.atTime (secs 1)).faultHandleMax < (u.atTime (secs 1)).tb.lc) ∧
    faultClass 0x0F01 = some 3 ∧ (resetting id).start.inReset = true ∧ (resetting id).start.porHeld = false ∧ faultClass 0x0101 = some 0 ∧
    isLevel 0x0101 = false ∧ isLevel 0x0001 = true ∧ faultClass 0x0001 = some 2 ∧
    (0x0001, noInst) ∈ ({ up with faults := { up.faults with levels := [(1, noInst)] } } : State).faults.levels ∧ (0x0001, noInst) ∉ up.faults.levels ∧
    up.faults.handling = none ∧ (({ up with faults := { up.faults with handling := some (1, 0) } } : State).faults.handling.map (·.1)) = some 1 ∧
    (up.atTime 0).evlogSize = 0 ∧ (let u := (up.put 0xC010 2 1024).atTime 0
     u.dramReady = true ∧ u.evlogSize ≠ 0 ∧ u.engsRun = true ∧ u.start.agent = true) := by decide +kernel

/-- Both halves of the flash hold a bundle, that of half B the newer. -/
def bundles : State := { up with start := { up.start with bundleBInfo := some ⟨true, 1, 2⟩, porHeld := true } }

theorem witness_boot : (bundles.atTime 0).start.porHeld = true ∧ up.start.porHeld = false ∧ bundles.bundleValid (bundles.bundle bundles.preferB) = true ∧
    (bundles.atTime 0).drawCloak.vault.cloak.isSome = true ∧ up.bundleValid (up.bundle (!up.preferB)) = false ∧
    (let u := ({ up with start := { up.start with state := .boot, bootDone := false } } : State).atTime 0
     u.start.state = .boot ∧ u.start.bootDone = false ∧ u.start.inReset = false ∧ u.bootHalted = false) ∧ (up.atTime 0).start.state ≠ .boot ∧
    bundles.bundleValid (bundles.bundle (!bundles.preferB)) = true ∧
    (let t : State := { up with start := { up.start with bundleA := none } }
     t.bundleValid (t.bundle t.preferB) = false) ∧ ({ up with start := { up.start with haltBundle := true } } : State).start.haltBundle = true ∧
    up.start.haltBundle = false ∧ (up.atTime 0).start.inReset = false ∧ ((resetting id).atTime 0).start.inReset = true ∧
    (((resetting (fun s => { s with start := { s.start with bundleA := none } })).atTime 0).drawCloak.bootBundle false).start.haltBundle = true ∧
    (let t := ((resetting id).atTime 0).drawCloak.bootBundle false
     t.start.haltBundle = false ∧ (t.readCal true).f3LimitHit = false ∧ (t.readCal true).vault.latch = false) ∧
    (let t := ((resetting (fun s => { s with vault := { s.vault with latch := true } })).atTime 0).drawCloak.bootBundle false
     t.start.haltBundle = false ∧ (t.readCal true).f3LimitHit = false ∧ (t.readCal true).vault.latch = true) ∧
    (let t := ((resetting (fun s => { s with start := { s.start with cause := 5 }, faults := { s.faults with f3Resets := List.replicate 16 0 } })).atTime 0).drawCloak.bootBundle false
     t.start.haltBundle = false ∧ (t.readCal true).f3LimitHit = true) := by decide +kernel

theorem witness_startup : (up.atTime 0).start.dramStatus ≠ 1 ∧ ({ up with start := { up.start with dramStatus := 1 } } : State).start.dramStatus = 1 ∧
    (let u := ({ up with start := { up.start with paddockWipe := true } } : State)
     u.start.paddockWipe = true ∧ u.start.dramStatus = 2) ∧ up.start.paddockWipe = false ∧
    (let u := ({ up with start := { up.start with state := .warming, times := [0, 0] } } : State)
     u.start.state = .warming ∧ (u.atTime (secs 100000)).start.times.getD 1 0 + 1000 * (u.atTime (secs 100000)).start.warmMax ≤ (u.atTime (secs 100000)).ms) ∧ up.start.state ≠ .warming ∧ State.reset.agentUp = false ∧
    up.agentUp = true ∧ ((up.atTime 0).raise 0x1101).start.inReset = true ∧
    (∀ k ∈ [1, 3], ({ up with start := { up.start with fwState := k } } : State).start.fwState = k) ∧ up.start.fwState ≠ 1 ∧ up.start.fwState ≠ 3 ∧
    up.cal.commit = none ∧ ({ up with cal := { up.cal with commit := some ([], 3) } } : State).cal.commit = some ([], 3) ∧
    (up.atTime (secs 600)).cal.stagingTime + secs 600 ≤ (up.atTime (secs 600)).tb.lc ∧ (up.atTime 0).tb.lc < (up.atTime 0).cal.stagingTime + secs 600 := by
  decide +kernel

/-- Whatever DRAM is installed, the calibration table is read and the latch decides. -/
theorem witness_power_on : (∃ t : State, t.start.haltBundle = true) ∧ ∃ t : State, t.start.haltBundle = false :=
  ⟨⟨{ up with start := { up.start with haltBundle := true } }, rfl⟩, ⟨up, rfl⟩⟩

/-! ## Ill-formed commands: one bounded operand at its bound, one term for each check of `Instr.bounds`, and the check refuses it -/

/-- Commands with one operand out of its range, part 1. -/
theorem test_illCommand1_refused : ([
   .clockLossOfLock 0 4, .lockConfirmed 0 17, .refLossOfSignal 0 17, .todSentenceRx 0 2 0 false none 0 0 0 0 0, .todSentenceTimeout 2,
   .esmcPduRx 32 0 none, .esmcPduRx 0 16 none, .esmcRxTimeout 32, .soakTimeWrite (plain .pcie 0) 17 0, .tiuEdge 0 32 0, .tiuEdge 0 0 32,
   .tiuGateEstimate 0 32, .tiuChannelReconfig (plain .pcie 0) 32 0 0, .servoMeasurement 0 18 0 0 0, .ovenSample 65536 false,
   .synthCommit (plain .pcie 0) 16, .outputApllLoss 0 4, .outputStart 0 16, .outputStop 0 16, .outputAlignCheck 0 16,
   .loopbackTimeout 16, .todSentenceTx 0 2, .gifAlign 3, .gifLost 3, .gifConfigWrite (plain .pcie 0) 3 0 0, .notchUpdate 3 [] [],
   .jamIndUpdate 3 0 0, .acqStatistic 0 4 0, .pullInTimeout 256, .trackChannelLost 0 256, .navBitRecord 0 256 (unit 0),
   .girthTermTimeout 0 5, .quadApply (plain .pcie 0) 8, .qrefLoss 0 8, .linkBringUp 0 34 0 [] 0 0 0, .linkBringUp 0 0 0 (List.replicate 33 (0, 0)) 0 0 0, .trainingTimeout 0 32, .linkUp 0 32,
   .linkLoss 0 32, .blockLockLossTimeout 0 32, .laneRetrain (plain .pcie 0) 32, .laneDisable (plain .pcie 0) 32, .eyeScan 34 0 0,
   .fomWarnTimeout 0 34, .fomMinTimeout 0 34, .ctleAdapt 0 32 0 0 0 0, .lpiTxSleep 32, .lpiRxSignal 0 32 false, .esmcTx 0 32,
   .esmcEventTx 0 32, .interpCal 0 32, .alignMeasure 32 0 0, .alignDecide 0 32, .portCalLoop (plain .pcie 0) 32, .portCalLoopDone 32,
   .egressSelect 0 32 0 0 0 false, .egressSelect 0 0 32 0 0 false, .downHoldExpire 0 32, .blockTimeExpire 0 32,
   .ptpAnnounceRx 0 4 0 (msg false) PtpDs.zero, .ptpAnnounceRx 0 0 32 (msg false) PtpDs.zero] : List Instr).all (fun i => !i.wellFormed) = true := by decide +kernel

/-- Commands with one operand out of its range, part 2. -/
theorem test_illCommand2_refused : ([
   .announceTimeout 0 32, .ptpStateDecision 0 4, .ptpSyncRx 0 4 0 (msg false), .ptpSyncRx 0 0 32 (msg false),
   .ptpFollowUpRx 0 4 0 (msg false), .ptpFollowUpRx 0 0 32 (msg false), .ptpDelayReqRx 0 4 0 (msg false),
   .ptpDelayReqRx 0 0 32 (msg false), .ptpDelayRespRx 0 4 0 (msg false), .ptpDelayRespRx 0 0 32 (msg false),
   .ptpPdelayReqRx 0 32 (msg false), .ptpPdelayRespRx 0 32 (msg false) false,
   .ptpSyncTx 0 4 0 0, .ptpSyncTx 0 0 32 0, .ptpAnnounceTx 0 4 0 0, .ptpAnnounceTx 0 0 32 0,
   .ptpDelayReqTx 0 4 0, .ptpDelayReqTx 0 0 32,
   .requestUnicastTransmission 0 4 0 0 0 0 0 0 (msg false), .requestUnicastTransmission 0 0 32 0 0 0 0 0 (msg false),
   .cancelUnicastTransmission 0 4 0 0 0 0 (msg false), .cancelUnicastTransmission 0 0 32 0 0 0 (msg false),
   .grantUnicastTransmissionRx 0 4 0 0 0 0 (msg false), .grantUnicastTransmissionRx 0 0 32 0 0 0 (msg false), .grantExpire 0 4 0 0 0,
   .grantRenewTx 0 4 0 0, .delayRespReservationRelease 0 4 0 0, .ptpInstanceReconfig 0 4, 
   .ntsLaunch 0 32 0 0 0 false, .ntsLaunch 0 0 32 0 0 false, .ntsRelaunch 0 32 0 0 0 false, .ntsRelaunch 0 0 32 0 0 false, .tnow 0 36 0,
   .tnow 0 0 32, .twait 0 36 0, .twait 0 0 32, .twaitResume 0 36, .qwait 0 36 0 0, .qwait 0 0 32 0, .qwait 0 0 0 32, .qwaitResume 0 36,
   .wrc 0 36 0 0, .wrc 0 0 32 0, .wrc 0 0 0 65536, .engineTrap 0 36 0 false, .engineTrap 0 0 256 false, .engineWatchdogExpire 0 36 false,
   .engineRestore 0 36, .tackLoad (plain .pcie 0) 8 0, .tackLoadDone 0 8 false false, .tackStop (plain .pcie 0) 8,
   .pcRead (plain .pcie 0) 36, .instructionSample 0 36 0 0 0 0 false, .slotAttrWrite (plain .pcie 0) 512 0,
   .keyCommit (plain .pcie 0) 512, .keyAbandon (plain .pcie 0) 512] : List Instr).all (fun i => !i.wellFormed) = true := by decide +kernel

/-- Commands with one operand out of its range, part 3. -/
theorem test_illCommand3_refused : ([
   .vaultStageTimeout 0 512, .keyErase (plain .pcie 0) 512, .keyExport (plain .pcie 0) 512 0, .dictWrite (plain .pcie 0) 65536 0 0,
   .dictWrite (plain .pcie 0) 0 256 0, .dictDescribeAddr (plain .pcie 0) 65536 0, .dictDescribeAddr (plain .pcie 0) 0 256,
   .canSdoTransfer 2 0 false (plain .pcie 0) 0 0 0, .canSdoTransfer 0 3 false (plain .pcie 0) 0 0 0,
   .canSdoTransfer 0 0 false (plain .pcie 0) 65536 0 0, .canSdoTransfer 0 0 false (plain .pcie 0) 0 256 0, .canSdoTimeout 0 2,
   .canNmtRx 0 2, .canHeartbeatTx 0 2, .canBusOff 0 2, .canBusOffRecovery 0 2, .canEnableWrite (plain .pcie 0) 2 0,
   .mspWrite (plain .pcie 0) 65536 0 0 false false false, .mspWrite (plain .pcie 0) 0 256 0 false false false,
   .mspRead (plain .pcie 0) 65536 0 false false false, .mspRead (plain .pcie 0) 0 256 false false false,
   .bar0Read (plain .pcie 0) 0 16 false, .bar0Write (plain .pcie 0) 0 16 0, .pairDiagDone 0 256, .join 0 0 0 4096 0 0 0 false,
   .joinAck 0 0 0 4096 0 0 false, .domainStatus 0 0 4096 0 false 0 0 0, .policyAck 0 0 4096 0 false 0 0 0, .keysAck 0 0 4096 0 false [],
   .leave 0 0 4096 0 false 0, .domainWorkerLost 0 4096, .domainPolicyWrite (plain .pcie 0) 64 0, .faultRaise 0 65536 0 0,
   .faultRaise 0 0 65536 0, .faultConditionClear 0 65536 0, .faultConditionClear 0 0 65536, .faultAckCode (plain .pcie 0) 65536,
   .inElecWrite (plain .pcie 0) 8 0, .qrefReturn 0 8, .peerLaneDown 0 2, .peerLaneUp 0 2, .haltWireFall 0 2 false,
   .ptpPdelayReqTx 0 32, .ptpQualificationTimeout 0 32, .fwCommitDone 0 3] : List Instr).all (fun i => !i.wellFormed) = true := by decide +kernel

/-- Engine instructions with one field out of its range, part 1. -/
theorem test_illEngine1_refused : ([
   .add 36 0 0 0, .add 0 32 0 0, .add 0 0 32 0, .add 0 0 0 32, .sub 36 0 0 0, .sub 0 32 0 0, .sub 0 0 32 0, .sub 0 0 0 32, .and 36 0 0 0,
   .and 0 32 0 0, .and 0 0 32 0, .and 0 0 0 32, .ior 36 0 0 0, .ior 0 32 0 0, .ior 0 0 32 0, .ior 0 0 0 32, .xor 36 0 0 0, .xor 0 32 0 0,
   .xor 0 0 32 0, .xor 0 0 0 32, .lsl 36 0 0 0, .lsl 0 32 0 0, .lsl 0 0 32 0, .lsl 0 0 0 32, .lsr 36 0 0 0, .lsr 0 32 0 0, .lsr 0 0 32 0,
   .lsr 0 0 0 32, .asr 36 0 0 0, .asr 0 32 0 0, .asr 0 0 32 0, .asr 0 0 0 32, .lts 36 0 0 0, .lts 0 32 0 0, .lts 0 0 32 0, .lts 0 0 0 32,
   .ltu 36 0 0 0, .ltu 0 32 0 0, .ltu 0 0 32 0, .ltu 0 0 0 32, .mul 36 0 0 0, .mul 0 32 0 0, .mul 0 0 32 0, .mul 0 0 0 32,
   .mulhs 36 0 0 0, .mulhs 0 32 0 0, .mulhs 0 0 32 0, .mulhs 0 0 0 32, .mulhu 36 0 0 0, .mulhu 0 32 0 0, .mulhu 0 0 32 0,
   .mulhu 0 0 0 32, .divs 36 0 0 0, .divs 0 32 0 0, .divs 0 0 32 0, .divs 0 0 0 32, .divu 36 0 0 0, .divu 0 32 0 0, .divu 0 0 32 0,
   .divu 0 0 0 32] : List Instr).all (fun i => !i.wellFormed) = true := by decide +kernel

/-- Engine instructions with one field out of its range, part 2. -/
theorem test_illEngine2_refused : ([
   .rems 36 0 0 0, .rems 0 32 0 0, .rems 0 0 32 0, .rems 0 0 0 32, .remu 36 0 0 0, .remu 0 32 0 0, .remu 0 0 32 0, .remu 0 0 0 32,
   .lzc 36 0 0, .lzc 0 32 0, .lzc 0 0 32, .ones 36 0 0, .ones 0 32 0, .ones 0 0 32, .addk 36 0 0 0, .addk 0 32 0 0, .addk 0 0 32 0,
   .addk 0 0 0 65536, .andk 36 0 0 0, .andk 0 32 0 0, .andk 0 0 32 0, .andk 0 0 0 65536, .iork 36 0 0 0, .iork 0 32 0 0, .iork 0 0 32 0,
   .iork 0 0 0 65536, .xork 36 0 0 0, .xork 0 32 0 0, .xork 0 0 32 0, .xork 0 0 0 65536, .ltsk 36 0 0 0, .ltsk 0 32 0 0, .ltsk 0 0 32 0,
   .ltsk 0 0 0 65536, .ltuk 36 0 0 0, .ltuk 0 32 0 0, .ltuk 0 0 32 0, .ltuk 0 0 0 65536, .khi 36 0 0 0, .khi 0 32 0 0, .khi 0 0 32 0,
   .khi 0 0 0 65536, .lslk 36 0 0 0, .lslk 0 32 0 0, .lslk 0 0 32 0, .lslk 0 0 0 65536, .lsrk 36 0 0 0, .lsrk 0 32 0 0, .lsrk 0 0 32 0,
   .lsrk 0 0 0 65536, .asrk 36 0 0 0, .asrk 0 32 0 0, .asrk 0 0 32 0, .asrk 0 0 0 65536, .ld8s 36 0 0 0, .ld8s 0 32 0 0, .ld8s 0 0 32 0,
   .ld8s 0 0 0 65536, .ld8u 36 0 0 0, .ld8u 0 32 0 0] : List Instr).all (fun i => !i.wellFormed) = true := by decide +kernel

/-- Engine instructions with one field out of its range, part 3. -/
theorem test_illEngine3_refused : ([
   .ld8u 0 0 32 0, .ld8u 0 0 0 65536, .ld16s 36 0 0 0, .ld16s 0 32 0 0, .ld16s 0 0 32 0, .ld16s 0 0 0 65536, .ld16u 36 0 0 0,
   .ld16u 0 32 0 0, .ld16u 0 0 32 0, .ld16u 0 0 0 65536, .ld32s 36 0 0 0, .ld32s 0 32 0 0, .ld32s 0 0 32 0, .ld32s 0 0 0 65536,
   .ld32u 36 0 0 0, .ld32u 0 32 0 0, .ld32u 0 0 32 0, .ld32u 0 0 0 65536, .ld64 36 0 0 0, .ld64 0 32 0 0, .ld64 0 0 32 0,
   .ld64 0 0 0 65536, .st8 36 0 0 0, .st8 0 32 0 0, .st8 0 0 32 0, .st8 0 0 0 65536, .st16 36 0 0 0, .st16 0 32 0 0, .st16 0 0 32 0,
   .st16 0 0 0 65536, .st32 36 0 0 0, .st32 0 32 0 0, .st32 0 0 32 0, .st32 0 0 0 65536, .st64 36 0 0 0, .st64 0 32 0 0, .st64 0 0 32 0,
   .st64 0 0 0 65536, .atswap 36 0 0 0, .atswap 0 32 0 0, .atswap 0 0 32 0, .atswap 0 0 0 32, .atadd 36 0 0 0, .atadd 0 32 0 0,
   .atadd 0 0 32 0, .atadd 0 0 0 32, .atand 36 0 0 0, .atand 0 32 0 0, .atand 0 0 32 0, .atand 0 0 0 32, .atior 36 0 0 0,
   .atior 0 32 0 0, .atior 0 0 32 0, .atior 0 0 0 32, .order 36, .breq 36 0 0 0, .breq 0 32 0 0, .breq 0 0 32 0, .breq 0 0 0 65536,
   .brne 36 0 0 0] : List Instr).all (fun i => !i.wellFormed) = true := by decide +kernel

/-- Engine instructions with one field out of its range, part 4. -/
theorem test_illEngine4_refused : ([
   .brne 0 32 0 0, .brne 0 0 32 0, .brne 0 0 0 65536, .brlts 36 0 0 0, .brlts 0 32 0 0, .brlts 0 0 32 0, .brlts 0 0 0 65536,
   .brges 36 0 0 0, .brges 0 32 0 0, .brges 0 0 32 0, .brges 0 0 0 65536, .brltu 36 0 0 0, .brltu 0 32 0 0, .brltu 0 0 32 0,
   .brltu 0 0 0 65536, .brgeu 36 0 0 0, .brgeu 0 32 0 0, .brgeu 0 0 32 0, .brgeu 0 0 0 65536, .go 36 0, .go 0 67108864, .call 36 0,
   .call 0 67108864, .gor 36 0 0 0, .gor 0 32 0 0, .gor 0 0 32 0, .gor 0 0 0 65536, .dadd 36 0 0 0, .dadd 0 32 0 0, .dadd 0 0 32 0,
   .dadd 0 0 0 32, .dsub 36 0 0 0, .dsub 0 32 0 0, .dsub 0 0 32 0, .dsub 0 0 0 32, .dmul 36 0 0 0, .dmul 0 32 0 0, .dmul 0 0 32 0,
   .dmul 0 0 0 32, .ddiv 36 0 0 0, .ddiv 0 32 0 0, .ddiv 0 0 32 0, .ddiv 0 0 0 32, .dsqrt 36 0 0, .dsqrt 0 32 0, .dsqrt 0 0 32,
   .dmin 36 0 0 0, .dmin 0 32 0 0, .dmin 0 0 32 0, .dmin 0 0 0 32, .dmax 36 0 0 0, .dmax 0 32 0 0, .dmax 0 0 32 0, .dmax 0 0 0 32,
   .dneg 36 0 0, .dneg 0 32 0, .dneg 0 0 32, .dabs 36 0 0, .dabs 0 32 0, .dabs 0 0 32] : List Instr).all (fun i => !i.wellFormed) = true := by decide +kernel

/-- Engine instructions with one field out of its range, part 5. -/
theorem test_illEngine5_refused : ([
   .dceq 36 0 0 0, .dceq 0 32 0 0, .dceq 0 0 32 0, .dceq 0 0 0 32, .dclt 36 0 0 0, .dclt 0 32 0 0, .dclt 0 0 32 0, .dclt 0 0 0 32,
   .dcle 36 0 0 0, .dcle 0 32 0 0, .dcle 0 0 32 0, .dcle 0 0 0 32, .dtoi 36 0 0, .dtoi 0 32 0, .dtoi 0 0 32, .itod 36 0 0, .itod 0 32 0,
   .itod 0 0 32, .dtog 36 0 0, .dtog 0 32 0, .dtog 0 0 32, .gtod 36 0 0, .gtod 0 32 0, .gtod 0 0 32, .dld 36 0 0 0, .dld 0 32 0 0,
   .dld 0 0 32 0, .dld 0 0 0 65536, .dst 36 0 0 0, .dst 0 32 0 0, .dst 0 0 32 0, .dst 0 0 0 65536, .tseq 36 0, .tseq 0 32,
   .text 36 0 0 0, .text 0 32 0 0, .text 0 0 32 0, .text 0 0 0 32, .gadd 36 0 0 0, .gadd 0 32 0 0, .gadd 0 0 32 0, .gadd 0 0 0 32,
   .gmax 36 0 0 0, .gmax 0 32 0 0, .gmax 0 0 32 0, .gmax 0 0 0 32, .qpop 36 0 0 0, .qpop 0 32 0 0, .qpop 0 0 32 0, .qpop 0 0 0 32,
   .qpush 36 0 0 0, .qpush 0 32 0 0, .qpush 0 0 32 0, .qpush 0 0 0 32, .qstat 36 0 0, .qstat 0 32 0, .qstat 0 0 32, .csub 36 0 0,
   .csub 0 32 0, .csub 0 0 32] : List Instr).all (fun i => !i.wellFormed) = true := by decide +kernel

/-- Engine instructions with one field out of its range, part 6. -/
theorem test_illEngine6_refused : ([
   .cwait 36 0 0, .cwait 0 32 0, .cwait 0 0 32, .crand 36 0, .crand 0 32, .rdc 36 0 0, .rdc 0 32 0, .rdc 0 0 65536, .idle 36,
   .idleWake 36, .stop 36, .tret 36, .dbg 36] : List Instr).all (fun i => !i.wellFormed) = true := by decide +kernel

/-- Well-formed ones are let through. -/
theorem test_well_formed : ([.lockConfirmed 0 16, .add 35 31 31 31, .addk 35 31 31 65535, .tiuEdge 0 31 31, .order 0] : List Instr).all
    (fun i => i.wellFormed) = true := by decide +kernel

/-! ## Single steps and the worked examples of spec/, with their results as spec/ states them -/

/-- The state a command answers, or `s` where it stops. -/
def after (i : Instr) (s : State) : State := match exec i s with | .next t => t | _ => s

/-- 00_scope.md, reading girths: 0x0000_0200 and a contribution of 0xFFFF_FF00 add to 0xFFFFFFFF. -/
theorem test_gadd_saturates : (after (.gadd 35 3 1 2) (lab [0, 0x200, 0xFFFFFF00])).reg 35 3 = 0xFFFFFFFF := by decide +kernel

/-- 15_engines.md: khi g2, 0x0010 makes g2 0x0010_0000. -/
theorem test_khi : (after (.khi 24 2 0 0x10) bench).reg 24 2 = 0x100000 := by decide +kernel

/-- 15_engines.md: the words of the tack program that follows the GNSS epoch. -/
theorem test_words : wordK 0x08 2 0 0x10 = 0x00100088 ∧ wordR 0x39 4 1 2 0 = 0x00020939 ∧ wordR 0x38 5 2 3 2 = 0x00431178 ∧
    wordB 0x21 5 0 0xFFFD = 0xFFFD0161 := by decide +kernel

/-- R334: g0 reads zero after a write. -/
theorem test_zero_register : (after (.addk 0 0 1 7) bench).reg 0 0 = 0 ∧ (after (.addk 0 3 1 7) bench).reg 0 3 = 0x100007 := by decide +kernel

/-- R336: a 64-bit scalar engine wraps at 2^64, a 32-bit thread engine at 2^32. -/
theorem test_add_wraps : (after (.add 35 3 1 2) (lab [0, 0xFFFFFFFFFFFFFFFF, 1])).reg 35 3 = 0 ∧
    (after (.add 0 3 1 2) (lab [0, 0xFFFFFFFF, 2])).reg 0 3 = 1 := by decide +kernel

/-- 02_timebase_and_stamps.md: extending a stamp across the NSC wrap. -/
def ring7 : State :=
  { up with tb := { up.tb with ring := up.tb.ring.set 7 ⟨0x12A47, 1, 0xFFF00000 * 65536, 1786543210 * secUnits, 0, 0xFFF00000 * 65536⟩ } }

theorem test_extend : ring7.extend (0x5F5E1 * 65536 + 0x4000) 0x71 = some (1786543210 * secUnits + 1439201 * 65536 + 0x4000) ∧
    ring7.extend (0x5F5E1 * 65536 + 0x4000) 0x75 = none := by decide +kernel

/-- 02_timebase_and_stamps.md: the coarse bound after 30 s on a 10 MHz oscillator, from a girth of 200 units. -/
def coarse30 : State :=
  (after (.tbApllLossOfLock 0 false) { up with girth := { up.girth with now := 200 }, tb := { up.tb with isSet := true } }).atTime (secs 30)

theorem test_coarse_bound : coarse30.tb.coarse = 1 ∧ coarse30.coarseBound = 0x76048 := by decide +kernel

/-- 11_port_timestamping.md: a receive stamp at 25 Gbit/s: T_w is 1,000,000,000 ns and 123.25 ps, the bit stands at 17, and D_rx is 2,525.5 ps. -/
theorem test_rx_stamp :
    (lane31 (fun x => { x with dRx := 165511 })).rxStamp 31 (4000 * 1000000000 + 493) 17 = 0x3B9AC9FE * 65536 + 0x41D4 := by
  decide +kernel

/-- 06_holdover_and_oven.md: 8 h at a linear coefficient of 107 × 10⁻¹⁵ and a quadratic one of 220 × 10⁻¹⁸: H is 94.32 ns, 1,509.12 units. -/
theorem test_growth :
    ({ up with ho := { up.ho with invalid := false, su0 := 30 * 1000 / 3, sa := 40, phiDu := 0 } } |>.put 0x4420 7 77).growthAt (secs 28800) =
      1510 := by decide +kernel

/-- R39: SYS_RESET of 0x5A is the one value that SYS_RESET takes. -/
theorem test_sys_reset_value : accepted desk (sealed 1 1) 0xD010 1 0x5A = true ∧ accepted desk (sealed 1 1) 0xD010 1 0x5B = false := by
  decide +kernel

end Sys2Proof.Tests
end

section
/-!
PROOFS. Scope (00_scope.md): what the part reports of itself (R2).
-/
namespace Sys2Proof.Proofs
open Sys2Proof Sys2Proof.Machine

/-! ## Entries that are constants (R425, R427) -/

/-- Bit 14 of the rights marks a constant. A read of one answers the entry's default, whatever the state and the requester. -/
theorem readValue_eq_objDefault_of_const {d : ObjDef} (h : bit d.rights 14 = true) (s : State) (a : Acc) (idx sub : Nat) :
    s.readValue a d idx sub = objDefault d idx sub := if_pos h

/-! ## STEPPING and DEVICE_GRADE (R2) -/

/-- The dictionary's row of STEPPING (0x1100:02). -/
def steppingRow : ObjDef := ⟨0x1100, 1, 2, 2, 5, 1, 0x5555, false, 0xA1, .any⟩

/-- The dictionary's row of DEVICE_GRADE (0x1100:01). -/
def deviceGradeRow : ObjDef := ⟨0x1100, 1, 1, 1, 5, 1, 0x5555, false, 0, .any⟩

theorem entryOf_stepping : entryOf 0x1100 2 = some steppingRow := rfl

theorem entryOf_deviceGrade : entryOf 0x1100 1 = some deviceGradeRow := rfl

/-- No case of `objDefault` is about STEPPING, so its default is the tabled one. -/
theorem objDefault_stepping : objDefault steppingRow 0x1100 2 = 0xA1 := by simp [objDefault, steppingRow]

/-- The default of DEVICE_GRADE depends on the grade that the part is made in. -/
theorem objDefault_deviceGrade : objDefault deviceGradeRow 0x1100 1 = if Config.gradeE then 1 else 2 := by
  simp [objDefault, deviceGradeRow]

/-- Settles O7: both entries are constants of the dictionary, so a read answers their defaults from every state. -/
theorem steppingAndGrade : Obligations.SteppingAndGrade := by
  intro s a d e hd he
  obtain rfl : steppingRow = d := Option.some.inj (entryOf_stepping.symm.trans hd)
  obtain rfl : deviceGradeRow = e := Option.some.inj (entryOf_deviceGrade.symm.trans he)
  refine ⟨rfl, ?_, ?_⟩
  · rw [readValue_eq_objDefault_of_const (by decide), objDefault_stepping]
  · rw [readValue_eq_objDefault_of_const (by decide), objDefault_deviceGrade]

end Sys2Proof.Proofs
end

section
/-!
PROOFS. Architecture (01_architecture.md): the system reset command (R39).
-/
namespace Sys2Proof.Proofs
open Sys2Proof Sys2Proof.Machine

/-! ## Values outside the accepted range (R429, check 10) -/

/-- A value outside the accepted range of its entry is refused with code 8, whatever the state, the requester and the chapter. -/
theorem writeRefusal_of_not_rangeOk {d : ObjDef} {v : Nat} (h : rangeOk d v = false) (s : State) (a : Acc) (w : Who) (idx sub : Nat) :
    s.writeRefusal a w d idx sub v = 8 := by
  simp [State.writeRefusal, h]

/-- A range of one number takes that number and no other. -/
theorem rangeOk_nat_self_iff {d : ObjDef} {n : Nat} (h : d.range = .nat n n) (v : Nat) : rangeOk d v = true ↔ v = n := by
  have hr : rangeOk d v = (decide (n ≤ v) && decide (v ≤ n)) := by simp only [rangeOk, h]
  rw [hr, Bool.and_eq_true, decide_eq_true_iff, decide_eq_true_iff]
  omega

/-! ## SYS_RESET (R39) -/

/-- The dictionary's row of SYS_RESET (0xD010:01). -/
def sysResetRow : ObjDef := ⟨0xD010, 1, 1, 1, 5, 1, 0x00A8, false, 0, .nat 90 90⟩

theorem entryOf_sysReset : entryOf 0xD010 1 = some sysResetRow := by decide +kernel

/-- Bit 1 of a role's tabled rights is the right to write. -/
theorem bit_tabled_sysReset (r : Role) : bit (tabled sysResetRow r) 1 = [Role.owner, .keeper, .host].contains r := by
  cases r <;> decide

/-- Any value but 0x5A lies outside the accepted range of SYS_RESET. -/
theorem rangeOk_sysReset_of_ne {v : Nat} (h : v ≠ 0x5A) : rangeOk sysResetRow v = false :=
  Bool.eq_false_iff.mpr (mt (rangeOk_nat_self_iff rfl v).mp h)

/-- SYS_RESET's chapter makes a system reset with cause 4 of an accepted write. -/
theorem applyWrite_sysReset (t : State) (a : Acc) (w : Who) (v : Nat) : t.applyWrite a w 0xD010 1 v = t.sysReset 4 := rfl

/-- Settles O8: the row's rights and its one accepted value say who may write what, and an accepted write has the effect of its
chapter. -/
theorem systemResetCommand : Obligations.SystemResetCommand := by
  refine ⟨⟨sysResetRow, entryOf_sysReset, rfl, rfl, by decide, bit_tabled_sysReset, ?_⟩, ?_⟩
  · intro s a w v hv
    rw [writeRefusal_of_not_rangeOk (rangeOk_sysReset_of_ne hv)]
    decide
  · intro s a
    exact writeDoes (by decide) (by decide) (fun t w => applyWrite_sysReset t a w 0x5A)

end Sys2Proof.Proofs
end

section
/-!
PROOFS. Anchors that have waited (R27, R50): what the engines, the pair and the domain do with one leaves the time base as it is.
-/
namespace Sys2Proof.Machine

/-! ## Stamp records that wait (R99) -/

@[simp] theorem State.deliver_tb (c : Nat) (s : State) (r : TiuRec) : (State.deliver c s r).tb = s.tb := by
  unfold State.deliver
  simp only [State.tap_tb, State.onChan_tb]

@[simp] theorem State.arbOne_tb (s : State) (c : Nat) : (s.arbOne c).tb = s.tb := by
  unfold State.arbOne
  split
  · rfl
  · simp only [State.deliver_tb, State.onChan_tb]

@[simp] theorem State.drain_tb (s : State) : s.drain.tb = s.tb := by
  unfold State.drain
  split
  · exact foldl_tb _ (fun s _ => foldl_tb _ State.arbOne_tb _ s) _ _
  · rfl

/-! ## Counters and channels (R100–R103, R342, R368, R373, R488) -/

@[simp] theorem State.setCounters_tb (s : State) (e : Nat) : (s.setCounters e).tb = s.tb := rfl

@[simp] theorem State.anchorCounters_tb (s : State) : s.anchorCounters.tb = s.tb := by
  unfold State.anchorCounters
  exact foldl_tb _ State.setCounters_tb _ _

@[simp] theorem State.anchorEvents_tb (s : State) : s.anchorEvents.tb = s.tb := by
  unfold State.anchorEvents
  exact foldl_tb _ (fun s e => by rw [State.pmcEvents_tb, State.onEng_tb]) _ _

@[simp] theorem State.flushCoalesced_tb (s : State) : s.flushCoalesced.tb = s.tb := by
  unfold State.flushCoalesced
  exact foldl_tb _ (fun s x => State.record_tb s ..) _ _

@[simp] theorem State.estimate1s_tb (prev now : Nat) (s : State) (c : Nat) : (State.estimate1s prev now s c).tb = s.tb := rfl

/-! ## The holdover history and model (R128, R130, R133) -/

@[simp] theorem State.tempSecond_tb (s : State) : s.tempSecond.tb = s.tb := by
  unfold State.tempSecond
  split <;> rfl

@[simp] theorem State.takeTemp_tb (s : State) : s.takeTemp.tb = s.tb := rfl

@[simp] theorem State.pushRing_tb (s : State) (e : HistEntry) : (s.pushRing e).tb = s.tb := rfl

@[simp] theorem State.history_tb (s : State) (aseq : Nat) (u : Option Int) : (s.history aseq u).tb = s.tb := by
  unfold State.history
  cases u with
  | none => rfl
  | some u =>
    dsimp only
    split <;> rfl

@[simp] theorem State.closeSecond_tb (s : State) (x : AnchorDue) (runs : Bool) : (s.closeSecond x runs).tb = s.tb := by
  unfold State.closeSecond
  rw [State.history_tb]
  exact (State.tempSecond_tb _).trans (State.takeTemp_tb s)

@[simp] theorem State.refit_tb (s : State) : s.refit.tb = s.tb := by
  unfold State.refit
  dsimp only
  split
  · split
    · split <;> rfl
    · rfl
  · rfl

@[simp] theorem State.takeHo_tb (s : State) : s.takeHo.tb = s.tb := rfl

@[simp] theorem State.useTerms_tb (s : State) : s.useTerms.tb = s.tb := by
  unfold State.useTerms
  dsimp only
  split <;> rfl

@[simp] theorem State.setUh_tb (s : State) : s.setUh.tb = s.tb := rfl

@[simp] theorem State.noteValid_tb (s : State) : s.noteValid.tb = s.tb := rfl

@[simp] theorem State.modelAnchor_tb (s : State) : s.modelAnchor.tb = s.tb := by
  unfold State.modelAnchor
  dsimp only
  rw [State.setUh_tb, State.noteValid_tb]
  split
  · simp only [State.refit_tb, State.takeHo_tb]
  · exact (State.useTerms_tb _).trans ((State.refit_tb _).trans (State.takeHo_tb s))

/-! ## The servo, the oven and start-up (R114, R119, R150, R499) -/

@[simp] theorem State.aim_tb (s : State) (u : Int) (dt : Nat) : (s.aim u dt).tb = s.tb := by
  unfold State.aim
  extract_lets _ _ _ _ w
  clear_value w
  exact State.accrue_tb s

@[simp] theorem State.takeServo_tb (s : State) : s.takeServo.tb = s.tb := rfl

@[simp] theorem State.freqLoop_tb (s : State) : s.freqLoop.tb = s.tb := by
  unfold State.freqLoop
  split
  · rfl
  · simp only [State.aim_tb, State.takeServo_tb]

@[simp] theorem State.servoAnchor_tb (s : State) : s.servoAnchor.tb = s.tb := by
  unfold State.servoAnchor
  split
  · rfl
  · split
    · split <;> simp only [State.freqLoop_tb]
    · exact State.aim_tb ..
    · exact State.aim_tb ..
    · split <;> simp only [State.aim_tb]
    all_goals rfl

@[simp] theorem State.noteWarm_tb (s : State) : s.noteWarm.tb = s.tb := rfl

@[simp] theorem State.warmSecond_tb (s : State) : s.warmSecond.tb = s.tb := by
  unfold State.warmSecond
  dsimp only
  rw [State.noteWarm_tb]
  split <;> rfl

@[simp] theorem State.enterLocked_tb (s : State) : s.enterLocked.tb = s.tb := by
  unfold State.enterLocked
  rw [State.revalid_tb]

@[simp] theorem State.lockAnchor_tb (s : State) : s.lockAnchor.tb = s.tb := by
  unfold State.lockAnchor
  split
  · exact State.enterLocked_tb s
  · split
    · exact State.enterLocked_tb s
    · rfl

/-! ## The girth (R211, R212, R216, R226) -/

@[simp] theorem State.takeTerms_tb (s : State) : s.takeTerms.tb = s.tb := rfl

@[simp] theorem State.compose_tb (s : State) : s.compose.tb = s.tb := by
  unfold State.compose
  dsimp only
  split
  · rfl
  · split
    · rfl
    · split <;> rfl

@[simp] theorem State.noteClaim_tb (s : State) (n : Nat) : (s.noteClaim n).tb = s.tb := by
  unfold State.noteClaim
  split <;> rfl

theorem State.noteClaims_tb (s : State) (b : Bool) : (if b then (List.range 17).foldl State.noteClaim s else s).tb = s.tb := by
  split
  · exact foldl_tb _ State.noteClaim_tb _ s
  · rfl

@[simp] theorem State.expireClaims_tb (s : State) : s.expireClaims.tb = s.tb := by
  unfold State.expireClaims
  extract_lets old u _ _ v
  have noted : u.tb = s.tb := State.noteClaims_tb s _
  have domain : v.tb = u.tb := by
    unfold v
    split
    · split <;> rfl
    · rfl
  rw [foldl_tb, domain, noted]
  intro s n
  split
  · split <;> rfl
  · rfl

@[simp] theorem State.recalc_tb (s : State) : s.recalc.tb = s.tb := by
  unfold State.recalc
  split
  · simp only [State.setG_tb, State.compose_tb, State.expireClaims_tb]
  · rfl

@[simp] theorem State.girthAnchor_tb (s : State) : s.girthAnchor.tb = s.tb := by
  unfold State.girthAnchor
  exact State.recalc_tb _

/-! ## Lanes and PTP (R258, R296, R310) -/

@[simp] theorem State.spanCheck_tb (s : State) : s.spanCheck.tb = s.tb := by
  unfold State.spanCheck
  refine foldl_tb _ (fun s l => ?_) _ _
  split
  · rw [State.raise_tb, State.onLane_tb]
  · rfl

@[simp] theorem State.refreshServed_tb (s : State) (k : Nat) : (s.refreshServed k).tb = s.tb := rfl

@[simp] theorem State.ptpAnchor_tb (s : State) : s.ptpAnchor.tb = s.tb := by
  unfold State.ptpAnchor
  refine foldl_tb _ (fun s k => ?_) _ _
  split <;> rfl

/-- The engines' work at an anchor is no step, and latches no anchor (R50). -/
@[simp] theorem State.deliverAnchor_tb (s : State) (x : AnchorDue) : (s.deliverAnchor x).tb = s.tb := by
  unfold State.deliverAnchor
  simp only [State.lockAnchor_tb, State.ptpAnchor_tb, State.girthAnchor_tb, State.spanCheck_tb, State.warmSecond_tb,
    State.servoAnchor_tb, State.modelAnchor_tb, State.closeSecond_tb, foldl_tb _ (State.estimate1s_tb _ _), State.anchorEvents_tb,
    State.tap_tb, State.flushCoalesced_tb]

/-! ## Frames that the part sends (R274–R277, R283) -/

@[simp] theorem State.settleTails_tb (s : State) : s.settleTails.tb = s.tb := rfl

@[simp] theorem State.raiseRefused_tb (s : State) (p : Nat) (timing : Bool) : (s.raiseRefused p timing).tb = s.tb := by
  unfold State.raiseRefused
  split
  · rw [State.raise_tb, State.onYPort_tb]
  · rfl

@[simp] theorem State.refuseDown_tb (s : State) (p : Nat) (timing : Bool) : (s.refuseDown p timing).tb = s.tb := by
  unfold State.refuseDown
  rw [State.raiseRefused_tb, State.onYPort_tb]

@[simp] theorem State.stampUnsent_tb (s : State) (p : Nat) : (s.stampUnsent p).tb = s.tb := rfl

@[simp] theorem State.refuseTail_tb (s : State) (p i : Nat) (timing : Bool) : (s.refuseTail p i timing).tb = s.tb := by
  unfold State.refuseTail
  rw [State.raiseRefused_tb, State.onQueue_tb]

@[simp] theorem State.charge_tb (s : State) (i : Nat) (c : Copy) : (s.charge i c).tb = s.tb := by
  unfold State.charge
  dsimp only
  rw [foldl_tb _ (fun s l => State.onLane_tb ..), State.onQueue_tb]
  split
  · rfl
  · split <;> rfl

@[simp] theorem State.sendOwnFrom_tb (s : State) (least p : Nat) (m : OwnMsg) (f : Frame) (rx status : Nat) :
    (s.sendOwnFrom least p m f rx status).1.tb = s.tb := by
  unfold State.sendOwnFrom
  split
  · rfl
  · dsimp only
    split
    · split <;> simp only [State.stampUnsent_tb, State.refuseDown_tb, State.settleTails_tb]
    · split
      · rfl
      · split
        · rfl
        · split
          · simp only [State.refuseTail_tb, State.settleTails_tb]
          · exact State.charge_tb ..

@[simp] theorem State.sendOwn_tb (s : State) (p : Nat) (m : OwnMsg) (f : Frame) : (s.sendOwn p m f).1.tb = s.tb :=
  State.sendOwnFrom_tb ..

/-! ## The pair and the domain (R106, R358, R459, R474, R477) -/

@[simp] theorem State.domSend_tb (s : State) (ty w : Nat) (v : List Nat) : (s.domSend ty w v).tb = s.tb := by
  unfold State.domSend
  dsimp only
  split
  · rw [State.sendOwn_tb]
  · rfl

@[simp] theorem State.putWorker_tb (s : State) (x : Worker) : (s.putWorker x).tb = s.tb := rfl

@[simp] theorem State.sendPolicy_tb (s : State) (x : Worker) : (s.sendPolicy x).tb = s.tb := by
  unfold State.sendPolicy State.toWorker
  rw [State.domSend_tb, State.putWorker_tb]

@[simp] theorem State.domainAnchor_tb (s : State) : s.domainAnchor.tb = s.tb := by
  unfold State.domainAnchor
  extract_lets u
  have taken : u.tb = s.tb := (apply_ite State.tb ..).trans (by rw [State.takeLate_tb, ite_self])
  split
  · exact (foldl_tb _ State.sendPolicy_tb ..).trans taken
  · exact taken

@[simp] theorem State.swapMissed_tb (s : State) : s.swapMissed.tb = s.tb := by
  unfold State.swapMissed
  split
  · rw [State.raise_tb]
  · rfl

@[simp] theorem State.peerSend_tb (s : State) (m : Nat) (body : List Nat) : (s.peerSend m body).tb = s.tb := rfl

@[simp] theorem State.sendEpoch_tb (s : State) (full : Bool) : (s.sendEpoch full).tb = s.tb := by
  unfold State.sendEpoch
  extract_lets n l u v
  have sections : u.tb = s.tb := foldl_tb _ (fun s x => State.peerSend_tb ..) _ _
  have summed : v.tb = u.tb := State.peerSend_tb ..
  exact summed.trans sections

@[simp] theorem State.judge_tb (s : State) : s.judge.tb = s.tb := by
  unfold State.judge
  split <;> rfl

@[simp] theorem State.pairAnchor_tb (s : State) : s.pairAnchor.tb = s.tb := by
  unfold State.pairAnchor
  split
  · rfl
  · dsimp only
    split
    · split <;> simp only [State.sendEpoch_tb, State.judge_tb, State.peerSend_tb]
    · split <;> simp only [State.sendEpoch_tb, State.judge_tb]

@[simp] theorem State.linkAnchor_tb (s : State) : s.linkAnchor.tb = s.tb := by
  unfold State.linkAnchor
  simp only [State.domainAnchor_tb, State.swapMissed_tb, State.pairAnchor_tb, State.anchorCounters_tb]

/-- Of the time base, serving the anchors that have waited changes the list of them alone. -/
theorem State.serveAnchors_tb (s : State) :
    s.serveAnchors.tb = { s.tb with waiting := if s.engsRun then [] else s.tb.waiting } := by
  unfold State.serveAnchors
  split
  · exact foldl_tb _ (fun s x => by rw [State.linkAnchor_tb, State.deliverAnchor_tb]) _ _
  · rfl

end Sys2Proof.Machine
end

section
/-!
PROOFS. The time base (02_timebase_and_stamps.md): entry to the coarse count, a change of its source, and exit from it (R25, R57, R58).
-/
namespace Sys2Proof.Proofs
open Sys2Proof Sys2Proof.Machine

/-! ## Full time, the steps that wait and the anchors -/

/-- What R58 speaks of: the offset register, which is full time minus long count, the two kinds of step that wait, and the anchors. -/
def steady (b : TimeBase) : Int × Option (Nat × Nat) × Option Int × List Anchor × Nat :=
  (b.offset, b.pendSet, b.pendStep, b.ring, b.nextAseq)

/-- R43: full time is the long count and the offset register together. -/
theorem full_sub_lc (s : State) : s.full - s.tb.lc = s.tb.offset * 65536 := by
  unfold State.full
  omega

/-- The conclusion of R58, of a command that keeps `steady`. -/
theorem keeps_of_steady {s t : State} (h : steady t.tb = steady s.tb) :
    t.full - t.tb.lc = s.full - s.tb.lc ∧ t.tb.ring = s.tb.ring ∧ t.tb.nextAseq = s.tb.nextAseq ∧ t.tb.pendSet = s.tb.pendSet ∧
      t.tb.pendStep = s.tb.pendStep := by
  simp only [steady, Prod.mk.injEq] at h
  obtain ⟨offset, pendSet, pendStep, ring, nextAseq⟩ := h
  exact ⟨by rw [full_sub_lc, full_sub_lc, offset], ring, nextAseq, pendSet, pendStep⟩

/-! ## The operations of the coarse count -/

@[simp] theorem steady_atTime (s : State) (now : Nat) : steady (s.atTime now).tb = steady s.tb := by
  unfold State.atTime
  dsimp only
  rw [State.revalid_tb]
  split <;> rfl

@[simp] theorem steady_serveAnchors (s : State) : steady s.serveAnchors.tb = steady s.tb := by
  rw [State.serveAnchors_tb]
  rfl

@[simp] theorem steady_noteDegraded (s : State) : steady s.noteDegraded.tb = steady s.tb := by
  unfold State.noteDegraded
  dsimp only
  split <;> rfl

@[simp] theorem freeRunOuts_tb (s : State) (b : Bool) : (s.freeRunOuts b).tb = s.tb := by
  unfold State.freeRunOuts
  split
  · dsimp only
    rw [State.onOuts_tb]
    split <;> rfl
  · rfl

/-- What both ends of a coarse count close with: the group's state, DEGRADED, and the framers. -/
theorem steady_regroup (s : State) (v : Nat) (b : Bool) :
    steady (((s.setGroup 5 v).noteDegraded).freeRunOuts b).revalid.tb = steady s.tb := by
  rw [State.revalid_tb, freeRunOuts_tb, steady_noteDegraded, State.setGroup_tb]

/-- Entry to the coarse count, and a change of its source: both begin a count of TB cycles and write registers of the coarse bound. -/
@[simp] theorem steady_enterCoarse (s : State) (src : Nat) : steady (s.enterCoarse src).tb = steady s.tb := by
  unfold State.enterCoarse
  dsimp only
  rw [steady_regroup]
  split <;> rfl

/-- Exit from the coarse count: it begins a count of TB cycles and marks RETURN as due, with no anchor of its own (R61). -/
@[simp] theorem steady_leaveCoarse (s : State) : steady s.leaveCoarse.tb = steady s.tb := by
  unfold State.leaveCoarse
  split
  · rw [steady_noteDegraded, State.setGroup_tb]
  · dsimp only
    rw [steady_regroup]
    rfl

/-! ## The commands (R25–R27) -/

theorem steady_opTbLoss (oscToo : Bool) (s : State) : steady (opTbLoss oscToo s).tb = steady s.tb := by
  unfold opTbLoss
  split
  · rw [State.raise_tb, steady_enterCoarse]
  · rfl

theorem steady_opOscLoss (s : State) : steady (opOscLoss s).tb = steady s.tb := by
  unfold opOscLoss
  split
  · exact steady_enterCoarse ..
  · rfl

theorem steady_opXoStop (s : State) : steady (opXoStop s).tb = steady s.tb := by
  unfold opXoStop
  split
  · rfl
  · dsimp only
    rw [State.raise_tb, State.revalid_tb, State.stopLease_tb]
    split
    · exact steady_enterCoarse ..
    · rfl

/-- Loop 4 is the time-base APLL (R27). -/
theorem opLockConfirmed_timeBase (s : State) :
    opLockConfirmed 4 s = if s.tb.coarse = 0 then s else (s.leaveCoarse.clearFault 0x0006).endHandling 0x0006 := rfl

theorem steady_lockConfirmed_timeBase (s : State) : steady (opLockConfirmed 4 s).tb = steady s.tb := by
  rw [opLockConfirmed_timeBase]
  split
  · rfl
  · rw [State.endHandling_tb, State.clearFault_tb, steady_leaveCoarse]

/-- Settles O9: each of the four commands keeps `steady`; the return to the disciplined count also delivers the anchors and stamp
records that have waited for the engines, which reach the time base nowhere but in their list. -/
theorem coarseCountKeepsFullTime : Obligations.CoarseCountKeepsFullTime := by
  intro s t now b c hc ht
  apply keeps_of_steady
  simp only [List.mem_cons, List.not_mem_nil, or_false] at hc
  obtain rfl | rfl | rfl | rfl := hc
  · obtain rfl : opTbLoss b (s.atTime now) = t := Host.Outcome.next.inj ht
    rw [steady_opTbLoss, steady_atTime]
  · obtain rfl : opOscLoss (s.atTime now) = t := Host.Outcome.next.inj ht
    rw [steady_opOscLoss, steady_atTime]
  · obtain rfl : opXoStop (s.atTime now) = t := Host.Outcome.next.inj ht
    rw [steady_opXoStop, steady_atTime]
  · obtain rfl : (opLockConfirmed 4 (s.atTime now)).drain.serveAnchors = t := Host.Outcome.next.inj ht
    rw [steady_serveAnchors, State.drain_tb, steady_lockConfirmed_timeBase, steady_atTime]

end Sys2Proof.Proofs
end

section
/-!
PROOFS. The block: the queue of commands, the invariant, and what stops a step (R334; log entries 4, 9 and 105).
-/
namespace Sys2Proof.Proofs
open Sys2Proof Sys2Proof.Machine

/-! ## One step -/

theorem step_of_pending_nil {s : State} (h : s.pending = []) : step s = .next s := by
  simp only [step, h]

theorem step_of_pending_cons {s : State} {c : Instr} {rest : List Instr} (h : s.pending = c :: rest) :
    step s = exec c { s with pending := rest } := by
  simp only [step, h]

/-- The invariant does not speak of the queue. -/
theorem inv_pending {s : State} (h : Safety.Inv s) (q : List Instr) : Safety.Inv { s with pending := q } := { h with }

/-- A step that answers a next state takes one command from the queue, if there is one. -/
theorem pending_of_step {s t : State} (h : step s = .next t) : t.pending = s.pending.tail := by
  cases hp : s.pending with
  | nil =>
    obtain rfl : s = t := Host.Outcome.next.inj ((step_of_pending_nil hp).symm.trans h)
    rw [hp, List.tail_nil]
  | cons c rest => exact exec_queue ((step_of_pending_cons hp).symm.trans h)

/-- Settles O1. -/
theorem stepRunsFrontCommand : Obligations.StepRunsFrontCommand := fun _ _ _ h => step_of_pending_cons h

/-- Settles O2: `decodeTableWord` answers none for every word, so `withFetchWord` has no command to queue. -/
theorem stepIdles : Obligations.StepIdles :=
  ⟨fun _ h => step_of_pending_nil h, fun _ _ _ => ⟨rfl, rfl⟩⟩

/-- Settles O3, by induction on the number of steps: each drops one command. -/
theorem commandsServedInOrder : Obligations.CommandsServedInOrder := by
  intro n f h
  induction n with
  | zero => rfl
  | succ n ih =>
    have taken := ih fun k hk => h k (Nat.lt_succ_of_lt hk)
    rw [pending_of_step (h n n.lt_succ_self), taken, List.tail_drop]

/-! ## The invariant -/

/-- Settles O4: an idle step changes nothing, and every command keeps the invariant. -/
theorem invariantKept : Obligations.InvariantKept := by
  intro s t hs h
  cases hp : s.pending with
  | nil =>
    obtain rfl : s = t := Host.Outcome.next.inj ((step_of_pending_nil hp).symm.trans h)
    exact hs
  | cons c rest => exact exec_inv ((step_of_pending_cons hp).symm.trans h) (inv_pending hs rest)

/-- Settles O5. -/
theorem invariantAtReset : Obligations.InvariantAtReset := Tests.inv_of_check State.reset (by decide +kernel)

/-! ## What stops the block -/

/-- Every command but the memory accesses of an engine is carried out by a function that answers a next state. -/
theorem exec_next_of_not_access {c : Instr} (s : State) (h : ∀ e x a y, c ∉ Safety.accesses e x a y) : ∃ t, exec c s = .next t := by
  cases c with
  | ld8s e x a y | ld8u e x a y | ld16s e x a y | ld16u e x a y | ld32s e x a y | ld32u e x a y | ld64 e x a y | st8 e x a y
  | st16 e x a y | st32 e x a y | st64 e x a y | dld e x a y | dst e x a y | text e x a y =>
    exact absurd (by simp [Safety.accesses]) (h e x a y)
  | _ => exact ⟨_, rfl⟩

/-- The outcomes of a memory access. -/
def NextOrDevice (o : Host.Outcome State Fault Refusal) : Prop := (∃ t, o = .next t) ∨ o = .fault .deviceWindow

theorem NextOrDevice.ite {b : Bool} (t : State) : NextOrDevice (if b = true then .fault .deviceWindow else .next t) := by
  cases b with
  | true => exact .inr rfl
  | false => exact .inl ⟨t, rfl⟩

theorem loadOutcome_nextOrDevice (op e d a imm n : Nat) (f : Nat → Nat) (s : State) : NextOrDevice (loadOutcome op e d a imm n f s) := .ite _

theorem storeOutcome_nextOrDevice (op e b a imm n v : Nat) (s : State) : NextOrDevice (storeOutcome op e b a imm n v s) := .ite _

theorem loadSc_nextOrDevice (op e d a imm n : Nat) (f : Nat → Nat) (s : State) : NextOrDevice (loadSc op e d a imm n f s) := by
  unfold loadSc
  split
  · exact loadOutcome_nextOrDevice ..
  · exact .inl ⟨_, rfl⟩

theorem storeSc_nextOrDevice (op e b a imm n v : Nat) (s : State) : NextOrDevice (storeSc op e b a imm n v s) := by
  unfold storeSc
  split
  · exact storeOutcome_nextOrDevice ..
  · exact .inl ⟨_, rfl⟩

theorem execText_nextOrDevice (e d a b : Nat) (s : State) : NextOrDevice (execText e d a b s) := by
  unfold execText
  split
  · exact .ite _
  · exact .inl ⟨_, rfl⟩

theorem execDld_nextOrDevice (e d a imm : Nat) (s : State) : NextOrDevice (execDld e d a imm s) := .ite _

theorem exec_access_nextOrDevice (s : State) (e x a y : Nat) : ∀ c ∈ Safety.accesses e x a y, NextOrDevice (exec c s) := by
  simp only [Safety.accesses, List.forall_mem_cons, List.not_mem_nil, false_implies, implies_true, and_true]
  exact ⟨loadOutcome_nextOrDevice .., loadOutcome_nextOrDevice .., loadOutcome_nextOrDevice .., loadOutcome_nextOrDevice ..,
    loadOutcome_nextOrDevice .., loadSc_nextOrDevice .., loadSc_nextOrDevice .., storeOutcome_nextOrDevice ..,
    storeOutcome_nextOrDevice .., storeOutcome_nextOrDevice .., storeSc_nextOrDevice .., execDld_nextOrDevice ..,
    storeSc_nextOrDevice .., execText_nextOrDevice ..⟩

/-- A load whose aligned address leads to the device window stops the block (log entry 9). -/
theorem loadOutcome_device {s : State} {e a imm n : Nat} (hx : Safety.Executes s e)
    (hl : s.reach e (s.effAddr e a imm) n (·.r) = some .device) (op d : Nat) (f : Nat → Nat) :
    loadOutcome op e d a imm n f s = .fault .deviceWindow := by
  obtain ⟨runs, pcOk⟩ := hx
  unfold loadOutcome
  rw [runs, pcOk, hl]
  exact if_pos rfl

/-- Settles O6: what answers a next state leaves the queue and keeps the invariant, as every command does. -/
theorem onlyDeviceWindowStops : Obligations.OnlyDeviceWindowStops := by
  have kept {c : Instr} {s : State} (h : ∃ t, exec c s = .next t) :
      ∃ t, exec c s = .next t ∧ t.pending = s.pending ∧ (Safety.Inv s → Safety.Inv t) := by
    obtain ⟨t, ht⟩ := h
    exact ⟨t, ht, exec_queue ht, exec_inv ht⟩
  refine ⟨fun c s h => kept (exec_next_of_not_access s h), fun s e x a y c hc => ?_, fun s e x a y hx hl => loadOutcome_device hx hl ..⟩
  exact (exec_access_nextOrDevice s e x a y c hc).imp_left kept

end Sys2Proof.Proofs
end

section
/-!
PROOFS. The engines' integer instructions (15_engines.md): arithmetic, loads, stores, atomics, branches and jumps (R336–R338).
-/
namespace Sys2Proof.Proofs
open Sys2Proof Sys2Proof.Machine

/-! ## Words of the register width (R336) -/

section
variable {w x y : Nat} (hx : x < 2 ^ w) (hy : y < 2 ^ w)
include hx hy

theorem val_add : (x + y) % 2 ^ w = (BitVec.ofNat w x + BitVec.ofNat w y).toNat := by
  rw [BitVec.toNat_add, toNat_x' hx, toNat_x' hy]

theorem val_and : (x &&& y) % 2 ^ w = (BitVec.ofNat w x &&& BitVec.ofNat w y).toNat := by
  rw [BitVec.toNat_and, toNat_x' hx, toNat_x' hy, Nat.mod_eq_of_lt (Nat.and_lt_two_pow x hy)]

theorem val_or : (x ||| y) % 2 ^ w = (BitVec.ofNat w x ||| BitVec.ofNat w y).toNat := by
  rw [BitVec.toNat_or, toNat_x' hx, toNat_x' hy, Nat.mod_eq_of_lt (Nat.or_lt_two_pow hx hy)]

theorem val_xor : (x ^^^ y) % 2 ^ w = (BitVec.ofNat w x ^^^ BitVec.ofNat w y).toNat := by
  rw [BitVec.toNat_xor, toNat_x' hx, toNat_x' hy, Nat.mod_eq_of_lt (Nat.xor_lt_two_pow hx hy)]

theorem val_mul : x * y % 2 ^ w = (BitVec.ofNat w x * BitVec.ofNat w y).toNat := by
  rw [BitVec.toNat_mul, toNat_x' hx, toNat_x' hy]

theorem val_mulhu : x * y / 2 ^ w % 2 ^ w = (BitVec.ofNat w ((BitVec.ofNat w x).toNat * (BitVec.ofNat w y).toNat / 2 ^ w)).toNat := by
  rw [BitVec.toNat_ofNat, toNat_x' hx, toNat_x' hy]

theorem val_divu (hw : 0 < w) : (if y = 0 then 2 ^ w - 1 else x / y) % 2 ^ w =
    (if BitVec.ofNat w y = 0 then BitVec.allOnes w else BitVec.ofNat w x / BitVec.ofNat w y).toNat := by
  by_cases h : y = 0
  · rw [if_pos h, if_pos ((zero_iff hw hx hy).mpr h), BitVec.toNat_allOnes]
    exact Nat.mod_eq_of_lt (Nat.sub_lt (Nat.two_pow_pos w) one_pos)
  · rw [if_neg h, if_neg (mt (zero_iff hw hx hy).mp h), BitVec.toNat_udiv, toNat_x' hx, toNat_x' hy]
    exact Nat.mod_eq_of_lt ((Nat.div_le_self x y).trans_lt hx)

theorem val_remu : (if y = 0 then x else x % y) % 2 ^ w = (BitVec.ofNat w x % BitVec.ofNat w y).toNat := by
  rw [BitVec.toNat_umod, toNat_x' hx, toNat_x' hy]
  by_cases h : y = 0
  · rw [if_pos h, h, Nat.mod_zero, Nat.mod_eq_of_lt hx]
  · rw [if_neg h, Nat.mod_eq_of_lt ((Nat.mod_le x y).trans_lt hx)]

end

section
variable {w x : Nat} (hx : x < 2 ^ w)
include hx

theorem val_shl (k : Nat) : x * 2 ^ k % 2 ^ w = (BitVec.ofNat w x <<< k).toNat := by
  rw [BitVec.toNat_shiftLeft, toNat_x' hx, Nat.shiftLeft_eq]

theorem val_shr (k : Nat) : x / 2 ^ k % 2 ^ w = (BitVec.ofNat w x >>> k).toNat := by
  rw [BitVec.toNat_ushiftRight, toNat_x' hx, Nat.shiftRight_eq_div_pow, Nat.mod_eq_of_lt ((Nat.div_le_self _ _).trans_lt hx)]

theorem val_lzc : (w - bitLen x) % 2 ^ w = (BitVec.ofNat w (w - Nat.size (BitVec.ofNat w x).toNat)).toNat := by
  rw [BitVec.toNat_ofNat, toNat_x' hx, bitLen_eq]

end

/-- The set bits of a word, counted, are as many as those of the number, and fit the word. -/
theorem val_ones (w x : Nat) : popcount w x % 2 ^ w = (BitVec.ofNat w ((List.range w).countP (BitVec.ofNat w x).getLsbD)).toNat := by
  have same : (List.range w).countP (BitVec.ofNat w x).getLsbD = popcount w x := by
    unfold popcount
    refine List.countP_congr fun i hi => ?_
    rw [BitVec.getLsbD_ofNat, decide_eq_true (List.mem_range.mp hi), Bool.true_and]
  rw [BitVec.toNat_ofNat, same]

/-- A signed word extended to another width. -/
theorem ofSigned_toSigned {n : Nat} (hn : 0 < n) (w v : Nat) : ofSigned w (toSigned n v) = ((BitVec.ofNat n v).signExtend w).toNat := by
  rw [ofSigned_eq, toSigned_eq _ _ hn]
  rfl

theorem val_sext {n : Nat} (hn : 0 < n) (w v : Nat) :
    ofSigned w (toSigned n v) % 2 ^ w = ((BitVec.ofNat n v).signExtend w).toNat := by
  rw [ofSigned_toSigned hn, Nat.mod_eq_of_lt (BitVec.isLt _)]

/-- A shift amount below the register width is not ILLEGAL (R338). -/
theorem opShiftK_of_lt {e imm : Nat} (h : imm % 64 < engWidth e) (op d a : Nat) (f : Nat → Nat → Nat → Nat) (s : State) :
    opShiftK op e d a imm f s = opAluK op e d a imm (fun w x => f w x (imm % 64)) s := by
  have legal : (!isSc e && bit imm 5) = false := by
    cases sc : isSc e with
    | true => rfl
    | false =>
      have small : imm % 64 < 32 := by simpa [engWidth, sc] using h
      have : imm / 32 % 2 = 0 := by omega
      simp [bit, Nat.testBit, Nat.shiftRight_eq_div_pow, this]
  unfold opShiftK
  rw [legal]
  exact if_neg Bool.false_ne_true

/-- Settles O10: every register instruction is an `opAlu`, whose function gives the value of the statement. -/
theorem engineRegisterArithmetic : Obligations.EngineRegisterArithmetic := by
  intro s e d a b hs hx w x y k gives
  have hw : 0 < w := engWidth_pos e
  have ha : s.reg e a < 2 ^ w := s.reg_lt e a
  have hb : s.reg e b < 2 ^ w := s.reg_lt e b
  have alu {b fn : Nat} {f : Nat → Nat → Nat → Nat} {v : BitVec w} (h : f w (s.reg e a) (s.reg e b) % 2 ^ w = v.toNat) :
      Safety.IntResult s e d v.toNat (Safety.nextPc s e) (.next (opAlu e d a b fn f s)) := alu_result hs hx d a b fn f _ h
  exact ⟨alu (val_add ha hb), alu (val_sub hw ha hb), alu (val_and ha hb), alu (val_or ha hb), alu (val_xor ha hb),
    alu (val_shl ha k), alu (val_shr ha k), alu (val_asr hw ha hb k), alu (val_slt hw ha hb), alu (val_ult hw ha hb),
    alu (val_mul ha hb), alu (val_mulhs hw ha hb), alu (val_mulhu ha hb), alu (val_divs hw ha hb), alu (val_divu ha hb hw),
    alu (val_rems hw ha hb), alu (val_remu ha hb), alu (val_lzc ha), alu (val_ones w _)⟩

/-- Settles O11: every immediate instruction is an `opAluK`; a shift below the register width is one on a time engine too. -/
theorem engineImmediateArithmetic : Obligations.EngineImmediateArithmetic := by
  intro s e d a imm hs hx w x i z k gives
  have hw : 0 < w := engWidth_pos e
  have ha : s.reg e a < 2 ^ w := s.reg_lt e a
  have hi : immS e imm < 2 ^ w := immS_lt e imm
  have hz : imm % 65536 < 2 ^ w := by rw [zext_eq e imm]; exact BitVec.isLt _
  have i_eq : BitVec.ofNat w (immS e imm) = i := by rw [immS_eq]; exact ofNat_toNat' i
  have z_eq : BitVec.ofNat w (imm % 65536) = z := by rw [zext_eq e imm]; exact ofNat_toNat' z
  have aluK {op : Nat} {f : Nat → Nat → Nat} {v : BitVec w} (h : f w (s.reg e a) % 2 ^ w = v.toNat) :
      Safety.IntResult s e d v.toNat (Safety.nextPc s e) (.next (opAluK op e d a imm f s)) := aluK_result hs hx op d a imm f _ h
  refine ⟨aluK ?_, aluK ?_, aluK ?_, aluK ?_, aluK ?_, aluK ?_, fun h => ?_, fun h => ?_⟩
  · rw [← i_eq]; exact val_add ha hi
  · rw [← z_eq]; exact val_and ha hz
  · rw [← z_eq]; exact val_or ha hz
  · rw [← z_eq]; exact val_xor ha hz
  · rw [← toInt_sext e imm, toSigned_eq _ _ hw]
    exact val_bool hw ha ha _
  · rw [← i_eq]; exact val_ult hw ha hi
  · have khi : exec (.khi e d a imm) s = .next (opAluK 8 e d a imm (fun w _ => ofSigned w (toSigned 32 (imm % 65536 * 65536))) s) :=
      congrArg _ (if_pos h)
    unfold gives
    rw [khi]
    exact aluK (val_sext (by norm_num) w _)
  · have shift {op : Nat} {f : Nat → Nat → Nat → Nat} {v : BitVec w} (hv : f w (s.reg e a) k % 2 ^ w = v.toNat) :
        Safety.IntResult s e d v.toNat (Safety.nextPc s e) (.next (opShiftK op e d a imm f s)) := by
      rw [opShiftK_of_lt h]
      exact aluK hv
    exact ⟨shift (val_shl ha k), shift (val_shr ha k), shift (val_asr hw ha ha k)⟩

/-! ## Loads and stores (R336, R338) -/

/-- Settles O12: every load that reaches its place leaves the bytes there, extended. -/
theorem engineLoads : Obligations.EngineLoads := by
  intro s e d a imm l hs hx w addr got reads gives
  have load {op n : Nat} {f : Nat → Nat} {v : BitVec w} (hr : reads n) (h : f (got n) % 2 ^ w = v.toNat) :
      Safety.IntResult s e d v.toNat (Safety.nextPc s e) (loadOutcome op e d a imm n f s) :=
    load_result hs hx op d a imm n f _ l (by rwa [effAddr_eq]) h
  have signed (n : Nat) (hn : 0 < 8 * n) : ofSigned w (toSigned (8 * n) (got n)) % 2 ^ w = _ := val_sext hn w (got n)
  have unsigned {n : Nat} (hr : reads n) : got n % 2 ^ w = ((BitVec.ofNat (8 * n) (got n)).zeroExtend w).toNat := by
    rw [BitVec.toNat_setWidth, BitVec.toNat_ofNat, Nat.mod_eq_of_lt (got_lt s e l n hr.2)]
  have loadOfSc {op n : Nat} {f : Nat → Nat} {v : BitVec w} (sc : isSc e = true) (hr : reads n) (h : f (got n) % 2 ^ w = v.toNat) :
      Safety.IntResult s e d v.toNat (Safety.nextPc s e) (loadSc op e d a imm n f s) := by
    unfold loadSc
    rw [if_pos sc]
    exact load hr h
  refine ⟨fun hr => ⟨load hr (signed 1 (by norm_num)), load hr (unsigned hr)⟩,
    fun hr => ⟨load hr (signed 2 (by norm_num)), load hr (unsigned hr)⟩, fun hr => load hr (signed 4 (by norm_num)),
    fun sc hr => loadOfSc sc hr (unsigned hr), fun sc hr => loadOfSc sc hr (unsigned hr),
    fun sc hr => fload_result hs hx sc d a imm l (by rwa [effAddr_eq])⟩

/-- Settles O13. -/
theorem engineStores : Obligations.EngineStores := by
  intro s e b a imm l hs hx w addr reaches puts
  have store {op n v : Nat} (hr : reaches n) := store_result hs hx op b a imm n v l (by rwa [effAddr_eq])
  have storeOfSc {op n v : Nat} (sc : isSc e = true) (hr : reaches n) : ∃ t, storeSc op e b a imm n v s = .next t ∧
      Safety.OnlyMem s t e ∧ Safety.Stores s t e l n v ∧ (∀ r, t.reg e r = s.reg e r) ∧ (t.eng e).pc = Safety.nextPc s e := by
    unfold storeSc
    rw [if_pos sc]
    exact store hr
  exact ⟨store, store, store, storeOfSc, storeOfSc⟩

/-! ## Atomics, branches and jumps (R337, R338) -/

/-- A word of the register width, read from a place that holds bytes, fits a register. -/
theorem leNat_word_lt (s : State) (e : Nat) {l : Loc} (h : l ≠ .device) : leNat (s.readLoc e l (engWidth e / 8)) < 2 ^ engWidth e := by
  have bytes : 8 * (engWidth e / 8) = engWidth e := by unfold engWidth; split <;> rfl
  calc
    leNat (s.readLoc e l (engWidth e / 8)) < 2 ^ (8 * (engWidth e / 8)) := got_lt s e l _ h
    _ = 2 ^ engWidth e := by rw [bytes]

/-- An instruction that only goes on. -/
theorem intResult_advance {s : State} (hs : Safety.Inv s) {e : Nat} (hx : Safety.Executes s e) (word : Nat) (evs : List (Nat × Nat)) (v : Nat) :
    Safety.IntResult s e 0 v (Safety.nextPc s e) (.next (s.advance e word evs)) :=
  intResult_none (inv_eng_lt hs hx.1) (inv_eng_ok hs hx.1).regs word evs _ v

/-- Settles O14: gd takes the old word, and what an atomic writes fits the word. -/
theorem engineAtomicsAndOrder : Obligations.EngineAtomicsAndOrder := by
  intro s e d a b l hs hx w old y shared swaps
  refine ⟨fun hr => ?_, ?_⟩
  · have atomic {fn : Nat} {f : Nat → Nat → Nat} {v : Nat} := atomic_result hs hx d a b fn f v l hr
    have hy : y < 2 ^ w := s.reg_lt e b
    have ho : old < 2 ^ w := leNat_word_lt s e (by obtain ⟨_, ⟨_, rfl⟩ | ⟨_, rfl⟩⟩ := hr <;> exact Loc.noConfusion)
    exact ⟨atomic (Nat.mod_eq_of_lt hy), atomic rfl, atomic (Nat.mod_eq_of_lt (Nat.and_lt_two_pow y ho)),
      atomic (Nat.mod_eq_of_lt (Nat.or_lt_two_pow hy ho))⟩
  · have order : exec (.order e) s = .next (s.advance e (wordR 0x1D 0 0 0 0) []) := congrArg _ (opIns_run hx ..)
    rw [order]
    exact intResult_advance hs hx ..

/-- A branch goes to its target where its condition holds, and on where it does not. -/
theorem branch_result {s : State} (hs : Safety.Inv s) {e : Nat} (hx : Safety.Executes s e) (op a b off : Nat) (f : Nat → Nat → Nat → Bool) {c : Bool}
    (hc : f (engWidth e) (s.reg e a) (s.reg e b) = c) :
    Safety.IntResult s e 0 0 (if c = true then s.target e 16 off % 2 ^ engWidth e else Safety.nextPc s e)
      (.next (opBranch op e a b off f s)) := by
  unfold opBranch
  dsimp only
  rw [opIns_run hx, hc]
  cases c with
  | true => exact intResult_none (inv_eng_lt hs hx.1) (inv_eng_ok hs hx.1).regs ..
  | false => exact intResult_advance hs hx ..

theorem target_lt (s : State) (e n off : Nat) (hn : 0 < n) : s.target e n off < 2 ^ engWidth e := by
  rw [target_eq s e n off hn]
  exact BitVec.isLt _

/-- Settles O15. -/
theorem engineBranchesAndJumps : Obligations.EngineBranchesAndJumps := by
  intro s e d a b off hs hx w x y pc near far goes
  have hw : 0 < w := engWidth_pos e
  have ha : (BitVec.ofNat w (s.reg e a)).toNat = s.reg e a := toNat_x' (s.reg_lt e a)
  have hb : (BitVec.ofNat w (s.reg e b)).toNat = s.reg e b := toNat_x' (s.reg_lt e b)
  have near_eq : s.target e 16 off % 2 ^ w = near := by
    rw [Nat.mod_eq_of_lt (target_lt s e 16 off (by norm_num)), target_eq s e 16 off (by norm_num)]
  have far_eq : s.target e 26 off % 2 ^ w = far := by
    rw [Nat.mod_eq_of_lt (target_lt s e 26 off (by norm_num)), target_eq s e 26 off (by norm_num)]
  have branch {op : Nat} {f : Nat → Nat → Nat → Bool} {c : Bool} (h : f w (s.reg e a) (s.reg e b) = c) :
      Safety.IntResult s e 0 0 (if c then near else Safety.nextPc s e) (.next (opBranch op e a b off f s)) := by
    rw [← near_eq]
    exact branch_result hs hx op a b off f h
  have eq_iff : s.reg e a = s.reg e b ↔ x = y := by rw [← BitVec.toNat_inj, ha, hb]
  have signedA : toSigned w (s.reg e a) = x.toInt := toSigned_eq w _ hw
  have signedB : toSigned w (s.reg e b) = y.toInt := toSigned_eq w _ hw
  have jump {word pc : Nat} : Safety.IntResult s e 0 0 (pc % 2 ^ w) (.next (opIns e word (fun s => s.done e word [(6, 1)] pc) s)) := by
    rw [opIns_run hx]
    exact intResult_none (inv_eng_lt hs hx.1) (inv_eng_ok hs hx.1).regs ..
  have link {word pc d : Nat} : Safety.IntResult s e d (Safety.nextPc s e) (pc % 2 ^ w)
      (.next ((s.done e word [(6, 1)] pc).setReg e d ((s.eng e).pc + 4))) :=
    intResult_done (inv_eng_lt hs hx.1) (inv_eng_ok hs hx.1).regs ..
  refine ⟨branch ?_, branch ?_, branch ?_, branch ?_, branch ?_, branch ?_, ?_, ?_, ?_⟩
  · exact Bool.eq_iff_iff.mpr (by simpa only [beq_iff_eq] using eq_iff)
  · exact Bool.eq_iff_iff.mpr (by simpa only [bne_iff_ne] using not_congr eq_iff)
  · simp only [signedA, signedB, BitVec.slt]
  · simp only [signedA, signedB, BitVec.slt, ← not_lt, decide_not]
  · simp only [BitVec.ult, x, y, ha, hb]
  · simp only [BitVec.ult, x, y, ha, hb, ← not_lt, decide_not]
  · rw [← far_eq]
    exact jump
  · have call : exec (.call e off) s = _ := congrArg Host.Outcome.next (opIns_run hx (wordJ 0x27 off) _)
    rw [← far_eq, call]
    exact link
  · have gor : exec (.gor e d a off) s = _ := congrArg Host.Outcome.next (opIns_run hx (wordK 0x28 d a off) _)
    have inWord : s.effAddr e a off / 4 * 4 < 2 ^ w :=
      (Nat.div_mul_le_self _ 4).trans_lt (Nat.mod_lt _ (Nat.two_pow_pos w))
    have linked := link (word := wordK 0x28 d a off) (pc := s.effAddr e a off / 4 * 4) (d := d)
    rw [Nat.mod_eq_of_lt inWord] at linked
    rw [gor, ← effAddr_eq]
    exact linked

end Sys2Proof.Proofs
end

section
/-!
PROOFS. The engines' floating-point and time instructions (15_engines.md): R336, R338, R339.
-/
namespace Sys2Proof.Proofs
open Sys2Proof Sys2Proof.Machine

/-! ## Floating-point arithmetic (R336, R338) -/

section
variable {s : State} (hs : Safety.Inv s) {e : Nat} (hx : Safety.Executes s e) (sc : isSc e = true)
include hs hx sc

theorem opFp_result (d a b fn : Nat) (f : Nat → Nat → Nat → Nat × Nat) {r : Nat × Nat}
    (hr : f (Config.freeValue s.freeCount) (s.freg e a) (s.freg e b) = r) :
    Safety.FloatResult s e d (r.1 % 2 ^ 64) r.2 (.next (opFp e d a b fn f s)) := by
  unfold opFp
  rw [opInsSc_run hx sc, ← hr]
  exact float_frame hs hx ..

theorem opGFp_result (d a fn : Nat) (f : Nat → Nat × Nat) {r : Nat × Nat} (hr : f (s.reg e a) = r) :
    Safety.FloatResult s e d (r.1 % 2 ^ 64) r.2 (.next (opGFp e d a fn f s)) := by
  unfold opGFp
  rw [opInsSc_run hx sc, ← hr]
  exact float_frame hs hx _ s.freeCount ..

theorem opFpG_result (d a b fn : Nat) (f : Nat → Nat → Nat → Nat × Nat) {v flags : Nat}
    (hv : (f (Config.freeValue s.freeCount) (s.freg e a) (s.freg e b)).1 % 2 ^ engWidth e = v)
    (hf : (f (Config.freeValue s.freeCount) (s.freg e a) (s.freg e b)).2 = flags) :
    Safety.FloatToInt s e d v flags (.next (opFpG e d a b fn f s)) := by
  unfold opFpG
  rw [opInsSc_run hx sc, ← hv, ← hf]
  exact float_to_int hs hx ..

end

/-- Settles O16. -/
theorem engineFloatArithmetic : Obligations.EngineFloatArithmetic := by
  intro s e d a b hs hx sc x y free gives
  have fp {b fn : Nat} {f : Nat → Nat → Nat → Nat × Nat} {r : Nat × Nat} (h : f free x (s.freg e b) = r) := opFp_result hs hx sc d a b fn f h
  have gfp {fn : Nat} {f : Nat → Nat × Nat} {r : Nat × Nat} (h : f (s.reg e a) = r) := opGFp_result hs hx sc d a fn f h
  exact ⟨fp rfl, fp rfl, fp rfl, fp rfl, fp rfl, fp rfl, fp rfl, fp rfl, fp rfl,
    gfp (congrArg itof (toSigned_eq 64 _ (by norm_num))), gfp rfl⟩

/-! ## Comparisons and conversions (R336, R338; log entry 52) -/

theorem engWidth_of_isSc {e : Nat} (h : isSc e = true) : engWidth e = 64 := if_pos h

theorem freg_lt (s : State) (e r : Nat) : s.freg e r < 2 ^ 64 := BitVec.isLt _

/-- A truth value fits a register. -/
theorem b2n_mod (b : Bool) (e : Nat) : b2n b % 2 ^ engWidth e = if b then 1 else 0 := by
  have : 1 < 2 ^ engWidth e := Nat.one_lt_two_pow (engWidth_pos e).ne'
  cases b with
  | true => exact Nat.mod_eq_of_lt this
  | false => exact Nat.zero_mod _

theorem isSnan_of_not_isNan {x : Nat} (h : isNan x = false) : isSnan x = false := by
  rw [isSnan, h, Bool.false_and]

/-- Settles O17. -/
theorem engineFloatCompareAndConvert : Obligations.EngineFloatCompareAndConvert := by
  intro s e d a b hs hx sc x y less nan gives
  have w64 : engWidth e = 64 := engWidth_of_isSc sc
  have cmp {b fn : Nat} {f : Nat → Nat → Nat → Nat × Nat} {v flags : Nat} := opFpG_result hs hx sc d a b fn f (v := v) (flags := flags)
  have snan_of_not_nan (h : nan = false) : (isSnan x || isSnan y) = false := by
    obtain ⟨hx', hy'⟩ := Bool.or_eq_false_iff.mp h
    rw [isSnan_of_not_isNan hx', isSnan_of_not_isNan hy', Bool.or_false]
  have feq_eq : feq x y = (b2n (!nan && !less x y && !less y x), if isSnan x || isSnan y then 16 else 0) := by
    unfold feq
    cases h : nan with
    | true => exact if_pos h
    | false =>
      rw [snan_of_not_nan h]
      exact if_neg (Bool.eq_false_iff.mp h)
  have flt_eq : flt x y = (b2n (!nan && less x y), if nan then 16 else 0) := by
    unfold flt
    cases h : nan with
    | true => exact if_pos h
    | false => exact if_neg (Bool.eq_false_iff.mp h)
  have fle_eq : fle x y = (b2n (!nan && !less y x), if nan then 16 else 0) := by
    unfold fle
    cases h : nan with
    | true => exact if_pos h
    | false => exact if_neg (Bool.eq_false_iff.mp h)
  refine ⟨cmp ?_ (congrArg Prod.snd feq_eq), cmp ?_ (congrArg Prod.snd flt_eq), cmp ?_ (congrArg Prod.snd fle_eq), cmp (w64 ▸ rfl) rfl,
    cmp ?_ rfl⟩
  · rw [feq_eq, b2n_mod]
  · rw [flt_eq, b2n_mod]
  · rw [fle_eq, b2n_mod]
  · rw [w64, Nat.mod_eq_of_lt (freg_lt s e a)]

/-! ## Time and girth (R339) -/

theorem inv_eng_length {s : State} (hs : Safety.Inv s) {e : Nat} (he : e < 36) : e < s.engs.eng.length := hs.engs.count ▸ he

theorem inv_engOk {s : State} (hs : Safety.Inv s) {e : Nat} (he : e < 36) : Safety.EngOk (s.eng e) := by
  unfold State.eng
  rw [List.getD_eq_getElem _ _ (inv_eng_length hs he)]
  exact hs.engs.each _ (List.getElem_mem _)

/-- A register write leaves every other field of the engine as it was. -/
theorem eng_setReg_proj {α : Type} (p : Eng → α) (hp : ∀ g l, p { g with regs := l } = p g) (s : State) (e d v : Nat) :
    p ((s.setReg e d v).eng e) = p (s.eng e) := by
  obtain ⟨l, hl, -⟩ := State.setReg_spec s e d v
  rw [hl]
  exact eng_onEng_proj p (fun g => hp g l) e

/-- Writing one more register leaves an instruction's frame as it was. -/
theorem onlyInt_setReg {s t : State} {e : Nat} (he : e < t.engs.eng.length) (h : Safety.OnlyInt s t e) (d v : Nat) :
    Safety.OnlyInt s (t.setReg e d v) e := by
  obtain ⟨l, hl, -⟩ := State.setReg_spec t e d v
  have eng : (t.setReg e d v).eng e = { t.eng e with regs := l } := by rw [hl, State.eng_onEng _ he]
  have free : (t.setReg e d v).freeCount = t.freeCount := by rw [hl]; rfl
  unfold Safety.OnlyInt at h ⊢
  rw [eng, free, hl]
  conv_lhs => rw [h]
  rw [State.onEng_onEng]

/-- The NSC has 32 bits. -/
theorem nsc_lt (s : State) : s.nsc < 2 ^ 32 := Nat.mod_lt _ (by norm_num)

/-- What a servo core's TNOW reads fits its register. -/
theorem tnow_lt (s : State) : s.nsc * 65536 + s.tb.lc % 65536 < 2 ^ 64 := by
  have := nsc_lt s
  omega

/-- A number of 32 bits fits every register. -/
theorem mod_width_of_lt {v : Nat} (h : v < 2 ^ 32) (e : Nat) : v % 2 ^ engWidth e = v := Nat.mod_eq_of_lt (h.trans_le (pow32_le e))

theorem inv_atTime {s : State} (hs : Safety.Inv s) (now : Nat) : Safety.Inv (s.atTime now) := (State.atTime_keeps s now).inv hs

/-- An instruction that writes gd and goes on. -/
theorem intResult_next {s : State} (hs : Safety.Inv s) {e : Nat} (hx : Safety.Executes s e) (word : Nat) (evs : List (Nat × Nat)) (d : Nat) {v w : Nat}
    (hv : w % 2 ^ engWidth e = v) : Safety.IntResult s e d v (Safety.nextPc s e) (.next ((s.advance e word evs).setReg e d w)) := by
  rw [← hv]
  exact intResult_done (inv_eng_lt hs hx.1) (inv_eng_ok hs hx.1).regs ..

theorem opTnow_of_sc {s : State} {e : Nat} (hx : Safety.Executes s e) (sc : isSc e = true) (d : Nat) :
    opTnow e d s = (s.advance e (wordR 0x38 d 0 0 0) []).setReg e d (s.nsc * 65536 + s.tb.lc % 65536) := by
  unfold opTnow
  exact (opIns_run hx _ _).trans (if_pos sc)

theorem opTnow_of_te {s : State} {e d : Nat} (hx : Safety.Executes s e) (te : isSc e = false) (hd : d % 2 = 0) :
    opTnow e d s = ((s.advance e (wordR 0x38 d 0 0 0) []).setReg e d s.nsc).setReg e (d + 1) (s.tb.lc % 65536) := by
  unfold opTnow
  exact (opIns_run hx _ _).trans ((if_neg (Bool.eq_false_iff.mp te)).trans (if_neg (by omega)))

theorem opTseq_run {s : State} {e : Nat} (hx : Safety.Executes s e) (d : Nat) :
    opTseq e d s = (s.advance e (wordR 0x38 d 0 0 1) []).setReg e d s.aseqNow := by
  unfold opTseq
  exact opIns_run hx _ _

theorem opGirth_run {s : State} {e : Nat} (hx : Safety.Executes s e) (d a b fn : Nat) (f : Nat → Nat → Nat) :
    opGirth e d a b fn f s = (s.advance e (wordR 0x38 d a b fn) []).setReg e d (f (s.reg e a % 2 ^ 32) (s.reg e b % 2 ^ 32)) := by
  unfold opGirth
  exact opIns_run hx _ _

/-- On a time engine TNOW writes a pair of registers; of an even number and the next, the first may be g0. -/
theorem tnow_pair {u : State} (hu : Safety.Inv u) {e d : Nat} (hx : Safety.Executes u e) (hd : d % 2 = 0) (word : Nat) :
    let t := ((u.advance e word []).setReg e d u.nsc).setReg e (d + 1) (u.tb.lc % 65536)
    Safety.OnlyInt u t e ∧ (t.eng e).pc = Safety.nextPc u e ∧
      ∀ r, t.reg e r = if r % 32 = d % 32 ∧ d % 32 ≠ 0 then u.nsc else if r % 32 = (d + 1) % 32 then u.tb.lc % 65536 else u.reg e r := by
  intro t
  obtain ⟨_, ⟨⟩, only, writes, pc⟩ := intResult_next hu hx word [] d (mod_width_of_lt (nsc_lt u) e)
  have he : e < 36 := engRuns_lt hx.1
  have hv : Safety.Inv ((u.advance e word []).setReg e d u.nsc) := (State.setReg_keeps ..).inv ((State.advance_keeps ..).inv hu)
  have hl := inv_eng_length hv he
  refine ⟨onlyInt_setReg hl only .., ?_, fun r => ?_⟩
  · rw [← pc]
    exact eng_setReg_proj (·.pc) (fun _ _ => rfl) ..
  · rw [State.reg_setReg hl (inv_engOk hv he).regs, writes r, mod_width_of_lt (by omega) e]
    by_cases h1 : r % 32 = (d + 1) % 32
    · rw [if_pos ⟨h1, by omega⟩, if_neg (by omega), if_pos h1]
    · rw [if_neg (fun h => h1 h.1), if_neg h1]

/-- Settles O18. -/
theorem engineTimeAndGirth : Obligations.EngineTimeAndGirth := by
  intro s now e d a b hs u x y
  have hu : Safety.Inv u := inv_atTime hs now
  have hx32 : x < 2 ^ 32 := Nat.mod_lt _ (by norm_num)
  have hy32 : y < 2 ^ 32 := Nat.mod_lt _ (by norm_num)
  refine ⟨fun hx sc => ?_, fun hx te hd => ⟨_, congrArg Host.Outcome.next (opTnow_of_te hx te hd), tnow_pair hu hx hd _⟩, fun hx => ⟨?_, ?_, ?_⟩⟩
  · have run : exec (.tnow now e d) s = _ := congrArg Host.Outcome.next (opTnow_of_sc hx sc d)
    rw [run]
    exact intResult_next hu hx _ _ d (Nat.mod_eq_of_lt (engWidth_of_isSc sc ▸ tnow_lt u))
  · have run : exec (.tseq e d) s = _ := congrArg Host.Outcome.next (opTseq_run hx d)
    rw [run]
    exact intResult_next hs hx _ _ d rfl
  · have run : exec (.gadd e d a b) s = _ := congrArg Host.Outcome.next (opGirth_run hx d a b 4 _)
    rw [run, ← gsum_two x y]
    refine intResult_next hs hx _ _ d (mod_width_of_lt ?_ e)
    rw [gsum_two]
    omega
  · have run : exec (.gmax e d a b) s = _ := congrArg Host.Outcome.next (opGirth_run hx d a b 5 _)
    rw [run]
    exact intResult_next hs hx _ _ d (mod_width_of_lt (max_lt hx32 hy32) e)

/-- TEXT whose stamp record and result lie outside the device window. -/
theorem text_run {s : State} {e a b : Nat} {x y : Loc} (hx : Safety.Executes s e) (locs : s.textLocs e a b = some (x, y))
    (hxd : x ≠ .device) (hyd : y ≠ .device) (d : Nat) : exec (.text e d a b) s = .next
      (let v := leNat (s.readLoc e x 8)
       match s.extend (fld v 0 6) (fld v 6 1) with
       | some t => ((s.advance e (wordR 0x38 d a b 2) (accessEvent x false ++ accessEvent y true)).writeLoc e y (leBytes 12 (time96 t))).setReg e d 0
       | none => (s.advance e (wordR 0x38 d a b 2) (accessEvent x false ++ [(0x16, 1)])).setReg e d 1) := by
  obtain ⟨runs, pcOk⟩ := hx
  have noDevice : (x == .device || y == .device) = false := by simp [hxd, hyd]
  show execText e d a b s = _
  unfold execText opText
  dsimp only
  rw [opIns_run ⟨runs, pcOk⟩, runs, pcOk, Bool.and_self, if_pos rfl, locs]
  exact if_neg (Bool.eq_false_iff.mp noDevice)

/-- Settles O19. -/
theorem engineTextExtendsStamp : Obligations.EngineTextExtendsStamp := by
  intro s e d a b x y hs hx locs hxd hyd v
  rw [text_run hx locs hxd hyd d]
  dsimp only
  cases s.extend (fld v 0 6) (fld v 6 1) with
  | none => exact intResult_next hs hx _ _ d (mod_width_of_lt (by norm_num) e)
  | some full =>
    obtain ⟨only, stores, writes, pc⟩ := mem_result hs (engRuns_lt hx.1) (wordR 0x38 d a b 2) (accessEvent x false ++ accessEvent y true)
      ((s.eng e).pc + 4) y 12 (time96 full) d 0
    exact ⟨_, rfl, only, stores, (Nat.zero_mod _ ▸ writes), pc⟩

end Sys2Proof.Proofs
end

section
/-!
PROOFS. The engines' waits, queues and control (15_engines.md): R332, R339–R343, R345–R350.
-/
namespace Sys2Proof.Proofs
open Sys2Proof Sys2Proof.Machine

/-! ## An engine that does not run (R332, R342, R349) -/

section
variable {s : State} {e : Nat} (h : s.engRuns e = false)
include h

/-- The guard that every instruction begins with. -/
theorem guard_stopped (t : State) : (if (!s.engRuns e) = true then s else t) = s := by
  rw [h]
  exact if_pos rfl

theorem opShiftK_stopped (op d a imm : Nat) (f : Nat → Nat → Nat → Nat) : opShiftK op e d a imm f s = s := by
  unfold opShiftK
  dsimp only
  split
  · exact guard_stopped h _
  · exact guard_stopped h _

theorem execKhi_stopped (d a imm : Nat) : execKhi e d a imm s = .next s := by
  unfold execKhi
  split
  · exact congrArg Host.Outcome.next (guard_stopped h _)
  · exact congrArg Host.Outcome.next (guard_stopped h _)

/-- The device window stops the accesses of an engine that executes, and no other. -/
theorem device_stopped {b : Bool} {t : State} (ht : t = s) :
    (if (s.engRuns e && s.pcOk e && b) = true then .fault .deviceWindow else .next t : Host.Outcome State Fault Refusal) = .next s := by
  rw [h, ht]
  exact if_neg Bool.false_ne_true

theorem loadOutcome_stopped (op d a imm n : Nat) (f : Nat → Nat) : loadOutcome op e d a imm n f s = .next s :=
  device_stopped h (guard_stopped h _)

theorem loadSc_stopped (op d a imm n : Nat) (f : Nat → Nat) : loadSc op e d a imm n f s = .next s := by
  unfold loadSc
  split
  · exact loadOutcome_stopped h ..
  · exact congrArg Host.Outcome.next (guard_stopped h _)

theorem storeOutcome_stopped (op b a imm n v : Nat) : storeOutcome op e b a imm n v s = .next s :=
  device_stopped h (guard_stopped h _)

theorem storeSc_stopped (op b a imm n v : Nat) : storeSc op e b a imm n v s = .next s := by
  unfold storeSc
  split
  · exact storeOutcome_stopped h ..
  · exact congrArg Host.Outcome.next (guard_stopped h _)

theorem execDld_stopped (d a imm : Nat) : execDld e d a imm s = .next s := by
  have out : opFload e d a imm s = s := guard_stopped h _
  unfold execDld
  rw [h, out, Bool.and_false]
  exact if_neg Bool.false_ne_true

theorem execText_stopped (d a b : Nat) : execText e d a b s = .next s := by
  have out : opText e d a b s = s := guard_stopped h _
  unfold execText
  rw [h, out]
  rfl

end

/-- Settles O24: every instruction of an engine is guarded by `engRuns`. -/
theorem stoppedEngineExecutesNothing : Obligations.StoppedEngineExecutesNothing := by
  intro s e d a b imm now
  refine ⟨fun h => ?_, fun h => ?_⟩
  · have ins {t : State} := congrArg (Host.Outcome.next (φ := Fault) (ρ := Refusal)) (guard_stopped h t)
    have shift {op : Nat} {f : Nat → Nat → Nat → Nat} :=
      congrArg (Host.Outcome.next (φ := Fault) (ρ := Refusal)) (opShiftK_stopped h op d a imm f)
    have load {op n : Nat} {f : Nat → Nat} : loadOutcome op e d a imm n f s = .next s := loadOutcome_stopped h ..
    have loadOfSc {op n : Nat} {f : Nat → Nat} : loadSc op e d a imm n f s = .next s := loadSc_stopped h ..
    have store {op n v : Nat} : storeOutcome op e b a imm n v s = .next s := storeOutcome_stopped h ..
    have storeOfSc {op n v : Nat} : storeSc op e b a imm n v s = .next s := storeSc_stopped h ..
    simp only [Safety.engineInstrs, List.forall_mem_append, List.forall_mem_cons, List.not_mem_nil, false_implies, implies_true, and_true]
    exact ⟨⟨ins, ins, ins, ins, ins, ins, ins, ins, ins, ins, ins, ins, ins, ins, ins, ins, ins, ins, ins,
        ins, ins, ins, ins, ins, ins, execKhi_stopped h .., shift, shift, shift,
        load, load, load, load, load, loadOfSc, loadOfSc, store, store, store, storeOfSc,
        ins, ins, ins, ins, ins, ins, ins, ins, ins, ins, ins, ins, ins, ins⟩,
      ins, ins, ins, ins, ins, ins, ins, ins, ins, ins, ins, ins, ins, ins, ins, ins, execDld_stopped h .., storeOfSc,
      ins, execText_stopped h .., ins, ins, ins, ins, ins, ins, ins, ins, ins, ins, ins, ins, ins⟩
  · have ins {t : State} := congrArg (Host.Outcome.next (φ := Fault) (ρ := Refusal)) (guard_stopped h t)
    simp only [List.forall_mem_cons, List.not_mem_nil, false_implies, implies_true, and_true]
    exact ⟨ins, ins, ins, ins⟩

/-! ## Waits (R339–R342) -/

/-- Engine 0 waits for an NSC that is there already, on an ENG clock that is stopped. -/
def clockless : State := { Tests.stalled (.twait 0) with clk := { Tests.bench.clk with groups := List.replicate 15 0 } }

/-- Refutes O20: TWAIT is over and no work class is gated, yet the engine stays where it is, for its clock is stopped (R27). -/
theorem not_engineWaits : ¬ Obligations.EngineWaits := by
  intro h
  obtain ⟨-, resume, -⟩ := h clockless 0 0 0 0 (Tests.inv_of_check _ (by decide +kernel))
  have same := congrArg (fun t => (t.eng 0).pc) (Host.Outcome.next.inj (resume 0 (by decide +kernel)))
  exact absurd same (by decide +kernel)

/-! ## Queues (R340, R346, R347) -/

/-- A queue is read and written apart from the engines' own state. -/
theorem onEng_qDrop (s : State) (e q : Nat) (f : Eng → Eng) : (s.onEng e f).qDrop q = (s.qDrop q).onEng e f := by
  unfold State.qDrop
  split <;> rfl

theorem freeCount_qDrop (s : State) (q k : Nat) : ({ s with freeCount := k } : State).qDrop q = { s.qDrop q with freeCount := k } := by
  unfold State.qDrop
  split <;> rfl

theorem qDrop_eq (s : State) (q : Nat) : s.qDrop q =
    { s with engs := { s.engs with queues := (s.qDrop q).engs.queues, doorbell := (s.qDrop q).engs.doorbell } } := by
  unfold State.qDrop
  split <;> rfl

theorem byteAt_qDrop (s : State) (q k : Nat) (l : Loc) : Safety.byteAt (s.qDrop q) k l = Safety.byteAt s k l := by
  rw [qDrop_eq]
  exact byteAt_congr rfl rfl (fun _ => rfl) (fun _ => rfl) k l

theorem reg_qDrop (s : State) (q e r : Nat) : (s.qDrop q).reg e r = s.reg e r := by
  rw [qDrop_eq]
  exact State.reg_congr rfl r

/-- The records of every queue after those of one that is no doorbell are replaced. -/
theorem qRecs_setQueue (s : State) {q : Nat} (hq : q ≠ 0xC8) (l : List (List Byte × Bool)) (due : Bool) (k : Nat) :
    (s.setQueue q l due).qRecs k = if k = q then l else s.qRecs k := by
  unfold State.qRecs
  rw [recs_setQueue]
  by_cases hk : k = 0xC8
  · rw [if_pos hk, if_pos hk, if_neg (hk ▸ hq.symm)]
    rfl
  · rw [if_neg hk, if_neg hk]

theorem qRecs_doorbell (s : State) : s.qRecs 0xC8 = s.engs.doorbell.map (fun v => (leBytes 4 v, false)) := if_pos rfl

theorem qRecs_recs (s : State) {q : Nat} (hq : q ≠ 0xC8) : s.qRecs q = s.recs q := if_neg hq

/-- The oldest record leaves its queue, and every other queue is as it was. -/
theorem qRecs_qDrop (s : State) (q k : Nat) : (s.qDrop q).qRecs k = if k = q then (s.qRecs q).tail else s.qRecs k := by
  unfold State.qDrop
  by_cases hq : q = 0xC8
  · rw [if_pos hq, hq]
    by_cases hk : k = 0xC8
    · rw [hk, if_pos rfl, qRecs_doorbell, qRecs_doorbell, List.map_tail]
    · rw [if_neg hk, qRecs_recs _ hk, qRecs_recs _ hk]
      rfl
  · rw [if_neg hq, qRecs_setQueue s hq, qRecs_recs s hq]

/-- Bytes and the number that they spell. -/
theorem leBytes_leNat (l : List Byte) : leBytes l.length (leNat l) = l := by
  induction l with
  | nil => rfl
  | cons b t ih =>
    have := b.isLt
    have low : BitVec.ofNat 8 (leNat (b :: t)) = b := by
      apply BitVec.eq_of_toNat_eq
      simp only [leNat, BitVec.toNat_ofNat]
      omega
    have high : leNat (b :: t) / 256 = leNat t := by
      simp only [leNat]
      omega
    simp only [List.length_cons, leBytes, high, ih, List.cons.injEq, and_true]
    exact low

theorem onlyMem_queues {s t : State} {e : Nat} (h : Safety.OnlyMem s t e) :
    t.engs.queues = s.engs.queues ∧ t.engs.doorbell = s.engs.doorbell := by
  unfold Safety.OnlyMem at h
  constructor
  · rw [h]; rfl
  · rw [h]; rfl

/-- A record that is popped from a queue is stored at its place, and the mark of earlier drops is bit 31 of what gd takes. -/
theorem qpop_result {s : State} (hs : Safety.Inv s) {e : Nat} (hx : Safety.Executes s e) (word : Nat) (evs : List (Nat × Nat)) (q : Nat) (l : Loc)
    (r : List Byte) (d v : Nat) :
    let t := (((s.advance e word evs).qDrop q).writeLoc e l r).setReg e d v
    (∀ k, t.qRecs k = if k = q then (s.qRecs q).tail else s.qRecs k) ∧
      Safety.OnlyMem { s with engs := { s.engs with queues := t.engs.queues, doorbell := t.engs.doorbell } } t e ∧
      Safety.Stores s t e l r.length (leNat r) ∧ Safety.Writes s t e d (v % 2 ^ engWidth e) ∧ (t.eng e).pc = Safety.nextPc s e := by
  intro t
  obtain ⟨p, hp⟩ := State.done_spec s e word evs ((s.eng e).pc + 4)
  have ht : t = (((({ s.qDrop q with freeCount := s.freeCount + 1 } : State).onEng e (fun g =>
      { g with pmc := p, pc := ((s.eng e).pc + 4) % 2 ^ engWidth e })).writeLoc e l (leBytes r.length (leNat r))).setReg e d v) := by
    rw [leBytes_leNat, ← freeCount_qDrop, ← onEng_qDrop, ← hp]
    rfl
  obtain ⟨only, stores, writes, pc⟩ := mem_core ((State.qDrop_keeps s q).inv hs) (engRuns_lt hx.1) (s.freeCount + 1) p ((s.eng e).pc + 4) l r.length (leNat r) d v
  rw [← ht] at only stores writes pc
  obtain ⟨queues, doorbell⟩ := onlyMem_queues only
  refine ⟨fun k => ?_, ?_, ?_, ?_, pc⟩
  · rw [← qRecs_qDrop, qRecs_congr queues doorbell]
  · rwa [queues, doorbell, ← qDrop_eq]
  · intro k q' hk
    rw [stores k q' hk, byteAt_qDrop]
  · intro i
    rw [writes i, reg_qDrop]

theorem opQstat_run {s : State} {e a : Nat} (hx : Safety.Executes s e) (ok : s.qOk e (s.reg e a % 256) = true) (d : Nat) :
    opQstat e d a s = (s.advance e (wordR 0x39 d a 0 2) []).setReg e d (s.qRecs (s.reg e a % 256)).length := by
  unfold opQstat
  dsimp only
  rw [opIns_run hx, ok]
  exact if_neg (by decide)

theorem opQpop_run {s : State} {e a : Nat} (hx : Safety.Executes s e) (ok : s.qOk e (s.reg e a % 256) = true) (d b : Nat) :
    opQpop e d a b s = match s.qRecs (s.reg e a % 256) with
      | [] => (s.advance e (wordR 0x39 d a b 0) []).setReg e d 0
      | (r, mark) :: _ => match s.popLoc e (s.reg e b) r.length with
        | none => s.trapIns e (wordR 0x39 d a b 0) 2
        | some l => (((s.advance e (wordR 0x39 d a b 0) (accessEvent l true ++ [(0x10, 1)] ++ (if mark then [(0x11, 1)] else []))).qDrop
            (s.reg e a % 256)).writeLoc e l r).setReg e d (r.length % 2 ^ 24 + (if mark then 2 ^ 31 else 0)) := by
  unfold opQpop
  dsimp only
  rw [opIns_run hx, ok]
  exact if_neg (by decide)

theorem opQwait_run {s : State} {e a : Nat} (hx : Safety.Executes s e) (ok : s.qOk e (s.reg e a % 256) = true) (b : Nat) :
    opQwait e a b s =
      (let q := s.reg e a % 256
       let dl := if b % 32 = 0 then none else some (s.reg e b % 2 ^ 32)
       if !(s.qRecs q).isEmpty || dl.any s.reached then s.advance e (wordR 0x39 0 a b 3) []
       else (s.retire e (wordR 0x39 0 a b 3) [] false).onEng e (fun g => { g with stall := .qwait q dl })) := by
  unfold opQwait
  dsimp only
  rw [opIns_run hx, ok]
  exact if_neg (by decide)

/-- Settles O21. -/
theorem engineQueueReads : Obligations.EngineQueueReads := by
  intro s now e d a b hs u q dl
  refine ⟨fun hx ok => ?_, fun hx ok => ⟨?_, fun empty => ?_, fun r mark rest l full place => ?_⟩⟩
  · have run : exec (.qwait now e a b) s = _ := congrArg Host.Outcome.next (opQwait_run hx ok b)
    rw [run]
    have hu : Safety.Inv u := inv_atTime hs now
    dsimp only
    split
    · exact intResult_advance hu hx ..
    · obtain ⟨only, stall, -⟩ := stalls hu hx (wordR 0x39 0 a b 3) (.qwait (u.reg e a % 256) (dl u)) id
      exact ⟨_, rfl, only, stall⟩
  · have run : exec (.qstat e d a) s = _ := congrArg Host.Outcome.next (opQstat_run hx ok d)
    rw [run]
    exact intResult_next hs hx _ _ d rfl
  · have run : exec (.qpop e d a b) s = _ := congrArg Host.Outcome.next (opQpop_run hx ok d b)
    rw [run, empty]
    exact intResult_next hs hx _ _ d (Nat.zero_mod _)
  · have run : exec (.qpop e d a b) s = _ := congrArg Host.Outcome.next (opQpop_run hx ok d b)
    rw [full] at run
    dsimp only at run
    rw [place] at run
    have small : r.length % 2 ^ 24 + (if mark then 2 ^ 31 else 0) < 2 ^ 32 := by split <;> omega
    obtain ⟨recs, only, stores, writes, pc⟩ := qpop_result hs hx (wordR 0x39 d a b 0)
      (accessEvent l true ++ [(0x10, 1)] ++ (if mark then [(0x11, 1)] else [])) q l r d (r.length % 2 ^ 24 + (if mark then 2 ^ 31 else 0))
    rw [mod_width_of_lt small] at writes
    refine ⟨_, run, ?_, fun k hk => ?_, only, stores, writes, pc⟩
    · rw [recs, if_pos rfl, full]
      rfl
    · rw [recs, if_neg hk]

/-- The records that a queue holds at most (R340, R347). -/
def pushDepth (q : Nat) : Nat := if q = 0xC8 then 64 else if q < 0xC0 then Config.queueDepth q else 256

/-- The bytes of a record that an engine pushes. -/
def pushLen (e q : Nat) : Nat := if q = 0xC8 then 4 else engWidth e / 8

theorem qPush_full {s : State} {q : Nat} (h : pushDepth q ≤ (s.qRecs q).length) (e v : Nat) : s.qPush e q v = (s, false) := by
  unfold State.qPush
  unfold pushDepth at h
  by_cases hq : q = 0xC8
  · rw [if_pos hq, hq, qRecs_doorbell, List.length_map] at h
    rw [if_pos hq, if_neg (Nat.not_lt.mpr h)]
  · rw [if_neg hq, qRecs_recs s hq] at h
    rw [if_neg hq]
    exact if_neg (Nat.not_lt.mpr h)

/-- Only the low four bytes of a value reach the doorbell. -/
theorem leBytes_four_mod (v : Nat) : leBytes 4 (v % 4294967296) = leBytes 4 v := by
  simp only [leBytes, List.cons.injEq, and_true]
  refine ⟨?_, ?_, ?_, ?_⟩
  all_goals
    apply BitVec.eq_of_toNat_eq
    simp only [BitVec.toNat_ofNat]
    omega

/-- A push that its queue takes: the record joins the queue's others, an engine may see a queue event, and the host attention of the
doorbell may rise (R342, R347). -/
structure Pushed (s t : State) (e q v : Nat) : Prop where
  recs : ∃ mark, t.qRecs q = s.qRecs q ++ [(leBytes (pushLen e q) v, mark)]
  others : ∀ k, k ≠ q → t.qRecs k = s.qRecs k
  frame : t = { s with dict := t.dict, engs := { s.engs with eng := t.engs.eng, queues := t.engs.queues, doorbell := t.engs.doorbell } }
  engines : ∀ k, ∃ ev, t.eng k = { s.eng k with events := ev }

theorem irqEdge_eq (s t : State) : s.irqEdge t = { t with dict := (s.irqEdge t).dict } := by
  unfold State.irqEdge
  split <;> rfl

theorem qPush_room {s : State} {q : Nat} (h : (s.qRecs q).length < pushDepth q) (e v : Nat) :
    ∃ t, s.qPush e q v = (t, true) ∧ Pushed s t e q v := by
  unfold State.qPush
  unfold pushDepth at h
  by_cases hq : q = 0xC8
  · subst hq
    rw [if_pos rfl, qRecs_doorbell, List.length_map] at h
    rw [if_pos rfl, if_pos h]
    dsimp only
    refine ⟨_, rfl, ?_⟩
    rw [irqEdge_eq]
    refine ⟨⟨false, ?_⟩, fun k hk => ?_, rfl, fun k => ⟨_, rfl⟩⟩
    · rw [qRecs_doorbell, qRecs_doorbell, List.map_append, List.map_singleton, leBytes_four_mod]
      rfl
    · rw [qRecs_recs _ hk, qRecs_recs _ hk]
      rfl
  · rw [if_neg hq, qRecs_recs s hq] at h
    rw [if_neg hq]
    dsimp only
    rw [if_pos h]
    unfold State.enqueue
    rw [if_pos h]
    refine ⟨_, rfl, ⟨⟨s.dropDue q, ?_⟩, fun k hk => ?_, rfl, fun k => ?_⟩⟩
    · refine (qRecs_setQueue s hq _ false q).trans ?_
      rw [if_pos rfl, qRecs_recs s hq, pushLen, if_neg hq]
    · exact (qRecs_setQueue s hq _ false k).trans (if_neg hk)
    · exact eng_map_event (s.setQueue q _ false) k

theorem opQpush_run {s : State} {e a : Nat} (hx : Safety.Executes s e) (ok : s.qOk e (s.reg e a % 256) = true) (d b : Nat) :
    opQpush e d a b s = match s.qPush e (s.reg e a % 256) (s.reg e b) with
      | (t, true) => (t.advance e (wordR 0x39 d a b 1) []).setReg e d 0
      | (t, false) => (t.advance e (wordR 0x39 d a b 1) [(0x12, 1)]).setReg e d 1 := by
  unfold opQpush
  dsimp only
  rw [opIns_run hx, ok]
  exact if_neg (by decide)

theorem onlyInt_queues {s t : State} {e : Nat} (h : Safety.OnlyInt s t e) :
    t.engs.queues = s.engs.queues ∧ t.engs.doorbell = s.engs.doorbell := by
  unfold Safety.OnlyInt at h
  constructor
  · rw [h]; rfl
  · rw [h]; rfl

/-- The frame of a push and that of an instruction together. -/
theorem pushed_onlyInt_frame {s v t : State} {e q x : Nat} (h : Pushed s v e q x) (only : Safety.OnlyInt v t e) :
    t = { s with freeCount := t.freeCount, dict := t.dict, engs := { s.engs with
      eng := t.engs.eng, queues := t.engs.queues, doorbell := t.engs.doorbell } } := by
  obtain ⟨dict, eng, queues, doorbell, rfl⟩ : ∃ d g l b, v = { s with dict := d, engs := { s.engs with eng := g, queues := l, doorbell := b } } :=
    ⟨_, _, _, _, h.frame⟩
  unfold Safety.OnlyInt at only
  rw [only]
  rfl

/-- Settles O22. -/
theorem engineQueuePush : Obligations.EngineQueuePush := by
  intro s e d a b hs hx q depth len ok
  have run : exec (.qpush e d a b) s = _ := congrArg Host.Outcome.next (opQpush_run hx ok d b)
  have he : e < 36 := engRuns_lt hx.1
  refine ⟨fun room => ?_, fun full => ?_⟩
  · obtain ⟨v, push, pushed⟩ := qPush_room (q := q) room e (s.reg e b)
    rw [push] at run
    have hv : Safety.Inv v := by
      have kept := (State.qPush_keeps s e q (s.reg e b)).inv hs
      rwa [push] at kept
    obtain ⟨mark, recs⟩ := pushed.recs
    obtain ⟨ev, eng⟩ := pushed.engines e
    obtain ⟨_, ⟨⟩, only, writes, pc⟩ := intResult_done (inv_eng_length hv he) (inv_engOk hv he).regs (wordR 0x39 d a b 1) [] ((v.eng e).pc + 4) d 0
    obtain ⟨queues, doorbell⟩ := onlyInt_queues only
    refine ⟨_, mark, run, ?_, fun k hk => ?_, pushed_onlyInt_frame pushed only, fun r => ?_, ?_⟩
    · exact (qRecs_congr queues doorbell q).trans recs
    · exact (qRecs_congr queues doorbell k).trans (pushed.others k hk)
    · rw [← State.reg_congr (s := s) (t := v) (by rw [eng]) r, ← Nat.zero_mod (2 ^ engWidth e)]
      exact writes r
    · refine pc.trans ?_
      rw [eng]
      rfl
  · rw [run, qPush_full full]
    exact intResult_next hs hx _ _ d (mod_width_of_lt (by norm_num) e)

end Sys2Proof.Proofs
end

section
/-!
PROOFS. The paddock, and the recovery of engines (15_engines.md): R342, R343, R345, R348–R350.
-/
namespace Sys2Proof.Proofs
open Sys2Proof Sys2Proof.Machine

/-! ## Engines and tack arrays -/

theorem eng_onTack (s : State) (j n : Nat) (f : Tack → Tack) : (s.onTack j f).eng n = s.eng n := rfl

theorem tackOf_onEng (s : State) (e j : Nat) (f : Eng → Eng) : (s.onEng e f).tackOf j = s.tackOf j := rfl

theorem tackOf_onTack {s : State} {j : Nat} (h : j < s.engs.tack.length) (f : Tack → Tack) : (s.onTack j f).tackOf j = f (s.tackOf j) :=
  getD_upd_eq f j _ _ h

theorem tackIndex_of_paddock {e : Nat} (h1 : 24 ≤ e) (h2 : e < 32) : tackIndex e = some (e - 24) := by
  unfold tackIndex
  rw [decide_eq_true h1, decide_eq_true h2]
  rfl

theorem tackIndex_none {e : Nat} (h : e < 24 ∨ (32 ≤ e ∧ e < 36)) : tackIndex e = none := by
  unfold tackIndex
  refine if_neg ?_
  rw [Bool.and_eq_true, decide_eq_true_iff, decide_eq_true_iff]
  omega

/-- An engine that is halted for the debugger does not run. -/
theorem engRuns_of_halted {s : State} {e : Nat} (h : (s.eng e).halted = true) : s.engRuns e = false := by
  simp [State.engRuns, h]

/-- A paddock engine runs in TACK_STATE 3 alone. -/
theorem engRuns_of_tackState {s : State} {e j : Nat} (hp : s.inPaddock e = true) (hj : tackIndex e = some j) (h : (s.tackOf j).state ≠ 3) :
    s.engRuns e = false := by
  have status : (s.eng e).status = .paddock := by simpa [State.inPaddock] using hp
  simp [State.engRuns, status, hj, h]

/-! ## The end of a tack program (R342, R350) -/

theorem tackOf_tackStop {s : State} {j : Nat} (h : j < s.engs.tack.length) (state cause pc : Nat) :
    (s.tackStop j state cause pc).tackOf j = { s.tackOf j with state := state, cause := cause, trapPc := pc } := tackOf_onTack h _

theorem inPaddock_onEng {s : State} {e : Nat} {f : Eng → Eng} (h : ∀ g, (f g).status = g.status) : (s.onEng e f).inPaddock e = s.inPaddock e := by
  unfold State.inPaddock
  rw [eng_onEng_proj (·.status) h e]

/-- A program that has stopped leaves its engine in state 5. -/
theorem tackStop_stopped {v : State} {e j : Nat} (hp : v.inPaddock e = true) (hj : tackIndex e = some j) (ht : j < v.engs.tack.length)
    {f : Eng → Eng} (hf : ∀ g, (f g).status = g.status) (cause pc : Nat) :
    let t := (v.tackStop j 5 cause pc).onEng e f
    (t.tackOf j).state = 5 ∧ (t.tackOf j).cause = cause ∧ (t.tackOf j).trapPc = pc ∧ t.engRuns e = false := by
  intro t
  have tack : t.tackOf j = { v.tackOf j with state := 5, cause := cause, trapPc := pc } := tackOf_tackStop ht 5 cause pc
  have paddock : t.inPaddock e = true := (inPaddock_onEng hf).trans hp
  exact ⟨congrArg Tack.state tack, congrArg Tack.cause tack, congrArg Tack.trapPc tack,
    engRuns_of_tackState paddock hj (by rw [tack]; exact (by decide : (5 : Nat) ≠ 3))⟩

/-- Settles O26: both are traps of a paddock engine. -/
theorem tackProgramStops : Obligations.TackProgramStops := by
  intro s e hs hx hp h24 h32
  have hl : e < s.engs.eng.length := inv_eng_length hs (engRuns_lt hx.1)
  have hj : tackIndex e = some (e - 24) := tackIndex_of_paddock h24 h32
  have ht : e - 24 < s.engs.tack.length := by rw [hs.engs.tack]; omega
  refine ⟨?_, fun inDebug => ?_⟩
  · obtain ⟨p, trap⟩ := trapIns_eq hl (wordR 0x3D 0 0 0 1) 5 (e - 24) hp hj
    have run : exec (.stop e) s = _ := congrArg Host.Outcome.next ((opIns_run hx _ _).trans (trap.trans (if_pos rfl)))
    have still : (({ s with freeCount := s.freeCount + 1 } : State).onEng e
        (fun g => { g with pmc := p, cause := 5, trapPc := (s.eng e).pc, stall := .none })).inPaddock e = true := by
      rw [inPaddock_onEng]
      · exact hp
      · exact fun _ => rfl
    have stopped := tackStop_stopped (f := fun g => { g with lastCause := 5 }) still hj ht (fun _ => rfl) 5 (s.eng e).pc
    exact ⟨_, run, stopped⟩
  · obtain ⟨p, trap⟩ := trapIns_eq hl (wordR 0x3D 0 0 0 3) 6 (e - 24) hp hj
    have run : exec (.dbg e) s = _ := congrArg Host.Outcome.next ((opIns_run hx _ _).trans (trap.trans
      ((if_neg (by decide)).trans (if_pos (by rw [inDebug]; rfl)))))
    rw [State.onEng_onEng] at run
    have eng := State.eng_onEng (s := { s with freeCount := s.freeCount + 1 }) (fun g => { g with
      pmc := p, cause := 6, trapPc := (s.eng e).pc, stall := .none, halted := true, lastCause := 6 }) hl
    exact ⟨_, run, congrArg Eng.halted eng, congrArg Eng.cause eng, congrArg Eng.trapPc eng, engRuns_of_halted (congrArg Eng.halted eng)⟩

/-! ## Recovery (R342, R345, R348, R349) -/

theorem trap_enters_here {s : State} (hs : Safety.Inv s) {e : Nat} (he : e < 36) (hp : s.inPaddock e = false) (c : Nat) :
    Safety.Enters s e c (.next (s.trap e c)) := by
  have same : ({ s with freeCount := s.freeCount } : State).onEng e (fun g => { g with pmc := (s.eng e).pmc }) = s :=
    (State.onEng_congr (g := fun g => g) rfl).trans (State.onEng_id s e)
  have := trap_enters (inv_eng_length hs he) hp c s.freeCount (s.eng e).pmc
  rwa [same] at this

theorem engLive_lt {s : State} {e : Nat} (h : s.engLive e = true) : e < 36 := by
  simp only [State.engLive, Bool.and_eq_true, decide_eq_true_iff] at h
  exact h.1.1

theorem opEngineTrap_recovers {s : State} {e c : Nat} (live : s.engLive e = true) (h0 : 0 < c) (h6 : c ≤ 6) :
    opEngineTrap e c true s = s.trap e c := by
  have go : ¬ (!s.engLive e || decide (c = 0) || decide (6 < c)) = true := by
    simp [live]
    omega
  unfold opEngineTrap
  exact (if_neg go).trans (if_neg (by simp))

theorem endHandling_of_none {s : State} (h : s.faults.handling = none) (code : Nat) : s.endHandling code = s := by
  simp [State.endHandling, h]

section
variable {s : State} {j : Nat} (hj : j < 8) (loading : (s.tackOf j).state = 2) {hashOk sigOk : Bool}
include hj loading

theorem opTackLoadDone_verified (verdict : s.tackVerdict (s.tackOf j).image hashOk sigOk = 1) : opTackLoadDone j hashOk sigOk s =
    (s.onEng (24 + j) (s.tackImage (s.tackOf j).image)).onTack j (fun t => { t with state := 3, loadStatus := 1 }) := by
  unfold opTackLoadDone
  dsimp only
  rw [if_neg (by simp [hj, loading]), if_pos verdict]

theorem opTackLoadDone_failed (verdict : s.tackVerdict (s.tackOf j).image hashOk sigOk ≠ 1) : opTackLoadDone j hashOk sigOk s =
    ((s.onEng (24 + j) (fun g => { g with status := .paddock, imem := [], dmem := [] })).onTack j
      (fun t => { t with state := 7, loadStatus := s.tackVerdict (s.tackOf j).image hashOk sigOk })).raise 0x0D03 j := by
  unfold opTackLoadDone
  dsimp only
  rw [if_neg (by simp [hj, loading]), if_neg verdict]

end

/-- Settles O28. -/
theorem engineRecovery : Obligations.EngineRecovery := by
  intro s now e j h k hs u
  have hu : Safety.Inv u := inv_atTime hs now
  refine ⟨fun live firmware => ?_, fun row inReset boot por handling => ?_, fun hj state verdict => ?_, fun hj state verdict => ?_⟩
  · have notPaddock : u.inPaddock e = false := by simp [State.inPaddock, firmware]
    have out : u.watchdogOut e = true := by simp [State.watchdogOut, notPaddock]
    have run : exec (.engineWatchdogExpire now e true) s = .next (u.trap e 4) :=
      congrArg Host.Outcome.next ((if_pos (by rw [live, out]; rfl)).trans (opEngineTrap_recovers live (by norm_num) (by norm_num)))
    rw [run]
    exact trap_enters_here hu (engLive_lt live) notPaddock 4
  · have restores : (decide (e < 36) && (u.eng e).status == .inReset && !u.start.inReset && !u.start.porHeld && (tackIndex e).isNone) = true := by
      rw [decide_eq_true (by omega), inReset, boot, por, tackIndex_none row]
      rfl
    exact congrArg Host.Outcome.next ((if_pos restores).trans (endHandling_of_none (s := u.onEng e (fun g =>
      { g with status := .firmware, kicked := u.tb.lc })) handling 0x0D02))
  · have run : exec (.tackLoadDone now j h k) s = _ := congrArg Host.Outcome.next (opTackLoadDone_verified hj state verdict)
    have eng := State.eng_onEng (u.tackImage (u.tackOf j).image) (inv_eng_length hu (e := 24 + j) (by omega))
    have tack := tackOf_onTack (s := u.onEng (24 + j) (u.tackImage (u.tackOf j).image)) (hu.engs.tack ▸ hj) (fun t => { t with state := 3, loadStatus := 1 })
    exact ⟨_, run, congrArg Eng.status eng, congrArg Eng.program eng, congrArg Eng.pc eng, congrArg Eng.dwin eng, congrArg Tack.state tack,
      congrArg Tack.loadStatus tack, fun n hn => eng_onEng_ne u (24 + j) n _ hn⟩
  · have run : exec (.tackLoadDone now j h k) s = _ := congrArg Host.Outcome.next (opTackLoadDone_failed hj state verdict)
    have eng := State.eng_onEng (fun g => { g with status := .paddock, imem := [], dmem := [] }) (inv_eng_length hu (e := 24 + j) (by omega))
    have tack := tackOf_onTack (s := u.onEng (24 + j) (fun g => { g with status := .paddock, imem := [], dmem := [] })) (hu.engs.tack ▸ hj)
      (fun t => { t with state := 7, loadStatus := u.tackVerdict (u.tackOf j).image h k })
    exact ⟨_, run, congrArg Eng.imem eng, congrArg Eng.dmem eng, congrArg Eng.status eng, congrArg Tack.state tack,
      congrArg Tack.loadStatus tack, fun n hn => eng_onEng_ne u (24 + j) n _ hn⟩

/-! ## Crypto (R341, R480) -/

/-- A manager that lists its domain key slot, with a worker that has joined. -/
def manager : State := (Tests.domain 1 (fun d => { d with workers := [Tests.joined] })).put 0xB800 11 501

/-- The same part with an empty vault, which manages nothing. -/
def unkeyed : State := { manager with vault := Vault.init }

/-- Refutes O23: its last clause lets everything but domain and dictionary differ from a part that manages no domain. A part that has
the keys of one is a manager, and sends KEYS for the slot that differs. -/
theorem not_engineCrypto : ¬ Obligations.EngineCrypto := by
  intro h
  obtain ⟨-, -, -, -, -, -, -, last⟩ := h unkeyed 0 0 0 0 false [] (Tests.inv_of_check _ (by decide +kernel))
  have same := congrArg (fun t => t.domain.sent.length) (last (by decide +kernel) manager rfl rfl)
  exact absurd same (by decide +kernel)

end Sys2Proof.Proofs
end

section
/-!
PROOFS. Writes of the timing chapters (02, 03, 04, 06, 09, 01, 25): R29, R47, R64, R92, R108, R142, R230, R541.
-/
namespace Sys2Proof.Proofs
open Sys2Proof Sys2Proof.Machine

/-! ## Folds -/

/-- What no step of a fold changes stays. -/
theorem foldl_proj {α σ β : Type} (π : σ → β) {f : σ → α → σ} (h : ∀ s x, π (f s x) = π s) (l : List α) (s : σ) :
    π (l.foldl f s) = π s := by
  induction l generalizing s with
  | nil => rfl
  | cons x l ih => exact (ih (f s x)).trans (h s x)

/-! ## The chapter that a write goes to -/

section
variable (t : State) (a : Acc) (w : Who) {idx : Nat} (sub v : Nat)

theorem applyWrite_paths (h : idx < 0x2000) : t.applyWrite a w idx sub v = t.writePaths a idx sub v := if_pos h

theorem applyWrite_timing (h : 0x2000 ≤ idx) (h' : idx < 0x4800) : t.applyWrite a w idx sub v = t.writeTiming idx sub v := by
  unfold State.applyWrite
  rw [if_neg (by omega), if_pos h']

theorem applyWrite_outputs (h : 0x4800 ≤ idx) (h' : idx < 0x6000) : t.applyWrite a w idx sub v = t.writeOutputs idx sub v := by
  unfold State.applyWrite
  rw [if_neg (by omega), if_neg (by omega), if_pos h']

theorem applyWrite_lanes (h : 0x6000 ≤ idx) (h' : idx < 0x7000) : t.applyWrite a w idx sub v = t.writeLanes idx sub v := by
  unfold State.applyWrite
  rw [if_neg (by omega), if_neg (by omega), if_neg (by omega), if_pos h']

theorem applyWrite_services (h : 0x7000 ≤ idx) (h' : idx < 0x8000) : t.applyWrite a w idx sub v = t.writeServices idx sub v := by
  unfold State.applyWrite
  rw [if_neg (by omega), if_neg (by omega), if_neg (by omega), if_neg (by omega), if_pos h']

theorem applyWrite_engines (h : 0x8000 ≤ idx) (h' : idx < 0xA000) : t.applyWrite a w idx sub v = t.writeEngines idx sub v := by
  unfold State.applyWrite
  rw [if_neg (by omega), if_neg (by omega), if_neg (by omega), if_neg (by omega), if_neg (by omega), if_pos h']

theorem applyWrite_vault (h : 0xA000 ≤ idx) (h' : idx < 0xB000) : t.applyWrite a w idx sub v = t.writeVault a w idx sub v := by
  unfold State.applyWrite
  rw [if_neg (by omega), if_neg (by omega), if_neg (by omega), if_neg (by omega), if_neg (by omega), if_neg (by omega), if_pos h']

theorem applyWrite_pair (h : 0xB000 ≤ idx) (h' : idx < 0xC000) : t.applyWrite a w idx sub v = t.writePair idx sub v := by
  unfold State.applyWrite
  rw [if_neg (by omega), if_neg (by omega), if_neg (by omega), if_neg (by omega), if_neg (by omega), if_neg (by omega), if_neg (by omega),
    if_pos h']

theorem applyWrite_start (h : 0xC000 ≤ idx) : t.applyWrite a w idx sub v = t.writeStart a idx sub v := by
  unfold State.applyWrite
  rw [if_neg (by omega), if_neg (by omega), if_neg (by omega), if_neg (by omega), if_neg (by omega), if_neg (by omega), if_neg (by omega),
    if_neg (by omega)]

/-- An index of no object with a verdict of its own. -/
theorem writeDoes_of_ne {s : State} {a : Acc} {idx sub v : Nat} (h1 : idx ≠ 0xA800) (h2 : idx ≠ 0x1030) {f : State → State}
    (hf : ∀ t w, t.applyWrite a w idx sub v = f t) : Safety.WriteDoes s a idx sub v f (.next (s.runWrite a idx sub v)) :=
  writeDoes (fun h => h1 h.1) h2 hf

end

/-! ## The objects of the timing chapters (R47, R64, R92, R108, R142, R230, R541) -/

theorem writeTiming_soakTime (t : State) {n : Nat} (h : n < 17) (v : Nat) :
    t.writeTiming (0x3100 + n) 8 v = t.putLate (0x3100 + n) 8 v := by
  have key : refKey ((0x3100 + n) * 256 + 8) = true := by
    unfold refKey
    rw [decide_eq_true (show 0x300000 ≤ (0x3100 + n) * 256 + 8 by omega), decide_eq_true (show (0x3100 + n) * 256 + 8 < 0x311100 by omega),
      show ((0x3100 + n) * 256 + 8) % 256 = 8 by omega]
    simp
  unfold State.writeTiming
  rw [if_neg (by omega), if_neg (by omega), if_neg (by simp), if_neg (by simp), if_neg (by simp), if_neg (by simp), if_pos key]

theorem writeTiming_inElec (t : State) {n : Nat} (h : n < 8) (v : Nat) : t.writeTiming (0x3100 + n) 14 v = opInElec n v t := by
  unfold State.writeTiming
  rw [if_neg (by omega), if_neg (by omega), if_neg (by simp), if_neg (by simp), if_neg (by simp), if_pos (by simp; omega),
    Nat.add_sub_cancel_left]

theorem writeTiming_channel (t : State) {n sub : Nat} (h : n < 32) (hs : sub ≤ 3) (v : Nat) :
    t.writeTiming (0x3900 + n) sub v = opChannelWrite n sub v t := by
  have key : refKey ((0x3900 + n) * 256 + sub) = false := by
    unfold refKey
    rw [decide_eq_false (show ¬ (0x3900 + n) * 256 + sub < 0x311100 by omega)]
    simp
  unfold State.writeTiming
  rw [if_neg (by omega), if_neg (by omega), if_neg (by simp; omega), if_neg (by simp; omega), if_neg (by simp; omega),
    if_neg (by simp; omega), if_neg (by simp [key]), if_pos (by simp; omega), Nat.add_sub_cancel_left]

/-- SOAK_TIME acts where its value has changed (R92). -/
theorem refEffect_soakTime {n : Nat} (h : n < 17) (old t : State) :
    old.refEffect t ((0x3100 + n) * 256 + 8) = if old.soakTime n = t.soakTime n then t else
      t.onRef n (fun r => { r with soakLeft := if r.state = .soaking then t.soakTime n else r.soakLeft }) := by
  unfold State.refEffect
  rw [show ((0x3100 + n) * 256 + 8) / 256 - 0x3100 = n by omega, show ((0x3100 + n) * 256 + 8) % 256 = 8 by omega]
  dsimp only
  rw [if_neg (by omega), if_neg (by omega), if_pos rfl]
  simp only [opSoakRestart, beq_iff_eq]

/-- A channel write empties the channel; a prescaler that the part has forced stays unless CH_DIV is written (R108). -/
theorem opChannelWrite_eq (n sub v : Nat) (t : State) :
    opChannelWrite n sub v t = (t.put (0x3900 + n) sub v).onChan n (fun x =>
      { x with edge := 0, ext := 0, window := [], fifo := [], quiet := t.tb.lc, lastStamp := none, gapDue := false, glitchDue := false,
               estStatus := x.estStatus / 4 * 4, forcedN := if sub = 2 then 0 else (t.chan n).forcedN }) := by
  unfold opChannelWrite opTiuReconfig State.onChan
  dsimp only
  rw [upd_upd]
  congr 1
  exact upd_congr Tiu.init rfl

/-- A sentence's status gives the state of the atomic source, and when it came; the sentence that was sent stays (R142). -/
theorem atomicStatus_fields (t : State) (st : Nat) :
    (t.atomicStatus st).atomic = { t.atomic with state := st, lastStatus := t.tb.lc } := by
  unfold State.atomicStatus State.setAtomic
  dsimp only
  split <;> rfl

/-- What is relayed to an atomic source is taken in protocol 2 (R142). -/
theorem takeRelay_eq (t : State) : t.takeRelay =
    if t.atomicProto = 2 then
      let u : State := { t with atomic := { t.atomic with
        relayTx := none, relayStatus := none
        sent := match t.atomic.relayTx with | some v => (leBytes 64 v).map (·.toNat) | none => t.atomic.sent } }
      match t.atomic.relayStatus with | some v => u.atomicStatus v | none => u
    else { t with atomic := { t.atomic with relayTx := none, relayStatus := none } } := by
  unfold State.takeRelay
  cases t.atomic.relayTx <;> rfl

theorem takeRelay_relay (t : State) : t.takeRelay.atomic.relayTx = none ∧ t.takeRelay.atomic.relayStatus = none := by
  rw [takeRelay_eq]
  split
  · dsimp only
    split
    · rw [atomicStatus_fields]; exact ⟨rfl, rfl⟩
    · exact ⟨rfl, rfl⟩
  · exact ⟨rfl, rfl⟩

theorem takeRelay_sent {t : State} {v : Nat} (hp : t.atomicProto = 2) (h : t.atomic.relayTx = some v) :
    t.takeRelay.atomic.sent = (leBytes 64 v).map (·.toNat) := by
  rw [takeRelay_eq, if_pos hp, h]
  dsimp only
  split
  · rw [atomicStatus_fields]
  · rfl

theorem takeRelay_status {t : State} {v : Nat} (hp : t.atomicProto = 2) (h : t.atomic.relayStatus = some v) :
    t.takeRelay.atomic.state = v ∧ t.takeRelay.atomic.lastStatus = t.tb.lc := by
  rw [takeRelay_eq, if_pos hp, h]
  dsimp only
  rw [atomicStatus_fields]
  exact ⟨rfl, rfl⟩

theorem opTimeSet_eq (v : Nat) (t : State) :
    opTimeSet (v / 281474976710656) t =
      let sec := v / 2 ^ 48
      let close := 65536000000000 - t.full % 65536000000000 < 655360000000
      { t with tb := { t.tb with pendSet := some (if close then (sec + 1, 1) else (sec, 0)) } } := by
  unfold opTimeSet
  dsimp only
  split <;> rfl

theorem underrun_dict (t : State) : t.underrun.dict = t.dict := by
  unfold State.underrun
  refine (foldl_proj State.dict ?_ _ _).trans rfl
  exact fun _ _ => rfl

/-- A relock puts the PLL out of lock; that of the core's underruns what is being sent (R29). -/
theorem opPllRelock_cpll (t : State) : opPllRelock 1 t =
    (({ t with clk := { t.clk with relockC := true } } : State).underrun).setGroup 3 (if t.gateOnRelock then 3 else 2) := by
  unfold opPllRelock
  dsimp only
  rw [show (t.clk.relockC || (1 == 1)) = true by simp, show (t.clk.relockE || (1 == 2)) = t.clk.relockE by simp]
  have gate : (({ t with clk := { t.clk with relockC := true } } : State).underrun).gateOnRelock = t.gateOnRelock := by
    unfold State.gateOnRelock State.cfg
    rw [underrun_dict]
  exact congrArg (fun b : Bool => (({ t with clk := { t.clk with relockC := true } } : State).underrun).setGroup 3 (if b then 3 else 2)) gate

theorem opPllRelock_epll (t : State) : opPllRelock 2 t =
    ({ t with clk := { t.clk with relockE := true } } : State).setGroup 4 (if t.gateOnRelock then 3 else 2) := by
  unfold opPllRelock
  dsimp only
  rw [show (t.clk.relockC || (2 == 1)) = t.clk.relockC by simp, show (t.clk.relockE || (2 == 2)) = true by simp]
  rfl

/-- Settles O30. -/
theorem timingWrites : Obligations.TimingWrites := by
  unfold Obligations.TimingWrites
  intro s a n v sub does
  refine ⟨?_, ?_, fun hn => ⟨?_, ?_⟩, fun hn => ?_, fun hn hs => ?_, ?_, ?_, ?_, fun t => ⟨takeRelay_relay t, ?_, ?_, ?_⟩, ?_, ?_⟩
  · exact writeDoes_of_ne (by decide) (by decide) (fun t w => opTimeSet_eq v t)
  · exact writeDoes_of_ne (by decide) (by decide) (fun t w => rfl)
  · exact writeDoes_of_ne (by omega) (by omega)
      (fun t w => (applyWrite_timing t a w 8 v (by omega) (by omega)).trans (writeTiming_soakTime t hn v))
  · exact refEffect_soakTime hn
  · exact writeDoes_of_ne (by omega) (by omega)
      (fun t w => (applyWrite_timing t a w 14 v (by omega) (by omega)).trans (writeTiming_inElec t hn v))
  · exact writeDoes_of_ne (by omega) (by omega) (fun t w => (applyWrite_timing t a w sub v (by omega) (by omega)).trans
      ((writeTiming_channel t hn hs v).trans (opChannelWrite_eq n sub v t)))
  · exact writeDoes_of_ne (by decide) (by decide) (fun t w => rfl)
  · exact writeDoes_of_ne (by decide) (by decide) (fun t w => rfl)
  · exact writeDoes_of_ne (by decide) (by decide) (fun t w => rfl)
  · intro h
    rw [takeRelay_eq, if_neg h]
  · exact takeRelay_sent
  · exact takeRelay_status
  · exact writeDoes_of_ne (by decide) (by decide) (fun t w => opPllRelock_cpll t)
  · exact writeDoes_of_ne (by decide) (by decide) (fun t w => opPllRelock_epll t)

end Sys2Proof.Proofs
end

section
/-!
PROOFS. Writes of the output, receiver, lane, NTP and engine chapters (07, 08, 10, 11, 14, 15, 16, 17): R157, R198, R202, R209, R235,
R245, R253, R254, R263, R324, R327, R331, R345, R347, R350, R351, R363, R375.
-/
namespace Sys2Proof.Proofs
open Sys2Proof Sys2Proof.Machine

/-! ## Outputs and receiver (R157, R209) -/

theorem opCommit_eq (v : Nat) (t : State) : opCommit v t =
    let close := 65536000000000 - t.full % 65536000000000 < 655360000000
    { t with synth := { t.synth with pending := some (v, ofBits ((List.range 16).map (t.included v)),
      if close then bump t.tb.nextAseq else t.tb.nextAseq) } } := rfl

/-- What waits for an epoch waits while the baseband runs (R209). -/
theorem writeOutputs_gif (t : State) {n sub : Nat} (h : n < 3) (h2 : 2 ≤ sub) (h6 : sub ≤ 6) (v : Nat) :
    t.writeOutputs (0x5010 + n) sub v =
      let u := t.putLate (0x5010 + n) sub v
      if u.gnRuns then u else u.takeGnss := by
  have key : gnKey ((0x5010 + n) * 256 + sub) = true := by
    unfold gnKey
    rw [decide_eq_true (show 0x501000 ≤ (0x5010 + n) * 256 + sub by omega), decide_eq_true (show (0x5010 + n) * 256 + sub < 0x501300 by omega)]
    simp
  unfold State.writeOutputs
  rw [if_neg (by simp; omega), if_neg (by simp; omega), if_neg (by simp; omega), if_pos key]

/-! ## Lanes (R235, R245, R253, R254, R263) -/

theorem writeLanes_quadApply (t : State) {n : Nat} (h : n < 8) (v : Nat) : t.writeLanes (0x6000 + n) 4 v = opQuadApply n t := by
  unfold State.writeLanes
  dsimp only
  rw [if_pos (by simp; omega), Nat.add_sub_cancel_left]

theorem writeLanes_retrain (t : State) {n : Nat} (h : n < 32) (v : Nat) : t.writeLanes (0x6100 + n) 13 v = opRetrain n t := by
  unfold State.writeLanes
  dsimp only
  rw [if_neg (by simp), if_pos (by simp; omega), if_neg (by omega), if_neg (by omega), if_neg (by omega), if_pos rfl, Nat.add_sub_cancel_left]

theorem writeLanes_disable (t : State) {n : Nat} (h : n < 32) : t.writeLanes (0x6100 + n) 1 0 = opLaneDisable n (t.put (0x6100 + n) 1 0) := by
  unfold State.writeLanes
  dsimp only
  rw [if_neg (by simp), if_pos (by simp; omega), if_pos rfl, Nat.add_sub_cancel_left]
  unfold opLaneEnable
  exact if_pos rfl

/-- The preferred lane takes over at once where its link is up (R254). -/
theorem opPeerRevert_zero (t : State) : opPeerRevert 0 t =
    if t.net.peerActive < 2 ∧ t.net.peerActive ≠ t.peerPrefer ∧ t.peerUp t.peerPrefer = true then t.peerSwitch t.peerPrefer else t := by
  unfold opPeerRevert
  simp only [BEq.rfl, Bool.true_or, Bool.and_true, Bool.and_eq_true, decide_eq_true_eq, bne_iff_ne, ne_eq, and_assoc]

theorem writeLanes_calLoop (t : State) {n : Nat} (h : n < 32) (v : Nat) : t.writeLanes (0x6400 + n) 3 v = opCalLoop n t := by
  unfold State.writeLanes
  dsimp only
  rw [if_neg (by simp), if_neg (by simp; omega), if_neg (by simp), if_neg (by simp), if_neg (by simp), if_pos (by simp; omega),
    Nat.add_sub_cancel_left]

/-! ## NTP (R324, R331) -/

theorem writeServices_prefix (t : State) {sub : Nat} (h : sub = 1 ∨ sub = 2) (v : Nat) :
    t.writeServices 0x7801 sub v = opHashRekey (t.put 0x7801 sub v) := by
  rcases h with rfl | rfl <;> rfl

/-- Settles O31. -/
theorem outputLaneAndServiceWrites : Obligations.OutputLaneAndServiceWrites := by
  unfold Obligations.OutputLaneAndServiceWrites
  intro s a n v sub does rekeyed
  refine ⟨?_, fun hn h2 h6 => ?_, ?_, ?_, fun hn => ?_, fun hn => ?_, fun hn => ?_, ?_, fun hn => ?_, ?_, fun h => ?_, ?_⟩
  · exact writeDoes_of_ne (by decide) (by decide) (fun t w => opCommit_eq v t)
  · exact writeDoes_of_ne (by omega) (by omega)
      (fun t w => (applyWrite_outputs t a w sub v (by omega) (by omega)).trans (writeOutputs_gif t hn h2 h6 v))
  · exact writeDoes_of_ne (by decide) (by decide) (fun t w => rfl)
  · exact writeDoes_of_ne (by decide) (by decide) (fun t w => rfl)
  · exact writeDoes_of_ne (by omega) (by omega)
      (fun t w => (applyWrite_lanes t a w 4 0x5A (by omega) (by omega)).trans (writeLanes_quadApply t hn 0x5A))
  · exact writeDoes_of_ne (by omega) (by omega)
      (fun t w => (applyWrite_lanes t a w 13 0x5A (by omega) (by omega)).trans (writeLanes_retrain t hn 0x5A))
  · exact writeDoes_of_ne (by omega) (by omega)
      (fun t w => (applyWrite_lanes t a w 1 0 (by omega) (by omega)).trans (writeLanes_disable t hn))
  · exact writeDoes_of_ne (by decide) (by decide) (fun t w => opPeerRevert_zero (t.put 0x6300 2 v))
  · exact writeDoes_of_ne (by omega) (by omega)
      (fun t w => (applyWrite_lanes t a w 3 0x5A (by omega) (by omega)).trans (writeLanes_calLoop t hn 0x5A))
  · exact writeDoes_of_ne (by decide) (by decide) (fun t w => rfl)
  · exact writeDoes_of_ne (by decide) (by decide) (fun t w => writeServices_prefix t h v)
  · exact writeDoes_of_ne (by decide) (by decide) (fun t w => rfl)

/-! ## Engines (R345, R350, R351, R363, R375) -/

theorem writeEngines_tackLoad (t : State) {n : Nat} (h : n < 8) (v : Nat) : t.writeEngines (0x8020 + n) 1 v = opTackLoad n v t := by
  unfold State.writeEngines
  dsimp only
  rw [if_neg (by simp; omega), if_neg (by simp), if_pos (by simp; omega), Nat.add_sub_cancel_left]

theorem writeEngines_tackStop (t : State) {n : Nat} (h : n < 8) (v : Nat) : t.writeEngines (0x8020 + n) 5 v = opTackStop n t := by
  unfold State.writeEngines
  dsimp only
  rw [if_neg (by simp), if_neg (by simp), if_neg (by simp), if_pos (by simp; omega), Nat.add_sub_cancel_left]

theorem opTackLoad_eq (n v : Nat) (t : State) : opTackLoad n v t =
    if t.tackLoadOk n v then
      (t.onEng (24 + n) (Eng.reset .inReset 0)).onTack n (fun x => { x with state := 2, loadStatus := 0, image := v })
    else t := by
  unfold opTackLoad
  cases t.tackLoadOk n v <;> rfl

theorem opPaddockEnable_eq (v : Nat) (t : State) : opPaddockEnable v t =
    let u := t.put 0x8010 1 v
    let u := if v = 0 then (List.range 8).foldl (fun u j => u.tackLeave j 1) u else u
    if u.start.dramStatus ≠ 2 then u
    else if v = 0 then u.wipePaddock
    else { u with start := { u.start with paddockWipe := u.paddockSize != 0 } } := by
  unfold opPaddockEnable
  dsimp only
  rw [ite_not]

/-- What TACK_ENGINES does to one engine of the paddock. -/
theorem opTackEngines_eq (v : Nat) (t : State) : opTackEngines v t =
    (List.range 8).foldl (fun u j =>
      if bit t.tackEngines j = bit v j then u
      else if bit v j then (u.onEng (24 + j) (fun g => { g with status := .paddock })).onTack j (fun x => { x with state := 1 })
      else u.tackLeave j 0) (t.put 0x8010 2 v) := by
  unfold opTackEngines
  dsimp only
  congr 1
  funext u j
  cases bit t.tackEngines j <;> cases bit v j <;> rfl

theorem opGovLevelMin_eq (v : Nat) (t : State) : opGovLevelMin v t =
    let u := t.put 0x8C00 12 v
    if v ≤ u.gov.level then u
    else
      let u := u.setLevel v
      { u with gov := { u.gov with cause := u.govCause 0, unparked := u.unparkedNow } } := by
  unfold opGovLevelMin
  dsimp only
  rw [← ite_not]
  simp only [Nat.not_lt]

/-- The entry of PC_READ (R375). -/
theorem entryOf_pcRead : ∀ n < 36, entryOf (0x8900 + n) 1 = some ⟨0x8900, 36, 0x01, 0x01, 0x43, 64, 0x0054, false, 0, .any⟩ := by
  decide +kernel

/-- PC_READ takes a snapshot of its engine and answers it (R375). -/
theorem doRead_pcRead (u : State) (a : Acc) {n : Nat} (h : n < 36) :
    let d : ObjDef := ⟨0x8900, 36, 0x01, 0x01, 0x43, 64, 0x0054, false, 0, .any⟩
    let t := opPcRead n u
    u.doRead a d (0x8900 + n) 1 = (t, 0, t.readEngines (0x8900 + n) 1 % 2 ^ (8 * d.len)) := by
  intro d t
  have value : t.readValue a d (0x8900 + n) 1 = t.readEngines (0x8900 + n) 1 % 2 ^ (8 * d.len) := by
    unfold State.readValue State.computed
    rw [if_neg (by decide), if_neg (by rw [show d.writable = false by decide]; simp)]
    rw [if_neg (by omega), if_neg (by omega), if_neg (by omega), if_neg (by omega), if_neg (by omega), if_neg (by omega), if_neg (by omega),
      if_neg (by omega), if_neg (by omega), if_neg (by omega), if_pos (by omega)]
  unfold State.doRead
  rw [if_neg (by simp; omega), if_neg (by simp), if_neg (by simp), if_neg (by simp; omega), if_pos (by simp; omega), Nat.add_sub_cancel_left]
  dsimp only
  rw [← value]

theorem readEngines_snapshot (u : State) {n : Nat} (h : n < 36) :
    let k : State := { u with freeCount := u.freeCount + 1 }
    let record := k.snapshotRec (Config.freeValue u.freeCount) n
    (opPcRead n u) = { k with dump := { k.dump with read := some (n, record) } } ∧
    (opPcRead n u).readEngines (0x8900 + n) 1 = leNat record := by
  refine ⟨rfl, ?_⟩
  unfold State.readEngines
  rw [if_neg (by omega), if_neg (by omega), if_neg (by omega), if_neg (by omega), if_neg (by omega), if_neg (by omega)]
  rfl

/-- Settles O32. -/
theorem engineWrites : Obligations.EngineWrites := by
  unfold Obligations.EngineWrites
  intro s a n v does
  refine ⟨fun hn => ⟨?_, ?_⟩, ?_, ?_, ?_, ?_, ?_⟩
  · exact writeDoes_of_ne (by omega) (by omega) (fun t w => (applyWrite_engines t a w 1 v (by omega) (by omega)).trans
      ((writeEngines_tackLoad t hn v).trans (opTackLoad_eq n v t)))
  · exact writeDoes_of_ne (by omega) (by omega)
      (fun t w => (applyWrite_engines t a w 5 0x5A (by omega) (by omega)).trans (writeEngines_tackStop t hn 0x5A))
  · exact writeDoes_of_ne (by decide) (by decide) (fun t w => opPaddockEnable_eq v t)
  · exact writeDoes_of_ne (by decide) (by decide) (fun t w => opTackEngines_eq v t)
  · exact writeDoes_of_ne (by decide) (by decide) (fun t w => opGovLevelMin_eq v t)
  · intro d hd
    exact congrArg Host.Outcome.next (runRead_accepted hd)
  · intro d hn hd
    have entry : d = ⟨0x8900, 36, 0x01, 0x01, 0x43, 64, 0x0054, false, 0, .any⟩ :=
      Option.some.inj (hd.2.1.symm.trans (entryOf_pcRead n hn))
    obtain ⟨state, value⟩ := readEngines_snapshot (s.arrive a) hn
    refine congrArg Host.Outcome.next ((runRead_accepted hd).trans ?_)
    rw [entry, doRead_pcRead _ a hn]
    dsimp only
    rw [value, state]

end Sys2Proof.Proofs
end

section
/-!
PROOFS. Writes of the vault and accesses of the session objects (18, 19): R377, R381, R383, R384, R387, R390, R391, R394, R401, R409, R411,
R412, R418, R422, R424.
-/
namespace Sys2Proof.Proofs
open Sys2Proof Sys2Proof.Machine

/-! ## Fields of a record, and tables by key -/

/-- The first field of a record. -/
theorem fld_lePack_head (len v : Nat) (l : List (Nat × Nat)) : fld (lePack ((len, v) :: l)) 0 len = v % 2 ^ (8 * len) := by
  unfold fld lePack
  rw [Nat.mul_zero, Nat.pow_zero, Nat.div_one, Nat.add_mul_mod_self_left, Nat.mod_mod]

/-- A field behind the first one. -/
theorem fld_lePack_tail (len v off n : Nat) (l : List (Nat × Nat)) : fld (lePack ((len, v) :: l)) (len + off) n = fld (lePack l) off n := by
  unfold fld
  rw [lePack, Nat.mul_add, Nat.pow_add, ← Nat.div_div_eq_div_mul, Nat.add_mul_div_left _ _ (Nat.two_pow_pos _),
    Nat.div_eq_of_lt (Nat.mod_lt _ (Nat.two_pow_pos _)), Nat.zero_add]

theorem lookup_putKey_self {α : Type} (k : Nat) (v : α) (l : List (Nat × α)) : (putKey k v l).lookup k = some v := by
  induction l with
  | nil => simp [putKey]
  | cons p l ih =>
    obtain ⟨j, w⟩ := p
    unfold putKey
    split
    · simp
    · split
      · simp
      · next _ h => rw [lookup_cons_if, if_neg h, ih]

theorem lookup_putKey_ne {α : Type} {k j : Nat} (h : j ≠ k) (v : α) (l : List (Nat × α)) : (putKey k v l).lookup j = l.lookup j := by
  induction l with
  | nil => simp [putKey, lookup_cons_if, h]
  | cons p l ih =>
    obtain ⟨i, w⟩ := p
    unfold putKey
    split
    · rw [lookup_cons_if, if_neg h]
    · split
      · next _ e => rw [lookup_cons_if, lookup_cons_if, if_neg h, if_neg (e ▸ h)]
      · rw [lookup_cons_if, lookup_cons_if, ih]

theorem slot_setSlot (s : State) (n : Nat) (x : Slot) : (s.setSlot n x).slot n = x := by
  unfold State.slot
  rw [State.setSlot_vault, lookup_putKey_self]
  rfl

/-! ## Life cycle (R390) -/

theorem opLcRequest_eq (k outcome : Nat) (t : State) : opLcRequest k outcome t =
    let u : State := { t with vault := { t.vault with makerRoot := t.vault.makerRoot || k == 1, ownerRoot := t.vault.ownerRoot || k == 2 } }
    if outcome = 0 then u.lcDone k
    else if outcome = 2 then { u with vault := { u.vault with keyOp := some (0, 0xFFFF) } } else u := rfl

/-- A transition that is done puts the part through a power-on reset into its new state (R390). -/
theorem lcDone_fields (t : State) (k : Nat) :
    let u := t.lcDone k
    u.vault.lc = lcOf k ∧ u.vault.slots = [] ∧ u.access.chain = 0 ∧ u.access.transfer = none ∧ u.access.sessions = [] ∧
      u.start.porHeld = true ∧ u.start.cause = 3 ∧ u.pending = t.pending ∧ (k = 2 → u.access.ownerKeys = t.access.transfer.toList) :=
  ⟨rfl, rfl, rfl, rfl, rfl, rfl, rfl, rfl, fun h => if_pos h⟩

/-! ## Slots and keys (R381, R384, R391, R394) -/

theorem writeVault_slotAttr (t : State) (a : Acc) (w : Who) {n : Nat} (h : n < 512) (v : Nat) :
    t.writeVault a w (0xA100 + n) 1 v = (opSlotAttr n v t).sendChanged t := by
  unfold State.writeVault
  rw [if_neg (by simp), if_pos (by simp; omega), Nat.add_sub_cancel_left]

theorem opSlotAttr_eq (n v : Nat) (t : State) : opSlotAttr n v t =
    if (t.slot n).sstate = 2 then t.setSlot n { t.slot n with flags := setBit (t.slot n).flags 0 false }
    else if v = 0 then t.dropSlot n
    else t.setSlot n ⟨1, v % 256, v / 256 % 256, v / 65536 % 256, v / 16777216 % 256, 0, 0, none⟩ := by
  unfold opSlotAttr fld
  norm_num

/-- A class in mode 1 takes a key in clear (R391). -/
theorem opKeyStage_clear {v outcome : Nat} {t : State} (h : outcome ≠ 2) (hm : t.slotMode (v % 65536) = 1) :
    let key := Config.keyOf (fld v 12 172 % 2 ^ (8 * algLen (t.slot (v % 65536)).alg))
    opKeyStage v outcome t =
      (t.setSlot (v % 65536) { t.slot (v % 65536) with shadow := some (Config.kcv key % 2 ^ 32, key, t.tb.lc) }).opStat 2 := by
  have number : fld v 0 2 = v % 65536 := by norm_num [fld]
  unfold opKeyStage
  dsimp only
  rw [number, if_neg h, if_pos hm]
  rfl

theorem fld_of_lt {n : Nat} (h : n < 65536) : fld n 0 2 = n := by
  unfold fld
  rw [Nat.mul_zero, Nat.pow_zero, Nat.div_one]
  exact Nat.mod_eq_of_lt h

theorem slot_vaultAppend (s : State) (r : VaultRec) (n : Nat) : (s.vaultAppend r).slot n = s.slot n := rfl

theorem slot_makeSpace (s : State) (n : Nat) : s.makeSpace.slot n = s.slot n := by
  unfold State.makeSpace
  split <;> rfl

/-- A key that is switched is the slot's active one, and its shadow is gone (R394). -/
theorem switchKey_slot (s : State) (n kcv key : Nat) :
    (s.switchKey n kcv key).slot n = { s.slot n with sstate := 2, kcv := kcv, key := key, shadow := none } ∧
      (s.switchKey n kcv key).vault.opStatus = 3 :=
  ⟨slot_setSlot s n _, rfl⟩

/-- A commit that nothing cuts switches to the shadow; the records of a persistent key come first (R394). -/
theorem opKeyCommit_eq {t : State} {n kcv key at_ : Nat} (h : (t.slot n).shadow = some (kcv, key, at_)) :
    opKeyCommit n 0 t =
      if !bit (t.slot n).flags 1 then t.switchKey n kcv key
      else
        let u := t.makeSpace.vaultAppend (t.makeSpace.shadowRec n key kcv)
        (u.vaultAppend (u.markRec 2 n t.makeSpace.vault.nextSeq kcv)).switchKey n kcv key := by
  unfold opKeyCommit
  rw [h]
  rfl

theorem opKeyCommit_switches {t : State} {n kcv key at_ : Nat} (h : (t.slot n).shadow = some (kcv, key, at_)) :
    let u := opKeyCommit n 0 t
    u.slot n = { t.slot n with sstate := 2, kcv := kcv, key := key, shadow := none } ∧ u.vault.opStatus = 3 := by
  intro u
  show (opKeyCommit n 0 t).slot n = _ ∧ (opKeyCommit n 0 t).vault.opStatus = 3
  rw [opKeyCommit_eq h]
  split
  · exact switchKey_slot t n kcv key
  · dsimp only
    have switched (r q : VaultRec) := switchKey_slot ((t.makeSpace.vaultAppend r).vaultAppend q) n kcv key
    simp only [slot_vaultAppend, slot_makeSpace] at switched
    exact switched _ _

/-- A key is erased at once unless a job uses it; a persistent one leaves its mark first (R391). -/
theorem opKeyErase_eq (n outcome : Nat) (t : State) : opKeyErase n outcome t =
    if outcome = 2 then t.cutKeyOp 0xF4 n
    else if t.vault.jobs.any (fun j => j.slot == n && j.verdict == 0) then
      ({ t with vault := { t.vault with erasing := t.vault.erasing ++ [(n, outcome)] } } : State).opStat 1
    else if bit (t.slot n).flags 1 = false then (t.dropSlot n).opFree
    else if outcome = 1 then t.makeSpace.opStat 6
    else ((t.makeSpace.vaultAppend (t.markRec 3 n 0 0)).dropSlot n).opFree := by
  unfold opKeyErase State.eraseNow
  cases bit (t.slot n).flags 1 <;> rfl

theorem opKeyExport_eq {n w : Nat} (hn : n < 65536) (hw : w < 65536) (outcome role : Nat) (t : State) :
    opKeyExport (lePack [(2, n), (2, w)]) outcome role t =
      if outcome = 2 then t.cutKeyOp 0xF3 n
      else if t.wraps w && (t.slot n).sstate == 2 && bit (t.slot n).flags 0 && w != n then
        ({ t with vault := { t.vault with exportRole := role, exportBlob := t.blobOf n (t.slot w).key 0 } } : State).opFree
      else t.opStat 7 := by
  have first : fld (lePack [(2, n), (2, w)]) 0 2 = n := (fld_lePack_head 2 n _).trans (Nat.mod_eq_of_lt hn)
  have second : fld (lePack [(2, n), (2, w)]) 2 2 = w :=
    (fld_lePack_tail 2 n 0 2 _).trans ((fld_lePack_head 2 w _).trans (Nat.mod_eq_of_lt hw))
  unfold opKeyExport
  rw [first, second]
  dsimp only
  cases t.wraps w && (t.slot n).sstate == 2 && bit (t.slot n).flags 0 && w != n <;> rfl

/-- Settles O33. -/
theorem vaultWrites : Obligations.VaultWrites := by
  unfold Obligations.VaultWrites
  intro s a n v c w does
  have target (k : Nat) (h : k < 256) : fld (lePack [(1, k), (3, 0), (96, c)]) 0 1 = k :=
    (fld_lePack_head 1 k _).trans (Nat.mod_eq_of_lt h)
  have transition (k : Nat) (h : k < 256) (t : State) (r : Who) :
      t.applyWrite a r 0xA000 2 (lePack [(1, k), (3, 0), (96, c)]) = opLcRequest k a.outcome t :=
    congrArg (fun x => opLcRequest x a.outcome t) (target k h)
  refine ⟨?_, lcDone_fields, fun hn => ?_, ?_, ?_, fun hn => ⟨?_, ?_, ?_, ?_, ?_⟩, ?_⟩
  · intro p hp
    simp only [List.mem_cons, List.not_mem_nil, or_false] at hp
    rcases hp with rfl | rfl | rfl | rfl | rfl <;>
      exact writeDoes_of_ne (by decide) (by decide) (fun t r => transition _ (by dsimp only; omega) t r)
  · exact writeDoes_of_ne (by omega) (by omega) (fun t r => (applyWrite_vault t a r 1 v (by omega) (by omega)).trans
      ((writeVault_slotAttr t a r hn v).trans (congrArg (fun x : State => x.sendChanged t) (opSlotAttr_eq n v t))))
  · exact writeDoes_of_ne (by decide) (by decide) (fun t r => rfl)
  · intro t h hm
    exact opKeyStage_clear h hm
  · exact writeDoes_of_ne (by decide) (by decide)
      (fun t r => congrArg (fun x => (opKeyCommit x a.outcome t).sendChanged t) (fld_of_lt hn))
  · intro t kcv key at_ h0 h
    rw [h0]
    exact opKeyCommit_switches h
  · exact writeDoes_of_ne (by decide) (by decide) (fun t r => congrArg (fun x => opAbandon x t) (fld_of_lt hn))
  · exact writeDoes_of_ne (by decide) (by decide) (fun t r => (congrArg (fun x => (opKeyErase x a.outcome t).sendChanged t) (fld_of_lt hn)).trans
      (congrArg (fun x : State => x.sendChanged t) (opKeyErase_eq n a.outcome t)))
  · intro hw q t h
    refine congrArg Host.Outcome.next ((runWrite_accepted h (by decide) (by decide)).trans ?_)
    exact congrArg (fun x : State => Safety.answers x a.path 0 0) (opKeyExport_eq hn hw a.outcome q.role.code t)
  · exact writeDoes_of_ne (by decide) (by decide) (fun t r => rfl)

/-! ## Sessions (R409, R411, R412, R422, R424) -/

/-- AUTH_OPEN with no verdict against it opens a session of the path, once its audit record is stored (R409). -/
theorem authOpen_opens {u t : State} {a : Acc} {v : Nat} (h3 : fld v 1 3 = 0) (hn : u.namesNonce a.path v = true) (h0 : u.authOpenCode a v = 0)
    (ht : (u.useNonce a.path).audit
      { atype := 3, role := Role.ofCode (fld v 0 1), path := a.path.code, session := u.freeSession, index := 0xA800, sub := 2
        ticket := if fld v 0 1 = 3 ∨ fld v 0 1 = 5 then fld v 237 4 else 0 } = some t) :
    u.authOpen a v = (t.openSession a v, 0) := by
  have role : [1, 2, 3, 5].contains (fld v 0 1) = true := by
    by_contra hr
    rw [Bool.not_eq_true] at hr
    have code : u.authOpenCode a v = 0x08 := by
      unfold State.authOpenCode
      dsimp only
      rw [hr]
      rfl
    omega
  have tick : (if (fld v 0 1 = 3 || fld v 0 1 = 5) = true then fld v 237 4 else 0) =
      if fld v 0 1 = 3 ∨ fld v 0 1 = 5 then fld v 237 4 else 0 := by simp
  unfold State.authOpen
  dsimp only
  rw [role, hn, h3, h0, tick]
  simp only [BEq.rfl, Bool.and_self, if_true, bne_self_eq_false, Bool.false_eq_true, if_false]
  rw [ht]

/-- A session that opens joins the others at their end (R409). -/
theorem openSession_sessions (t : State) (a : Acc) (v : Nat) :
    ∃ x, (t.openSession a v).access.sessions = t.access.sessions ++ [x] := ⟨_, rfl⟩

theorem entryOf_authOpen : (entryOf 0xA800 2).isSome = true := by decide +kernel

/-- AUTH_OPEN passes the first nine checks: its own verdict follows. -/
theorem runWrite_authOpen {s : State} {a : Acc} {w : Who} {v : Nat} (hp : s.pathUp a.path = true) (hv : v < 2 ^ (8 * a.len))
    (hw : (s.arrive a).whoIs a 0xA800 2 true = some w) (hc : (s.arrive a).firstChecks a w 0xA800 2 v true = 0) {t : State}
    (h : (s.arrive a).authOpen a v = (t, 0)) : s.runWrite a 0xA800 2 v = Safety.answers t a.path 0 0 := by
  have key : s.pathWrite a 0xA800 2 v = (t, 0) := by
    unfold State.pathWrite
    rw [if_neg (by decide)]
    unfold State.accessWrite
    dsimp only
    rw [hw]
    dsimp only
    rw [Nat.mod_eq_of_lt hv]
    unfold State.writeAs
    rw [hc]
    dsimp only
    rw [if_neg (by decide)]
    obtain ⟨d, hd⟩ := Option.isSome_iff_exists.mp entryOf_authOpen
    rw [hd]
    exact h
  unfold State.runWrite
  rw [hp, key]
  simp [Safety.answers]

/-- AUDIT_HEAD signs the head of the chain under the path's nonce, and uses it up (R422). -/
theorem doRead_auditHead {u : State} {a : Acc} {k : Nat} (d : ObjDef) (h : u.liveNonce a.path = some k) :
    let t := ({ u with access := { u.access with headSigned := some (u.access.aseq, u.access.chain, k) } } : State).useNonce a.path
    u.doRead a d 0xA830 3 = (t, 0, t.readValue a d 0xA830 3) := by
  unfold State.doRead State.auditHead
  rw [h]
  rfl

/-- Settles O34. -/
theorem sessionAccesses : Obligations.SessionAccesses := by
  unfold Obligations.SessionAccesses
  intro s a n v does u
  refine ⟨?_, ?_, ?_, ?_, ?_, ?_, ?_, ?_, ?_⟩
  · intro d hd
    exact congrArg Host.Outcome.next (runRead_accepted hd)
  · intro w hp hv hs hw hc h3 hn
    refine ⟨fun h0 t ht => ?_, fun t => ?_⟩
    · exact congrArg Host.Outcome.next (runWrite_authOpen hp hv hw hc (authOpen_opens h3 hn h0 ht))
    · obtain ⟨x, hx⟩ := openSession_sessions t a v
      rw [hx]
      simp
  · exact writeDoes (by omega) (by omega) (fun t w => rfl)
  · exact writeDoes_of_ne (by decide) (by decide) (fun t w => rfl)
  · intro t x y hy
    rw [State.endSession_sessions, List.mem_filter] at hy
    exact ⟨hy.1, by simpa using hy.2⟩
  · exact writeDoes_of_ne (by decide) (by decide) (fun t w => rfl)
  · exact writeDoes_of_ne (by decide) (by decide) (fun t w => rfl)
  · exact writeDoes_of_ne (by decide) (by decide) (fun t w => rfl)
  · intro d k hd hk
    refine congrArg Host.Outcome.next ((runRead_accepted hd).trans ?_)
    rw [doRead_auditHead d hk]

end Sys2Proof.Proofs
end

section
/-!
PROOFS. Writes of the access paths, what an accepted write stores, and what a refused one leaves (05, 06, 19, 20, 23): R127, R135, R152, R411,
R428–R430, R434, R436, R438, R439, R441, R444.
-/
namespace Sys2Proof.Proofs
open Sys2Proof Sys2Proof.Machine

/-! ## Bits of a sum of powers -/

theorem sum_two_pow_lt (p : Nat → Bool) (m : Nat) : (((List.range m).filter p).map (2 ^ ·)).sum < 2 ^ m := by
  induction m with
  | zero => exact Nat.one_pos
  | succ m ih =>
    rw [List.range_succ, List.filter_append, List.map_append, List.sum_append, Nat.pow_succ]
    have last : (([m].filter p).map (2 ^ ·)).sum ≤ 2 ^ m := by
      rw [List.filter_singleton]
      cases p m <;> simp
    omega

/-- Bit `b` of the sum of the powers below `2 ^ m` that `p` keeps. -/
theorem bit_sum_two_pow (p : Nat → Bool) {b m : Nat} (h : b < m) : bit (((List.range m).filter p).map (2 ^ ·)).sum b = p b := by
  unfold bit
  induction m with
  | zero => omega
  | succ m ih =>
    rw [List.range_succ, List.filter_append, List.map_append, List.sum_append, List.filter_singleton]
    have bound := sum_two_pow_lt p m
    by_cases hb : b = m
    · subst hb
      cases p b with
      | true =>
        rw [show ((bif true then [b] else []).map (2 ^ ·)).sum = 2 ^ b by simp, Nat.add_comm, Nat.testBit_two_pow_add_eq,
          Nat.testBit_lt_two_pow bound]
        rfl
      | false => exact Nat.testBit_lt_two_pow bound
    · have below : b < m := by omega
      cases p m with
      | true =>
        rw [show ((bif true then [m] else []).map (2 ^ ·)).sum = 2 ^ m by simp, Nat.add_comm, Nat.testBit_two_pow_add_gt below]
        exact ih below
      | false => exact ih below

/-! ## Access paths (R428, R434, R436, R439, R441, R444) -/

theorem writePaths_can (t : State) (a : Acc) {n : Nat} (h : n < 2) (v : Nat) : t.writePaths a (0x1E00 + n) 1 v = opCanEnable n v t := by
  unfold State.writePaths
  rw [if_neg (by simp; omega), if_neg (by omega), if_pos (by simp; omega), Nat.add_sub_cancel_left]

theorem writePaths_esxia (t : State) (a : Acc) {sub : Nat} (h : sub ≤ 4) (v : Nat) : t.writePaths a 0x1E30 sub v = opEsxiaPath sub v t := by
  unfold State.writePaths
  rw [if_neg (by simp), if_neg (by simp), if_neg (by simp), if_neg (by simp), if_pos (by simp; omega)]

/-- ATTN_ACK changes the attention bits alone, and bits 1 and 2 follow their conditions (R436). -/
theorem opAttnAck_attn (v : Nat) (t : State) : opAttnAck v t = { t with dict := { t.dict with attn := (opAttnAck v t).dict.attn } } := rfl

theorem bit_opAttnAck (v : Nat) (t : State) {b : Nat} (h : b < 8) :
    bit (opAttnAck v t).dict.attn b = (bit t.dict.attn b && (!bit v b || b == 1 || b == 2)) := by
  refine (bit_sum_two_pow _ h).trans ?_
  simp only [Bool.not_and, bne, Bool.not_not, Bool.or_assoc]

/-- The fields of a DMA request (R439). -/
theorem opDmaReq_eq {b off len host : Nat} (hb : b < 256) (ho : off < 2 ^ 64) (hl : len < 2 ^ 32) (hh : host < 2 ^ 64) (t : State) :
    opDmaReq (lePack [(1, b), (3, 0), (8, off), (4, len), (8, host)]) t =
      if t.dict.pcieUp then { t with dict := { t.dict with dma := some (b, off, len, host), dmaStatus := 1 } }
      else { t with dict := { t.dict with dmaStatus := 3 } } := by
  have f1 : fld (lePack [(1, b), (3, 0), (8, off), (4, len), (8, host)]) 0 1 = b := (fld_lePack_head 1 b _).trans (Nat.mod_eq_of_lt hb)
  have f2 : fld (lePack [(1, b), (3, 0), (8, off), (4, len), (8, host)]) 4 8 = off := by
    rw [show 4 = 1 + (3 + 0) from rfl, fld_lePack_tail, fld_lePack_tail, fld_lePack_head]
    exact Nat.mod_eq_of_lt ho
  have f3 : fld (lePack [(1, b), (3, 0), (8, off), (4, len), (8, host)]) 12 4 = len := by
    rw [show 12 = 1 + (3 + (8 + 0)) from rfl, fld_lePack_tail, fld_lePack_tail, fld_lePack_tail, fld_lePack_head]
    exact Nat.mod_eq_of_lt hl
  have f4 : fld (lePack [(1, b), (3, 0), (8, off), (4, len), (8, host)]) 16 8 = host := by
    rw [show 16 = 1 + (3 + (8 + (4 + 0))) from rfl, fld_lePack_tail, fld_lePack_tail, fld_lePack_tail, fld_lePack_tail, fld_lePack_head]
    exact Nat.mod_eq_of_lt hh
  unfold opDmaReq
  rw [f1, f2, f3, f4]

/-- An object's address as it is selected for its description (R428). -/
theorem lePack_address {n sub : Nat} (hn : n < 65536) (hs : sub < 256) : lePack [(2, n), (1, sub)] = n + 65536 * sub := by
  show n % 65536 + 65536 * (sub % 256 + 256 * 0) = n + 65536 * sub
  omega

/-- Settles O35. -/
theorem pathWrites : Obligations.PathWrites := by
  unfold Obligations.PathWrites
  intro s a n v sub b off len host does
  refine ⟨fun hn hs => ?_, ?_, fun hn => ⟨?_, ?_⟩, ⟨opAttnAck v, ?_, fun t => ⟨opAttnAck_attn v t, bit_opAttnAck v t⟩⟩,
    fun hb ho hl hh => ?_, fun h1 h4 => ?_⟩
  · have run : exec (.dictDescribeAddr a n sub) s = .next (s.runWrite a 0x1010 1 (n + 65536 * sub)) :=
      congrArg (fun x => Host.Outcome.next (s.runWrite a 0x1010 1 x)) (lePack_address hn hs)
    show Safety.WriteDoes s a 0x1010 1 (n + 65536 * sub) _ (exec (.dictDescribeAddr a n sub) s)
    rw [run]
    exact writeDoes_of_ne (by decide) (by decide) (fun t w => rfl)
  · exact writeDoes_of_ne (by decide) (by decide) (fun t w => rfl)
  · exact writeDoes_of_ne (by omega) (by omega) (fun t w => (applyWrite_paths t a w 1 1 (by omega)).trans (writePaths_can t a hn 1))
  · exact writeDoes_of_ne (by omega) (by omega) (fun t w => (applyWrite_paths t a w 1 0 (by omega)).trans (writePaths_can t a hn 0))
  · exact writeDoes_of_ne (by decide) (by decide) (fun t w => rfl)
  · exact writeDoes_of_ne (by decide) (by decide) (fun t w => opDmaReq_eq hb ho hl hh t)
  · exact writeDoes_of_ne (by decide) (by decide) (fun t w => (applyWrite_paths t a w sub v (by decide)).trans (writePaths_esxia t a h4 v))

/-! ## Plain objects (R127, R135, R152, R430) -/

/-- An object of the servo, the references or the oscillator that has no effect of its own. -/
theorem writeTiming_plain (t : State) {idx : Nat} (h : (0x3120 ≤ idx ∧ idx < 0x3900) ∨ (0x4000 ≤ idx ∧ idx < 0x4440)) (sub v : Nat) (hs : sub < 256) :
    t.writeTiming idx sub v = if lateTiming (idx * 256 + sub) then t.putLate idx sub v else t.put idx sub v := by
  have key : refKey (idx * 256 + sub) = false := by
    unfold refKey
    rw [decide_eq_false (show ¬ idx * 256 + sub < 0x311100 by omega)]
    simp
  unfold State.writeTiming
  rw [if_neg (by omega), if_neg (by omega), if_neg (by simp; omega), if_neg (by simp; omega), if_neg (by simp; omega),
    if_neg (by simp; omega), if_neg (by simp [key]), if_neg (by simp; omega), if_neg (by simp; omega)]

theorem cfg_put_self (t : State) (idx sub v d : Nat) : (t.put idx sub v).cfg idx sub d = v := by
  unfold State.cfg
  rw [State.put_dict, lookup_putKey_self]
  rfl

theorem cfg_put_ne (t : State) {idx sub j k : Nat} (h : j * 256 + k ≠ idx * 256 + sub) (v d : Nat) : (t.put idx sub v).cfg j k d = t.cfg j k d := by
  unfold State.cfg
  rw [State.put_dict, lookup_putKey_ne h]

theorem live_put_ne (t : State) {idx sub j k : Nat} (h : j * 256 + k ≠ idx * 256 + sub) (v d : Nat) : (t.put idx sub v).live j k d = t.live j k d := by
  unfold State.live
  rw [cfg_put_ne t h v d]
  rfl

theorem cfg_putLate (t : State) (idx sub v j k d : Nat) : (t.putLate idx sub v).cfg j k d = (t.put idx sub v).cfg j k d := by
  unfold State.putLate
  dsimp only
  split <;> rfl

theorem putLate_eq (t : State) (idx sub v : Nat) :
    t.putLate idx sub v = { t with dict := { t.dict with store := (t.putLate idx sub v).dict.store, held := (t.putLate idx sub v).dict.held } } := by
  unfold State.putLate
  dsimp only
  split <;> rfl

theorem lookup_held_putLate_self (t : State) (idx sub v : Nat) : (t.putLate idx sub v).dict.held.lookup (idx * 256 + sub) =
    some ((t.dict.held.lookup (idx * 256 + sub)).getD (t.dict.store.lookup (idx * 256 + sub))) := by
  unfold State.putLate
  dsimp only
  cases hk : t.dict.held.lookup (idx * 256 + sub) with
  | none =>
    rw [if_neg (by simp)]
    exact lookup_putKey_self _ _ _
  | some x =>
    rw [if_pos (by simp)]
    exact hk

theorem lookup_held_putLate_ne (t : State) {idx sub k : Nat} (h : k ≠ idx * 256 + sub) (v : Nat) :
    (t.putLate idx sub v).dict.held.lookup k = t.dict.held.lookup k := by
  unfold State.putLate
  dsimp only
  split
  · rfl
  · exact lookup_putKey_ne h _ _

/-- What waits leaves the value in force as it was. -/
theorem live_putLate (t : State) (idx sub v j k d : Nat) : (t.putLate idx sub v).live j k d = t.live j k d := by
  unfold State.live
  rw [cfg_putLate]
  by_cases h : j * 256 + k = idx * 256 + sub
  · rw [h, lookup_held_putLate_self]
    cases t.dict.held.lookup (idx * 256 + sub) with
    | none =>
      unfold State.cfg
      rw [h]
      rfl
    | some x => rfl
  · rw [lookup_held_putLate_ne t h, cfg_put_ne t h v d]

theorem lookup_filter_ne {α : Type} (k : Nat) (l : List (Nat × α)) : (l.filter (fun x => !(x.1 == k))).lookup k = none := by
  rw [List.lookup_eq_none_iff]
  intro p hp
  have kept := (List.mem_filter.mp hp).2
  rw [Bool.not_eq_true', beq_eq_false_iff_ne] at kept
  exact bne_iff_ne.mpr kept.symm

/-- What has waited is in force once it is taken. -/
theorem live_takeLate (t : State) (idx sub d : Nat) : (t.takeLate (· == idx * 256 + sub)).live idx sub d = t.cfg idx sub d := by
  unfold State.live State.takeLate
  dsimp only
  rw [lookup_filter_ne]
  rfl

theorem pathState_answers_code (t : State) (p : Path) (v : Nat) : ((Safety.answers t p 0 v).pathState p).code = 0 := by
  unfold Safety.answers State.onPath State.pathState
  dsimp only
  induction t.access.paths with
  | nil => rfl
  | cons x l ih =>
    by_cases hx : x.path == p
    · rw [List.map_cons, if_pos hx, List.find?_cons_of_pos (by exact hx)]
      rfl
    · rw [List.map_cons, if_neg hx, List.find?_cons_of_neg (by exact hx)]
      exact ih

/-- An answer changes the path's own state alone. -/
theorem answers_store {t u : State} {store : List (Nat × Nat)} (h : u = { t with dict := { t.dict with store := store } }) (p : Path) (c v : Nat) :
    let x := Safety.answers u p c v
    x = { t with dict := { t.dict with store := x.dict.store }, access := x.access } := by
  subst h
  rfl

theorem answers_held {t u : State} {store : List (Nat × Nat)} {held : List (Nat × Option Nat)}
    (h : u = { t with dict := { t.dict with store := store, held := held } }) (p : Path) (c v : Nat) :
    let x := Safety.answers u p c v
    x = { t with dict := { t.dict with store := x.dict.store, held := x.dict.held }, access := x.access } := by
  subst h
  rfl

/-- What a plain object holds after a write, and what the write leaves. -/
structure Stored (t u : State) (idx sub v : Nat) : Prop where
  holds : ∀ d, u.cfg idx sub d = v
  others : ∀ j k d, j * 256 + k ≠ idx * 256 + sub → u.cfg j k d = t.cfg j k d ∧ u.live j k d = t.live j k d
  late : lateTiming (idx * 256 + sub) = true →
    (∀ d, u.live idx sub d = t.live idx sub d ∧ (u.takeLate (· == idx * 256 + sub)).live idx sub d = v) ∧
      u = { t with dict := { t.dict with store := u.dict.store, held := u.dict.held } }
  prompt : lateTiming (idx * 256 + sub) = false → u = { t with dict := { t.dict with store := u.dict.store } }

theorem writeTiming_stored (t : State) {idx : Nat} (h : (0x3120 ≤ idx ∧ idx < 0x3900) ∨ (0x4000 ≤ idx ∧ idx < 0x4440)) {sub : Nat} (hs : sub < 256)
    (v : Nat) : Stored t (t.writeTiming idx sub v) idx sub v := by
  rw [writeTiming_plain t h sub v hs]
  cases hl : lateTiming (idx * 256 + sub) with
  | true =>
    rw [if_pos rfl]
    exact {
      holds := fun d => (cfg_putLate t idx sub v idx sub d).trans (cfg_put_self t idx sub v d)
      others := fun j k d hne => ⟨(cfg_putLate t idx sub v j k d).trans (cfg_put_ne t hne v d), live_putLate t idx sub v j k d⟩
      late := fun _ => ⟨fun d => ⟨live_putLate t idx sub v idx sub d, (live_takeLate _ idx sub d).trans
        ((cfg_putLate t idx sub v idx sub d).trans (cfg_put_self t idx sub v d))⟩, putLate_eq t idx sub v⟩
      prompt := fun hf => absurd (hl.symm.trans hf) (by decide) }
  | false =>
    rw [if_neg (by decide)]
    exact {
      holds := cfg_put_self t idx sub v
      others := fun j k d hne => ⟨cfg_put_ne t hne v d, live_put_ne t hne v d⟩
      late := fun ht => absurd (hl.symm.trans ht) (by decide)
      prompt := fun _ => rfl }

/-- An entry's subindex is a byte (R427). -/
theorem sub_lt_of_entryOf {idx sub : Nat} {d : ObjDef} (h : entryOf idx sub = some d) : sub < 256 := by
  have bounds : ∀ x ∈ objTable, x.hi < 256 := by decide +kernel
  unfold entryOf at h
  split at h
  · next x hx =>
    have hi := bounds x (List.mem_of_find?_eq_some hx)
    have found := List.find?_some hx
    simp only [Bool.and_eq_true, decide_eq_true_eq] at found
    omega
  · split at h
    · next zero =>
      simp only [Bool.and_eq_true, decide_eq_true_eq] at zero
      omega
    · exact absurd h (by simp)

/-! ## Writes that are refused (R411, R421, R429, R438) -/

/-- A write that fails one of the checks 1 to 9 is refused (R429). -/
theorem runWrite_refused {s : State} {a : Acc} {idx sub v c : Nat} {w : Who} (h2 : idx ≠ 0x1030) (hp : s.pathUp a.path = true)
    (hv : v < 2 ^ (8 * a.len)) (hw : (s.arrive a).whoIs a idx sub true = some w) (hc : (s.arrive a).firstChecks a w idx sub v true = c)
    (h0 : c ≠ 0) :
    let x := if oneShot idx sub && c == 5 then (s.arrive a).useNonce a.path else s.arrive a
    let y := Safety.answers (x.refuseWrite a w idx sub v c).1 a.path c 0
    s.runWrite a idx sub v =
      if a.path = .pcie ∧ a.session = none ∧ a.env = false then { y with dict := { y.dict with pcieLastError := (idx, sub, c) } } else y := by
  intro x y
  have key : s.pathWrite a idx sub v = ((x.refuseWrite a w idx sub v c).1, c) := by
    unfold State.pathWrite
    rw [if_neg (by simp [h2])]
    unfold State.accessWrite
    dsimp only
    rw [hw]
    dsimp only
    rw [Nat.mod_eq_of_lt hv]
    unfold State.writeAs
    rw [hc]
    cases c with
    | zero => exact absurd rfl h0
    | succ c => rfl
  have posted : (a.path == .pcie && a.session.isNone && !a.env && c != 0) = decide (a.path = .pcie ∧ a.session = none ∧ a.env = false) := by
    rw [Bool.eq_iff_iff]
    simp [h0, and_assoc]
  unfold State.runWrite
  rw [hp, key]
  dsimp only
  rw [posted]
  simp only [Bool.not_true, Bool.false_eq_true, if_false, decide_eq_true_eq]
  rfl

/-- Settles O36. -/
theorem writesAreStoredOrRefused : Obligations.WritesAreStoredOrRefused := by
  unfold Obligations.WritesAreStoredOrRefused
  intro s a idx sub v
  refine ⟨fun h w t ht => ?_, fun w c h2 hp hv hw hc h0 => ?_⟩
  · intro late
    have hs : sub < 256 := by
      obtain ⟨-, -, -, -, d, hd, -⟩ := ht
      exact sub_lt_of_entryOf hd
    have stored := writeTiming_stored t h hs v
    have run : exec (.dictWrite a idx sub v) s = .next (Safety.answers (t.writeTiming idx sub v) a.path 0 0) := by
      refine congrArg Host.Outcome.next ((runWrite_accepted ht (by omega) (by omega)).trans ?_)
      rw [applyWrite_timing t a w sub v (by omega) (by omega)]
    refine ⟨_, run, stored.holds, pathState_answers_code _ a.path 0, stored.others, fun hl => ⟨(stored.late hl).1, ?_⟩, fun hl => ?_⟩
    · exact answers_held (stored.late hl).2 a.path 0 0
    · exact answers_store (stored.prompt hl) a.path 0 0
  · have run := runWrite_refused h2 hp hv hw hc h0
    refine congrArg Host.Outcome.next (run.trans ?_)
    unfold State.refuseWrite
    simp only [beq_iff_eq] <;> rfl

end Sys2Proof.Proofs
end

section
/-!
PROOFS. Writes of the pair, domain, fault, start-up and calibration objects (21, 22, 23, 24): R454, R463, R466, R469, R470, R477, R484, R492,
R495, R506, R508, R514, R515.
-/
namespace Sys2Proof.Proofs
open Sys2Proof Sys2Proof.Machine

/-! ## The pair (R454, R463, R466, R470) -/

theorem opPairEnable_on (t : State) :
    opPairEnable true t = if t.pairEnable then t.rejoin else ((t.put 0xB000 1 1).haltOutputs.hushPorts).rejoin := by
  unfold opPairEnable
  by_cases h : t.pairEnable = true
  · rw [if_pos (by rw [h]; rfl), if_pos h]
  · rw [if_neg (by simp [h]), if_pos rfl, if_neg h]

theorem opPairEnable_off (t : State) : opPairEnable false t =
    if t.pairEnable then
      ((((t.stopLease 5).put 0xB000 1 0).takePair).takeLease.rejoin).onOuts (fun o => { o with highZ := if o.running then o.highZ else o.idle == 1 })
    else t.rejoin := by
  unfold opPairEnable
  by_cases h : t.pairEnable = true
  · rw [if_neg (by simp [h]), if_neg Bool.false_ne_true, if_pos h]
  · rw [if_pos (by simp [h]), if_neg h]

theorem writePair_keys (t : State) {sub : Nat} (h : sub = 4 ∨ sub = 5) (v : Nat) : t.writePair 0xB000 sub v = (t.put 0xB000 sub v).rejoin := by
  unfold State.writePair
  dsimp only
  rw [if_neg (by simp; omega), if_pos (by simp; omega)]

theorem writePair_holdStandby (t : State) (v : Nat) : t.writePair 0xB000 9 v =
    if v = 1 ∧ t.pair.lease = true then (t.putLate 0xB000 9 v).propose 5
    else if t.pairEnable then t.putLate 0xB000 9 v else t.put 0xB000 9 v := by
  unfold State.writePair
  dsimp only
  rw [if_neg (by simp), if_neg (by simp), if_pos (by simp)]
  simp only [Bool.and_eq_true, decide_eq_true_eq]

theorem writePair_command (t : State) (v : Nat) : t.writePair 0xB002 1 v = if v = 0x5A then t.propose 6 else opPairDiag t := by
  have key : pairLate (0xB002 * 256 + 1) = false := by decide
  unfold State.writePair
  dsimp only
  rw [if_neg (by simp), if_neg (by simp), if_neg (by simp), if_neg (by simp [key]), if_pos rfl]

/-- A holder whose peer is ready proposes a handoff (R463). -/
theorem propose_proposes {t : State} {c : Nat} (hl : t.pair.lease = true) (hh : t.pair.handoff = none) (hp : t.peerReady = true)
    (ho : t.handoffOwn t.nextTh = true) (hc : c = 5 ∨ c = 6) :
    t.propose c = ({ t with pair := { t.pair with handoff := some { releaser := true, th := t.nextTh, cause := c, accepted := false, committed := false, cancelled := false, claimed := false, fullSent := false, pulse := 0 } } } : State).peerSend 7 [1, t.nextTh, c] := by
  have cause : (c == 3 || c == 4) = false := by rcases hc with rfl | rfl <;> rfl
  unfold State.propose
  dsimp only
  rw [hl, hh, hp, ho, cause]
  rfl

/-! ## The domain (R477, R484) -/

theorem writePair_policy (t : State) {n : Nat} (h : n < 64) (v : Nat) : t.writePair (0xBB00 + n) 1 v = opPolicyWrite (t.put (0xBB00 + n) 1 v) := by
  have late : pairLate ((0xBB00 + n) * 256 + 1) = false := by simp [pairLate]; omega
  have key : domainKey ((0xBB00 + n) * 256 + 1) = false := by simp [domainKey]; omega
  unfold State.writePair
  dsimp only
  rw [if_neg (by simp; omega), if_neg (by simp), if_neg (by simp), if_neg (by simp [late]), if_neg (by omega), if_neg (by simp; omega),
    if_neg (by simp [key]), if_pos (by simp; omega)]

theorem writePair_domain (t : State) {sub : Nat} (h : sub < 16) (v : Nat) : t.writePair 0xB800 sub v =
    if [1, 2, 3, 7].contains sub then t.domainRestart.put 0xB800 sub v
    else if domainKey (0xB800 * 256 + sub) then t.putLate 0xB800 sub v
    else t.put 0xB800 sub v := by
  have late : pairLate (0xB800 * 256 + sub) = false := by simp [pairLate]; omega
  unfold State.writePair
  dsimp only
  rw [if_neg (by simp), if_neg (by simp), if_neg (by simp), if_neg (by simp [late]), if_neg (by omega)]
  simp only [decide_true, Bool.true_and]
  rw [if_neg (c := (decide (0xBB00 ≤ 0xB800) && decide (0xB800 < 0xBB40)) = true) (by decide)]

theorem noteFed_tb (t : State) : t.noteFed.tb = t.tb := foldl_proj State.tb (fun s k => State.noteClaim_tb s (12 + k)) _ t

theorem toWorker_tb (t : State) (ty : Nat) (x : Worker) (v : List Nat) : (t.toWorker ty x v).tb = t.tb := by
  unfold State.toWorker
  rw [State.domSend_tb, State.putWorker_tb]

theorem toManager_tb (t : State) (ty : Nat) (v : List Nat) : (t.toManager ty v).tb = t.tb := by
  unfold State.toManager
  rw [State.domSend_tb]

/-- A domain that restarts leaves the time base as it was (R484). -/
theorem domainRestart_tb (t : State) : t.domainRestart.tb = t.tb := by
  unfold State.domainRestart
  dsimp only
  rw [State.clearFault_tb]
  rw [foldl_proj State.tb (f := fun s (p : Nat × Nat) => s.clearFault 0x1301 p.2) (fun s p => State.clearFault_tb s 0x1301 p.2)]
  dsimp only
  rw [noteFed_tb]
  have left : (if t.mayDomain then (t.domain.workers.filter (·.state == 2)).foldl (fun s x => s.toWorker 0x18 x [0]) t else t).tb = t.tb := by
    split
    · exact foldl_proj State.tb (fun s x => toWorker_tb s 0x18 x [0]) _ t
    · rfl
  revert left
  generalize (if t.mayDomain then (t.domain.workers.filter (·.state == 2)).foldl (fun s x => s.toWorker 0x18 x [0]) t else t) = u
  intro left
  split
  · exact (toManager_tb u 0x18 [0]).trans left
  · exact left

/-- Settles O37. -/
theorem pairAndDomainWrites : Obligations.PairAndDomainWrites := by
  unfold Obligations.PairAndDomainWrites
  intro s a n v sub does
  refine ⟨?_, ?_, fun h => ?_, ?_, ?_, fun t c hl hh hp ho hc => propose_proposes hl hh hp ho hc, ?_, fun hn => ?_,
    fun h => ⟨?_, domainRestart_tb⟩, fun h => ?_, fun h => ?_⟩
  · exact writeDoes_of_ne (by decide) (by decide) (fun t w => opPairEnable_on t)
  · exact writeDoes_of_ne (by decide) (by decide) (fun t w => opPairEnable_off t)
  · exact writeDoes_of_ne (by decide) (by decide)
      (fun t w => (applyWrite_pair t a w sub v (by decide) (by decide)).trans (writePair_keys t h v))
  · exact writeDoes_of_ne (by decide) (by decide)
      (fun t w => (applyWrite_pair t a w 9 v (by decide) (by decide)).trans (writePair_holdStandby t v))
  · exact writeDoes_of_ne (by decide) (by decide)
      (fun t w => (applyWrite_pair t a w 1 0x5A (by decide) (by decide)).trans (writePair_command t 0x5A))
  · exact writeDoes_of_ne (by decide) (by decide)
      (fun t w => (applyWrite_pair t a w 1 0x3C (by decide) (by decide)).trans (writePair_command t 0x3C))
  · exact writeDoes_of_ne (by omega) (by omega)
      (fun t w => (applyWrite_pair t a w 1 v (by omega) (by omega)).trans (writePair_policy t hn v))
  · simp only [List.mem_cons, List.not_mem_nil, or_false] at h
    refine writeDoes_of_ne (by decide) (by decide) (fun t w => (applyWrite_pair t a w sub v (by decide) (by decide)).trans
      ((writePair_domain t (by omega) v).trans (if_pos ?_)))
    rcases h with rfl | rfl | rfl | rfl <;> rfl
  · subst h
    exact writeDoes_of_ne (by decide) (by decide)
      (fun t w => (applyWrite_pair t a w 8 v (by decide) (by decide)).trans (writePair_domain t (by decide) v))
  · simp only [List.mem_cons, List.not_mem_nil, or_false] at h
    refine writeDoes_of_ne (by decide) (by decide) (fun t w => (applyWrite_pair t a w sub v (by decide) (by decide)).trans
      ((writePair_domain t (by omega) v).trans ((if_neg ?_).trans (if_pos ?_))))
    · rcases h with rfl | rfl | rfl | rfl | rfl | rfl | rfl <;> decide
    · rcases h with rfl | rfl | rfl | rfl | rfl | rfl | rfl <;> rfl

/-! ## Faults, start-up and calibration (R495, R506, R514, R515) -/

theorem opFaultAck_code {n : Nat} (h1 : n ≠ 0xFFFF) (h2 : n ≠ 0xFFF3) (t : State) : opFaultAck n t = opAckCode n t := by
  unfold opFaultAck
  rw [if_neg h1, if_neg h2]

/-- FW_ERASE empties the idle half (R506). -/
theorem writeFirmware_erase (t : State) (v : Nat) : t.writeFirmware 1 v =
    { t with start := { t.start with fwState := 1, fwErased := false, bundleA := if t.start.bundleB then none else t.start.bundleA, bundleBInfo := if t.start.bundleB then t.start.bundleBInfo else none } } := by
  unfold State.writeFirmware State.putIdle
  rw [if_pos rfl]
  cases t.start.bundleB <;> rfl

/-- A signed value survives its encoding. -/
theorem signed_unsigned {x : Int} (h1 : -2 ^ 63 ≤ x) (h2 : x < 2 ^ 63) : signed 8 (unsigned 8 x) = x := by
  unfold signed unsigned
  norm_num
  split <;> omega

theorem unsigned_lt (x : Int) : unsigned 8 x < 2 ^ (8 * 8) := by
  unfold unsigned
  norm_num
  omega

theorem raiseUnc_cal (t : State) (e u : Nat) : (t.raiseUnc e u).cal = t.cal := by
  unfold State.raiseUnc
  dsimp only
  split
  · split <;> rfl
  · split <;> rfl
  · rfl
  · rfl

/-- CAL_VALUE replaces the entry by a table commit, and a raise of its uncertainty acts at once (R514). -/
theorem opCalValue_eq {x : Int} (h1 : -2 ^ 63 ≤ x) (h2 : x < 2 ^ 63) {n : Nat} (hn : n < 2 ^ 32) (c e : Nat) (t : State) :
    opCalValue e (lePack [(8, unsigned 8 x), (4, n), (1, c)]) t =
      { (if t.calUnc e < n then t.raiseUnc e n else t) with cal := { t.cal with
        commit := some (putEntry ⟨e, x, n, true⟩ t.cal.entries, e / 2 ^ 24)
        raises := if t.calUnc e < n then putKey e n t.cal.raises else t.cal.raises } } := by
  have value : signed 8 (fld (lePack [(8, unsigned 8 x), (4, n), (1, c)]) 0 8) = x := by
    rw [fld_lePack_head, Nat.mod_eq_of_lt (unsigned_lt x), signed_unsigned h1 h2]
  have unc : fld (lePack [(8, unsigned 8 x), (4, n), (1, c)]) 8 4 = n := by
    rw [show 8 = 8 + 0 from rfl, fld_lePack_tail, fld_lePack_head]
    exact Nat.mod_eq_of_lt hn
  unfold opCalValue
  rw [value, unc]
  dsimp only
  split
  · rw [raiseUnc_cal]
    rfl
  · rfl

theorem opCalChunk_eq {off len : Nat} (ho : off < 2 ^ 32) (hl : len < 65536) (data : Nat) (t : State) :
    opCalChunk (lePack [(4, off), (2, len), (2, 0), (1000, data)]) t =
      { t with cal := { t.cal with staging := t.cal.staging ++ [(off, len)], stagingTime := t.tb.lc } } := by
  have first : fld (lePack [(4, off), (2, len), (2, 0), (1000, data)]) 0 4 = off := (fld_lePack_head 4 off _).trans (Nat.mod_eq_of_lt ho)
  have second : fld (lePack [(4, off), (2, len), (2, 0), (1000, data)]) 4 2 = len :=
    (fld_lePack_tail 4 off 0 2 _).trans ((fld_lePack_head 2 len _).trans (Nat.mod_eq_of_lt hl))
  unfold opCalChunk
  rw [first, second]

/-- CAL_RELOAD_COMMIT: every entry whose uncertainty rises has it at once (R515). -/
theorem opCalReload_eq (t : State) : opCalReload t =
    let up := t.cal.entries.filter (fun y => decide (y.unc < factoryUncOf y.eid))
    { up.foldl (fun z y => z.raiseUnc y.eid (factoryUncOf y.eid)) t with cal := { t.cal with
      commit := some ([], noInst), raises := up.foldl (fun l y => putKey y.eid (factoryUncOf y.eid) l) t.cal.raises } } := by
  have cal := foldl_proj State.cal (fun z (y : CalEntry) => raiseUnc_cal z y.eid (factoryUncOf y.eid))
    (t.cal.entries.filter (fun y => decide (y.unc < factoryUncOf y.eid))) t
  unfold opCalReload
  dsimp only
  rw [cal]

/-- Settles O38. -/
theorem faultStartAndCalWrites : Obligations.FaultStartAndCalWrites := by
  unfold Obligations.FaultStartAndCalWrites
  intro s a n v off len data c x does
  refine ⟨fun h1 h2 => ?_, ?_, ?_, ?_, ?_, ?_, ?_, ?_, ?_, fun h1 h2 hn hc => ?_, fun ho hl => ?_, ?_⟩
  · exact writeDoes_of_ne (by decide) (by decide) (fun t w => opFaultAck_code h1 h2 t)
  · exact writeDoes_of_ne (by decide) (by decide) (fun t w => rfl)
  · exact writeDoes_of_ne (by decide) (by decide) (fun t w => rfl)
  · exact writeDoes_of_ne (by decide) (by decide) (fun t w => rfl)
  · exact writeDoes_of_ne (by decide) (by decide) (fun t w => rfl)
  · exact writeDoes_of_ne (by decide) (by decide) (fun t w => writeFirmware_erase t 0x5A)
  · exact writeDoes_of_ne (by decide) (by decide) (fun t w => rfl)
  · exact writeDoes_of_ne (by decide) (by decide) (fun t w => rfl)
  · exact writeDoes_of_ne (by decide) (by decide) (fun t w => rfl)
  · exact writeDoes_of_ne (by decide) (by decide) (fun t w => opCalValue_eq h1 h2 hn c (t.calSel a) t)
  · exact writeDoes_of_ne (by decide) (by decide) (fun t w => opCalChunk_eq ho hl data t)
  · exact writeDoes_of_ne (by decide) (by decide) (fun t w => opCalReload_eq t)

end Sys2Proof.Proofs
end

section
/-!
PROOFS. The clock monitor and the anchor (01_architecture.md, 02_timebase_and_stamps.md): R24–R27, R46, R47, R50, R51, R57.
-/
namespace Sys2Proof.Proofs
open Sys2Proof Sys2Proof.Machine

/-! ## The ends of a coarse count (R25–R27, R57) -/

theorem noteDegraded_tb (s : State) : ∃ l, s.noteDegraded.tb = { s.tb with degraded := l } := by
  unfold State.noteDegraded
  dsimp only
  split
  · exact ⟨s.tb.degraded, rfl⟩
  · exact ⟨_, rfl⟩

theorem noteDegraded_clk (s : State) : s.noteDegraded.clk = s.clk := by
  unfold State.noteDegraded
  dsimp only
  split <;> rfl

theorem freeRunOuts_clk (s : State) (b : Bool) : (s.freeRunOuts b).clk = s.clk := by
  unfold State.freeRunOuts
  split
  · dsimp only
    rw [State.onOuts_clk]
    split <;> rfl
  · rfl

theorem regroup_clk (s : State) (v : Nat) (b : Bool) :
    (((s.setGroup 5 v).noteDegraded).freeRunOuts b).revalid.clk = (s.setGroup 5 v).clk := by
  rw [State.revalid_clk, freeRunOuts_clk, noteDegraded_clk]

/-- What an entry to the coarse count, or a change of its source, writes of the time base (R57, R59). -/
theorem enterCoarse_tb (s : State) (src : Nat) : ∃ rho counts degraded, (s.enterCoarse src).tb =
    { s.tb with
      coarseG0 := if s.tb.coarse = 0 then s.gNow else s.tb.coarseG0
      coarseAcc := if s.tb.coarse = 0 then 0 else s.coarseGrowth
      coarseFrom := s.tb.lc, coarseRho := rho, counts := counts, coarse := src, coarseTc := s.coarsePeriod src, degraded := degraded } := by
  unfold State.enterCoarse
  dsimp only
  rw [State.revalid_tb, freeRunOuts_tb]
  generalize hx : State.setGroup _ 5 4 = x
  obtain ⟨l, hl⟩ := noteDegraded_tb x
  rw [hl, ← hx, State.setGroup_tb]
  by_cases h : s.tb.coarse = 0
  · have opened : s.accrue.tb.coarse = 0 := h
    simp only [if_pos opened, if_pos h]
    refine ⟨?rho, ?counts, l, ?fields⟩
    case fields =>
      dsimp only [State.newCount, State.coarseRebase, State.coarseGrowth]
      rw [opened]
      rfl
  · have kept : s.accrue.tb.coarse ≠ 0 := h
    simp only [if_neg kept, if_neg h]
    exact ⟨_, _, l, rfl⟩

theorem enterCoarse_oscLost (s : State) (src : Nat) : (s.enterCoarse src).clk.oscLost = s.clk.oscLost := by
  unfold State.enterCoarse
  dsimp only
  rw [regroup_clk]
  split <;> rfl

/-- What the return to the disciplined count writes of the time base (R27, R61). -/
theorem leaveCoarse_tb {s : State} (h : s.tb.coarse ≠ 0) : ∃ counts degraded, s.leaveCoarse.tb =
    { s.tb with counts := counts, coarseAcc := s.coarseGrowth, coarse := 0, coarseFloor := true, coarseLeft := s.lockCount
                returnDue := true, returnAt := none, degraded := degraded } := by
  unfold State.leaveCoarse
  rw [if_neg h]
  dsimp only
  rw [State.revalid_tb, freeRunOuts_tb]
  generalize hx : State.setGroup _ 5 1 = x
  obtain ⟨l, hl⟩ := noteDegraded_tb x
  rw [hl, ← hx, State.setGroup_tb]
  exact ⟨_, l, rfl⟩

theorem leaveCoarse_oscLost {s : State} (h : s.tb.coarse ≠ 0) : s.leaveCoarse.clk.oscLost = false := by
  unfold State.leaveCoarse
  rw [if_neg h]
  dsimp only
  rw [regroup_clk]
  rfl

/-- Full time is read off two registers of the time base. -/
theorem full_congr {s t : State} (hl : t.tb.lc = s.tb.lc) (ho : t.tb.offset = s.tb.offset) : t.full = s.full := by
  unfold State.full
  rw [hl, ho]

/-! ## The events of the clock monitor (R24–R27) -/

theorem opClockLoss_of_normal {s : State} {loop : Nat} (h : loop < 4) (hg : s.group (loopGroup loop) = 1) : opClockLoss loop s =
    let v := s.setGroup (loopGroup loop) 2
    (if loop = 0 then v.underrun else if loop = 3 then v.canSilent true else v).raise (loop + 1) := by
  unfold opClockLoss
  rw [if_pos (by simp [h, hg])]
  dsimp only
  by_cases h0 : loop = 0
  · rw [if_pos h0, if_pos h0, if_neg (by omega)]
  · rw [if_neg h0, if_neg h0]

theorem opClockLoss_of_not {s : State} {loop : Nat} (h : 4 ≤ loop ∨ s.group (loopGroup loop) ≠ 1) : opClockLoss loop s = s := by
  unfold opClockLoss
  refine if_neg ?_
  rw [Bool.and_eq_true, decide_eq_true_iff, beq_iff_eq]
  omega

/-- The time-base APLL's loss begins a coarse count of the oscillator, or of the safe clock (R25). -/
theorem opTbLoss_begins {u : State} (osc : Bool) (h : u.tb.coarse = 0) : ∃ v : State, opTbLoss osc u = v.raise 6 ∧ v.clk.oscLost = osc ∧
    v.tb.coarse = (if osc then 2 else 1) ∧ v.tb.coarseTc = u.coarsePeriod v.tb.coarse ∧ v.tb.coarseG0 = u.gNow ∧
    v.tb.coarseAcc = 0 ∧ v.tb.lc = u.tb.lc ∧ v.full = u.full := by
  obtain ⟨rho, counts, degraded, tb⟩ := enterCoarse_tb { u with clk := { u.clk with oscLost := osc } } (if osc then 2 else 1)
  refine ⟨State.enterCoarse { u with clk := { u.clk with oscLost := osc } } (if osc then 2 else 1), if_pos h, enterCoarse_oscLost _ _, ?_⟩
  rw [tb]
  exact ⟨rfl, rfl, if_pos h, if_pos h, rfl, full_congr (by rw [tb]) (by rw [tb])⟩

/-- The oscillator's loss during a coarse count of it goes on with the safe clock (R25). -/
theorem opOscLoss_goesOn {u : State} (h : u.tb.coarse = 1) : ∃ v : State, opOscLoss u = v ∧ v.clk.oscLost = true ∧ v.tb.coarse = 2 ∧
    v.tb.coarseTc = u.coarsePeriod 2 ∧ v.tb.coarseG0 = u.tb.coarseG0 ∧ v.full = u.full := by
  obtain ⟨rho, counts, degraded, tb⟩ := enterCoarse_tb { u with clk := { u.clk with oscLost := true } } 2
  have going : u.tb.coarse ≠ 0 := by rw [h]; decide
  refine ⟨State.enterCoarse { u with clk := { u.clk with oscLost := true } } 2, if_pos h, enterCoarse_oscLost _ _, ?_⟩
  rw [tb]
  exact ⟨rfl, rfl, if_neg going, full_congr (by rw [tb]) (by rw [tb])⟩

theorem opLockConfirmed_group {u : State} {loop : Nat} (h : loop < 4) (hg : u.group (loopGroup loop) = 2 ∨ u.group (loopGroup loop) = 3) :
    let v := u.setGroup (loopGroup loop) 1
    let v := if loop = 3 then v.canSilent false else v
    opLockConfirmed loop u = (({ v with clk := { v.clk with relockC := v.clk.relockC && loop != 0, relockE := v.clk.relockE && loop != 1 } } :
      State).clearFault (loop + 1)).endHandling (loop + 1) := by
  intro v w
  unfold opLockConfirmed
  rw [if_pos h, if_pos (by simpa using hg)]

/-- The time-base APLL's lock ends the coarse count (R27). -/
theorem opLockConfirmed_ends {u : State} (h : u.tb.coarse ≠ 0) : ∃ v : State, opLockConfirmed 4 u = (v.clearFault 6).endHandling 6 ∧
    v.tb.coarse = 0 ∧ v.tb.returnDue = true ∧ v.tb.coarseFloor = true ∧ v.tb.coarseLeft = u.lockCount ∧ v.clk.oscLost = false ∧
    v.full = u.full := by
  obtain ⟨counts, degraded, tb⟩ := leaveCoarse_tb h
  refine ⟨u.leaveCoarse, (opLockConfirmed_timeBase u).trans (if_neg h), ?_⟩
  have full := full_congr (show u.leaveCoarse.tb.lc = u.tb.lc by rw [tb]) (by rw [tb])
  rw [tb]
  exact ⟨rfl, rfl, rfl, rfl, leaveCoarse_oscLost h, full⟩

theorem opLockConfirmed_apll {u : State} {loop : Nat} (h5 : 5 ≤ loop) (h9 : loop < 9)
    (h : (u.apll (loop - 5)).lock = 2 ∨ (u.apll (loop - 5)).lock = 3) : opLockConfirmed loop u = opApllLocked (loop - 5) u := by
  unfold opLockConfirmed
  rw [if_neg (by omega), if_neg (by omega), if_pos h9, if_pos (by simpa using h)]

/-- An output APLL that locks touches nothing but its own lock and its relock mark (R162). -/
theorem opApllLocked_locks (a : Nat) (u : State) : ∃ v : State, opApllLocked a u = (v.clearFault 7 a).endHandling 7 ∧
    v = { u with synth := v.synth } ∧ v.synth = { u.synth with aplls := v.synth.aplls, relocking := setBit u.synth.relocking a false } ∧
    (a < u.synth.aplls.length → v.apll a = { u.apll a with lock := 1 }) :=
  ⟨{ u.onApll a (fun p => { p with lock := 1 }) with
      synth := { (u.onApll a (fun p => { p with lock := 1 })).synth with relocking := setBit u.synth.relocking a false } },
    rfl, rfl, rfl, fun h => getD_upd_eq _ a _ _ h⟩

theorem opLockConfirmed_quad {u : State} {loop : Nat} (h9 : 9 ≤ loop)
    (h : (u.quad (loop - 9)).state = 1 ∨ ((u.quad (loop - 9)).state = 3 ∧ (u.quad (loop - 9)).refLost = false)) :
    opLockConfirmed loop u = u.onQuad (loop - 9) (fun q => { q with state := 2 }) := by
  unfold opLockConfirmed
  rw [if_neg (by omega), if_neg (by omega), if_neg (by omega), if_pos (by simpa using h)]

theorem drain_serveAnchors_of_stopped {v : State} (h : v.engsRun = false) : v.drain.serveAnchors = v := by
  have drained : v.drain = v := by
    unfold State.drain
    rw [h]
    rfl
  rw [drained]
  unfold State.serveAnchors
  rw [h]
  rfl

/-- Settles O39. -/
theorem clockEvents : Obligations.ClockEvents := by
  unfold Obligations.ClockEvents
  intro s now loop osc u
  refine ⟨fun h hg => ?_, fun h => ?_, fun h => ?_, fun h => ?_, fun h => ?_, fun h => ?_, fun h => ?_, fun h => ?_, fun h hg => ?_, fun h => ?_,
    fun h5 h9 h => ?_, fun h9 h => ?_, fun v h => drain_serveAnchors_of_stopped h⟩
  · exact congrArg Host.Outcome.next (opClockLoss_of_normal h hg)
  · exact congrArg Host.Outcome.next (opClockLoss_of_not h)
  · exact congrArg Host.Outcome.next (if_neg h)
  · exact congrArg Host.Outcome.next (if_neg h)
  · exact congrArg Host.Outcome.next (if_pos h)
  · obtain ⟨v, run, fields⟩ := opTbLoss_begins osc h
    exact ⟨v, congrArg Host.Outcome.next run, fields⟩
  · obtain ⟨v, run, fields⟩ := opOscLoss_goesOn h
    exact ⟨v, congrArg Host.Outcome.next run, fields⟩
  · exact congrArg Host.Outcome.next (if_neg (by rw [h]; decide))
  · exact congrArg (fun v : State => Host.Outcome.next v.drain.serveAnchors) (opLockConfirmed_group h hg)
  · obtain ⟨v, run, fields⟩ := opLockConfirmed_ends h
    exact ⟨v, congrArg (fun v : State => Host.Outcome.next v.drain.serveAnchors) run, fields⟩
  · obtain ⟨v, run, fields⟩ := opApllLocked_locks (loop - 5) u
    exact ⟨v, congrArg (fun v : State => Host.Outcome.next v.drain.serveAnchors) ((opLockConfirmed_apll h5 h9 h).trans run), fields⟩
  · exact congrArg (fun v : State => Host.Outcome.next v.drain.serveAnchors) (opLockConfirmed_quad h9 h)

/-! ## The anchor (R46, R47, R50, R51) -/

/-- A part that runs, whose count of TB cycles is a coarse one with a fraction of its own, though its time base stands at the disciplined
count. -/
def strayCount : State :=
  { State.reset with
    tb := { State.reset.tb with counts := [⟨0, 65536, true, 1⟩] }
    start := { State.reset.start with porHeld := false, sleep := false } }

/-- Refutes O40: that the anchor shows the long count itself rests on the register COARSE in the statement, and on the count of TB cycles
in the model. -/
theorem not_anchorIsLatched : ¬ Obligations.AnchorIsLatched := by
  unfold Obligations.AnchorIsLatched
  intro h
  obtain ⟨-, latched⟩ := h strayCount 0
  obtain ⟨v, a, change, -, -, -, -, -, -, -, shown, -⟩ := latched (by decide +kernel) (by decide +kernel)
  exact absurd (shown (by decide +kernel)).1 (by decide +kernel)

end Sys2Proof.Proofs
end

section
/-!
PROOFS. The selector (03_references.md, 21_redundancy.md): R70, R85–R88, R92, R456.
-/
namespace Sys2Proof.Proofs
open Sys2Proof Sys2Proof.Machine

/-! ## The smallest key (R85, R86) -/

theorem bestOf_eq_none {v : State} {l : List Nat} (h : v.bestOf l = none) : l = [] := by
  cases l with
  | nil => rfl
  | cons a l =>
    unfold State.bestOf at h
    split at h
    · exact absurd h (by simp)
    · split at h <;> exact absurd h (by simp)

/-- The best of some references is one of them, and none has a smaller key. -/
theorem bestOf_min {v : State} {l : List Nat} {b : Nat} (h : v.bestOf l = some b) : b ∈ l ∧ ∀ n ∈ l, v.key b ≤ v.key n := by
  induction l generalizing b with
  | nil => exact absurd h (by simp [State.bestOf])
  | cons a l ih =>
    unfold State.bestOf at h
    split at h
    · next last =>
      obtain rfl := Option.some.inj h
      rw [bestOf_eq_none last]
      simp
    · next c rest =>
      obtain ⟨member, least⟩ := ih rest
      split at h
      · next le =>
        obtain rfl := Option.some.inj h
        refine ⟨List.mem_cons_self, fun n hn => ?_⟩
        rcases List.mem_cons.mp hn with rfl | hn
        · exact Nat.le_refl _
        · exact Nat.le_trans le (least n hn)
      · next lt =>
        obtain rfl := Option.some.inj h
        refine ⟨List.mem_cons_of_mem _ member, fun n hn => ?_⟩
        rcases List.mem_cons.mp hn with rfl | hn
        · exact Nat.le_of_lt (Nat.lt_of_not_le lt)
        · exact least n hn

/-- What the selector chooses by itself is the best of the references that are eligible and have a priority (R85, R86). -/
theorem bestOf_of_selectRef {v : State} {t : Nat} (h : v.selectRef = (t, 0)) (hr : v.refRevertive = true) (ht : t ≠ 0xFF) :
    v.bestOf (((List.range 17).filter v.eligible).filter (fun n => v.refPriority n != 0)) = some t := by
  unfold State.selectRef at h
  dsimp only at h
  split at h
  · exact absurd (congrArg Prod.snd h) (by simp)
  · split at h
    · exact absurd (congrArg Prod.snd h) (by simp)
    · split at h
      · exact absurd (congrArg Prod.fst h).symm ht
      · next b best =>
        rw [hr] at h
        rw [best]
        exact congrArg some (congrArg Prod.fst h)

theorem selectRef_best {v : State} {t : Nat} (h : v.selectRef = (t, 0)) (hr : v.refRevertive = true) (ht : t ≠ 0xFF) :
    t < 17 ∧ v.eligible t = true ∧ v.refPriority t ≠ 0 ∧ ∀ n < 17, v.eligible n = true → v.refPriority n ≠ 0 → v.key t ≤ v.key n := by
  obtain ⟨member, least⟩ := bestOf_min (bestOf_of_selectRef h hr ht)
  simp only [List.mem_filter, List.mem_range, bne_iff_ne, ne_eq, and_imp] at member least
  exact ⟨member.1.1, member.1.2, member.2, least⟩

/-! ## What the selector does with its choice (R86–R88, R456) -/

theorem opSelect_of_stopped {u : State} (h : u.servo.suspended = true ∨ u.engsRun = false) : opSelect u = u := by
  unfold opSelect
  exact if_pos (by simpa using h)

theorem opSelect_of_runs {u : State} (h : u.servo.suspended = false) (he : u.engsRun = true) : opSelect u = opSelectorTick u.takeRefs := by
  unfold opSelect
  exact if_neg (by simp [h, he])

theorem opSelectorTick_of_busy {r : State} (h : r.switchingNow = true ∨ r.servo.suspended = true) : opSelectorTick r = r := by
  unfold opSelectorTick
  exact if_pos (by simpa using h)

theorem opSelectorTick_of_free {r : State} (h : r.switchingNow = false) (hs : r.servo.suspended = false) :
    opSelectorTick r = r.runSelector false := by
  unfold opSelectorTick
  exact if_neg (by simp [h, hs])

section
variable {r : State} {t src : Nat} (h : r.selectRef = (t, src))
include h

theorem runSelector_follows (hf : r.pair.following = true) : r.runSelector false = { r with pair := { r.pair with ownChoice := t } } := by
  unfold State.runSelector
  rw [h]
  exact if_pos hf

theorem runSelector_startsFollow (hf : r.pair.following = false) (hr : r.thetaReady = true) :
    r.runSelector false = ({ r with pair := { r.pair with ownChoice := t } } : State).startFollow := by
  unfold State.runSelector
  rw [h]
  dsimp only
  rw [if_neg (by simp [hf]), if_pos hr]

theorem runSelector_keeps (hf : r.pair.following = false) (hr : r.thetaReady = false) (ht : t = r.sel.current) (hk : t ≠ 0xFF ∨ r.sel.state ≠ 1) :
    r.runSelector false = { r with sel := { r.sel with source := src } } := by
  unfold State.runSelector
  rw [h]
  dsimp only
  rw [if_neg (by simp [hf]), if_neg (by simp [hr]), if_pos]
  simp only [Bool.and_eq_true, beq_iff_eq, Bool.not_eq_true', Bool.and_eq_false_iff, beq_eq_false_iff_ne]
  exact ⟨⟨ht, trivial⟩, hk⟩

theorem runSelector_holds (hf : r.pair.following = false) (hr : r.thetaReady = false) (ht : t = 0xFF) (hk : r.sel.current ≠ 0xFF ∨ r.sel.state = 1) :
    r.runSelector false = (({ r with sel := { r.sel with current := 0xFF, source := src, count := bump r.sel.count } } : State).enterHoldover).raise
      0x0203 0xFF (switchDetail 3 r.sel.current 0xFF 0) := by
  unfold State.runSelector
  rw [h]
  dsimp only
  rw [if_neg (by simp [hf]), if_neg (by simp [hr]), if_neg, if_pos (by simpa using ht)]
  simp only [Bool.and_eq_true, beq_iff_eq, Bool.not_eq_true', Bool.and_eq_false_iff, beq_eq_false_iff_ne]
  omega

theorem runSelector_switches (hf : r.pair.following = false) (hr : r.thetaReady = false) (ht : t ≠ r.sel.current) (hk : t ≠ 0xFF) :
    r.runSelector false = r.startSwitch t src := by
  unfold State.runSelector
  rw [h]
  dsimp only
  rw [if_neg (by simp [hf]), if_neg (by simp [hr]), if_neg (by simp [ht]), if_neg (by simpa using hk)]

end

/-- Settles O41. -/
theorem selectorChoosesTheBest : Obligations.SelectorChoosesTheBest := by
  unfold Obligations.SelectorChoosesTheBest
  intro s now t src u r
  have tick (hs : u.servo.suspended = false) (he : u.engsRun = true) (hw : r.switchingNow = false) (hr : r.servo.suspended = false) :
      exec (.selectorTick now) s = .next (r.runSelector false) :=
    congrArg Host.Outcome.next ((opSelect_of_runs hs he).trans (opSelectorTick_of_free hw hr))
  refine ⟨fun h => ?_, fun hs he h => ?_, fun hs he hw hr choice => ⟨fun hf => ?_, fun hf hq => ?_, fun hf hq ht hk => ?_, fun hf hq ht hk => ?_,
    fun hf hq ht hk => ?_⟩, fun v h hr ht => selectRef_best h hr ht⟩
  · exact congrArg Host.Outcome.next (opSelect_of_stopped h)
  · exact congrArg Host.Outcome.next ((opSelect_of_runs hs he).trans (opSelectorTick_of_busy h))
  · rw [tick hs he hw hr, runSelector_follows choice hf]
  · rw [tick hs he hw hr, runSelector_startsFollow choice hf hq]
  · rw [tick hs he hw hr, runSelector_keeps choice hf hq ht hk]
  · rw [tick hs he hw hr, runSelector_holds choice hf hq ht hk]
  · rw [tick hs he hw hr, runSelector_switches choice hf hq ht hk]

end Sys2Proof.Proofs
end

section
/-!
PROOFS. The events of the references (03_references.md, 05_servo.md): R73–R76, R78, R81, R82, R88–R90, R121.
-/
namespace Sys2Proof.Proofs
open Sys2Proof Sys2Proof.Machine

/-! ## One reference of the bank -/

theorem ref_onRef {s : State} {n : Nat} (h : n < s.refs.length) (f : Ref → Ref) : (s.onRef n f).ref n = f (s.ref n) := getD_upd_eq f n _ _ h

theorem ref_onRef_ne (s : State) {n m : Nat} (h : m ≠ n) (f : Ref → Ref) : (s.onRef n f).ref m = s.ref m := getD_upd_ne f n m _ _ h

/-- The same change of several references changes only their bank. -/
theorem foldl_onRef (f : Ref → Ref) (g : Nat → Nat) (l : List Nat) (s : State) :
    l.foldl (fun s n => s.onRef (g n) f) s = { s with refs := l.foldl (fun r n => upd f (g n) r) s.refs } := by
  induction l generalizing s with
  | nil => rfl
  | cons n l ih => exact (ih (s.onRef (g n) f)).trans rfl

/-- A change that does nothing when it is repeated reaches every element named, once or more. -/
theorem getD_foldl_upd {α : Type} {f : α → α} (hf : ∀ x, f (f x) = f x) (d : α) (l : List Nat) (r : List α) {i : Nat} (h : i < r.length) :
    (l.foldl (fun r n => upd f n r) r).getD i d = if i ∈ l then f (r.getD i d) else r.getD i d := by
  induction l generalizing r with
  | nil => simp
  | cons n l ih =>
    rw [List.foldl_cons, ih _ (by simpa using h)]
    by_cases hi : i = n
    · subst hi
      rw [getD_upd_eq f i r d h, hf, if_pos (List.mem_cons_self)]
      exact ite_self _
    · rw [getD_upd_ne f n i r d hi]
      simp only [List.mem_cons, hi, false_or]

/-! ## Loss of signal (R81, R84, R88) -/

/-- A reference that loses its signal: nothing of its past is kept, and one that is selected or switched to is left. -/
theorem loseRef_eq (v : State) (m : Nat) : v.loseRef m =
    let w := (v.moveRef m .absent).onRef m Ref.lost
    if (v.ref m).state = .disabled then v.onRef m Ref.lost
    else if w.sel.current ≠ m then w
    else if w.switchingNow then ({ w with sel := { w.sel with targetLost := true } } : State).rampTo w.ho.uh false false
    else w.accrue.holdU := by
  unfold State.loseRef State.dropRef
  simp only [beq_iff_eq, bne_iff_ne]

theorem opLossOfSignal_of_ge {n : Nat} (h : 17 ≤ n) (u : State) : opLossOfSignal n u = u := if_pos h

theorem opLossOfSignal_alone {n : Nat} (h : n < 17) {u : State} (hp : u.isHalf n = false ∨ 8 ≤ u.inPair n) : opLossOfSignal n u = u.loseRef n := by
  unfold opLossOfSignal
  rw [if_neg (by omega)]
  dsimp only
  rw [if_neg]
  simp only [Bool.and_eq_true, decide_eq_true_eq, not_and_or, Bool.not_eq_true, Nat.not_lt]
  exact hp

theorem opLossOfSignal_pair {n : Nat} (h : n < 17) {u : State} (hp : u.isHalf n = true) (hq : u.inPair n < 8) :
    opLossOfSignal n u = (u.loseRef n).loseRef (u.inPair n) := by
  unfold opLossOfSignal
  rw [if_neg (by omega)]
  dsimp only
  rw [if_pos (by simp [hp, hq])]

/-! ## Quality levels (R73–R76, R78) -/

theorem opTodRx_outside {since : Nat} (h : since < 100 ∨ 900 < since) (k : Nat) (own : Bool) (tai : Option Nat) (leap : Nat) (off : Int)
    (ql girth flags : Nat) (u : State) :
    opTodRx k since own tai leap off ql girth flags u = { u with tod := upd (fun x => { x with discarded := bump x.discarded }) k u.tod } := by
  unfold opTodRx
  exact if_pos (by simpa using h)

theorem opTodRx_unbound {since k : Nat} (h : 100 ≤ since) (h' : since ≤ 900) {u : State} (hk : u.todPin k = none) (own : Bool) (tai : Option Nat)
    (leap : Nat) (off : Int) (ql girth flags : Nat) : opTodRx k since own tai leap off ql girth flags u = u := by
  unfold opTodRx
  rw [if_neg (by simp; omega), hk]

/-- A sentence inside its window tells the quality level and is held to the count; one of the part's own format gives a claim. -/
theorem opTodRx_inside {since k n : Nat} (h : 100 ≤ since) (h' : since ≤ 900) {u : State} (hk : u.todPin k = some n) (own : Bool) (tai : Option Nat)
    (leap : Nat) (off : Int) (ql girth flags : Nat) :
    let next := (u.full + ((1000 - since : Nat) : Int) * 65536000000 + 32768000000000) / 65536000000000
    let v := ({ u with tod := upd (fun x => { x with lastSecond := tai }) k u.tod } : State).onRef n (fun r => { r with
      qlRx := if own then (if qlKnown ql then ql else 0xF) else 0xE
      seconds := tai.isSome
      todMismatch := match tai with
        | some x => u.tb.isSet && (x : Int) != next
        | none => false })
    let w : State := { v with girth := { v.girth with claims := v.girth.claims.set n (some ⟨girth, 0, [], false, v.tb.lc⟩) } }
    opTodRx k since own tai leap off ql girth flags u =
      if own then (if u.sel.current = n then w.learnAnnounced off leap (bit flags 2) else w) else v := by
  intro next v w
  unfold opTodRx
  rw [if_neg (by simp; omega), hk]
  dsimp only
  cases own with
  | false => rfl
  | true =>
    simp only [Bool.true_and, beq_iff_eq, if_true]
    rfl

theorem todPin_lt {s : State} {k n : Nat} (h : s.todPin k = some n) : n < 8 := List.mem_range.mp (List.mem_of_find?_eq_some h)

/-- Sentences or PDUs that stay away make the quality level DNU, where there is a signal. -/
theorem opQlTimeout_dnu {s : State} {n : Nat} (h : 8 ≤ n) (hd : (s.ref n).state ≠ .disabled) (ha : (s.ref n).state ≠ .absent) :
    opQlTimeout n s = s.onRef n (fun r => { r with qlRx := 0xF }) := by
  unfold opQlTimeout
  rw [if_neg (show ¬ n < 8 by omega)]
  exact if_neg (by simp [hd, ha])

theorem opQlTimeout_none {s : State} {n : Nat} (h : 8 ≤ n) (hd : (s.ref n).state = .disabled ∨ (s.ref n).state = .absent) :
    opQlTimeout n s = s := by
  unfold opQlTimeout
  rw [if_neg (show ¬ n < 8 by omega)]
  exact if_pos (by simpa using hd)

theorem opQlTimeout_tod (s : State) {n : Nat} (h : n < 8) :
    let v := s.onRef n (fun r => { r with seconds := false, todMismatch := false })
    opQlTimeout n s = if (v.ref n).state = .disabled ∨ (v.ref n).state = .absent then v else v.onRef n (fun r => { r with qlRx := 0xF }) := by
  intro v
  unfold opQlTimeout
  rw [if_pos h]
  simp only [Bool.or_eq_true, beq_iff_eq]
  rfl

/-- The references of the lanes of one port (R73). -/
def esmcRefs (s : State) (lane : Nat) : List Nat :=
  ((List.range 4).filter (fun k => s.portOf (s.seLane (8 + k)) == s.portOf lane)).map (8 + ·)

theorem mem_esmcRefs (s : State) (lane i : Nat) : i ∈ esmcRefs s lane ↔ 8 ≤ i ∧ i < 12 ∧ s.portOf (s.seLane i) = s.portOf lane := by
  unfold esmcRefs
  simp only [List.mem_map, List.mem_filter, List.mem_range, beq_iff_eq]
  constructor
  · rintro ⟨k, ⟨hk, hp⟩, rfl⟩
    exact ⟨by omega, by omega, hp⟩
  · rintro ⟨h8, h12, hp⟩
    refine ⟨i - 8, ⟨by omega, ?_⟩, by omega⟩
    rw [show 8 + (i - 8) = i by omega]
    exact hp

/-- A PDU gives its level to the references of its port (R73, R75). -/
theorem opEsmcRx_eq (s : State) (lane ssm : Nat) (essm : Option Nat) : opEsmcRx lane ssm essm s =
    { s with refs := (esmcRefs s lane).foldl (fun r n => upd (fun r => { r with qlRx := qlOfEsmc ssm essm }) n r) s.refs } := by
  unfold opEsmcRx esmcRefs
  rw [foldl_onRef, List.foldl_map]

/-! ## The end of a build-out (R121) -/

theorem opBuildOutTimeout_idle {u : State} (h : u.sel.switching = none ∨ u.servo.suspended = true ∨ u.engsRun = false) :
    opBuildOutTimeout u = u := by
  unfold opBuildOutTimeout
  split
  · rfl
  · next o t0 hs =>
    have stopped : u.servo.suspended = true ∨ u.engsRun = false := by
      rcases h with h | h
      · rw [hs] at h
        exact absurd h (by simp)
      · exact h
    exact if_pos (by rcases stopped with h | h <;> simp [h])

theorem opBuildOutTimeout_before {u : State} {m t0 : Nat} (h : u.sel.switching = some (m, t0)) (ht : u.tb.lc < t0 + secUnits) :
    opBuildOutTimeout u = u := by
  unfold opBuildOutTimeout
  rw [h]
  exact if_pos (by simp [ht])

/-- The target's last measurement, with which a build-out ends (R121). -/
def lastMeasure (u : State) : Option Int :=
  if u.sel.targetLost then none
  else if u.pair.following then some (-u.pair.theta)
  else if u.classF u.sel.current then (if (u.ref u.sel.current).estimates.isEmpty then none else some 0)
  else (u.ref u.sel.current).lastMeas.map (·.2)

/-- A build-out ends after 1 s, on the target's last measurement or without one. -/
theorem opBuildOutTimeout_after {u : State} {m t0 : Nat} (h : u.sel.switching = some (m, t0)) (hs : u.servo.suspended = false)
    (he : u.engsRun = true) (ht : t0 + secUnits ≤ u.tb.lc) : opBuildOutTimeout u =
      match lastMeasure u with
      | some p => u.endBuildOut (some p)
      | none => (u.endBuildOut none).runSelector true := by
  unfold opBuildOutTimeout
  rw [h]
  dsimp only
  rw [if_neg (by simp [hs, he]; omega)]
  rfl

theorem lastMeasure_lost {u : State} (h : u.sel.targetLost = true) : lastMeasure u = none := if_pos h

theorem lastMeasure_following {u : State} (h : u.sel.targetLost = false) (hf : u.pair.following = true) : lastMeasure u = some (-u.pair.theta) := by
  unfold lastMeasure
  rw [if_neg (by simp [h]), if_pos hf]

theorem lastMeasure_classT {u : State} (h : u.sel.targetLost = false) (hf : u.pair.following = false) (hc : u.classF u.sel.current = false) :
    lastMeasure u = (u.ref u.sel.current).lastMeas.map (·.2) := by
  unfold lastMeasure
  rw [if_neg (by simp [h]), if_neg (by simp [hf]), if_neg (by simp [hc])]

/-! ## The evaluation of a second (R82, R121) -/

section
variable {u v : State} (he : u.engsRun = true) (hv : (List.range 17).foldl State.evalRef u = v)
include he hv

theorem opRefEvaluation_plain (h : 12 ≤ v.sel.current ∨ v.classF v.sel.current = false ∨ v.refFreq v.sel.current = none) :
    opRefEvaluation u = v := by
  unfold opRefEvaluation
  rw [if_neg (by simp [he])]
  dsimp only
  rw [hv, if_neg]
  simp only [Bool.and_eq_true, decide_eq_true_eq, not_and_or, Bool.not_eq_true, Option.isSome_eq_false_iff, Option.isNone_iff_eq_none, Nat.not_lt]
  rwa [or_assoc]

/-- The evaluation of a second with a class F reference selected. -/
theorem opRefEvaluation_classF (hm : v.sel.current < 12) (hc : v.classF v.sel.current = true) (hf : (v.refFreq v.sel.current).isSome = true) :
    let m := v.sel.current
    let w : State := { v with ho := { v.ho with sigmaF := if v.ho.classF.isSome && !v.switchingNow then (v.ref m).sigmas else v.ho.sigmaF } }
    opRefEvaluation u = match v.sel.switching with
      | some (_, t0) => if !v.sel.targetLost && !v.servo.suspended && decide (t0 < (w.refSpan m).2) then w.endBuildOut (some 0) else w
      | none => w := by
  intro m w
  unfold opRefEvaluation
  rw [if_neg (by simp [he])]
  dsimp only
  rw [hv, if_pos (by rw [decide_eq_true hm, hc, hf]; rfl)] <;> rfl

end

theorem evalRef_of_not {v : State} {n : Nat} (h : v.refEnable n = false ∨ v.group 5 ≠ 1) : v.evalRef n = v := by
  unfold State.evalRef
  exact if_pos (by rcases h with h | h <;> simp [h])

/-- The evaluation of a reference without a signal: its causes are noted, and its state moves. -/
theorem evalRef_unseen {v : State} {n : Nat} (hl : n < v.refs.length) (he : v.refEnable n = true) (hg : v.group 5 = 1)
    (hp : (v.ref n).present = false) :
    let w := v.onRef n (fun r => { r with cause := v.causes n })
    v.evalRef n = match (v.ref n).state with
      | .disabled => w.moveRef n .absent
      | .absent => w.onRef n (fun r => { r with gateRun := 0 })
      | .soaking => if v.causes n ≠ 0 then w.moveRef n .disqualified else w
      | .qualified => if v.causes n ≠ 0 then w.moveRef n .disqualified else w
      | .suspect => if v.causes n ≠ 0 then w.moveRef n .disqualified else w
      | .disqualified => w.onRef n (fun r => { r with gateRun := 0 }) := by
  intro w
  have seen : w.ref n = { v.ref n with cause := v.causes n } := ref_onRef hl _
  unfold State.evalRef
  rw [if_neg (by simp [he, hg]), hp]
  simp only [Bool.false_eq_true, if_false]
  change (match (w.ref n).state with | .disabled => _ | .absent => _ | .soaking => _ | .qualified => _ | .suspect => _ | .disqualified => _) = _
  rw [seen]
  dsimp only
  rw [hp]
  cases (v.ref n).state <;> simp <;> rfl

/-- Settles O42. -/
theorem referenceEvents : Obligations.ReferenceEvents := by
  unfold Obligations.ReferenceEvents
  intro s now n k since ql flags girth leap ssm pins own tai off essm u lost lose
  have lose_eq (m : Nat) (v : State) : lose m v = v.loseRef m := (loseRef_eq v m).symm
  refine ⟨fun h => ?_, fun h => ⟨fun hp => ?_, fun hp hq => ?_⟩, fun h => ?_, fun h h' hk => ?_, fun h h' hk => ?_, fun hk => ?_, fun hk => ?_,
    fun hk hd ha => ?_, fun h => ?_, ?_, rfl, fun h => ?_, fun h => ?_, fun h => ?_,
    fun m t0 hw hs he => ⟨fun ht => ?_, fun ht => ⟨fun hl => ?_, fun hl hf => ?_, fun hl hf hc l p hm => ?_, fun hl hf hc hm => ?_⟩⟩,
    fun he => ?_, fun he => ?_, fun v h => evalRef_of_not h, fun v hl he hg hp => ?_⟩
  · exact congrArg Host.Outcome.next (opLossOfSignal_of_ge h u)
  · rw [lose_eq]
    exact congrArg Host.Outcome.next (opLossOfSignal_alone h hp)
  · rw [lose_eq, lose_eq]
    exact congrArg Host.Outcome.next (opLossOfSignal_pair h hp hq)
  · exact congrArg Host.Outcome.next (opTodRx_outside h k own tai leap off ql girth flags u)
  · exact congrArg Host.Outcome.next (opTodRx_unbound h h' hk own tai leap off ql girth flags)
  · intro next v w
    have run : exec (.todSentenceRx now k since own tai leap off ql girth flags) s =
        .next (if own then (if u.sel.current = n then w.learnAnnounced off leap (bit flags 2) else w) else v) :=
      congrArg Host.Outcome.next (opTodRx_inside h h' hk own tai leap off ql girth flags)
    refine ⟨fun ho => ?_, fun ho hn => ?_, fun ho hn => ?_⟩
    · rw [run, if_neg (by simp [ho])]
    · rw [run, if_pos ho, if_neg hn]
    · rw [run, if_pos ho, if_pos hn]
  · show Host.Outcome.next (match s.todPin k with | some n => opQlTimeout n s | none => s) = _
    rw [hk]
  · intro v
    have run : exec (.todSentenceTimeout k) s = .next (opQlTimeout n s) := by
      show Host.Outcome.next (match s.todPin k with | some n => opQlTimeout n s | none => s) = _
      rw [hk]
    rw [run, opQlTimeout_tod s (todPin_lt hk)]
    refine ⟨fun hd ha => ?_, fun h => ?_⟩
    · exact congrArg Host.Outcome.next (if_neg (by simp [hd, ha, v]))
    · exact congrArg Host.Outcome.next (if_pos h)
  · exact congrArg Host.Outcome.next ((if_pos hk).trans (opQlTimeout_dnu (by omega) hd ha))
  · by_cases hk : k < 4
    · exact congrArg Host.Outcome.next ((if_pos hk).trans (opQlTimeout_none (by omega) (h.resolve_left (by omega))))
    · exact congrArg Host.Outcome.next (if_neg hk)
  · refine ⟨_, congrArg Host.Outcome.next (opEsmcRx_eq s n ssm essm), rfl, fun hl i hi => ?_⟩
    refine (getD_foldl_upd (f := fun r : Ref => { r with qlRx := qlOfEsmc ssm essm }) (fun x => rfl) Ref.init (esmcRefs s n) s.refs
      (by omega)).trans ?_
    simp only [mem_esmcRefs]
    rfl
  · exact congrArg Host.Outcome.next (if_pos h)
  · exact congrArg Host.Outcome.next (if_neg (by rw [h]; decide))
  · exact congrArg Host.Outcome.next (opBuildOutTimeout_idle h)
  · exact congrArg Host.Outcome.next (opBuildOutTimeout_before hw ht)
  · refine congrArg Host.Outcome.next ((opBuildOutTimeout_after hw hs he ht).trans ?_)
    rw [lastMeasure_lost hl]
  · refine congrArg Host.Outcome.next ((opBuildOutTimeout_after hw hs he ht).trans ?_)
    rw [lastMeasure_following hl hf]
  · refine congrArg Host.Outcome.next ((opBuildOutTimeout_after hw hs he ht).trans ?_)
    rw [lastMeasure_classT hl hf hc, hm]
    rfl
  · refine congrArg Host.Outcome.next ((opBuildOutTimeout_after hw hs he ht).trans ?_)
    rw [lastMeasure_classT hl hf hc, hm]
    rfl
  · exact congrArg Host.Outcome.next (if_pos (by rw [he]; rfl))
  · generalize hv : (List.range 17).foldl State.evalRef u = v
    intro _ m w
    refine ⟨fun h => congrArg Host.Outcome.next (opRefEvaluation_plain he hv h), fun hm hc hf => ?_⟩
    have run : exec (.refEvaluation now) s = .next (match v.sel.switching with
        | some (_, t0) => if !v.sel.targetLost && !v.servo.suspended && decide (t0 < (w.refSpan m).2) then w.endBuildOut (some 0) else w
        | none => w) := congrArg Host.Outcome.next (opRefEvaluation_classF he hv hm hc hf)
    rw [run]
    refine ⟨fun h => ?_, fun o t0 hw hl hs ht => ?_⟩
    · cases hw : v.sel.switching with
      | none => rfl
      | some x =>
        have kept : v.sel.targetLost = true ∨ v.servo.suspended = true := by
          rcases h with h | h
          · exact absurd (hw.symm.trans h) (by simp)
          · exact h
        exact congrArg Host.Outcome.next (if_neg (by rcases kept with h | h <;> rw [h] <;> simp))
    · rw [hw]
      exact congrArg Host.Outcome.next (if_pos (by
        rw [show v.sel.targetLost = false from hl, show v.servo.suspended = false from hs, decide_eq_true ht]
        rfl))
  · intro w
    have run := evalRef_unseen hl he hg hp
    refine ⟨fun h => ?_, fun h => ?_, fun h hc => ?_, fun h hc => ?_, fun h => ?_⟩
    · rw [run, h]
    · rw [run, h]
    · rw [run, h]
      exact if_pos hc
    · rw [run, h]
      exact if_neg (by simp [hc])
    · rw [run, h]

end Sys2Proof.Proofs
end

section
/-!
PROOFS. The edges of the TIU, the accumulator, measurements and the girth, and holdover learning (04, 05, 06, 09): R79, R81, R96–R103, R109–R113,
R117, R120–R122, R124, R125, R133, R135, R210–R214.
-/
namespace Sys2Proof.Proofs
open Sys2Proof Sys2Proof.Machine

/-! ## Edges and stamps (R96–R100) -/

theorem onChan_onChan (s : State) (c : Nat) (f g : Tiu → Tiu) : (s.onChan c f).onChan c g = s.onChan c (fun x => g (f x)) := by
  unfold State.onChan
  rw [upd_upd]

section
variable (u : State) (now c bin : Nat)

/-- An edge within 4 ns of the last one is lost (R98). -/
theorem tiuEdge_dead {l : Nat} (hl : (u.chan c).lastStamp = some l) (h : u.edgeStamp c bin (u.moment now) < l + 4 * nsUnits) :
    u.tiuEdge now c bin = u.onChan c (fun y => { y with edge := bump y.edge, deadTime := bump y.deadTime, glitchDue := true }) := by
  unfold State.tiuEdge
  dsimp only
  rw [hl, if_pos (by simpa using h), onChan_onChan]

/-- An edge that is not lost to the dead time is counted, and stamped unless the part is in reset or 64 records wait (R96, R97, R99, R100). -/
theorem tiuEdge_live (h : ∀ l, (u.chan c).lastStamp = some l → l + 4 * nsUnits ≤ u.edgeStamp c bin (u.moment now)) :
    let t := u.edgeStamp c bin (u.moment now)
    let x := u.chan c
    u.tiuEdge now c bin =
      if u.start.inReset then u.onChan c (fun y => { y with edge := bump y.edge, lastStamp := some t })
      else if x.fifo.length < 64 then
        (u.onChan c (fun y => { y with
          edge := bump y.edge, lastStamp := some t, gapDue := false, glitchDue := false
          fifo := y.fifo ++ [⟨t, u.stampStatus (u.moment now) false, x.gapDue, x.glitchDue, x.edge⟩] })).drain
      else u.onChan c (fun y => { y with edge := bump y.edge, lastStamp := some t, overflow := bump y.overflow, gapDue := true }) := by
  intro t x
  unfold State.tiuEdge
  dsimp only
  rw [if_neg, onChan_onChan, onChan_onChan, onChan_onChan]
  · rfl
  · split
    · next l hl => simpa using h l hl
    · decide

end

theorem opTiuEdge_of_not {c : Nat} {u : State} (h : 32 ≤ c ∨ u.chEnable c = false) (now bin : Nat) : opTiuEdge now c bin u = u := by
  unfold opTiuEdge
  refine if_neg ?_
  simp only [Bool.and_eq_true, decide_eq_true_eq, not_and_or, Bool.not_eq_true, Nat.not_lt]
  exact h

theorem opTiuEdge_enabled {c : Nat} {u : State} (h : c < 32) (he : u.chEnable c = true) (now bin : Nat) :
    opTiuEdge now c bin u =
      if c < 12 then (u.tiuEdge now c bin).refEdge c (u.edgeStamp c bin (u.moment now)) else u.tiuEdge now c bin := by
  unfold opTiuEdge
  exact if_pos (by simp [h, he])

theorem arbOne_cons {v : State} {c : Nat} {r : TiuRec} {l : List TiuRec} (h : (v.chan c).fifo = r :: l) :
    v.arbOne c = State.deliver c (v.onChan c (fun y => { y with fifo := l })) r := by
  unfold State.arbOne
  rw [h]

theorem drain_of_stopped {v : State} (h : v.engsRun = false) : v.drain = v := by
  unfold State.drain
  exact if_neg (by rw [h]; decide)

/-! ## What an edge shows of its reference (R81) -/

theorem refEdge_plain {v : State} {c : Nat} (hp : v.isPps c = false) (h : c < 8 ∨ (v.lane (v.seLane c)).state = 5) (t : Nat) :
    v.refEdge c t = v.onRef c (fun r => { r with present := true }) := by
  unfold State.refEdge
  dsimp only
  rw [if_neg (by simp [hp]), if_neg]
  simp only [Bool.and_eq_true, decide_eq_true_eq, bne_iff_ne, ne_eq, not_and, Decidable.not_not]
  intro h8
  exact h.resolve_left (by omega)

theorem refEdge_linkDown {v : State} {c : Nat} (hp : v.isPps c = false) (h8 : 8 ≤ c) (h : (v.lane (v.seLane c)).state ≠ 5) (t : Nat) :
    v.refEdge c t = v := by
  unfold State.refEdge
  dsimp only
  rw [if_neg (by simp [hp]), if_pos (by simp [h8, h])]

/-- A PPS edge: the first one, and one in its window, show the signal; one after more than 2 s is a new signal; another one is a fault. -/
theorem refEdge_pps {v : State} {c : Nat} (hp : v.isPps c = true) (t : Nat) :
    let seen (r : Ref) : Ref := { r with present := v.halfPresent c, lastEdge := some t }
    v.refEdge c t = match (v.ref c).lastEdge with
      | some l =>
        if l + secs 2 + 65536000 < t then (opLossOfSignal c v).onRef c seen
        else if inPpsWindow l t then v.onRef c seen
        else v.onRef c (fun r => { r with windowFaults := newest 3 (t :: r.windowFaults) })
      | none => v.onRef c seen := by
  intro seen
  unfold State.refEdge
  exact if_pos hp

/-- The gate's window has ended: its estimate is taken, and CH_GATE with it (R101, R108). -/
theorem opGateEstimate_ends {u : State} {c stop seq : Nat} (h : u.gateEnd c = some (stop, seq)) :
    let x := u.chan c
    let e := regress u c (x.window.filter (fun r => decide (x.gateStart < r.stamp) && decide (r.stamp ≤ stop)))
    let ok := e.valid && decide (x.quiet ≤ x.gateStart)
    opGateEstimate c u = (u.onChan c (fun y =>
      { y with freqGate := if ok then e.y else y.freqGate, gateStart := stop, gateSeq := seq, estStatus := setBit y.estStatus 1 ok })).takeLate
        (· == (0x3900 + c) * 256 + 4) := by
  unfold opGateEstimate
  rw [h]

/-- Settles O43. -/
theorem tiuStamps : Obligations.TiuStamps := by
  unfold Obligations.TiuStamps
  intro s now c bin u x t seen record
  refine ⟨fun h => ?_, fun hc he hl => ⟨fun ⟨l, hx, ht⟩ => ?_, fun h => ⟨fun hr => ?_, fun hr hf => ?_, fun hr hf => ?_⟩⟩,
    fun v => ⟨drain_of_stopped, fun r l h => arbOne_cons h⟩,
    fun v hc => ⟨fun hp h => refEdge_plain hp h t, fun hp h8 h => refEdge_linkDown hp h8 h t, fun hp => ?_⟩, fun h => ?_, fun stop seq h => ?_⟩
  · exact congrArg Host.Outcome.next (opTiuEdge_of_not h now bin)
  · refine congrArg Host.Outcome.next ((opTiuEdge_enabled hc he now bin).trans ?_)
    rw [tiuEdge_dead u now c bin hx ht]
    rfl
  · refine congrArg Host.Outcome.next ((opTiuEdge_enabled hc he now bin).trans ?_)
    rw [tiuEdge_live u now c bin h, if_pos hr]
    rfl
  · refine congrArg Host.Outcome.next ((opTiuEdge_enabled hc he now bin).trans ?_)
    rw [tiuEdge_live u now c bin h, if_neg (show ¬ u.start.inReset = true by rw [hr]; decide), if_neg (Nat.not_lt.mpr hf)]
    rfl
  · refine congrArg Host.Outcome.next ((opTiuEdge_enabled hc he now bin).trans ?_)
    rw [tiuEdge_live u now c bin h, if_neg (show ¬ u.start.inReset = true by rw [hr]; decide), if_pos hf]
    rfl
  · intro whole
    have run := refEdge_pps hp t
    refine ⟨fun h => ?_, fun l h => ⟨fun hl => ?_, fun hl hw => ?_, fun hl hw => ?_⟩⟩
    · rw [run, h]
      rfl
    · rw [run, h]
      exact if_pos hl
    · rw [run, h]
      exact (if_neg (by omega)).trans (if_pos hw)
    · rw [run, h]
      exact (if_neg (by omega)).trans (if_neg (by rw [hw]; decide))
  · refine congrArg Host.Outcome.next ?_
    unfold opGateEstimate
    rw [h]
  · exact congrArg Host.Outcome.next (opGateEstimate_ends h)

/-! ## The accumulator (R109, R110) -/

/-- A part on the coarse count of its oscillator. -/
def coarsely : State := opTbLoss false Tests.up

/-- Refutes O44: off the disciplined count a command of the accumulator also notes, in the registers of the outputs, how far u has moved
their targets. -/
theorem not_accumulatorCommands : ¬ Obligations.AccumulatorCommands := by
  unfold Obligations.AccumulatorCommands
  intro h
  obtain ⟨⟨same, -⟩, -⟩ := h coarsely 65536000 0 0
  have drift := congrArg (fun z : State => z.synth.drift.length) same
  exact absurd drift (by decide +kernel)

end Sys2Proof.Proofs
end

section
/-!
PROOFS. Measurements and the girth, holdover learning, the oven and the atomic pair (03, 05, 06, 09): R79, R81, R111–R113, R117, R121, R124, R133,
R135, R142–R150, R210–R214.
-/
namespace Sys2Proof.Proofs
open Sys2Proof Sys2Proof.Machine

/-! ## Measurements (R79, R81, R111–R113, R117, R121, R124) -/

theorem opMeasure_discarded {u : State} {n status t : Nat} (p : Int) (h : 17 ≤ n ∨ u.engsRun = false ∨ u.classF n = true ∨ bit status 0 = false ∨
    bit status 1 = true ∨ bit status 2 = true ∨ u.outOfWindow n t = true) : opMeasure n p status t u = u := by
  unfold opMeasure
  refine if_pos ?_
  simp only [Bool.or_eq_true, decide_eq_true_eq, Bool.not_eq_true', or_assoc]
  exact h

section
variable {u : State} {n status t : Nat} (p : Int) (hn : n < 17) (he : u.engsRun = true) (hc : u.classF n = false) (h0 : bit status 0 = true)
  (h1 : bit status 1 = false) (h2 : bit status 2 = false) (hw : u.outOfWindow n t = false)
include hn he hc h0 h1 h2 hw

theorem opMeasure_taken : opMeasure n p status t u =
    let q := p - u.stepsAfter t * 65536
    if u.jumps n q t then
      let v := u.onRef n (fun r => { r with cause := setBit r.cause 1 true, phases := [(t, q)] })
      if (v.ref n).state.usable || (v.ref n).state == .soaking then v.moveRef n .disqualified else v
    else
      let v := u.onRef n (fun r => { r with cause := setBit r.cause 1 false })
      if u.stepsAfter t ≠ 0 then v
      else
        let w := v.noteMeasure n q t
        if u.sel.current ≠ n ∨ u.servo.suspended = true ∨ u.pair.following = true then w
        else if u.switchingNow then (if u.sel.targetLost then w else w.endBuildOut (some q))
        else if (w.ref n).state.usable then w.followMeasure n q t
        else w := by
  unfold opMeasure
  dsimp only
  rw [if_neg (by simp [he, hc, h0, h1, h2, hw]; omega)]
  by_cases hs : u.stepsAfter t = 0
  · simp only [hs, bne_self_eq_false, Bool.false_or, Bool.false_eq_true, if_false, Bool.or_eq_true, bne_iff_ne, ne_eq, not_true_eq_false, or_assoc]
    rfl
  · simp only [ne_eq, hs, not_false_eq_true, if_true, bne_iff_ne, Bool.or_eq_true, true_or]

end

/-! ## The girth (R210–R214) -/

theorem gsum_le (l : List Nat) : gsum l ≤ girthUnknown := Nat.min_le_left _ _

/-- A sum of known terms is their sum, saturated. -/
theorem gsum_of_known {l : List Nat} (h : ∀ x ∈ l, x < girthUnknown) : gsum l = min girthUnknown l.sum := by
  unfold gsum
  rw [if_neg]
  simpa using h

/-- A sum with an unknown term is unknown. -/
theorem gsum_of_unknown {l : List Nat} {x : Nat} (hx : x ∈ l) (h : girthUnknown ≤ x) : gsum l = girthUnknown := by
  unfold gsum
  rw [if_pos (List.any_eq_true.mpr ⟨x, hx, decide_eq_true h⟩), Nat.min_self]

theorem girthSum_of_known {v : State} (hb : v.girth.b < girthUnknown) (hm : v.girth.m < girthUnknown) (hs : v.girth.sTerm < girthUnknown)
    (hh : v.girth.h < girthUnknown) (ha : v.girth.a < girthUnknown) :
    v.girthSum = min girthUnknown (v.girth.b + v.girth.m + v.girth.sTerm + v.girth.h + v.girth.a) := by
  unfold State.girthSum
  rw [gsum_of_known (by simp [hb, hm, hs, hh, ha])]
  simp [Nat.add_assoc]

theorem girthSum_of_unknown {v : State} (h : girthUnknown ≤ v.girth.b ∨ girthUnknown ≤ v.girth.m ∨ girthUnknown ≤ v.girth.sTerm ∨
    girthUnknown ≤ v.girth.h ∨ girthUnknown ≤ v.girth.a) : v.girthSum = girthUnknown := by
  rcases h with h | h | h | h | h <;> exact gsum_of_unknown (by simp) h

/-- TIME_VALID is the one register of the girth that its judgement writes. -/
theorem revalid_girth (v : State) : ∃ b, v.revalid.girth = { v.girth with timeValid := b } := by
  unfold State.revalid State.refresh
  split
  · exact ⟨_, rfl⟩
  · rw [State.attn_girth]
    exact ⟨_, rfl⟩

theorem setG_girth (v : State) (g : Nat) :
    ∃ b, (v.setG g).girth = { v.girth with now := g, growFrom := none, written := true, composed := true, timeValid := b } := by
  obtain ⟨b, hb⟩ := revalid_girth { v with girth := { v.girth with now := g, growFrom := none, written := true, composed := true } }
  exact ⟨b, hb⟩

/-- The terms after one has become unknown (R213). -/
def withoutTerm (g : Girth) (k t : Nat) : Girth :=
  { g with
    lapsed := putKey k t g.lapsed
    b := if k = 0 then girthUnknown else g.b, m := if k = 1 then girthUnknown else g.m
    sTerm := if k = 2 then girthUnknown else g.sTerm, h := if k = 3 then girthUnknown else g.h
    a := if k = 4 then girthUnknown else g.a }

theorem opTermTimeout_of_not {u : State} {k : Nat} (h : 5 ≤ k ∨ u.girth.freeze ≠ .none) : opTermTimeout k u = u := by
  unfold opTermTimeout
  exact if_pos (by simpa using h)

theorem opTermTimeout_lapses {u : State} {k : Nat} (hk : k < 5) (hf : u.girth.freeze = .none) (hp : u.pair.following = false ∨ (k ≠ 1 ∧ k ≠ 2)) :
    opTermTimeout k u =
      let v : State := { u with girth := withoutTerm u.girth k u.tb.lc }
      if u.girthRuns then v.setG v.girthSum else v := by
  have stays : ¬ ((u.pair.following && (k == 1 || k == 2)) = true) := by
    simp only [Bool.and_eq_true, Bool.or_eq_true, beq_iff_eq, not_and]
    intro follows
    rcases hp with hp | hp
    · exact absurd (hp.symm.trans follows) (by decide)
    · omega
  unfold opTermTimeout
  rw [if_neg (by simp [hf]; omega)]
  dsimp only
  rw [if_neg stays]
  rfl

theorem girthSum_withoutTerm {u : State} {k : Nat} (hk : k < 5) (g : Girth) (t : Nat) :
    ({ u with girth := withoutTerm g k t } : State).girthSum = girthUnknown := by
  apply girthSum_of_unknown
  unfold withoutTerm
  dsimp only
  obtain rfl | rfl | rfl | rfl | rfl : k = 0 ∨ k = 1 ∨ k = 2 ∨ k = 3 ∨ k = 4 := by omega
  all_goals simp

/-- Settles O45. -/
theorem measurementsAndGirth : Obligations.MeasurementsAndGirth := by
  unfold Obligations.MeasurementsAndGirth
  intro s now n k status t p u
  refine ⟨fun h => ?_, fun hn he hc h0 h1 h2 hw => ?_, fun v => ⟨gsum_le _, girthSum_of_known, girthSum_of_unknown⟩, fun h => ?_, fun hk hf hp => ?_⟩
  · exact congrArg (fun v : State => Host.Outcome.next v.recalc) (opMeasure_discarded p h)
  · have taken := opMeasure_taken p hn he hc h0 h1 h2 hw
    have run {v : State} (h : opMeasure n p status t u = v) : exec (.servoMeasurement now n p status t) s = .next v.recalc :=
      congrArg (fun v : State => Host.Outcome.next v.recalc) h
    dsimp only at taken
    refine ⟨fun hj => run (taken.trans (if_pos hj)), fun hj => ?_⟩
    rw [if_neg (by rw [hj]; decide)] at taken
    intro v w
    refine ⟨fun hs => run (taken.trans (if_pos hs)), fun hs => ?_⟩
    rw [if_neg (not_not.mpr hs), hs, Int.zero_mul, Int.sub_zero] at taken
    refine ⟨fun h => run (taken.trans (if_pos h)), fun h1 h2 h3 => ?_⟩
    rw [if_neg (by simp [h1, h2, h3])] at taken
    refine ⟨fun hw hl => ?_, fun hw hl => ?_, fun hw hu => ?_, fun hw hu => ?_⟩
    · exact run (taken.trans ((if_pos hw).trans (if_pos hl)))
    · exact run (taken.trans ((if_pos hw).trans (if_neg (by rw [hl]; decide))))
    · exact run (taken.trans ((if_neg (by rw [hw]; decide)).trans (if_pos hu)))
    · exact run (taken.trans ((if_neg (by rw [hw]; decide)).trans (if_neg (Bool.eq_false_iff.mp hu))))
  · exact congrArg Host.Outcome.next (opTermTimeout_of_not h)
  · refine ⟨_, congrArg Host.Outcome.next (opTermTimeout_lapses hk hf hp), ?_⟩
    dsimp only
    cases hr : u.girthRuns with
    | true =>
      rw [if_pos rfl, girthSum_withoutTerm hk]
      obtain ⟨b, hb⟩ := setG_girth { u with girth := withoutTerm u.girth k u.tb.lc } girthUnknown
      rw [hb]
      exact ⟨fun _ => ⟨rfl, rfl, rfl⟩, fun h => absurd h (by decide), rfl, fun h => if_neg h, fun h => if_neg h, fun h => if_neg h,
        fun h => if_neg h, fun h => if_neg h⟩
    | false =>
      rw [if_neg (by decide)]
      exact ⟨fun h => absurd h (by decide), fun _ => ⟨rfl, rfl, rfl⟩, rfl, fun h => if_neg h, fun h => if_neg h, fun h => if_neg h,
        fun h => if_neg h, fun h => if_neg h⟩

/-! ## Holdover learning (R133, R135) -/

theorem useTerms_ho (v : State) : v.useTerms = { v with ho := v.useTerms.ho } ∧ v.useTerms.ho.learned = v.ho.learned ∧
    (v.ho.frozen = true → v.useTerms = v) := by
  unfold State.useTerms
  dsimp only
  split
  · exact ⟨rfl, rfl, fun _ => rfl⟩
  · next h => exact ⟨rfl, rfl, fun hf => absurd hf h⟩

/-- The entries that the model learns from (R133). -/
def learnable (s : State) : List HistEntry := s.ho.ring.filter (fun e => e.learnable && decide (s.ageOf e.aseq < s.hoLearnSpan))

/-- A fit is due (R133). -/
def FitDue (s : State) : Prop :=
  (∃ k, s.ho.anchorsWarm = some k ∧ 0 < k ∧ k % 3600 = 0) ∧ s.engsRun = true ∧ s.dramReady = true ∧ 21600 ≤ (learnable s).length

theorem opLearnFit_due {s : State} (h : FitDue s) :
    opLearnFit s = ({ s with ho := { s.ho with learned := some (s.fitTerms (learnable s)) } } : State).useTerms := by
  obtain ⟨⟨k, warm, positive, whole⟩, runs, ready, enough⟩ := h
  unfold opLearnFit
  dsimp only
  rw [warm, runs, ready]
  exact if_pos (by simp only [positive, whole, decide_true, beq_self_eq_true, Bool.and_self, Bool.true_and]; exact decide_eq_true enough)

theorem opLearnFit_not_due {s : State} (h : ¬ FitDue s) : opLearnFit s = s := by
  unfold opLearnFit
  refine if_neg fun due => h ?_
  simp only [Bool.and_eq_true, decide_eq_true_eq] at due
  obtain ⟨⟨⟨cadence, runs⟩, ready⟩, enough⟩ := due
  refine ⟨?_, runs, ready, enough⟩
  split at cadence
  · next k warm =>
    simp only [Bool.and_eq_true, decide_eq_true_eq, beq_iff_eq] at cadence
    exact ⟨k, warm, cadence⟩
  · exact absurd cadence (by decide)

/-- Settles O46. -/
theorem holdoverLearning : Obligations.HoldoverLearning := by
  unfold Obligations.HoldoverLearning
  intro s l due
  refine ⟨fun h => congrArg Host.Outcome.next (opLearnFit_not_due h), fun h => ?_⟩
  refine ⟨_, congrArg Host.Outcome.next (opLearnFit_due h), ?_⟩
  obtain ⟨only, learned, frozen⟩ := useTerms_ho { s with ho := { s.ho with learned := some (s.fitTerms (learnable s)) } }
  refine ⟨only, learned, fun hf => ?_⟩
  rw [frozen hf]

end Sys2Proof.Proofs
end

section
/-!
PROOFS. The oven and the atomic pair (06_holdover_and_oven.md): R142–R150.
-/
namespace Sys2Proof.Proofs
open Sys2Proof Sys2Proof.Machine

/-! ## Samples (R144, R146, R147) -/

theorem not_bne {a b : Nat} (h : a = b) : ¬ (a != b) = true := fun hn => bne_iff_ne.mp hn h

theorem ite_zero_le {c : Prop} [Decidable c] {a b : Nat} (h : a ≤ b) : (if c then a else 0) ≤ b := by
  split
  · exact h
  · exact Nat.zero_le _

/-- Noting the warm-up conditions writes only the oven. -/
theorem noteWarm_eq (s : State) : ∃ c f : Option Nat, s.noteWarm = { s with oven := { s.oven with
    warm := s.oven.warm && (s.start.inReset || s.oscType != 0 || !s.oven.sensorFault), condSince := c, awaySince := f } } := ⟨_, _, rfl⟩

section
variable {s : State} {code : Nat} {pin : Bool}

theorem opOvenSample_foreign (h : s.oscType ≠ 0) :
    opOvenSample code pin s = ({ s with oven := { s.oven with warmPin := pin } } : State).noteWarm := by
  unfold opOvenSample
  exact if_pos (bne_iff_ne.mpr h)

theorem opOvenSample_fault (h : s.oscType = 0) (hc : code < 256 ∨ 65280 < code) :
    let n := ({ s with oven := { s.oven with warmPin := pin } } : State).noteWarm
    opOvenSample code pin s = (({ n with
      oven := { n.oven with sensorFault := true, goodRun := 0, duty := 0 }, ho := { n.ho with faultGap := true } } : State).noteWarm).raise 0x0501 := by
  intro n
  unfold opOvenSample
  exact (if_neg (not_bne h)).trans (if_pos (by simpa using hc))

theorem opOvenSample_good (h : s.oscType = 0) (h1 : 256 ≤ code) (h2 : code ≤ 65280) :
    let n := ({ s with oven := { s.oven with warmPin := pin } } : State).noteWarm
    let v : State := { n with oven := { n.oven with
      sampleSum := n.oven.sampleSum + n.thermTemp code, samples := n.oven.samples + 1, goodRun := n.oven.goodRun + 1 } }
    opOvenSample code pin s = if s.oven.sensorFault = true ∧ 99 ≤ s.oven.goodRun then
      ({ v with oven := { v.oven with sensorFault := false } } : State).clearFault 0x0501 else v := by
  intro n v
  have recovers : (v.oven.sensorFault && decide (100 ≤ v.oven.goodRun)) = decide (s.oven.sensorFault = true ∧ 99 ≤ s.oven.goodRun) := by
    show (s.oven.sensorFault && decide (100 ≤ s.oven.goodRun + 1)) = _
    rw [Bool.eq_iff_iff]
    simp
  unfold opOvenSample
  refine (if_neg (not_bne h)).trans ((if_neg ?_).trans ?_)
  · simp
    omega
  · show (if (v.oven.sensorFault && decide (100 ≤ v.oven.goodRun)) = true then _ else v) = _
    rw [recovers]
    simp only [decide_eq_true_eq]
    rfl

end

/-! ## The loop (R145, R148, R149) -/

theorem addTemp_only (s : State) (x : Int) : s.addTemp x = { s with ho := (s.addTemp x).ho } := by
  unfold State.addTemp
  split <;> rfl

theorem clampI_le {lo hi v : Int} (h : lo ≤ hi) : clampI lo hi v ≤ hi := by
  unfold clampI
  omega

theorem ovenPid_le (s : State) (temp : Int) : (s.ovenPid temp).1 ≤ (s.ovenDutyMax : Int) * 1000000 := by
  unfold State.ovenPid
  exact clampI_le (by omega)

/-- The duty that the loop gives is within its range (R145). -/
theorem rdiv_duty_le {d : Int} {m : Nat} (h : d ≤ (m : Int) * 1000000) : (rdiv d 1000000).toNat ≤ m := by
  unfold rdiv
  omega

/-- The oven after a step of the loop that has samples (R145, R148). -/
def stepOven (o : State) : Oven :=
  let b : State := { o with oven := { o.oven with ambient := o.ambientEst } }
  let temp := rdiv o.oven.sampleSum o.oven.samples
  let hot := if o.oven.overTemp then decide (o.ovenTempMax * 10 - 2000 < temp) else decide (o.ovenTempMax * 10 ≤ temp)
  let run := !o.oven.sensorFault && !hot
  { b.oven with
    temp := temp
    prevTemp := some temp
    sampleSum := 0
    samples := 0
    overTemp := hot
    duty := if run then (rdiv (b.ovenPid temp).1 1000000).toNat else 0
    integ := if run then (b.ovenPid temp).2 else b.oven.integ }

theorem stepOven_fields (o : State) : (stepOven o).temp = rdiv o.oven.sampleSum o.oven.samples ∧ (stepOven o).samples = 0 ∧
    (o.ovenTempMax * 10 ≤ (stepOven o).temp → (stepOven o).overTemp = true) ∧
    (o.oven.sensorFault = true ∨ (stepOven o).overTemp = true → (stepOven o).duty = 0) ∧ (stepOven o).duty ≤ o.ovenDutyMax := by
  unfold stepOven
  dsimp only
  refine ⟨rfl, rfl, fun h => ?_, fun h => ?_, ?_⟩
  · split
    · exact decide_eq_true (by omega)
    · exact decide_eq_true h
  · refine if_neg ?_
    simp only [Bool.and_eq_true, Bool.not_eq_true', not_and]
    intro sound cool
    rcases h with h | h
    · exact absurd (h.symm.trans sound) (by decide)
    · exact absurd (h.symm.trans cool) (by decide)
  · exact ite_zero_le (rdiv_duty_le (m := o.ovenDutyMax) (ovenPid_le { o with oven := { o.oven with ambient := o.ambientEst } } _))

theorem opOvenStep_foreign {s : State} (h : s.takeOven.oscType ≠ 0) :
    let o := s.takeOven
    ∃ v : State, opOvenStep s = v ∧ v = { o with oven := v.oven, ho := v.ho } ∧ v.oven.ambient = o.ambientEst ∧ v.oven.duty = 0 ∧
      v.oven.samples = 0 ∧ v.oven.warm = o.oven.warm := by
  intro o
  let b : State := { o with oven := { o.oven with ambient := o.ambientEst, duty := 0, sampleSum := 0, samples := 0 } }
  have step : opOvenStep s = (b.addTemp o.ambientEst).noteWarm := by
    unfold opOvenStep
    exact if_pos (bne_iff_ne.mpr h)
  obtain ⟨c, f, noted⟩ := noteWarm_eq (b.addTemp o.ambientEst)
  refine ⟨_, step, ?_⟩
  rw [noted, addTemp_only b o.ambientEst]
  refine ⟨rfl, rfl, rfl, rfl, ?_⟩
  show (o.oven.warm && (o.start.inReset || o.oscType != 0 || !o.oven.sensorFault)) = o.oven.warm
  rw [show (o.oscType != 0) = true by simpa using h, Bool.or_true, Bool.true_or, Bool.and_true]

theorem opOvenStep_idle {s : State} (h : s.takeOven.oscType = 0) (hs : s.takeOven.oven.samples = 0) :
    let o := s.takeOven
    opOvenStep s = ({ o with oven := { o.oven with ambient := o.ambientEst } } : State).noteWarm := by
  intro o
  unfold opOvenStep
  exact (if_neg (not_bne h)).trans (if_pos hs)

theorem opOvenStep_runs {s : State} (h : s.takeOven.oscType = 0) (hs : s.takeOven.oven.samples ≠ 0) :
    let o := s.takeOven
    ∃ (v : State) (hot : Bool), opOvenStep s = v.level hot 0x0502 ∧
      v = { o with oven := v.oven, ho := v.ho } ∧ v.oven.temp = rdiv o.oven.sampleSum o.oven.samples ∧ v.oven.samples = 0 ∧ v.oven.overTemp = hot ∧
      (o.ovenTempMax * 10 ≤ v.oven.temp → hot = true) ∧ (o.oven.sensorFault = true ∨ hot = true → v.oven.duty = 0) ∧ v.oven.duty ≤ o.ovenDutyMax := by
  intro o
  let b : State := { o with oven := stepOven o }
  have step : opOvenStep s = (b.addTemp (stepOven o).temp).noteWarm.level (stepOven o).overTemp 0x0502 := by
    unfold opOvenStep
    exact (if_neg (not_bne h)).trans (if_neg hs)
  obtain ⟨temp, samples, hot, cold, duty⟩ := stepOven_fields o
  obtain ⟨c, f, noted⟩ := noteWarm_eq (b.addTemp (stepOven o).temp)
  refine ⟨_, _, step, ?_⟩
  rw [noted, addTemp_only b (stepOven o).temp]
  exact ⟨rfl, temp, samples, rfl, hot, cold, duty⟩

/-! ## The warm flag (R150) -/

theorem opWarmRise_of_not {u : State} (h : u.oven.condSince = none ∨ u.oven.warm = true ∨ u.tempCond = false ∨ u.slopeCond = false) :
    opWarmRise u = u := by
  unfold opWarmRise
  split
  · rfl
  · next t ht =>
    refine if_neg ?_
    rw [Bool.and_eq_true, Bool.and_eq_true, Bool.and_eq_true, Bool.not_eq_true']
    rintro ⟨⟨⟨cold, temp⟩, slope⟩, -⟩
    rcases h with h | h | h | h
    · exact absurd (ht.symm.trans h) (by simp)
    · exact absurd (h.symm.trans cold) (by decide)
    · exact absurd (h.symm.trans temp) (by decide)
    · exact absurd (h.symm.trans slope) (by decide)

theorem leaveWarming_start (v : State) :
    (v.start.state = .warming → v.leaveWarming.start.state = .acquiring) ∧ (v.start.state ≠ .warming → v.leaveWarming.start = v.start) := by
  unfold State.leaveWarming
  constructor
  · intro h
    rw [if_pos (by rw [h]; rfl)]
  · intro h
    rw [if_neg (by simpa using h)]

theorem leaveWarming_only (v : State) : v.leaveWarming = { v with start := v.leaveWarming.start } := by
  unfold State.leaveWarming
  split <;> rfl

theorem opWarmRise_rises {u : State} {t : Nat} (hc : u.oven.condSince = some t) (ht : t + secs 60 ≤ u.tb.lc) (hw : u.oven.warm = false)
    (h1 : u.tempCond = true) (h2 : u.slopeCond = true) : ∃ v : State, opWarmRise u = v ∧ v.oven = { u.oven with warm := true } ∧
      v.ho = { u.ho with anchorsWarm := some (u.ho.anchorsWarm.getD 0), everValid := u.ho.everValid || decide (u.hoWindow ≤ 2 * u.ho.winCount) } ∧
      (u.start.state = .warming → v.start.state = .acquiring) ∧ (u.start.state ≠ .warming → v.start = u.start) := by
  let b := ({ u with oven := { u.oven with warm := true }, ho := { u.ho with anchorsWarm := some (u.ho.anchorsWarm.getD 0) } } : State).noteValid
  have rise : opWarmRise u = b.leaveWarming := by
    unfold opWarmRise
    rw [hc]
    exact if_pos (by rw [hw, h1, h2, decide_eq_true ht]; rfl)
  refine ⟨b.leaveWarming, rise, ?_, ?_, leaveWarming_start b⟩
  · rw [leaveWarming_only]
    rfl
  · rw [leaveWarming_only]
    rfl

theorem opWarmFall_falls {u : State} (hw : u.oven.warm = true) (hr : u.start.inReset = false)
    (h : (u.oscType = 0 ∧ u.oven.sensorFault = true) ∨ (u.awayCond = true ∧ ∃ t, u.oven.awaySince = some t ∧ t + secs 10 ≤ u.tb.lc)) :
    opWarmFall u = { u with oven := { u.oven with warm := false } } := by
  unfold opWarmFall
  refine if_pos ?_
  rw [hw, hr]
  rcases h with ⟨ht, hf⟩ | ⟨ha, t, hs, hl⟩
  · rw [ht, hf]
    rfl
  · rw [ha, hs]
    simp [hl]

theorem opWarmFall_stays {u : State} (h : u.oven.warm = false ∨ u.start.inReset = true ∨
    ((u.oscType ≠ 0 ∨ u.oven.sensorFault = false) ∧ u.awayCond = false)) : opWarmFall u = u := by
  unfold opWarmFall
  refine if_neg ?_
  rcases h with h | h | ⟨h | h, ha⟩
  · rw [h]; simp
  · rw [h]; simp
  · rw [ha]; simp [h]
  · rw [ha, h]; simp

/-! ## The atomic pair (R142, R143) -/

/-- The steering second: what is sent, by protocol (R143). -/
theorem opSteer_eq (s : State) :
    let a := s.takeAtomic.takeRelay
    let adj := a.atomic.adj + match a.atomicPin with
      | some n => if a.steers n then a.steerDelta n else 0
      | none => 0
    opSteer s =
      if a.atomicProto = 0 then ({ a with atomic := { a.atomic with adj := adj } } : State).atomicMute
      else if a.atomicProto = 1 then
        { a with atomic := { a.atomic with adj := adj, sent := steerSentence a.atomic.seq adj, seq := (a.atomic.seq + 1) % 256 } }
      else { a with atomic := { a.atomic with adj := adj } } := by
  intro a adj
  have adjusted : (match a.atomicPin with
      | some n => if a.steers n then { a with atomic := { a.atomic with adj := a.atomic.adj + a.steerDelta n } } else a
      | none => a) = { a with atomic := { a.atomic with adj := adj } } := by
    show _ = ({ a with atomic := { a.atomic with adj := a.atomic.adj + match a.atomicPin with
      | some n => if a.steers n then a.steerDelta n else 0
      | none => 0 } } : State)
    cases a.atomicPin with
    | none => rw [Int.add_zero]
    | some n =>
      dsimp only
      cases a.steers n with
      | true => rfl
      | false =>
        simp only [Bool.false_eq_true, if_false]
        rw [Int.add_zero]
  unfold opSteer
  exact congrArg (fun v : State => if v.atomicProto = 0 then v.atomicMute
    else if v.atomicProto = 1 then
      { v with atomic := { v.atomic with sent := steerSentence v.atomic.seq v.atomic.adj, seq := (v.atomic.seq + 1) % 256 } }
    else v) adjusted

theorem opAtomicReply_other {s : State} (h : s.atomicProto ≠ 1) (ok : Bool) (seq st : Nat) : opAtomicReply ok seq st s = s := by
  unfold opAtomicReply
  exact if_pos (bne_iff_ne.mpr h)

theorem opAtomicReply_taken {s : State} {ok : Bool} {seq st : Nat} (h : s.atomicProto = 1) (ho : ok = true)
    (hq : seq = (s.atomic.seq + 255) % 256) (ht : st = 76 ∨ st = 85 ∨ st = 87) :
    opAtomicReply ok seq st s = s.atomicStatus (if st = 76 then 3 else if st = 85 then 2 else 1) := by
  unfold opAtomicReply
  exact (if_neg (not_bne h)).trans (if_neg (by simp [ho, hq, ht]))

theorem opAtomicReply_discarded {s : State} {ok : Bool} {seq st : Nat} (h : s.atomicProto = 1)
    (hb : ok = false ∨ seq ≠ (s.atomic.seq + 255) % 256 ∨ (st ≠ 76 ∧ st ≠ 85 ∧ st ≠ 87)) :
    opAtomicReply ok seq st s = { s with atomic := { s.atomic with discarded := bump s.atomic.discarded } } := by
  unfold opAtomicReply
  exact (if_neg (not_bne h)).trans (if_pos (by simpa [or_assoc] using hb))

/-- Settles O47. -/
theorem ovenAndAtomic : Obligations.OvenAndAtomic := by
  unfold Obligations.OvenAndAtomic
  intro s now code seq st pin ok u n o a
  refine ⟨noteWarm_eq { s with oven := { s.oven with warmPin := pin } }, fun h => ?_, fun h hc => ?_, fun h h1 h2 => ?_, fun h => ?_, fun h hs => ?_,
    fun h hs => ?_, fun t hc ht hw h1 h2 => ?_, fun h => ?_, fun hw hr h => ?_, fun h => ?_, ?_, fun h => ?_, fun h ho hq ht => ?_,
    fun h hb => ?_, rfl⟩
  · exact congrArg Host.Outcome.next (opOvenSample_foreign h)
  · exact congrArg Host.Outcome.next (opOvenSample_fault h hc)
  · intro v
    have run := opOvenSample_good (pin := pin) h h1 h2
    refine ⟨fun hk => congrArg Host.Outcome.next (run.trans (if_neg ?_)), fun hf hg => congrArg Host.Outcome.next (run.trans (if_pos ⟨hf, hg⟩))⟩
    rintro ⟨hf, hg⟩
    rcases hk with hk | hk
    · exact absurd (hk.symm.trans hf) (by decide)
    · omega
  · obtain ⟨v, run, fields⟩ := opOvenStep_foreign h
    exact ⟨v, congrArg Host.Outcome.next run, fields⟩
  · exact congrArg Host.Outcome.next (opOvenStep_idle h hs)
  · obtain ⟨v, hot, run, fields⟩ := opOvenStep_runs h hs
    exact ⟨v, hot, congrArg Host.Outcome.next run, fields⟩
  · obtain ⟨v, run, fields⟩ := opWarmRise_rises hc ht hw h1 h2
    exact ⟨v, congrArg Host.Outcome.next run, fields⟩
  · exact congrArg Host.Outcome.next (opWarmRise_of_not h)
  · exact congrArg Host.Outcome.next (opWarmFall_falls hw hr h)
  · exact congrArg Host.Outcome.next (opWarmFall_stays h)
  · intro adj
    have run := opSteer_eq s
    refine ⟨fun h0 => ?_, fun h1 => ?_, fun h0 h1 => ?_⟩
    · exact congrArg Host.Outcome.next (run.trans (if_pos h0))
    · exact congrArg Host.Outcome.next (run.trans ((if_neg (by rw [show s.takeAtomic.takeRelay.atomicProto = 1 from h1]; decide)).trans (if_pos h1)))
    · exact congrArg Host.Outcome.next (run.trans ((if_neg h0).trans (if_neg h1)))
  · exact congrArg Host.Outcome.next (opAtomicReply_other h ok seq st)
  · exact congrArg Host.Outcome.next (opAtomicReply_taken h ho hq ht)
  · exact congrArg Host.Outcome.next (opAtomicReply_discarded h hb)

end Sys2Proof.Proofs
end

section
/-!
PROOFS. Synthesis and outputs (07_synthesis_and_outputs.md): R157–R163, R170, R174, R175.
-/
namespace Sys2Proof.Proofs
open Sys2Proof Sys2Proof.Machine

/-! ## Commit (R157) -/

section
variable {s : State}

theorem opCommitApply_none (h : s.synth.pending = none) : opCommitApply s = s := by
  unfold opCommitApply
  rw [h]

theorem opCommitApply_early {mask outs due : Nat} (h : s.synth.pending = some (mask, outs, due))
    (hd : 2 ^ 31 ≤ (s.aseqNow + 2 ^ 32 - due) % 2 ^ 32) : opCommitApply s = s := by
  unfold opCommitApply
  rw [h]
  exact if_pos hd

theorem opCommitApply_due {mask outs due : Nat} (h : s.synth.pending = some (mask, outs, due))
    (hd : (s.aseqNow + 2 ^ 32 - due) % 2 ^ 32 < 2 ^ 31) : opCommitApply s =
      (bitList 16 outs).foldl State.loadOut ((bitList 4 mask).foldl State.loadApll { s with synth := { s.synth with pending := none } }) := by
  unfold opCommitApply
  rw [h]
  exact if_neg (Nat.not_le.mpr hd)

end

theorem bit_setBit_true (v n : Nat) : bit (setBit v n true) n = true := by
  unfold bit setBit
  split
  case isTrue same => exact (eq_of_beq same).symm
  case isFalse other =>
    have off : v.testBit n = false := by simpa using other
    simp [Nat.add_comm v, Nat.testBit_two_pow_add_eq, off]

theorem apll_onApll {s : State} {a : Nat} (h : a < s.synth.aplls.length) (f : Apll → Apll) : (s.onApll a f).apll a = f (s.apll a) :=
  getD_upd_eq f a s.synth.aplls Apll.init h

/-- An APLL that the commit changes, or that has no lock, takes its shadow and relocks (R157). -/
theorem loadApll_loads {v : State} {n : Nat} (hn : n < v.synth.aplls.length) (h : v.apllShadow n ≠ v.apll n ∨ (v.apll n).lock = 0) :
    (v.loadApll n).apll n = { v.apllShadow n with
      lock := if (v.apllShadow n).lock = 3 then 3 else 2, pull := Config.freeValue v.freeCount } ∧
    bit (v.loadApll n).synth.relocking n = true := by
  have loads : ¬ (v.apllShadow n == v.apll n && (v.apllShadow n).lock != 0) = true := by
    rintro c
    obtain ⟨same, locked⟩ := Bool.and_eq_true_iff.mp c
    rcases h with h | h
    · exact h (eq_of_beq same)
    · exact bne_iff_ne.mp locked h
  unfold State.loadApll
  rw [if_neg loads]
  exact ⟨apll_onApll (s := v.draw.2) hn _, bit_setBit_true _ n⟩

/-! ## Loss of lock, start and stop (R158–R163) -/

section
variable {s : State} {n : Nat}

theorem opApllLoss_idle (h : 4 ≤ n ∨ (s.apll n).lock = 0) : opApllLoss n s = s := by
  unfold opApllLoss
  refine if_neg (fun c => ?_)
  obtain ⟨apll, locked⟩ := Bool.and_eq_true_iff.mp c
  rcases h with h | h
  · exact absurd (of_decide_eq_true apll) (Nat.not_lt.mpr h)
  · exact bne_iff_ne.mp locked h

theorem opApllLoss_loses (hn : n < 4) (h : (s.apll n).lock ≠ 0) :
    let v := ({ s with freeCount := s.freeCount + 1 } : State).onApll n (fun p => { p with lock := 3, loss := bump p.loss, pull := Config.freeValue s.freeCount })
    opApllLoss n s = ((v.stopAll (fun o => o.apll = n && o.holdOnRelock)).onOuts (fun o =>
      if o.apll = n && o.running && !o.holdOnRelock then { o with girthHeld := true } else o)).raise 0x0007 n := by
  intro v
  unfold opApllLoss
  exact if_pos (Bool.and_eq_true_iff.mpr ⟨decide_eq_true hn, bne_iff_ne.mpr h⟩)

theorem opOutStart_starts (hm : s.mayStart n = true) (hp : s.startPoint n = true) :
    opOutStart n s = (s.onOut n (fun o =>
      { o with running := true, highZ := false, starts := bump o.starts, placed := 0, move := 0, heldTo := 0,
               highTo := 0, origin := s.tb.lc, frame := none, nextFrame := none })).putFrame n := by
  unfold opOutStart
  exact if_pos (Bool.and_eq_true_iff.mpr ⟨hm, hp⟩)

theorem opOutStart_held (h : s.mayStart n = false ∨ s.startPoint n = false) : opOutStart n s = s := by
  unfold opOutStart
  exact if_neg (by simpa [imp_iff_not_or] using h)

theorem opOutStop_stops (hr : (s.out n).running = true) (hs : (s.outStop n).isSome = true ∨ (s.out n).committing = true)
    (hh : s.outHigh n = false ∨ (s.apll (s.out n).apll).lock = 3) :
    opOutStop n s = s.onOut n (fun o => { o with
      running := false, committing := false, frame := none, nextFrame := none, stream := none, move := 0, heldTo := 0, highTo := 0,
      highZ := !s.halterOn || o.idle == 1 }) := by
  unfold opOutStop
  exact if_pos (by simp [hr, hs, hh])

theorem opOutStop_runs (h : (s.out n).running = false ∨ (s.outStop n = none ∧ (s.out n).committing = false) ∨
    (s.outHigh n = true ∧ (s.apll (s.out n).apll).lock ≠ 3)) : opOutStop n s = s := by
  unfold opOutStop
  refine if_neg ?_
  rcases h with h | ⟨stop, committing⟩ | ⟨high, lock⟩
  · simp [h]
  · simp [stop, committing]
  · simp [high, lock]

end

/-! ## Stopping several outputs (R158) -/

theorem out_onOut {s : State} {n : Nat} (h : n < s.synth.outs.length) (f : Output → Output) : (s.onOut n f).out n = f (s.out n) :=
  getD_upd_eq f n s.synth.outs (Output.init n) h

theorem out_onOut_ne (s : State) {n k : Nat} (h : n ≠ k) (f : Output → Output) : (s.onOut k f).out n = s.out n :=
  getD_upd_ne f k n s.synth.outs (Output.init n) h

theorem stopDue_outs_length (s : State) (k : Nat) : (s.stopDue k).synth.outs.length = s.synth.outs.length :=
  upd_length _ k s.synth.outs

theorem out_stopDue_ne (s : State) {n k : Nat} (h : n ≠ k) : (s.stopDue k).out n = s.out n := out_onOut_ne s h _

/-- An output that runs goes on until it stops at the end of its high phase (R158). -/
theorem out_stopDue {s : State} {n : Nat} (hn : n < s.synth.outs.length) (hr : (s.out n).running = true) :
    ((s.stopDue n).out n).committing = true ∧ ((s.stopDue n).out n).running = true := by
  unfold State.stopDue
  rw [out_onOut hn]
  split
  case isTrue idle => exact ⟨rfl, hr⟩
  case isFalse committing =>
    refine ⟨?_, hr⟩
    simpa [hr] using committing

/-- One output's turn in `State.stopAll`. -/
def stopOne (p : Output → Bool) (s : State) (k : Nat) : State := if p (s.out k) then s.stopDue k else s

section
variable {p : Output → Bool}

theorem stopOne_outs_length (s : State) (k : Nat) : (stopOne p s k).synth.outs.length = s.synth.outs.length := by
  unfold stopOne
  split
  · exact stopDue_outs_length s k
  · rfl

theorem out_stopOne_ne (s : State) {n k : Nat} (h : n ≠ k) : (stopOne p s k).out n = s.out n := by
  unfold stopOne
  split
  · exact out_stopDue_ne s h
  · rfl

theorem out_stopOne_kept {s : State} {n : Nat} (h : p (s.out n) = false) (k : Nat) : (stopOne p s k).out n = s.out n := by
  by_cases same : n = k
  · subst same
    unfold stopOne
    rw [if_neg (by rw [h]; decide)]
  · exact out_stopOne_ne s same

theorem out_foldl_stopOne_kept {n : Nat} (l : List Nat) {s : State} (h : p (s.out n) = false) : (l.foldl (stopOne p) s).out n = s.out n := by
  induction l generalizing s with
  | nil => rfl
  | cons k l ih =>
    have kept : (stopOne p s k).out n = s.out n := out_stopOne_kept h k
    exact (ih (by rw [kept]; exact h)).trans kept

/-- An output that stops already goes on stopping. -/
theorem out_foldl_stopOne_stopping {n : Nat} (l : List Nat) {s : State} (hn : n < s.synth.outs.length)
    (h : (s.out n).committing = true ∧ (s.out n).running = true) :
    ((l.foldl (stopOne p) s).out n).committing = true ∧ ((l.foldl (stopOne p) s).out n).running = true := by
  induction l generalizing s with
  | nil => exact h
  | cons k l ih =>
    refine ih (by rw [stopOne_outs_length]; exact hn) ?_
    by_cases same : n = k
    · subst same
      unfold stopOne
      split
      · exact out_stopDue hn h.2
      · exact h
    · rw [out_stopOne_ne s same]
      exact h

theorem out_foldl_stopOne {n : Nat} {l : List Nat} (hl : n ∈ l) {s : State} (hn : n < s.synth.outs.length) (hp : p (s.out n) = true)
    (hr : (s.out n).running = true) :
    ((l.foldl (stopOne p) s).out n).committing = true ∧ ((l.foldl (stopOne p) s).out n).running = true := by
  induction l generalizing s with
  | nil => exact absurd hl List.not_mem_nil
  | cons k l ih =>
    have hk : n < (stopOne p s k).synth.outs.length := by rw [stopOne_outs_length]; exact hn
    by_cases same : n = k
    · subst same
      refine out_foldl_stopOne_stopping l hk ?_
      unfold stopOne
      rw [if_pos hp]
      exact out_stopDue hn hr
    · have kept : (stopOne p s k).out n = s.out n := out_stopOne_ne s same
      exact ih (List.mem_of_ne_of_mem same hl) hk (by rw [kept]; exact hp) (by rw [kept]; exact hr)

end

/-! ## Alignment (R170) -/

/-- What a check of the alignment does with the error it has (R170). -/
def alignDone (v : State) (n : Nat) : State :=
  if v.misaligned n then v.correct n (v.out n).alignErr else v.onOut n (fun o => { o with girthHeld := o.girthHeld && v.inRelock n })

section
variable {s : State} {n : Nat}

theorem opAlignCheck_idle (h : (s.out n).running = false ∨ s.targeted n = false) : opAlignCheck n s = s := by
  unfold opAlignCheck
  exact if_neg (by simpa [imp_iff_not_or] using h)

theorem opAlignCheck_measured (hr : (s.out n).running = true) (ht : s.targeted n = true) {e : Int} {sd : Nat} (h : s.loopStats n = some (e, sd)) :
    opAlignCheck n s = alignDone ((s.settleMove n).onOut n (fun o => { o with alignErr := e, sigma := sd, loopDead := false })) n := by
  unfold opAlignCheck
  rw [if_pos (Bool.and_eq_true_iff.mpr ⟨hr, ht⟩), h]
  rfl

theorem opAlignCheck_silent (hr : (s.out n).running = true) (ht : s.targeted n = true) (h : s.loopStats n = none) :
    let m := s.settleMove n
    opAlignCheck n s = alignDone (if (m.out n).loopDead then m.onOut n (fun o => { o with alignErr := m.wrapP n o.placed }) else m) n := by
  intro m
  unfold opAlignCheck
  rw [if_pos (Bool.and_eq_true_iff.mpr ⟨hr, ht⟩), h]
  rfl

end

/-! ## ToD sentences (R174, R175) -/

section
variable {s : State} {n : Nat}

theorem opTodTx_sends (he : (s.synth.tod.getD n TodTx.init).enable = true) (hr : s.start.inReset = false) (hp : s.synth.policy = false)
    (hs : s.todSourceOk (s.synth.tod.getD n TodTx.init).source = true) (hm : s.todMoment (s.synth.tod.getD n TodTx.init) = true) :
    opTodTx n s = { s with synth := { s.synth with
      tod := upd (fun y => { y with sent := some (s.todSentence n), line := (s.todSentence n).line, lastQl := (s.todSentence n).ql }) n s.synth.tod } } := by
  unfold opTodTx
  exact if_pos (by rw [he, hr, hp, hs, hm]; rfl)

theorem opTodTx_silent (h : (s.synth.tod.getD n TodTx.init).enable = false ∨ s.start.inReset = true ∨ s.synth.policy = true ∨
    s.todSourceOk (s.synth.tod.getD n TodTx.init).source = false ∨ s.todMoment (s.synth.tod.getD n TodTx.init) = false) : opTodTx n s = s := by
  unfold opTodTx
  refine if_neg ?_
  simp only [Bool.and_eq_true, Bool.not_eq_true', not_and_or, Bool.not_eq_true, Bool.not_eq_false]
  tauto

theorem nextEdge_second {src : Nat} (h : 16 ≤ src) : s.nextEdge src = (s.full / 65536000000000 + 1).toNat := by
  unfold State.nextEdge
  rw [if_neg (Nat.not_lt.mpr h)]
  exact congrArg (fun t : Int => (t / 65536000000000 + 1).toNat) (Int.sub_zero s.full)

end

/-- Settles O48, branch by branch of each operation of the outputs. -/
theorem outputCommands : Obligations.OutputCommands := by
  unfold Obligations.OutputCommands
  intro s now n mask outs due u
  refine ⟨fun h => congrArg Host.Outcome.next (opCommitApply_none h),
    fun h => ⟨fun hd => congrArg Host.Outcome.next (opCommitApply_early h hd), fun hd => congrArg Host.Outcome.next (opCommitApply_due h hd)⟩,
    fun v hn h => loadApll_loads hn h,
    fun h => congrArg Host.Outcome.next (opApllLoss_idle h),
    fun hn h => congrArg Host.Outcome.next (opApllLoss_loses hn h),
    fun hm hp => congrArg Host.Outcome.next (opOutStart_starts hm hp),
    fun h => congrArg Host.Outcome.next (opOutStart_held h),
    fun hr hs hh => congrArg Host.Outcome.next (opOutStop_stops hr hs hh),
    fun h => congrArg Host.Outcome.next (opOutStop_runs h),
    fun h => congrArg Host.Outcome.next (opAlignCheck_idle h),
    fun hr ht => ⟨fun e sd h => congrArg Host.Outcome.next (opAlignCheck_measured hr ht h),
      fun h => congrArg Host.Outcome.next (opAlignCheck_silent hr ht h)⟩,
    rfl,
    fun v p hl hn => ?stopping,
    fun he hr hp hs hm => congrArg Host.Outcome.next (opTodTx_sends he hr hp hs hm),
    fun h => congrArg Host.Outcome.next (opTodTx_silent h),
    rfl,
    fun h => nextEdge_second h⟩
  case stopping =>
    have hv : n < v.synth.outs.length := by omega
    exact ⟨fun hp hr => out_foldl_stopOne (List.mem_range.mpr hn) hv hp hr, fun hp => out_foldl_stopOne_kept _ hp⟩

end Sys2Proof.Proofs
end

section
/-!
PROOFS. The front end of the GNSS receiver (08_gnss_baseband.md): R184–R191, R194, R207.
-/
namespace Sys2Proof.Proofs
open Sys2Proof Sys2Proof.Machine

/-! ## Inputs (R184–R188) -/

section
variable {s : State} {k : Nat}

theorem gif_onGif (h : k < s.gnss.gifs.length) (f : Gif → Gif) : (s.onGif k f).gif k = f (s.gif k) := getD_upd_eq f k s.gnss.gifs Gif.init h

theorem opGifLost_aligned (h : bit (s.gif k).status 0 = true) :
    opGifLost k s = ({ (s.onGif k (fun g => { g with status := setBit g.status 0 false })) with
      gnss := { (s.onGif k (fun g => { g with status := setBit g.status 0 false })).gnss with ifLoss := true } } : State).raise 0x0801 k := by
  unfold opGifLost
  exact if_pos h

theorem opGifLost_lost (h : bit (s.gif k).status 0 = false) : opGifLost k s = s := by
  unfold opGifLost
  exact if_neg (by rw [h]; decide)

/-- The notches of an input follow its mode (R186). -/
theorem opNotch_notches (h : k < s.gnss.gifs.length) (lines : List (Int × Nat)) (full : List Nat) :
    let seen := if s.gifInvert k then lines.map (fun y => (-y.1, y.2)) else lines
    let strong := seen.filter (fun y => decide (s.notchDetect k ≤ y.2))
    ((opNotch k lines full s).gif k).notches = (if s.notchMode k = 1 then strong.foldl addNotch (keepNotches strong (s.gif k).notches)
      else if s.notchMode k = 2 then s.fixedNotches k else List.replicate 8 none) :=
  congrArg Gif.notches (gif_onGif h _)

theorem ref_gnQl_ne (s : State) {n : Nat} (h : n ≠ 16) : s.gnQl.ref n = s.ref n := ref_onRef_ne s h _

theorem gnQl_only (s : State) : s.gnQl = { s with refs := s.gnQl.refs } := rfl

theorem ref_gnQl_jammed (h : s.refs.length = 17) (hj : s.gnss.jamDnu = true) : (s.gnQl.ref 16).qlRx = 0xF := by
  unfold State.gnQl
  dsimp only
  rw [ref_onRef (by omega)]
  show (if (!(_ : Bool) || s.gnss.jamDnu) then 0xF else _) = 0xF
  rw [hj, Bool.or_true]
  rfl

/-- A jamming indicator at the threshold raises the warning (R188). -/
theorem opJam_jamDnu (power : Int) (flat : Nat) (he : s.gifEnable k = true)
    (hj : s.gnJamThreshold ≤ s.jamValue k (power - s.agcQuiet k).toNat flat) : (opJam k power flat s).gnss.jamDnu = true :=
  if_pos (Bool.and_eq_true_iff.mpr ⟨he, decide_eq_true hj⟩)

theorem opJam_qlRx (power : Int) (flat : Nat) (hr : s.refs.length = 17) (he : s.gifEnable k = true)
    (hj : s.gnJamThreshold ≤ s.jamValue k (power - s.agcQuiet k).toNat flat) : ((opJam k power flat s).ref 16).qlRx = 0xF := by
  have warned := opJam_jamDnu power flat he hj
  unfold opJam at warned ⊢
  exact ref_gnQl_jammed hr warned

end

/-! ## Search engines (R189–R191) -/

section
variable {s : State} {e stat : Nat}

theorem opAcq_idle (h : s.gnRuns = false ∨ 4 ≤ e ∨ (s.gnss.engines.getD e Search.init).paused = true ∨
    (s.gnss.engines.getD e Search.init).waiting = true) : opAcq e stat s = s := by
  unfold opAcq
  refine if_pos ?_
  rcases h with h | h | h | h <;> simp only [h, decide_true, Bool.not_false, Bool.true_or, Bool.or_true]

section
variable (hr : s.gnRuns = true) (he : e < 4) (hp : (s.gnss.engines.getD e Search.init).paused = false)
  (hw : (s.gnss.engines.getD e Search.init).waiting = false)
include hr he hp hw

theorem acq_runs : ¬ (!s.gnRuns || decide (4 ≤ e) || (s.gnss.engines.getD e Search.init).paused ||
    (s.gnss.engines.getD e Search.init).waiting) = true := by
  rw [hr, hp, hw, decide_eq_false (Nat.not_le.mpr he)]
  decide

theorem opAcq_gated_idle (hg : bit s.engs.gated 3 = true) (ht : (s.gnss.engines.getD e Search.init).target = none) :
    opAcq e stat s = s.pauseEngine e := by
  unfold opAcq
  refine (if_neg (acq_runs hr he hp hw)).trans ((if_pos hg).trans ?_)
  rw [ht]
  rfl

theorem opAcq_gated_busy (hg : bit s.engs.gated 3 = true) (ht : (s.gnss.engines.getD e Search.init).target ≠ none) :
    opAcq e stat s = (s.statistic e stat).pauseEngine e := by
  unfold opAcq
  refine (if_neg (acq_runs hr he hp hw)).trans ((if_pos hg).trans ?_)
  rw [if_pos (Option.isSome_iff_ne_none.mpr ht)]

theorem opAcq_searches (hg : bit s.engs.gated 3 = false) : opAcq e stat s = s.statistic e stat := by
  unfold opAcq
  exact (if_neg (acq_runs hr he hp hw)).trans (if_neg (by rw [hg]; decide))

end

theorem statistic_unaimed (h : (s.gnss.engines.getD e Search.init).target = none) (hn : s.ageTargets.nextTarget = none) :
    s.statistic e stat = s.ageTargets := by
  unfold State.statistic
  simp only [h, hn]

theorem statistic_aims (h : (s.gnss.engines.getD e Search.init).target = none) {t : Target} (hn : s.ageTargets.nextTarget = some t) :
    s.statistic e stat = s.ageTargets.setSearch e { Search.init with target := some (t.sig, t.svid), grid := s.ageTargets.gridOf t } := by
  unfold State.statistic
  simp only [h, hn]

theorem statistic_aimed {t : Nat × Nat} (h : (s.gnss.engines.getD e Search.init).target = some t) :
    let x := s.gnss.engines.getD e Search.init
    let y := { x with retests := x.retests - 1, hits := x.hits + b2n (decide (x.grid.threshold ≤ stat)) }
    s.statistic e stat = if x.verifying then
        if 0 < y.retests then s.setSearch e y else if 3 ≤ y.hits then s.handOver e y t else s.nextCell e y t
      else if decide (x.grid.threshold ≤ stat) then s.setSearch e { x with verifying := true, retests := 4, hits := 0 } else s.nextCell e x t := by
  intro x y
  unfold State.statistic
  dsimp only
  split
  case h_1 unaimed => exact absurd (unaimed.symm.trans h) nofun
  case h_2 t' aimed =>
    obtain rfl : t' = t := Option.some.inj (aimed.symm.trans h)
    rfl

end

/-! ## Channels and clock (R194, R207) -/

section
variable {s : State} {k : Nat}

theorem opPullIn_pulls {t : Track} (h : s.track k = some t) (ht : t.state = 1) : opPullIn k s = s.idleTrack k false := by
  unfold opPullIn
  rw [h]
  exact if_pos ht

theorem opPullIn_past (h : ∀ t, s.track k = some t → t.state ≠ 1) : opPullIn k s = s := by
  unfold opPullIn
  cases ht : s.track k with
  | none => rfl
  | some t => exact if_neg (h t ht)

theorem opTrackLost_tracked (h : (s.track k).isSome = true) : opTrackLost k s = (s.idleTrack k true).raise 0x0802 k := by
  unfold opTrackLost
  exact if_pos h

theorem opTrackLost_idle (h : s.track k = none) : opTrackLost k s = s := by
  unfold opTrackLost
  exact if_neg (by rw [h]; decide)

end

/-- Settles O49, branch by branch of each operation of the front end. -/
theorem gnssFrontEnd : Obligations.GnssFrontEnd := by
  unfold Obligations.GnssFrontEnd
  intro s now k e stat flat power lines full u
  refine ⟨rfl,
    fun h => congrArg Host.Outcome.next (opGifLost_aligned h),
    fun h => congrArg Host.Outcome.next (opGifLost_lost h),
    fun hk => ⟨_, rfl, rfl, opNotch_notches hk lines full⟩,
    fun hk hr => ⟨_, rfl, rfl, congrArg Gif.jam (gif_onGif hk _), fun n hn => ref_gnQl_ne _ hn,
      fun he hj => ⟨opJam_jamDnu power flat he hj, opJam_qlRx power flat hr he hj⟩⟩,
    ⟨fun h => congrArg Host.Outcome.next (opAcq_idle h), fun hr he hp hw =>
      ⟨fun hg ht => congrArg Host.Outcome.next (opAcq_gated_idle hr he hp hw hg ht),
        fun hg ht => congrArg Host.Outcome.next (opAcq_gated_busy hr he hp hw hg ht),
        fun hg => ?searches⟩⟩,
    fun t h ht => congrArg Host.Outcome.next (opPullIn_pulls h ht),
    fun h => congrArg Host.Outcome.next (opPullIn_past h),
    fun h => congrArg Host.Outcome.next (opTrackLost_tracked h),
    fun h => congrArg Host.Outcome.next (opTrackLost_idle h),
    fun h => congrArg Host.Outcome.next (if_pos h),
    fun h => congrArg Host.Outcome.next (if_neg h),
    fun h => congrArg Host.Outcome.next (if_pos h),
    fun h => congrArg Host.Outcome.next (if_neg h)⟩
  case searches =>
    have step : opAcq e stat u = u.statistic e stat := opAcq_searches hr he hp hw hg
    refine ⟨fun ht hn => congrArg Host.Outcome.next (step.trans (statistic_unaimed ht hn)),
      fun ht t hn => congrArg Host.Outcome.next (step.trans (statistic_aims ht hn)),
      fun t ht => ⟨fun hv hit => ?_, fun hv hit => ?_, fun hv => ?_⟩⟩ <;>
    refine congrArg Host.Outcome.next (step.trans ((statistic_aimed ht).trans ?_))
    · exact (if_neg (by rw [hv]; decide)).trans (if_pos (decide_eq_true hit))
    · exact (if_neg (by rw [hv]; decide)).trans (if_neg (by simpa using hit))
    · exact if_pos hv

end Sys2Proof.Proofs
end

section
/-!
PROOFS. The solution of the GNSS receiver (08_gnss_baseband.md): R193–R206.
-/
namespace Sys2Proof.Proofs
open Sys2Proof Sys2Proof.Machine

/-! ## Epochs and measurement records (R193, R202–R204) -/

section
variable {s : State}

theorem opEpoch_off {now bin : Nat} {obs : List TrkObs} (h : s.gnRuns = false) : opEpoch now bin obs s = s := by
  unfold opEpoch
  exact if_pos (by rw [h]; rfl)

theorem opEpoch_runs (now bin : Nat) (obs : List TrkObs) (h : s.gnRuns = true) :
    let w := s.epochBoundary obs
    ∃ (v : State) (b : List Byte) (r : EpochRec), opEpoch now bin obs s = (
        let y := ((v.tap 3 0 false b).tiuEdge now 28 bin).afterEpoch
        if Config.gnssQueueDepth ≤ w.gnss.epochs.length then y.countEpoch false else y) ∧
      v = { w with gnss := v.gnss } ∧
      v.gnss.epochs = (if Config.gnssQueueDepth ≤ w.gnss.epochs.length then w.gnss.epochs.drop 1 else w.gnss.epochs) ++ [r] ∧ r.seq = w.gnss.epochSeq ∧
      v.gnss.epochSeq = bump w.gnss.epochSeq ∧ v.gnss.ifLoss = false ∧ v.gnss.notchMoved = false ∧
      v.gnss.epochDropped = decide (Config.gnssQueueDepth ≤ w.gnss.epochs.length) := by
  intro w
  unfold opEpoch
  rw [if_neg (by rw [h]; decide)]
  simp only [decide_eq_true_eq]
  exact ⟨_, _, _, rfl, rfl, rfl, rfl, rfl, rfl, rfl, rfl⟩

theorem opMeasRecord_waits {sol : Option GnSol} (h : s.gnss.epochs = [] ∨ s.engsRun = false) : opMeasRecord sol s = s := by
  unfold opMeasRecord
  split
  case h_1 => rfl
  case h_2 e rest queued =>
    rcases h with h | h
    · exact absurd (h.symm.trans queued) nofun
    · exact if_pos (by rw [h]; rfl)

/-- The second of a solution, with what it leaves for the position check (R204, R206). -/
def solved (w : State) (e : EpochRec) (r : TiuRec) (x : GnSol) : State :=
  let t := w.takeSol (w.solCode (stampGood r.status && (w.extend (r.stamp % 2 ^ 48) r.status).isSome) (w.solve e x)) (w.solve e x)
  { t with gnss := { t.gnss with dynPos := if t.heldPosition.isSome then t.dynamicPos e x else none } }

section
variable {e : EpochRec} {rest : List EpochRec} (he : s.gnss.epochs = e :: rest) (hr : s.engsRun = true)
include he hr

theorem opMeasRecord_unstamped (sol : Option GnSol) :
    let w : State := { s with gnss := { s.gnss with epochs := rest } }
    (w.chan 28).window.find? (·.edge % 4294967296 == e.seq) = none → opMeasRecord sol s =
      ({ w with gnss := { w.gnss with droppedEpochs := bump w.gnss.droppedEpochs, solStatus := 9, verified := false } } : State).gnQl.countEpoch false := by
  intro w none
  unfold opMeasRecord
  rw [he]
  refine (if_neg (by rw [hr]; decide)).trans ?_
  dsimp only
  split
  case h_1 => rfl
  case h_2 r found => exact absurd (none.symm.trans found) nofun

theorem opMeasRecord_stamped (sol : Option GnSol) :
    let w : State := { s with gnss := { s.gnss with epochs := rest } }
    ∀ r, (w.chan 28).window.find? (·.edge % 4294967296 == e.seq) = some r →
      let x := sol.getD ⟨[], (0, 0, 0)⟩
      let q := w.solve e x
      let edge := w.extend (r.stamp % 2 ^ 48) r.status
      let code := w.solCode (stampGood r.status && edge.isSome) q
      ∀ ok : Bool, ok = (decide (1 ≤ code) && decide (code ≤ 3)) →
      let t := (solved w e r x).countEpoch ok
      opMeasRecord sol s = if ok then
        (opMeasure 16 (q.tai - edge.getD 0) r.status r.stamp
          (({ t with gnss := { t.gnss with timeOffset := q.tai - edge.getD 0 } } : State).surveyEpoch q.pos)).recalc else t := by
  intro w r stamped x q edge code ok usable t
  subst usable
  unfold opMeasRecord
  rw [he]
  refine (if_neg (by rw [hr]; decide)).trans ?_
  dsimp only
  split
  case h_1 none => exact absurd (none.symm.trans stamped) nofun
  case h_2 r' found =>
    obtain rfl : r' = r := Option.some.inj (found.symm.trans stamped)
    rfl

end

/-! ## Navigation data (R195, R198–R201) -/

section
variable {ch : Nat} {unit : NavUnit}

theorem opNav_idle (h : s.track ch = none ∨ 16 ≤ ch ∨ s.gnRuns = false) : opNav ch unit s = s := by
  unfold opNav
  split
  case h_1 => rfl
  case h_2 t tracked =>
    refine if_pos ?_
    rcases h with h | h | h
    · exact absurd (h.symm.trans tracked) nofun
    · rw [decide_eq_true h]; rfl
    · rw [h, Bool.not_false, Bool.or_true, Bool.true_or]

variable {t : Track} (ht : s.track ch = some t)
include ht

theorem opNav_nine (h : t.sig = 9) : opNav ch unit s = s := by
  unfold opNav
  rw [ht]
  exact if_pos (by rw [beq_iff_eq.mpr h, Bool.or_true])

/-- What a data unit that passes its check leaves before OSNMA and the leap second are looked at (R195, R204). -/
def navTaken (v : State) (t : Track) (unit : NavUnit) : State :=
  let v := v.onSv t.sig t.svid (fun d => d.takeEph v.tai unit)
  let v := match unit.elev with
    | some d => v.onSv t.sig t.svid (fun x => { x with elev := some d })
    | none => v
  match unit.bcast with
  | some (k, o) => if bcastFrom t.sig k then
      { v with gnss := { v.gnss with isbBcast := v.gnss.isbBcast.set (k - 1) (some (o, v.tai)) } } else v
  | none => v

omit ht in
theorem navTaken_only (v : State) (t : Track) (unit : NavUnit) : navTaken v t unit = { v with gnss := (navTaken v t unit).gnss } := by
  unfold navTaken
  cases unit.elev <;> cases unit.bcast with
  | none => rfl
  | some o => dsimp only; split <;> rfl

omit ht in
theorem navTaken_plain {v : State} {t : Track} {unit : NavUnit} (he : unit.elev = none) (hb : unit.bcast = none) :
    navTaken v t unit = v.onSv t.sig t.svid (fun d => d.takeEph v.tai unit) := by
  unfold navTaken
  rw [he, hb]

section
variable (hc : ch < 16) (hr : s.gnRuns = true) (hs : t.sig ≠ 9)
include hc hr hs

omit ht in
theorem nav_runs : ¬ (decide (16 ≤ ch) || !s.gnRuns || t.sig == 9) = true := by
  rw [decide_eq_false (Nat.not_le.mpr hc), hr, beq_false_of_ne hs]
  decide

theorem opNav_filler (h : bit unit.nflags 4 = true) :
    opNav ch unit s = s.onSv t.sig t.svid (fun d => { d with navAt := some s.tai }) := by
  unfold opNav
  rw [ht]
  exact (if_neg (nav_runs hc hr hs)).trans (if_pos h)

theorem opNav_bad (h : bit unit.nflags 4 = false) (hb : bit unit.nflags 1 = false) :
    let a := s.onSv t.sig t.svid (fun d => { d with navAt := some s.tai })
    let v := a.tap 4 0 false (a.navBytes ch t.sig t.svid unit)
    opNav ch unit s = { v with gnss := { v.gnss with navErrors := bump v.gnss.navErrors } } := by
  intro a v
  unfold opNav
  simp only [ht]
  rw [if_neg (nav_runs hc hr hs), if_neg (show ¬ bit unit.nflags 4 = true by rw [h]; decide),
    if_pos (show (!bit unit.nflags 1) = true by rw [hb]; rfl)]

theorem opNav_good (h : bit unit.nflags 4 = false) (hb : bit unit.nflags 1 = true) :
    let a := s.onSv t.sig t.svid (fun d => { d with navAt := some s.tai })
    let v := a.tap 4 0 false (a.navBytes ch t.sig t.svid unit)
    let b := navTaken v t unit
    opNav ch unit s = match unit.leap with
      | some l => (b.osnmaStep t.sig t.svid unit.osnma).gnLeap t.sig l
      | none => b.osnmaStep t.sig t.svid unit.osnma := by
  intro a v b
  unfold opNav
  simp only [ht]
  rw [if_neg (nav_runs hc hr hs), if_neg (show ¬ bit unit.nflags 4 = true by rw [h]; decide),
    if_neg (show ¬ (!bit unit.nflags 1) = true by rw [hb]; decide)] <;> rfl

end
end
end

/-! ## Survey and position check (R205, R206) -/

section
variable {s : State}

theorem opSurveyDone_holds {n : Nat} {x y z : Int} (hm : s.gnPosMode = 1) (hp : s.gnss.position = none) (hl : s.gnss.surveyLeft = 0)
    (hn : n = s.gnss.surveyCount) (h : 0 < n) (hs : s.gnss.surveySum = (x, y, z)) :
    opSurveyDone s = { s with gnss := { s.gnss with position := some (rdiv x n, rdiv y n, rdiv z n) } } := by
  subst hn
  unfold opSurveyDone
  rw [if_pos (by simp [hm, hp, hl, h]), hs]

theorem opSurveyDone_not (h : s.gnPosMode ≠ 1 ∨ s.gnss.position ≠ none ∨ s.gnss.surveyLeft ≠ 0 ∨ s.gnss.surveyCount = 0) : opSurveyDone s = s := by
  unfold opSurveyDone
  refine if_neg ?_
  rcases h with h | h | h | h <;> simp [h]

theorem opPosCheck_none (h : s.heldPosition = none ∨ s.gnss.dynPos = none) :
    opPosCheck s = { s with gnss := { s.gnss with dynPos := none, posMismatch := 0 } } := by
  unfold opPosCheck
  dsimp only
  split
  case h_1 => rfl
  case h_2 => rfl
  case h_3 a b c x y z held pos =>
    rcases h with h | h
    · exact absurd (h.symm.trans held) nofun
    · exact absurd (h.symm.trans pos) nofun

theorem opPosCheck_checks {a b c x y z : Int} (hh : s.heldPosition = some (a, b, c)) (hp : s.gnss.dynPos = some (x, y, z)) :
    let far := decide (((s.gnPosTol * s.gnPosTol : Nat) : Int) < (x - a) * (x - a) + (y - b) * (y - b) + (z - c) * (z - c))
    opPosCheck s = { s with gnss := { s.gnss with dynPos := none, posMismatch := if far then s.gnss.posMismatch + 1 else 0 } } := by
  intro far
  have held : ({ s with gnss := { s.gnss with dynPos := none } } : State).heldPosition = some (a, b, c) := hh
  unfold opPosCheck
  dsimp only
  rw [held, hp]
  rfl

end

/-- Settles O50, branch by branch of each operation of the solution. -/
theorem gnssSolution : Obligations.GnssSolution := by
  unfold Obligations.GnssSolution
  intro s now bin ch n obs unit sol x y z u
  refine ⟨fun h => congrArg Host.Outcome.next (opEpoch_off h), fun h => ?epoch,
    fun h => congrArg Host.Outcome.next (opMeasRecord_waits h),
    fun e rest he hr => ⟨fun h => congrArg Host.Outcome.next (opMeasRecord_unstamped he hr sol h), fun r h => ⟨fun bad => ?refused, fun lo hi => ?taken⟩⟩,
    fun h => congrArg Host.Outcome.next (opNav_idle h),
    fun t ht => ⟨fun h => congrArg Host.Outcome.next (opNav_nine ht h), fun hc hr hs =>
      ⟨fun h => congrArg Host.Outcome.next (opNav_filler ht hc hr hs h),
        fun h hb => ?bad,
        fun h hb => ⟨navTaken _ t unit, congrArg Host.Outcome.next (opNav_good ht hc hr hs h hb), navTaken_only _ t unit, fun he hb => navTaken_plain he hb⟩⟩⟩,
    fun hm hp hl hn h hs => congrArg Host.Outcome.next (opSurveyDone_holds hm hp hl hn h hs),
    fun h => congrArg Host.Outcome.next (opSurveyDone_not h),
    fun h => congrArg Host.Outcome.next (opPosCheck_none h),
    fun a b c hh hp => ⟨_, congrArg Host.Outcome.next (opPosCheck_checks hh hp), ?far⟩⟩
  case bad =>
    have counted := opNav_bad (unit := unit) ht hc hr hs h hb
    exact congrArg Host.Outcome.next counted
  case epoch =>
    obtain ⟨v, b, r, step, fields⟩ := opEpoch_runs now bin obs h
    exact ⟨v, b, r, congrArg Host.Outcome.next step, fields⟩
  case refused =>
    refine congrArg Host.Outcome.next (opMeasRecord_stamped he hr sol r h false ?_)
    rw [eq_comm, Bool.and_eq_false_iff, decide_eq_false_iff_not, decide_eq_false_iff_not]
    omega
  case taken =>
    refine congrArg Host.Outcome.next (opMeasRecord_stamped he hr sol r h true ?_)
    rw [decide_eq_true lo, decide_eq_true hi]
    rfl
  case far =>
    rw [decide_eq_true_iff]
    push_cast
    simp only [sq]

end Sys2Proof.Proofs
end

section
/-!
PROOFS. What a fault of class F0 or F1 leaves: only the event log, the engines' queues, the dictionary's attention bits and the faults
themselves are written (23_faults.md, R485–R493).
-/
namespace Sys2Proof.Proofs
open Sys2Proof Sys2Proof.Machine

/-- `t` is `s` with something reported: only log, engines, dictionary and faults are written. -/
def Reports (s t : State) : Prop := t = { s with log := t.log, engs := t.engs, dict := t.dict, faults := t.faults }

namespace Reports

theorem rfl' (s : State) : Reports s s := rfl

theorem trans {r s t : State} (h1 : Reports r s) (h2 : Reports s t) : Reports r t := by
  unfold Reports at *
  exact h2.trans (by rw [h1])

theorem foldl {α : Type} {f : State → α → State} (h : ∀ s x, Reports s (f s x)) (l : List α) (s : State) : Reports s (l.foldl f s) := by
  induction l generalizing s with
  | nil => exact rfl' s
  | cons x l ih => exact (h s x).trans (ih _)

theorem net {s t : State} (h : Reports s t) : t.net = s.net := by
  unfold Reports at h
  rw [h]

theorem toLog (s : State) (x : Log) : Reports s { s with log := x } := rfl
theorem toEngs (s : State) (x : Engines) : Reports s { s with engs := x } := rfl
theorem toDict (s : State) (x : Dict) : Reports s { s with dict := x } := rfl
theorem toFaults (s : State) (x : Collector) : Reports s { s with faults := x } := rfl

theorem enqueue (s : State) (q n : Nat) (r : List Byte) : Reports s (s.enqueue q n r).1 := by
  unfold State.enqueue
  split <;> rfl

theorem tap (s : State) (src sel : Nat) (b : Bool) (r : List Byte) : Reports s (s.tap src sel b r) := by
  unfold State.tap
  refine foldl (fun s x => ?_) _ s
  split
  case isTrue tapped =>
    split
    case isTrue running =>
      have queued := enqueue s (0xC0 + x) 256 r
      split
      case h_1 t h => rw [h] at queued; exact queued
      case h_2 t h => rw [h] at queued; exact queued.trans (toEngs _ _)
    case isFalse gated => rfl
  case isFalse untapped => exact rfl' s

theorem stageOne (s : State) (b : LogBody) : Reports s (s.stageOne b) := by
  unfold State.stageOne
  exact (toLog s _).trans (tap _ 6 0 false _)

theorem stageLoss (s : State) : Reports s s.stageLoss := by
  unfold State.stageLoss
  exact (stageOne s _).trans (toLog _ _)

theorem lose (s : State) (l : List LogRec) (n : Nat) : Reports s (s.lose l n) := rfl

theorem stage {s t : State} {b : LogBody} (h : s.stage b = some t) : Reports s t := by
  unfold State.stage at h
  split at h
  case h_1 l n _ => exact Option.some.inj h ▸ ((lose s l n).trans (stageLoss _)).trans (stageOne _ b)
  case h_2 =>
    split at h
    case h_1 l n _ => exact Option.some.inj h ▸ (lose s l n).trans (stageOne _ b)
    case h_2 => exact absurd h nofun

theorem staged (s : State) (b : LogBody) : Reports s ((s.stage b).getD (s.lose s.log.staging 1)) := by
  cases h : s.stage b with
  | none => exact lose s _ 1
  | some t => exact stage h

theorem attn (s : State) (b : Nat) : Reports s (s.attn b) := by
  unfold State.attn State.irqEdge
  split <;> rfl

theorem record (s : State) (code cls flags inst rep seq detail : Nat) : Reports s (s.record code cls flags inst rep seq detail) := by
  unfold State.record
  dsimp only
  split
  case isTrue => exact (staged s _).trans (toFaults _ _)
  case isFalse => exact ((staged s _).trans (toFaults _ _)).trans (attn _ 0)

theorem activate (s : State) (code inst cls : Nat) : Reports s (s.activate code inst cls) := by
  unfold State.activate
  dsimp only
  split <;> split <;> rfl

theorem collect (s : State) {code cls inst detail : Nat} (h : cls < 2) : Reports s (s.collect code cls inst detail) := by
  have same : (s.takeLate faultKey).raisedClass code cls = cls := if_neg (by simp; omega)
  unfold State.collect
  dsimp only
  rw [same, if_pos h]
  split
  case h_1 => exact ((toDict s _).trans (toFaults _ _)).trans (activate _ code inst cls)
  case h_2 =>
    have kept : Reports s (((s.takeLate faultKey).record code cls (8 * b2n (s.takeLate faultKey).start.haltF3) inst 0 0 detail).activate code inst cls) :=
      ((toDict s _).trans (record _ code cls _ inst 0 0 detail)).trans (activate _ code inst cls)
    split
    case isTrue => exact kept
    case isFalse => exact kept.trans (toFaults _ _)

theorem raise (s : State) {code cls : Nat} (hc : faultClass code = some cls) (h : cls < 2) (inst detail : Nat) : Reports s (s.raise code inst detail) := by
  unfold State.raise
  rw [hc]
  dsimp only
  split
  case isTrue => exact rfl' s
  case isFalse =>
    split
    case isTrue =>
      rw [if_neg (by omega)]
      split <;> rfl
    case isFalse =>
      split
      case isTrue => exact rfl' s
      case isFalse => exact collect s h

theorem clearFault (s : State) (code inst : Nat) : Reports s (s.clearFault code inst) := by
  unfold State.clearFault
  split
  case isTrue => rfl
  case isFalse =>
    split
    case isTrue => exact (toFaults s _).trans (record _ code _ 1 inst 0 0 0)
    case isFalse => exact rfl' s

end Reports

end Sys2Proof.Proofs
end

section
/-!
PROOFS. Quads, ports and peer lanes (10_serdes_lanes.md, 12_yard_switch_core.md): R234, R242, R243, R245, R252, R283.
-/
namespace Sys2Proof.Proofs
open Sys2Proof Sys2Proof.Machine

/-! ## What a port's loss leaves of the quads (R234, R245, R283) -/

@[simp] theorem raise_linkDown_net (s : State) (inst detail : Nat) : (s.raise 0x0901 inst detail).net = s.net :=
  (Reports.raise s (cls := 1) rfl (by decide) inst detail).net

@[simp] theorem clearFault_net (s : State) (code inst : Nat) : (s.clearFault code inst).net = s.net := (Reports.clearFault s code inst).net

@[simp] theorem settle_net (s : State) : s.settle.net = s.net := by
  unfold State.settle
  split
  · rfl
  · split <;> rfl

@[simp] theorem moveRef_net (s : State) (n : Nat) (q : QState) : (s.moveRef n q).net = s.net := by
  unfold State.moveRef
  dsimp only
  split
  · rfl
  · rw [settle_net]
    have moved (t : State) : (t.raise 0x0201 n).net = t.net := (Reports.raise t (cls := 0) rfl (by decide) n 0).net
    have left (t : State) : (t.raise 0x0202 n).net = t.net := (Reports.raise t (cls := 1) rfl (by decide) n 0).net
    rw [apply_ite State.net, left, moved, ite_self]
    rfl

@[simp] theorem dropRef_net (s : State) (n : Nat) (q : QState) : (s.dropRef n q).net = s.net := by
  have lost : ((s.moveRef n q).onRef n Ref.lost).net = s.net := moveRef_net s n q
  unfold State.dropRef
  dsimp only
  split
  · exact lost
  · split <;> exact lost

@[simp] theorem loseRef_net (s : State) (n : Nat) : (s.loseRef n).net = s.net := by
  unfold State.loseRef
  split
  · rfl
  · exact dropRef_net s n .absent

@[simp] theorem opLossOfSignal_net (s : State) (n : Nat) : (opLossOfSignal n s).net = s.net := by
  unfold opLossOfSignal
  split
  · rfl
  · dsimp only
    split <;> simp only [loseRef_net]

@[simp] theorem seLost_net (s : State) (l : Nat) : (s.seLost l).net = s.net := by
  unfold State.seLost
  exact foldl_proj State.net (fun t n => opLossOfSignal_net t n) _ s

theorem downLanes_quads (s : State) (p st : Nat) : (s.downLanes p st).net.quads = s.net.quads := by
  unfold State.downLanes
  refine foldl_proj (fun t : State => t.net.quads) (fun t l => ?_) _ s
  dsimp only
  rw [seLost_net]
  generalize hd : (t.holdTaps l).onLane l _ = down
  have held : down.net.quads = t.net.quads := by rw [← hd]; rfl
  generalize hb : (if (decide (st = 1) && down.portEnabled p) = true then down.beginLane l else down) = begun
  have begins : begun.net.quads = t.net.quads := by
    rw [← hb]
    split <;> exact held
  split
  · rw [clearFault_net, clearFault_net, begins]
  · rw [apply_ite State.net, raise_linkDown_net, clearFault_net, ite_self, begins]

@[simp] theorem raiseRefused_net (s : State) (p : Nat) (timing : Bool) : (s.raiseRefused p timing).net = s.net := by
  unfold State.raiseRefused
  split
  · exact (Reports.raise _ (code := 0x0A01) (cls := 1) rfl (by decide) p 0).net
  · rfl

@[simp] theorem release_net (s : State) (i : Nat) (c : Copy) : (s.release i c).net = s.net := by
  unfold State.release
  dsimp only
  generalize hx : State.onQueue _ i _ = x
  have kept : x.net = s.net := by
    rw [← hx]
    rfl
  split
  · exact kept
  · split <;> exact kept

@[simp] theorem dropCopy_net (s : State) (i : Nat) (c : Copy) : (s.dropCopy i c).net = s.net := by
  have taken : (s.takeCopy i c).net = s.net := release_net _ i c
  unfold State.dropCopy
  dsimp only
  split <;> exact taken

@[simp] theorem partialDrop_net (s : State) (p : Nat) (multi : Bool) : (s.partialDrop p multi).net = s.net := by
  unfold State.partialDrop
  split <;> rfl

@[simp] theorem refuseSame_net (s : State) (p : Nat) : (s.refuseSame p).net = s.net := by
  unfold State.refuseSame
  refine foldl_proj State.net (fun t q => foldl_proj State.net (fun v c => ?_) _ t) _ s
  rw [partialDrop_net]
  exact (raiseRefused_net _ p c.timing).trans (dropCopy_net v _ c)

@[simp] theorem cutSending_net (s : State) (p : Nat) : (s.cutSending p).net = s.net := by
  unfold State.cutSending
  split
  · dsimp only
    split <;> rfl
  · rfl

@[simp] theorem ptpLink_net (s : State) (p : Nat) : (s.ptpLink p).net = s.net := by
  unfold State.ptpLink
  split
  · rfl
  · dsimp only
    split
    · split
      · rw [opLossOfSignal_net]
        split <;> rfl
      · split <;> rfl
    · split <;> rfl

@[simp] theorem holdPort_net (s : State) (p : Nat) : (s.holdPort p).net = s.net := by
  unfold State.holdPort
  dsimp only
  rw [ptpLink_net]
  generalize hy : (s.cutSending p).refuseSame p = y
  have refused : y.net = s.net := by
    rw [← hy, refuseSame_net, cutSending_net]
  generalize hx : State.onYPort _ p _ = x
  have kept : x.net = s.net := by
    rw [← hx]
    split <;> exact refused
  exact (foldl_proj State.net (fun t q => State.onQueue_net t (8 * p + q) _) _ x).trans kept

theorem downPort_quads (s : State) (k : Nat) : ((s.downLanes k 1).holdPort k).net.quads = s.net.quads :=
  (congrArg Lanes.quads (holdPort_net (s.downLanes k 1) k)).trans (downLanes_quads s k 1)

theorem quad_downPorts (s : State) (l : List Nat) (q : Nat) : (l.foldl (fun v k => (v.downLanes k 1).holdPort k) s).quad q = s.quad q := by
  have quads : (l.foldl (fun v k => (v.downLanes k 1).holdPort k) s).net.quads = s.net.quads :=
    foldl_proj (fun t : State => t.net.quads) downPort_quads l s
  unfold State.quad
  rw [quads]

/-! ## Reference clocks (R234) -/

section
variable {s : State} {p : Nat}

theorem opQrefLoss_foreign (h : 8 ≤ p) : opQrefLoss p s = (s.quadPorts p).foldl (fun v k => (v.downLanes k 1).holdPort k) s := by
  unfold opQrefLoss
  exact if_neg (Nat.not_lt.mpr h)

/-- A quad whose reference clock is lost (R234). -/
def lostClock (x : Quad) : Quad := { x with state := if x.mode = 0 then 0 else 3, refLost := true }

theorem opQrefLoss_own (h : p < 8) :
    let d := ((s.quadPorts p).foldl (fun v k => (v.downLanes k 1).holdPort k) s).onQuad p lostClock
    opQrefLoss p s = if (d.quad p).mode = 0 then d else d.raise 0x0009 p := by
  intro d
  unfold opQrefLoss
  exact if_pos h

/-- The quad of a change that keeps its mode has the mode that it had. -/
theorem mode_onQuad (v : State) {f : Quad → Quad} (hf : ∀ x, (f x).mode = x.mode) : ((v.onQuad p f).quad p).mode = (v.quad p).mode := by
  by_cases h : p < v.net.quads.length
  · exact (congrArg Quad.mode (getD_upd_eq f p v.net.quads Quad.init h)).trans (hf _)
  · have short : (v.onQuad p f).net.quads.length ≤ p := (upd_length f p v.net.quads).trans_le (Nat.not_lt.mp h)
    unfold State.quad
    rw [List.getD_eq_default _ _ short, List.getD_eq_default _ _ (Nat.not_lt.mp h)]

theorem onQuad_congr (v : State) {f g : Quad → Quad} (h : f (v.quad p) = g (v.quad p)) : v.onQuad p f = v.onQuad p g :=
  congrArg (fun l => { v with net := { v.net with quads := l } }) (upd_congr Quad.init h)

theorem opQrefLoss_lost (h : p < 8) (hm : (s.quad p).mode ≠ 0) :
    opQrefLoss p s = (((s.quadPorts p).foldl (fun v k => (v.downLanes k 1).holdPort k) s).onQuad p
      (fun x => { x with state := 3, refLost := true })).raise 0x0009 p := by
  have mode := congrArg Quad.mode (quad_downPorts s (s.quadPorts p) p)
  rw [opQrefLoss_own h, if_neg (by rw [mode_onQuad (f := lostClock) _ (fun _ => rfl), mode]; exact hm),
    onQuad_congr (f := lostClock) (g := fun x => { x with state := 3, refLost := true }) _ (by unfold lostClock; rw [if_neg (mode.trans_ne hm)])]

theorem opQrefLoss_off (h : p < 8) (hm : (s.quad p).mode = 0) : opQrefLoss p s = s.onQuad p (fun x => { x with state := 0, refLost := true }) := by
  have ports : s.quadPorts p = [] := if_pos hm
  rw [opQrefLoss_own h, ports, List.foldl_nil, if_pos (by rw [mode_onQuad (f := lostClock) _ (fun _ => rfl)]; exact hm),
    onQuad_congr (f := lostClock) (g := fun x => { x with state := 0, refLost := true }) _ (by unfold lostClock; rw [if_pos hm])]

theorem opQrefReturn_lost (h : (s.quad p).refLost = true) :
    opQrefReturn p s = (s.onQuad p (fun x => { x with refLost := false })).clearFault 0x0009 p := by
  unfold opQrefReturn
  exact if_pos h

theorem opQrefReturn_present (h : (s.quad p).refLost = false) : opQrefReturn p s = s := by
  unfold opQrefReturn
  exact if_neg (by rw [h]; decide)

end

/-! ## The sweep (R238) -/

theorem foldl_max_eq {l : List Nat} (h : l ≠ []) : ((l.foldl max 0 : Nat) : WithBot Nat) = l.maximum := by
  rw [List.foldl_eq_foldr]
  exact List.foldr_max_of_ne_nil h

/-- No scan scores more than that of the code that the sweep keeps. -/
theorem bestCode_best {scans : List (Nat × Nat)} {c : Nat × Nat} (h : c ∈ scans) :
    figureOfMerit c.1 c.2 ≤ figureOfMerit (scans.getD (bestCode scans) (0, 0)).1 (scans.getD (bestCode scans) (0, 0)).2 := by
  let score := fun x : Nat × Nat => figureOfMerit x.1 x.2
  have scored : score c ∈ scans.map score := List.mem_map_of_mem h
  have most := foldl_max_eq (List.ne_nil_of_mem scored)
  have found : (scans.map score).foldl max 0 ∈ scans.map score := List.maximum_mem most.symm
  have kept : score (scans.getD (bestCode scans) (0, 0)) = (scans.map score).foldl max 0 := by
    have here : bestCode scans < (scans.map score).length := List.idxOf_lt_length_iff.mpr found
    have here' : bestCode scans < scans.length := by simpa using here
    rw [List.getD_eq_getElem _ _ here', ← List.getElem_map score (h := here)]
    exact List.getElem_idxOf here
  show score c ≤ score _
  rw [kept]
  exact WithBot.coe_le_coe.mp ((List.le_maximum_of_mem' scored).trans_eq most.symm)

/-! ## Bring-up (R237–R243) -/

section
variable {s : State} {l stage : Nat} {scans : List (Nat × Nat)} {fir : Int × Int × Int}

/-- A lane may be brought up: its port is enabled, its quad locked, and the link down (R243). -/
def laneWaits (s : State) (l : Nat) : Prop :=
  s.portEnabled (s.portOf l) = true ∧ (s.quad (s.portOf l / 4)).state = 2 ∧ s.linkUp (s.portOf l) = false

theorem laneWaits_iff : laneWaits s l ↔
    ¬ (!s.portEnabled (s.portOf l) || (s.quad (s.portOf l / 4)).state != 2 || s.linkUp (s.portOf l)) = true := by
  unfold laneWaits
  simp only [Bool.or_eq_true, Bool.not_eq_true', bne_iff_ne, not_or, Bool.not_eq_false, ne_eq, not_not, Bool.not_eq_true, and_assoc]

theorem opBringUp_lane_not (hl : l < 32) (h : ¬ laneWaits s l) : opBringUp l stage scans fir s = s := by
  unfold opBringUp
  exact (if_neg (Nat.not_le.mpr hl)).trans (if_pos (not_not.mp (mt laneWaits_iff.mpr h)))

theorem opBringUp_lane_begins (hl : l < 32) (h : laneWaits s l) : opBringUp l 1 scans fir s = s.beginLane l := by
  unfold opBringUp
  exact (if_neg (Nat.not_le.mpr hl)).trans ((if_neg (laneWaits_iff.mp h)).trans (if_pos rfl))

theorem opBringUp_lane (hl : l < 32) (h : laneWaits s l) (hs : stage ≠ 1) {sweep : Bool} :
    let st := stageOf (s.lane l).state stage (s.trains l)
    (decide (2 ≤ st) && decide (scans.length = 32) && (s.lane l).ctleMode != 2) = sweep →
    opBringUp l stage scans fir s = s.onLane l (fun x =>
      { x with state := st, swept := x.swept || sweep, ctle := if sweep then bestCode scans else x.ctle, fir := if st = 3 && firIn fir then fir else x.fir }) := by
  intro st swept
  subst swept
  unfold opBringUp
  exact (if_neg (Nat.not_le.mpr hl)).trans ((if_neg (laneWaits_iff.mp h)).trans (if_neg hs))

/-- A peer lane may be brought up: it is enabled and down (R251). -/
def peerWaits (s : State) (l : Nat) : Prop := bit s.peerLaneEnable (l - 32) = true ∧ (s.peerLane (l - 32)).state ≠ 5

theorem peerWaits_iff : peerWaits s l ↔ ¬ (!bit s.peerLaneEnable (l - 32) || decide ((s.peerLane (l - 32)).state = 5)) = true := by
  unfold peerWaits
  simp

theorem opBringUp_peer_not (hl : 32 ≤ l) (h : ¬ peerWaits s l) : opBringUp l stage scans fir s = s := by
  unfold opBringUp
  exact (if_pos hl).trans (if_pos (not_not.mp (mt peerWaits_iff.mpr h)))

theorem opBringUp_peer_begins (hl : 32 ≤ l) (h : peerWaits s l) : opBringUp l 1 scans fir s = s.beginPeer (l - 32) := by
  unfold opBringUp
  exact (if_pos hl).trans ((if_neg (peerWaits_iff.mp h)).trans (if_pos rfl))

theorem opBringUp_peer (hl : 32 ≤ l) (h : peerWaits s l) (hs : stage ≠ 1) {sweep : Bool} :
    let st := stageOf (s.peerLane (l - 32)).state stage false
    (decide (2 ≤ st) && decide (scans.length = 32)) = sweep →
    opBringUp l stage scans fir s = s.onPeer (l - 32) (fun x =>
      { x with state := st, swept := x.swept || sweep, ctle := if sweep then bestCode scans else x.ctle }) := by
  intro st swept
  subst swept
  unfold opBringUp
  exact (if_pos hl).trans ((if_neg (peerWaits_iff.mp h)).trans (if_neg hs))

theorem stageOf_spec (old stage : Nat) (trains : Bool) : old ≤ stageOf old stage trains ∧
    (stageOf old stage trains = stage ∨ stageOf old stage trains = old) ∧ stageOf old 3 false = old ∧
    (1 ≤ old → old ≤ stage → stage < 5 → stage ≠ 3 ∨ trains = true → stageOf old stage trains = stage) := by
  refine ⟨?_, ?_, ?_, fun h1 h2 h3 h4 => ?_⟩
  · unfold stageOf
    split
    case isTrue => exact Nat.le_refl old
    case isFalse h =>
      simp only [Bool.or_eq_true, decide_eq_true_eq, not_or] at h
      omega
  · unfold stageOf
    split
    · exact Or.inr rfl
    · exact Or.inl rfl
  · exact if_pos (by simp)
  · refine if_neg ?_
    rcases h4 with h4 | h4
    · simp [h4]
      omega
    · simp [h4]
      omega

theorem opTrainTimeout_fails (h0 : (s.lane l).state ≠ 0) (h5 : (s.lane l).state ≠ 5) (ht : (s.lane l).train = 2 ∨ s.trains l = true) :
    opTrainTimeout l s = ((s.portLanes (s.portOf l)).foldl State.beginLane s).onLane l (fun z => { z with trainFails := bump z.trainFails }) := by
  unfold opTrainTimeout
  refine if_neg ?_
  rcases ht with ht | ht <;> simp [h0, h5, ht]

theorem opTrainTimeout_not (h : ¬ ((s.lane l).state ≠ 0 ∧ (s.lane l).state ≠ 5 ∧ ((s.lane l).train = 2 ∨ s.trains l = true))) :
    opTrainTimeout l s = s := by
  unfold opTrainTimeout
  refine if_pos ?_
  simp only [Bool.or_eq_true, beq_iff_eq, Bool.and_eq_true, bne_iff_ne, Bool.not_eq_true', ← Bool.not_eq_true]
  tauto

end

/-! ## Links (R243, R245, R283) -/

section
variable {s : State} {l p : Nat}

theorem opLinkUp_done (hl : l < 32) (hp : s.portEnabled (s.portOf l) = true) (hq : (s.quad (s.portOf l / 4)).state = 2) (hr : s.laneReady l = true) :
    let k := s.portOf l
    let v := s.onLane l (fun z => { z with done := true })
    opLinkUp l s = if (v.portLanes k).all (fun i => (v.lane i).done) then
      ((((v.portLanes k).foldl State.upLane v).onLane k (fun z => { z with stampState := 1 })).setFwd k 2).ptpLink k else v := by
  intro k v
  unfold opLinkUp
  exact if_pos (by rw [decide_eq_true hl, hp, beq_iff_eq.mpr hq, hr]; rfl)

theorem opLinkUp_not (h : 32 ≤ l ∨ s.portEnabled (s.portOf l) = false ∨ (s.quad (s.portOf l / 4)).state ≠ 2 ∨ s.laneReady l = false) :
    opLinkUp l s = s := by
  unfold opLinkUp
  refine if_neg ?_
  rcases h with h | h | h | h <;> simp [h]

theorem opRetrain_up (h : s.linkUp (s.portOf l) = true) :
    opRetrain l s = (((s.portLanes (s.portOf l)).foldl (fun v i => v.onLane i (fun x => { x with retrains := bump x.retrains })) s).downLanes
      (s.portOf l) 1).holdPort (s.portOf l) := by
  unfold opRetrain
  exact if_pos h

theorem opRetrain_down (h : s.linkUp (s.portOf l) = false) : opRetrain l s = s := by
  unfold opRetrain
  exact if_neg (by rw [h]; decide)

theorem opBlockTime_eq : opBlockTime p s =
    if (s.yport p).fwd = 2 ∧ s.linkUp p = true ∧ (s.yport p).since + millis (s.portBlockTime p) ≤ s.tb.lc then (s.setFwd p 3).ptpLink p else s := by
  unfold opBlockTime
  simp only [Bool.and_eq_true, decide_eq_true_eq, and_assoc]

theorem opDownHold_eq : opDownHold p s =
    if (s.yport p).fwd = 1 ∧ s.linkUp p = false ∧ (s.yport p).since + 1000 * nsUnits * s.portDownHold p < s.tb.lc
    then (s.setFwd p 0).flushPort p else s := by
  unfold opDownHold
  simp only [Bool.and_eq_true, decide_eq_true_eq, Bool.not_eq_true', and_assoc]

theorem opPeerSwitch_eq : opPeerSwitch s =
    if s.net.peerActive < 2 ∧ s.peerUp (1 - s.net.peerActive) = true then s.peerSwitch (1 - s.net.peerActive) else s := by
  unfold opPeerSwitch
  simp only [Bool.and_eq_true, decide_eq_true_eq]

theorem opPeerRevert_eq : opPeerRevert (secs 10) s =
    if s.net.peerActive < 2 ∧ s.net.peerActive ≠ s.peerPrefer ∧ s.peerUp s.peerPrefer = true ∧ (s.peerLane s.peerPrefer).upAt + secs 10 ≤ s.tb.lc
    then s.peerSwitch s.peerPrefer else s := by
  have waits : (secs 10 == 0) = false := by decide
  unfold opPeerRevert
  simp only [waits, Bool.false_or, Bool.and_eq_true, decide_eq_true_eq, bne_iff_ne, and_assoc]

end

/-- Settles O51, branch by branch of each operation; that a lost clock leaves the mode of its quad is `quad_downPorts`. -/
theorem linkEvents : Obligations.LinkEvents := by
  unfold Obligations.LinkEvents
  intro s now l stage p scans f g h u k x y ready score
  refine ⟨fun c hc => bestCode_best hc,
    fun hp hm => congrArg Host.Outcome.next (opQrefLoss_lost hp hm),
    fun hp hm => congrArg Host.Outcome.next (opQrefLoss_off hp hm),
    fun hp => congrArg Host.Outcome.next (opQrefLoss_foreign hp),
    fun hr => congrArg Host.Outcome.next (opQrefReturn_lost hr),
    fun hr => congrArg Host.Outcome.next (opQrefReturn_present hr),
    fun hl => ⟨fun hr => congrArg Host.Outcome.next (opBringUp_lane_not hl hr),
      fun hr => congrArg Host.Outcome.next (opBringUp_lane_begins hl hr), fun hr hs => ⟨fun hw => ?sweeps, fun hw => ?still⟩,
      fun hp hq hr => ⟨fun all => congrArg Host.Outcome.next ((opLinkUp_done hl hp hq hr).trans (if_pos all)),
        fun some => congrArg Host.Outcome.next ((opLinkUp_done hl hp hq hr).trans (if_neg (Bool.eq_false_iff.mp some)))⟩⟩,
    fun hn => congrArg Host.Outcome.next (opLinkUp_not hn),
    fun hl => ⟨fun hr => congrArg Host.Outcome.next (opBringUp_peer_not hl hr),
      fun hr => congrArg Host.Outcome.next (opBringUp_peer_begins hl hr), fun hr hs => ⟨fun h2 h32 => ?peerSweeps, fun hn => ?peerStill⟩⟩,
    fun old trains => stageOf_spec old stage trains,
    ⟨fun ⟨h0, h5, ht⟩ => congrArg Host.Outcome.next (opTrainTimeout_fails h0 h5 ht), fun hn => congrArg Host.Outcome.next (opTrainTimeout_not hn)⟩,
    fun hu => ⟨congrArg Host.Outcome.next (opRetrain_up hu), congrArg Host.Outcome.next (opRetrain_up hu)⟩,
    fun hd => ⟨congrArg Host.Outcome.next (opRetrain_down hd), congrArg Host.Outcome.next (opRetrain_down hd)⟩,
    ⟨fun ho => congrArg Host.Outcome.next (opBlockTime_eq.trans (if_pos ho)), fun ho => congrArg Host.Outcome.next (opBlockTime_eq.trans (if_neg ho))⟩,
    ⟨fun ho => congrArg Host.Outcome.next (opDownHold_eq.trans (if_pos ho)), fun ho => congrArg Host.Outcome.next (opDownHold_eq.trans (if_neg ho))⟩,
    ⟨fun ho => congrArg Host.Outcome.next (opPeerSwitch_eq.trans (if_pos ho)), fun ho => congrArg Host.Outcome.next (opPeerSwitch_eq.trans (if_neg ho))⟩,
    ⟨fun ho => congrArg Host.Outcome.next (opPeerRevert_eq.trans (if_pos ho)), fun ho => congrArg Host.Outcome.next (opPeerRevert_eq.trans (if_neg ho))⟩⟩
  case sweeps =>
    obtain ⟨h2, h32, hc⟩ := hw
    refine congrArg Host.Outcome.next ((opBringUp_lane hl hr hs (sweep := true) ?_).trans ?_)
    · rw [decide_eq_true h32, bne_iff_ne.mpr hc]
      simpa using h2
    · simp only [Bool.or_true, if_true, Bool.and_eq_true, decide_eq_true_eq]
      rfl
  case still =>
    refine congrArg Host.Outcome.next ((opBringUp_lane hl hr hs (sweep := false) ?_).trans ?_)
    · simp only [← Bool.not_eq_true, Bool.and_eq_true, decide_eq_true_eq, bne_iff_ne, and_assoc]
      exact hw
    · simp only [Bool.or_false, Bool.false_eq_true, if_false, Bool.and_eq_true, decide_eq_true_eq]
      rfl
  case peerSweeps =>
    refine congrArg Host.Outcome.next ((opBringUp_peer hl hr hs (sweep := true) ?_).trans ?_)
    · rw [decide_eq_true h32]
      simpa using h2
    · simp only [Bool.or_true, if_true]
      rfl
  case peerStill =>
    refine congrArg Host.Outcome.next ((opBringUp_peer hl hr hs (sweep := false) ?_).trans ?_)
    · rcases hn with hn | hn
      · rw [decide_eq_false (Nat.not_le.mpr hn)]
        rfl
      · rw [decide_eq_false hn, Bool.and_false]
    · simp only [Bool.or_false, Bool.false_eq_true, if_false]
      rfl

end Sys2Proof.Proofs
end

section
/-!
PROOFS. Figure of merit, equalisation, sleep and ESMC of a lane (10_serdes_lanes.md): R238–R242, R246–R250.
-/
namespace Sys2Proof.Proofs
open Sys2Proof Sys2Proof.Machine

/-! ## Lanes -/

section
variable {s : State} {l : Nat}

theorem lane_onLane (h : l < s.net.lanes.length) (f : Lane → Lane) : (s.onLane l f).lane l = f (s.lane l) := getD_upd_eq f l s.net.lanes Lane.init h

theorem lane_onLane_ne {k : Nat} (h : k ≠ l) (f : Lane → Lane) : (s.onLane l f).lane k = s.lane k := getD_upd_ne f l k s.net.lanes Lane.init h

theorem peerLane_onPeer (h : l < s.net.peers.length) (f : PeerLane → PeerLane) : (s.onPeer l f).peerLane l = f (s.peerLane l) :=
  getD_upd_eq f l s.net.peers PeerLane.init h

theorem onLane_onLane (f g : Lane → Lane) : (s.onLane l g).onLane l f = s.onLane l (fun x => f (g x)) :=
  congrArg (fun b => { s with net := { s.net with lanes := b } }) (upd_upd f g l s.net.lanes)

/-! ## The eye scan (R241, R242) -/

theorem figureOfMerit_le (v w : Nat) : figureOfMerit v w ≤ 1023 := Nat.min_le_left _ _

theorem figureOfMerit_open {v w : Nat} (hv : 200000 ≤ v) (hw : 1000000 ≤ w) : figureOfMerit v w = 1023 := by
  unfold figureOfMerit
  rw [Nat.min_eq_right hv, Nat.min_eq_right hw]
  decide

theorem rearm_armed (warn fom run : Nat) : (rearm warn fom true run).1 = true := by
  unfold rearm
  split <;> rfl

theorem tapsOf_length (v : Nat) : (tapsOf v).length = 12 := rfl

/-- An awake lane that is up shows the taps of its word (R239). -/
theorem laneDfe_length (h5 : (s.lane l).state = 5) (ha : (s.lane l).rxSleep = false) : (s.laneDfe l).length = 12 := by
  unfold State.laneDfe State.dfeNow
  rw [if_pos (by rw [h5, ha]; rfl)]
  exact tapsOf_length _

/-- A lane after a scan of figure `f` (R241, R242). -/
def scanned (s : State) (l f : Nat) (x : Lane) : Lane :=
  { x with fom := f, warnArmed := (rearm (s.laneFomWarn l) f x.warnArmed x.fomRun).1, fomRun := (rearm (s.laneFomWarn l) f x.warnArmed x.fomRun).2,
           lowRun := below (s.laneFomWarn l) f x.lowRun, minRun := below (s.laneFomMin l) f x.minRun }

theorem opEyeScan_lane {v w : Nat} (hl : l < 32) (h5 : (s.lane l).state = 5) (ha : (s.lane l).rxSleep = false) :
    opEyeScan l v w s = s.onLane l (scanned s l (figureOfMerit v w)) := by
  unfold opEyeScan
  exact (if_neg (Nat.not_le.mpr hl)).trans (if_neg (by rw [h5, ha]; decide))

theorem opEyeScan_still {v w : Nat} (hl : l < 32) (h : (s.lane l).state ≠ 5 ∨ (s.lane l).rxSleep = true) : opEyeScan l v w s = s := by
  unfold opEyeScan
  exact (if_neg (Nat.not_le.mpr hl)).trans (if_pos (by simpa [or_comm] using h))

theorem opEyeScan_peer {v w : Nat} (hl : 32 ≤ l) (hu : s.peerUp (l - 32) = true) :
    opEyeScan l v w s = s.onPeer (l - 32) (fun x =>
      { x with fom := figureOfMerit v w, warnArmed := (rearm 200 (figureOfMerit v w) x.warnArmed x.fomRun).1,
               fomRun := (rearm 200 (figureOfMerit v w) x.warnArmed x.fomRun).2,
               lowRun := below 200 (figureOfMerit v w) x.lowRun, minRun := below 32 (figureOfMerit v w) x.minRun }) := by
  unfold opEyeScan
  exact (if_pos hl).trans (if_pos hu)

theorem opEyeScan_peer_down {v w : Nat} (hl : 32 ≤ l) (hu : s.peerUp (l - 32) = false) : opEyeScan l v w s = s := by
  unfold opEyeScan
  exact (if_pos hl).trans (if_neg (by rw [hu]; decide))

end

/-! ## Figures below a threshold (R242) -/

section
variable {s : State} {l : Nat}

theorem missed_eq {n : Nat} (h : 100 ≤ n) : missed n = true := decide_eq_true h

theorem opFomWarn_lane (hl : l < 32) : opFomWarn l s =
    if 100 ≤ (s.lane l).lowRun ∧ (s.lane l).warnArmed = true then (s.onLane l (fun y => { y with warnArmed := false })).raise 0x0902 l else s := by
  unfold opFomWarn missed
  rw [if_neg (Nat.not_le.mpr hl)]
  simp only [Bool.and_eq_true, decide_eq_true_eq]

theorem opFomWarn_peer (hl : 32 ≤ l) : opFomWarn l s =
    if 100 ≤ (s.peerLane (l - 32)).lowRun ∧ (s.peerLane (l - 32)).warnArmed = true
    then (s.onPeer (l - 32) (fun y => { y with warnArmed := false })).raise 0x0902 l else s := by
  unfold opFomWarn missed
  rw [if_pos hl]
  simp only [Bool.and_eq_true, decide_eq_true_eq]

theorem opFomMin_lane (hl : l < 32) : opFomMin l s = if 100 ≤ (s.lane l).minRun then opRetrain l s else s := by
  unfold opFomMin missed
  rw [if_neg (Nat.not_le.mpr hl)]
  simp only [decide_eq_true_eq]

theorem opFomMin_peer (hl : 32 ≤ l) : opFomMin l s =
    if 100 ≤ (s.peerLane (l - 32)).minRun ∧ (s.peerLane (l - 32)).state = 5 then opPeerLaneDown (l - 32) s else s := by
  unfold opFomMin missed State.peerUp
  rw [if_pos hl]
  simp only [Bool.and_eq_true, decide_eq_true_eq, beq_iff_eq]

theorem not_both {p : Prop} {b : Bool} (h : ¬ p ∨ b = false) : ¬ (p ∧ b = true) := by
  rintro ⟨hp, hb⟩
  rcases h with h | h
  · exact h hp
  · exact absurd (h.symm.trans hb) nofun

end

/-! ## Equalisation (R238, R264) -/

section
variable {s : State} {l : Nat} {below above : Nat × Nat}

/-- A lane whose CTLE has moved to a code, with its uncertainty counted (R240, R264). -/
theorem moveCtle_eq (code : Nat) : s.moveCtle l code =
    (let t := s.onLane l (fun y => { y with ctle := code, ctleChanges := y.ctleChanges + 1, ctleAt := some s.tb.lc })
     if t.portCtleUncMax (t.portOf l) < 3 * (t.lane l).ctleChanges then t.onLane l (fun y => { y with ctleOver := true }) else t) := by
  unfold State.moveCtle State.markCtle State.ctleExceeds
  simp only [decide_eq_true_eq]

theorem opCtleAdapt_fixed (h : ¬ ((s.lane l).ctleMode = 1 ∧ (s.lane l).state = 5 ∧ (s.lane l).rxSleep = false)) : opCtleAdapt l below above s = s := by
  unfold opCtleAdapt
  refine if_pos ?_
  by_contra c
  simp only [Bool.not_eq_true, Bool.or_eq_false_iff, bne_eq_false_iff_eq] at c
  obtain ⟨⟨mode, state⟩, awake⟩ := c
  exact h ⟨mode, state, awake⟩

theorem opCtleAdapt_adapts (h : (s.lane l).ctleMode = 1 ∧ (s.lane l).state = 5 ∧ (s.lane l).rxSleep = false) :
    let lo := figureOfMerit below.1 below.2
    let hi := figureOfMerit above.1 above.2
    let up := (s.lane l).ctle < 31 ∧ (s.lane l).fom + 16 ≤ hi
    let down := 0 < (s.lane l).ctle ∧ (s.lane l).fom + 16 ≤ lo
    opCtleAdapt l below above s = if up ∧ (¬ down ∨ lo ≤ hi) then s.moveCtle l ((s.lane l).ctle + 1)
      else if down then s.moveCtle l ((s.lane l).ctle - 1) else s := by
  intro lo hi up down
  obtain ⟨mode, state, awake⟩ := h
  unfold opCtleAdapt
  refine (if_neg (by simp [mode, state, awake])).trans ?_
  simp only [Bool.and_eq_true, Bool.or_eq_true, Bool.not_eq_true', ← Bool.not_eq_true, decide_eq_true_eq]
  rfl

end

/-! ## Sleep (R246–R249) -/

section
variable {s : State} {l : Nat}

/-- The transmit direction of a lane may sleep now (R246, R249). -/
def laneRests (s : State) (l : Nat) : Prop :=
  s.sleepPermitted l = true ∧ (s.lane l).state = 5 ∧ (∀ q < 8, (s.queue (8 * s.portOf l + q)).copies = []) ∧
    max (s.yport (s.portOf l)).busyUntil ((s.yport (s.portOf l)).emptyAt + s.lpiIdle l) ≤ s.tb.lc

theorem laneRests_iff : laneRests s l ↔
    (s.sleepPermitted l && (s.lane l).state == 5 && (List.range 8).all (fun q => (s.queue (8 * s.portOf l + q)).copies.isEmpty) &&
      decide (max (s.yport (s.portOf l)).busyUntil ((s.yport (s.portOf l)).emptyAt + s.lpiIdle l) ≤ s.tb.lc)) = true := by
  unfold laneRests
  simp only [Bool.and_eq_true, decide_eq_true_eq, beq_iff_eq, List.all_eq_true, List.mem_range, List.isEmpty_iff, and_assoc]

theorem opLpiTx_sleeps (h : laneRests s l) : opLpiTx l s = s.onLane l (fun y => { y with txSleep := true }) := by
  unfold opLpiTx
  exact if_pos (laneRests_iff.mp h)

theorem opLpiTx_wakes (h : ¬ laneRests s l) : opLpiTx l s = s := by
  unfold opLpiTx
  exact if_neg (mt laneRests_iff.mpr h)

theorem opLpiRx_down (asleep : Bool) (h : (s.lane l).state ≠ 5) : opLpiRx l asleep s = s := by
  unfold opLpiRx
  exact if_pos (bne_iff_ne.mpr h)

theorem opLpiRx_wakes (h : (s.lane l).state = 5) : opLpiRx l false s = s.onLane l (fun y => { y with rxSleep := false }) := by
  unfold opLpiRx
  exact if_neg (not_bne h)

theorem opLpiRx_sleeps (h : (s.lane l).state = 5) (ht : s.timingPort l = false) :
    opLpiRx l true s = (s.holdTaps l).onLane l (fun y => { y with rxSleep := true }) := by
  unfold opLpiRx
  refine (if_neg (not_bne h)).trans (if_neg ?_)
  show ¬ (true && s.timingPort l) = true
  rw [ht]
  decide

theorem lane_holdTaps (h : l < s.net.lanes.length) : (s.holdTaps l).lane l = { s.lane l with dfe := s.laneDfe l } := lane_onLane h _

theorem opLpiRx_timing (hl : l < s.net.lanes.length) (h : (s.lane l).state = 5) (ht : s.timingPort l = true) :
    let w := (s.holdTaps l).onLane l (fun y => { y with rxSleep := true, lpiUnexpected := bump y.lpiUnexpected, lpiRaised := true })
    opLpiRx l true s = (if (s.lane l).lpiRaised then w else w.raise 0x0903 l).seLost l := by
  intro w
  let v := (s.holdTaps l).onLane l (fun y => { y with rxSleep := true })
  have length : l < (s.holdTaps l).net.lanes.length := (upd_length _ l s.net.lanes).symm ▸ hl
  have asleep : v.lane l = { (s.holdTaps l).lane l with rxSleep := true } := lane_onLane length _
  have raised : (v.lane l).lpiRaised = (s.lane l).lpiRaised := by
    rw [asleep, lane_holdTaps hl]
  have counted : v.onLane l (fun y => { y with lpiUnexpected := bump y.lpiUnexpected, lpiRaised := true }) = w := onLane_onLane _ _
  have step : opLpiRx l true s = (if (v.lane l).lpiRaised then v.onLane l (fun y => { y with lpiUnexpected := bump y.lpiUnexpected, lpiRaised := true })
      else (v.onLane l (fun y => { y with lpiUnexpected := bump y.lpiUnexpected, lpiRaised := true })).raise 0x0903 l).seLost l := by
    unfold opLpiRx
    exact (if_neg (not_bne h)).trans (if_pos (by rw [Bool.true_and]; exact ht))
  rw [step, raised, counted]

end

/-! ## ESMC (R250) -/

section
variable {s : State} {l : Nat} {event : Bool}

theorem opEsmcTx_sends (he : s.engsRun = true) (ht : s.esmcTxEnable l = true) (hp : s.isPort l = true)
    (h : event = false ∨ s.esmcQl l ≠ (s.lane l).esmcQl) :
    opEsmcTx l event s = (s.sendOwnFrom 2 l (.esmc (s.esmcQl l) event) { blankFrame l 64 with etherType := 0x8809, esmc := true } 0 0).1 := by
  unfold opEsmcTx
  refine if_pos ?_
  rcases h with h | h <;> simp [he, ht, hp, h]

theorem opEsmcTx_same (hq : s.esmcQl l = (s.lane l).esmcQl) : opEsmcTx l true s = s := by
  unfold opEsmcTx
  exact if_neg (by simp [hq])

theorem opEsmcTx_not (h : s.engsRun = false ∨ s.esmcTxEnable l = false ∨ s.isPort l = false) : opEsmcTx l event s = s := by
  unfold opEsmcTx
  refine if_neg ?_
  rcases h with h | h | h <;> simp [h]

end

/-- Settles O52, branch by branch of each operation of a lane's signals. -/
theorem laneSignals : Obligations.LaneSignals := by
  unfold Obligations.LaneSignals
  intro s now l v w vlo wlo vhi whi tx st ins q e asleep u lo hi x pl fom
  refine ⟨⟨figureOfMerit_le v w, figureOfMerit_open⟩,
    fun hl hn h5 ha => ?scan,
    fun hl h => congrArg Host.Outcome.next (opEyeScan_still hl h),
    fun hl h => congrArg Host.Outcome.next (opEyeScan_peer_down hl h),
    fun hl hn h => ?peerScan,
    fun hl => ⟨fun low armed => congrArg Host.Outcome.next ((opFomWarn_lane hl).trans (if_pos ⟨low, armed⟩)),
      fun h => congrArg Host.Outcome.next ((opFomWarn_lane hl).trans (if_neg (not_both (h.imp_left Nat.not_le.mpr)))),
      fun h => congrArg Host.Outcome.next ((opFomMin_lane hl).trans (if_pos h)),
      fun h => congrArg Host.Outcome.next ((opFomMin_lane hl).trans (if_neg (Nat.not_le.mpr h)))⟩,
    fun hl => ⟨fun low armed => congrArg Host.Outcome.next ((opFomWarn_peer hl).trans (if_pos ⟨low, armed⟩)),
      fun h => congrArg Host.Outcome.next ((opFomWarn_peer hl).trans (if_neg (not_both (h.imp_left Nat.not_le.mpr)))),
      fun low up => congrArg Host.Outcome.next ((opFomMin_peer hl).trans (if_pos ⟨low, up⟩)),
      fun h => congrArg Host.Outcome.next ((opFomMin_peer hl).trans (if_neg (not_and_or.mpr (h.imp_left Nat.not_le.mpr))))⟩,
    ?adapt,
    ⟨fun h => congrArg Host.Outcome.next (opLpiTx_sleeps h), fun h => congrArg Host.Outcome.next (opLpiTx_wakes h)⟩,
    fun h => congrArg Host.Outcome.next (opLpiRx_down asleep h),
    fun h => congrArg Host.Outcome.next (opLpiRx_wakes h),
    fun h ht => congrArg Host.Outcome.next (opLpiRx_sleeps h ht),
    fun hl h ht => congrArg Host.Outcome.next (opLpiRx_timing hl h ht),
    fun he ht hp => ?esmc,
    rfl,
    fun h => ⟨congrArg Host.Outcome.next (opEsmcTx_not h), congrArg Host.Outcome.next (opEsmcTx_not h)⟩⟩
  case scan =>
    let t := s.onLane l (scanned s l fom)
    have here : t.lane l = scanned s l fom (s.lane l) := lane_onLane (hn ▸ hl) _
    refine ⟨t, congrArg Host.Outcome.next (opEyeScan_lane hl h5 ha), congrArg Lane.fom here,
      laneDfe_length ((congrArg Lane.state here).trans h5) ((congrArg Lane.rxSleep here).trans ha), congrArg Lane.lowRun here,
      congrArg Lane.minRun here, fun armed => (congrArg Lane.warnArmed here).trans ?_, fun k hk => lane_onLane_ne hk _, rfl⟩
    show (rearm _ fom (s.lane l).warnArmed _).1 = true
    rw [armed]
    exact rearm_armed _ fom _
  case peerScan =>
    exact ⟨_, congrArg Host.Outcome.next (opEyeScan_peer hl h), congrArg PeerLane.fom (peerLane_onPeer hn _),
      congrArg PeerLane.lowRun (peerLane_onPeer hn _), congrArg PeerLane.minRun (peerLane_onPeer hn _), rfl⟩
  case adapt =>
    refine ⟨fun ha hu hd => ?_, fun ha hd hu => ?_, fun h => ?_⟩
    · exact congrArg Host.Outcome.next ((opCtleAdapt_adapts ha).trans ((if_pos ⟨hu, hd⟩).trans (moveCtle_eq _)))
    · refine congrArg Host.Outcome.next ((opCtleAdapt_adapts ha).trans ((if_neg ?_).trans ((if_pos hd).trans (moveCtle_eq _))))
      rintro ⟨up, notDown | le⟩
      · exact notDown hd
      · exact hu.elim (fun notUp => notUp up) (fun lt => Nat.not_le.mpr lt le)
    · by_cases ha : x.ctleMode = 1 ∧ x.state = 5 ∧ x.rxSleep = false
      · obtain ⟨notUp, notDown⟩ := h.resolve_left (not_not_intro ha)
        exact congrArg Host.Outcome.next ((opCtleAdapt_adapts ha).trans ((if_neg (fun c => notUp c.1)).trans (if_neg notDown)))
      · exact congrArg Host.Outcome.next (opCtleAdapt_fixed ha)
  case esmc =>
    intro c hc
    rcases List.mem_pair.mp hc with rfl | rfl
    · exact ⟨fun never => absurd never Bool.false_ne_true, fun h => congrArg Host.Outcome.next (opEsmcTx_sends he ht hp h)⟩
    · exact ⟨fun _ hq => congrArg Host.Outcome.next (opEsmcTx_same hq), fun h => congrArg Host.Outcome.next (opEsmcTx_sends he ht hp h)⟩

end Sys2Proof.Proofs
end

section
/-!
PROOFS. Ports and yard (11_port_timestamping.md, 12_yard_switch_core.md): R279.
-/
namespace Sys2Proof.Proofs
open Sys2Proof Sys2Proof.Machine

/-! ## Egress (R279) -/

/-- The round robin of port 30 stands at place 15, which is queue 7 of port 31; a copy waits there, and that queue may send it. -/
def strayTurn : State :=
  (((Tests.port31 2 0 [] [Tests.copy]).onQueue 255 (fun q => { q with deficit := 64 })).onYPort 30 (fun y => { y with rr := 15 }))

/-- Port 30 is up and idle, no calibration frame is due on it, and nothing waits in its queues. -/
theorem strayTurn_idle :
    let u := strayTurn.ptpTime 0
    (u.coreRuns = true ∧ u.isPort 30 = true ∧ u.linkUp 30 = true ∧ 2 ≤ (u.yport 30).fwd ∧ (u.yport 30).busyUntil ≤ u.tb.lc ∧ u.calDue 30 = false) ∧
    (∀ q < 8, (u.settleTails.queue (8 * 30 + q)).copies = []) := by decide +kernel

/-- The port with nothing to send takes the copy of the other port out of its queue. -/
theorem strayTurn_sends :
    ((opEgress 30 0 0 0 false (strayTurn.ptpTime 0)).queue 255).copies ≠ ((strayTurn.ptpTime 0).settleTails.queue 255).copies := by decide +kernel

/-- Refutes O53: a port with nothing to send need not stay as it is. Its round robin goes on from a place that the statement leaves free: place
15 of port 30 is a queue of port 31, whose copy port 30 then sends. -/
theorem not_portsAndYard : ¬ Obligations.PortsAndYard := by
  unfold Obligations.PortsAndYard
  intro h
  obtain ⟨⟨core, port, link, forwards, free, noCal⟩, empty⟩ := strayTurn_idle
  obtain ⟨-, -, -, -, -, -, -, -, -, egress, -⟩ := h strayTurn strayTurn 0 30 0 0 0 0 0 0 0 0 0 0 Tests.frame Tests.copy Tests.greeting false false false
  obtain ⟨open', -⟩ := egress
  obtain ⟨-, idle⟩ := open' core port link forwards free
  obtain ⟨-, silent⟩ := idle noCal (fun q hq x hx => absurd (empty q hq ▸ hx) List.not_mem_nil)
  have none (q : Nat) (hq : q < 8) : (strayTurn.ptpTime 0).settleTails.joined (8 * 30 + q) = [] := by
    unfold State.joined
    rw [empty q hq]
    rfl
  have same := Host.Outcome.next.inj (silent none)
  exact strayTurn_sends (congrArg (fun z : State => (z.queue 255).copies) same)

end Sys2Proof.Proofs
end

section
/-!
PROOFS. PTP messages (13_ptp_service.md): R257, R289, R292–R301, R304, R306, R307.
-/
namespace Sys2Proof.Proofs
open Sys2Proof Sys2Proof.Machine

/-! ## Taking a message (R257, R292, R307) -/

section
variable {s : State}

theorem takeTerm_found {hit : Term → Bool} {f : Term} (h : s.yard.terminated.find? hit = some f) :
    s.takeTerm hit = ({ s with yard := { s.yard with hostUsed := s.yard.hostUsed - f.cells, terminated := s.yard.terminated.erase f } }, some f) := by
  unfold State.takeTerm
  rw [h]

theorem takeTerm_none {hit : Term → Bool} (h : ∀ f ∈ s.yard.terminated, hit f = false) : s.takeTerm hit = (s, none) := by
  unfold State.takeTerm
  rw [List.find?_eq_none.mpr (fun f hf => Bool.eq_false_iff.mp (h f hf))]

variable {k p mtype : Nat} {m : PtpMsg}

theorem ptpIn_none (h : s.engsRun = false ∨ ∀ f ∈ s.yard.terminated, (ptpTerm p mtype f && s.instTerm k f) = false) :
    s.ptpIn k p mtype m = (s, none) := by
  have nothing : s.takeTerm (fun t => s.engsRun && ptpTerm p mtype t && s.instTerm k t) = (s, none) := by
    refine takeTerm_none (fun f hf => ?_)
    rcases h with h | h
    · rw [h, Bool.false_and, Bool.false_and]
    · rw [Bool.and_assoc, h f hf, Bool.and_false]
  unfold State.ptpIn
  rw [nothing]

theorem ptpIn_open (hr : s.engsRun = true) (he : s.ptpEnable k = true) (ha : s.ptpActive p = true) (hp : s.ptpAuthPolicy k = 0) (hg : m.girth = none)
    {f : Term} (hf : s.yard.terminated.find? (fun f => ptpTerm p mtype f && s.instTerm k f) = some f) :
    s.ptpIn k p mtype m = ({ s with yard := { s.yard with hostUsed := s.yard.hostUsed - f.cells, terminated := s.yard.terminated.erase f } },
      some ⟨false, f.rx, s.atDelivery f.rx f.status⟩) := by
  let v : State := { s with yard := { s.yard with hostUsed := s.yard.hostUsed - f.cells, terminated := s.yard.terminated.erase f } }
  have taken : s.takeTerm (fun t => s.engsRun && ptpTerm p mtype t && s.instTerm k t) = (v, some f) := by
    simp only [hr, Bool.true_and]
    exact takeTerm_found hf
  have judged : v.ptpAuth k p mtype m = (v, some false) := if_pos hp
  have claim : v.ptpClaim k m false = v := by
    unfold State.ptpClaim
    rw [hg]
  unfold State.ptpIn
  rw [taken]
  refine (if_pos (show (v.ptpEnable k && v.ptpActive p) = true from Bool.and_eq_true_iff.mpr ⟨he, ha⟩)).trans ?_
  rw [judged]
  show (if mtype = 0xB then v else v.ptpClaim k m false, _) = _
  rw [claim, ite_self]
  rfl

end

/-- What is taken may be a message that goes no further: what each command does with it then. -/
theorem messages_dropped {s t : State} {k p : Nat} {m : PtpMsg} {mtype : Nat} (h : s.ptpIn k p mtype m = (t, none)) :
    (mtype = 0xB → ∀ ds, opAnnounceRx k p m ds s = t) ∧ (mtype = 0 → opSyncRx k p m s = t) ∧ (mtype = 8 → opFollowUpRx k p m s = t) ∧
    (mtype = 1 → opDelayReqRx k p m s = t) ∧ (mtype = 9 → opDelayRespRx k p m s = t) ∧
    (mtype = 0xC → (∀ a portId mt lg dur, opRequestUnicast k p a portId mt lg dur m s = t) ∧
      (∀ a portId mt, opCancelUnicast k p a portId mt m s = t) ∧ (∀ a mt dur, opGrantRx k p a mt dur m s = t)) := by
  refine ⟨?_, ?_, ?_, ?_, ?_, ?_⟩ <;> rintro rfl
  · intro ds
    unfold opAnnounceRx
    rw [h]
  · unfold opSyncRx
    rw [h]
  · unfold opFollowUpRx
    rw [h]
  · unfold opDelayReqRx
    rw [h]
  · unfold opDelayRespRx
    rw [h]
  · refine ⟨fun a portId mt lg dur => ?_, fun a portId mt => ?_, fun a mt dur => ?_⟩
    · unfold opRequestUnicast
      rw [h]
    · unfold opCancelUnicast
      rw [h]
    · unfold opGrantRx
      rw [h]

/-! ## Announce (R294, R296) -/

section
variable {s t : State} {k p : Nat} {m : PtpMsg} {ds : PtpDs} {c : Taken}

theorem onPPort_congr (s : State) {p : Nat} {f g : PtpPort → PtpPort} (h : f (s.pport p) = g (s.pport p)) : s.onPPort p f = s.onPPort p g := by
  unfold State.onPPort
  rw [upd_congr PtpPort.init h]

theorem foreign_onPPort (s : State) {p : Nat} {f : PtpPort → PtpPort} (hf : ∀ x, (f x).foreign = x.foreign) (q : Nat) :
    ((s.onPPort p f).pport q).foreign = (s.pport q).foreign := by
  by_cases h : q = p
  · subst h
    by_cases hl : q < s.ptp.ports.length
    · exact (congrArg PtpPort.foreign (getD_upd_eq f q s.ptp.ports _ hl)).trans (hf _)
    · have short : (s.onPPort q f).ptp.ports.length ≤ q := (upd_length f q s.ptp.ports).trans_le (Nat.not_lt.mp hl)
      unfold State.pport
      rw [List.getD_eq_default _ _ short, List.getD_eq_default _ _ (Nat.not_lt.mp hl)]
  · exact congrArg PtpPort.foreign (getD_upd_ne f p q s.ptp.ports _ h)

/-- What a port knows of its foreign clocks decides its best one. -/
theorem portBest_onPPort (s : State) (k : Nat) {p : Nat} {f : PtpPort → PtpPort} (hf : ∀ x, (f x).foreign = x.foreign) (q : Nat) :
    (s.onPPort p f).portBest k q = s.portBest k q := by
  unfold State.portBest
  rw [foreign_onPPort s hf q]
  rfl

theorem opAnnounceRx_own (h : s.ptpIn k p 0xB m = (t, some c)) (hd : ds.gm = t.clockId) : opAnnounceRx k p m ds s = t := by
  unfold opAnnounceRx
  rw [h]
  exact if_pos (beq_iff_eq.mpr hd)

/-- A foreign clock as its Announce enters the list of a port (R296). -/
def announced (t : State) (k p : Nat) (m : PtpMsg) (ds : PtpDs) : Foreign :=
  ⟨m.sender, m.addr, ds, match (t.pport p).foreign.find? (·.sender == m.sender) with
    | some f => t.tb.lc :: (f.heard.filter (fun i => t.tb.lc ≤ i + 4 * logTime (t.ptpLogAnnounce k))).take 3
    | none => [t.tb.lc]⟩

theorem announced_heard (t : State) (k p : Nat) (m : PtpMsg) (ds : PtpDs) : (announced t k p m ds).heard.head? = some t.tb.lc := by
  unfold announced
  dsimp only
  split <;> rfl

/-- The part after it has entered a foreign clock (R294, R296). -/
def entered (t : State) (k p : Nat) (m : PtpMsg) (ds : PtpDs) : State :=
  let g := t.onPPort p (fun g => { g with foreign := announced t k p m ds :: (g.foreign.filter (fun g => g.sender != m.sender)).take 31 })
  let g := g.onPPort p (fun h => { h with timedOut := h.timedOut && (g.portBest k p).isNone })
  if g.portBest k p != t.portBest k p then g.onInst k (fun g => { g with due := true }) else g

theorem opAnnounceRx_foreign (h : s.ptpIn k p 0xB m = (t, some c)) (hd : ds.gm ≠ t.clockId) :
    let g := entered t k p m ds
    opAnnounceRx k p m ds s = if ((g.inst k).parent == m.sender) = true then
      let h := (((g.onInst k (fun x => { x with parentDs := ds })).onRef (12 + k) (fun r => { r with qlRx := qlOfClass ds.cls ds.acc })).ptpClaim k m c.auth)
      if (h.sel.current == 12 + k) = true then h.learnAnnounced m.utcOffset m.leap m.utcValid else h
    else g := by
  intro g
  have shown : entered t k p m ds = g := rfl
  unfold entered at shown
  dsimp only at shown
  have same (b : Bool) (v : State) : (v.onPPort p (fun h => { h with timedOut := h.timedOut && b })).portBest k p = v.portBest k p :=
    portBest_onPPort v k (f := fun h => { h with timedOut := h.timedOut && b }) (fun _ => rfl) p
  rw [same] at shown
  unfold opAnnounceRx
  rw [h]
  refine (if_neg (fun same => hd (eq_of_beq same))).trans ?_
  rw [← shown]
  rfl

theorem opAnnounceTimeout_alone (h : s.instOfPort p = none) : opAnnounceTimeout p s = s := by
  unfold opAnnounceTimeout
  rw [h]

theorem opAnnounceTimeout_member (h : s.instOfPort p = some k) :
    let limit := s.ptpAnnounceTimeout k * logTime (s.ptpLogAnnounce k)
    let g := s.onPPort p (fun g => { g with foreign := g.foreign.filter (fun f => decide (s.tb.lc < f.heard.headD 0 + limit)) })
    opAnnounceTimeout p s = (g.onPPort p (fun h =>
      { h with timedOut := (g.portBest k p).isNone && (h.state != 4 || decide (h.listenAt + limit ≤ s.tb.lc)) })).onInst k (fun g => { g with due := true }) := by
  intro limit g
  have forgets : s.onPPort p (fun x => { x with foreign := (s.pport p).foreign.filter (fun f => decide (s.tb.lc < f.heard.headD 0 + limit)) }) = g :=
    onPPort_congr s rfl
  rw [← forgets]
  unfold opAnnounceTimeout
  rw [h]
  rfl

end

/-! ## Measurements (R295, R299) -/

/-- A port receives time or calibrates itself to (R293). -/
def ptpClient (t : State) (p : Nat) : Prop := (t.pport p).state = 8 ∨ (t.pport p).state = 9

theorem ptpClient_iff {t : State} {p : Nat} : ptpClient t p ↔ ¬ ((t.pport p).state != 8 && (t.pport p).state != 9) = true := by
  unfold ptpClient
  simp only [Bool.and_eq_true, bne_iff_ne, not_and_or, ne_eq, not_not]

/-- The extended receive stamp of a message. -/
def rxTime (t : State) (c : Taken) : Option Int := t.extend (c.rx % 2 ^ 48) c.status

section
variable {s t : State} {k p : Nat} {m : PtpMsg} {c : Taken} {x y : Int}

theorem heeds_iff : ¬ ((((t.pport p).state != 8 && (t.pport p).state != 9) || (t.inst k).parent != m.sender) = true) ↔
    ptpClient t p ∧ (t.inst k).parent = m.sender := by
  rw [Bool.or_eq_true, not_or, ← ptpClient_iff, bne_iff_ne, not_not]

theorem heedsNot (h : ¬ ptpClient t p ∨ (t.inst k).parent ≠ m.sender) :
    (((t.pport p).state != 8 && (t.pport p).state != 9) || (t.inst k).parent != m.sender) = true :=
  not_not.mp (fun c => (not_and_or.mpr h) (heeds_iff.mp c))

theorem opSyncRx_ignored (h : s.ptpIn k p 0 m = (t, some c)) (hn : ¬ ptpClient t p ∨ (t.inst k).parent ≠ m.sender) : opSyncRx k p m s = t := by
  unfold opSyncRx
  rw [h]
  exact if_pos (heedsNot hn)

theorem opSyncRx_unstamped (h : s.ptpIn k p 0 m = (t, some c)) (hc : ptpClient t p) (hp : (t.inst k).parent = m.sender)
    (hs : stampGood c.status = false ∨ rxTime t c = none) : opSyncRx k p m s = t.onPPort p (fun g => { g with validRun := 0 }) := by
  have unstamped : (if stampGood c.status then rxTime t c else none) = none := by
    rcases hs with hs | hs
    · exact if_neg (Bool.eq_false_iff.mp hs)
    · rw [hs, ite_self]
  unfold opSyncRx
  rw [h]
  refine (if_neg (heeds_iff.mpr ⟨hc, hp⟩)).trans ?_
  change (match (if stampGood c.status then rxTime t c else none) with
    | none => t.badOffset p
    | some t2 => _) = _
  rw [unstamped]
  rfl

theorem opSyncRx_stamped (h : s.ptpIn k p 0 m = (t, some c)) (hc : ptpClient t p) (hp : (t.inst k).parent = m.sender)
    (hs : stampGood c.status = true) (hx : rxTime t c = some x) :
    opSyncRx k p m s = if m.twoStep then t.onPPort p (fun g => { g with sync := some (m.seq, x, m.correction, c.rx, c.status) })
      else t.takeM k p (x - m.origin - m.correction) x c.rx c.status := by
  have stamped : (if stampGood c.status then rxTime t c else none) = some x := (if_pos hs).trans hx
  unfold opSyncRx
  rw [h]
  refine (if_neg (heeds_iff.mpr ⟨hc, hp⟩)).trans ?_
  change (match (if stampGood c.status then rxTime t c else none) with
    | none => t.badOffset p
    | some t2 => _) = _
  rw [stamped]

theorem opFollowUpRx_ignored (h : s.ptpIn k p 8 m = (t, some c)) (hn : ¬ ptpClient t p ∨ (t.inst k).parent ≠ m.sender) : opFollowUpRx k p m s = t := by
  unfold opFollowUpRx
  rw [h]
  exact if_pos (heedsNot hn)

theorem opFollowUpRx_stray (h : s.ptpIn k p 8 m = (t, some c)) (hc : ptpClient t p) (hp : (t.inst k).parent = m.sender)
    (hs : ∀ g, (t.pport p).sync = some g → g.1 ≠ m.seq) : opFollowUpRx k p m s = t := by
  unfold opFollowUpRx
  rw [h]
  refine (if_neg (heeds_iff.mpr ⟨hc, hp⟩)).trans ?_
  cases hg : (t.pport p).sync with
  | none => rfl
  | some g => exact if_pos (bne_iff_ne.mpr (hs g hg))

theorem opFollowUpRx_completes (h : s.ptpIn k p 8 m = (t, some c)) (hc : ptpClient t p) (hp : (t.inst k).parent = m.sender) {rx r : Nat}
    (hs : (t.pport p).sync = some (m.seq, x, y, rx, r)) :
    opFollowUpRx k p m s = (t.onPPort p (fun g => { g with sync := none })).takeM k p (x - m.origin - (y + m.correction)) x rx r := by
  unfold opFollowUpRx
  rw [h]
  refine (if_neg (heeds_iff.mpr ⟨hc, hp⟩)).trans ?_
  rw [hs]
  exact if_neg (not_bne rfl)

theorem opDelayRespRx_ignored (h : s.ptpIn k p 9 m = (t, some c))
    (hn : ¬ ptpClient t p ∨ (t.inst k).parent ≠ m.sender ∨ m.target ≠ t.portIdentity p) : opDelayRespRx k p m s = t := by
  unfold opDelayRespRx
  rw [h]
  refine if_pos ?_
  rw [Bool.or_eq_true]
  rcases or_assoc.mpr hn with hn | hn
  · exact Or.inl (heedsNot hn)
  · exact Or.inr (bne_iff_ne.mpr hn)

section
variable (h : s.ptpIn k p 9 m = (t, some c)) (hc : ptpClient t p) (hp : (t.inst k).parent = m.sender) (ht : m.target = t.portIdentity p)
include h hc hp ht

theorem opDelayRespRx_heeds : opDelayRespRx k p m s = match (t.pport p).dreq, (t.inst k).lastM with
    | some (seq, t3), some mm =>
      if seq != m.seq then t
      else
        let w := t.onPPort p (fun x => { x with dreq := none })
        let l := newest 16 (rdiv (mm + (m.origin - t3 - m.correction)) 2 :: (w.inst k).delays)
        w.onInst k (fun x => { x with delays := l, meanDelay := rdiv l.sum l.length })
    | _, _ => t := by
  have heeds : ¬ ((((t.pport p).state != 8 && (t.pport p).state != 9) || (t.inst k).parent != m.sender || m.target != t.portIdentity p) = true) := by
    rw [Bool.or_eq_true, not_or]
    exact ⟨heeds_iff.mpr ⟨hc, hp⟩, not_bne ht⟩
  unfold opDelayRespRx
  rw [h]
  exact if_neg heeds

theorem opDelayRespRx_stray (hs : (∀ g, (t.pport p).dreq = some g → g.1 ≠ m.seq) ∨ (t.inst k).lastM = none) : opDelayRespRx k p m s = t := by
  rw [opDelayRespRx_heeds h hc hp ht]
  split
  case h_1 seq t3 mm hd hl =>
    rcases hs with hs | hs
    · exact if_pos (bne_iff_ne.mpr (hs _ hd))
    · exact absurd (hs.symm.trans hl) nofun
  case h_2 => rfl

theorem opDelayRespRx_samples (hd : (t.pport p).dreq = some (m.seq, x)) (hl : (t.inst k).lastM = some y) :
    let w := t.onPPort p (fun g => { g with dreq := none })
    let l := newest 16 (rdiv (y + (m.origin - x - m.correction)) 2 :: (w.inst k).delays)
    opDelayRespRx k p m s = w.onInst k (fun g => { g with delays := l, meanDelay := rdiv l.sum l.length }) := by
  intro w l
  rw [opDelayRespRx_heeds h hc hp ht, hd, hl]
  exact if_neg (not_bne rfl)

end
end

end Sys2Proof.Proofs
end

section
/-!
PROOFS. PTP messages served and sent (13_ptp_service.md): R289, R297, R300, R301, R304, R306.
-/
namespace Sys2Proof.Proofs
open Sys2Proof Sys2Proof.Machine

/-! ## Serving (R304, R306) -/

section
variable {s t : State} {k p : Nat} {m : PtpMsg} {c : Taken} {x y w : Int}

/-- Messages that the millisecond has spent on requests without a grant (R306). -/
def spentMs (t : State) : Nat := if t.ptp.mcastMs.1 = t.ms then t.ptp.mcastMs.2 else 0

/-- A grant covers a Delay_Req, or the millisecond has room for it (R304, R306). -/
def dreqRoom (t : State) (k : Nat) (m : PtpMsg) : Prop :=
  (t.negotiates k = true ∧ t.ptp.grants.any (fun g => g.inst == k && g.addr == m.addr && g.portId == m.sender && g.mtype == 9 && decide (t.tb.lc < g.expiry)) = true) ∨
    (t.negotiates k = false ∧ spentMs t + 2 ≤ t.freePerMs k)

/-- A Delay_Req that a port answers (R304, R306). -/
def dreqTaken (t : State) (k p : Nat) (m : PtpMsg) : Prop := dreqRoom t k m ∧ (t.pport p).state = 6 ∧ t.peerDelay k = false

theorem dreqTaken_iff : dreqTaken t k p m ↔ ((if t.negotiates k then
      t.ptp.grants.any (fun g => g.inst == k && g.addr == m.addr && g.portId == m.sender && g.mtype == 9 && decide (t.tb.lc < g.expiry))
    else decide (spentMs t + 2 ≤ t.freePerMs k)) && (t.pport p).state == 6 && !t.peerDelay k) = true := by
  unfold dreqTaken dreqRoom
  cases t.negotiates k <;> simp [and_assoc]

section
variable (h : s.ptpIn k p 1 m = (t, some c))
include h

theorem opDelayReqRx_eq {b : Bool} (hb : ((if t.negotiates k then
      t.ptp.grants.any (fun g => g.inst == k && g.addr == m.addr && g.portId == m.sender && g.mtype == 9 && decide (t.tb.lc < g.expiry))
    else decide (spentMs t + 2 ≤ t.freePerMs k)) && (t.pport p).state == 6 && !t.peerDelay k) = b) :
    opDelayReqRx k p m s = match (if b then rxTime t c else none) with
      | none => t.dropDreq p
      | some t4 => (if t.negotiates k then t else { t with ptp := { t.ptp with mcastMs := (t.ms, spentMs t + 2) } }).queueGeneral p
        ⟨9, m.seq, t4 / 65536, m.correction - t4 % 65536, m.sender, none⟩ := by
  subst hb
  unfold opDelayReqRx
  rw [h]
  rfl

theorem opDelayReqRx_drops (hn : ¬ dreqTaken t k p m ∨ rxTime t c = none) :
    opDelayReqRx k p m s = t.onPPort p (fun g => { g with dreqDrops := bump g.dreqDrops }) := by
  rcases hn with hn | hn
  · rw [opDelayReqRx_eq h (Bool.eq_false_iff.mpr (mt dreqTaken_iff.mpr hn)), if_neg Bool.false_ne_true]
    rfl
  · rw [opDelayReqRx_eq h rfl, hn, ite_self]
    rfl

theorem opDelayReqRx_answers (ht : dreqTaken t k p m) (hx : rxTime t c = some x) :
    opDelayReqRx k p m s = (if t.negotiates k then t else { t with ptp := { t.ptp with mcastMs := (t.ms, spentMs t + 2) } }).queueGeneral p
      ⟨9, m.seq, x / 65536, m.correction - x % 65536, m.sender, none⟩ := by
  rw [opDelayReqRx_eq h (dreqTaken_iff.mp ht), if_pos rfl, hx]

end

/-! ## Peer delay (R300, R301) -/

theorem opPdelayReqRx_dropped (h : s.pdelayIn p 2 m = (t, none)) : opPdelayReqRx p m s = t := by
  unfold opPdelayReqRx
  rw [h]

theorem opPdelayReqRx_unstamped (h : s.pdelayIn p 2 m = (t, some c)) (hx : rxTime t c = none) : opPdelayReqRx p m s = t := by
  unfold opPdelayReqRx
  rw [h]
  change (match rxTime t c with
    | none => t
    | some t2 => _) = t
  rw [hx]

/-- The responder answers in two steps where its clock does (R300). -/
def pdelayTwoStep (t : State) (p : Nat) : Bool := (t.instOfPort p).any t.ptpTwoStep

theorem pdelayTwoStep_iff : pdelayTwoStep t p = true ↔ ∃ j, t.instOfPort p = some j ∧ t.ptpTwoStep j = true := Option.any_eq_true _ _

theorem opPdelayReqRx_answers (h : s.pdelayIn p 2 m = (t, some c)) (hx : rxTime t c = some x) :
    opPdelayReqRx p m s =
      (t.sendOwn p (.pdelayResp m.seq x m.correction m.sender (pdelayTwoStep t p)) (t.ptpFrame p 3 (ptpBody 3) none)).1 := by
  have two : (match t.instOfPort p with | some k => t.ptpTwoStep k | none => false) = pdelayTwoStep t p := by
    unfold pdelayTwoStep
    cases t.instOfPort p <;> rfl
  unfold opPdelayReqRx
  rw [h]
  change (match rxTime t c with
    | none => t
    | some t2 => (t.sendOwn p (.pdelayResp m.seq t2 m.correction m.sender (match t.instOfPort p with | some k => t.ptpTwoStep k | none => false))
        (t.ptpFrame p 3 (ptpBody 3) none)).1) = _
  rw [hx, two]

theorem opPdelayRespRx_dropped {f : Bool} (h : s.pdelayIn p (if f then 0xA else 3) m = (t, none)) : opPdelayRespRx p m f s = t := by
  unfold opPdelayRespRx
  rw [h]

section
variable {f : Bool} (h : s.pdelayIn p (if f then 0xA else 3) m = (t, some c))
include h

theorem opPdelayRespRx_stray (hn : t.pdelayPort p = false ∨ m.target ≠ t.portIdentity p ∨ ∀ g, (t.pport p).pdreq = some g → g.1 ≠ m.seq) :
    opPdelayRespRx p m f s = t := by
  unfold opPdelayRespRx
  rw [h]
  rcases hn with hn | hn | hn
  · exact if_pos (by rw [hn]; rfl)
  · exact if_pos (by rw [bne_iff_ne.mpr hn, Bool.or_true])
  · refine (apply_ite (· = t) _ _ _).mpr ?_
    split
    · rfl
    · cases hg : (t.pport p).pdreq with
      | none => rfl
      | some g => exact if_pos (bne_iff_ne.mpr (hn g hg))

variable (hp : t.pdelayPort p = true) (ht : m.target = t.portIdentity p) (hq : (t.pport p).pdreq = some (m.seq, x))
include hp ht hq

theorem opPdelayRespRx_waits : opPdelayRespRx p m f s = if f then
      match (t.pport p).pdresp with
      | some (q, t4, t2) => if q != m.seq then t else t.onPPort p (fun g =>
          { g with peerDelay := rdiv (t4 - x - (m.origin + m.correction - t2)) 2, pdreq := none, pdresp := none })
      | none => t
    else match (if stampGood c.status then rxTime t c else none) with
      | none => t.onPPort p (fun g => { g with pdreq := none, pdresp := none })
      | some t4 => if m.twoStep then t.onPPort p (fun g => { g with pdresp := some (m.seq, t4, m.origin - m.correction) })
          else t.onPPort p (fun g => { g with peerDelay := rdiv (t4 - x - m.correction) 2, pdreq := none }) := by
  unfold opPdelayRespRx
  rw [h]
  refine (if_neg (by rw [hp, bne_eq_false_iff_eq.mpr ht]; decide)).trans ?_
  rw [hq]
  exact if_neg (not_bne rfl)

theorem opPdelayRespRx_completes (hf : f = true) (hr : (t.pport p).pdresp = some (m.seq, y, w)) :
    opPdelayRespRx p m f s = t.onPPort p (fun g =>
      { g with peerDelay := rdiv (y - x - (m.origin + m.correction - w)) 2, pdreq := none, pdresp := none }) := by
  rw [opPdelayRespRx_waits h hp ht hq, if_pos hf, hr]
  exact if_neg (not_bne rfl)

theorem opPdelayRespRx_strayFollowUp (hf : f = true) (hr : ∀ g, (t.pport p).pdresp = some g → g.1 ≠ m.seq) : opPdelayRespRx p m f s = t := by
  rw [opPdelayRespRx_waits h hp ht hq, if_pos hf]
  cases hg : (t.pport p).pdresp with
  | none => rfl
  | some g => exact if_pos (bne_iff_ne.mpr (hr g hg))

theorem opPdelayRespRx_unstamped (hf : f = false) (hs : stampGood c.status = false ∨ rxTime t c = none) :
    opPdelayRespRx p m f s = t.onPPort p (fun g => { g with pdreq := none, pdresp := none }) := by
  have unstamped : (if stampGood c.status then rxTime t c else none) = none := by
    rcases hs with hs | hs
    · exact if_neg (Bool.eq_false_iff.mp hs)
    · rw [hs, ite_self]
  rw [opPdelayRespRx_waits h hp ht hq, if_neg (Bool.eq_false_iff.mp hf), unstamped]

theorem opPdelayRespRx_stamped (hf : f = false) (hs : stampGood c.status = true) (hx : rxTime t c = some y) :
    opPdelayRespRx p m f s = if m.twoStep then t.onPPort p (fun g => { g with pdresp := some (m.seq, y, m.origin - m.correction) })
      else t.onPPort p (fun g => { g with peerDelay := rdiv (y - x - m.correction) 2, pdreq := none }) := by
  rw [opPdelayRespRx_waits h hp ht hq, if_neg (Bool.eq_false_iff.mp hf), if_pos hs, hx]

end
end

/-! ## Other versions and management (R289) -/

section
variable {s t : State} {a : Nat}

theorem opMgmtRx_none (h : ∀ f ∈ s.yard.terminated, (s.engsRun && f.service == 1 && (a != 2 || f.frame.mtype == 0xD)) = false) : opMgmtRx a s = s := by
  unfold opMgmtRx
  rw [takeTerm_none h]

theorem opMgmtRx_drops {f : Term} (h : s.takeTerm (fun f => s.engsRun && f.service == 1 && (a != 2 || f.frame.mtype == 0xD)) = (t, some f)) :
    opMgmtRx a s = if a != 2 then { t with ptp := { t.ptp with v1Drops := bump t.ptp.v1Drops } }
      else { t with ptp := { t.ptp with mgmtDrops := bump t.ptp.mgmtDrops } } := by
  unfold opMgmtRx
  rw [h]

end

/-! ## Sending (R297, R299–R301) -/

section
variable {s v : State} {k p a q : Nat}

theorem opSyncTx_idle (h : ¬ (s.ptpEnable k = true ∧ (s.pport p).state = 6) ∨ s.sendsTo k a 0 = false) : opSyncTx k p a s = s := by
  unfold opSyncTx
  refine if_pos ?_
  by_contra c
  simp only [Bool.not_eq_true, Bool.or_eq_false_iff, Bool.not_eq_false', bne_eq_false_iff_eq] at c
  obtain ⟨sends, grant⟩ := c
  exact h.elim (fun n => n sends) (fun n => absurd (n.symm.trans grant) nofun)

theorem opSyncTx_sends (he : s.ptpEnable k = true ∧ (s.pport p).state = 6) (hs : s.sendsTo k a 0 = true) (hq : s.nextSeq k p a 0 = (v, q)) :
    opSyncTx k p a s =
      (v.sendOwn p (.sync k q (v.ptpTwoStep k)) (v.ptpFrame p 0 (ptpBody 0) (if v.ptpTwoStep k then none else v.tlvGirth p 1))).1 := by
  obtain ⟨enabled, sending⟩ := he
  unfold opSyncTx
  rw [if_neg (by rw [enabled, sending, hs]; decide), hq]

theorem opAnnounceTx_idle (h : ¬ (s.ptpEnable k = true ∧ (s.pport p).state = 6) ∨ s.ptpRole k = 2 ∨ s.sendsTo k a 0xB = false) :
    opAnnounceTx k p a s = s := by
  unfold opAnnounceTx
  refine if_pos ?_
  by_contra c
  simp only [Bool.not_eq_true, Bool.or_eq_false_iff, Bool.not_eq_false', bne_eq_false_iff_eq, beq_eq_false_iff_ne] at c
  obtain ⟨⟨sends, role⟩, grant⟩ := c
  exact h.elim (fun n => n sends) (fun n => n.elim role (fun n => absurd (n.symm.trans grant) nofun))

theorem opAnnounceTx_sends (he : s.ptpEnable k = true ∧ (s.pport p).state = 6) (hr : s.ptpRole k ≠ 2) (hs : s.sendsTo k a 0xB = true)
    (hq : s.nextSeq k p a 0xB = (v, q)) :
    let d := v.servedDs k
    let body := lePack [(8, d.gm), (1, d.cls), (1, accuracyOf (v.served [v.txGirth p]) (v.todQl v.girth.ql)), (2, d.var), (1, d.prio1), (1, d.prio2),
      (2, d.steps), (1, timeSource v.hopSrc), (1, v.announceFlags), (2, (v.utcOffset % 65536).toNat)]
    opAnnounceTx k p a s = v.queueGeneral p ⟨0xB, q, body, 0, 0, v.tlvGirth p 0⟩ := by
  obtain ⟨enabled, sending⟩ := he
  intro d body
  unfold opAnnounceTx
  rw [if_neg (by rw [enabled, sending, hs, beq_false_of_ne hr]; decide), hq]

theorem opDelayReqTx_idle (h : s.ptpEnable k = false ∨ s.peerDelay k = true ∨ ¬ ptpClient s p) : opDelayReqTx k p s = s := by
  unfold opDelayReqTx
  refine if_pos ?_
  rcases h with h | h | h
  · rw [h]
    rfl
  · rw [h, Bool.or_true, Bool.true_or]
  · rw [not_not.mp (mt ptpClient_iff.mpr h), Bool.or_true]

theorem opDelayReqTx_sends (he : s.ptpEnable k = true) (hp : s.peerDelay k = false) (hc : ptpClient s p) :
    let q := (s.pport p).dreqSeq
    let v := s.onPPort p (fun g => { g with dreqSeq := (q + 1) % 65536, dreq := none })
    opDelayReqTx k p s = (v.sendOwn p (.delayReq k q) (v.ptpFrame p 1 (ptpBody 1) none)).1 := by
  intro q v
  unfold opDelayReqTx
  refine if_neg ?_
  rw [he, hp, Bool.not_true, Bool.false_or, Bool.false_or]
  exact ptpClient_iff.mp hc

theorem opPdelayReqTx_idle (h : s.pdelayPort p = false) : opPdelayReqTx p s = s := by
  unfold opPdelayReqTx
  exact if_pos (by rw [h]; rfl)

theorem opPdelayReqTx_sends (h : s.pdelayPort p = true) :
    let q := (s.pport p).pdSeq
    let v := s.onPPort p (fun g => { g with pdSeq := (q + 1) % 65536, pdreq := none, pdresp := none })
    opPdelayReqTx p s = (v.sendOwn p (.pdelayReq q) (v.ptpFrame p 2 (ptpBody 2) none)).1 := by
  intro q v
  unfold opPdelayReqTx
  exact if_neg (by rw [h]; decide)

end

/-! ## The moment of transmission (R299–R301) -/

section
variable {s z : State} {p tx st ins k q r : Nat} {ns frac x y : Int}

theorem ownSent_twoStep (h : s.splitTime (s.extend (tx % 2 ^ 48) st) = (z, ns, frac)) :
    s.ownSent p tx st ins (.sync k q true) = (z.ptpSent p ⟨0, q, 0, 0, 0, none⟩).queueGeneral p ⟨8, q, ns, frac, 0, z.tlvGirth p 1⟩ ∧
    s.ownSent p tx st ins (.pdelayResp q x y r true) =
      (z.ptpSent p ⟨3, q, x / 65536, -(x % 65536), r, none⟩).queueGeneral p ⟨0xA, q, ns, frac + y, r, none⟩ := by
  have split : s.splitTime (s.extend (tx % 281474976710656) (if true then st else ins)) = (z, ns, frac) := h
  unfold State.ownSent
  dsimp only
  rw [split]
  exact ⟨rfl, rfl⟩

theorem ownSent_oneStep (h : s.splitTime (s.extend (tx % 2 ^ 48) ins) = (z, ns, frac)) :
    s.ownSent p tx st ins (.sync k q false) = z.ptpSent p ⟨0, q, ns, frac, 0, z.tlvGirth p 1⟩ ∧
    s.ownSent p tx st ins (.pdelayResp q x y r false) = z.ptpSent p ⟨3, q, 0, ns * 65536 + frac - x + y, r, none⟩ := by
  have split : s.splitTime (s.extend (tx % 281474976710656) (if false then st else ins)) = (z, ns, frac) := h
  unfold State.ownSent
  dsimp only
  rw [split]
  exact ⟨rfl, rfl⟩

end

/-- Settles O54, message by message: what is taken, then what each branch of its command leaves. -/
theorem ptpMessages : Obligations.PtpMessages := by
  unfold Obligations.PtpMessages
  intro s t v z now k p a mt dur portId tx st ins lg x y w ns frac m ds c q rx r u client t2
  refine ⟨fun e he => ⟨fun dropped => ?dropped, fun h => ptpIn_none h, fun hr hk ha hp hg f hf => ptpIn_open hr hk ha hp hg hf⟩,
    fun f => ⟨fun h => congrArg Host.Outcome.next (opPdelayReqRx_dropped h), fun h => congrArg Host.Outcome.next (opPdelayRespRx_dropped h)⟩,
    fun h hd => congrArg Host.Outcome.next (opAnnounceRx_own h hd),
    fun h hd => ⟨announced t k p m ds, rfl, rfl, rfl, announced_heard t k p m ds, fun hp => ?stranger, fun hp => ?parent⟩,
    fun h => congrArg Host.Outcome.next (opAnnounceTimeout_alone h),
    fun h => congrArg Host.Outcome.next (opAnnounceTimeout_member h),
    fun h hn => congrArg Host.Outcome.next (opSyncRx_ignored h hn),
    fun h hc hp => ⟨fun hs => congrArg Host.Outcome.next (opSyncRx_unstamped h hc hp hs),
      fun hs hx => congrArg Host.Outcome.next (opSyncRx_stamped h hc hp hs hx)⟩,
    fun h hn => congrArg Host.Outcome.next (opFollowUpRx_ignored h hn),
    fun h hc hp => ⟨fun hs => congrArg Host.Outcome.next (opFollowUpRx_stray h hc hp hs),
      fun hs => congrArg Host.Outcome.next (opFollowUpRx_completes h hc hp hs)⟩,
    fun h hn => congrArg Host.Outcome.next (opDelayRespRx_ignored h hn),
    fun h hc hp ht => ⟨fun hs => congrArg Host.Outcome.next (opDelayRespRx_stray h hc hp ht hs),
      fun hd hl => congrArg Host.Outcome.next (opDelayRespRx_samples h hc hp ht hd hl)⟩,
    fun h => ⟨fun hn => congrArg Host.Outcome.next (opDelayReqRx_drops h hn), fun ht hx => congrArg Host.Outcome.next (opDelayReqRx_answers h ht hx)⟩,
    fun h => ⟨fun hx => congrArg Host.Outcome.next (opPdelayReqRx_unstamped h hx),
      fun hx => ⟨pdelayTwoStep t p, pdelayTwoStep_iff, congrArg Host.Outcome.next (opPdelayReqRx_answers h hx)⟩⟩,
    fun f h => ⟨fun hn => congrArg Host.Outcome.next (opPdelayRespRx_stray h hn), fun hp ht hq =>
      ⟨fun hf hr => congrArg Host.Outcome.next (opPdelayRespRx_completes h hp ht hq hf hr),
        fun hf hr => congrArg Host.Outcome.next (opPdelayRespRx_strayFollowUp h hp ht hq hf hr),
        fun hf hs => congrArg Host.Outcome.next (opPdelayRespRx_unstamped h hp ht hq hf hs),
        fun hf hs hx => congrArg Host.Outcome.next (opPdelayRespRx_stamped h hp ht hq hf hs hx)⟩⟩,
    ⟨fun h => congrArg Host.Outcome.next (opMgmtRx_none h), fun f h =>
      ⟨fun ha => congrArg Host.Outcome.next ((opMgmtRx_drops h).trans (if_neg (not_bne ha))),
        fun ha => congrArg Host.Outcome.next ((opMgmtRx_drops h).trans (if_pos (bne_iff_ne.mpr ha)))⟩⟩,
    ⟨fun h => congrArg Host.Outcome.next (opSyncTx_idle h), fun he hs hq => congrArg Host.Outcome.next (opSyncTx_sends he hs hq),
      fun h => congrArg Host.Outcome.next (opAnnounceTx_idle h), fun he hr hs hq => congrArg Host.Outcome.next (opAnnounceTx_sends he hr hs hq)⟩,
    fun h => congrArg Host.Outcome.next (opDelayReqTx_idle h),
    fun he hp hc => congrArg Host.Outcome.next (opDelayReqTx_sends he hp hc),
    fun h => congrArg Host.Outcome.next (opPdelayReqTx_idle h),
    fun h => congrArg Host.Outcome.next (opPdelayReqTx_sends h),
    rfl, rfl, fun h => ownSent_twoStep h, fun h => ownSent_oneStep h⟩
  case stranger =>
    exact congrArg Host.Outcome.next ((opAnnounceRx_foreign h hd).trans (if_neg (fun same => hp (eq_of_beq same))))
  case parent =>
    refine congrArg Host.Outcome.next ((opAnnounceRx_foreign h hd).trans ((if_pos (beq_iff_eq.mpr hp)).trans ?_))
    simp only [beq_iff_eq]
    rfl
  case dropped =>
    have none : u.ptpIn k p e.2 m = ((u.ptpIn k p e.2 m).1, none) := Prod.ext rfl dropped
    obtain ⟨announce, sync, followUp, delayReq, delayResp, signal⟩ := messages_dropped none
    simp only [List.mem_cons, List.not_mem_nil, or_false] at he
    rcases he with rfl | rfl | rfl | rfl | rfl | rfl | rfl | rfl
    · exact congrArg Host.Outcome.next (announce rfl ds)
    · exact congrArg Host.Outcome.next (sync rfl)
    · exact congrArg Host.Outcome.next (followUp rfl)
    · exact congrArg Host.Outcome.next (delayReq rfl)
    · exact congrArg Host.Outcome.next (delayResp rfl)
    · obtain ⟨request, -, -⟩ := signal rfl
      exact congrArg Host.Outcome.next (request a portId mt lg dur)
    · obtain ⟨-, cancel, -⟩ := signal rfl
      exact congrArg Host.Outcome.next (cancel a portId mt)
    · obtain ⟨-, -, grant⟩ := signal rfl
      exact congrArg Host.Outcome.next (grant a mt dur)

end Sys2Proof.Proofs
end

section
/-!
PROOFS. Unicast negotiation and the state decision (13_ptp_service.md): R293, R296, R304, R305, R309, R311.
-/
namespace Sys2Proof.Proofs
open Sys2Proof Sys2Proof.Machine

/-! ## Requests that are due (R305) -/

theorem decideDue_waits {s : State} (h : ∀ x ∈ s.ptp.batch, s.ms ≤ x.ms) : s.decideDue = s := by
  have due : s.ptp.batch.filter (fun r => decide (r.ms < s.ms)) = [] :=
    List.filter_eq_nil_iff.mpr (fun x hx => by simpa using h x hx)
  have rest : s.ptp.batch.filter (fun r => !decide (r.ms < s.ms)) = s.ptp.batch :=
    List.filter_eq_self.mpr (fun x hx => by simpa using h x hx)
  unfold State.decideDue
  dsimp only
  rw [due, rest]
  rfl

theorem decideDue_one {s : State} {r : GrantReq} (h : s.ptp.batch = [r]) (hr : r.ms < s.ms) :
    s.decideDue = ({ s with ptp := { s.ptp with batch := [] } } : State).decideGrant (millis (r.ms + 1)) r := by
  have due : s.ptp.batch.filter (fun r => decide (r.ms < s.ms)) = [r] := by
    rw [h]
    exact List.filter_cons_of_pos (decide_eq_true hr)
  have rest : s.ptp.batch.filter (fun r => !decide (r.ms < s.ms)) = [] := by
    rw [h]
    exact List.filter_cons_of_neg (by simpa using hr)
  unfold State.decideDue
  dsimp only
  rw [due, rest]
  rfl

/-! ## Requests, cancels and grants (R304, R305) -/

section
variable {s t : State} {k p a portId mt dur : Nat} {lg : Int} {m : PtpMsg} {c : Taken}

section
variable (h : s.ptpIn k p 0xC m = (t, some c))
include h

theorem opRequestUnicast_foreign (hn : t.negotiates k = false) : opRequestUnicast k p a portId mt lg dur m s = t := by
  unfold opRequestUnicast
  rw [h]
  exact if_pos (by rw [hn]; rfl)

theorem opCancelUnicast_foreign (hn : t.negotiates k = false) : opCancelUnicast k p a portId mt m s = t := by
  unfold opCancelUnicast
  rw [h]
  exact if_pos (by rw [hn]; rfl)

theorem opRequestUnicast_renews (hn : t.negotiates k = true) (hg : t.grantOf k a portId mt ≠ none) :
    opRequestUnicast k p a portId mt lg dur m s = t.decideGrant t.tb.lc ⟨t.ms, k, p, a, portId, mt, lg, dur⟩ := by
  unfold opRequestUnicast
  rw [h]
  exact (if_neg (by rw [hn]; decide)).trans (if_pos (Option.isSome_iff_ne_none.mpr hg))

theorem opRequestUnicast_waits (hn : t.negotiates k = true) (hg : t.grantOf k a portId mt = none) :
    opRequestUnicast k p a portId mt lg dur m s = { t with ptp := { t.ptp with batch := t.ptp.batch ++ [⟨t.ms, k, p, a, portId, mt, lg, dur⟩] } } := by
  unfold opRequestUnicast
  rw [h]
  exact (if_neg (by rw [hn]; decide)).trans (if_neg (by rw [hg]; decide))

theorem opCancelUnicast_ends (hn : t.negotiates k = true) :
    opCancelUnicast k p a portId mt m s = ((t.dropGrant k a portId mt).negotiate k p a 7 mt 0 0).ptpOver := by
  unfold opCancelUnicast
  rw [h]
  exact if_neg (by rw [hn]; decide)

theorem opGrantRx_takes : opGrantRx k p a mt dur m s = { t with ptp := { t.ptp with upstream := t.ptp.upstream.map (fun x =>
    if x.inst == k && x.addr == a && x.mtype == mt then { x with duration := dur, since := t.tb.lc } else x) } } := by
  unfold opGrantRx
  rw [h]

end

theorem decideGrant_foreign {now : Nat} {r : GrantReq} (h : t.ptpEnable r.inst = false ∨ t.negotiates r.inst = false) : t.decideGrant now r = t := by
  unfold State.decideGrant
  refine if_pos ?_
  rcases h with h | h
  · rw [h]
    rfl
  · rw [h, Bool.not_false, Bool.or_true]

section
variable {now : Nat} {r : GrantReq} (he : t.ptpEnable r.inst = true) (hn : t.negotiates r.inst = true)
include he hn

theorem grant_judged : ¬ (!t.ptpEnable r.inst || !t.negotiates r.inst) = true := by
  rw [he, hn]
  decide

theorem decideGrant_refuses (h : ¬ (periodOk r.mtype r.log = true ∧ 10 ≤ r.duration ∧ t.grantOk r = true)) :
    t.decideGrant now r = ({ t with ptp := { t.ptp with refused := bump t.ptp.refused } } : State).negotiate r.inst r.port r.addr 5 r.mtype r.log 0 := by
  unfold State.decideGrant
  refine (if_neg (grant_judged he hn)).trans (if_neg ?_)
  simpa only [Bool.and_eq_true, decide_eq_true_eq, and_assoc] using h

theorem decideGrant_grants (h : periodOk r.mtype r.log = true ∧ 10 ≤ r.duration ∧ t.grantOk r = true) {v : State}
    (hv : v = if r.mtype = 9 then (t.dropGrant r.inst r.addr r.portId r.mtype).dropReservation r.inst r.addr r.portId
      else t.dropGrant r.inst r.addr r.portId r.mtype) :
    t.decideGrant now r = (({ v with ptp := { v.ptp with
      grants := v.ptp.grants ++ [(⟨r.inst, r.addr, r.portId, r.mtype, r.log, now + secs (min r.duration t.ptpGrantMaxDuration),
        ((t.grantOf r.inst r.addr r.portId r.mtype).map (·.seq)).getD 0⟩ : Grant)],
      reservations := if r.mtype = 0 && !v.peerDelay r.inst && (v.grantOf r.inst r.addr r.portId 9).isNone then
        v.ptp.reservations ++ [(⟨r.inst, r.addr, r.portId, 2 * logRate r.log, now + secs 10⟩ : Reservation)] else v.ptp.reservations } } : State).negotiate
      r.inst r.port r.addr 5 r.mtype r.log (min r.duration t.ptpGrantMaxDuration)).ptpOver := by
  subst hv
  unfold State.decideGrant
  refine (if_neg (grant_judged he hn)).trans (if_pos ?_)
  simpa only [Bool.and_eq_true, decide_eq_true_eq, and_assoc] using h

end

theorem grantOk_standby {r : GrantReq} (h : t.standby = true) : t.grantOk r = false := by
  unfold State.grantOk
  exact if_pos h

theorem opGrantExpire_none (h : s.grantOf k a portId mt = none) : opGrantExpire k a portId mt s = s := by
  unfold opGrantExpire
  rw [h]

theorem opGrantExpire_some {g : Grant} (h : s.grantOf k a portId mt = some g) :
    opGrantExpire k a portId mt s = if g.expiry ≤ s.tb.lc then (s.dropGrant k a portId mt).ptpOver else s := by
  unfold opGrantExpire
  rw [h]

theorem opGrantRenew_none (h : s.ptp.upstream.find? (fun x => x.inst == k && x.addr == a && x.mtype == mt) = none) : opGrantRenew k a mt s = s := by
  unfold opGrantRenew
  rw [h]

section
variable {f : ClientGrant} (h : s.ptp.upstream.find? (fun x => x.inst == k && x.addr == a && x.mtype == mt) = some f)
include h

theorem opGrantRenew_early (hf : f.duration = 0 ∨ s.tb.lc < f.since + secs f.duration / 2) : opGrantRenew k a mt s = s := by
  unfold opGrantRenew
  rw [h]
  refine if_neg ?_
  rw [Bool.and_eq_true, bne_iff_ne, decide_eq_true_eq]
  rintro ⟨duration, half⟩
  exact hf.elim duration (fun early => Nat.not_le.mpr early half)

theorem opGrantRenew_half (hd : f.duration ≠ 0) (hf : f.since + secs f.duration / 2 ≤ s.tb.lc) :
    opGrantRenew k a mt s = match s.upstreamPort k a with
      | some p => s.negotiate k p a 4 mt (s.askLog k mt) s.ptpGrantMaxDuration
      | none => s := by
  unfold opGrantRenew
  rw [h]
  exact if_pos (Bool.and_eq_true_iff.mpr ⟨bne_iff_ne.mpr hd, decide_eq_true hf⟩)

theorem opGrantRenew_nowhere (hd : f.duration ≠ 0) (hf : f.since + secs f.duration / 2 ≤ s.tb.lc) (hp : s.upstreamPort k a = none) :
    opGrantRenew k a mt s = s := by
  rw [opGrantRenew_half h hd hf, hp]

theorem opGrantRenew_asks (hd : f.duration ≠ 0) (hf : f.since + secs f.duration / 2 ≤ s.tb.lc) (hp : s.upstreamPort k a = some p) :
    opGrantRenew k a mt s = s.negotiate k p a 4 mt (s.askLog k mt) s.ptpGrantMaxDuration := by
  rw [opGrantRenew_half h hd hf, hp]

end
end

/-! ## Keys, reconfiguration and qualification (R293, R309, R311) -/

section
variable {s : State} {i k p : Nat}

theorem opSaSwitch_switches (hi : i < 16) (h0 : s.saSwitchTai i ≠ 0) (ht : (s.saSwitchTai i : Int) ≤ s.tai) {v : State}
    (hv : v = s.takeLate (fun key => key / 256 == 0x7300 + i)) :
    opSaSwitch i s = (((v.put (0x7300 + i) 2 (v.saNextKeyId i)).put (0x7300 + i) 3 (v.saNextSendSlot i)).put (0x7300 + i) 4 (v.saNextVerifySlot i)).put
      (0x7300 + i) 8 0 := by
  subst hv
  unfold opSaSwitch
  refine if_neg ?_
  simp only [Bool.or_eq_true, decide_eq_true_eq, not_or]
  exact ⟨⟨Nat.not_le.mpr hi, h0⟩, not_lt.mpr ht⟩

theorem opSaSwitch_not (h : 16 ≤ i ∨ s.saSwitchTai i = 0 ∨ s.tai < s.saSwitchTai i) : opSaSwitch i s = s := by
  unfold opSaSwitch
  refine if_pos ?_
  simp only [Bool.or_eq_true, decide_eq_true_eq]
  exact or_assoc.mpr h

end

/-! ## The state decision (R296, R311) -/

section
variable {s : State} {k : Nat}

/-- The state decision of a clock is due (R296). -/
def decisionDue (s : State) (k : Nat) : Prop := (s.inst k).due = true ∨ s.localDs k ≠ (s.inst k).local_

/-- Its last decision is less than a millisecond ago (R296). -/
def decisionEarly (s : State) (k : Nat) : Prop := 0 < (s.inst k).decidedAt ∧ s.tb.lc < (s.inst k).decidedAt + millis 1

theorem decisionStays_iff : (s.engsRun = false ∨ 4 ≤ k ∨ ¬ decisionDue s k ∨ decisionEarly s k) ↔
    (!s.engsRun || decide (4 ≤ k) || !((s.inst k).due || s.localDs k != (s.inst k).local_) ||
      (decide (0 < (s.inst k).decidedAt) && decide (s.tb.lc < (s.inst k).decidedAt + millis 1))) = true := by
  unfold decisionDue decisionEarly
  simp only [Bool.or_eq_true, Bool.and_eq_true, Bool.not_eq_true', Bool.or_eq_false_iff, bne_eq_false_iff_eq, decide_eq_true_eq, not_or,
    Bool.not_eq_true, ne_eq, not_not, or_assoc]

theorem opDecision_stays (h : s.engsRun = false ∨ 4 ≤ k ∨ ¬ decisionDue s k ∨ decisionEarly s k) : opDecision k s = s := by
  unfold opDecision
  exact if_pos (decisionStays_iff.mp h)

section
variable (hr : s.engsRun = true) (hk : k < 4) (hd : decisionDue s k) (he : ¬ decisionEarly s k)
include hr hk hd he

theorem decision_runs : ¬ (!s.engsRun || decide (4 ≤ k) || !((s.inst k).due || s.localDs k != (s.inst k).local_) ||
    (decide (0 < (s.inst k).decidedAt) && decide (s.tb.lc < (s.inst k).decidedAt + millis 1))) = true := by
  refine mt decisionStays_iff.mpr ?_
  rintro (h | h | h | h)
  · exact absurd (h.symm.trans hr) nofun
  · exact Nat.not_le.mpr hk h
  · exact h hd
  · exact he h

theorem opDecision_restarts (hx : (s.takeLate (s.ptpKey k)).wakeTiming.ptpEnable k ≠ s.ptpEnable k) :
    opDecision k s = (s.takeLate (s.ptpKey k)).wakeTiming.ptpRestart k := by
  unfold opDecision
  exact (if_neg (decision_runs hr hk hd he)).trans (if_pos (bne_iff_ne.mpr hx))

theorem opDecision_off (hx : (s.takeLate (s.ptpKey k)).wakeTiming.ptpEnable k = false) (hs : s.ptpEnable k = false) :
    let x := (s.takeLate (s.ptpKey k)).wakeTiming
    opDecision k s = x.onInst k (fun y => { y with due := false, local_ := x.localDs k }) := by
  intro x
  unfold opDecision
  refine (if_neg (decision_runs hr hk hd he)).trans ((if_neg ?_).trans (if_pos (by rw [hs]; rfl)))
  rw [hx, hs]
  decide

theorem opDecision_decides (hx : (s.takeLate (s.ptpKey k)).wakeTiming.ptpEnable k = true) (hs : s.ptpEnable k = true) :
    let x := (s.takeLate (s.ptpKey k)).wakeTiming
    let y := (x.memberPorts k).foldl (fun y j => if (y.pport j).state = 1 then y.initPort j else y)
      ((x.onInst k (fun y => { y with due := false, decidedAt := x.tb.lc })).decidePorts k)
    opDecision k s = (y.onInst k (fun z => { z with local_ := y.localDs k })).ptpOver := by
  intro x y
  have same : ¬ (x.ptpEnable k != s.ptpEnable k) = true := by
    rw [hx, hs]
    decide
  have on : ¬ (!s.ptpEnable k) = true := by
    rw [hs]
    decide
  unfold opDecision
  rw [if_neg (decision_runs hr hk hd he), if_neg same, if_neg on]

end
end

end Sys2Proof.Proofs
end

section
/-!
PROOFS. NTP and NTS (14_ntp_nts_and_client_scale.md): R312–R327.
-/
namespace Sys2Proof.Proofs
open Sys2Proof Sys2Proof.Machine

/-! ## The fate table (R313) -/

section
variable {s q t v z : State} {r : NtpReq} {rx st : Nat}

theorem opNtpRequest_none (h : ∀ x ∈ s.yard.terminated, (s.coreRuns && ntpTerm r x) = false) : opNtpRequest r s = s := by
  unfold opNtpRequest
  rw [takeTerm_none h]

theorem opNtpRequest_takes {fr : Term} (h : s.takeTerm (fun x => s.coreRuns && ntpTerm r x) = (q, some fr)) :
    opNtpRequest r s = q.ntpFate r fr.rx (q.atDelivery fr.rx fr.status) := by
  unfold opNtpRequest
  rw [h]

theorem ntpFate_standby (h : q.standby = true) : q.ntpFate r rx st = { q with pair := { q.pair with counters := bumpAt 6 q.pair.counters } } := by
  unfold State.ntpFate
  exact if_pos h

/-- The version and mode of a request are served (R313 row 5). -/
def ntpKnown (q : State) (r : NtpReq) : Prop := (r.version = 3 ∧ bit q.ntpVersions 0 = true) ∨ (r.version = 4 ∧ bit q.ntpVersions 1 = true)

/-- The silent second of R315. -/
def ntpSilent (q : State) (rx st : Nat) : Prop :=
  q.ntpLeapMode = 1 ∧ ∃ x, q.extend (rx % 2 ^ 48) st = some x ∧ q.insertedSecond (x / 65536000000000) = true

/-- A row of the table does not apply. Rows 2 to 7, each where those before it do not (R313). -/
abbrev ntpRow2 (q : State) (r : NtpReq) : Prop := (!q.ntpEnable || !bit q.ntpAddrs r.host) = true
abbrev ntpRow3 (q : State) (r : NtpReq) : Prop := (!bit q.ntpPorts r.port) = true
abbrev ntpRow4 (r : NtpReq) : Prop := (decide (r.len < 48) || decide (1024 < r.len) || !r.parses) = true
abbrev ntpRow5 (q : State) (r : NtpReq) : Prop :=
  (!((r.version == 3 && bit q.ntpVersions 0) || (r.version == 4 && bit q.ntpVersions 1)) || r.mode != 3) = true
abbrev ntpRow7 (st : Nat) : Prop := (!bit st 0 || bit st 2) = true

theorem ntpRow2_iff : ntpRow2 q r ↔ q.ntpEnable = false ∨ bit q.ntpAddrs r.host = false := by
  unfold ntpRow2
  simp only [Bool.or_eq_true, Bool.not_eq_true']

theorem ntpRow3_iff : ntpRow3 q r ↔ bit q.ntpPorts r.port = false := by
  unfold ntpRow3
  rw [Bool.not_eq_true']

theorem ntpRow4_iff : ntpRow4 r ↔ r.len < 48 ∨ 1024 < r.len ∨ r.parses = false := by
  unfold ntpRow4
  simp only [Bool.or_eq_true, Bool.not_eq_true', decide_eq_true_eq, or_assoc]

theorem ntpRow5_iff : ntpRow5 q r ↔ ¬ ntpKnown q r ∨ r.mode ≠ 3 := by
  unfold ntpRow5 ntpKnown
  rw [Bool.or_eq_true, bne_iff_ne, Bool.not_eq_true', ← Bool.not_eq_true, Bool.or_eq_true, Bool.and_eq_true, Bool.and_eq_true, beq_iff_eq, beq_iff_eq]

theorem ntpRow7_iff : ntpRow7 st ↔ bit st 0 = false ∨ bit st 2 = true := by
  unfold ntpRow7
  simp only [Bool.or_eq_true, Bool.not_eq_true']

theorem ntpSilent_iff : ntpSilent q rx st ↔ (decide (q.ntpLeapMode = 1) && (match q.extend (rx % 281474976710656) st with
    | some t => q.insertedSecond (t / 65536000000000)
    | none => false)) = true := by
  unfold ntpSilent
  show _ ∧ (∃ x, q.extend (rx % 281474976710656) st = some x ∧ _) ↔ _
  rw [Bool.and_eq_true, decide_eq_true_eq]
  refine and_congr_right fun _ => ?_
  cases q.extend (rx % 281474976710656) st with
  | none => simp
  | some x => simp

section
variable (h1 : ¬ q.standby = true)
include h1

theorem ntpFate_row2 (h : ntpRow2 q r) : q.ntpFate r rx st = q.ntpCount 2 := by
  unfold State.ntpFate
  rw [if_neg h1, if_pos h]

variable (h2 : ¬ ntpRow2 q r)
include h2

theorem ntpFate_row3 (h : ntpRow3 q r) : q.ntpFate r rx st = q.ntpCount 3 := by
  unfold State.ntpFate
  rw [if_neg h1, if_neg h2, if_pos h]

variable (h3 : ¬ ntpRow3 q r)
include h3

theorem ntpFate_row4 (h : ntpRow4 r) : q.ntpFate r rx st = q.ntpCount 4 := by
  unfold State.ntpFate
  rw [if_neg h1, if_neg h2, if_neg h3, if_pos h]

variable (h4 : ¬ ntpRow4 r)
include h4

theorem ntpFate_row5 (h : ntpRow5 q r) : q.ntpFate r rx st = q.ntpCount 5 := by
  unfold State.ntpFate
  rw [if_neg h1, if_neg h2, if_neg h3, if_neg h4, if_pos h]

variable (h5 : ¬ ntpRow5 q r)
include h5

theorem ntpFate_row6 (h : r.mac = true) : q.ntpFate r rx st = q.ntpCount 6 := by
  unfold State.ntpFate
  rw [if_neg h1, if_neg h2, if_neg h3, if_neg h4, if_neg h5, if_pos h]

variable (h6 : ¬ r.mac = true)
include h6

theorem ntpFate_row7 (h : ntpRow7 st) : q.ntpFate r rx st = q.ntpCount 7 := by
  unfold State.ntpFate
  rw [if_neg h1, if_neg h2, if_neg h3, if_neg h4, if_neg h5, if_neg h6, if_pos h]

variable (h7 : ¬ ntpRow7 st)
include h7

theorem ntpFate_silent (h : ntpSilent q rx st) : q.ntpFate r rx st = q.ntpGirthCount 3 := by
  have silent := ntpSilent_iff.mp h
  unfold State.ntpFate
  rw [if_neg h1, if_neg h2, if_neg h3, if_neg h4, if_neg h5, if_neg h6, if_neg h7]
  exact if_pos silent

variable (h8 : ¬ ntpSilent q rx st)
include h8

theorem ntpFate_refused (h : q.takeToken r = (t, false)) : q.ntpFate r rx st = t.rateRefused r := by
  have heard := mt ntpSilent_iff.mpr h8
  unfold State.ntpFate
  rw [if_neg h1, if_neg h2, if_neg h3, if_neg h4, if_neg h5, if_neg h6, if_neg h7, h]
  exact if_neg heard

theorem ntpFate_full (h : q.takeToken r = (t, true)) (hc : t.ntpCharge r = (v, false)) : q.ntpFate r rx st = v.ntpCount 0x0A := by
  have heard := mt ntpSilent_iff.mpr h8
  unfold State.ntpFate
  rw [if_neg h1, if_neg h2, if_neg h3, if_neg h4, if_neg h5, if_neg h6, if_neg h7, h]
  dsimp only
  rw [hc]
  exact if_neg heard

theorem ntpFate_serves (h : q.takeToken r = (t, true)) (hc : t.ntpCharge r = (v, true)) : q.ntpFate r rx st = v.ntpServe r rx st := by
  have heard := mt ntpSilent_iff.mpr h8
  unfold State.ntpFate
  rw [if_neg h1, if_neg h2, if_neg h3, if_neg h4, if_neg h5, if_neg h6, if_neg h7, h]
  dsimp only
  rw [hc]
  exact if_neg heard

end

/-! ## Rows 9 to 12 (R312, R314–R322) -/

theorem ntpServe_plain {w : NtpPending} (h : ntsOf r = none) (hw : (v.countGirth r).ntpResponse r rx st 0 0 = (z, w)) :
    v.ntpServe r rx st = z.queueTime r rx st w := by
  unfold State.ntpServe
  rw [h]
  dsimp only
  rw [hw]

section
variable {e : NtsFields} (h : ntsOf r = some e)
include h

theorem ntpServe_disabled (hu : e.uids ≠ []) (hn : v.ntsEnable = false) : v.ntpServe r rx st = v.ntpCount 0x0B := by
  unfold State.ntpServe
  rw [h]
  refine if_pos ?_
  rw [hn, List.isEmpty_eq_false_iff.mpr hu]
  rfl

/-- The engines take a request (R322). -/
def ntsException (v : State) (r : NtpReq) (e : NtsFields) : Prop :=
  v.ntsNoKeys = true ∨ (v.ntsFormBut r e = true ∧ (e.misplaced = true ∨ 16 < e.total))

omit h in
theorem ntsException_iff : ntsException v r e ↔ (v.ntsNoKeys || (v.ntsFormBut r e && (e.misplaced || decide (16 < e.total)))) = true := by
  unfold ntsException
  simp only [Bool.or_eq_true, Bool.and_eq_true, decide_eq_true_eq]

variable (hn : e.uids = [] ∨ v.ntsEnable = true)
include hn

omit h in
theorem nts_enabled : ¬ (!e.uids.isEmpty && !v.ntsEnable) = true := by
  rcases hn with hn | hn <;> rw [hn]
  · exact Bool.false_ne_true
  · rw [Bool.not_true, Bool.and_false]
    exact Bool.false_ne_true

theorem ntpServe_exception (hx : ntsException v r e) :
    v.ntpServe r rx st = ({ v with ntp := { v.ntp with excQueue := v.ntp.excQueue ++ [(r, rx, st)] } } : State).ntpCount 0x0C := by
  unfold State.ntpServe
  rw [h]
  exact (if_neg (nts_enabled hn)).trans (if_pos (ntsException_iff.mp hx))

theorem ntpServe_form (hx : ¬ ntsException v r e) (hf : v.ntsFormBut r e = false) : v.ntpServe r rx st = v.ntpCount 0x0B := by
  unfold State.ntpServe
  rw [h]
  exact (if_neg (nts_enabled hn)).trans ((if_neg (mt ntsException_iff.mpr hx)).trans (if_pos (by rw [hf]; rfl)))

theorem ntpServe_answers (hx : ¬ ntsException v r e) (hf : v.ntsFormBut r e = true) : v.ntpServe r rx st = v.ntsAnswer r rx st e := by
  unfold State.ntpServe
  rw [h]
  exact (if_neg (nts_enabled hn)).trans ((if_neg (mt ntsException_iff.mpr hx)).trans (if_neg (by rw [hf]; decide)))

end

theorem ownSent_ntp {p ins i : Nat} {w : NtpPending} (h : s.ntpStamp rx ins = (z, i)) :
    let grown := z.ntpGirth p w.girth w.rate w.built rx
    let left : NtpSent := { w.resp with transmit := i, rootDispersion := rootDispersion grown, girth := w.resp.girth.map (fun b => withGirth b grown) }
    s.ownSent p rx st ins (.ntp w) = ({ z with ntp := { z.ntp with lastSent := some left } } : State).ntpCount 1 := by
  intro grown left
  show s.ntpLeaves p rx ins w = _
  unfold State.ntpLeaves
  rw [h]

end

/-! ## Launches (R319, R320) -/

section
variable {s : State} {p lane tw mark : Nat} {delivered : Bool} {c : Copy} {w : NtpPending}

theorem opNtsLaunch_gated (h : s.coreRuns = false) : opNtsLaunch p lane tw mark delivered s = s := by
  unfold opNtsLaunch
  exact if_pos (by rw [h]; rfl)

section
variable (h : s.coreRuns = true)
include h

theorem opNtsLaunch_core :
    let x := s.dropHeads p (8 * p + 7) (s.queue (8 * p + 7)).copies.length
    opNtsLaunch p lane tw mark delivered s = match x.ntsHead p with
      | none => x
      | some (c, w) => if w.launch.isSome then x else x.ntsFix p lane tw mark delivered c w := by
  intro x
  unfold opNtsLaunch
  exact if_neg (by rw [h]; decide)

theorem opNtsLaunch_empty (hx : (s.dropHeads p (8 * p + 7) (s.queue (8 * p + 7)).copies.length).ntsHead p = none) :
    opNtsLaunch p lane tw mark delivered s = s.dropHeads p (8 * p + 7) (s.queue (8 * p + 7)).copies.length := by
  rw [opNtsLaunch_core h, hx]

theorem opNtsLaunch_fixed (hx : (s.dropHeads p (8 * p + 7) (s.queue (8 * p + 7)).copies.length).ntsHead p = some (c, w)) (hl : w.launch.isSome = true) :
    opNtsLaunch p lane tw mark delivered s = s.dropHeads p (8 * p + 7) (s.queue (8 * p + 7)).copies.length := by
  rw [opNtsLaunch_core h, hx]
  exact if_pos hl

theorem opNtsLaunch_fixes (hx : (s.dropHeads p (8 * p + 7) (s.queue (8 * p + 7)).copies.length).ntsHead p = some (c, w)) (hl : w.launch = none) :
    opNtsLaunch p lane tw mark delivered s = (s.dropHeads p (8 * p + 7) (s.queue (8 * p + 7)).copies.length).ntsFix p lane tw mark delivered c w := by
  rw [opNtsLaunch_core h, hx]
  exact if_neg (by rw [hl]; decide)

end

theorem opNtsRelaunch_none (h : s.coreRuns = false ∨ s.ntsHead p = none) : opNtsRelaunch p lane tw mark delivered s = s := by
  have none : (if s.coreRuns then s.ntsHead p else none) = none := by
    rcases h with h | h
    · exact if_neg (Bool.eq_false_iff.mp h)
    · rw [h, ite_self]
  unfold opNtsRelaunch
  rw [none]

section
variable (h : s.coreRuns = true) (hx : s.ntsHead p = some (c, w))
include h hx

theorem opNtsRelaunch_head : opNtsRelaunch p lane tw mark delivered s = match w.launch with
    | none => s
    | some t => if w.ready || decide (s.tb.lc < t.1) then s
      else if 3 ≤ w.tries + 1 then (((s.ntpCount 0x0F).takeCopy (8 * p + 7) c).onYPort p (fun y => { y with launch := none })).ntpCount 0x10
      else (s.ntpCount 0x0F).ntsFix p lane tw mark delivered c { w with tries := w.tries + 1 } := by
  have head : (if s.coreRuns then s.ntsHead p else none) = some (c, w) := (if_pos h).trans hx
  unfold opNtsRelaunch
  rw [head] <;> rfl

theorem opNtsRelaunch_unfixed (hl : w.launch = none) : opNtsRelaunch p lane tw mark delivered s = s := by
  rw [opNtsRelaunch_head h hx, hl]

theorem opNtsRelaunch_waits {q : Nat × Nat} (hl : w.launch = some q) (hw : w.ready = true ∨ s.tb.lc < q.1) :
    opNtsRelaunch p lane tw mark delivered s = s := by
  rw [opNtsRelaunch_head h hx, hl]
  refine if_pos ?_
  rw [Bool.or_eq_true, decide_eq_true_eq]
  exact hw

theorem opNtsRelaunch_missed {q : Nat × Nat} (hl : w.launch = some q) (hr : w.ready = false) (hq : q.1 ≤ s.tb.lc) :
    opNtsRelaunch p lane tw mark delivered s = if 3 ≤ w.tries + 1 then
        (((s.ntpCount 0x0F).takeCopy (8 * p + 7) c).onYPort p (fun y => { y with launch := none })).ntpCount 0x10
      else (s.ntpCount 0x0F).ntsFix p lane tw mark delivered c { w with tries := w.tries + 1 } := by
  rw [opNtsRelaunch_head h hx, hl]
  exact if_neg (by rw [hr, decide_eq_false (Nat.not_lt.mpr hq)]; decide)

end
end

/-! ## Exceptions (R322) -/

section
variable {s : State} {r : NtpReq} {rx st : Nat} {l : List (NtpReq × Nat × Nat)}

theorem opNtsException_none (h : s.w2Runs = false ∨ s.ntp.excQueue = []) : opNtsException s = s := by
  have none : (if s.w2Runs then s.ntp.excQueue else []) = [] := by
    rcases h with h | h
    · exact if_neg (Bool.eq_false_iff.mp h)
    · rw [h, ite_self]
  unfold opNtsException
  rw [none]

/-- Exception requests answered in the current second (R322). -/
def excSpent (s : State) : Nat := if s.ntp.excSecond = s.tai then s.ntp.excCount else 0

section
variable (h : s.w2Runs = true) (hq : s.ntp.excQueue = (r, rx, st) :: l)
include h hq

theorem opNtsException_full (hc : s.ntsExcRate ≤ excSpent s) :
    opNtsException s = ({ s with ntp := { s.ntp with excQueue := l } } : State).ntpCount 0x0D := by
  have queue : (if s.w2Runs then s.ntp.excQueue else []) = (r, rx, st) :: l := (if_pos h).trans hq
  unfold opNtsException
  rw [queue]
  exact if_pos hc

theorem opNtsException_room (hc : excSpent s < s.ntsExcRate) :
    let v : State := { s with ntp := { s.ntp with excQueue := l, excSecond := s.tai, excCount := excSpent s + 1 } }
    opNtsException s = match ntsOf r with
      | some f => if v.ntsNoKeys then v.ntsKiss r else v.ntsAnswer r rx st f
      | none => v := by
  have queue : (if s.w2Runs then s.ntp.excQueue else []) = (r, rx, st) :: l := (if_pos h).trans hq
  intro v
  unfold opNtsException
  rw [queue]
  exact if_neg (Nat.not_le.mpr hc)

end
end

/-! ## The mint ring (R327) -/

section
variable {s : State} {flags count aead : Nat} {ok : Bool}

/-- The counts of the current millisecond are all that is begun anew. -/
theorem ntpMs_eq (s : State) : ∃ a b c, s.ntpMs = { s with ntp := { s.ntp with ms := a, requests := b, operations := c } } := by
  unfold State.ntpMs
  split
  · exact ⟨_, _, _, rfl⟩
  · exact ⟨_, _, _, rfl⟩

/-- An entry of the mint ring is served (R327). -/
def mintServes (s : State) : Prop := s.w2Runs = true ∧ s.ntsMintRingSize ≠ 0 ∧ s.ntp.mintConsumer ≠ s.ntp.mintProducer ∧ s.dict.pcieUp = true

theorem mintServes_iff : mintServes s ↔
    ¬ (!s.w2Runs || decide (s.ntsMintRingSize = 0) || decide (s.ntp.mintConsumer = s.ntp.mintProducer) || !s.dict.pcieUp) = true := by
  unfold mintServes
  simp only [Bool.or_eq_true, Bool.not_eq_true', decide_eq_true_eq, not_or, Bool.not_eq_false, ne_eq, and_assoc]

/-- The first status of an entry that applies (R327). -/
def mintStatus (s : State) (flags count aead : Nat) (ok : Bool) : Nat :=
  if !(aead = 15 && bit s.ntsAeads 0) && !(aead = 30 && bit s.ntsAeads 1) then 2
  else if count < 1 || 8 < count then 3
  else if bit flags 0 && (s.ntsMintWrapSlot = 0xFFFF || !ok) then 4
  else if !s.blockLoaded s.ntp.current then 5
  else if s.ntsCapNow / 1000 < s.ntpMs.ntp.operations + count then 6
  else 1

theorem opMintEntry_not (h : ¬ mintServes s) : opMintEntry flags count aead ok s = s := by
  unfold opMintEntry
  exact if_pos (not_not.mp (mt mintServes_iff.mpr h))

/-- An entry that ends with a status: nothing is written unless that is 1 (R327). -/
theorem opMintEntry_serves (h : mintServes s) {c : Nat} (hc : mintStatus s flags count aead ok = c) :
    opMintEntry flags count aead ok s =
      (let v : State := { s.ntpMs with ntp := { s.ntpMs.ntp with
        mintConsumer := bump s.ntp.mintConsumer, mintStatus := c, mintWritten := if c == 1 then count else 0,
        operations := if c == 1 then s.ntpMs.ntp.operations + count else s.ntpMs.ntp.operations } }
       if c == 1 then (List.range count).foldl (fun x _ => x.ntpGirthCount 4) v else v) := by
  subst hc
  unfold opMintEntry mintStatus
  rw [if_neg (mintServes_iff.mp h)]
  obtain ⟨a, b, c, ms⟩ := ntpMs_eq s
  rw [ms]
  rfl

end

end Sys2Proof.Proofs
end

section
/-!
PROOFS. The governor (16_budget_governor.md): R356, R357; and the obligation on the capacity of the time services.
-/
namespace Sys2Proof.Proofs
open Sys2Proof Sys2Proof.Machine

/-! ## The decision (R356, R357) -/

section
variable {s : State}

theorem le_shedTo (s : State) (need : Nat) : ∀ k level saved, level ≤ s.shedTo need k level saved
  | 0, level, _ => Nat.le_refl level
  | k + 1, level, saved => by
    unfold State.shedTo
    split
    · exact Nat.le_of_succ_le (le_shedTo s need k (level + 1) _)
    · exact Nat.le_refl level

theorem shedTo_le (s : State) (need : Nat) : ∀ k level saved, level ≤ 7 → s.shedTo need k level saved ≤ 7
  | 0, _, _, h => h
  | k + 1, level, saved, h => by
    unfold State.shedTo
    split
    case isTrue more =>
      obtain ⟨-, below⟩ := Bool.and_eq_true_iff.mp more
      exact shedTo_le s need k (level + 1) _ (of_decide_eq_true below)
    case isFalse => exact h

/-- A negative headroom sheds (R357). -/
theorem decideLevel_sheds (hh : s.gov.headroom < 0) (hl : s.gov.level < 7) :
    s.gov.level < (s.decideLevel 0).1 ∧ (s.decideLevel 0).1 ≤ 7 ∧ (s.decideLevel 0).2 = 1 := by
  have sheds : s.decideLevel 0 = (s.shedTo s.gov.headroom.natAbs 7 (s.gov.level + 1) (s.cost (s.gov.level + 1)), 1) := by
    unfold State.decideLevel
    refine if_pos ?_
    simp only [Bool.and_eq_true, decide_eq_true_eq]
    exact ⟨⟨hh, trivial⟩, hl⟩
  rw [sheds]
  exact ⟨le_shedTo s _ _ _ _, shedTo_le s _ _ _ _ hl, rfl⟩

/-- A decision raises one level at most (R357). -/
theorem level_le_decideLevel (s : State) (settle : Nat) : s.gov.level ≤ (s.decideLevel settle).1 + 1 := by
  unfold State.decideLevel
  dsimp only
  split
  · exact Nat.le_succ_of_le (Nat.le_of_succ_le (le_shedTo s _ _ _ _))
  · split
    · exact Nat.le_add_right _ 2
    · split
      · split
        · show s.gov.level ≤ s.gov.level - 1 + 1
          omega
        · exact Nat.le_succ _
      · exact Nat.le_succ _

theorem opGovDecision_reset {i : Nat} {tj : Int} {ok : Bool} (h : s.start.porHeld = true ∨ s.start.inReset = true) : opGovDecision i tj ok s = s := by
  unfold opGovDecision
  exact if_pos (Bool.or_eq_true_iff.mpr h)

theorem opGovDecision_runs {i : Nat} {tj : Int} {ok : Bool} {t : State} (hp : s.start.porHeld = false) (hr : s.start.inReset = false)
    (ht : t = s.coldStep.govInput i tj ok) :
    let c := (t.decideLevel (t.gov.settle - 1)).2
    let x := { t with gov := { t.gov with settle := if c = 1 then 5 else t.gov.settle - 1, tjWait := (if c = 2 then 100 else t.gov.tjWait) - 1, hold := if c = 4 then t.gov.hold + 1 else 0, raised := if c = 3 then some (t.gov.level, t.gov.pPart) else t.gov.raised, times := upd (· + 1) t.gov.level t.gov.times } }
    let y := x.setLevel (max (t.decideLevel (t.gov.settle - 1)).1 x.govFloor)
    opGovDecision i tj ok s = ({ y with gov := { y.gov with cause := y.govCause c, unparked := y.unparkedNow } } : State).regate.govFaults := by
  subst ht
  intro c x y
  unfold opGovDecision
  exact if_neg (by rw [hp, hr]; decide)

theorem opGovCostMeasure_raised {i level power : Nat} (h : s.gov.raised = some (level, power)) : opGovCostMeasure i s =
    { s with gov := { s.gov with raised := none, cost := s.gov.cost.set (level - 1) (min (max (s.cost level) (i - power)) 65535) } } := by
  unfold opGovCostMeasure
  rw [h]

theorem opGovCostMeasure_none {i : Nat} (h : s.gov.raised = none) : opGovCostMeasure i s = s := by
  unfold opGovCostMeasure
  rw [h]

end

/-! ## PTP instances and ports (R293, R305) -/

section
variable {s : State} {k p : Nat}

theorem opPtpReconfig_none (h : 4 ≤ k) : opPtpReconfig k s = s := by
  unfold opPtpReconfig
  exact if_pos h

theorem opPtpReconfig_restarts (h : k < 4) : opPtpReconfig k s = ({ s with ptp := { s.ptp with
    grants := s.ptp.grants.filter (·.inst != k), reservations := s.ptp.reservations.filter (·.inst != k) } } : State).ptpRestart k := by
  unfold opPtpReconfig
  exact if_neg (Nat.not_le.mpr h)

theorem opQualification_ends (h : (s.pport p).state = 5) : opQualification p s = (s.onPPort p (fun x => { x with state := 6 })).ptpOver := by
  unfold opQualification
  exact if_pos h

theorem opQualification_not (h : (s.pport p).state ≠ 5) : opQualification p s = s := by
  unfold opQualification
  exact if_neg h

end

end Sys2Proof.Proofs
end

section
/-!
PROOFS. The capacity of the time services (13_ptp_service.md, 14_ntp_nts_and_client_scale.md, 16_budget_governor.md).
-/
namespace Sys2Proof.Proofs
open Sys2Proof Sys2Proof.Machine

/-! ## The statuses of a mint entry (R327) -/

section
variable {s : State} {flags count aead : Nat} {ok : Bool}

/-- The algorithm of an entry is one of those minted (R327). -/
def mintAead (s : State) (aead : Nat) : Prop := (aead = 15 ∧ bit s.ntsAeads 0 = true) ∨ (aead = 30 ∧ bit s.ntsAeads 1 = true)

/-- The keys of an entry are in clear, or unwrap (R327). -/
def mintUnwraps (s : State) (flags : Nat) (ok : Bool) : Prop := bit flags 0 = false ∨ (s.ntsMintWrapSlot ≠ 0xFFFF ∧ ok = true)

theorem mintAead_iff : ¬ mintAead s aead ↔ (!(decide (aead = 15) && bit s.ntsAeads 0) && !(decide (aead = 30) && bit s.ntsAeads 1)) = true := by
  unfold mintAead
  rw [Bool.and_eq_true, Bool.not_eq_true', Bool.not_eq_true', ← Bool.not_eq_true, ← Bool.not_eq_true, Bool.and_eq_true, Bool.and_eq_true,
    decide_eq_true_eq, decide_eq_true_eq, not_or]

theorem mintUnwraps_iff : ¬ mintUnwraps s flags ok ↔ (bit flags 0 && (decide (s.ntsMintWrapSlot = 0xFFFF) || !ok)) = true := by
  unfold mintUnwraps
  rw [Bool.and_eq_true, Bool.or_eq_true, decide_eq_true_eq, Bool.not_eq_true', not_or, Bool.not_eq_false, not_and, Bool.not_eq_true, ne_eq,
    ← Classical.or_iff_not_imp_left]

theorem mintStatus_aead (h : ¬ mintAead s aead) : mintStatus s flags count aead ok = 2 := if_pos (mintAead_iff.mp h)

section
variable (ha : mintAead s aead)
include ha

theorem mintStatus_count (h : count < 1 ∨ 8 < count) : mintStatus s flags count aead ok = 3 :=
  (if_neg (mt mintAead_iff.mpr (not_not.mpr ha))).trans (if_pos (by simpa using h))

variable (h1 : 1 ≤ count) (h8 : count ≤ 8)
include h1 h8

theorem mintStatus_counted : mintStatus s flags count aead ok =
    if bit flags 0 && (s.ntsMintWrapSlot = 0xFFFF || !ok) then 4
    else if !s.blockLoaded s.ntp.current then 5
    else if s.ntsCapNow / 1000 < s.ntpMs.ntp.operations + count then 6
    else 1 :=
  (if_neg (mt mintAead_iff.mpr (not_not.mpr ha))).trans (if_neg (by
    simp only [Bool.or_eq_true, decide_eq_true_eq]
    omega))

theorem mintStatus_wrapped (h : ¬ mintUnwraps s flags ok) : mintStatus s flags count aead ok = 4 :=
  (mintStatus_counted ha h1 h8).trans (if_pos (mintUnwraps_iff.mp h))

variable (hu : mintUnwraps s flags ok)
include hu

theorem mintStatus_unwrapped : mintStatus s flags count aead ok =
    if !s.blockLoaded s.ntp.current then 5 else if s.ntsCapNow / 1000 < s.ntpMs.ntp.operations + count then 6 else 1 :=
  (mintStatus_counted ha h1 h8).trans (if_neg (mt mintUnwraps_iff.mpr (not_not.mpr hu)))

theorem mintStatus_keyless (h : s.blockLoaded s.ntp.current = false) : mintStatus s flags count aead ok = 5 :=
  (mintStatus_unwrapped ha h1 h8 hu).trans (if_pos (by rw [h]; rfl))

theorem mintStatus_busy (h : s.blockLoaded s.ntp.current = true) (hc : s.ntsCapNow / 1000 < s.ntpMs.ntp.operations + count) :
    mintStatus s flags count aead ok = 6 :=
  (mintStatus_unwrapped ha h1 h8 hu).trans ((if_neg (by rw [h]; decide)).trans (if_pos hc))

theorem mintStatus_served (h : s.blockLoaded s.ntp.current = true) (hc : s.ntpMs.ntp.operations + count ≤ s.ntsCapNow / 1000) :
    mintStatus s flags count aead ok = 1 :=
  (mintStatus_unwrapped ha h1 h8 hu).trans ((if_neg (by rw [h]; decide)).trans (if_neg (Nat.not_lt.mpr hc)))

end

theorem opMintEntry_refuses (h : mintServes s) {c : Nat} (hc : mintStatus s flags count aead ok = c) (h1 : c ≠ 1) :
    opMintEntry flags count aead ok s =
      { s.ntpMs with ntp := { s.ntpMs.ntp with mintConsumer := bump s.ntp.mintConsumer, mintStatus := c, mintWritten := 0 } } := by
  have no : ¬ (c == 1) = true := fun same => h1 (eq_of_beq same)
  have done := opMintEntry_serves h hc
  dsimp only at done
  rw [if_neg no, if_neg no, if_neg no] at done
  exact done

theorem opMintEntry_mints (h : mintServes s) (hc : mintStatus s flags count aead ok = 1) :
    opMintEntry flags count aead ok s = (List.range count).foldl (fun x _ => x.ntpGirthCount 4)
      { s.ntpMs with ntp := { s.ntpMs.ntp with mintConsumer := bump s.ntp.mintConsumer, mintStatus := 1, mintWritten := count, operations := s.ntpMs.ntp.operations + count } } :=
  opMintEntry_serves h hc

end

/-! ## The obligation -/

/-- Settles O55, by the equation of each command in each of its cases. -/
theorem timeServiceCapacity : Obligations.TimeServiceCapacity := by
  unfold Obligations.TimeServiceCapacity
  intro s t v z now k p a lane tw mark portId mt dur i rx st ins lg tj m tk ok delivered r g gr f fr c w l e u
  refine ⟨fun h => decideDue_waits h, fun h hr => decideDue_one h hr,
    fun h hn => ⟨congrArg Host.Outcome.next (opRequestUnicast_foreign h hn), congrArg Host.Outcome.next (opCancelUnicast_foreign h hn)⟩,
    fun h hn => ⟨fun hg => congrArg Host.Outcome.next (opRequestUnicast_renews h hn hg), fun hg => ?waits,
      congrArg Host.Outcome.next (opCancelUnicast_ends h hn)⟩,
    ⟨fun h => decideGrant_foreign h, fun he hn => ⟨fun h => decideGrant_refuses he hn h, fun h hv => ?grants⟩⟩,
    grantOk_standby,
    fun h => congrArg Host.Outcome.next (opGrantRx_takes h),
    fun h => congrArg Host.Outcome.next (opGrantExpire_none h),
    fun h => ⟨fun he => congrArg Host.Outcome.next ((opGrantExpire_some h).trans (if_pos he)),
      fun he => congrArg Host.Outcome.next ((opGrantExpire_some h).trans (if_neg (Nat.not_le.mpr he)))⟩,
    fun h => congrArg Host.Outcome.next (opGrantRenew_none h),
    fun h => ⟨fun hd hf => ⟨fun hp => congrArg Host.Outcome.next (opGrantRenew_nowhere h hd hf hp),
      fun q hp => congrArg Host.Outcome.next (opGrantRenew_asks h hd hf hp)⟩, fun hf => congrArg Host.Outcome.next (opGrantRenew_early h hf)⟩,
    rfl,
    fun hi h0 ht hv => congrArg Host.Outcome.next (opSaSwitch_switches hi h0 ht hv),
    fun h => congrArg Host.Outcome.next (opSaSwitch_not h),
    fun h => congrArg Host.Outcome.next (opPtpReconfig_none h),
    fun h => congrArg Host.Outcome.next (opPtpReconfig_restarts h),
    rfl,
    fun h => congrArg Host.Outcome.next (opQualification_ends h),
    fun h => congrArg Host.Outcome.next (opQualification_not h),
    ⟨fun h => congrArg Host.Outcome.next (opDecision_stays h), fun hr hk hd he => ⟨fun hx => congrArg Host.Outcome.next (opDecision_restarts hr hk hd he hx),
      fun hx hs => congrArg Host.Outcome.next (opDecision_off hr hk hd he hx hs), fun hx hs => ?decides⟩⟩,
    ⟨fun h => congrArg Host.Outcome.next (opNtpRequest_none h), fun q hq => ?request⟩,
    fun h => ownSent_ntp h,
    ⟨fun h => congrArg Host.Outcome.next (opNtsLaunch_gated h), fun h => ⟨fun hx => congrArg Host.Outcome.next (opNtsLaunch_empty h hx),
      fun hx hl => congrArg Host.Outcome.next (opNtsLaunch_fixed h hx hl), fun hx hl => congrArg Host.Outcome.next (opNtsLaunch_fixes h hx hl)⟩,
      fun h => congrArg Host.Outcome.next (opNtsRelaunch_none h), fun h hx => ⟨fun hl => congrArg Host.Outcome.next (opNtsRelaunch_unfixed h hx hl),
        fun q hl => ⟨fun hw => congrArg Host.Outcome.next (opNtsRelaunch_waits h hx hl hw), fun hr hq hv => ?missed⟩⟩⟩,
    fun h => congrArg Host.Outcome.next (opNtsException_none h),
    fun h hq => ⟨fun hc => congrArg Host.Outcome.next (opNtsException_full h hq hc), fun hc hv => ?exception⟩,
    rfl, rfl,
    ⟨fun h => congrArg Host.Outcome.next (opMintEntry_not h), fun h => ?mint⟩,
    fun h => congrArg Host.Outcome.next (opGovDecision_reset h),
    fun hp hr ht => congrArg Host.Outcome.next (opGovDecision_runs hp hr ht),
    fun hh hl => decideLevel_sheds hh hl,
    fun _ => level_le_decideLevel _ i,
    fun h => congrArg Host.Outcome.next (opGovCostMeasure_raised h),
    fun h => congrArg Host.Outcome.next (opGovCostMeasure_none h)⟩
  case grants =>
    have granted := decideGrant_grants (t := t) (now := now) (r := ⟨i, k, p, a, portId, mt, lg, dur⟩) he hn h hv
    exact granted
  case decides =>
    have decided := opDecision_decides hr hk hd he hx hs
    exact congrArg Host.Outcome.next decided
  case waits =>
    have batched := opRequestUnicast_waits (p := p) (lg := lg) (dur := dur) h hn hg
    exact congrArg Host.Outcome.next batched
  case request =>
    have fate : exec (.ntpRequest now r) s = .next (q.ntpFate r fr.rx (q.atDelivery fr.rx fr.status)) :=
      congrArg Host.Outcome.next (opNtpRequest_takes hq)
    rw [fate]
    refine ⟨fun h1 => congrArg Host.Outcome.next (ntpFate_standby h1), fun standby => ?_⟩
    have h1 : ¬ q.standby = true := Bool.eq_false_iff.mp standby
    refine ⟨fun h => congrArg Host.Outcome.next (ntpFate_row2 h1 (ntpRow2_iff.mpr h)), fun enabled host => ?_⟩
    have h2 : ¬ ntpRow2 q r := ntpRow2_iff.not.mpr (by simp [enabled, host])
    refine ⟨fun h => congrArg Host.Outcome.next (ntpFate_row3 h1 h2 (ntpRow3_iff.mpr h)), fun port => ?_⟩
    have h3 : ¬ ntpRow3 q r := ntpRow3_iff.not.mpr (by simp [port])
    refine ⟨fun h => congrArg Host.Outcome.next (ntpFate_row4 h1 h2 h3 (ntpRow4_iff.mpr h)), fun long short parses => ?_⟩
    have h4 : ¬ ntpRow4 r := ntpRow4_iff.not.mpr (by simp [long, short, parses])
    refine ⟨fun h => congrArg Host.Outcome.next (ntpFate_row5 h1 h2 h3 h4 (ntpRow5_iff.mpr h)), fun known mode => ?_⟩
    have h5 : ¬ ntpRow5 q r := ntpRow5_iff.not.mpr (fun h => h.elim (fun unknown => unknown known) (fun other => other mode))
    refine ⟨fun h => congrArg Host.Outcome.next (ntpFate_row6 h1 h2 h3 h4 h5 h), fun mac => ?_⟩
    have h6 : ¬ r.mac = true := Bool.eq_false_iff.mp mac
    refine ⟨fun h => congrArg Host.Outcome.next (ntpFate_row7 h1 h2 h3 h4 h5 h6 (ntpRow7_iff.mpr h)), fun valid stale => ?_⟩
    have h7 : ¬ ntpRow7 (q.atDelivery fr.rx fr.status) := ntpRow7_iff.not.mpr (by simp [valid, stale])
    refine ⟨fun h => congrArg Host.Outcome.next (ntpFate_silent h1 h2 h3 h4 h5 h6 h7 h), fun h8 => ⟨
      fun h => congrArg Host.Outcome.next (ntpFate_refused h1 h2 h3 h4 h5 h6 h7 h8 h),
      fun h hc => congrArg Host.Outcome.next (ntpFate_full h1 h2 h3 h4 h5 h6 h7 h8 h hc), fun h hc => ?_⟩⟩
    rw [ntpFate_serves h1 h2 h3 h4 h5 h6 h7 h8 h hc]
    exact ⟨fun hn hw => congrArg Host.Outcome.next (ntpServe_plain hn hw), fun hn =>
      ⟨fun hu he => congrArg Host.Outcome.next (ntpServe_disabled hn hu he), fun hu =>
        ⟨fun hx => congrArg Host.Outcome.next (ntpServe_exception hn hu hx), fun hx hf => congrArg Host.Outcome.next (ntpServe_form hn hu hx hf),
          fun hx hf => congrArg Host.Outcome.next (ntpServe_answers hn hu hx hf)⟩⟩⟩
  case missed =>
    have counted := opNtsRelaunch_missed (p := p) (lane := lane) (tw := tw) (mark := mark) (delivered := delivered) h hx hl hr hq
    subst hv
    exact ⟨fun ht => congrArg Host.Outcome.next (counted.trans (if_pos (Nat.succ_le_succ ht))),
      fun ht => congrArg Host.Outcome.next (counted.trans (if_neg (Nat.not_le.mpr (Nat.succ_lt_succ ht))))⟩
  case exception =>
    subst hv
    have answered := opNtsException_room h hq hc
    constructor
    · intro hn
      rw [hn] at answered
      exact congrArg Host.Outcome.next answered
    · intro hn
      rw [hn] at answered
      exact congrArg Host.Outcome.next answered
  case mint =>
    have refused {c : Nat} (hc : mintStatus (s.atTime now) i k a ok = c) (h1 : c ≠ 1) := congrArg (Host.Outcome.next (φ := Fault) (ρ := Refusal)) (opMintEntry_refuses h hc h1)
    exact ⟨fun ha => refused (mintStatus_aead ha) (by decide), fun ha hk => refused (mintStatus_count ha hk) (by decide),
      fun ha h1 h8 hu => refused (mintStatus_wrapped ha h1 h8 hu) (by decide), fun ha h1 h8 hu =>
        ⟨fun hl => refused (mintStatus_keyless ha h1 h8 hu hl) (by decide), fun hl hc => refused (mintStatus_busy ha h1 h8 hu hl hc) (by decide),
          fun hl hc => congrArg Host.Outcome.next (opMintEntry_mints h (mintStatus_served ha h1 h8 hu hl hc))⟩⟩

end Sys2Proof.Proofs
end

section
/-!
PROOFS. The vault and the access paths of themselves (18_key_vault_and_lifecycle.md, 19_secrecy_and_access.md): R386, R391, R398, R401–R415.
-/
namespace Sys2Proof.Proofs
open Sys2Proof Sys2Proof.Machine

/-! ## Cloaking and shadows (R386, R391) -/

section
variable {s : State}

theorem opMaskRotation_none (h : s.vault.cloak = none) : opMaskRotation s = s := by
  unfold opMaskRotation
  rw [h]

theorem opMaskRotation_some {c : Cloak} (h : s.vault.cloak = some c) : opMaskRotation s =
    { s with freeCount := s.freeCount + 1, vault := { s.vault with cloak := some (c.sweep (Config.freeValue s.freeCount)), maskRotations := bump s.vault.maskRotations } } := by
  unfold opMaskRotation
  rw [h]
  rfl

theorem sweep_masks (m : Nat) (c : Cloak) :
    (c.sweep m).perm = c.perm ∧ (c.sweep m).epoch = !c.epoch ∧ (if c.epoch then (c.sweep m).mask1 = c.mask1 else (c.sweep m).mask0 = c.mask0) := by
  cases he : c.epoch with
  | true =>
    have swept : c.sweep m = { c with mask0 := m, epoch := false } := if_pos he
    rw [swept]
    exact ⟨rfl, rfl, rfl⟩
  | false =>
    have swept : c.sweep m = { c with mask1 := m, epoch := true } := if_neg (Bool.eq_false_iff.mp he)
    rw [swept]
    exact ⟨rfl, rfl, rfl⟩

theorem opStageTimeout_none {n : Nat} (h : (s.slot n).shadow = none) : opStageTimeout n s = s := by
  unfold opStageTimeout
  rw [h]

theorem opStageTimeout_some {n p q t : Nat} (h : (s.slot n).shadow = some (p, q, t)) :
    opStageTimeout n s = if t + secs s.vaultStageTimeout ≤ s.tb.lc then s.setSlot n { s.slot n with shadow := none } else s := by
  unfold opStageTimeout
  rw [h]

/-! ## Tamper alarms (R401–R404) -/

/-- The state of a part whose source `src` has set its alarm (R401). -/
def alarmed (s : State) (src : Nat) : State := { s with vault := { s.vault with alarms := setBit s.vault.alarms src true } }

section
variable {src : Nat}

theorem alarm_joins {r : TamperRec} {l : List TamperRec} (h : (alarmed s src).vault.latch = true) (hr : (alarmed s src).vault.records = r :: l) :
    s.alarm src = { alarmed s src with vault := { (alarmed s src).vault with records := { r with sources := setBit r.sources src true } :: l } } := by
  unfold State.alarm
  refine (if_pos h).trans ?_
  change s.vault.records = r :: l at hr
  simp only [hr]
  rfl

theorem alarm_alone (h : (alarmed s src).vault.latch = true) (hr : (alarmed s src).vault.records = []) : s.alarm src = alarmed s src := by
  unfold State.alarm
  refine (if_pos h).trans ?_
  split
  case h_1 r l eq => exact absurd (eq.symm.trans hr) nofun
  case h_2 => rfl

section
variable {m n op : Nat} {v y : State} (h : (alarmed s src).vault.latch = false) (hm : (alarmed s src).tamperMoment = (m, n, op))
  (hv : v = (alarmed s src).tamperRecord (2 ^ src) m n op) (hy : y = ({ v with vault := { v.vault with latch := true } } : State).tamperWipe)
include h hm hv hy

theorem alarm_latches : s.alarm src =
    if y.start.porHeld || m = 3 then y else if m = 1 then (if y.start.inReset then y else y.tamperHalt) else y.raise 0x0F01 := by
  subst hv hy
  unfold State.alarm
  refine (if_neg (Bool.eq_false_iff.mp h)).trans ?_
  change ({ s with vault := { s.vault with alarms := setBit s.vault.alarms src true } } : State).tamperMoment = (m, n, op) at hm
  rw [hm]
  rfl

theorem alarm_silent (hs : y.start.porHeld = true ∨ m = 3) : s.alarm src = y :=
  (alarm_latches h hm hv hy).trans (if_pos (by simpa using hs))

theorem alarm_halts (hp : y.start.porHeld = false) (hb : m = 1) : s.alarm src = if y.start.inReset then y else y.tamperHalt :=
  (alarm_latches h hm hv hy).trans ((if_neg (by simp [hp, hb])).trans (if_pos hb))

theorem alarm_raises (hp : y.start.porHeld = false) (h3 : m ≠ 3) (h1 : m ≠ 1) : s.alarm src = y.raise 0x0F01 :=
  (alarm_latches h hm hv hy).trans ((if_neg (by simp [hp, h3])).trans (if_neg h1))

end

/-- A tamper source that sets no alarm (R401). -/
theorem opTamperAlarm_off {aon : Nat} (h : 8 ≤ src ∨ s.tamperEnabled src = false ∨ (src = 5 ∧ s.start.porHeld = true)) : opTamperAlarm src aon s = s := by
  unfold opTamperAlarm
  refine if_pos ?_
  simpa only [Bool.or_eq_true, Bool.and_eq_true, Bool.not_eq_true', decide_eq_true_eq, or_assoc] using h

theorem opTamperAlarm_on {aon : Nat} (h8 : src < 8) (he : s.tamperEnabled src = true) (hp : src = 5 → s.start.porHeld = false) :
    opTamperAlarm src aon s = (s.aonAt aon).alarm src := by
  unfold opTamperAlarm
  refine if_neg ?_
  simp only [Bool.or_eq_true, Bool.and_eq_true, Bool.not_eq_true', decide_eq_true_eq, not_or, not_and, Bool.not_eq_true, Bool.not_eq_false]
  exact ⟨⟨Nat.not_le.mpr h8, he⟩, hp⟩

end

theorem tamperMoment_sleep_iff (s : State) : s.tamperMoment.1 = 3 ↔ s.start.sleep = true := by
  unfold State.tamperMoment
  constructor
  · intro h
    by_contra awake
    rw [if_neg awake] at h
    split at h
    · simp at h
    · simp at h
    · split at h
      · simp at h
      · split at h
        · simp at h
        · simp at h
  · intro h
    rw [if_pos h]

theorem tamperMoment_run (hs : s.start.sleep = false) (hk : s.vault.keyOp = none) (hu : s.vault.unsealed = true) (hp : s.start.porHeld = false)
    (hj : s.vault.jobs = []) : s.tamperMoment = (2, 0xFFFF, 0) := by
  unfold State.tamperMoment
  rw [if_neg (Bool.eq_false_iff.mp hs), hk]
  dsimp only
  rw [hu, hp, hj]
  rfl

theorem opAonChangeover_again {aon : Nat} (h : s.vault.onBattery = true) : opAonChangeover aon s = s := by
  unfold opAonChangeover
  exact if_pos h

theorem opAonChangeover_first {aon : Nat} (h : s.vault.onBattery = false) :
    opAonChangeover aon s = opTamperAlarm 5 aon { s with vault := { s.vault with onBattery := true } } := by
  unfold opAonChangeover
  exact if_neg (Bool.eq_false_iff.mp h)

/-! ## Sessions and JTAG (R411, R413–R415) -/

section
variable {n : Nat}

theorem opIdleTimeout_none (h : s.session n = none) : opIdleTimeout n s = s := by
  unfold opIdleTimeout
  rw [h]

theorem opIdleTimeout_some {x : Session} (h : s.session n = some x) :
    opIdleTimeout n s = if x.lastReq + secs s.authIdle ≤ s.tb.lc then s.endSession 2 x else s := by
  unfold opIdleTimeout
  rw [h]

theorem opTicketExpire_none (h : s.session n = none) : opTicketExpire n s = s := by
  unfold opTicketExpire
  rw [h]

theorem opTicketExpire_ends {x : Session} (h : s.session n = some x) (ht : x.ticketed = true) (hx : (x.notAfter : Int) ≤ s.tai) :
    opTicketExpire n s = s.endSession 3 x := by
  unfold opTicketExpire
  rw [h]
  exact if_pos (by rw [ht, decide_eq_true hx]; rfl)

theorem opTicketExpire_stands {x : Session} (h : s.session n = some x) (hx : x.ticketed = false ∨ s.tai < x.notAfter) : opTicketExpire n s = s := by
  unfold opTicketExpire
  rw [h]
  refine if_neg ?_
  rw [Bool.and_eq_true, decide_eq_true_eq]
  rintro ⟨ticketed, expired⟩
  exact hx.elim (fun no => absurd (no.symm.trans ticketed) nofun) (fun early => not_le.mpr early expired)

end

theorem opJtagAttach_locked (h : s.jtagState = 0) : opJtagAttach s = s := by
  unfold opJtagAttach
  exact if_pos h

theorem opJtagAttach_attaches (h : s.jtagState ≠ 0) :
    opJtagAttach s = ({ s with access := { s.access with jtag := 3 } } : State).auditEvent { atype := 8, path := 6, value := 3 } := by
  unfold opJtagAttach
  exact if_neg h

end

/-- Settles O56, by the equation of each event in each of its cases. -/
theorem vaultAndAccessEvents : Obligations.VaultAndAccessEvents := by
  unfold Obligations.VaultAndAccessEvents
  intro s v y now n src aon p q t m op x r l c u w
  refine ⟨fun h => congrArg Host.Outcome.next (opMaskRotation_none h),
    fun h => ⟨c.sweep (Config.freeValue s.freeCount), congrArg Host.Outcome.next (opMaskRotation_some h), sweep_masks _ c⟩,
    fun h => congrArg Host.Outcome.next (opStageTimeout_none h),
    fun h => ⟨fun ht => congrArg Host.Outcome.next ((opStageTimeout_some h).trans (if_pos ht)),
      fun ht => congrArg Host.Outcome.next ((opStageTimeout_some h).trans (if_neg (Nat.not_le.mpr ht)))⟩,
    fun h => congrArg Host.Outcome.next (opTamperAlarm_off h),
    fun h8 he hp => ?alarm,
    tamperMoment_sleep_iff v, tamperMoment_run, rfl,
    fun h => congrArg Host.Outcome.next (opAonChangeover_again h),
    fun h hv => ?changeover,
    rfl, rfl,
    fun h => ⟨fun hx => congrArg Host.Outcome.next ((opIdleTimeout_some h).trans (if_pos hx)),
      fun hx => congrArg Host.Outcome.next ((opIdleTimeout_some h).trans (if_neg (Nat.not_le.mpr hx))),
      fun ht hx => congrArg Host.Outcome.next (opTicketExpire_ends h ht hx), fun hx => congrArg Host.Outcome.next (opTicketExpire_stands h hx)⟩,
    fun h => ⟨congrArg Host.Outcome.next (opIdleTimeout_none h), congrArg Host.Outcome.next (opTicketExpire_none h)⟩,
    fun h => congrArg Host.Outcome.next (opJtagAttach_locked h), fun h => congrArg Host.Outcome.next (opJtagAttach_attaches h), rfl⟩
  case alarm =>
    have set := opTamperAlarm_on (aon := aon) h8 he hp
    exact ⟨fun h => ⟨fun hr => congrArg Host.Outcome.next (set.trans (alarm_joins h hr)), fun hr => congrArg Host.Outcome.next (set.trans (alarm_alone h hr))⟩,
      fun h hm hv hy => ⟨fun hs => congrArg Host.Outcome.next (set.trans (alarm_silent h hm hv hy hs)),
        fun hh hb => congrArg Host.Outcome.next (set.trans (alarm_halts h hm hv hy hh hb)),
        fun hh h3 h1 => congrArg Host.Outcome.next (set.trans (alarm_raises h hm hv hy hh h3 h1))⟩⟩
  case changeover =>
    subst hv
    have first := opAonChangeover_first (aon := aon) h
    exact ⟨fun hd => congrArg Host.Outcome.next (first.trans (opTamperAlarm_off (hd.imp_right (fun hh => Or.inr ⟨rfl, hh⟩) |>.elim (fun a => .inr (.inl a)) .inr))),
      fun he hp => congrArg Host.Outcome.next (first.trans (opTamperAlarm_on (by decide) he (fun _ => hp)))⟩

end Sys2Proof.Proofs
end

section
/-!
PROOFS. The access paths (20_object_dictionary.md): R429–R444.
-/
namespace Sys2Proof.Proofs
open Sys2Proof Sys2Proof.Machine

/-! ## Envelopes and the mailbox (R430, R431, R439) -/

section
variable {s t : State} {a : Acc} {e : Envelope} {slow ready : Bool} {c k len x : Nat}

theorem opSealReq_down (h : s.pathUp a.path = false) : opSealReq a e slow s = s.atTime a.now := by
  unfold opSealReq
  exact if_pos (by rw [h]; rfl)

theorem opSealReq_up (h : s.pathUp a.path = true) (hr : s.sealReq a e slow = (t, c)) :
    opSealReq a e slow s = t.onPath a.path (fun p => { p with code := c, value := 0 }) := by
  unfold opSealReq
  rw [hr]
  exact if_neg (by rw [h]; decide)

theorem sealReq_checked (h : (s.arrive a).firstChecks a ⟨defaultRole a.path, false⟩ 0x1030 1 0 true = 0) :
    s.sealReq a e slow = (s.arrive a).envelopeIn a e slow := by
  unfold State.sealReq
  dsimp only
  rw [h] <;> rfl

theorem sealReq_refused (h : (s.arrive a).firstChecks a ⟨defaultRole a.path, false⟩ 0x1030 1 0 true = k) (hk : k ≠ 0) :
    s.sealReq a e slow = (s.arrive a).refuseWrite a ⟨defaultRole a.path, false⟩ 0x1030 1 0 k := by
  unfold State.sealReq
  dsimp only
  rw [h]
  split
  · exact absurd rfl hk
  · rfl

theorem opSealResp_down (h : s.pathUp a.path = false) : opSealResp a ready s = s.atTime a.now := by
  unfold opSealResp
  exact if_pos (by rw [h]; rfl)

theorem opSealResp_up (h : s.pathUp a.path = true) (hr : s.sealResp a ready = (t, c, x)) :
    opSealResp a ready s = t.onPath a.path (fun p => { p with code := c, value := x }) := by
  unfold opSealResp
  rw [hr]
  exact if_neg (by rw [h]; decide)

/-- A plain envelope of the wrong direction (R431). -/
theorem envelopeIn_direction (h : e.session = 0) (hd : e.dir ≠ 1) : t.envelopeIn a e slow = (t, 0x0B) := by
  have judged : t.judgeIn a e slow = (t, 0x0B, none) := by
    unfold State.judgeIn State.plainIn
    rw [if_pos h]
    exact if_pos (by rw [bne_iff_ne.mpr hd]; rfl)
  unfold State.envelopeIn
  rw [judged]

/-- A plain envelope that repeats the last one's number is answered with its response (R430). -/
theorem judgeIn_repeat (h : e.session = 0) (hd : e.dir = 1) (hp : a.path ≠ Path.esxia) (hs : (t.pathState a.path).seq = some e.seq) :
    t.judgeIn a e slow = (t, 0, (t.pathState a.path).resp) := by
  have other : (a.path == Path.esxia) = false := beq_eq_false_iff_ne.mpr hp
  unfold State.judgeIn State.plainIn
  rw [if_pos h]
  dsimp only
  rw [hs, hd, other]
  refine (if_neg ?_).trans (if_pos (beq_self_eq_true _))
  simp

theorem opMbSubmit_down (h : s.pathUp .pcie = false) : opMbSubmit a e len slow s = s.atTime a.now := by
  unfold opMbSubmit
  exact if_pos (by rw [h]; rfl)

section
variable (h : s.pathUp .pcie = true)
include h

theorem opMbSubmit_length (hl : len < 20 ∨ 1072 < len) :
    let host := { a with path := Path.pcie, session := none, env := false }
    opMbSubmit a e len slow s = { s.arrive host with dict := { (s.arrive host).dict with mbCode := 0x0C, mbReady := false } } := by
  intro host
  unfold opMbSubmit
  exact (if_neg (by rw [h]; decide)).trans (if_pos (by simpa using hl))

theorem opMbSubmit_submits (h20 : 20 ≤ len) (hl : len ≤ 1072)
    (hr : ({ s with dict := { s.dict with mbReady := false, mbEnvelope := some e } } : State).sealReq
      { a with path := Path.pcie, session := none, env := false, len := len } e slow = (t, c)) :
    opMbSubmit a e len slow s = { t with dict := { t.dict with mbCode := c } } := by
  have up : ¬ (!s.pathUp .pcie) = true := by
    rw [h]
    decide
  have fits : ¬ (decide (len < 20) || decide (1072 < len)) = true := by
    simp only [Bool.or_eq_true, decide_eq_true_eq]
    omega
  unfold opMbSubmit
  dsimp only
  rw [if_neg up, if_neg fits, hr]

end
end

/-! ## CAN FD (R432–R434) -/

section
variable {s t : State} {a : Acc} {c stage idx sub x k w : Nat} {wr : Bool}

theorem opCanSdo_off (h : (s.atTime a.now).canOn c = false) : opCanSdo c stage wr a idx sub x s = s.atTime a.now := by
  unfold opCanSdo
  exact if_pos (by rw [h]; rfl)

section
variable (h : (s.atTime a.now).canOn c = true)
include h

theorem opCanSdo_on : opCanSdo c stage wr a idx sub x s =
    (let a := { a with path := Path.can c }
     let s := s.atTime a.now
     if stage = 0 then
       if (s.canOf c).transfer then s.canAnswer c 0x08000022 true else s.onCan c (fun x => { x with transfer := true })
     else if !(s.canOf c).transfer then s
     else if stage != 1 then s.canAnswer c 0x05040004 false
     else if !s.pathUp a.path then s.onCan c (fun x => { x with transfer := false })
     else if wr then
       let (s, r) := s.pathWrite a idx sub x
       (s.onPath a.path (fun p => { p with code := r, value := 0 })).canAnswer c (abortCode r) false
     else
       let (s, r, x) := if idx = 0x1030 && sub = 2 then s.sealResp a true else s.accessRead a idx sub
       (s.onPath a.path (fun p => { p with code := r, value := x })).canAnswer c (abortCode r) false) := by
  unfold opCanSdo
  exact if_neg (by rw [h]; decide)

theorem opCanSdo_begin : opCanSdo c 0 wr a idx sub x s = if ((s.atTime a.now).canOf c).transfer then (s.atTime a.now).canAnswer c 0x08000022 true
    else (s.atTime a.now).onCan c (fun x => { x with transfer := true }) :=
  (opCanSdo_on h).trans (if_pos rfl)

theorem opCanSdo_stray (ht : ((s.atTime a.now).canOf c).transfer = false) (hs : stage ≠ 0) : opCanSdo c stage wr a idx sub x s = s.atTime a.now :=
  (opCanSdo_on h).trans ((if_neg hs).trans (if_pos (by rw [ht]; rfl)))

variable (ht : ((s.atTime a.now).canOf c).transfer = true)
include ht

theorem opCanSdo_order (hs : 1 < stage) : opCanSdo c stage wr a idx sub x s = (s.atTime a.now).canAnswer c 0x05040004 false :=
  (opCanSdo_on h).trans ((if_neg (Nat.ne_of_gt (Nat.zero_lt_of_lt hs))).trans ((if_neg (by rw [ht]; decide)).trans
    (if_pos (bne_iff_ne.mpr (Nat.ne_of_gt hs)))))

theorem opCanSdo_run : opCanSdo c 1 wr a idx sub x s =
    (let a := { a with path := Path.can c }
     let s := s.atTime a.now
     if !s.pathUp a.path then s.onCan c (fun x => { x with transfer := false })
     else if wr then
       let (s, r) := s.pathWrite a idx sub x
       (s.onPath a.path (fun p => { p with code := r, value := 0 })).canAnswer c (abortCode r) false
     else
       let (s, r, x) := if idx = 0x1030 && sub = 2 then s.sealResp a true else s.accessRead a idx sub
       (s.onPath a.path (fun p => { p with code := r, value := x })).canAnswer c (abortCode r) false) :=
  (opCanSdo_on h).trans ((if_neg Nat.one_ne_zero).trans ((if_neg (by rw [ht]; decide)).trans (if_neg (by decide))))

theorem opCanSdo_down (hp : (s.atTime a.now).pathUp (Path.can c) = false) :
    opCanSdo c 1 wr a idx sub x s = (s.atTime a.now).onCan c (fun y => { y with transfer := false }) :=
  (opCanSdo_run h ht).trans (if_pos (by rw [hp]; rfl))

variable (hp : (s.atTime a.now).pathUp (Path.can c) = true)
include hp

theorem opCanSdo_writes (hw : (s.atTime a.now).pathWrite { a with path := Path.can c } idx sub x = (t, k)) : opCanSdo c 1 true a idx sub x s =
    (t.onPath (Path.can c) (fun p => { p with code := k, value := 0 })).canAnswer c (abortCode k) false := by
  have up : ¬ (!(s.atTime a.now).pathUp (Path.can c)) = true := by
    rw [hp]
    decide
  refine (opCanSdo_run h ht).trans ?_
  dsimp only
  rw [if_neg up, if_pos rfl, hw]

theorem opCanSdo_reads (hr : (if idx = 0x1030 ∧ sub = 2 then (s.atTime a.now).sealResp { a with path := Path.can c } true
      else (s.atTime a.now).accessRead { a with path := Path.can c } idx sub) = (t, k, w)) : opCanSdo c 1 false a idx sub x s =
    (t.onPath (Path.can c) (fun p => { p with code := k, value := w })).canAnswer c (abortCode k) false := by
  have up : ¬ (!(s.atTime a.now).pathUp (Path.can c)) = true := by
    rw [hp]
    decide
  refine (opCanSdo_run h ht).trans ?_
  simp only [← Bool.decide_and, decide_eq_true_eq]
  rw [if_neg up, if_neg Bool.false_ne_true, hr]

end

section
variable (h : s.canOn c = true)
include h

theorem opCanTimeout_on : opCanTimeout c s = if (s.canOf c).transfer then s.canAnswer c 0x05040000 false else s := by
  unfold opCanTimeout
  rw [h, Bool.true_and]

theorem opCanNmt_on : opCanNmt c s = s.onCan c (fun y => { y with nmtIgnored := bump y.nmtIgnored }) := by
  unfold opCanNmt
  exact if_pos h

theorem opCanHeartbeat_sends (hh : s.canHeartbeat c ≠ 0) : opCanHeartbeat c s = s.onCan c (fun y => { y with
    sent := some (0x700 + y.node, if s.start.state = .locked ∨ s.start.state = .acquiring ∨ s.start.state = .warming then 0x05 else 0x7F) }) := by
  unfold opCanHeartbeat
  refine (if_pos (Bool.and_eq_true_iff.mpr ⟨h, bne_iff_ne.mpr hh⟩)).trans ?_
  simp only [List.contains_iff_mem, List.mem_cons, List.not_mem_nil, or_false]

omit h in
theorem opCanHeartbeat_silent (hh : s.canHeartbeat c = 0) : opCanHeartbeat c s = s := by
  unfold opCanHeartbeat
  refine if_neg ?_
  rw [hh, Bool.and_eq_true]
  rintro ⟨-, zero⟩
  exact absurd zero (by decide)

theorem opCanBusOff_on : opCanBusOff c s =
    (s.onCan c (fun y => { y with state := 3, busOff := bump y.busOff, transfer := false })).endSessions 6 (fun y => y.path == Path.can c) := by
  unfold opCanBusOff
  exact if_pos h

end

/-- A controller that is off the bus carries nothing (R432). -/
theorem can_off (h : s.canOn c = false) : opCanTimeout c s = s ∧ opCanNmt c s = s ∧ opCanHeartbeat c s = s ∧ opCanBusOff c s = s := by
  have off : ¬ s.canOn c = true := Bool.eq_false_iff.mp h
  refine ⟨?_, if_neg off, ?_, if_neg off⟩
  · unfold opCanTimeout
    rw [h]
    rfl
  · unfold opCanHeartbeat
    rw [h]
    rfl

theorem opCanRecovery_recovers (h : (s.canOf c).state = 3) : opCanRecovery c s = s.onCan c (fun y => { y with state := if s.group 11 = 1 then 1 else 4 }) := by
  unfold opCanRecovery
  refine (if_pos h).trans ?_
  simp only [beq_iff_eq]

theorem opCanRecovery_not (h : (s.canOf c).state ≠ 3) : opCanRecovery c s = s := by
  unfold opCanRecovery
  exact if_neg h

end

/-! ## The management port (R436) -/

section
variable {s t : State} {a : Acc} {ok ready slow : Bool} {idx sub x c len : Nat}

section
variable {m : State} (hm : m = (s.atTime a.now).mspBegin ready)
include hm

theorem msp_busy (h : m.dict.mspRdy = false) :
    opMspWrite a idx sub x ok ready slow s = { m with dict := { m.dict with mspBusyDrops := bump m.dict.mspBusyDrops } } ∧
    opMspRead a idx sub ok ready slow s = { m with dict := { m.dict with mspBusyDrops := bump m.dict.mspBusyDrops } } := by
  subst hm
  exact ⟨if_pos (by rw [h]; rfl), if_pos (by rw [h]; rfl)⟩

variable (h : m.dict.mspRdy = true)
include h

theorem msp_free : ¬ (!((s.atTime a.now).mspBegin ready).dict.mspRdy) = true := by
  rw [← hm, h]
  decide

theorem msp_checkByte : opMspWrite a idx sub x false ready slow s = m.mspBad ∧ opMspRead a idx sub false ready slow s = m.mspBad := by
  have free := msp_free hm h
  subst hm
  exact ⟨(if_neg free).trans (if_pos rfl), (if_neg free).trans (if_pos rfl)⟩

theorem msp_down (hp : m.pathUp .msp = false) : opMspWrite a idx sub x true ready slow s = m ∧ opMspRead a idx sub true ready slow s = m := by
  have free := msp_free hm h
  subst hm
  exact ⟨(if_neg free).trans ((if_neg Bool.false_ne_true).trans (if_pos (by rw [hp]; rfl))),
    (if_neg free).trans ((if_neg Bool.false_ne_true).trans (if_pos (by rw [hp]; rfl)))⟩

variable (hp : m.pathUp .msp = true)
include hp

theorem opMspWrite_answers (hw : m.pathWrite { a with path := Path.msp } idx sub x = (t, c)) :
    opMspWrite a idx sub x true ready slow s = t.mspAnswer (c, 0, 0) slow := by
  have free := msp_free hm h
  subst hm
  have up : ¬ (!((s.atTime a.now).mspBegin ready).pathUp .msp) = true := by
    rw [hp]
    decide
  unfold opMspWrite
  dsimp only
  rw [if_neg free, if_neg (by decide), if_neg up, hw]

theorem opMspRead_answers (hr : (if idx = 0x1030 ∧ sub = 2 then m.sealResp { a with path := Path.msp } true
      else m.accessRead { a with path := Path.msp } idx sub) = (t, c, x)) :
    opMspRead a idx sub true ready slow s = t.mspAnswer (if c = 0 then (0, readLen idx sub x, x) else (c, 0, 0)) slow := by
  have free := msp_free hm h
  subst hm
  have up : ¬ (!((s.atTime a.now).mspBegin ready).pathUp .msp) = true := by
    rw [hp]
    decide
  unfold opMspRead
  simp only [← Bool.decide_and, decide_eq_true_eq]
  rw [if_neg free, if_neg (by decide), if_neg up, hr]

end

theorem opMspFetch_none {v : State} (hv : v = s.mspBegin ready) (h : v.dict.mspRdy = false ∨ v.dict.mspResult = none) :
    opMspFetch true ready s = v.mspSend [0x0E, 0, 0] := by
  subst hv
  have none : (if (s.mspBegin ready).dict.mspRdy then (s.mspBegin ready).dict.mspResult else none) = none := by
    rcases h with h | h
    · exact if_neg (Bool.eq_false_iff.mp h)
    · rw [h, ite_self]
  have reply : (leBytes (3 + 0) (lePack [(1, 0x0E), (2, 0), (0, 0)])).map (·.toNat) = [0x0E, 0, 0] := by decide
  unfold opMspFetch
  dsimp only
  rw [none, if_neg (by decide)]
  exact congrArg (State.mspSend _) reply

theorem opMspFetch_some {v : State} (hv : v = s.mspBegin ready) (h : v.dict.mspRdy = true) (hr : v.dict.mspResult = some (c, len, x)) :
    opMspFetch true ready s = v.mspSend ((leBytes (3 + len) (lePack [(1, c), (2, len), (len, x)])).map (·.toNat)) := by
  subst hv
  have some : (if (s.mspBegin ready).dict.mspRdy then (s.mspBegin ready).dict.mspResult else none) = some (c, len, x) := (if_pos h).trans hr
  unfold opMspFetch
  dsimp only
  rw [some, if_neg (by decide)]

end

end Sys2Proof.Proofs
end

section
/-!
PROOFS. PCIe, Esxia and the configuration store (20_object_dictionary.md): R438–R444; and the obligation on the access paths.
-/
namespace Sys2Proof.Proofs
open Sys2Proof Sys2Proof.Machine

/-! ## PCIe reads (R438) -/

section
variable {s t : State} {a : Acc} {off w idx sub k x c : Nat} {late : Bool}

/-- A request of the host over the PCIe window (R438). -/
def hostAcc (a : Acc) : Acc := { a with path := .pcie, session := none, env := false }

theorem opBarRead_down (h : (s.atTime a.now).dict.pcieUp = false) : opBarRead a off w late s = s.atTime a.now := by
  unfold opBarRead
  exact if_pos (by rw [h]; rfl)

section
variable (h : (s.atTime a.now).dict.pcieUp = true)
include h

theorem bar_up : ¬ (!(s.atTime a.now).dict.pcieUp) = true := by
  rw [h]
  decide

theorem opBarRead_noAgent (hg : (s.atTime a.now).agentUp = false) : opBarRead a off w late s = (s.atTime a.now).barFail 0x0E w := by
  unfold opBarRead
  exact (if_neg (bar_up h)).trans (if_pos (by rw [hg]; rfl))

variable (hg : (s.atTime a.now).agentUp = true)
include hg

omit h in
theorem agent_up : ¬ (!(s.atTime a.now).agentUp) = true := by
  rw [hg]
  decide

variable (hi : idx = off / 2048)
include hi

theorem opBarRead_misaligned (hx : indexExists idx = true) (ho : off % 8 ≠ 0) : opBarRead a off w late s = (s.atTime a.now).barFail 0x02 w := by
  subst hi
  unfold opBarRead
  exact (if_neg (bar_up h)).trans ((if_neg (agent_up hg)).trans (if_pos (Bool.and_eq_true_iff.mpr ⟨hx, bne_iff_ne.mpr ho⟩)))

variable (hs : sub = off % 2048 / 8) (ho : indexExists idx = false ∨ off % 8 = 0)
include hs ho

omit h hg hi hs in
theorem bar_aligned : ¬ (indexExists idx && off % 8 != 0) = true := by
  rcases ho with ho | ho <;> rw [ho]
  · exact Bool.false_ne_true
  · rw [bne_self_eq_false, Bool.and_false]
    exact Bool.false_ne_true

theorem opBarRead_checks : opBarRead a off w late s =
    (match (s.atTime a.now).firstChecks (hostAcc a) ⟨.host, false⟩ idx sub 0 false with
    | 0 =>
      if !barWidthOk idx sub w then ((s.atTime a.now).arrive (hostAcc a)).barFail 0x07 w
      else
        let (s, c, v) := (s.atTime a.now).accessRead (hostAcc a) idx sub
        if late then s.barFail 0x0E w
        else if c != 0 then s.barFail c w
        else
          let s := { s with dict := { s.dict with pcieData := v } }
          s.onPath .pcie (fun p => { p with code := 0, value := v })
    | c => ((s.atTime a.now).arrive (hostAcc a)).barFail c w) := by
  subst hi hs
  unfold opBarRead
  exact (if_neg (bar_up h)).trans ((if_neg (agent_up hg)).trans (if_neg (bar_aligned ho)))

theorem opBarRead_refused (hc : (s.atTime a.now).firstChecks (hostAcc a) ⟨.host, false⟩ idx sub 0 false = k) (hk : k ≠ 0) :
    opBarRead a off w late s = ((s.atTime a.now).arrive (hostAcc a)).barFail k w := by
  rw [opBarRead_checks h hg hi hs ho, hc]
  split
  · exact absurd rfl hk
  · rfl

variable (hc : (s.atTime a.now).firstChecks (hostAcc a) ⟨.host, false⟩ idx sub 0 false = 0)
include hc

theorem opBarRead_width (hw : barWidthOk idx sub w = false) :
    opBarRead a off w late s = ((s.atTime a.now).arrive (hostAcc a)).barFail 0x07 w := by
  rw [opBarRead_checks h hg hi hs ho, hc]
  exact if_pos (by rw [hw]; rfl)

theorem opBarRead_reads (hw : barWidthOk idx sub w = true) (hr : (s.atTime a.now).accessRead (hostAcc a) idx sub = (t, k, x)) :
    opBarRead a off w late s = if late then t.barFail 0x0E w else if k != 0 then t.barFail k w
      else ({ t with dict := { t.dict with pcieData := x } } : State).onPath .pcie (fun p => { p with code := 0, value := x }) := by
  have wide : ¬ (!barWidthOk idx sub w) = true := by
    rw [hw]
    decide
  rw [opBarRead_checks h hg hi hs ho, hc]
  dsimp only
  rw [if_neg wide, hr] <;> rfl

end

/-! ## PCIe writes and the aperture (R438, R439) -/

theorem opBarWrite_down (h : (s.atTime a.now).pathUp .pcie = false) : opBarWrite a off w x s = s.atTime a.now := by
  unfold opBarWrite
  exact if_pos (by rw [h]; rfl)

section
variable {b : Acc} (h : (s.atTime a.now).pathUp .pcie = true) (hi : idx = off / 2048) (hs : sub = off % 2048 / 8)
  (hb : b = { hostAcc a with len := barLen idx sub w })
include h hi hs hb

omit hi hs hb in
theorem pcie_up : ¬ (!(s.atTime a.now).pathUp .pcie) = true := by
  rw [h]
  decide

theorem opBarWrite_misaligned (hx : indexExists idx = true) (ho : off % 8 ≠ 0)
    (hr : ((s.atTime a.now).arrive b).refuseWrite b ⟨.host, false⟩ idx sub x 0x02 = (t, c)) :
    opBarWrite a off w x s = { t with dict := { t.dict with pcieLastError := (idx, sub, c) } } := by
  have odd : (indexExists idx && off % 8 != 0) = true := Bool.and_eq_true_iff.mpr ⟨hx, bne_iff_ne.mpr ho⟩
  subst hb hi hs
  unfold hostAcc at hr
  unfold opBarWrite
  dsimp only
  rw [if_neg (pcie_up h), if_pos odd, hr]

variable (ho : indexExists idx = false ∨ off % 8 = 0)
include ho

theorem opBarWrite_aligned : opBarWrite a off w x s =
    if findObj idx sub = none || barWidthOk idx sub w then (s.atTime a.now).runWrite b idx sub x else (s.atTime a.now).runWrite { b with len := 0 } idx sub x := by
  subst hb hi hs
  unfold opBarWrite
  exact (if_neg (pcie_up h)).trans (if_neg (bar_aligned ho))

theorem opBarWrite_writes (hw : findObj idx sub = none ∨ barWidthOk idx sub w = true) :
    opBarWrite a off w x s = (s.atTime a.now).runWrite b idx sub x :=
  (opBarWrite_aligned h hi hs hb ho).trans (if_pos (by simpa using hw))

theorem opBarWrite_width (hf : findObj idx sub ≠ none) (hw : barWidthOk idx sub w = false) :
    opBarWrite a off w x s = (s.atTime a.now).runWrite { b with len := 0 } idx sub x :=
  (opBarWrite_aligned h hi hs hb ho).trans (if_neg (by simp [hf, hw]))

end
end

section
variable {s : State} {wr : Bool} {off len x : Nat}

theorem opBar4_down (h : s.dict.pcieUp = false) : opBar4 wr off len x s = s := by
  unfold opBar4
  exact if_pos (by rw [h]; rfl)

section
variable (h : s.dict.pcieUp = true)
include h

theorem link_up : ¬ (!s.dict.pcieUp) = true := by
  rw [h]
  decide

theorem opBar4_refuses (hr : s.tackHostAccess = false ∨ s.paddockSize * 1048576 < off + len) : opBar4 wr off len x s =
    { s with dict := { s.dict with apertureRefused := bump s.dict.apertureRefused, pcieData := if wr then s.dict.pcieData else allOnes len } } := by
  unfold opBar4
  exact (if_neg (link_up h)).trans (if_pos (by simpa using hr))

variable (ha : s.tackHostAccess = true) (hb : off + len ≤ s.paddockSize * 1048576)
include ha hb

omit h in
theorem aperture_open : ¬ (!s.tackHostAccess || decide (s.paddockSize * 1048576 < off + len)) = true := by
  rw [ha, decide_eq_false (Nat.not_lt.mpr hb)]
  decide

theorem opBar4_noMemory (hm : s.start.paddockWipe = true ∨ s.start.dramStatus ≠ 2) :
    opBar4 wr off len x s = if wr then s else { s with dict := { s.dict with pcieData := allOnes len } } := by
  unfold opBar4
  refine (if_neg (link_up h)).trans ((if_neg (aperture_open ha hb)).trans (if_pos ?_))
  rw [Bool.or_eq_true, bne_iff_ne]
  exact hm

theorem opBar4_accesses (hp : s.start.paddockWipe = false) (hd : s.start.dramStatus = 2) : opBar4 wr off len x s =
    if wr then { s with engs := { s.engs with dram := memWrite s.engs.dram (s.paddockBase + off) (leBytes len x) } }
    else { s with dict := { s.dict with pcieData := leNat (memRead s.engs.dram (s.paddockBase + off) len) } } := by
  unfold opBar4
  exact (if_neg (link_up h)).trans ((if_neg (aperture_open ha hb)).trans (if_neg (by rw [hp, hd]; decide)))

end

/-! ## The DMA channel and the link (R438, R439) -/

theorem opDmaDone_none (h : s.dict.dma = none) : opDmaDone s = s := by
  unfold opDmaDone
  exact if_neg (by rw [h]; decide)

theorem opDmaDone_ends (h : s.dict.dma ≠ none) : opDmaDone s =
    ({ s with dict := { s.dict with dma := none, dmaStatus := 2, msix := (s.dict.msix.1, bump s.dict.msix.2.1, s.dict.msix.2.2) } } : State).attn 3 := by
  unfold opDmaDone
  exact if_pos (Option.isSome_iff_ne_none.mpr h)

theorem opPcieUp_held (h : s.start.porHeld = true) : opPcieUp s = s := by
  unfold opPcieUp
  exact if_pos h

theorem opPcieUp_up (h : s.start.porHeld = false) :
    opPcieUp s = (({ s with dict := { s.dict with pcieUp := true } } : State).setGroup 10 1).clearFault 0x000A := by
  unfold opPcieUp
  exact if_neg (Bool.eq_false_iff.mp h)

/-! ## Esxia (R441–R443) -/

section
variable {t v : State} {a : Acc} {e : Envelope} {ok : Bool} {tag c : Nat}

/-- A request over Esxia (R441). -/
def esxiaAcc (a : Acc) : Acc := { a with path := .esxia, session := none, env := false }

theorem esxia_dropped (h : (s.atTime a.now).esxiaIn (esxiaAcc a) ok = (t, false)) : opEsxiaPlain a tag e ok s = t ∧ opEsxiaSealed a tag e ok s = t := by
  unfold opEsxiaPlain opEsxiaSealed
  unfold esxiaAcc at h
  dsimp only
  rw [h]
  exact ⟨rfl, rfl⟩

section
variable (h : (s.atTime a.now).esxiaIn (esxiaAcc a) ok = (t, true))
include h

theorem opEsxiaPlain_answers (hr : t.execBody (esxiaAcc a) (takenOn .esxia e) = (v, c, len, x)) :
    opEsxiaPlain a tag e ok s = v.esxiaReply (esxiaAcc a) tag c (responseBody .esxia (answerWidths e) c len x) := by
  unfold opEsxiaPlain
  unfold esxiaAcc at h hr
  dsimp only
  rw [h]
  dsimp only
  rw [hr]
  rfl

theorem opEsxiaSealed_answers {r : Nat × Nat} (hr : t.sealedIn (esxiaAcc a) e false = (v, 0, some r)) :
    opEsxiaSealed a tag e ok s = v.esxiaReply (esxiaAcc a) tag r.1 r.2 := by
  unfold opEsxiaSealed
  unfold esxiaAcc at h hr
  dsimp only
  rw [h]
  dsimp only
  rw [hr]
  rfl

theorem opEsxiaSealed_ended (hr : t.sealedIn (esxiaAcc a) e false = (v, 0, none)) :
    opEsxiaSealed a tag e ok s = if e.op = 2 ∧ e.idx = 0x1E30 then v.esxiaReply (esxiaAcc a) tag 0 (responseBody .esxia [] 0 0 0) else v := by
  unfold opEsxiaSealed
  unfold esxiaAcc at h hr
  dsimp only
  rw [h]
  dsimp only
  rw [hr]
  simp only [← Bool.decide_and, decide_eq_true_eq]
  rfl

theorem opEsxiaSealed_refused {o : Option (Nat × Nat)} (hr : t.sealedIn (esxiaAcc a) e false = (v, c, o)) (hc : c ≠ 0) :
    opEsxiaSealed a tag e ok s = v.esxiaReply (esxiaAcc a) tag c (responseBody .esxia [] c 0 0) := by
  unfold opEsxiaSealed
  unfold esxiaAcc at h hr
  dsimp only
  rw [h]
  dsimp only
  rw [hr]
  obtain ⟨d, rfl⟩ := Nat.exists_eq_succ_of_ne_zero hc
  cases o with
  | none => rfl
  | some r => rfl

end
end

/-! ## The configuration store (R444) -/

theorem opStoreDone_none {ok : Bool} (h : s.dict.saving = none) : opStoreDone ok s = s := by
  unfold opStoreDone
  rw [h]

/-- The store that a save leaves is one generation newer (R444). -/
def savedAs (s : State) (l : List (Nat × Nat)) : Nat × List (Nat × Nat) :=
  match s.dict.saved with
  | some y => (y.1 + 1, l)
  | none => (1, l)

theorem opStoreDone_some {ok : Bool} {l : List (Nat × Nat)} (h : s.dict.saving = some l) : opStoreDone ok s =
    if ok then { s with dict := { s.dict with saving := none, saved := some (savedAs s l), savedBad := false } }
    else { s with dict := { s.dict with saving := none } } := by
  unfold opStoreDone savedAs
  rw [h]
  cases s.dict.saved with
  | none => rfl
  | some y => rfl

end

/-- Settles O57, by the equation of each access in each of its cases. -/
theorem accessPaths : Obligations.AccessPaths := by
  unfold Obligations.AccessPaths
  intro s t v a b e slow ready ok late wr now c idx sub x k len tag off w stage l r u ua m mp host esx
  refine ⟨fun h => ⟨congrArg Host.Outcome.next (opSealReq_down h), congrArg Host.Outcome.next (opSealResp_down h)⟩,
    fun h => ⟨fun hc hr => congrArg Host.Outcome.next (opSealReq_up h ((sealReq_checked hc).trans hr)),
      fun hc hk hr => congrArg Host.Outcome.next (opSealReq_up h ((sealReq_refused hc hk).trans hr)), fun hr => congrArg Host.Outcome.next (opSealResp_up h hr)⟩,
    envelopeIn_direction, judgeIn_repeat,
    fun h => congrArg Host.Outcome.next (opMbSubmit_down h),
    fun h => ⟨fun hl => congrArg Host.Outcome.next (opMbSubmit_length h hl), fun h20 hl hr => congrArg Host.Outcome.next (opMbSubmit_submits h h20 hl hr)⟩,
    fun h => congrArg Host.Outcome.next (opCanSdo_off h), fun h hb => ?can,
    fun h => ⟨fun ht => congrArg Host.Outcome.next ((opCanTimeout_on h).trans (if_pos ht)),
      fun ht => congrArg Host.Outcome.next ((opCanTimeout_on h).trans (if_neg (Bool.eq_false_iff.mp ht))), congrArg Host.Outcome.next (opCanNmt_on h),
      fun hh => congrArg Host.Outcome.next (opCanHeartbeat_sends h hh), fun hh => congrArg Host.Outcome.next (opCanHeartbeat_silent hh),
      congrArg Host.Outcome.next (opCanBusOff_on h)⟩,
    fun h => ?canOff,
    fun h => congrArg Host.Outcome.next (opCanRecovery_recovers h), fun h => congrArg Host.Outcome.next (opCanRecovery_not h),
    fun h => ?busy, fun h => ?management, fun hv => ?fetch,
    fun h => congrArg Host.Outcome.next (opBarRead_down h), fun h hi hs => ?barRead,
    fun h => congrArg Host.Outcome.next (opBarWrite_down h), fun h hi hs hb => ?barWrite,
    fun h => congrArg Host.Outcome.next (opBar4_down h), fun h hr => congrArg Host.Outcome.next (opBar4_refuses h hr),
    fun h ha hb => ?aperture,
    fun h => congrArg Host.Outcome.next (opDmaDone_none h), fun h => congrArg Host.Outcome.next (opDmaDone_ends h),
    fun h => congrArg Host.Outcome.next (opPcieUp_held h), fun h => congrArg Host.Outcome.next (opPcieUp_up h), rfl,
    fun h => ?esxiaDropped, fun h => ?esxia,
    fun h => congrArg Host.Outcome.next (opStoreDone_none h), fun h => ?store⟩
  case can =>
    subst hb
    exact ⟨fun ht => ⟨congrArg Host.Outcome.next ((opCanSdo_begin h).trans (if_pos ht)), fun hs => congrArg Host.Outcome.next (opCanSdo_order h ht hs),
      fun hp => congrArg Host.Outcome.next (opCanSdo_down h ht hp), fun hp hw => congrArg Host.Outcome.next (opCanSdo_writes h ht hp hw),
      fun hp hr => congrArg Host.Outcome.next (opCanSdo_reads h ht hp hr)⟩,
      fun ht => ⟨congrArg Host.Outcome.next ((opCanSdo_begin h).trans (if_neg (Bool.eq_false_iff.mp ht))),
        fun hs => congrArg Host.Outcome.next (opCanSdo_stray h ht hs)⟩⟩
  case canOff =>
    obtain ⟨timeout, nmt, heartbeat, busOff⟩ := can_off h
    simp only [List.mem_cons, List.not_mem_nil, or_false]
    rintro i (rfl | rfl | rfl | rfl)
    · exact congrArg Host.Outcome.next timeout
    · exact congrArg Host.Outcome.next nmt
    · exact congrArg Host.Outcome.next heartbeat
    · exact congrArg Host.Outcome.next busOff
  case busy =>
    obtain ⟨write, read⟩ := msp_busy (s := s) (a := a) (ok := ok) (slow := slow) (idx := idx) (sub := sub) (x := x) rfl h
    simp only [List.mem_cons, List.not_mem_nil, or_false]
    rintro i (rfl | rfl)
    · exact congrArg Host.Outcome.next write
    · exact congrArg Host.Outcome.next read
  case management =>
    refine ⟨?bad, fun hp => ?down, fun hp hw => congrArg Host.Outcome.next (opMspWrite_answers rfl h hp hw),
      fun hp hr => congrArg Host.Outcome.next (opMspRead_answers rfl h hp hr)⟩
    case bad =>
      obtain ⟨write, read⟩ := msp_checkByte (s := s) (a := a) (slow := slow) (idx := idx) (sub := sub) (x := x) rfl h
      simp only [List.mem_cons, List.not_mem_nil, or_false]
      rintro i (rfl | rfl)
      · exact congrArg Host.Outcome.next write
      · exact congrArg Host.Outcome.next read
    case down =>
      obtain ⟨write, read⟩ := msp_down (s := s) (a := a) (slow := slow) (idx := idx) (sub := sub) (x := x) rfl h hp
      exact ⟨congrArg Host.Outcome.next write, congrArg Host.Outcome.next read⟩
  case fetch =>
    refine ⟨fun h => congrArg Host.Outcome.next (opMspFetch_none hv h), fun h hr => congrArg Host.Outcome.next (opMspFetch_some hv h hr), ?_⟩
    subst hv
    exact ⟨rfl, rfl, rfl⟩
  case barRead =>
    exact ⟨fun hg => congrArg Host.Outcome.next (opBarRead_noAgent h hg), fun hg hx ho => congrArg Host.Outcome.next (opBarRead_misaligned h hg hi hx ho),
      fun hg ho => ⟨fun hc hk => congrArg Host.Outcome.next (opBarRead_refused h hg hi hs ho hc hk),
        fun hc => ⟨fun hw => congrArg Host.Outcome.next (opBarRead_width h hg hi hs ho hc hw), fun hw hr =>
          ⟨congrArg Host.Outcome.next ((opBarRead_reads h hg hi hs ho hc hw hr).trans (if_pos rfl)),
            fun hk => congrArg Host.Outcome.next ((opBarRead_reads h hg hi hs ho hc hw hr).trans ((if_neg Bool.false_ne_true).trans (if_pos (bne_iff_ne.mpr hk)))),
            fun hk => congrArg Host.Outcome.next ((opBarRead_reads h hg hi hs ho hc hw hr).trans ((if_neg Bool.false_ne_true).trans (if_neg (not_bne hk))))⟩⟩⟩⟩
  case barWrite =>
    exact ⟨fun hx ho hr => congrArg Host.Outcome.next (opBarWrite_misaligned h hi hs hb hx ho hr),
      fun ho => ⟨fun hw => congrArg Host.Outcome.next (opBarWrite_writes h hi hs hb ho hw), fun hf hw => congrArg Host.Outcome.next (opBarWrite_width h hi hs hb ho hf hw)⟩⟩
  case aperture =>
    exact ⟨fun hm => ⟨congrArg Host.Outcome.next ((opBar4_noMemory h ha hb hm).trans (if_pos rfl)),
        congrArg Host.Outcome.next ((opBar4_noMemory h ha hb hm).trans (if_neg Bool.false_ne_true))⟩,
      fun hp hd => ⟨congrArg Host.Outcome.next ((opBar4_accesses h ha hb hp hd).trans (if_pos rfl)),
        congrArg Host.Outcome.next ((opBar4_accesses h ha hb hp hd).trans (if_neg Bool.false_ne_true))⟩⟩
  case esxiaDropped =>
    obtain ⟨plain, sealed⟩ := esxia_dropped (tag := tag) (e := e) h
    exact ⟨congrArg Host.Outcome.next plain, congrArg Host.Outcome.next sealed⟩
  case esxia =>
    exact ⟨fun hr => congrArg Host.Outcome.next (opEsxiaPlain_answers h hr), fun hr => congrArg Host.Outcome.next (opEsxiaSealed_answers h hr),
      fun hr => congrArg Host.Outcome.next (opEsxiaSealed_ended h hr), fun o hr hc => congrArg Host.Outcome.next (opEsxiaSealed_refused h hr hc)⟩
  case store =>
    exact ⟨congrArg Host.Outcome.next ((opStoreDone_some h).trans (if_neg Bool.false_ne_true)), congrArg Host.Outcome.next ((opStoreDone_some h).trans (if_pos rfl))⟩

end Sys2Proof.Proofs
end

section
/-!
PROOFS. Messages of the redundant pair (21_redundancy.md): R450, R456, R459–R468.
-/
namespace Sys2Proof.Proofs
open Sys2Proof Sys2Proof.Machine

theorem clearFault_pair (s : State) (code inst : Nat) : (s.clearFault code inst).pair = s.pair := by
  have reports := Reports.clearFault s code inst
  unfold Reports at reports
  rw [reports]

/-! ## Sealed messages (R459) -/

section
variable {s t v : State} {pseq : Nat} {x : Bool}

theorem peerIn_unsealed (h : s.pair.keys = false ∨ x = false) : s.peerIn pseq x = (s.pairCount 4, false) := by
  unfold State.peerIn
  exact if_pos (by simpa using h)

section
variable (hk : s.pair.keys = true)
include hk

theorem sealed_in : ¬ (!s.pair.keys || !true) = true := by
  rw [hk]
  decide

theorem peerIn_again (h : ∃ q, s.pair.pseqIn = some q ∧ pseq ≤ q) : s.peerIn pseq true = (s, false) := by
  obtain ⟨q, last, again⟩ := h
  unfold State.peerIn
  refine (if_neg (sealed_in hk)).trans (if_pos ?_)
  rw [last]
  exact decide_eq_true again

theorem peerIn_next (h : ∀ q, s.pair.pseqIn = some q → q < pseq) :
    s.peerIn pseq true = ({ s with pair := { s.pair with pseqIn := some pseq } }, true) := by
  unfold State.peerIn
  refine (if_neg (sealed_in hk)).trans (if_neg ?_)
  rw [Option.any_eq_true_iff_get]
  rintro ⟨some, again⟩
  exact Nat.not_le.mpr (h _ (Option.some_get some).symm) (of_decide_eq_true again)

end

/-- A message that is not taken does nothing more (R459). -/
theorem messages_untaken (h : s.peerIn pseq x = (t, false)) (c : Claim) (n epoch girth kind base count total digest th cause : Nat)
    (fit al cfg full back : Bool) (i j : Int) (sec : SnapSection) :
    opRenew pseq x c s = t ∧ opPairStatus pseq x n fit al girth epoch cfg full back s = t ∧ opMarker pseq x i j s = t ∧ opSnapSection pseq x sec s = t ∧
    opSnapTrailer pseq x epoch kind base count total digest s = t ∧ opHandoffPropose pseq x th cause s = t ∧ opHandoffAccept pseq x s = t ∧
    opHandoffCommit pseq x s = t ∧ opHandoffCancel pseq x s = t ∧ opRelease pseq x s = t := by
  unfold opRenew opPairStatus opMarker opSnapSection opSnapTrailer opHandoffPropose opHandoffAccept opHandoffCommit opHandoffCancel opRelease
  rw [h]
  exact ⟨rfl, rfl, rfl, rfl, rfl, rfl, rfl, rfl, rfl, rfl⟩

section
variable (h : s.peerIn pseq x = (t, true))
include h

/-! ## RENEW and STATUS (R450, R460) -/

theorem opRenew_takes {c : Claim} (hv : v = ({ t with pair := { t.pair with silL := t.tb.lc, release := none } } : State)) :
    opRenew pseq x c s = ((v.putClaim 17 { c with auth := true, rx := v.tb.lc }).clearFault 0x1205).heard := by
  subst hv
  unfold opRenew
  rw [h]

/-- The state of a part that has read a STATUS (R460). -/
def statusRead (t : State) (n : Nat) (fit al : Bool) (girth epoch : Nat) (cfg full : Bool) : State :=
  { t with pair := { t.pair with
      peer := t.pair.peer.map (fun p => { p with state := n, fit := fit, aligned := al, girth := girth, epoch := epoch, configMatch := cfg }),
      configMatch := if t.pair.lease then cfg else t.pair.configMatch, fullDue := t.pair.fullDue || full } }

section
variable {n girth epoch : Nat} {fit al cfg full back : Bool}

theorem opPairStatus_reads : opPairStatus pseq x n fit al girth epoch cfg full back s =
    (let v := statusRead t n fit al girth epoch cfg full
     let v := if v.pair.lease then v.clearFault 0x1205 else v
     if back && v.pair.lease && v.pair.handoff.isNone then v.propose 4 else v) := by
  unfold opPairStatus
  rw [h]
  rfl

theorem opPairStatus_standby (hl : t.pair.lease = false) :
    opPairStatus pseq x n fit al girth epoch cfg full back s = statusRead t n fit al girth epoch cfg full := by
  have lease : (statusRead t n fit al girth epoch cfg full).pair.lease = false := hl
  refine (opPairStatus_reads h).trans ?_
  dsimp only
  rw [lease, if_neg Bool.false_ne_true, lease, Bool.and_false]
  rfl

theorem opPairStatus_holder (hl : t.pair.lease = true) :
    let v := statusRead t n fit al girth epoch cfg full
    opPairStatus pseq x n fit al girth epoch cfg full back s =
      if back ∧ (v.clearFault 0x1205).pair.handoff = none then (v.clearFault 0x1205).propose 4 else v.clearFault 0x1205 := by
  intro v
  have lease : v.pair.lease = true := hl
  have cleared : (v.clearFault 0x1205).pair.lease = true := (congrArg Pair.lease (clearFault_pair v 0x1205 noInst)).trans hl
  refine (opPairStatus_reads h).trans ?_
  show (let v := if v.pair.lease then v.clearFault 0x1205 else v
     if back && v.pair.lease && v.pair.handoff.isNone then v.propose 4 else v) = _
  rw [if_pos lease]
  dsimp only
  simp only [cleared, Bool.and_true, Bool.and_eq_true, Option.isNone_iff_eq_none]

end

/-! ## Markers (R461) -/

section
variable {i j a b : Int}

theorem opMarker_alone (hm : t.ownMarker = none ∨ t.net.peerActive = 0xFF) : opMarker pseq x i j s = t := by
  unfold opMarker
  rw [h]
  dsimp only
  split
  case h_1 y z eq =>
    rcases hm with hm | hm
    · exact absurd (eq.symm.trans hm) nofun
    · exact if_pos (beq_iff_eq.mpr hm)
  case h_2 => rfl

/-- The exchange of a marker, measured (R461). -/
def markerRead (t : State) (a b i j : Int) : State :=
  let l := newest 16 (rdiv ((b - i) - (j - a)) 2 :: t.pair.thetas)
  { t with pair := { t.pair with theta := rdiv ((b - i) - (j - a)) 2, delta := rdiv ((b - i) + (j - a)) 2, thetas := l, thetaT := some t.tb.lc, sigma := thetaSigma l } }

theorem opMarker_measures (hm : t.ownMarker = some (a, b)) (ha : t.net.peerActive ≠ 0xFF) : opMarker pseq x i j s =
    (let v := markerRead t a b i j
     (if v.servo.suspended || !v.pair.following then v
      else (if v.switchingNow then v.endBuildOut (some (-v.pair.theta)) else v.followPeer v.tb.lc).recalc).judge) := by
  unfold opMarker
  rw [h]
  dsimp only
  rw [hm]
  exact if_neg (fun same => ha (eq_of_beq same))

theorem opMarker_waits (hm : t.ownMarker = some (a, b)) (ha : t.net.peerActive ≠ 0xFF) (hv : v = markerRead t a b i j)
    (hf : v.servo.suspended = true ∨ v.pair.following = false) : opMarker pseq x i j s = v.judge := by
  subst hv
  refine (opMarker_measures h hm ha).trans (congrArg State.judge (if_pos ?_))
  simpa using hf

theorem opMarker_follows (hm : t.ownMarker = some (a, b)) (ha : t.net.peerActive ≠ 0xFF) (hv : v = markerRead t a b i j)
    (hs : v.servo.suspended = false) (hf : v.pair.following = true) :
    opMarker pseq x i j s = (if v.switchingNow then v.endBuildOut (some (-v.pair.theta)) else v.followPeer v.tb.lc).recalc.judge := by
  subst hv
  refine (opMarker_measures h hm ha).trans (congrArg State.judge (if_neg ?_))
  rw [hs, hf]
  decide

end

/-! ## Snapshots (R462) -/

section
variable {epoch kind base count total digest cause : Nat} {sec : SnapSection}

theorem opSnapSection_standby (hl : t.pair.lease = false) :
    opSnapSection pseq x sec s = { t with pair := { t.pair with snapBuf := t.pair.snapBuf ++ [sec] } } := by
  unfold opSnapSection
  rw [h]
  exact if_neg (Bool.eq_false_iff.mp hl)

/-- A holder takes no snapshot and no release. -/
theorem snapshots_holder (hl : t.pair.lease = true) :
    opSnapSection pseq x sec s = t ∧ opSnapTrailer pseq x epoch kind base count total digest s = t ∧ opRelease pseq x s = t := by
  unfold opSnapSection opSnapTrailer opRelease
  rw [h]
  exact ⟨if_pos hl, if_pos hl, if_pos hl⟩

theorem opRelease_standby (hl : t.pair.lease = false) : opRelease pseq x s = { t with pair := { t.pair with release := some t.tb.lc } } := by
  unfold opRelease
  rw [h]
  exact if_neg (Bool.eq_false_iff.mp hl)

/-- The sections of an epoch are whole (R462). -/
def snapWhole (l : List SnapSection) (count total digest : Nat) : Prop :=
  l.length = count ∧ (l.map (·.len)).sum = total ∧ Config.sha384 (l.map (·.content)) = digest

omit h in
theorem snapWhole_iff {l : List SnapSection} : ¬ snapWhole l count total digest ↔
    (!(l.length == count && (l.map (·.len)).sum == total && Config.sha384 (l.map (·.content)) == digest)) = true := by
  unfold snapWhole
  rw [Bool.not_eq_true', ← Bool.not_eq_true, Bool.and_eq_true, Bool.and_eq_true, beq_iff_eq, beq_iff_eq, beq_iff_eq, and_assoc]

section
variable (hl : t.pair.lease = false)
include hl

theorem opSnapTrailer_standby : opSnapTrailer pseq x epoch kind base count total digest s =
    (let l := t.pair.snapBuf.filter (·.epoch == epoch)
     let d : State := { t with pair := { t.pair with snapBuf := [] } }
     if !(l.length == count && (l.map (·.len)).sum == total && Config.sha384 (l.map (·.content)) == digest) then d
     else if kind == 1 || kind == 2 && (t.pair.snapTime.isSome && base == t.pair.snapEpoch) then
       let s := l.foldl (fun s x => s.applySection (kind == 1) x) d
       ({ s with pair := { s.pair with snapEpoch := epoch, snapTime := some s.tb.lc } } : State).ptpOver.judge
     else if kind == 2 then d.statusSend 1
     else d) := by
  unfold opSnapTrailer
  rw [h]
  exact if_neg (Bool.eq_false_iff.mp hl)

theorem opSnapTrailer_torn (hw : ¬ snapWhole (t.pair.snapBuf.filter (·.epoch == epoch)) count total digest) :
    opSnapTrailer pseq x epoch kind base count total digest s = { t with pair := { t.pair with snapBuf := [] } } :=
  (opSnapTrailer_standby h hl).trans (if_pos (snapWhole_iff.mp hw))

variable (hw : snapWhole (t.pair.snapBuf.filter (·.epoch == epoch)) count total digest)
include hw

theorem opSnapTrailer_whole : opSnapTrailer pseq x epoch kind base count total digest s =
    (let l := t.pair.snapBuf.filter (·.epoch == epoch)
     let d : State := { t with pair := { t.pair with snapBuf := [] } }
     if kind == 1 || kind == 2 && (t.pair.snapTime.isSome && base == t.pair.snapEpoch) then
       let s := l.foldl (fun s x => s.applySection (kind == 1) x) d
       ({ s with pair := { s.pair with snapEpoch := epoch, snapTime := some s.tb.lc } } : State).ptpOver.judge
     else if kind == 2 then d.statusSend 1
     else d) :=
  (opSnapTrailer_standby h hl).trans (if_neg (mt snapWhole_iff.mpr (not_not.mpr hw)))

omit h hl hw in
theorem snapApplies_iff : (kind == 1 || kind == 2 && (t.pair.snapTime.isSome && base == t.pair.snapEpoch)) = true ↔
    kind = 1 ∨ (kind = 2 ∧ t.pair.snapTime ≠ none ∧ base = t.pair.snapEpoch) := by
  rw [Bool.or_eq_true, Bool.and_eq_true, Bool.and_eq_true, beq_iff_eq, beq_iff_eq, beq_iff_eq, Option.isSome_iff_ne_none]

theorem opSnapTrailer_applies (hk : kind = 1 ∨ (kind = 2 ∧ t.pair.snapTime ≠ none ∧ base = t.pair.snapEpoch))
    (hv : v = (t.pair.snapBuf.filter (·.epoch == epoch)).foldl (fun z k => z.applySection (kind == 1) k) { t with pair := { t.pair with snapBuf := [] } }) :
    opSnapTrailer pseq x epoch kind base count total digest s =
      ({ v with pair := { v.pair with snapEpoch := epoch, snapTime := some v.tb.lc } } : State).ptpOver.judge := by
  subst hv
  exact (opSnapTrailer_whole h hl hw).trans (if_pos (snapApplies_iff.mpr hk))

theorem opSnapTrailer_unbased (hk : kind = 2) (hb : ¬ (t.pair.snapTime ≠ none ∧ base = t.pair.snapEpoch)) :
    opSnapTrailer pseq x epoch kind base count total digest s = ({ t with pair := { t.pair with snapBuf := [] } } : State).statusSend 1 := by
  have other : ¬ (kind = 1 ∨ (kind = 2 ∧ t.pair.snapTime ≠ none ∧ base = t.pair.snapEpoch)) := by
    rintro (full | ⟨-, based⟩)
    · exact absurd (hk.symm.trans full) (by decide)
    · exact hb based
  exact (opSnapTrailer_whole h hl hw).trans ((if_neg (mt snapApplies_iff.mp other)).trans (if_pos (beq_iff_eq.mpr hk)))

theorem opSnapTrailer_unknown (h1 : kind ≠ 1) (h2 : kind ≠ 2) :
    opSnapTrailer pseq x epoch kind base count total digest s = { t with pair := { t.pair with snapBuf := [] } } := by
  have other : ¬ (kind = 1 ∨ (kind = 2 ∧ t.pair.snapTime ≠ none ∧ base = t.pair.snapEpoch)) := by
    rintro (full | ⟨diff, -⟩)
    · exact h1 full
    · exact h2 diff
  exact (opSnapTrailer_whole h hl hw).trans ((if_neg (mt snapApplies_iff.mp other)).trans (if_neg (fun diff => h2 (eq_of_beq diff))))

end
end

/-! ## Handoff messages (R463–R465) -/

section
variable {th cause : Nat} {k : Handoff}

theorem opHandoffPropose_holder (hl : t.pair.lease = true) : opHandoffPropose pseq x th cause s = t := by
  unfold opHandoffPropose
  rw [h]
  exact if_pos hl

/-- The standby accepts a handoff that is proposed (R463). -/
def handoffFits (t : State) (th : Nat) : Prop := t.judge.pair.state = .ready ∧ t.pair.fit = true ∧ t.handoffOwn th = true

omit h in
theorem handoffFits_iff : handoffFits t th ↔ (t.judge.pair.state == .ready && t.pair.fit && t.handoffOwn th) = true := by
  unfold handoffFits
  rw [Bool.and_eq_true, Bool.and_eq_true, beq_iff_eq, and_assoc]

section
variable (hl : t.pair.lease = false)
include hl

theorem opHandoffPropose_accepts (hf : handoffFits t th) : opHandoffPropose pseq x th cause s =
    ({ t with pair := { t.pair with handoff := some ⟨false, th, cause, true, false, false, false, false, 0⟩, state := .handoff, readySince := none } } : State).peerSend 7
      [2, th, cause] := by
  unfold opHandoffPropose
  rw [h]
  exact (if_neg (Bool.eq_false_iff.mp hl)).trans (if_pos (handoffFits_iff.mp hf))

theorem opHandoffPropose_rejects (hf : ¬ handoffFits t th) : opHandoffPropose pseq x th cause s = t.raise 0x120B := by
  unfold opHandoffPropose
  rw [h]
  exact (if_neg (Bool.eq_false_iff.mp hl)).trans (if_neg (mt handoffFits_iff.mpr hf))

end

theorem opHandoffAccept_accepts (hl : t.pair.lease = true) (hk : t.pair.handoff = some k) (hr : k.releaser = true) (ha : k.accepted = false)
    (hv : v = t.onHandoff (fun h => { h with accepted := true })) :
    opHandoffAccept pseq x s = ({ v with pair := { v.pair with state := .handoff } } : State).regate := by
  subst hv
  unfold opHandoffAccept
  rw [h]
  refine if_pos ?_
  rw [hl, hk, Option.any_some, hr, ha]
  rfl

theorem opHandoffAccept_not (hk : t.pair.lease = false ∨ ∀ k, t.pair.handoff = some k → k.releaser = false ∨ k.accepted = true) :
    opHandoffAccept pseq x s = t := by
  unfold opHandoffAccept
  rw [h]
  refine if_neg ?_
  rcases hk with hk | hk
  · rw [hk]
    exact Bool.false_ne_true
  · cases ho : t.pair.handoff with
    | none =>
      rw [Option.any_none, Bool.and_false]
      exact Bool.false_ne_true
    | some k =>
      rw [Option.any_some]
      rcases hk k ho with hk | hk <;> simp [hk]

theorem opHandoffCommit_takes : opHandoffCommit pseq x s = if t.receiving then t.onHandoff (fun h => { h with committed := true }) else t := by
  unfold opHandoffCommit
  rw [h]

theorem opHandoffCancel_takes : opHandoffCancel pseq x s =
    if t.releasing then t.cancelOut else if t.receiving then t.onHandoff (fun h => { h with cancelled := true }) else t := by
  unfold opHandoffCancel
  rw [h]

end
end
end

end Sys2Proof.Proofs
end

section
/-!
PROOFS. The lease, claims and handoffs of the redundant pair (21_redundancy.md): R446, R448–R454, R458, R463–R470, R544; and the obligation on the pair.
-/
namespace Sys2Proof.Proofs
open Sys2Proof Sys2Proof.Machine

section
variable {s t v : State}

/-! ## The lease (R448–R451) -/

section
variable {pass low back high y : Bool}

theorem opQuarterTick_unpaired (h : s.takePair.pairEnable = false) : opQuarterTick pass low back high y s = s.takePair := by
  unfold opQuarterTick
  exact if_pos (by rw [h]; rfl)

section
variable (h : s.takePair.pairEnable = true)
include h

theorem pair_enabled : ¬ (!s.takePair.pairEnable) = true := by
  rw [h]
  decide

theorem opQuarterTick_unfed (hl : s.takePair.pair.lease = true) (hf : pass = false ∨ s.takePair.sc0Runs = false) :
    opQuarterTick pass low back high y s = s.takePair.handoffEpoch := by
  unfold opQuarterTick
  refine (if_neg (pair_enabled h)).trans ((if_pos hl).trans (if_neg ?_))
  rw [Bool.and_eq_true]
  rintro ⟨passed, runs⟩
  exact hf.elim (fun no => absurd (no.symm.trans passed) nofun) (fun no => absurd (no.symm.trans runs) nofun)

theorem opQuarterTick_fed (hl : s.takePair.pair.lease = true) (hp : pass = true) (hr : s.takePair.sc0Runs = true)
    (hv : v = s.takePair.sampleWires high y) : opQuarterTick pass low back high y s = State.handoffEpoch (if low && back && high && y then v.renewed
      else (({ v with pair := { v.pair with renewFailed := true } } : State).pairCount 2).raise 0x1201) := by
  subst hv
  unfold opQuarterTick
  exact (if_neg (pair_enabled h)).trans ((if_pos hl).trans (if_pos (Bool.and_eq_true_iff.mpr ⟨hp, hr⟩)))

theorem opQuarterTick_standby (hl : s.takePair.pair.lease = false) :
    opQuarterTick pass low back high y s = if s.takePair.pair.keys then s.takePair.judge.statusSend 0 else s.takePair := by
  unfold opQuarterTick
  exact (if_neg (pair_enabled h)).trans (if_neg (Bool.eq_false_iff.mp hl))

end
end

section
variable (h : s.pair.lease = true)
include h

theorem opLeaseExpire_holder : opLeaseExpire s = if s.pair.renewFailed then (s.stopLease 1).raise 0x1202 else s.stopLease 1 := by
  unfold opLeaseExpire
  exact if_pos h

theorem opForeignLow_holder : opForeignLow s = if s.sanctioned then s.onHandoff (fun h => { h with claimed := true, pulse := s.tb.lc })
    else ({ (s.stopLease 4).pairCount 3 with pair := { ((s.stopLease 4).pairCount 3).pair with lastCause := 7 } } : State).raise 0x1203 := by
  unfold opForeignLow
  exact if_neg (by rw [h]; decide)

theorem opYieldCheck_yields (hy : s.yieldCause = true) (hn : s.pair.handoff = none) :
    opYieldCheck s = if s.peerReady then s.propose 5 else s.raise 0x120B := by
  unfold opYieldCheck
  exact if_pos (by rw [h, hy, hn]; rfl)

omit h in
theorem opYieldCheck_not (hy : s.yieldCause = false ∨ s.pair.handoff ≠ none) : opYieldCheck s = s := by
  unfold opYieldCheck
  refine if_neg ?_
  rw [Bool.and_eq_true, Bool.and_eq_true, Option.isNone_iff_eq_none]
  rintro ⟨⟨-, cause⟩, free⟩
  exact hy.elim (fun no => absurd (no.symm.trans cause) nofun) (fun busy => busy free)

end

theorem all_decide_iff {o : Option Nat} {p : Nat → Prop} [DecidablePred p] : o.all (fun z => decide (p z)) = true ↔ ∀ z, o = some z → p z := by
  cases o <;> simp

/-- A swap is due (R466). -/
def swapFalls (s : State) : Prop :=
  s.swapOld = true ∧ s.inWindow s.tai = true ∧ s.pair.handoff = none ∧ ∀ z, s.pair.swapTry = some z → z + secs 60 ≤ s.tb.lc

theorem swapFalls_iff (h : s.pair.lease = true) : swapFalls s ↔ (s.pair.lease && s.swapOld && s.inWindow s.tai && s.pair.handoff.isNone &&
    s.pair.swapTry.all (fun t => decide (t + secs 60 ≤ s.tb.lc))) = true := by
  unfold swapFalls
  rw [h, Bool.true_and, Bool.and_eq_true, Bool.and_eq_true, Bool.and_eq_true, Option.isNone_iff_eq_none, and_assoc, and_assoc, all_decide_iff]

section
variable (h : s.pair.lease = true)
include h

theorem opSwapPropose_defers (hd : swapFalls s) (hb : bit (withheld s.gov.level) 4 = true) :
    opSwapPropose s = { s with pair := { s.pair with swapDue := true } } := by
  unfold opSwapPropose
  exact (if_pos ((swapFalls_iff h).mp hd)).trans (if_pos hb)

theorem opSwapPropose_proposes (hd : swapFalls s) (hb : bit (withheld s.gov.level) 4 = false)
    (hv : v = ({ s with pair := { s.pair with swapDue := false } } : State).propose 3) :
    opSwapPropose s = { v with pair := { v.pair with swapTry := if v.pair.handoff.isNone then some v.tb.lc else none } } := by
  subst hv
  unfold opSwapPropose
  exact (if_pos ((swapFalls_iff h).mp hd)).trans (if_neg (Bool.eq_false_iff.mp hb))

theorem opSwapPropose_not (hd : ¬ swapFalls s) : opSwapPropose s = s := by
  unfold opSwapPropose
  exact if_neg (mt (swapFalls_iff h).mpr hd)

end

/-- What only the holder of the lease does, a standby does not. -/
theorem lease_only (h : s.pair.lease = false) : opLeaseExpire s = s ∧ opForeignLow s = s ∧ opYieldCheck s = s ∧ opSwapPropose s = s := by
  unfold opLeaseExpire opForeignLow opYieldCheck opSwapPropose
  rw [h]
  exact ⟨rfl, rfl, rfl, rfl⟩

/-! ## Claims (R452, R453) -/

section
variable {high y pass : Bool}

theorem opHalterClaim_holder (h : s.pair.lease = true) : opHalterClaim high y pass s = s := by
  unfold opHalterClaim
  dsimp only
  rw [if_pos h, h]
  simp

/-- What keeps a part from a claim (R453). -/
def claimBarred (q : State) : Prop := q.pairEnable = false ∨ q.pair.lease = true ∨ q.pairHoldStandby = true ∨ q.receiving = true

/-- What opens a claim (R452, R453). -/
def claimOpen (q : State) (high y : Bool) : Prop := q.releaseClaim = true ∨ (q.silentClaim = true ∧ high = true ∧ y = true)

theorem claimBarred_iff {q : State} : claimBarred q ↔ (!q.pairEnable || q.pair.lease || q.pairHoldStandby || q.receiving) = true := by
  unfold claimBarred
  rw [Bool.or_eq_true, Bool.or_eq_true, Bool.or_eq_true, Bool.not_eq_true', or_assoc, or_assoc]

theorem claimOpen_iff {q : State} : ¬ claimOpen q high y ↔ (!q.releaseClaim && !(q.silentClaim && high && y)) = true := by
  unfold claimOpen
  rw [Bool.and_eq_true, Bool.not_eq_true', Bool.not_eq_true', ← Bool.not_eq_true, ← Bool.not_eq_true, Bool.and_eq_true, Bool.and_eq_true, and_assoc, not_or]

section
variable (h : s.pair.lease = false)
include h

theorem opHalterClaim_standby : opHalterClaim high y pass s =
    (let s := s.takeLease
     if !s.pairEnable || s.pair.lease || s.pairHoldStandby || s.receiving then s
     else if !s.releaseClaim && !(s.silentClaim && high && y) then s.sampleWires high y
     else
       let s := s.sampleWires high y
       if pass then s.takeHalter else { s with pair := { s.pair with release := none } }) := by
  unfold opHalterClaim
  rw [if_neg (Bool.eq_false_iff.mp h)]

theorem opHalterClaim_barred (hb : claimBarred s.takeLease) : opHalterClaim high y pass s = s.takeLease :=
  (opHalterClaim_standby h).trans (if_pos (claimBarred_iff.mp hb))

variable (hb : ¬ claimBarred s.takeLease)
include hb

theorem opHalterClaim_closed (ho : ¬ claimOpen s.takeLease high y) : opHalterClaim high y pass s = s.takeLease.sampleWires high y :=
  (opHalterClaim_standby h).trans ((if_neg (mt claimBarred_iff.mpr hb)).trans (if_pos (claimOpen_iff.mp ho)))

theorem opHalterClaim_claims (ho : claimOpen s.takeLease high y) (hv : v = s.takeLease.sampleWires high y) :
    opHalterClaim high y pass s = if pass then v.takeHalter else { v with pair := { v.pair with release := none } } := by
  subst hv
  exact (opHalterClaim_standby h).trans ((if_neg (mt claimBarred_iff.mpr hb)).trans (if_neg (mt claimOpen_iff.mpr (not_not.mpr ho))))

end
end

section
variable {w : Nat} {back : Bool}

theorem opWireFall_not (h : s.pairEnable = false ∨ s.pair.lease = true) : opWireFall w back s = s := by
  unfold opWireFall
  exact if_pos (by simpa using h)

theorem wire_falls (he : s.pairEnable = true) (hl : s.pair.lease = false) : ¬ (!s.pairEnable || s.pair.lease) = true := by
  rw [he, hl]
  decide

theorem opWireFall_a (he : s.pairEnable = true) (hl : s.pair.lease = false) :
    let d := ({ s with pair := { s.pair with silA := s.tb.lc } } : State).sampleWires back s.pair.wireB
    opWireFall 0 back s = (d.clearFault 0x1207 0).level (d.silent d.pair.silB && !d.silent d.pair.silL) 0x1207 1 := by
  intro d
  unfold opWireFall
  exact if_neg (wire_falls he hl)

theorem opWireFall_b (he : s.pairEnable = true) (hl : s.pair.lease = false) :
    let d := ({ s with pair := { s.pair with silB := s.tb.lc } } : State).sampleWires s.pair.wireA back
    opWireFall 1 back s = (d.clearFault 0x1207 1).level (d.silent d.pair.silA && !d.silent d.pair.silL) 0x1207 0 := by
  intro d
  unfold opWireFall
  exact if_neg (wire_falls he hl)

end

/-! ## HELLO (R454, R458) -/

section
variable {n w base : Nat} {pref x : Bool}

theorem opHello_not (h : s.mayPair = false ∨ x = false ∨ n ≠ s.pairPeerSerial ∨ (w ≠ 2 ∧ w ≠ 3)) : opHello n w pref base x s = s := by
  unfold opHello
  refine if_pos ?_
  simpa [or_assoc] using h

theorem judge_preferred (s : State) : s.judge.pair.preferred = s.pair.preferred := by
  unfold State.judge
  split
  · rfl
  · rfl

theorem opHello_joins (hm : s.mayPair = true) (hw : w = 2 ∨ w = 3)
    (hv : v = { s with pair := { s.pair with
      keys := true, pseqIn := none, peer := some ⟨s.pairPeerSerial, w, pref, base, 1, true, false, girthUnknown, 0, false⟩
      fullDue := s.pair.lease, thetas := [], silL := s.tb.lc } }) :
    opHello s.pairPeerSerial w pref base true s =
      (if v.pair.lease ∨ v.pair.state = .diag then v else ({ v with pair := { v.pair with state := .syncing } } : State).judge).level
        (pref == s.pair.preferred) 0x1204 := by
  have meets : ¬ (!s.mayPair || !true || s.pairPeerSerial != s.pairPeerSerial || !(w == 2 || w == 3)) = true := by
    rcases hw with rfl | rfl <;> simp [hm]
  have same : s.pair.preferred = v.pair.preferred := by
    rw [hv]
  have greets : opHello s.pairPeerSerial w pref base true s =
      (let z := if v.pair.lease then v else if v.pair.state == .diag then v else ({ v with pair := { v.pair with state := .syncing } } : State).judge
       z.level (pref == z.pair.preferred) 0x1204) := by
    subst hv
    unfold opHello
    exact if_neg meets
  rw [greets]
  cases hl : v.pair.lease with
  | true =>
    rw [if_pos rfl, if_pos (Or.inl rfl), same]
  | false =>
    by_cases hd : v.pair.state = .diag
    · rw [if_neg Bool.false_ne_true, if_pos (beq_iff_eq.mpr hd), if_pos (Or.inr hd), same]
    · rw [if_neg Bool.false_ne_true, if_neg (fun eq => hd (eq_of_beq eq)), if_neg (fun eq => eq.elim Bool.false_ne_true hd), same]
      dsimp only
      rw [judge_preferred]

end

end

end Sys2Proof.Proofs
end

section
/-!
PROOFS. Planned handoffs, diagnosis and peer lanes (21_redundancy.md): R463–R470, R544; and the obligation on the pair.
-/
namespace Sys2Proof.Proofs
open Sys2Proof Sys2Proof.Machine

section
variable {s t v : State}

/-! ## Planned handoff (R463–R465) -/

/-- The receiver may make its sanctioned claim (R463). -/
def claimSanctioned (s : State) (pass : Bool) : Prop :=
  s.receiving = true ∧ s.sanctioned = true ∧ s.pair.lease = false ∧ pass = true ∧ s.pairHoldStandby = false

section
variable {pass : Bool}

theorem claimSanctioned_iff : claimSanctioned s pass ↔ (s.receiving && s.sanctioned && !s.pair.lease && pass && !s.pairHoldStandby) = true := by
  unfold claimSanctioned
  rw [Bool.and_eq_true, Bool.and_eq_true, Bool.and_eq_true, Bool.and_eq_true, Bool.not_eq_true', Bool.not_eq_true', and_assoc, and_assoc, and_assoc]

theorem opReceiverClaim_claims (h : claimSanctioned s pass) : opReceiverClaim pass s = s.startLease.onHandoff (fun h => { h with claimed := true }) := by
  unfold opReceiverClaim
  exact if_pos (claimSanctioned_iff.mp h)

theorem opReceiverClaim_not (h : ¬ claimSanctioned s pass) : opReceiverClaim pass s = s := by
  unfold opReceiverClaim
  exact if_neg (mt claimSanctioned_iff.mpr h)

end

theorem opCommitCheck_not (h : s.releasing = false) : opCommitCheck s = s := by
  unfold opCommitCheck
  exact if_pos (by rw [h]; rfl)

section
variable {k : Handoff}

/-- The receiver of a handoff is ready to hold (R463). -/
def handoffGood (s : State) (k : Handoff) : Prop := k.claimed = true ∧ k.fullSent = true ∧ s.tb.lc ≤ k.pulse + millis s.pair.leaseMs / 4 ∧
  s.pair.peer.any (fun p => p.epoch == s.pair.outEpoch && p.aligned) = true

theorem handoffGood_iff (hk : s.pair.handoff = some k) : handoffGood s k ↔
    (s.pair.handoff.any (fun h => h.claimed && h.fullSent && decide (s.tb.lc ≤ h.pulse + millis s.pair.leaseMs / 4)) &&
      s.pair.peer.any (fun p => p.epoch == s.pair.outEpoch && p.aligned)) = true := by
  unfold handoffGood
  rw [hk, Option.any_some, Bool.and_eq_true, Bool.and_eq_true, Bool.and_eq_true, decide_eq_true_eq, and_assoc, and_assoc]

section
variable (hr : s.releasing = true) (hk : s.pair.handoff = some k)
include hr hk

theorem opCommitCheck_commits (hg : handoffGood s k) :
    opCommitCheck s = (s.onHandoff (fun h => { h with committed := true })).peerSend 7 [3, k.th, k.cause] := by
  have send : (s.onHandoff (fun h => { h with committed := true })).handoffSend 3 =
      (s.onHandoff (fun h => { h with committed := true })).peerSend 7 [3, k.th, k.cause] := by
    have committed : (s.onHandoff (fun h => { h with committed := true })).pair.handoff = some { k with committed := true } :=
      congrArg (Option.map _) hk
    unfold State.handoffSend
    rw [committed]
  unfold opCommitCheck
  exact (if_neg (by rw [hr]; decide)).trans ((if_pos ((handoffGood_iff hk).mp hg)).trans send)

theorem opCommitCheck_cancels (hg : ¬ handoffGood s k) : opCommitCheck s = (s.peerSend 7 [4, k.th, k.cause]).cancelOut := by
  have send : s.handoffSend 4 = s.peerSend 7 [4, k.th, k.cause] := by
    unfold State.handoffSend
    rw [hk]
  unfold opCommitCheck
  exact (if_neg (by rw [hr]; decide)).trans ((if_neg (mt (handoffGood_iff hk).mpr hg)).trans (congrArg State.cancelOut send))

end

theorem handoff_none (h : s.pair.handoff = none) : opHandoffExecute s = s ∧ opNoCommit s = s := by
  unfold opHandoffExecute opNoCommit
  rw [h]
  exact ⟨rfl, rfl⟩

section
variable (hk : s.pair.handoff = some k)
include hk

theorem opNoCommit_some : opNoCommit s =
    if !k.releaser && k.claimed && !k.committed && !k.cancelled && s.pair.lease && decide ((k.th : Int) ≤ s.tai) &&
        decide ((k.th : Int) * 65536000000000 + millis s.pair.leaseMs ≤ s.full) && decide (k.pulse + millis s.pair.leaseMs ≤ s.tb.lc) then
      (s.pairCount 1).becomeHolder k.cause true
    else s := by
  unfold opNoCommit
  rw [hk]

theorem opNoCommit_releaser (hr : k.releaser = true) : opNoCommit s = s :=
  (opNoCommit_some hk).trans (if_neg (by rw [hr]; exact Bool.false_ne_true))

omit hk in
/-- The receiver of a handoff holds without a word of its releaser (R465). -/
def commitLate (s : State) (k : Handoff) : Prop :=
  k.claimed = true ∧ k.committed = false ∧ k.cancelled = false ∧ s.pair.lease = true ∧ (k.th : Int) ≤ s.tai ∧
    (k.th : Int) * 65536000000000 + millis s.pair.leaseMs ≤ s.full ∧ k.pulse + millis s.pair.leaseMs ≤ s.tb.lc

omit hk in
theorem commitLate_iff (hr : k.releaser = false) : commitLate s k ↔ (!k.releaser && k.claimed && !k.committed && !k.cancelled && s.pair.lease &&
    decide ((k.th : Int) ≤ s.tai) && decide ((k.th : Int) * 65536000000000 + millis s.pair.leaseMs ≤ s.full) &&
    decide (k.pulse + millis s.pair.leaseMs ≤ s.tb.lc)) = true := by
  unfold commitLate
  simp only [hr, Bool.not_false, Bool.true_and, Bool.and_eq_true, Bool.not_eq_true', decide_eq_true_eq, and_assoc]

section
variable (hr : k.releaser = false)
include hr

theorem opNoCommit_late (hl : commitLate s k) : opNoCommit s = (s.pairCount 1).becomeHolder k.cause true :=
  (opNoCommit_some hk).trans (if_pos ((commitLate_iff hr).mp hl))

theorem opNoCommit_waits (hl : ¬ commitLate s k) : opNoCommit s = s :=
  (opNoCommit_some hk).trans (if_neg (mt (commitLate_iff hr).mpr hl))

theorem opHandoffExecute_receiver : opHandoffExecute s =
    if !k.claimed then ({ s with pair := { s.pair with handoff := none, state := .syncing } } : State).judge
    else if k.cancelled then ((s.stopLease 7).pairCount 7).judge
    else if k.committed then (s.pairCount 1).becomeHolder k.cause false
    else s := by
  unfold opHandoffExecute
  rw [hk]
  exact if_neg (Bool.eq_false_iff.mp hr)

end

section
variable (hr : k.releaser = true)
include hr

theorem opHandoffExecute_hands (hl : s.pair.lease = true) (hc : k.committed = true) (hv : v = (s.pairCount 1).stopLease 6) :
    opHandoffExecute s = ({ v with pair := { v.pair with
      state := if k.cause = 3 then .diag else v.pair.state, lastCause := k.cause, lastSwap := v.tai, lastScheduled := decide (k.cause = 3) } } : State).regate := by
  subst hv
  unfold opHandoffExecute
  rw [hk]
  refine (if_pos hr).trans ((if_pos (Bool.and_eq_true_iff.mpr ⟨hl, hc⟩)).trans ?_)
  simp only [beq_iff_eq]
  rfl

theorem opHandoffExecute_drops (hc : s.pair.lease = false ∨ k.committed = false) : opHandoffExecute s =
    ({ s with pair := { s.pair with handoff := none, state := if s.pair.lease then .active else s.pair.state } } : State).regate := by
  unfold opHandoffExecute
  rw [hk]
  refine (if_pos hr).trans (if_neg ?_)
  rw [Bool.and_eq_true]
  rintro ⟨lease, committed⟩
  exact hc.elim (fun no => absurd (no.symm.trans lease) nofun) (fun no => absurd (no.symm.trans committed) nofun)

end
end
end

/-! ## Diagnosis and return (R467, R468) -/

theorem opDiagDone_ends {n : Nat} (h : s.pair.state = .diag)
    (hv : v = { s with pair := { s.pair with diagResult := n % 256, fit := n % 256 == 0, state := .syncing } })
    (ht : t = (if v.pair.keys then v.judge else { v with pair := { v.pair with state := if v.pair.fit then v.idlePState else .unfit } })) :
    opDiagDone n s = t.level (!t.pair.fit) 0x120A := by
  subst ht hv
  unfold opDiagDone
  exact if_pos (beq_iff_eq.mpr h)

theorem opDiagDone_not {n : Nat} (h : s.pair.state ≠ .diag) : opDiagDone n s = s := by
  unfold opDiagDone
  exact if_neg (fun same => h (eq_of_beq same))

/-- A preferred standby asks for the lease (R468). -/
def returnAsks (s : State) : Prop :=
  s.pairRevertive = true ∧ s.pair.preferred = true ∧ s.pair.state = .ready ∧ s.pair.fit = true ∧
    (∃ z, s.pair.readySince = some z ∧ z + secs s.returnHold ≤ s.tb.lc) ∧
    (s.pair.lastScheduled = false ∨ s.pair.lastSwap + s.swapDwell ≤ s.tai) ∧ s.pair.keys = true

/-- A standby was ready for the hold time (R468). -/
def readyHeld (s : State) : Bool :=
  match s.pair.readySince with
  | some z => decide (z + secs s.returnHold ≤ s.tb.lc)
  | none => false

theorem readyHeld_iff : readyHeld s = true ↔ ∃ z, s.pair.readySince = some z ∧ z + secs s.returnHold ≤ s.tb.lc := by
  unfold readyHeld
  cases s.pair.readySince with
  | none => exact ⟨nofun, fun ⟨z, eq, _⟩ => absurd eq nofun⟩
  | some z => exact ⟨fun held => ⟨z, rfl, of_decide_eq_true held⟩, fun ⟨_, eq, held⟩ => decide_eq_true (Option.some.inj eq ▸ held)⟩

theorem returnAsks_iff : returnAsks s ↔ (s.pairRevertive && s.pair.preferred && s.pair.state == .ready && s.pair.fit && readyHeld s &&
    (!s.pair.lastScheduled || decide (s.pair.lastSwap + s.swapDwell ≤ s.tai)) && s.pair.keys) = true := by
  unfold returnAsks
  rw [Bool.and_eq_true, Bool.and_eq_true, Bool.and_eq_true, Bool.and_eq_true, Bool.and_eq_true, Bool.and_eq_true, Bool.or_eq_true, Bool.not_eq_true',
    decide_eq_true_eq, beq_iff_eq, readyHeld_iff, and_assoc, and_assoc, and_assoc, and_assoc, and_assoc]

theorem opPairReturn_eq : opPairReturn s = if s.pairRevertive && s.pair.preferred && s.pair.state == .ready && s.pair.fit && readyHeld s &&
    (!s.pair.lastScheduled || decide (s.pair.lastSwap + s.swapDwell ≤ s.tai)) && s.pair.keys then s.statusSend 4 else s := by
  unfold opPairReturn readyHeld
  rfl

theorem opPairReturn_asks (h : returnAsks s) : opPairReturn s = s.statusSend 4 := opPairReturn_eq.trans (if_pos (returnAsks_iff.mp h))

theorem opPairReturn_not (h : ¬ returnAsks s) : opPairReturn s = s := opPairReturn_eq.trans (if_neg (mt returnAsks_iff.mpr h))

/-! ## Peer lanes (R470) -/

section
variable {w : Nat}

theorem opPeerLaneDown_none (h : 2 ≤ w) : opPeerLaneDown w s = s := by
  unfold opPeerLaneDown
  exact if_pos h

section
variable (h : w < 2) (hv : v = s.beginPeer w)
include h hv

theorem opPeerLaneDown_lane : opPeerLaneDown w s =
    (if v.net.peerActive == w then
        if v.peerUp (1 - w) then v.peerSwitch (1 - w) else (({ v with net := { v.net with peerActive := 0xFF } } : State).leavePeer).pairWipe
      else v).raise 0x0904 w := by
  subst hv
  unfold opPeerLaneDown
  exact if_neg (Nat.not_le.mpr h)

theorem opPeerLaneDown_other (ha : s.net.peerActive ≠ w) : opPeerLaneDown w s = v.raise 0x0904 w := by
  have other : ¬ (v.net.peerActive == w) = true := by
    rw [hv]
    exact fun same => ha (eq_of_beq same)
  rw [opPeerLaneDown_lane h hv, if_neg other]

variable (ha : s.net.peerActive = w)
include ha

omit h in
theorem lane_active : (v.net.peerActive == w) = true := by
  rw [hv]
  exact beq_iff_eq.mpr ha

theorem opPeerLaneDown_switches (hp : v.peerUp (1 - w) = true) : opPeerLaneDown w s = (v.peerSwitch (1 - w)).raise 0x0904 w := by
  rw [opPeerLaneDown_lane h hv, if_pos (lane_active hv ha), if_pos hp]

theorem opPeerLaneDown_ends (hp : v.peerUp (1 - w) = false) :
    opPeerLaneDown w s = ((({ v with net := { v.net with peerActive := 0xFF } } : State).leavePeer).pairWipe).raise 0x0904 w := by
  rw [opPeerLaneDown_lane h hv, if_pos (lane_active hv ha), if_neg (Bool.eq_false_iff.mp hp)]

end

theorem opPeerLaneUp_not (h : 2 ≤ w ∨ bit s.peerLaneEnable w = false ∨ (s.peerLane w).state ≠ 4 ∨ (s.peerLane w).swept = false) :
    opPeerLaneUp w s = s := by
  unfold opPeerLaneUp
  refine if_pos ?_
  simpa only [Bool.or_eq_true, Bool.not_eq_true', decide_eq_true_eq, bne_iff_ne, or_assoc] using h

section
variable (h2 : w < 2) (he : bit s.peerLaneEnable w = true) (h4 : (s.peerLane w).state = 4) (hs : (s.peerLane w).swept = true)
  (hv : v = (s.onPeer w (fun q => { q with state := 5, upAt := s.tb.lc })).clearFault 0x0904 w)
  (ht : t = (if v.net.peerActive = 0xFF then { v with net := { v.net with peerActive := w } } else v))
include h2 he h4 hs hv ht

theorem opPeerLaneUp_up : opPeerLaneUp w s =
    if t.net.peerActive == w && t.pairEnable then
      (if t.pair.lease || t.pair.state == .diag then t else { t with pair := { t.pair with state := .joining } }).helloSend
    else t := by
  have up : ¬ (decide (2 ≤ w) || !bit s.peerLaneEnable w || (s.peerLane w).state != 4 || !(s.peerLane w).swept) = true := by
    rw [decide_eq_false (Nat.not_le.mpr h2), he, h4, hs]
    decide
  subst ht hv
  unfold opPeerLaneUp
  refine (if_neg up).trans ?_
  simp only [beq_iff_eq]

theorem opPeerLaneUp_quiet (hq : t.net.peerActive ≠ w ∨ t.pairEnable = false) : opPeerLaneUp w s = t := by
  refine (opPeerLaneUp_up h2 he h4 hs hv ht).trans (if_neg ?_)
  rw [Bool.and_eq_true, beq_iff_eq]
  rintro ⟨active, enabled⟩
  exact hq.elim (fun other => other active) (fun off => absurd (off.symm.trans enabled) nofun)

theorem opPeerLaneUp_greets (ha : t.net.peerActive = w) (hp : t.pairEnable = true) : opPeerLaneUp w s =
    (if t.pair.lease ∨ t.pair.state = .diag then t else { t with pair := { t.pair with state := .joining } }).helloSend := by
  refine (opPeerLaneUp_up h2 he h4 hs hv ht).trans ((if_pos ?_).trans ?_)
  · rw [ha, hp, beq_self_eq_true]
    rfl
  · simp only [Bool.or_eq_true, beq_iff_eq]

end
end

theorem opLinkSilence_unpaired (h : s.pairEnable = false) : opLinkSilence s = s := by
  unfold opLinkSilence
  exact if_pos (by rw [h]; rfl)

theorem opLinkSilence_holder (h : s.pairEnable = true) (hl : s.pair.lease = true) : opLinkSilence s = s.raise 0x1205 := by
  unfold opLinkSilence
  exact (if_neg (by rw [h]; decide)).trans (if_pos hl)

theorem opLinkSilence_standby (h : s.pairEnable = true) (hl : s.pair.lease = false) :
    opLinkSilence s = if s.leavePeer.pair.state = .isolated then s.leavePeer.raise 0x1205 else s.leavePeer := by
  unfold opLinkSilence
  refine (if_neg (by rw [h]; decide)).trans ((if_neg (Bool.eq_false_iff.mp hl)).trans ?_)
  simp only [beq_iff_eq]

end

end Sys2Proof.Proofs
end

section
/-!
PROOFS. The redundant pair (21_redundancy.md).
-/
namespace Sys2Proof.Proofs
open Sys2Proof Sys2Proof.Machine

/-- Settles O58, by the equation of each command in each of its cases. -/
theorem pairEvents : Obligations.PairEvents := by
  unfold Obligations.PairEvents
  intro s t v now pseq th cause n w epoch kind base count total digest girth fl back high pass x y pref fit al cfg full i j a b c sec h u
  refine ⟨fun e he hu => ?untaken, peerIn_unsealed, fun hk hq => peerIn_again hk hq, fun hk hq => peerIn_next hk hq,
    ⟨fun hp => congrArg Host.Outcome.next (opQuarterTick_unpaired hp), fun hp hl =>
      ⟨fun hf => congrArg Host.Outcome.next (opQuarterTick_unfed hp hl hf), fun hf hr hv => congrArg Host.Outcome.next (opQuarterTick_fed hp hl hf hr hv)⟩,
      fun hp hl => congrArg Host.Outcome.next (opQuarterTick_standby hp hl)⟩,
    fun hl => ⟨congrArg Host.Outcome.next (opLeaseExpire_holder hl), fun hs => congrArg Host.Outcome.next ((opForeignLow_holder hl).trans (if_pos hs)),
      fun hs hv => ?foreign, fun hy hn => congrArg Host.Outcome.next (opYieldCheck_yields hl hy hn), fun hy => congrArg Host.Outcome.next (opYieldCheck_not hy),
      fun hd hb => congrArg Host.Outcome.next (opSwapPropose_defers hl hd hb), fun hd hb hv => congrArg Host.Outcome.next (opSwapPropose_proposes hl hd hb hv),
      fun hd => congrArg Host.Outcome.next (opSwapPropose_not hl hd)⟩,
    fun hl => ?leaseless,
    fun hl => congrArg Host.Outcome.next (opHalterClaim_holder hl),
    fun hl => ⟨fun hb => congrArg Host.Outcome.next (opHalterClaim_barred hl hb), fun hb ho => congrArg Host.Outcome.next (opHalterClaim_closed hl hb ho),
      fun hb ho hv => congrArg Host.Outcome.next (opHalterClaim_claims hl hb ho hv)⟩,
    fun hn => congrArg Host.Outcome.next (opWireFall_not hn),
    fun he hl => ⟨congrArg Host.Outcome.next (opWireFall_a he hl), congrArg Host.Outcome.next (opWireFall_b he hl)⟩,
    fun hn => congrArg Host.Outcome.next (opHello_not hn), fun hm hw hv => congrArg Host.Outcome.next (opHello_joins hm hw hv),
    fun hu => ⟨fun hv => congrArg Host.Outcome.next (opRenew_takes hu hv), fun hv => ?status, fun hm => congrArg Host.Outcome.next (opMarker_alone hu hm),
      fun hm ha hv => ⟨fun hf => congrArg Host.Outcome.next (opMarker_waits hu hm ha hv hf), fun hs hf => congrArg Host.Outcome.next (opMarker_follows hu hm ha hv hs hf)⟩,
      fun hl => congrArg Host.Outcome.next (opSnapSection_standby hu hl), fun hl => ?holder,
      fun hl => ⟨fun hw => congrArg Host.Outcome.next (opSnapTrailer_torn hu hl hw), fun hw hk hv => congrArg Host.Outcome.next (opSnapTrailer_applies hu hl hw hk hv),
        fun hw hk hb => congrArg Host.Outcome.next (opSnapTrailer_unbased hu hl hw hk hb), fun hw h1 h2 => congrArg Host.Outcome.next (opSnapTrailer_unknown hu hl hw h1 h2)⟩,
      fun hl => congrArg Host.Outcome.next (opRelease_standby hu hl), fun hl => congrArg Host.Outcome.next (opHandoffPropose_holder hu hl),
      fun hl => ⟨fun hf => congrArg Host.Outcome.next (opHandoffPropose_accepts hu hl hf), fun hf => congrArg Host.Outcome.next (opHandoffPropose_rejects hu hl hf)⟩,
      fun hl hk hr ha hv => congrArg Host.Outcome.next (opHandoffAccept_accepts hu hl hk hr ha hv),
      fun hk => congrArg Host.Outcome.next (opHandoffAccept_not hu hk), congrArg Host.Outcome.next (opHandoffCommit_takes hu),
      congrArg Host.Outcome.next (opHandoffCancel_takes hu)⟩,
    ⟨fun ho => congrArg Host.Outcome.next (opReceiverClaim_claims ho), fun ho => congrArg Host.Outcome.next (opReceiverClaim_not ho)⟩,
    fun hr => congrArg Host.Outcome.next (opCommitCheck_not hr),
    fun hr hk => ⟨fun hg => congrArg Host.Outcome.next (opCommitCheck_commits hr hk hg), fun hg => congrArg Host.Outcome.next (opCommitCheck_cancels hr hk hg)⟩,
    fun hk => ⟨fun hr => ⟨congrArg Host.Outcome.next (opNoCommit_releaser hk hr), fun hl hc hv => congrArg Host.Outcome.next (opHandoffExecute_hands hk hr hl hc hv),
        fun hc => congrArg Host.Outcome.next (opHandoffExecute_drops hk hr hc)⟩, fun hr => ?receiver⟩,
    fun hk => ?free,
    fun hd hv ht => congrArg Host.Outcome.next (opDiagDone_ends hd hv ht), fun hd => congrArg Host.Outcome.next (opDiagDone_not hd),
    ⟨fun ha => congrArg Host.Outcome.next (opPairReturn_asks ha), fun ha => congrArg Host.Outcome.next (opPairReturn_not ha)⟩,
    fun hw hv => ⟨fun ha => congrArg Host.Outcome.next (opPeerLaneDown_other hw hv ha), fun ha hp => congrArg Host.Outcome.next (opPeerLaneDown_switches hw hv ha hp),
      fun ha hp => congrArg Host.Outcome.next (opPeerLaneDown_ends hw hv ha hp)⟩,
    fun hw he h4 hs hv ht => ⟨fun hq => congrArg Host.Outcome.next (opPeerLaneUp_quiet hw he h4 hs hv ht hq),
      fun ha hp => congrArg Host.Outcome.next (opPeerLaneUp_greets hw he h4 hs hv ht ha hp)⟩,
    fun hn => congrArg Host.Outcome.next (opPeerLaneUp_not hn), fun hw => congrArg Host.Outcome.next (opPeerLaneDown_none hw), rfl,
    fun he => congrArg Host.Outcome.next (opLinkSilence_unpaired he), fun he hl => congrArg Host.Outcome.next (opLinkSilence_holder he hl),
    fun he hl => congrArg Host.Outcome.next (opLinkSilence_standby he hl)⟩
  case untaken =>
    obtain ⟨renew, status, marker, sections, trailer, propose, accept, commit, cancel, release⟩ :=
      messages_untaken hu c n epoch girth kind base count total digest th cause fit al cfg full back i j sec
    simp only [List.mem_cons, List.not_mem_nil, or_false] at he
    rcases he with rfl | rfl | rfl | rfl | rfl | rfl | rfl | rfl | rfl | rfl
    · exact congrArg Host.Outcome.next renew
    · exact congrArg Host.Outcome.next status
    · exact congrArg Host.Outcome.next marker
    · exact congrArg Host.Outcome.next sections
    · exact congrArg Host.Outcome.next trailer
    · exact congrArg Host.Outcome.next propose
    · exact congrArg Host.Outcome.next accept
    · exact congrArg Host.Outcome.next commit
    · exact congrArg Host.Outcome.next cancel
    · exact congrArg Host.Outcome.next release
  case foreign =>
    subst hv
    exact congrArg Host.Outcome.next ((opForeignLow_holder hl).trans (if_neg (Bool.eq_false_iff.mp hs)))
  case leaseless =>
    obtain ⟨expire, foreign, yield, swap⟩ := lease_only hl
    exact ⟨congrArg Host.Outcome.next expire, congrArg Host.Outcome.next foreign, congrArg Host.Outcome.next yield, congrArg Host.Outcome.next swap⟩
  case status =>
    subst hv
    exact ⟨fun hl => congrArg Host.Outcome.next (opPairStatus_standby hu hl), fun hl => congrArg Host.Outcome.next (opPairStatus_holder hu hl)⟩
  case holder =>
    obtain ⟨sections, trailer, release⟩ := snapshots_holder (sec := sec) (epoch := epoch) (kind := kind) (base := base) (count := count) (total := total)
      (digest := digest) hu hl
    exact ⟨congrArg Host.Outcome.next sections, congrArg Host.Outcome.next trailer, congrArg Host.Outcome.next release⟩
  case receiver =>
    have executes := opHandoffExecute_receiver hk hr
    refine ⟨fun hc => congrArg Host.Outcome.next (executes.trans (if_pos (by rw [hc]; rfl))),
      fun hc hx => congrArg Host.Outcome.next (executes.trans ((if_neg (by rw [hc]; decide)).trans (if_pos hx))),
      fun hc hx => congrArg Host.Outcome.next (executes.trans ((if_neg (by rw [hc]; decide)).trans (if_neg (Bool.eq_false_iff.mp hx)))),
      fun hl => congrArg Host.Outcome.next (opNoCommit_late hk hr hl), fun hl => congrArg Host.Outcome.next (opNoCommit_waits hk hr hl)⟩
  case free =>
    obtain ⟨execute, timeout⟩ := handoff_none hk
    exact ⟨congrArg Host.Outcome.next execute, congrArg Host.Outcome.next timeout⟩

end Sys2Proof.Proofs
end

section
/-!
PROOFS. Domains of managers and workers (22_manager_worker.md): R440, R471–R484.
-/
namespace Sys2Proof.Proofs
open Sys2Proof Sys2Proof.Machine

section
variable {s t v : State}

/-! ## Arrivals and what a part sends (R440, R471–R474) -/

section
variable {src id w serial lc epoch dseq ql flags girth code n : Nat} {b : Bool} {c : Claim} {l : List SnapKey} {es : List (Nat × Nat × Nat × Nat)}

/-- A hierarchy message that does not arrive does nothing more (R440). -/
theorem domain_away (h : s.domainArrives src = (t, false)) :
    opJoin src id w serial lc epoch b s = t ∧ opJoinAck src id w serial n b s = t ∧ opQuality src dseq b ql flags epoch c s = t ∧
    opPolicy src dseq b epoch es s = t ∧ opDomainStatus src w dseq b ql girth epoch s = t ∧ opPolicyAck src w dseq b code s = t ∧
    opKeys src dseq b l s = t ∧ opKeysAck src w dseq b s = t ∧ opLeave src w dseq b s = t := by
  unfold opJoin opJoinAck opQuality opPolicy opDomainStatus opPolicyAck opKeys opKeysAck opLeave
  rw [h]
  exact ⟨rfl, rfl, rfl, rfl, rfl, rfl, rfl, rfl, rfl⟩

end

theorem working_off (h : s.mayDomain = false) : s.working = false := by
  unfold State.working
  rw [h, Bool.false_and]

theorem managing_off (h : s.mayDomain = false) : s.managing = false := by
  unfold State.managing
  rw [h, Bool.false_and, Bool.false_and]

theorem opJoinTx_off (h : s.working = false ∨ s.engsRun = false) : opJoinTx s = s := by
  unfold opJoinTx
  refine if_neg ?_
  rcases h with h | h <;> simp [h]

theorem opStatusTx_off (h : s.working = false ∨ s.engsRun = false) : opStatusTx s = s := by
  unfold opStatusTx
  refine if_neg ?_
  rcases h with h | h <;> simp [h]

theorem opQualityTx_off (h : s.managing = false ∨ s.engsRun = false) : opQualityTx s = s := by
  unfold opQualityTx
  refine if_neg ?_
  rcases h with h | h <;> simp [h]

theorem domainArrives_outside {src : Nat} (h : s.mayDomain = false ∨ s.engsRun = false) : s.domainArrives src = (s, false) := by
  unfold State.domainArrives
  refine if_neg ?_
  rcases h with h | h <;> simp [h]

theorem domainArrives_inside {src : Nat} (hm : s.mayDomain = true) (he : s.engsRun = true) :
    s.domainArrives src = (s.takeTerm (fun m => m.service == 3)).1.esxiaAdmit src := by
  unfold State.domainArrives
  exact if_pos (Bool.and_eq_true_iff.mpr ⟨hm, he⟩)

section
variable (hw : s.working = true) (he : s.engsRun = true)
include hw he

theorem opJoinTx_joins {f : List Nat} (hs : s.domain.session = false) (h4 : s.domain.state ≠ 4) (hf : s.joinFields = (t, f)) :
    opJoinTx s = t.domSend 0x10 t.workerNumber f := by
  unfold opJoinTx
  rw [hf]
  refine if_pos ?_
  rw [hw, he, hs, bne_iff_ne.mpr h4]
  rfl

omit hw he in
theorem opJoinTx_refused (h4 : s.domain.state = 4) : opJoinTx s = s := by
  unfold opJoinTx
  refine if_neg ?_
  simp [h4]

omit hw he in
theorem opJoinTx_joined (hs : s.domain.session = true) : opJoinTx s = s := by
  unfold opJoinTx
  refine if_neg ?_
  simp [hs]

omit hw he in
theorem opStatusTx_none (hs : s.domain.session = false) : opStatusTx s = s := by
  unfold opStatusTx
  refine if_neg ?_
  simp [hs]

theorem opStatusTx_sends (hs : s.domain.session = true) :
    opStatusTx s = s.toManager 0x13 [s.start.state.code, s.sel.current, s.todQl s.girth.ql, s.gNow, s.domain.epoch] := by
  unfold opStatusTx
  exact if_pos (by rw [hw, he, hs]; rfl)

end

theorem opQualityTx_sends (hm : s.managing = true) (he : s.engsRun = true) :
    opQualityTx s = (s.domain.workers.filter (·.state == 2)).foldl (fun y z => y.toWorker 0x12 z y.qualityFields) s := by
  unfold opQualityTx
  exact if_pos (Bool.and_eq_true_iff.mpr ⟨hm, he⟩)

/-! ## JOIN at the manager (R472, R473) -/

section
variable {src id w serial lc epoch : Nat} {b : Bool} (h : s.domainArrives src = (t, true))
include h

theorem opJoin_unmanaged (hm : t.managing = false) : opJoin src id w serial lc epoch b s = t := by
  unfold opJoin
  rw [h]
  exact if_pos (by rw [hm]; rfl)

section
variable (hm : t.managing = true)
include hm

omit h in
theorem manager_takes : ¬ (!t.managing) = true := by
  rw [hm]
  decide

theorem opJoin_false : opJoin src id w serial lc epoch false s = t.domCount 1 := by
  unfold opJoin
  rw [h]
  exact (if_neg (manager_takes hm)).trans (if_pos rfl)

theorem opJoin_refuses (hr : t.joinResult id w serial lc ≠ 0) :
    opJoin src id w serial lc epoch true s = (t.domCount 0).sendAck w (t.joinResult id w serial lc) := by
  unfold opJoin
  rw [h]
  exact (if_neg (manager_takes hm)).trans ((if_neg Bool.false_ne_true).trans (if_pos (bne_iff_ne.mpr hr)))

theorem opJoin_takes {k : Nat × Nat} (hr : t.joinResult id w serial lc = 0) (hk : t.sessionKeys = (v, k)) :
    opJoin src id w serial lc epoch true s = ((({ v with domain := { v.domain with joins := v.joinsNow + 1, joinSecond := v.tai } } : State).putWorker
      ⟨w, serial, lc, epoch, 0, 0, 2, 0, none, 0, some k, v.tb.lc⟩).sendAck w 0).welcome w := by
  unfold opJoin
  rw [h]
  dsimp only
  rw [if_neg (manager_takes hm), if_neg (by decide), if_neg (not_bne hr), hk]
  rfl

end
end

section
variable {id w serial lc : Nat}

theorem sendAck_fields {n : Nat} {f : List Nat} (h : t.ackFields w n = (v, f)) : t.sendAck w n = v.domSend 0x11 w f ∧ f.take 3 = [t.domainId, w, n] := by
  constructor
  · unfold State.sendAck
    rw [h]
  · have fields : f = (t.ackFields w n).2 := by rw [h]
    rw [fields]
    rfl

theorem joinResult_domain (h : id ≠ t.domainId) : t.joinResult id w serial lc = 1 := by
  unfold State.joinResult
  exact if_pos (bne_iff_ne.mpr h)

section
variable (hd : id = t.domainId)
include hd

theorem joinResult_number (h : w = 0 ∨ 4095 < w) : t.joinResult id w serial lc = 3 := by
  unfold State.joinResult
  exact (if_neg (not_bne hd)).trans (if_pos (by simpa using h))

variable (h1 : 1 ≤ w) (h2 : w ≤ 4095)
include h1 h2

omit hd in
theorem worker_number : ¬ (decide (w = 0) || decide (4095 < w)) = true := by
  simp only [Bool.or_eq_true, decide_eq_true_eq]
  omega

theorem joinResult_lifeCycle (hx : lc ≠ 2) (hy : lc ≠ 3) : t.joinResult id w serial lc = 4 := by
  unfold State.joinResult
  exact (if_neg (not_bne hd)).trans ((if_neg (worker_number h1 h2)).trans (if_pos (by simp [hx, hy])))

variable (hl : lc = 2 ∨ lc = 3)
include hl

omit hd h1 h2 in
theorem lifeCycle_joins : ¬ (!(lc == 2 || lc == 3)) = true := by
  rcases hl with rfl | rfl <;> decide

theorem joinResult_rate (h : t.domainJoinRate ≤ t.joinsNow) : t.joinResult id w serial lc = 5 := by
  unfold State.joinResult
  exact (if_neg (not_bne hd)).trans ((if_neg (worker_number h1 h2)).trans ((if_neg (lifeCycle_joins hl)).trans (if_pos h)))

variable (hr : t.joinsNow < t.domainJoinRate)
include hr

theorem joinResult_judged : t.joinResult id w serial lc = if (t.worker w).any (fun x => x.serial != serial) then 0x02 else 0 := by
  unfold State.joinResult
  exact (if_neg (not_bne hd)).trans ((if_neg (worker_number h1 h2)).trans ((if_neg (lifeCycle_joins hl)).trans (if_neg (Nat.not_le.mpr hr))))

theorem joinResult_taken {x : Worker} (hx : t.worker w = some x) (hs : x.serial ≠ serial) : t.joinResult id w serial lc = 2 := by
  refine (joinResult_judged hd h1 h2 hl hr).trans (if_pos ?_)
  rw [hx]
  exact bne_iff_ne.mpr hs

theorem joinResult_joins (hx : t.worker w = none ∨ ∃ y, t.worker w = some y ∧ y.serial = serial) : t.joinResult id w serial lc = 0 := by
  refine (joinResult_judged hd h1 h2 hl hr).trans (if_neg ?_)
  rcases hx with hx | ⟨y, hx, hs⟩
  · rw [hx]
    exact Bool.false_ne_true
  · rw [hx]
    exact not_bne hs

end
end

/-! ## Sealed messages (R474) -/

section
variable {w dseq : Nat} {b : Bool} {o : Option Nat}

/-- A number that is not above the last one is old (R474). -/
theorem dseq_old_iff : (!b || o.any (fun d => decide (dseq ≤ d))) = true ↔ b = false ∨ ∃ d, o = some d ∧ dseq ≤ d := by
  rw [Bool.or_eq_true, Bool.not_eq_true']
  refine or_congr_right ?_
  cases o <;> simp

theorem dseq_new (h : ∀ d, o = some d → d < dseq) : ¬ (!true || o.any (fun d => decide (dseq ≤ d))) = true := by
  rw [dseq_old_iff]
  rintro (no | ⟨d, last, old⟩)
  · exact absurd no nofun
  · exact Nat.not_le.mpr (h d last) old

theorem fromWorker_unmanaged (h : t.managing = false) : t.fromWorker w dseq b = (t, none) := by
  unfold State.fromWorker
  exact if_pos (by rw [h]; rfl)

section
variable (hm : t.managing = true)
include hm

theorem fromWorker_unknown (hw : t.worker w = none) : t.fromWorker w dseq b = (t.domCount 1, none) := by
  unfold State.fromWorker
  rw [if_neg (manager_takes hm), hw]

theorem fromWorker_bad {x : Worker} (hw : t.worker w = some x) (h : b = false ∨ ∃ d, x.dseqIn = some d ∧ dseq ≤ d) :
    t.fromWorker w dseq b = (t.domCount 1, none) := by
  unfold State.fromWorker
  rw [if_neg (manager_takes hm), hw]
  exact if_pos (dseq_old_iff.mpr h)

theorem fromWorker_good {x : Worker} (hw : t.worker w = some x) (h : ∀ d, x.dseqIn = some d → d < dseq) :
    t.fromWorker w dseq true = (t.putWorker { x with dseqIn := some dseq }, some { x with dseqIn := some dseq }) := by
  unfold State.fromWorker
  rw [if_neg (manager_takes hm), hw]
  exact if_neg (dseq_new h)

end

theorem fromManager_idle (h : t.working = false) : t.fromManager dseq b = (t, false) := by
  unfold State.fromManager
  exact if_pos (by rw [h]; rfl)

section
variable (hw : t.working = true)
include hw

theorem worker_takes : ¬ (!t.working) = true := by
  rw [hw]
  decide

theorem fromManager_bad (h : t.domain.session = false ∨ b = false ∨ ∃ d, t.domain.dseqIn = some d ∧ dseq ≤ d) :
    t.fromManager dseq b = (t.domCount 1, false) := by
  unfold State.fromManager
  refine (if_neg (worker_takes hw)).trans (if_pos ?_)
  rw [Bool.or_assoc, Bool.or_eq_true, Bool.not_eq_true', dseq_old_iff]
  exact h

theorem fromManager_good (hs : t.domain.session = true) (h : ∀ d, t.domain.dseqIn = some d → d < dseq) :
    t.fromManager dseq true = ({ t with domain := { t.domain with dseqIn := some dseq } }, true) := by
  unfold State.fromManager
  refine (if_neg (worker_takes hw)).trans (if_neg ?_)
  rw [hs, Bool.or_assoc]
  exact dseq_new h

end
end

/-! ## JOIN_ACK at the worker (R472, R473) -/

section
variable {src id w serial n : Nat} {b : Bool} (h : s.domainArrives src = (t, true))
include h

theorem opJoinAck_closed (hc : t.working = false ∨ t.domain.session = true ∨ t.domain.state = 4) : opJoinAck src id w serial n b s = t := by
  unfold opJoinAck
  rw [h]
  exact if_pos (by simpa [or_assoc] using hc)

section
variable (hw : t.working = true) (hs : t.domain.session = false) (h4 : t.domain.state ≠ 4)
include hw hs h4

omit h in
theorem ack_awaited : ¬ (!t.working || t.domain.session || t.domain.state == 4) = true := by
  simp [hw, hs, h4]

theorem opJoinAck_false : opJoinAck src id w serial n false s = t.domCount 1 := by
  unfold opJoinAck
  rw [h]
  exact (if_neg (ack_awaited hw hs h4)).trans (if_pos rfl)

omit h hw hs h4 in
/-- An answer is for this worker and from one of its managers (R472). -/
def ackMine (t : State) (w serial : Nat) : Prop :=
  w = t.workerNumber ∧ serial ≠ 0 ∧ (serial = fld t.domainManagerSerials 0 4 ∨ serial = fld t.domainManagerSerials 4 4)

omit h hw hs h4 in
theorem ackMine_iff : ¬ ackMine t w serial ↔ (w != t.workerNumber || decide (serial = 0) ||
    !(serial == fld t.domainManagerSerials 0 4 || serial == fld t.domainManagerSerials 4 4)) = true := by
  unfold ackMine
  rw [Bool.or_eq_true, Bool.or_eq_true, bne_iff_ne, decide_eq_true_eq, Bool.not_eq_true', ← Bool.not_eq_true, Bool.or_eq_true, beq_iff_eq, beq_iff_eq,
    not_and_or, not_and_or, not_not, or_assoc]

theorem opJoinAck_other (hm : ¬ ackMine t w serial) : opJoinAck src id w serial n true s = t := by
  unfold opJoinAck
  rw [h]
  exact (if_neg (ack_awaited hw hs h4)).trans ((if_neg Bool.false_ne_true).trans (if_pos (ackMine_iff.mp hm)))

variable (hm : ackMine t w serial)
include hm

theorem opJoinAck_mine : opJoinAck src id w serial n true s =
    if n = 0 then
      if id != t.domainId then t
      else
        let (s, k) := t.sessionKeys
        let s := { s with domain := { s.domain with session := true, manager := serial, dseqIn := none, dseqOut := 0, state := 2, quality := none, claim := none, keys := some k, heard := s.tb.lc } }
        s.clearFault 0x1303
    else if n = 1 || n = 3 || n = 4 then ({ t with domain := { t.domain with state := 4 } } : State).raise 0x1301 n
    else t := by
  unfold opJoinAck
  rw [h]
  exact (if_neg (ack_awaited hw hs h4)).trans ((if_neg Bool.false_ne_true).trans (if_neg (mt ackMine_iff.mpr (not_not.mpr hm))))

theorem opJoinAck_domain (hd : id ≠ t.domainId) : opJoinAck src id w serial 0 true s = t :=
  (opJoinAck_mine h hw hs h4 hm).trans ((if_pos rfl).trans (if_pos (bne_iff_ne.mpr hd)))

theorem opJoinAck_joins {k : Nat × Nat} (hd : id = t.domainId) (hk : t.sessionKeys = (v, k)) : opJoinAck src id w serial 0 true s =
    ({ v with domain := { v.domain with
      session := true, manager := serial, dseqIn := none, dseqOut := 0, state := 2, quality := none, claim := none, keys := some k, heard := v.tb.lc } } : State).clearFault 0x1303 := by
  rw [opJoinAck_mine h hw hs h4 hm, if_pos rfl, if_neg (not_bne hd), hk]

theorem opJoinAck_final {r : Nat} (hr : r ∈ [1, 3, 4]) :
    opJoinAck src id w serial r true s = ({ t with domain := { t.domain with state := 4 } } : State).raise 0x1301 r := by
  simp only [List.mem_cons, List.not_mem_nil, or_false] at hr
  refine (opJoinAck_mine h hw hs h4 hm).trans ((if_neg (by omega)).trans (if_pos ?_))
  simpa [or_assoc] using hr

theorem opJoinAck_again (hn : n = 2 ∨ 5 ≤ n) : opJoinAck src id w serial n true s = t := by
  refine (opJoinAck_mine h hw hs h4 hm).trans ((if_neg (by omega)).trans (if_neg ?_))
  simp only [Bool.or_eq_true, decide_eq_true_eq]
  omega

end
end

end

end Sys2Proof.Proofs
end

section
/-!
PROOFS. What passes within a domain (22_manager_worker.md): R475–R484; and the obligation on domains.
-/
namespace Sys2Proof.Proofs
open Sys2Proof Sys2Proof.Machine

section
variable {s t v z : State} {src w dseq : Nat} {b : Bool}

/-! ## At the worker (R475–R482) -/

section
variable {ql flags epoch : Nat} {c : Claim} {l : List SnapKey} {es : List (Nat × Nat × Nat × Nat)} (h : s.domainArrives src = (t, true))
include h

/-- A sealed message that the worker does not take does nothing more (R474). -/
theorem manager_away (hm : t.fromManager dseq b = (v, false)) :
    opQuality src dseq b ql flags epoch c s = v ∧ opPolicy src dseq b epoch es s = v ∧ opKeys src dseq b l s = v := by
  unfold opQuality opPolicy opKeys
  rw [h]
  dsimp only
  rw [hm]
  exact ⟨rfl, rfl, rfl⟩

theorem opLeave_unsealed (hr : t.domainRole = 2) (hm : t.fromManager dseq b = (v, false)) : opLeave src w dseq b s = v := by
  unfold opLeave
  rw [h]
  refine (if_pos (beq_iff_eq.mpr hr)).trans ?_
  rw [hm]

theorem opLeave_ends (hr : t.domainRole = 2) (hm : t.fromManager dseq b = (v, true)) : opLeave src w dseq b s = v.managerLost := by
  unfold opLeave
  rw [h]
  refine (if_pos (beq_iff_eq.mpr hr)).trans ?_
  rw [hm]

theorem opLeave_stranger (hr : t.domainRole ≠ 2) (hm : t.fromWorker w dseq b = (v, none)) : opLeave src w dseq b s = v := by
  unfold opLeave
  rw [h]
  refine (if_neg (fun same => hr (eq_of_beq same))).trans ?_
  rw [hm]

theorem opLeave_worker (hr : t.domainRole ≠ 2) {x : Worker} (hm : t.fromWorker w dseq b = (v, some x)) :
    opLeave src w dseq b s = { v with domain := { v.domain with workers := v.domain.workers.filter (·.num != x.num) } } := by
  unfold opLeave
  rw [h]
  refine (if_neg (fun same => hr (eq_of_beq same))).trans ?_
  rw [hm]

section
variable (hm : t.fromManager dseq b = (v, true))
include hm

theorem opQuality_takes (hz : ({ v with domain := { v.domain with quality := some ⟨ql, flags, epoch, v.tb.lc⟩, heard := v.tb.lc } } : State).noteFed = z) :
    opQuality src dseq b ql flags epoch c s = if claimOk { c with auth := true, rx := v.tb.lc } then
        { z with domain := { z.domain with claim := some { c with auth := true, rx := v.tb.lc } } }
      else { z with domain := { z.domain with claim := none }, girth := { z.girth with rejected := bump z.girth.rejected } } := by
  unfold opQuality
  rw [h]
  dsimp only
  rw [hm]
  dsimp only
  rw [hz]

theorem opPolicy_takes : opPolicy src dseq b epoch es s =
    if es.isEmpty || 64 < es.length || !v.agentUp || v.bootHalted then v else v.takePolicy src v.tb.lc epoch es := by
  unfold opPolicy
  rw [h]
  dsimp only
  rw [hm]

theorem opPolicy_drops (hd : es = [] ∨ 64 < es.length ∨ v.agentUp = false ∨ v.bootHalted = true) : opPolicy src dseq b epoch es s = v :=
  (opPolicy_takes h hm).trans (if_pos (by simpa [or_assoc] using hd))

section
variable (he : es ≠ []) (hl : es.length ≤ 64) (ha : v.agentUp = true) (hb : v.bootHalted = false)
include he hl ha hb

theorem opPolicy_judges : opPolicy src dseq b epoch es s = v.takePolicy src v.tb.lc epoch es := by
  refine (opPolicy_takes h hm).trans (if_neg ?_)
  rw [List.isEmpty_eq_false_iff.mpr he, decide_eq_false (Nat.not_lt.mpr hl), ha, hb]
  decide

theorem opPolicy_fails {pe : Nat × Nat × Nat × Nat} {i : Nat}
    (hf : (es.zip (List.range es.length)).find? (fun p => v.policyCode src v.tb.lc p.1 != 0) = some (pe, i)) :
    opPolicy src dseq b epoch es s = (v.domCount 4).toManager 0x15 [epoch, v.policyCode src v.tb.lc pe, i] := by
  rw [opPolicy_judges h hm he hl ha hb]
  unfold State.takePolicy
  rw [hf]

theorem opPolicy_applies (hf : (es.zip (List.range es.length)).find? (fun p => v.policyCode src v.tb.lc p.1 != 0) = none)
    (hz : z = es.foldl (State.policyApply src v.tb.lc) v) :
    opPolicy src dseq b epoch es s = ({ z with domain := { z.domain with epoch := epoch } } : State).toManager 0x15 [epoch, 0, 0xFF] := by
  rw [opPolicy_judges h hm he hl ha hb]
  subst hz
  unfold State.takePolicy
  rw [hf]

end

theorem opKeys_takes : opKeys src dseq b l s = (v.takeKeys l).1.toManager 0x17 (l.length :: (v.takeKeys l).2) := by
  unfold opKeys
  rw [h]
  dsimp only
  rw [hm]

end
end

theorem takeKeys_length (v : State) (l : List SnapKey) : (v.takeKeys l).2.length = l.length := by
  induction l generalizing v with
  | nil => rfl
  | cons k l ih => exact congrArg Nat.succ (ih (v.takeKey k).1)

theorem managerLost_ends (h : v.domain.session = true) : v.managerLost =
    (({ v.noteFed with domain := { v.noteFed.domain with session := false, keys := none, state := 3, quality := none, claim := none } } : State).domCount 3).raise 0x1303 := by
  unfold State.managerLost
  exact if_pos h

theorem managerLost_none (h : v.domain.session = false) : v.managerLost = v := by
  unfold State.managerLost
  exact if_neg (Bool.eq_false_iff.mp h)

theorem opManagerLost_eq : opManagerLost s = if s.domain.heard + millis s.domainLossTime ≤ s.tb.lc then s.managerLost else s := by
  unfold opManagerLost
  rfl

/-! ## At the manager (R480, R481) -/

section
variable {ql girth epoch code : Nat} (h : s.domainArrives src = (t, true))
include h

theorem worker_away (hm : t.fromWorker w dseq b = (v, none)) :
    opDomainStatus src w dseq b ql girth epoch s = v ∧ opPolicyAck src w dseq b code s = v ∧ opKeysAck src w dseq b s = v := by
  unfold opDomainStatus opPolicyAck opKeysAck
  rw [h]
  dsimp only
  rw [hm]
  exact ⟨rfl, rfl, rfl⟩

theorem worker_heard {x : Worker} (hm : t.fromWorker w dseq b = (v, some x)) :
    opDomainStatus src w dseq b ql girth epoch s = v.putWorker { x with ql := ql, girth := girth, epoch := epoch, lastStatus := v.tai.toNat, heard := v.tb.lc } ∧
    opPolicyAck src w dseq b code s = (if code = 0 then v else v.domCount 4) ∧ opKeysAck src w dseq b s = v := by
  unfold opDomainStatus opPolicyAck opKeysAck
  rw [h]
  dsimp only
  rw [hm]
  exact ⟨rfl, rfl, rfl⟩

end

theorem opWorkerLost_none (h : s.worker w = none) : opWorkerLost w s = s := by
  unfold opWorkerLost
  rw [h]

theorem opWorkerLost_some {x : Worker} (h : s.worker w = some x) :
    opWorkerLost w s = if x.heard + millis s.domainLossTime ≤ s.tb.lc then s.putWorker { x with state := 3, keys := none } else s := by
  unfold opWorkerLost
  rw [h]

end

/-- Settles O59, by the equation of each message in each of its cases. -/
theorem domainEvents : Obligations.DomainEvents := by
  unfold Obligations.DomainEvents
  intro s t v z now src id w serial lc epoch dseq ql flags girth code n i b c x l rs f k es pe u
  refine ⟨fun e he h => ?away, fun h => ?outside, domainArrives_inside,
    fun hw he => ⟨fun hs h4 hf => congrArg Host.Outcome.next (opJoinTx_joins hw he hs h4 hf), fun _ h4 => congrArg Host.Outcome.next (opJoinTx_refused h4),
      fun hs => congrArg Host.Outcome.next (opStatusTx_none hs),
      fun hs => ⟨congrArg Host.Outcome.next (opJoinTx_joined hs), congrArg Host.Outcome.next (opStatusTx_sends hw he hs)⟩⟩,
    fun hw => ⟨congrArg Host.Outcome.next (opJoinTx_off (Or.inl hw)), congrArg Host.Outcome.next (opStatusTx_off (Or.inl hw))⟩,
    fun hm => congrArg Host.Outcome.next (opQualityTx_off (Or.inl hm)), fun hm he => congrArg Host.Outcome.next (opQualityTx_sends hm he),
    fun h hm => congrArg Host.Outcome.next (opJoin_unmanaged h hm),
    fun h hm => ⟨congrArg Host.Outcome.next (opJoin_false h hm), fun hr => congrArg Host.Outcome.next (opJoin_refuses h hm hr),
      fun hr hk => congrArg Host.Outcome.next (opJoin_takes h hm hr hk)⟩,
    sendAck_fields, joinResult_domain,
    fun hd => ⟨joinResult_number hd, fun h1 h2 => ⟨joinResult_lifeCycle hd h1 h2, fun hl => ⟨joinResult_rate hd h1 h2 hl,
      fun hr => ⟨joinResult_taken hd h1 h2 hl hr, joinResult_joins hd h1 h2 hl hr⟩⟩⟩⟩,
    fun hm => ⟨fromWorker_unknown hm, fromWorker_bad hm, fromWorker_good hm⟩, fromWorker_unmanaged, fromManager_idle,
    fun hw => ⟨fromManager_bad hw, fromManager_good hw⟩,
    fun h hc => congrArg Host.Outcome.next (opJoinAck_closed h hc),
    fun h hw hs h4 => ⟨congrArg Host.Outcome.next (opJoinAck_false h hw hs h4), fun hm => congrArg Host.Outcome.next (opJoinAck_other h hw hs h4 hm),
      fun hm => ⟨fun hd => congrArg Host.Outcome.next (opJoinAck_domain h hw hs h4 hm hd), fun hd hk => congrArg Host.Outcome.next (opJoinAck_joins h hw hs h4 hm hd hk),
        fun r hr => congrArg Host.Outcome.next (opJoinAck_final h hw hs h4 hm hr), fun hn => congrArg Host.Outcome.next (opJoinAck_again h hw hs h4 hm hn)⟩⟩,
    fun h hm => ?unsealed, fun h hm => ⟨fun hz => ?quality, fun hd => congrArg Host.Outcome.next (opPolicy_drops h hm hd),
      fun he hl ha hb => ⟨fun hf => congrArg Host.Outcome.next (opPolicy_fails h hm he hl ha hb hf),
        fun hf hz => congrArg Host.Outcome.next (opPolicy_applies h hm he hl ha hb hf hz)⟩,
      congrArg Host.Outcome.next (opKeys_takes h hm), fun hr => ?leaves⟩,
    takeKeys_length v l, managerLost_ends, managerLost_none,
    fun h hm => ⟨fun e he => ?silent, fun hr => congrArg Host.Outcome.next (opLeave_stranger h hr hm)⟩,
    fun h hm => ?heard,
    fun h => congrArg Host.Outcome.next (opManagerLost_eq.trans (if_pos h)),
    fun h => congrArg Host.Outcome.next (opManagerLost_eq.trans (if_neg (Nat.not_le.mpr h))),
    fun h => ⟨fun hl => congrArg Host.Outcome.next ((opWorkerLost_some h).trans (if_pos hl)),
      fun hl => congrArg Host.Outcome.next ((opWorkerLost_some h).trans (if_neg (Nat.not_le.mpr hl)))⟩,
    fun h => congrArg Host.Outcome.next (opWorkerLost_none h)⟩
  case away =>
    obtain ⟨join, joinAck, quality, policy, status, policyAck, keys, keysAck, leave⟩ := domain_away (id := id) (w := w) (serial := serial) (lc := lc)
      (epoch := epoch) (dseq := dseq) (ql := ql) (flags := flags) (girth := girth) (code := code) (n := n) (b := b) (c := c) (l := l) (es := es) h
    simp only [List.mem_cons, List.not_mem_nil, or_false] at he
    rcases he with rfl | rfl | rfl | rfl | rfl | rfl | rfl | rfl | rfl
    · exact congrArg Host.Outcome.next join
    · exact congrArg Host.Outcome.next joinAck
    · exact congrArg Host.Outcome.next quality
    · exact congrArg Host.Outcome.next policy
    · exact congrArg Host.Outcome.next status
    · exact congrArg Host.Outcome.next policyAck
    · exact congrArg Host.Outcome.next keys
    · exact congrArg Host.Outcome.next keysAck
    · exact congrArg Host.Outcome.next leave
  case outside =>
    exact ⟨domainArrives_outside h, congrArg Host.Outcome.next (opJoinTx_off (h.imp_left working_off)),
      congrArg Host.Outcome.next (opQualityTx_off (h.imp_left managing_off)), congrArg Host.Outcome.next (opStatusTx_off (h.imp_left working_off))⟩
  case unsealed =>
    obtain ⟨quality, policy, keys⟩ := manager_away (ql := ql) (flags := flags) (epoch := epoch) (c := c) (l := l) (es := es) h hm
    exact ⟨congrArg Host.Outcome.next quality, congrArg Host.Outcome.next policy, congrArg Host.Outcome.next keys,
      fun hr => congrArg Host.Outcome.next (opLeave_unsealed h hr hm)⟩
  case quality =>
    exact ⟨fun hc => congrArg Host.Outcome.next ((opQuality_takes h hm hz).trans (if_pos hc)),
      fun hc => congrArg Host.Outcome.next ((opQuality_takes h hm hz).trans (if_neg (Bool.eq_false_iff.mp hc)))⟩
  case leaves => exact congrArg Host.Outcome.next (opLeave_ends h hr hm)
  case silent =>
    obtain ⟨status, policyAck, keysAck⟩ := worker_away (ql := ql) (girth := girth) (epoch := epoch) (code := code) h hm
    simp only [List.mem_cons, List.not_mem_nil, or_false] at he
    rcases he with rfl | rfl | rfl
    · exact congrArg Host.Outcome.next status
    · exact congrArg Host.Outcome.next policyAck
    · exact congrArg Host.Outcome.next keysAck
  case heard =>
    obtain ⟨status, policyAck, keysAck⟩ := worker_heard (ql := ql) (girth := girth) (epoch := epoch) (code := code) h hm
    exact ⟨congrArg Host.Outcome.next status, congrArg Host.Outcome.next policyAck, congrArg Host.Outcome.next keysAck,
      fun hr => congrArg Host.Outcome.next (opLeave_worker h hr hm)⟩

end Sys2Proof.Proofs
end

section
/-!
PROOFS. Faults, start-up and flash (23_faults.md, 24_startup_reset_calibration.md): R36, R386, R485, R488–R494, R499–R516, R542.
-/
namespace Sys2Proof.Proofs
open Sys2Proof Sys2Proof.Machine

section
variable {s t v : State} {code inst detail n cls : Nat}

/-! ## Raising and clearing (R485, R488–R491) -/

theorem raise_none (h : faultClass code = none ∨ s.start.porHeld = true) : s.raise code inst detail = s := by
  unfold State.raise
  cases hc : faultClass code with
  | none => rfl
  | some c => exact if_pos (h.resolve_left (fun no => absurd (hc.symm.trans no) nofun))

section
variable (hc : faultClass code = some cls) (hp : s.start.porHeld = false)
include hc hp

theorem raise_some : s.raise code inst detail =
    if s.start.inReset then
      if cls = 3 then { s.record code 3 0 inst 0 0 detail with faults := { (s.record code 3 0 inst 0 0 detail).faults with latch := true } }
      else if s.faults.held.any (fun h => h.1 == code && h.2.1 == inst && isLevel code) then s
      else { s with faults := { s.faults with held := s.faults.held ++ [(code, inst, detail)] } }
    else if isLevel code && s.faults.levels.contains (code, inst) then s
    else s.collect code cls inst detail := by
  unfold State.raise
  rw [hc]
  exact if_neg (Bool.eq_false_iff.mp hp)

section
variable (hr : s.start.inReset = true)
include hr

theorem raise_latches (h3 : cls = 3) (hv : v = s.record code 3 0 inst 0 0 detail) :
    s.raise code inst detail = { v with faults := { v.faults with latch := true } } := by
  subst hv
  exact (raise_some hc hp).trans ((if_pos hr).trans (if_pos h3))

omit hc hp hr in
/-- A level fault waits already for the end of the reset (R490). -/
def faultWaits (s : State) (code inst : Nat) : Prop := isLevel code = true ∧ ∃ h ∈ s.faults.held, h.1 = code ∧ h.2.1 = inst

omit hc hp hr in
theorem faultWaits_iff : faultWaits s code inst ↔ s.faults.held.any (fun h => h.1 == code && h.2.1 == inst && isLevel code) = true := by
  unfold faultWaits
  rw [List.any_eq_true]
  constructor
  · rintro ⟨level, h, mem, same, place⟩
    exact ⟨h, mem, by simp [same, place, level]⟩
  · rintro ⟨h, mem, matched⟩
    simp only [Bool.and_eq_true, beq_iff_eq] at matched
    obtain ⟨⟨same, place⟩, level⟩ := matched
    exact ⟨level, h, mem, same, place⟩

theorem raise_waiting (h3 : cls ≠ 3) (hw : faultWaits s code inst) : s.raise code inst detail = s :=
  (raise_some hc hp).trans ((if_pos hr).trans ((if_neg h3).trans (if_pos (faultWaits_iff.mp hw))))

theorem raise_waits (h3 : cls ≠ 3) (hw : ¬ faultWaits s code inst) :
    s.raise code inst detail = { s with faults := { s.faults with held := s.faults.held ++ [(code, inst, detail)] } } :=
  (raise_some hc hp).trans ((if_pos hr).trans ((if_neg h3).trans (if_neg (mt faultWaits_iff.mpr hw))))

end

section
variable (hr : s.start.inReset = false)
include hr

theorem raise_again (hl : isLevel code = true) (hm : (code, inst) ∈ s.faults.levels) : s.raise code inst detail = s :=
  (raise_some hc hp).trans ((if_neg (Bool.eq_false_iff.mp hr)).trans (if_pos (Bool.and_eq_true_iff.mpr ⟨hl, List.contains_iff_mem.mpr hm⟩)))

theorem raise_collects (hm : isLevel code = false ∨ (code, inst) ∉ s.faults.levels) : s.raise code inst detail = s.collect code cls inst detail := by
  refine (raise_some hc hp).trans ((if_neg (Bool.eq_false_iff.mp hr)).trans (if_neg ?_))
  rw [Bool.and_eq_true, List.contains_iff_mem]
  rintro ⟨level, active⟩
  exact hm.elim (fun no => absurd (no.symm.trans level) nofun) (fun no => no active)

end
end

theorem clearFault_reset (h : s.start.inReset = true) :
    s.clearFault code inst = { s with faults := { s.faults with held := s.faults.held.filter (fun h => !(h.1 == code && h.2.1 == inst)) } } := by
  unfold State.clearFault
  exact if_pos h

theorem clearFault_inactive (h : s.start.inReset = false) (hm : (code, inst) ∉ s.faults.levels) : s.clearFault code inst = s := by
  unfold State.clearFault
  exact (if_neg (Bool.eq_false_iff.mp h)).trans (if_neg (mt List.contains_iff_mem.mp hm))

theorem clearFault_active (h : s.start.inReset = false) (hm : (code, inst) ∈ s.faults.levels) : s.clearFault code inst =
    ({ s with faults := { s.faults with
      levels := s.faults.levels.filter (· != (code, inst))
      active := s.faults.active.filter (fun a => !(a.1 == code && a.2.1 == inst)) } } : State).record code ((faultClass code).getD 0) 1 inst 0 0 0 := by
  unfold State.clearFault
  exact (if_neg (Bool.eq_false_iff.mp h)).trans (if_pos (List.contains_iff_mem.mpr hm))

/-! ## Handling and the event log (R491–R494) -/

theorem handling_none (h : s.faults.handling = none) : opHandlingDone s = s ∧ opHandleTimeout s = s := by
  unfold opHandlingDone opHandleTimeout
  rw [h]
  exact ⟨rfl, rfl⟩

theorem opHandleTimeout_some (h : s.faults.handling.map (·.1) = some code) :
    opHandleTimeout s = if s.faults.handledAt + millis s.faultHandleMax < s.tb.lc then s.raise 0x1601 code else s := by
  obtain ⟨k, handled, rfl⟩ := Option.map_eq_some_iff.mp h
  unfold opHandleTimeout
  rw [handled]

theorem endsElsewhere_iff : endsElsewhere code = true ↔ code ∈ [0x0001, 0x0002, 0x0003, 0x0004, 0x0006, 0x0007, 0x0D02] := List.contains_iff_mem

theorem opHandlingDone_some (h : s.faults.handling.map (·.1) = some code) (hv : v = (if bit s.pairYieldMask (code / 256) then opYieldCheck s else s)) :
    opHandlingDone s = if code ∈ [0x0001, 0x0002, 0x0003, 0x0004, 0x0006, 0x0007, 0x0D02] then v else v.endHandling code := by
  obtain ⟨k, handled, rfl⟩ := Option.map_eq_some_iff.mp h
  subst hv
  unfold opHandlingDone
  rw [handled]
  dsimp only
  simp only [endsElsewhere_iff]

/-- The event log moves its records to its ring (R493). -/
def evlogMoves (s : State) : Prop := s.dramReady = true ∧ s.evlogSize ≠ 0 ∧ s.engsRun = true ∧ s.start.agent = true

theorem evlogMoves_iff : evlogMoves s ↔ (s.dramReady && s.evlogSize != 0 && s.engsRun && s.start.agent) = true := by
  unfold evlogMoves
  rw [Bool.and_eq_true, Bool.and_eq_true, Bool.and_eq_true, bne_iff_ne, and_assoc, and_assoc]

theorem opEvlogMove_not (h : ¬ evlogMoves s) : opEvlogMove n s = s := by
  unfold opEvlogMove
  exact if_neg (mt evlogMoves_iff.mpr h)

theorem opEvlogMove_moves (h : evlogMoves s) : opEvlogMove n s = (List.range (min n 256)).foldl (fun s _ => s.moveOne) s := by
  unfold opEvlogMove
  exact if_pos (evlogMoves_iff.mp h)

theorem opEvlogMove_zero (h : evlogMoves s) : opEvlogMove 0 s = s := opEvlogMove_moves h

theorem opEvlogMove_succ (h : evlogMoves s) (hn : n < 256) : opEvlogMove (n + 1) s = (opEvlogMove n s).moveOne := by
  rw [opEvlogMove_moves h, opEvlogMove_moves h, Nat.min_eq_left hn, Nat.min_eq_left (Nat.le_of_lt hn), List.range_succ, List.foldl_append]
  rfl

/-! ## Power-on reset and boot (R386, R499–R507) -/

theorem opPoresetLow_held {b : Bool} (h : s.start.porHeld = true) : opPoresetLow b s = s := by
  unfold opPoresetLow
  exact if_pos h

theorem opPoresetLow_resets {b : Bool} (h : s.start.porHeld = false) : opPoresetLow b s = s.por (if b then 1 else if s.start.sleep then 8 else 2) := by
  unfold opPoresetLow
  exact if_neg (Bool.eq_false_iff.mp h)

section
variable {fall calOk : Bool} {bad : List Nat} {still : List (Nat × Nat)}

/-- A release of the power-on reset begins a boot (R499, R500). -/
def bootsFresh (s : State) : Prop := s.start.porHeld = true ∨
  (s.start.state = .boot ∧ s.start.bootDone = false ∧ s.start.inReset = false ∧ s.bootHalted = false)

theorem bootsFresh_iff : bootsFresh s ↔
    (s.start.porHeld || (s.start.state == .boot && !s.start.bootDone && !s.start.inReset && !s.bootHalted)) = true := by
  unfold bootsFresh
  rw [Bool.or_eq_true, Bool.and_eq_true, Bool.and_eq_true, Bool.and_eq_true, beq_iff_eq, Bool.not_eq_true', Bool.not_eq_true', Bool.not_eq_true',
    and_assoc, and_assoc]

theorem opPorRelease_boots (h : bootsFresh s) :
    opPorRelease fall calOk bad s = ((s.porRelease.drawCloak.readAonLost).bootBundle fall).porBoot calOk bad := by
  unfold opPorRelease
  refine if_neg ?_
  rw [bootsFresh_iff.mp h]
  decide

theorem opPorRelease_not (h : ¬ bootsFresh s) : opPorRelease fall calOk bad s = s := by
  unfold opPorRelease
  refine if_pos ?_
  rw [Bool.not_eq_true', ← Bool.not_eq_true]
  exact mt bootsFresh_iff.mpr h

theorem drawCloak_eq (t : State) : ∃ c, t.drawCloak = { t with freeCount := t.freeCount + 3, vault := { t.vault with cloak := some c } } ∧ c.epoch = false :=
  ⟨⟨_, _, _, false⟩, rfl, rfl⟩

theorem porBoot_halts (h : t.start.haltBundle = true) : t.porBoot calOk bad = (t.startEngines.agentBack).endReset [] := by
  unfold State.porBoot
  exact if_pos h

theorem porBoot_starts (h : t.start.haltBundle = false) (hv : v = (if Config.dramMiB = 0 then (t.readCal calOk).raise 0x1401 else t.readCal calOk)) :
    let alive := if Config.dramMiB = 0 then [(0x1401, noInst)] else []
    t.porBoot calOk bad = if v.vault.latch then ((v.tamperHalt).startEngines.agentBack).endReset alive else v.porStart bad alive := by
  subst hv
  unfold State.porBoot
  exact if_neg (Bool.eq_false_iff.mp h)

section
variable (h : t.bundleValid (t.bundle t.preferB) = true)
include h

theorem bootBundle_preferred : t.bootBundle false = { t with start := { t.start with bundleB := t.preferB } } := by
  unfold State.bootBundle
  exact if_pos (by rw [h]; rfl)

omit h in
theorem not_preferred : ¬ (t.bundleValid (t.bundle t.preferB) && !true) = true := by
  rw [Bool.not_true, Bool.and_false]
  exact Bool.false_ne_true

theorem bootBundle_falls (ho : t.bundleValid (t.bundle (!t.preferB)) = true) :
    t.bootBundle true = ({ t with start := { t.start with bundleB := !t.preferB } } : State).raise 0x1507 (b2n (!t.preferB)) := by
  unfold State.bootBundle
  exact (if_neg not_preferred).trans (if_pos (Bool.and_eq_true_iff.mpr ⟨h, ho⟩))

omit h in
theorem bootBundle_alone (ho : t.bundleValid (t.bundle (!t.preferB)) = false) :
    t.bootBundle true = ({ t with start := { t.start with haltBundle := true } } : State).raise 0x1503 := by
  unfold State.bootBundle
  refine (if_neg not_preferred).trans (if_neg ?_)
  rw [ho, Bool.and_false]
  exact Bool.false_ne_true

end

theorem bootBundle_none (h : t.bundleValid (t.bundle t.preferB) = false) :
    t.bootBundle fall = ({ t with start := { t.start with haltBundle := true } } : State).raise 0x1503 := by
  unfold State.bootBundle
  dsimp only
  rw [h]
  exact (if_neg Bool.false_ne_true).trans (if_neg Bool.false_ne_true)

theorem opEnginesReturn_not (h : s.start.inReset = false) : opEnginesReturn fall calOk bad still s = s := by
  unfold opEnginesReturn
  exact if_pos (by rw [h]; rfl)

section
variable (h : s.start.inReset = true) (ht : s.drawCloak.bootBundle fall = t)
include h ht

theorem opEnginesReturn_reset : opEnginesReturn fall calOk bad still s =
    if t.start.haltBundle then (t.startEngines.agentBack).endReset still
    else
      let s := t.readCal calOk
      if s.f3LimitHit then
        let s := ({ s with start := { s.start with haltF3 := true } } : State).raise 0x1602
        (s.startEngines.agentBack).endReset still
      else if s.vault.latch then ((s.tamperHalt).startEngines.agentBack).endReset still
      else
        let s := (s.unseal bad).startEngines
        let s := { s with ntp := { s.ntp with current := s.ntsKeyCurrent } }
        let s := (List.range 4).foldl (fun s k => opPtpReconfig k s) s
        let s := (List.range 2).foldl State.startCan s
        let s := (s.startRefs.resumeServo).startGnss
        let s := { s with pair := { s.pair with silA := s.tb.lc, silB := s.tb.lc, silL := s.tb.lc } }
        (s.agentBack.bootComplete).endReset still := by
  have reset : ¬ (!s.start.inReset) = true := by
    rw [h]
    decide
  subst ht
  unfold opEnginesReturn
  rw [if_neg reset]

theorem opEnginesReturn_halts (hb : t.start.haltBundle = true) :
    opEnginesReturn fall calOk bad still s = (t.startEngines.agentBack).endReset still :=
  (opEnginesReturn_reset h ht).trans (if_pos hb)

section
variable (hb : t.start.haltBundle = false) (hv : t.readCal calOk = v)
include hb hv

theorem opEnginesReturn_f3 (hf : v.f3LimitHit = true) : opEnginesReturn fall calOk bad still s =
    (((({ v with start := { v.start with haltF3 := true } } : State).raise 0x1602).startEngines.agentBack).endReset still) := by
  subst hv
  exact (opEnginesReturn_reset h ht).trans ((if_neg (Bool.eq_false_iff.mp hb)).trans (if_pos hf))

theorem opEnginesReturn_latched (hf : v.f3LimitHit = false) (hl : v.vault.latch = true) :
    opEnginesReturn fall calOk bad still s = ((v.tamperHalt).startEngines.agentBack).endReset still := by
  subst hv
  exact (opEnginesReturn_reset h ht).trans ((if_neg (Bool.eq_false_iff.mp hb)).trans ((if_neg (Bool.eq_false_iff.mp hf)).trans (if_pos hl)))

theorem opEnginesReturn_starts (hf : v.f3LimitHit = false) (hl : v.vault.latch = false) :
    let a := (v.unseal bad).startEngines
    let d := (List.range 2).foldl State.startCan ((List.range 4).foldl (fun y k => opPtpReconfig k y) { a with ntp := { a.ntp with current := a.ntsKeyCurrent } })
    let e := (d.startRefs.resumeServo).startGnss
    opEnginesReturn fall calOk bad still s =
      (({ e with pair := { e.pair with silA := e.tb.lc, silB := e.tb.lc, silL := e.tb.lc } } : State).agentBack.bootComplete).endReset still := by
  intro a d e
  subst hv
  rw [opEnginesReturn_reset h ht, if_neg (Bool.eq_false_iff.mp hb)]
  dsimp only
  rw [if_neg (Bool.eq_false_iff.mp hf), if_neg (Bool.eq_false_iff.mp hl)]

end
end
end

end

end Sys2Proof.Proofs
end

section
/-!
PROOFS. DRAM, start-up timers, flash and calibration (24_startup_reset_calibration.md): R505–R516, R542; and the obligation on faults and start-up.
-/
namespace Sys2Proof.Proofs
open Sys2Proof Sys2Proof.Machine

section
variable {s t : State} {b : Bool} {n : Nat}

/-! ## DRAM (R505, R542) -/

theorem opDramTrained_not (h : s.start.dramStatus ≠ 1) : opDramTrained b s = s := by
  unfold opDramTrained
  exact if_pos (bne_iff_ne.mpr h)

section
variable (h : s.start.dramStatus = 1)
include h

theorem opDramTrained_works : opDramTrained true s = (({ s with
    start := { s.start with dramStatus := 2, dramSize := Config.dramMiB, ringZeroDue := false, paddockWipe := s.paddockSize != 0 }
    ho := { s.ho with ring := [], ringPut := 0 }
    engs := { s.engs with dram := memWipe s.engs.dram 0 1382400 } } : State).clearFault 0x1401).tackRelease := by
  unfold opDramTrained
  exact (if_neg (not_bne h)).trans (if_pos rfl)

theorem opDramTrained_fails : opDramTrained false s =
    ((({ s with start := { s.start with dramStatus := 3 } } : State).raise 0x1505).raise 0x1401).tackHold := by
  unfold opDramTrained
  exact (if_neg (not_bne h)).trans (if_neg Bool.false_ne_true)

end

theorem opPaddockWiped_wipes (h : s.start.paddockWipe = true) (hd : s.start.dramStatus = 2) :
    opPaddockWiped s = ({ s with start := { s.start with paddockWipe := false } } : State).wipePaddock := by
  unfold opPaddockWiped
  exact if_pos (by rw [h, hd]; rfl)

theorem opPaddockWiped_not (h : s.start.paddockWipe = false ∨ s.start.dramStatus ≠ 2) : opPaddockWiped s = s := by
  unfold opPaddockWiped
  refine if_neg ?_
  rw [Bool.and_eq_true, decide_eq_true_eq]
  rintro ⟨wipe, ready⟩
  exact h.elim (fun no => absurd (no.symm.trans wipe) nofun) (fun no => no ready)

/-! ## Start-up timers (R506, R36) -/

/-- The part has warmed for longer than it may (R506). -/
def warmingLate (s : State) : Prop := s.start.state = .warming ∧ s.start.times.getD 1 0 + 1000 * s.start.warmMax ≤ s.ms

theorem warmingLate_iff : warmingLate s ↔ (s.start.state == .warming && decide (s.start.times.getD 1 0 + 1000 * s.start.warmMax ≤ s.ms)) = true := by
  unfold warmingLate
  rw [Bool.and_eq_true, beq_iff_eq, decide_eq_true_eq]

theorem opWarmMax_late (h : warmingLate s) : opWarmMax s = s.leaveWarming.raise 0x1504 := by
  unfold opWarmMax
  exact if_pos (warmingLate_iff.mp h)

theorem opWarmMax_not (h : ¬ warmingLate s) : opWarmMax s = s := by
  unfold opWarmMax
  exact if_neg (mt warmingLate_iff.mpr h)

theorem opAgentWatchdog_down (h : s.agentUp = false) : opAgentWatchdog s = s := by
  unfold opAgentWatchdog
  exact if_pos (by rw [h]; rfl)

theorem opAgentWatchdog_raises (h : s.agentUp = true) (ht : s.raise 0x1101 = t) :
    opAgentWatchdog s = if t.start.inReset then { t with start := { t.start with cause := 6 } } else t := by
  subst ht
  unfold opAgentWatchdog
  exact if_neg (by rw [h]; decide)

/-! ## Flash and calibration (R508–R516) -/

theorem opFwErased_not (h : s.start.fwState ≠ 1) : opFwErased b s = s := by
  unfold opFwErased
  exact if_pos (bne_iff_ne.mpr h)

theorem opFwErased_ends (h : s.start.fwState = 1) : opFwErased b s =
    if b then { s with start := { s.start with fwState := 2, fwErased := true } } else { s with start := { s.start with fwState := 6 } } := by
  unfold opFwErased
  exact if_neg (not_bne h)

theorem opFwCommitted_not (h : s.start.fwState ≠ 3) : opFwCommitted n s = s := by
  unfold opFwCommitted
  exact if_pos (bne_iff_ne.mpr h)

section
variable (h : s.start.fwState = 3)
include h

theorem opFwCommitted_stands : opFwCommitted 0 s =
    ({ s with start := { s.start with fwPending := none, fwErased := false, fwState := 4 } } : State).putIdle s.start.fwPending := by
  unfold opFwCommitted
  exact (if_neg (not_bne h)).trans (if_pos rfl)

theorem opFwCommitted_fails (hn : n ≠ 0) : opFwCommitted n s =
    { s with start := { s.start with fwPending := none, fwErased := false, fwState := if n = 1 then 5 else 6 } } := by
  unfold opFwCommitted
  refine (if_neg (not_bne h)).trans ((if_neg hn).trans ?_)
  rw [if_neg hn]

end

theorem opCalDone_none (h : s.cal.commit = none) : opCalDone b s = s := by
  unfold opCalDone
  rw [h]

theorem opCalDone_some {l : List CalEntry} (h : s.cal.commit = some (l, n)) : opCalDone b s =
    if b then { s with cal := { s.cal with commit := none, entries := l, gen := bump s.cal.gen, raises := [] } }
    else ({ s with cal := { s.cal with commit := none } } : State).raise 0x1502 n := by
  unfold opCalDone
  rw [h]

theorem opCalStagingTimeout_eq : opCalStagingTimeout s = if s.cal.stagingTime + secs 600 ≤ s.tb.lc then { s with cal := { s.cal with staging := [] } } else s := by
  unfold opCalStagingTimeout
  rfl

end

/-- Settles O60, by the equation of each event in each of its cases. -/
theorem faultsAndStartup : Obligations.FaultsAndStartup := by
  unfold Obligations.FaultsAndStartup
  intro s t v now code inst detail n cls b fall calOk bad still l u
  refine ⟨fun h => congrArg Host.Outcome.next (raise_none h),
    fun hc hp => ⟨fun hr h3 hv => congrArg Host.Outcome.next (raise_latches hc hp hr h3 hv),
      fun hr h3 => ⟨fun hw => congrArg Host.Outcome.next (raise_waiting hc hp hr h3 hw), fun hw => congrArg Host.Outcome.next (raise_waits hc hp hr h3 hw)⟩,
      fun hr hl hm => congrArg Host.Outcome.next (raise_again hc hp hr hl hm), fun hr hm => congrArg Host.Outcome.next (raise_collects hc hp hr hm)⟩,
    fun h => congrArg Host.Outcome.next (clearFault_reset h), fun h hm => congrArg Host.Outcome.next (clearFault_inactive h hm),
    fun h hm => congrArg Host.Outcome.next (clearFault_active h hm),
    fun h => ?unhandled, fun h => ⟨fun hl => congrArg Host.Outcome.next ((opHandleTimeout_some h).trans (if_pos hl)),
      fun hl => congrArg Host.Outcome.next ((opHandleTimeout_some h).trans (if_neg (Nat.not_lt.mpr hl))),
      fun hv => congrArg Host.Outcome.next (opHandlingDone_some h hv)⟩,
    ⟨fun h => congrArg Host.Outcome.next (opEvlogMove_not h), fun h => ⟨congrArg Host.Outcome.next (opEvlogMove_zero h), fun hn hv => ?moves⟩⟩,
    fun h => congrArg Host.Outcome.next (opPoresetLow_held h),
    fun h => ⟨_, congrArg Host.Outcome.next (opPoresetLow_resets h), rfl, rfl, rfl, rfl, rfl, rfl, rfl, rfl, rfl, rfl, rfl, rfl, rfl, rfl, rfl, rfl, rfl⟩,
    ⟨fun h => ?boots, fun h => ?stays⟩,
    drawCloak_eq t, porBoot_halts, porBoot_starts, bootBundle_preferred, fun h => ⟨bootBundle_falls h, bootBundle_alone⟩, bootBundle_none,
    fun h => ?returned, fun h ht => ⟨fun hb => ?halts, fun hb hv hf => ?limit, fun hb hv hf hl => ?latched, fun hb hv hf hl => ?starts⟩,
    fun h => congrArg Host.Outcome.next (opDramTrained_not h),
    fun h => ⟨congrArg Host.Outcome.next (opDramTrained_works h), congrArg Host.Outcome.next (opDramTrained_fails h)⟩, rfl,
    fun h hd => congrArg Host.Outcome.next (opPaddockWiped_wipes h hd), fun h => congrArg Host.Outcome.next (opPaddockWiped_not h),
    ⟨fun h => congrArg Host.Outcome.next (opWarmMax_late h), fun h => congrArg Host.Outcome.next (opWarmMax_not h)⟩,
    fun h => congrArg Host.Outcome.next (opAgentWatchdog_down h), fun h ht => congrArg Host.Outcome.next (opAgentWatchdog_raises h ht),
    fun h => ⟨congrArg Host.Outcome.next ((opFwErased_ends h).trans (if_pos rfl)), congrArg Host.Outcome.next ((opFwErased_ends h).trans (if_neg Bool.false_ne_true))⟩,
    fun h => congrArg Host.Outcome.next (opFwErased_not h),
    fun h => ⟨congrArg Host.Outcome.next (opFwCommitted_stands h), congrArg Host.Outcome.next (opFwCommitted_fails h Nat.one_ne_zero), fun hn => ?failed⟩,
    fun h => congrArg Host.Outcome.next (opFwCommitted_not h), fun h => congrArg Host.Outcome.next (opCalDone_none h),
    fun h => ⟨congrArg Host.Outcome.next ((opCalDone_some h).trans (if_pos rfl)), congrArg Host.Outcome.next ((opCalDone_some h).trans (if_neg Bool.false_ne_true))⟩,
    fun h => congrArg Host.Outcome.next (opCalStagingTimeout_eq.trans (if_pos h)),
    fun h => congrArg Host.Outcome.next (opCalStagingTimeout_eq.trans (if_neg (Nat.not_le.mpr h)))⟩
  case unhandled =>
    obtain ⟨done, timeout⟩ := handling_none h
    exact ⟨congrArg Host.Outcome.next done, congrArg Host.Outcome.next timeout⟩
  case moves =>
    have moved : opEvlogMove n (s.atTime now) = v := Host.Outcome.next.inj hv
    exact congrArg Host.Outcome.next ((opEvlogMove_succ h hn).trans (congrArg State.moveOne moved))
  case boots => exact congrArg (fun r : State => Host.Outcome.next r.revalid) (opPorRelease_boots h)
  case stays => exact congrArg (fun r : State => Host.Outcome.next r.revalid) (opPorRelease_not h)
  case returned => exact congrArg (fun r : State => Host.Outcome.next r.revalid) (opEnginesReturn_not h)
  case halts => exact congrArg (fun r : State => Host.Outcome.next r.revalid) (opEnginesReturn_halts h ht hb)
  case limit => exact congrArg (fun r : State => Host.Outcome.next r.revalid) (opEnginesReturn_f3 h ht hb hv hf)
  case latched => exact congrArg (fun r : State => Host.Outcome.next r.revalid) (opEnginesReturn_latched h ht hb hv hf hl)
  case starts => exact congrArg (fun r : State => Host.Outcome.next r.revalid) (opEnginesReturn_starts h ht hb hv hf hl)
  case failed =>
    have ends := opFwCommitted_fails (n := n) h (by omega)
    rw [if_neg (by omega)] at ends
    exact congrArg Host.Outcome.next ends

end Sys2Proof.Proofs
end
